-- ==== Sys2Proof/Word.lean ====
section
/-!
DEFINITION. Word.lean: the word type of the registers and the plainest numbers of the block.
-/
namespace Sys2Proof

/-- A 64-bit register or data word (R5). -/
abbrev Word := BitVec 64

/-- A byte. -/
abbrev Byte := BitVec 8

/-- A global ID: [17:8] instance number, [7:0] port ("Numbers, units and cycles" of the scope chapter). -/
abbrev Gid := BitVec 18

end Sys2Proof
end

