-- ==== Sys2Proof/Config.lean ====
section
/-!
DEFINITION. Config.lean: what one instance's generator or surroundings fix and the spec leaves open, and the free
values: constants without a body, of which nothing can be proved but what their types say.
-/
namespace Sys2Proof.Config

/-- The k-th free value of a run: the value of something the spec says is undefined, drawn when it is needed and
numbered by the plain counter `State.freeCtr`. -/
opaque freeValue : Nat → Word

/-- What the generator put into PROP of a station, before it is brought into the range the spec states. -/
opaque propRaw : Nat → Nat

/-- R21: PROP of station `s`, between 4 and 18 fclk. -/
def prop (s : Nat) : Nat := 4 + propRaw s % 15

/-- R430: the strap TAP_MFR. -/
opaque tapMfr : BitVec 11

/-- R18: the check bits that the SEC-DED code of a meridian message gives its bits [87:0]. -/
opaque merCheck : BitVec 88 → BitVec 8

/-- R38: the check bits CECC over sideband [7:0] and [47:44]. -/
opaque cecc : BitVec 12 → BitVec 6

/-- R38: the check bits DECC over the payload and sideband [43:8]. -/
opaque decc : BitVec 256 → BitVec 36 → BitVec 10

end Sys2Proof.Config
end

