-- ==== Sys2Proof/Machine/Packet.lean ====
section
/-!
DEFINITION. Machine/Packet.lean: the wire formats of the block: flits (R37 to R39), the header unit (R43), the commands
(R45), the error codes (R46), the end-to-end CRC (R48 to R50), and how a packet becomes flits and flits a packet.
-/
namespace Sys2Proof.Machine

/-- R43: the header unit, field by field. -/
structure Hdr where
  route : BitVec 64 := 0
  hopptr : BitVec 4 := 0
  trav : BitVec 2 := 0
  dest : Gid := 0
  src : Gid := 0
  cmd : BitVec 6 := 0
  cls : BitVec 3 := 0
  len : BitVec 5 := 0
  tag : BitVec 12 := 0
  region : BitVec 2 := 0
  priv : BitVec 2 := 0
  status : BitVec 4 := 0
  stake : BitVec 3 := 0
  tagged : BitVec 1 := 0
  bcount : BitVec 10 := 0
  scope : BitVec 2 := 0
  bkind : BitVec 1 := 0
  rsvd : BitVec 3 := 0
  address : BitVec 64 := 0
  stamp : BitVec 32 := 0
  deriving DecidableEq, Repr

/-- The 256 bits of a header unit (R43). -/
def Hdr.bits (h : Hdr) : BitVec 256 :=
  h.stamp ++ h.address ++ h.rsvd ++ h.bkind ++ h.scope ++ h.bcount ++ h.tagged ++ h.stake ++ h.status ++ h.priv ++
    h.region ++ h.tag ++ h.len ++ h.cls ++ h.cmd ++ h.src ++ h.dest ++ h.trav ++ h.hopptr ++ h.route

/-- The header read from 256 bits (R43). -/
def Hdr.ofBits (x : BitVec 256) : Hdr where
  route := x.extractLsb' 0 64
  hopptr := x.extractLsb' 64 4
  trav := x.extractLsb' 68 2
  dest := x.extractLsb' 70 18
  src := x.extractLsb' 88 18
  cmd := x.extractLsb' 106 6
  cls := x.extractLsb' 112 3
  len := x.extractLsb' 115 5
  tag := x.extractLsb' 120 12
  region := x.extractLsb' 132 2
  priv := x.extractLsb' 134 2
  status := x.extractLsb' 136 4
  stake := x.extractLsb' 140 3
  tagged := x.extractLsb' 143 1
  bcount := x.extractLsb' 144 10
  scope := x.extractLsb' 154 2
  bkind := x.extractLsb' 156 1
  rsvd := x.extractLsb' 157 3
  address := x.extractLsb' 160 64
  stamp := x.extractLsb' 224 32

/-- Hop `i` of a route (R43). -/
def hopOf (route : BitVec 64) (i : Nat) : Nat := route.toNat / 2 ^ (4 * i) % 16

/-! ### Commands (R45) -/
namespace Cmd
abbrev RD : BitVec 6 := 0x00
abbrev RDX : BitVec 6 := 0x01
abbrev WR : BitVec 6 := 0x02
abbrev WRP : BitVec 6 := 0x03
abbrev WRM : BitVec 6 := 0x04
abbrev WRX : BitVec 6 := 0x05
abbrev STW : BitVec 6 := 0x06
abbrev SPUT : BitVec 6 := 0x07
abbrev BAR : BitVec 6 := 0x08
abbrev MSG : BitVec 6 := 0x10
abbrev EVM : BitVec 6 := 0x11
abbrev CRD : BitVec 6 := 0x20
abbrev CWR : BitVec 6 := 0x21
abbrev RDR : BitVec 6 := 0x30
abbrev WRR : BitVec 6 := 0x31
abbrev WRXF : BitVec 6 := 0x32
abbrev STR : BitVec 6 := 0x33
abbrev BRR : BitVec 6 := 0x34
abbrev MSR : BitVec 6 := 0x35
abbrev CRR : BitVec 6 := 0x38
abbrev CWA : BitVec 6 := 0x39

/-- The response R45 gives for a command; none for a posted packet, a response or a reserved code. -/
def response (c : BitVec 6) : Option (BitVec 6) :=
  if c = RD ∨ c = RDX then some RDR
  else if c = WR ∨ c = WRX then some WRR
  else if c = STW then some STR
  else if c = BAR then some BRR
  else if c = MSG then some MSR
  else if c = CRD then some CRR
  else if c = CWR then some CWA
  else none

/-- A response command of R45. -/
def isResponse (c : BitVec 6) : Bool :=
  c = RDR || c = WRR || c = WRXF || c = STR || c = BRR || c = MSR || c = CRR || c = CWA

/-- A request that expects a response (R45, R81). -/
def isNonPosted (c : BitVec 6) : Bool := (response c).isSome

/-- The posted packets of R283: WRP, WRM, SPUT and EVM. -/
def isPosted (c : BitVec 6) : Bool := c = WRP || c = WRM || c = SPUT || c = EVM

/-- Whether a response command answers a request command (R45); WRX is answered WRR or WRXF. -/
def answers (req rsp : BitVec 6) : Bool :=
  response req = some rsp || (req = WRX && rsp = WRXF)
end Cmd

/-- R43, R44: the fields that are 0 in a request hold 0: the reserved bits, STATUS, STAKE but in an STW, SCOPE and BKIND but
in a BAR. -/
def Hdr.clean (h : Hdr) : Bool :=
  h.rsvd = 0 && h.status = 0 && (h.stake = 0 || h.cmd = Cmd.STW) && ((h.scope = 0 && h.bkind = 0) || h.cmd = Cmd.BAR)

/-- R47: the STATUS that an initiator takes from a response: a reserved one is TGTERR. -/
def endStatus (c : BitVec 4) : BitVec 4 := if 0xB ≤ c.toNat then 1 else c

/-- R51: VC types. -/
inductive VcType where
  | req | rsp | msg | mgt
  deriving DecidableEq, Repr

/-- R45: the VC type a command travels on. -/
def vcTypeOf (c : BitVec 6) : VcType :=
  if c = Cmd.CRD ∨ c = Cmd.CWR ∨ c = Cmd.CRR ∨ c = Cmd.CWA then .mgt
  else if c = Cmd.MSG ∨ c = Cmd.EVM then .msg
  else if Cmd.isResponse c then .rsp
  else .req

/-- R51: the number of a VC type's A-class virtual channel. -/
def VcType.vcA : VcType → Nat
  | .req => 0
  | .rsp => 2
  | .msg => 4
  | .mgt => 6

/-- The VC type of a virtual channel number (R51). -/
def vcTypeOfVc (v : Nat) : VcType :=
  if v < 2 then .req else if v < 4 then .rsp else if v < 6 then .msg else .mgt

/-! ### Error codes (R46) -/
namespace Code
abbrev OK : BitVec 4 := 0x0
abbrev TGTERR : BitVec 4 := 0x1
abbrev DEAD : BitVec 4 := 0x2
abbrev PDOWN : BitVec 4 := 0x3
abbrev NOROUTE : BitVec 4 := 0x4
abbrev CRC : BitVec 4 := 0x5
abbrev TIMEOUT : BitVec 4 := 0x6
abbrev DENY : BitVec 4 := 0x7
abbrev LATE : BitVec 4 := 0x8
abbrev RETRY_PWR : BitVec 4 := 0x9
abbrev EXNACK : BitVec 4 := 0xA
end Code

/-! ### CRC-32C (R48) -/

/-- One bit of the reflected CRC-32C division. -/
def crcBit (c : BitVec 32) : BitVec 32 :=
  if c.getLsbD 0 then (c >>> 1) ^^^ 0x82F63B78#32 else c >>> 1

/-- One byte taken into the CRC. -/
def crcByte (c : BitVec 32) (b : Byte) : BitVec 32 :=
  let c0 := c ^^^ b.setWidth 32
  crcBit (crcBit (crcBit (crcBit (crcBit (crcBit (crcBit (crcBit c0)))))))

/-- CRC-32C over bytes (R48). -/
def crc32c (bs : List Byte) : BitVec 32 := bs.foldl crcByte 0xFFFFFFFF#32 ^^^ 0xFFFFFFFF#32

/-- The bytes of a 256-bit unit, byte k being bits [8k + 7:8k] (R49). -/
def unitBytes (x : BitVec 256) : List Byte := (List.range 32).map (fun k => x.extractLsb' (8 * k) 8)

/-- The bytes of a 64-bit word, least significant first (R4). -/
def wordBytes (x : Word) : List Byte := (List.range 8).map (fun k => x.extractLsb' (8 * k) 8)

/-- The number whose bytes, least significant first, are given (R4). -/
def bytesNat : List Byte → Nat
  | [] => 0
  | b :: bs => b.toNat + 256 * bytesNat bs

/-- Bytes packed into one unit, missing bytes read 0. -/
def unitOfBytes (bs : List Byte) : BitVec 256 := BitVec.ofNat 256 (bytesNat (bs.take 32))

/-- Bytes packed into `n` successive units. -/
def unitsOfBytes : Nat → List Byte → List (BitVec 256)
  | 0, _ => []
  | n + 1, bs => unitOfBytes bs :: unitsOfBytes n (bs.drop 32)

/-- A best-effort packet as its consumer sees it: header, data units, the E2E_CRC received and whether any flit had
POISON set. -/
structure Pkt where
  h : Hdr
  units : List (BitVec 256) := []
  crc : BitVec 32 := 0
  poison : Bool := false
  deriving DecidableEq, Repr

/-- R49: the end-to-end CRC of a header and data units, HOPPTR taken as 0. -/
def e2eCrc (h : Hdr) (us : List (BitVec 256)) : BitVec 32 :=
  crc32c (unitBytes { h with hopptr := 0 }.bits ++ us.flatMap unitBytes)

/-- A packet as its builder sends it: LEN from its data units and the CRC of R49. -/
def Pkt.seal (h : Hdr) (us : List (BitVec 256)) : Pkt :=
  let h' := { h with len := BitVec.ofNat 5 us.length }
  { h := h', units := us, crc := e2eCrc h' us, poison := false }

/-- R50: the packet fails its end-to-end check. -/
def Pkt.fails (p : Pkt) : Bool :=
  p.poison || decide (p.units.length ≠ p.h.len.toNat) || decide (p.crc ≠ e2eCrc p.h p.units)

/-- The data bytes of a packet's units. -/
def Pkt.bytes (p : Pkt) : List Byte := p.units.flatMap unitBytes

/-- R44: number of data units for a byte range. -/
def lenFor (addr bcount : Nat) : Nat := (addr % 32 + bcount + 31) / 32

/-- R37: flit types a best-effort flit can have. -/
inductive FType where
  | head | body | tail | headTail
  deriving DecidableEq, Repr

/-- A best-effort flit (R38), without its link codes, whose outcome the receiving command brings. `rsv` are sideband
[43:40], 0 but in a corrupt flit forwarded as received (R41). -/
structure Flit where
  ft : FType
  vc : Nat
  poison : Bool := false
  e2e : BitVec 32 := 0
  rsv : BitVec 4 := 0
  payload : BitVec 256
  deriving DecidableEq, Repr

/-- The flit ends its packet. -/
def Flit.isTail (f : Flit) : Bool := f.ft = .tail || f.ft = .headTail

/-- The flit begins a packet. -/
def Flit.isHead (f : Flit) : Bool := f.ft = .head || f.ft = .headTail

/-- What has befallen the bits of a G flit that DECC covers since its source (R40): nothing, the flip of one bit of the
320, or an error that DECC cannot correct. -/
inductive GErr where
  | none
  | sbe (bit : Fin 320)
  | due
  deriving DecidableEq, Repr

/-- A further single-bit error on a G flit: the same bit flipped twice is right again, two bits are beyond correction. -/
def GErr.flip (e : GErr) (b : Fin 320) : GErr :=
  match e with
  | .none => .sbe b
  | .sbe c => if b = c then .none else .due
  | .due => .due

/-- A guaranteed flit (R39). The fields are those its source gave it, or, beyond correction, those last received; `err`
says what has befallen them on the way. -/
structure GFlit where
  flags : BitVec 4
  chain : BitVec 14
  seq : BitVec 6
  stamp : BitVec 16
  payload : BitVec 256
  err : GErr := .none
  deriving DecidableEq, Repr

/-- The bits [43:8] of a G flit's chain header (R39). -/
def GFlit.side (g : GFlit) : BitVec 36 := g.stamp ++ g.seq ++ g.chain

/-- The flit with its payload and chain header bits [43:8] as received, beyond correction (R40). -/
def GFlit.corrupt (g : GFlit) (payload : BitVec 256) (side : BitVec 36) : GFlit :=
  { g with payload := payload, chain := side.extractLsb' 0 14, seq := side.extractLsb' 14 6,
           stamp := side.extractLsb' 20 16, err := .due }

/-- What one cycle of a link direction carries, with its credit return (R37, R38, R39). -/
inductive Content where
  | idle
  | be (f : Flit)
  | g (f : GFlit)
  | resync
  deriving DecidableEq, Repr

/-- One cycle's content of a link direction and the VC whose credit it returns. -/
structure Wire where
  content : Content
  cret : Option Nat := none
  deriving DecidableEq, Repr

/-! ### The bits of a flit (R35 to R39) -/

/-- R37: the code of a flit type. -/
def FType.code : FType → BitVec 4
  | .head => 0x1
  | .body => 0x2
  | .tail => 0x3
  | .headTail => 0x4

/-- R37: FTYPE of what a cycle carries. -/
def Content.ftype : Content → BitVec 4
  | .idle => 0x0
  | .be f => f.ft.code
  | .g _ => 0x5
  | .resync => 0x6

/-- R37: what an FTYPE names; none for a reserved code. -/
inductive FName where
  | idle | be (t : FType) | g | resync
  deriving DecidableEq, Repr

/-- R37: the flit type a code names. -/
def ftypeOf (c : BitVec 4) : Option FName :=
  match c.toNat with
  | 0 => some .idle
  | 1 => some (.be .head)
  | 2 => some (.be .body)
  | 3 => some (.be .tail)
  | 4 => some (.be .headTail)
  | 5 => some .g
  | 6 => some .resync
  | _ => none

/-- R38: CRET, sideband [47:44]. -/
def cretBits : Option Nat → BitVec 4
  | none => 0
  | some v => BitVec.ofNat 4 (8 + v % 8)

/-- The VC that a CRET field returns. -/
def cretOf (x : BitVec 4) : Option Nat := if x.toNat < 8 then none else some (x.toNat - 8)

/-- Sideband [7:0]: FTYPE with VC and POISON (R38), or with FLAGS (R39). -/
def Wire.low (w : Wire) : BitVec 8 :=
  match w.content with
  | .be f => BitVec.ofBool f.poison ++ BitVec.ofNat 3 f.vc ++ f.ft.code
  | .g g => g.flags ++ (0x5 : BitVec 4)
  | c => (0 : BitVec 4) ++ c.ftype

/-- Sideband [43:8]: E2E_CRC and the reserved bits (R38, R49: CRC bit 0 is sideband bit 8), or the chain header (R39). -/
def Wire.side (w : Wire) : BitVec 36 :=
  match w.content with
  | .be f => f.rsv ++ f.e2e
  | .g g => g.side
  | _ => 0

/-- R37: payload [255:0]. -/
def Wire.payload (w : Wire) : BitVec 256 :=
  match w.content with
  | .be f => f.payload
  | .g g => g.payload
  | _ => 0

/-- R38, R39: the 64-bit sideband, CECC over [7:0] and [47:44], DECC over the payload and [43:8]. -/
def Wire.sideband (w : Wire) : BitVec 64 :=
  Config.decc w.payload w.side ++ Config.cecc (cretBits w.cret ++ w.low) ++ cretBits w.cret ++ w.side ++ w.low

/-- R35: the 320 bits of a flit as its builder drives them: payload [255:0], sideband at [319:256]. -/
def Wire.built (w : Wire) : BitVec 320 := w.sideband ++ w.payload

/-- R40: the 320 bits on a link; no station mends a G flit on its way. -/
def Wire.bits (w : Wire) : BitVec 320 :=
  match w.content with
  | .g g =>
    match g.err with
    | .sbe b => w.built ^^^ BitVec.twoPow 320 b.val
    | _ => w.built
  | _ => w.built

/-- The flit read from 320 bits that its codes find right (R37 to R39); none for a reserved FTYPE. -/
def Wire.ofBits (x : BitVec 320) : Option Wire :=
  let cret := cretOf (x.extractLsb' 300 4)
  let p := x.extractLsb' 0 256
  match ftypeOf (x.extractLsb' 256 4) with
  | none => none
  | some .idle => some ⟨.idle, cret⟩
  | some .resync => some ⟨.resync, cret⟩
  | some (.be t) =>
    some ⟨.be { ft := t, vc := (x.extractLsb' 260 3).toNat, poison := x.getLsbD 263, e2e := x.extractLsb' 264 32,
                rsv := x.extractLsb' 296 4, payload := p }, cret⟩
  | some .g =>
    some ⟨.g { flags := x.extractLsb' 260 4, chain := x.extractLsb' 264 14, seq := x.extractLsb' 278 6,
               stamp := x.extractLsb' 284 16, payload := p }, cret⟩

/-! ### Lanes (R35, R36) -/

/-- The good physical lanes of a direction in rising order, from its set of failed ones. -/
def goodLanes (failed : Nat) : List Nat := (List.range 22).filter (fun l => !failed.testBit l)

/-- R36: the physical lanes in use: 20 at full rate, 10 at half rate, none when retired. -/
def usedLanes (failed : Nat) : List Nat :=
  let g := goodLanes failed
  if 20 ≤ g.length then g.take 20 else if 10 ≤ g.length then g.take 10 else []

/-- Group `k` of 16 bits of a flit. -/
def lane16 (x : BitVec 320) (k : Nat) : BitVec 16 := x.extractLsb' (16 * k) 16

/-- R35, R36: what each physical lane carries of a flit, cycle by cycle: at full rate one cycle of 20 lanes, at half rate
bits [159:0] and then bits [319:160] on 10 lanes. -/
def laneCycles (failed : Nat) (x : BitVec 320) : List (List (Nat × BitVec 16)) :=
  let u := usedLanes failed
  if u.length = 20 then [u.zipIdx.map (fun e => (e.1, lane16 x e.2))]
  else if u.length = 10 then [u.zipIdx.map (fun e => (e.1, lane16 x e.2)), u.zipIdx.map (fun e => (e.1, lane16 x (10 + e.2)))]
  else []

/-- The flit a receiver reads from its lanes in the cycles of one flit. -/
def ofLanes (cs : List (List (Nat × BitVec 16))) : BitVec 320 :=
  BitVec.ofNat 320 (cs.flatten.zipIdx.map (fun e => e.1.2.toNat * 2 ^ (16 * e.2))).sum

/-- R36: the physical lane that carries a bit of a flit. -/
def laneOfBit (failed b : Nat) : Nat :=
  let u := usedLanes failed
  (u[if u.length = 20 then b / 16 else b / 16 % 10]?).getD 0

/-- The data flits of a packet. -/
def dataFlits (vc : Nat) (poison : Bool) (crc : BitVec 32) : List (BitVec 256) → List Flit
  | [] => []
  | [u] => [{ ft := .tail, vc := vc, poison := poison, e2e := crc, payload := u }]
  | u :: us => { ft := .body, vc := vc, poison := poison, payload := u } :: dataFlits vc poison crc us

/-- The flits of a packet on virtual channel `vc` (R38, R43, R49). -/
def Pkt.flits (p : Pkt) (vc : Nat) : List Flit :=
  match p.units with
  | [] => [{ ft := .headTail, vc := vc, poison := p.poison, e2e := p.crc, payload := p.h.bits }]
  | us => { ft := .head, vc := vc, poison := p.poison, payload := p.h.bits } :: dataFlits vc p.poison p.crc us

/-- The packet a consumer puts together from its flits in order; the last flit carries the CRC. -/
def Pkt.ofFlits (fs : List Flit) : Pkt :=
  match fs with
  | [] => { h := {} }
  | f :: rest =>
    { h := Hdr.ofBits f.payload
      units := rest.map (·.payload)
      crc := (fs.getLast?.map (·.e2e)).getD 0
      poison := fs.any (·.poison) }

/-- R44: the response to a request: TAG, CLASS, REGION, BCOUNT and ADDRESS are copied; SRC and DEST change places. -/
def respHdr (req : Hdr) (me : Gid) (cmd : BitVec 6) (status : BitVec 4) (trav : BitVec 2) (priv : BitVec 2)
    (route : BitVec 64) (stamp : BitVec 32) : Hdr :=
  { route := route, trav := trav, dest := req.src, src := me, cmd := cmd, cls := req.cls, tag := req.tag,
    region := req.region, priv := priv, status := status, bcount := req.bcount, address := req.address,
    stamp := stamp }

end Sys2Proof.Machine
end

