-- ==== Sys2Proof/Syntax.lean ====
section
/-!
DEFINITION. Syntax.lean: the commands of the block: the operand types and the ONE inductive of commands, a constructor
per row of the spec's opcode table. A command stands for one operation or event of the spec; its operands say which
block, port, set or channel it concerns and what the surroundings bring to it (a beat of a unit, a value on a pin, the
outcome of a link code).
-/
namespace Sys2Proof
open Sys2Proof.Machine

/-- An endpoint port P0 to P143. -/
abbrev Port := Fin 144
/-- A station 0 to 35. -/
abbrev Stn := Fin 36
/-- A federation port F0 to F11. -/
abbrev FedP := Fin 12
/-- A network port 0 to 5 of a station (R34). -/
abbrev LinkPort := Fin 6
/-- A port 0 to 11 of a station (R34). -/
abbrev InPort := Fin 12
/-- A stake set 0 to 7 (R128). -/
abbrev SetId := Fin 8
/-- A mailbox channel (R228). -/
abbrev Chan := Fin 128
/-- A command pair 0 to 7 (R230). -/
abbrev Pair := Fin 8
/-- A meridian receiver by block index (R129): NIs, federation ports and stations. -/
abbrev Recv := Fin 192
/-- An end of chains by block index (R95, R129): the NI of a port or a federation agent. -/
abbrev ChainEndId := Fin 156
/-- A ticket number (R256). -/
abbrev Ticket := Fin 256

/-- A configuration access as it reaches its serving block: source, privilege, tag and REGION of the packet (R43), and
the data word of a write. -/
structure Req where
  src : Gid
  priv : BitVec 2
  tag : BitVec 12
  data : Word
  region : BitVec 2 := 0
  deriving DecidableEq, Repr

/-- What befell a flit on the link it has just crossed, as the link codes tell (R40 to R42): a single-bit error with the
bit of the flit's 320 it fell on; an error beyond DECC with the payload and sideband [43:8] as received; an error beyond
CECC. -/
inductive LinkErr where
  | none
  | sbe (bit : Fin 320)
  | deccDue (payload : BitVec 256) (side : BitVec 36)
  | ceccDue
  deriving DecidableEq, Repr

/-- A copy of a datum counter that disagrees with the other two, and the value it stands at (R14). -/
structure BadCopy where
  copy : Fin 3
  value : Word
  deriving DecidableEq, Repr

/-- A receiver that finds an error in a meridian message, and whether the error is of a single bit (R23). -/
structure MerDiscard where
  b : Recv
  sbe : Bool
  deriving DecidableEq, Repr

/-- A chain end that a G flit reaches, and what befell the flit on its last hop (R101). -/
structure GHop where
  b : ChainEndId
  err : LinkErr
  deriving DecidableEq, Repr

/-- PWR_QACK of a port as sampled at an edge (R224, R227). -/
structure QackSample where
  p : Port
  level : Bool
  deriving DecidableEq, Repr

/-- A builder of packets that fetches routes by fills (R72): the request or the response builder of an NI, the management
agent of a station, a federation agent. -/
inductive Builder where
  | request (p : Port)
  | response (p : Port)
  | agent (s : Stn)
  | fedAgent (f : FedP)
  deriving DecidableEq, Repr

/-- LC_STATE as sampled (R380). -/
abbrev LcState := BitVec 2

/-- What the wipe's read-back finds failing (R382, R383): core memories, the trace store, NIs, stations. -/
structure WipeResult where
  core : Bool := false
  trace : Bool := false
  nis : List (Fin 144) := []
  stns : List (Fin 36) := []
  deriving DecidableEq, Repr

/-- What the boot ROM reads at boot step 2 (R384): whether an NVM read returned an error, the eight directory words, and
MIN_SECVER. -/
structure RomRead where
  nvmErr : Bool := false
  dir : List (BitVec 64) := []
  minSec : BitVec 32 := 0
  deriving DecidableEq, Repr

/-- An image as it has been loaded (R385, R386): whether an NVM read or buffer access failed, its first 256 bytes, and
the two verdicts of the cryptographic checks: the public key's hash equals the key hash named, the signature is valid. -/
structure ImageCheck where
  nvmErr : Bool := false
  head : List (BitVec 8) := []
  keyOk : Bool := false
  sigOk : Bool := false
  deriving DecidableEq, Repr

/-- The boot map's bytes as read from NVM, or an NVM error (R384, R387). -/
structure BootMap where
  nvmErr : Bool := false
  bytes : List (BitVec 8) := []
  deriving DecidableEq, Repr

/-- The four words of a journal slot as the boot scan reads them (R301, R304). -/
abbrev JSlot := BitVec 64 × BitVec 64 × BitVec 64 × BitVec 64
/-- A shaper register whose write can reset buckets (R165). -/
inductive ShaperReg where
  | ctl
  | rate (c : Fin 7)
  | size (c : Fin 7)
  deriving DecidableEq, Repr

/-- What a unit drives on IQ at an edge with IQ_VALID = 1 (R205, R209, R210), IQ_OP apart: the command that offers the beat
stands for its code, unless `resOp` says which reserved code, 8 and more, is driven in its place. -/
structure IqBeat where
  addr : BitVec 64 := 0
  size : BitVec 10 := 0
  qos : BitVec 3 := 0
  bkind : BitVec 1 := 0
  bscope : BitVec 2 := 0
  chain : BitVec 6 := 0
  mark : BitVec 2 := 0
  last : Bool := true
  be : BitVec 64 := 0
  data : BitVec 512 := 0
  cpar : Bool := false
  resOp : Option (Fin 8) := none
  deriving DecidableEq, Repr

/-- What a unit drives on TS at an edge with TS_VALID = 1 (R205, R216). -/
structure TsBeat where
  tag : BitVec 8
  status : BitVec 4
  last : Bool
  data : BitVec 512 := 0
  cpar : Bool := false
  deriving DecidableEq, Repr

/-- What the end of a SLOW command's work brings from outside the block (R255, R272, R273): an image's check, words read from
the journal region. The bytes of a buffer come and go in packets (R250). -/
structure SlowEnd where
  image : ImageCheck := {}
  words : List (BitVec 64) := []
  deriving DecidableEq, Repr

/-- NVM_RSP_STATUS (R422): OK or not. -/
abbrev NvmStatus := Bool
/-- A sensor's conversion (R337): its reading in 0.125 degrees, or none. -/
abbrev SensorReading := Option (BitVec 12)
/-- A benchmark monitor's reading in ps (R352). -/
abbrev BenchReading := BitVec 16
/-- An eye of a lane (R357): its width and its centre, in phase positions. -/
abbrev LaneEye := Fin 65 × Fin 64
/-- The 36 bytes of a SYNC message (R399). -/
abbrev SyncMsg := BitVec 288
/-- A packet from a federation link (R403). -/
abbrev FedPkt := Pkt
/-- A relayed G flit from a federation link (R407). -/
abbrev FedG := GFlit

/-- The commands of the block, one constructor per row of the spec's table of operations and events. -/
inductive Instr where
  /-- COLD_RESET (R418): Assertion and release of COLD_RST_N (or power-on) resets the block, sets the datum to 0 and enters WIPE. -/
  | coldReset
  /-- WARM_RESET (R418): WARM_RST_N sampled low on two ACLK edges resets the block without stopping the datum and enters WIPE when released. -/
  | warmReset
  /-- SOFT_RESET_WRITE (R376): A write of GLB_SOFT_RESET with KEY 0xC0DE is answered CWA OK and schedules a soft reset; a wrong key completes DENY. -/
  | softResetWrite (r : Req)
  /-- SOFT_RESET_BEGIN (R376): 2,048 fclk after the key write is served the soft reset begins and acts as a warm reset. -/
  | softResetBegin
  /-- LC_STATE_CHANGE (R380): A new LC_STATE value sampled on 4 consecutive ACLK edges changes the effective state and causes a warm reset; a lower value sets BACKWARD. -/
  | lcStateChange (v : LcState)
  /-- POWER_REMOVE (R414): VDD_AO falling below 0.5 V removes block power and clears the always-on latches. -/
  | powerRemove
  /-- SCAN_MODE_CHANGE (R431): Entry into or exit from manufacturing scan, where honoured, causes a warm reset and wipe. -/
  | scanModeChange (enter : Bool)
  /-- TAP_IDCODE (R430): The TAP instruction IDCODE selects the 32-bit identification register. -/
  | tapIdcode
  /-- TAP_IJTAG (R430): The TAP instruction IJTAG selects the IEEE 1687 instrument network, limited in DEPLOYED. -/
  | tapIjtag
  /-- TAP_BYPASS (R430): Any other TAP instruction selects the 1-bit bypass register. -/
  | tapBypass (ir : BitVec 4)
  /-- WIPE_DONE (R382): The wipe of all block RAM ends with read-back results; core failures stop the boot, NI and station failures are recorded. -/
  | wipeDone (w : WipeResult)
  /-- BOOT_ROM_READ (R384): The boot ROM finishes reading LC_STATE, OTP key hash, MIN_SECVER and the boot directory. -/
  | bootRomRead (b : RomRead)
  /-- IMAGE_VERIFY (R386): An image slot has been loaded and is checked for format, key, signature, rollback and DEVELOP_ONLY; failure falls back to slot 1 or fails the boot. -/
  | imageVerify (v : ImageCheck)
  /-- BOOT_INIT (R387): Boot step 4 performs the ALIGN LOAD, writes FREE into every plat entry, reads the boot map and starts the journal scan. -/
  | bootInit (b : BootMap)
  /-- BOOT_SERVING (R387): Boot step 5 writes host routes, admits the command-pair hosts, enables channels 0-15, enters SERVING and sends the NOTICE. -/
  | bootServing
  /-- JOURNAL_SCAN_END (R304): The boot scan of the journal region ends, classifies slots, sets the write position and writes TORN and BOOT records. -/
  | journalScanEnd (slots : List JSlot)
  /-- VOTE_FIX (R14): A datum counter copy that disagrees with the other two is rewritten and counted in VOTE_FIX_COUNT. -/
  | voteFix (b : Fin 193) (x : BadCopy)
  /-- ALIGN_GO (R24): An FMP write of DAT_CTL.ALIGN_GO in ENUMERATE or DIAGNOSE with no set open requests an ALIGN_LOAD launch; otherwise DENY. -/
  | alignGo (r : Req)
  /-- VERIFY_TIMER (R25): Every 2^VERIFY_PERIOD fclk while VERIFY_EN is 1 the global block requests an ALIGN_VERIFY launch. -/
  | verifyTimer
  /-- MERIDIAN_LAUNCH (R20): At each 4-fclk launch slot the global block launches the highest-priority pending meridian message, or IDLE. -/
  | meridianLaunch
  /-- ALIGN_LOAD_ARRIVAL (R24): 24 fclk after launch every receiver loads L+24 into its datum counter and the global block sets ALIGNED. -/
  | alignLoadArrival (sbe : Fin 193)
  /-- ALIGN_VERIFY_ARRIVAL (R25): A receiver compares its counter with INSTANT and loads INSTANT on a difference. -/
  | alignVerifyArrival (b : Recv) (sbe : Bool)
  /-- STAKE_CALL_ARRIVAL (R142): A STAKE_CALL reaching a block in EXPECT moves it to CALLED with T from INSTANT; otherwise it is ignored and counted in LOST. -/
  | stakeCallArrival (b : Recv) (sbe : Bool)
  /-- SURVEY_TICK_ARRIVAL (R316): A SURVEY_TICK reaches a block, which schedules its snapshot at the named instant. -/
  | surveyTickArrival (b : Recv) (sbe : Bool)
  /-- MERIDIAN_DUE_DISCARD (R23): A meridian message with an uncorrectable error is discarded, MER_DUE set, counted, the site recorded and MERIDIAN_DUE raised. -/
  | meridianDueDiscard (x : MerDiscard)
  /-- MERIDIAN_RESERVED_TYPE (R19): A meridian message with a reserved TYPE is ignored and counted as a DUE. -/
  | meridianReservedType (b : Recv) (typ : BitVec 4)
  /-- DATUM_ALARM_FIRE (R30): An armed alarm reaches its instant (or is armed late): ARM clears, FIRED sets, LATE may set and DATUM_ALARMn is raised. -/
  | datumAlarmFire (n : Fin 4)
  /-- LINK_FLIT_RECEIVE (R40): A station input receives a best-effort flit, checks and corrects link codes, takes its credit return and writes it into its buffer at BW. -/
  | linkFlitReceive (s : Stn) (i : InPort) (e : LinkErr)
  /-- RESYNC_SEND (R42): The receiver sends one RESYNC flit in the next reverse cycle free of a G flit and enters RESYNC state. -/
  | resyncSend (s : Stn) (n : LinkPort)
  /-- RESYNC_RECEIVE (R42): The transmitter receiving RESYNC stops best-effort flits for 64 fclk and discards the rest of cut-off packets. -/
  | resyncReceive (s : Stn) (n : LinkPort)
  /-- RESYNC_END (R42): 64 fclk after RESYNC both ends restore full credits, the state returns to FULL or HALF and RESYNC_COUNT increments. -/
  | resyncEnd (s : Stn) (n : LinkPort)
  /-- VC_ALLOCATE (R58): Each output grants at most one head an output VC per cycle by class priority and round-robin. -/
  | vcAllocate (s : Stn) (o : InPort)
  /-- SWITCH_ALLOCATE (R59): Each output without a G flit chooses a ready best-effort flit with a credit by class priority and deficit round robin, freeing its input slot. -/
  | switchAllocate (s : Stn) (o : InPort)
  /-- G_FLIT_ARRIVE (R92): A G flit reaching a station input is launched b fclk later on every output whose plat entry names the input with matching CHK. -/
  | gFlitArrive (s : Stn) (i : InPort) (e : LinkErr)
  /-- HELD_HEAD_TIMEOUT (R84): A head held for 8,192 fclk under RECONF is absorbed and, if a non-posted request, answered NOROUTE. -/
  | heldHeadTimeout (s : Stn) (i : InPort) (v : Fin 7)
  /-- AGENT_NOROUTE_SEND (R285): A station agent sends a queued NOROUTE answer for an absorbed non-posted request; with 64 waiting, further requests are lost. -/
  | agentNorouteSend (s : Stn)
  /-- RECONF_WRITE (R84): An FMP write of STN_TRAV_CTL.RECONF sets or clears reconfiguration; clearing releases held heads in the next cycle. -/
  | reconfWrite (s : Stn) (r : Req)
  /-- RETIRE_OLD (R88): A write of STN_TRAV_CTL.RETIRE_OLD = 1 clears OLD_VALID at once. -/
  | retireOld (s : Stn) (r : Req)
  /-- ROUTE_FILL_ISSUE (R72): After a route cache miss the builder sends one fill as a configuration read on the MGT path when a place is free, starting its timeout. -/
  | routeFillIssue (b : Builder)
  /-- FILL_SERVE (R72): The global block serves the oldest pending fill, one per 4 mclk, returning the table entry. -/
  | fillServe
  /-- ROUTE_FILL_RETURN (R73): A fill answer writes a route into the cache and builds the waiting packet, or ends it NOROUTE or discarded. -/
  | routeFillReturn (b : Builder)
  /-- ROUTE_FILL_TIMEOUT (R73): A fill unanswered for 8,192 fclk is treated as no route and counted in FILL_TIMEOUTS. -/
  | routeFillTimeout (b : Builder)
  /-- INV_GO (R74): A write of NI_ROUTE_CTL.INV_GO starts a sweep invalidating cache entries of one traverse or all; DENY while busy. -/
  | invGo (p : Port) (r : Req)
  /-- INV_SWEEP_DONE (R74): The invalidation sweep finishes and INV_BUSY clears. -/
  | invSweepDone (p : Port)
  /-- ROUTE_AROUND (R86): Within 100 us of a link retirement or station avoidance the FMP builds a new bank with replacement routes and switches traverse. -/
  | routeAround
  /-- DRAIN_STALL (R85): A drain not complete within 10 ms stops the FMP's polling, raises DRAIN_STALL and leaves the traverse draining. -/
  | drainStall
  /-- ISOLATE_NO_ROUTE (R290): Within 10 us of a switch that removes a port's route to or from key 240 the FMP isolates the port with cause ROUTE. -/
  | isolateNoRoute (p : Port)
  /-- CHAIN_INJECT (R98): At a chain injection instant the NI injects the oldest queued flit, or leaves the cycle free. -/
  | chainInject (b : ChainEndId)
  /-- CHAIN_PROBE_GO (R103): A write of NI_CHAIN_CTL.PROBE_GO requests one probe flit on a source entry; DENY while one is pending. -/
  | chainProbeGo (p : Port) (r : Req)
  /-- CHAIN_FLIT_RECEIVE (R101): A destination NI checks a G flit, looks up its chain entry, checks SEQ and delivers it to the receive queue or a state slot. -/
  | chainFlitReceive (x : GHop)
  /-- PLAT_PATCH_GO (R105): A write of STN_PLAT_PATCH.GO accepts a single-entry patch and computes its frame F; DENY while pending or locked. -/
  | platPatchGo (s : Stn) (r : Req)
  /-- PLAT_PATCH_APPLY (R105): At frame F the patched entry takes effect and PENDING clears. -/
  | platPatchApply (s : Stn)
  /-- STATE_SLOT_WRITE (R120): A chain flit or SPUT writes an enabled state slot subject to the stamp rule, one write per fclk. -/
  | stateSlotWrite (p : Port)
  /-- SPUT_RECEIVE (R118): A target NI checks a SPUT's address, bytes, slot enables, CRC and privilege and passes it to the slot write or discards it. -/
  | sputReceive (p : Port)
  /-- TQ_OFFER (R144): At each pclk edge the NI offers the highest-ranked ready TQ item; it takes effect only if the beat transfers. -/
  | tqOffer (p : Port) (ready : Bool)
  /-- TS_ANSWER (R216): The unit's answer beat on TS completes or continues the answer to an outstanding TS-bearing item. -/
  | tsAnswer (p : Port) (b : TsBeat)
  /-- IS_PRESENT (R212): The NI presents an answer beat on IS for a completed request, held until IS_READY. -/
  | isPresent (p : Port) (ready : Bool)
  /-- SET_OPEN (R132): OP OPEN on an IDLE set sets the owner, resets set fields and requests the open pass. -/
  | setOpen (n : SetId) (r : Req)
  /-- SET_CLOSE (R136): OP CLOSE on an OPEN set computes the effective T, tests lateness and requests the close pass with expectations. -/
  | setClose (n : SetId) (r : Req)
  /-- SET_ABORT (R132): OP ABORT by the owner or FMP aborts an OPEN, CLOSING or WAITING set with reason OWNER. -/
  | setAbort (n : SetId) (r : Req)
  /-- SEQ_PASS_START (R131): The sequencer starts a requested pass when the earlier pass ends and no station is sleeping or waking. -/
  | seqPassStart
  /-- SEQ_PASS_WRITE (R131): Every 4 fclk the sequencer issues the next XX_STK_EXPn write of the pass. -/
  | seqPassWrite
  /-- SEQ_PASS_END (R131): When every write of a pass is answered the pass ends and the set advances; a non-OK answer in open or close aborts with SEQ. -/
  | seqPassEnd
  /-- EXP_COLLECT (R137): CMD COLLECT moves a block in IDLE to COLLECT for the set. -/
  | expCollect (b : Fin 193) (n : SetId) (r : Req)
  /-- EXP_EXPECT (R137): CMD EXPECT loads the expectation record and moves the block from COLLECT to EXPECT. -/
  | expExpect (b : Fin 193) (n : SetId) (r : Req)
  /-- EXP_ABORT (R141): CMD ABORT discards the set's entries and shadows, presents a preload cancel if owed, and returns the block to IDLE. -/
  | expAbort (b : Fin 193) (n : SetId) (r : Req)
  /-- EXP_RELEASE (R137): CMD RELEASE discards the set's entries and shadows in any state, counting post-commit losses, and returns the block to IDLE. -/
  | expRelease (b : Fin 193) (n : SetId) (r : Req)
  /-- STW_RECEIVE (R133): A target NI judges an STW and stages it with STR OK or refuses it with the listed code. -/
  | stwReceive (p : Port)
  /-- RWS_SHADOW_WRITE (R135): A write of RWS fields places a shadow in the bound set, or is refused with DENY. -/
  | rwsShadowWrite (off : Fin 33554432) (r : Req)
  /-- STAKE_COMMIT (R139): When all gathered READY bits are set with no fault by T minus 256 (or ASAP) the controller commits and requests a STAKE_CALL. -/
  | stakeCommit (n : SetId)
  /-- STAKE_FAULT_ABORT (R139): A gathered FAULT bit in WAITING aborts the set with reason FAULT and records the first station. -/
  | stakeFaultAbort (n : SetId)
  /-- STAKE_NOTREADY (R139): A set not ready at the point of no return, or at close plus 65,536 under ASAP, is aborted with reason NOTREADY. -/
  | stakeNotready (n : SetId)
  /-- STAKE_ABORT_DONE (R141): When the abort pass ends and OPEN falls the set returns to IDLE with result ABORTED and STAKE_DONE is raised. -/
  | stakeAbortDone (n : SetId)
  /-- STAKE_APPLY (R142): At datum T a called block makes its shadows take effect, pulses the strobe or starts presenting staged writes. -/
  | stakeApply (b : Fin 193) (n : SetId)
  /-- STAKE_MISSED (R143): A participant in EXPECT reaching T without a call discards the set's contents and sets MISSED. -/
  | stakeMissed (b : Fin 193) (n : SetId)
  /-- STAKE_CONTROLLER_T (R148): At T the controller moves a committed set to APPLYING. -/
  | stakeControllerT (n : SetId)
  /-- STAKE_RESULT (R148): At or after T plus 24, when gathered OPEN falls, the set returns to IDLE with APPLIED or APPLIED_ERR and events are raised. -/
  | stakeResult (n : SetId)
  /-- STAKE_STUCK (R148): A set still open at T plus 65,536 is marked STUCK, raises STAKE_STUCK and gets a release pass. -/
  | stakeStuck (n : SetId)
  /-- NI_INJECT (R153): Each fclk the NI drives one flit into its station by priority of chain, MGT, response and class path. -/
  | niInject (p : Port)
  /-- SHAPER_RESET_WRITE (R165): A write of NI_SHAPE_RATEc, NI_SHAPE_SIZEc or enabling EN[c] resets both buckets of the class. -/
  | shaperResetWrite (p : Port) (off : ShaperReg) (r : Req)
  /-- POLICE_RESET_WRITE (R167): A write of FED_POLICE_RATE or FED_POLICE_SIZE fills both policer buckets. -/
  | policeResetWrite (f : FedP) (size : Bool) (r : Req)
  /-- SLUICE_GO (R161): A write of NI_SLUICE_CTL.GO computes START for the administrative list and sets PENDING; DENY while pending or with a zero duration. -/
  | sluiceGo (p : Port) (r : Req)
  /-- SLUICE_CANCEL (R161): A write of NI_SLUICE_CTL.CANCEL clears PENDING and keeps the operating list. -/
  | sluiceCancel (p : Port) (r : Req)
  /-- SLUICE_START (R161): At START the administrative list is copied into the operating list and PENDING clears. -/
  | sluiceStart (p : Port)
  /-- HIST_DEPTH_SAMPLE (R168): Every 2^DEPTH_EXP fclk the NI samples the selected queue's depth into a bin. -/
  | histDepthSample (p : Port)
  /-- HIST_CLEAR (R169): A write of NI_HIST_CTL.CLEAR, or a change of its settings, clears all bins and SKIPPED. -/
  | histClear (p : Port) (r : Req)
  /-- LOAD (R176): a beat with IQ_OP LOAD is offered; the request is accepted and built as RD or CRD, or refused at the initiator NI. -/
  | load (p : Port) (b : IqBeat)
  /-- STORE (R179): IQ_OP STORE is merged into the posted-write buffer or built as WRP, WR, STW or SPUT. -/
  | store (p : Port) (b : IqBeat)
  /-- STORE_NP (R176): IQ_OP STORE_NP takes a tag and is built as WR, STW, SPUTs or CWR. -/
  | storeNp (p : Port) (b : IqBeat)
  /-- LOAD_RSV (R192): IQ_OP LOAD_RSV is built as RDX or refused TGTERR. -/
  | loadRsv (p : Port) (b : IqBeat)
  /-- STORE_COND (R192): IQ_OP STORE_COND is built as WRX or refused TGTERR. -/
  | storeCond (p : Port) (b : IqBeat)
  /-- BARRIER (R185): IQ_OP BARRIER is accepted and queued as a barrier of the given kind and scope. -/
  | barrier (p : Port) (b : IqBeat)
  /-- CHAIN_PUT (R98): IQ_OP CHAIN_PUT adds a flit to a source entry's queue, blocking or dropping the oldest when full. -/
  | chainPut (p : Port) (b : IqBeat)
  /-- MESSAGE (R232): IQ_OP MESSAGE builds an MSG to the named mailbox channel or completes TGTERR. -/
  | message (p : Port) (b : IqBeat)
  /-- MERGE_WINDOW_EXPIRE (R179): A merge-buffer line idle for WINDOW fclk is flushed as WRP or WRM. -/
  | mergeWindowExpire (p : Port)
  /-- MERGE_FLUSH (R179): A write of NI_MERGE_CTL.FLUSH flushes every merge-buffer line. -/
  | mergeFlush (p : Port) (r : Req)
  /-- BARRIER_ADVANCE (R185): A barrier leaves QUEUED, FLUSH or FENCE when its waiting condition is met, ending in DONE with its answer on IS. -/
  | barrierAdvance (p : Port)
  /-- TARGET_REQUEST_ENTRY (R173): A request whose tail arrives at a target NI is checked and entered into its target-request queue at its ordering point. -/
  | targetRequestEntry (p : Port)
  /-- MONITOR_EXPIRE (R193): A monitor ends protection after PROTECT fclk and expires after LIFE x 256 fclk. -/
  | monitorExpire (p : Port) (m : Fin 64)
  /-- HANDOFF_EXPIRE (R197): A hand-off that runs 20,480 fclk without an RDX from NEXT ends and the line is free. -/
  | handoffExpire (p : Port) (m : Fin 64)
  /-- RDX_RETRY (R196): After its backoff wait an EXNACKed RDX retries automatically, or ends EXNACK after MAX_RETRY. -/
  | rdxRetry (p : Port) (t : BitVec 12)
  /-- LOCK_ACQUIRE (R199): A read of LCK_ACQn attempts acquisition and returns ACQUIRED, OWNED or BUSY with backoff, arbitrated by rotating pointer. -/
  | lockAcquire (l : Fin 256) (r : Req)
  /-- LOCK_RELEASE (R199): A write of RELEASE by the owner or FMP frees the lock; others receive DENY. -/
  | lockRelease (l : Fin 256) (r : Req)
  /-- RESPONSE_RECEIVE (R280): A response arriving at the initiator NI ends its matching request, or is discarded as unmatched or quarantined. -/
  | responseReceive (p : Port)
  /-- REQUEST_TIMEOUT (R281): A request timer expires: the request ends TIMEOUT and its tag enters quarantine. -/
  | requestTimeout (p : Port) (t : Fin 8192)
  /-- TAG_QUARANTINE_END (R281): After QUAR x 1,024 fclk a quarantined tag becomes free again. -/
  | tagQuarantineEnd (p : Port) (t : Fin 8192)
  /-- DESC_GO (R220): A write of NI_PORT_CTL.DESC_GO starts a four-beat descriptor read; DENY if the port is down, busy or has items outstanding. -/
  | descGo (p : Port) (r : Req)
  /-- DESC_BEAT (R220): The unit answers a descriptor beat with DESC_VALID; after the fourth the descriptor is copied and checked. -/
  | descBeat (p : Port) (d : BitVec 512) (ts : Bool)
  /-- DESC_TIMEOUT (R220): No DESC_VALID within 1,024 pclk fails the read with DESC_FAIL 1. -/
  | descTimeout (p : Port)
  /-- PWR_UP_RAISE (R223): The NI raises PWR_UP at the first edge where the domain is up and the NI is not quiescing, disabled or isolated. -/
  | pwrUpRaise (p : Port)
  /-- PWR_QACK (R224): The unit's acknowledge, sampled with no item outstanding, makes the NI hold IQ_READY low. -/
  | pwrQack (x : QackSample)
  /-- PORT_DOWN (R224): When every request of the unit has ended the NI drops PWR_UP and PWR_QREQ and reports PWR_DOWN_OK or DISABLE_DONE. -/
  | portDown (p : Port)
  /-- QACK_LATE (R225): No acknowledge within QACK_LIMIT x 1,024 pclk counts HANG, raises PORT_QACK_LATE and proceeds without it. -/
  | qackLate (p : Port)
  /-- UNIT_HANG (R226): A TS-bearing item unanswered for TS_LIMIT x 64 pclk raises UNIT_HANG and ends the item. -/
  | unitHang (p : Port) (t : BitVec 8)
  /-- EVT_RAISE_CHANGE (R219): A change on an event source such as EVT_RAISE updates its pending bit and its routing. -/
  | evtRaiseChange (p : Port) (v : BitVec 4)
  /-- EVM_BUILD (R299): The aggregator builds one queued event message every 16 fclk at most; a full queue drops it and raises source 1,378. -/
  | evmBuild
  /-- MSG_RECEIVE (R233): The mailbox unit judges an arriving MSG, stores or lands it with its stamp, and answers MSR. -/
  | msgReceive
  /-- MAILBOX_POP (R236): A write of MBX_CHn_CTL.POP by the receiver removes the head message. -/
  | mailboxPop (n : Chan) (r : Req)
  /-- MAILBOX_WAKE (R238): At the first mclk the receiver is up, LANDED and WAKE_PEND clear and the doorbell is raised. -/
  | mailboxWake (n : Chan)
  /-- MAILBOX_CROSS (R241): A declared pair with both channels full for 4,096 mclk sets CROSS and raises MBX_CROSS. -/
  | mailboxCross (n : Chan)
  /-- MBX_CFG_WRITE (R229): An FMP write of MBX_CHn_CFG configures a channel; disabling discards its messages; invalid values complete DENY. -/
  | mbxCfgWrite (n : Chan) (r : Req)
  /-- NOP (R259): Command NOP echoes its arguments. -/
  | nop (k : Pair)
  /-- INFO (R259): Command INFO returns release, firmware version, mode and ticket counts. -/
  | info (k : Pair)
  /-- TICKET_STATUS (R259): Command TICKET_STATUS reports a ticket's state and results. -/
  | ticketStatus (k : Pair)
  /-- TICKET_CANCEL (R259): Command TICKET_CANCEL cancels a ticket before its last cancellable point and undoes partial effects. -/
  | ticketCancel (k : Pair)
  /-- MODE_SET (R375): Command MODE_SET moves to RUN, DIAGNOSE or ENUMERATE where the transition table allows. -/
  | modeSet (k : Pair)
  /-- REG_SET (R260): Command REG_SET writes named fields of FMP-type registers after range checks. -/
  | regSet (k : Pair)
  /-- MBX_CONFIG (R259): Command MBX_CONFIG writes one channel or a declared pair after checking R229 and R240. -/
  | mbxConfig (k : Pair)
  /-- LOCK_FORCE (R259): Command LOCK_FORCE frees a lock and returns its former owner. -/
  | lockForce (k : Pair)
  /-- MAP_LOAD (R388): Command MAP_LOAD reads and checks the host's expected map. -/
  | mapLoad (k : Pair)
  /-- ENUMERATE (R391): Command ENUMERATE optionally fills bank 0 and admits every present powered port, reporting counts. -/
  | enumerate (k : Pair)
  /-- PORT_ENABLE (R261): Command PORT_ENABLE reads and checks the descriptor and enables the port. -/
  | portEnable (k : Pair)
  /-- PORT_DISABLE (R261): Command PORT_DISABLE performs a graceful disable of the port. -/
  | portDisable (k : Pair)
  /-- PORT_ISOLATE (R261): Command PORT_ISOLATE isolates the port before its REPLY. -/
  | portIsolate (k : Pair)
  /-- PORT_STATUS (R261): Command PORT_STATUS returns the port's state, privilege and descriptor status. -/
  | portStatus (k : Pair)
  /-- ROUTE_PREPARE (R262): Command ROUTE_PREPARE copies the current bank to a free bank and lints and stores route records. -/
  | routePrepare (k : Pair)
  /-- ROUTE_WRITE (R262): Command ROUTE_WRITE lints and stores route records into a bank. -/
  | routeWrite (k : Pair)
  /-- ROUTE_READ (R262): Command ROUTE_READ returns one route table entry. -/
  | routeRead (k : Pair)
  /-- ROUTE_SWITCH (R262): Command ROUTE_SWITCH places traverse shadows, switches traverse and waits for the drain. -/
  | routeSwitch (k : Pair)
  /-- ROUTE_DRAIN (R262): Command ROUTE_DRAIN repeats the drain polling of the old traverse. -/
  | routeDrain (k : Pair)
  /-- ROUTE_FINISH (R262): Command ROUTE_FINISH retires the old traverse, invalidates caches and frees the bank. -/
  | routeFinish (k : Pair)
  /-- ROUTE_CACHE_LOAD (R262): Command ROUTE_CACHE_LOAD preloads a port's route cache. -/
  | routeCacheLoad (k : Pair)
  /-- FED_MAP (R395): Command FED_MAP writes a federation map entry, or the instance number when f is 15. -/
  | fedMap (k : Pair)
  /-- PLAT_STAGE (R266): Command PLAT_STAGE frames, checks and writes a plat set into staged banks and holds chain records. -/
  | platStage (k : Pair)
  /-- PLAT_SWAP (R265): Command PLAT_SWAP shadows the staged banks and chain entries in a stake. -/
  | platSwap (k : Pair)
  /-- PLAT_PATCH (R265): Command PLAT_PATCH checks and issues a single-entry patch. -/
  | platPatch (k : Pair)
  /-- PLAT_READ (R265): Command PLAT_READ copies one plat bank into a buffer. -/
  | platRead (k : Pair)
  /-- CHAIN_INFO (R265): Command CHAIN_INFO returns a chain's source, destinations and latest probe latency. -/
  | chainInfo (k : Pair)
  /-- CHAIN_PROBE (R265): Command CHAIN_PROBE sends a probe on a chain and reports latencies. -/
  | chainProbe (k : Pair)
  /-- STAKE_INFO (R267): Command STAKE_INFO returns a set's status and first faulted block. -/
  | stakeInfo (k : Pair)
  /-- STATE_CONFIG (R267): Command STATE_CONFIG places NI_STATE_CFG shadows in an open set. -/
  | stateConfig (k : Pair)
  /-- STAKE_ABORT (R267): Command STAKE_ABORT aborts an open, closing or waiting set. -/
  | stakeAbort (k : Pair)
  /-- DOMAIN_DOWN (R268): Command DOMAIN_DOWN quiesces the port and powers its domain down. -/
  | domainDown (k : Pair)
  /-- DOMAIN_UP (R268): Command DOMAIN_UP requests the domain up and ends at PWR_UP or after 10 ms. -/
  | domainUp (k : Pair)
  /-- DOMAIN_STATUS (R268): Command DOMAIN_STATUS reports the domain state. -/
  | domainStatus (k : Pair)
  /-- SURVEY_TAKE (R269): Command SURVEY_TAKE requests a survey at a given or default instant. -/
  | surveyTake (k : Pair)
  /-- SURVEY_READ (R318): Command SURVEY_READ writes counter shadows with sequence numbers into a buffer. -/
  | surveyRead (k : Pair)
  /-- PROBE_SET (R269): Command PROBE_SET writes a probe's filter and action. -/
  | probeSet (k : Pair)
  /-- TAG_SET (R269): Command TAG_SET writes a port's tagging rate and seed. -/
  | tagSet (k : Pair)
  /-- TRACE_READ (R269): Command TRACE_READ copies trace store records into a buffer. -/
  | traceRead (k : Pair)
  /-- COUNTER_PERM (R311): Command COUNTER_PERM sets which counters of a block are readable at privilege P0. -/
  | counterPerm (k : Pair)
  /-- THERMAL_POLICY (R342): Command THERMAL_POLICY writes thresholds and rate limit after range checks. -/
  | thermalPolicy (k : Pair)
  /-- THERMAL_READ (R270): Command THERMAL_READ reports the hottest sensor, suspects and level. -/
  | thermalRead (k : Pair)
  /-- POWER_POLICY (R270): Command POWER_POLICY sets the deepest power state of stations. -/
  | powerPolicy (k : Pair)
  /-- TEST_REQUEST (R366): Command TEST_REQUEST queues a link BIST, calibration, station BIST or benchmark scan. -/
  | testRequest (k : Pair)
  /-- STATION_VACATE (R271): Command STATION_VACATE sets RECONF on a station free of routes and reservations. -/
  | stationVacate (k : Pair)
  /-- STATION_RETURN (R368): Command STATION_RETURN trains the station's links up and clears RECONF unless its BIST failed. -/
  | stationReturn (k : Pair)
  /-- LINK_INFO (R271): Command LINK_INFO returns a link's STN_LINKn. -/
  | linkInfo (k : Pair)
  /-- MARGIN_REPLAN (R355): Command MARGIN_REPLAN re-plans a station or all stations. -/
  | marginReplan (k : Pair)
  /-- FW_LOAD (R272): Command FW_LOAD stages and verifies a firmware image in the non-running slot. -/
  | fwLoad (k : Pair)
  /-- FW_HANDOVER (R277): Command FW_HANDOVER shadows the image slot in set 7 and hands over at T. -/
  | fwHandover (k : Pair)
  /-- FW_INFO (R272): Command FW_INFO returns running and staged versions. -/
  | fwInfo (k : Pair)
  /-- JOURNAL_INFO (R273): Command JOURNAL_INFO returns the journal's oldest and newest indexes. -/
  | journalInfo (k : Pair)
  /-- JOURNAL_READ (R273): Command JOURNAL_READ copies journal records into a buffer. -/
  | journalRead (k : Pair)
  /-- SLOW_COMMAND_COMPLETION (R255): When a SLOW command's work ends the FMP produces its COMPLETION with outcome and results and frees its ticket. -/
  | slowCommandCompletion (t : Ticket) (w : SlowEnd)
  /-- REPLY_RETRY (R247): Every 1 us the FMP offers a held reply-channel message again. -/
  | replyRetry (k : Pair)
  /-- FMP_HANG (R276): HEARTBEAT unchanged for 131,072 fclk while SERVING sets HALTED and raises FMP_HANG. -/
  | fmpHang
  /-- HANDOVER_SERVING (R277): The new image reads the hand-over record, enters SERVING and places the COMPLETION and NOTICE. -/
  | handoverServing
  /-- HANDOVER_REVERT (R278): If not SERVING at T plus 100,000 fclk the previous image is restored and the hand-over ends REVERTED. -/
  | handoverRevert
  /-- NI_ENABLE (R286): NI_CTL.CMD ENABLE moves a DISABLED port with an accepted descriptor to ENABLED. -/
  | niEnable (p : Port) (r : Req)
  /-- NI_DISABLE (R288): NI_CTL.CMD DISABLE enters DISABLING, ends queued items and starts the port-down handshake. -/
  | niDisable (p : Port) (r : Req)
  /-- NI_QUIESCE (R288): NI_CTL.CMD QUIESCE enters QUIESCE, ends queued items and starts the port-down handshake. -/
  | niQuiesce (p : Port) (r : Req)
  /-- NI_RESUME (R288): NI_CTL.CMD RESUME sets DOM_ON and so raises PD_REQ. -/
  | niResume (p : Port) (r : Req)
  /-- NI_ISOLATE (R289): NI_CTL.CMD ISOLATE isolates the port: PWR_UP falls and all outstanding work ends DEAD. -/
  | niIsolate (p : Port) (r : Req)
  /-- DOMAIN_RETURN (R336): An NI in QUIESCE with PWR_DOWN_OK returns to ENABLED when PD_REQ and synchronised PD_ACK are both 1. -/
  | domainReturn (p : Port)
  /-- PD_ACK_RISE (R336): The host raises PD_ACK for a domain, reported up after synchronisation. -/
  | pdAckRise (p : Port)
  /-- PD_ACK_FALL (R336): PD_ACK falls while PD_REQ is 1, isolating or losing the port and counting LOSSES. -/
  | pdAckFall (p : Port)
  /-- REAPPLY_SHADOWS (R291): Within 20 us of a set ending APPLIED_ERR through a lost call the FMP re-places the lost shadows in set 7. -/
  | reapplyShadows (n : SetId)
  /-- SLIP_RESPONSE (R292): After DATUM_SLIP the FMP journals a SLIP record, may raise STAKE_FAULT and marks a thrice-slipping station avoided. -/
  | slipResponse
  /-- JOURNAL_RECORD_WRITE (R303): The FMP writes the next queued journal record into its slot, erasing ahead as needed. -/
  | journalRecordWrite
  /-- NVM_RESPONSE (R423): The NVM controller answers an accepted request with status and data. -/
  | nvmResponse (st : NvmStatus) (d : Word)
  /-- NVM_TIMEOUT (R423): An NVM request unanswered within its timeout is treated as ERROR. -/
  | nvmTimeout
  /-- SURVEY_GO (R315): An FMP write of SRV_CTL.GO requests a SURVEY_TICK at SRV_NEXT; DENY while pending or armed. -/
  | surveyGo (r : Req)
  /-- SURVEY_CANCEL (R315): A write of SRV_CTL.CANCEL withdraws a tick not yet launched. -/
  | surveyCancel (r : Req)
  /-- SURVEY_SNAPSHOT (R316): At the survey instant each block copies counters and status set into shadows and sets its sequence number. -/
  | surveySnapshot (b : Fin 193)
  /-- TRACE_FORWARD (R326): Each station trace queue forwards one record per 16 fclk to the trace store. -/
  | traceForward (s : Stn)
  /-- TRACE_CLEAR (R326): A write of SRV_TRACE_CTL.CLEAR resets WPTR, WRAPPED, FULL and FROZEN. -/
  | traceClear (r : Req)
  /-- PROBE_CONFIG_WRITE (R320): A write of a probe filter or action register restarts its counts and rearms it. -/
  | probeConfigWrite (k : Fin 180) (act : Bool) (r : Req)
  /-- TAG_CTL_WRITE (R322): A write of NI_TAG_CTL loads the LFSR with SEED and sets the rate. -/
  | tagCtlWrite (p : Port) (r : Req)
  /-- POWER_STATE_ENTER (R331): An idle station enters CLKGATE or RETAIN when STN_HORIZON.NEXT allows. -/
  | powerStateEnter (s : Stn)
  /-- POWER_STATE_EXIT (R331): A gated station starts its exit when NEXT reaches its exit time or a flit or configuration access arrives. -/
  | powerStateExit (s : Stn)
  /-- SLEEP_ENTER (R333): With SLEEP_REQ set a station enters SLEEP once all its links read DOWN. -/
  | sleepEnter (s : Stn)
  /-- SLEEP_EXIT (R333): After SLEEP_REQ clears the station trains its links and is ACTIVE 8,000 fclk later. -/
  | sleepExit (s : Stn)
  /-- THERMAL_SAMPLE (R337): At each sample instant every sensor starts a conversion. -/
  | thermalSample
  /-- THERMAL_EVALUATION (R341): 4,000 fclk after a sample instant readings are evaluated for suspects, rates, levels and throttle stage. -/
  | thermalEvaluation (rd : List SensorReading)
  /-- HOST_TRIP (R346): HOST_TRIP sampled 1 on two consecutive ACLK edges trips the block. -/
  | hostTrip
  /-- THROTTLE_APPLY (R344): Within 100 us of a stage change the FMP rewrites all NIs' shapers for the stage or restores them. -/
  | throttleApply
  /-- TRIP_ARM (R345): When LEVEL reaches 2 the FMP reserves journal slots, writes the commit word and arms it; when LEVEL falls it disarms. -/
  | tripArm
  /-- TRIP_COMMIT_PROGRAM (R347): After the word program in flight ends, the trip sequencer programs the armed commit word. -/
  | tripCommitProgram
  /-- SHUTDOWN_READY (R347): After the commit ends or its bound passes the sequencer sets SHUTDOWN_READY. -/
  | shutdownReady
  /-- BENCHMARK_SCAN_START (R353): At each multiple of 2^31 fclk, or from a test, a scan of all 576 monitors starts. -/
  | benchmarkScanStart
  /-- BENCHMARK_SCAN_END (R353): 65,536 fclk after start the scan's readings are posted and drift triggers may arise. -/
  | benchmarkScanEnd (rd : List BenchReading)
  /-- REPLAN_START (R355): The FMP starts a held re-plan of a station triggered by drift or period. -/
  | replanStart (s : Stn)
  /-- EYE_MEASURE_END (R357): After 1,048,576 fclk of guard parcels the eyes of a direction's lanes are known and guards are removed. -/
  | eyeMeasureEnd (s : Stn) (n : LinkPort) (eyes : List LaneEye)
  /-- RECENTRE_STEP (R356): Every 1,024 fclk an off-centre lane's sample phase moves one step toward its eye centre. -/
  | recentreStep (s : Stn) (n : LinkPort) (lane : Fin 22)
  /-- VREQ_STEP_ACK (R426): VREQ_ACK reaching the requested offset lets the re-plan continue. -/
  | vreqStepAck (v : Fin 13)
  /-- VREQ_NOACK (R358): A VREQ step unacknowledged within 1 ms is counted and the re-plan continues at the acknowledged offset. -/
  | vreqNoack
  /-- LANE_FAIL_HARD (R359): A lane's clock recovery losing lock fails the lane HARD and starts the forced-error window. -/
  | laneFailHard (s : Stn) (n : LinkPort) (lane : Fin 22)
  /-- FAILURE_STAKE_CLOSE (R359): The FMP closes a set-7 stake writing the new failed-lane set once set 7 is free, aborting a test rotation if needed. -/
  | failureStakeClose
  /-- SBE_WINDOW_END (R359): Each 2^24-fclk window of per-lane corrected-error counts ends. -/
  | sbeWindowEnd
  /-- TEST_START (R366): The FMP takes the next queued test when its limits and resources allow. -/
  | testStart
  /-- LANE_TEST_END (R364): A lane's PRBS test or phase scan ends and the next rotation stake is closed, restoring lanes that passed twice. -/
  | laneTestEnd (s : Stn) (n : LinkPort) (lane : Fin 22) (pass : Bool) (eye : LaneEye)
  /-- STATION_BIST_END (R367): A station BIST ends, plats are set FREE and the result recorded. -/
  | stationBistEnd (s : Stn) (fail : Fin 7)
  /-- LINK_TRAIN_DONE (R368): Link training of a direction ends with it up or left DOWN. -/
  | linkTrainDone (s : Stn) (n : LinkPort) (up : Bool)
  /-- MODE_CAUSE_UPDATE (R373): Within 10 us of a cause change the FMP sets RUN, RECONFIGURE or DEGRADED. -/
  | modeCauseUpdate
  /-- PORT_ADMIT (R389): The FMP admits a present powered port after its domain and descriptor, or holds it disabled. -/
  | portAdmit (p : Port)
  /-- TT_SYNC_SEND (R399): At every multiple of 4,096 fclk each agent sends a SYNC message on its time lane. -/
  | ttSyncSend (f : FedP)
  /-- TT_SYNC_RECEIVE (R400): A partner SYNC is checked and forms an offset and delay estimate, updating LOCKED and port state. -/
  | ttSyncReceive (f : FedP) (m : SyncMsg)
  /-- TT_SYNC_TIMEOUT (R411): No valid SYNC for 65,536 fclk sets holdover and puts the port in LOST. -/
  | ttSyncTimeout (f : FedP)
  /-- ROOT_OFS_UPDATE (R401): Within 100 us of a change the FMP sets ROOT_OFS from the upstream partner's value and offset. -/
  | rootOfsUpdate
  /-- FED_PACKET_RECEIVE (R403): An agent polices, checks, caps privilege, rewrites stamp and route of a packet from the link and injects it. -/
  | fedPacketReceive (f : FedP) (w : FedPkt)
  /-- FED_CHAIN_FLIT_RECEIVE (R407): A relayed G flit from the link is checked, restamped and queued in the agent's source entry for its chain. -/
  | fedChainFlitReceive (f : FedP) (g : FedG)
  /-- LINK_BARRIER_RECEIVE (R406): An inbound link barrier is expanded into port barriers to fenced keys and answered with the first non-OK status. -/
  | linkBarrierReceive (f : FedP) (w : FedPkt)
  /-- FWD_ENTRY_EXPIRE (R405): A forwarded-request entry ends 131,072 fclk after it was made. -/
  | fwdEntryExpire (f : FedP) (e : Fin 512)
  /-- FED_INGRESS_HOLD_EXPIRE (R410): An ingress head not injected within HOLD x 1,024 fclk is absorbed and answered TIMEOUT if non-posted. -/
  | fedIngressHoldExpire (f : FedP)
  /-- FED_LINK_DOWN (R411): FED_LINK_UP falling puts the port in LOST, ending its traffic and journalling it. -/
  | fedLinkDown (f : FedP)
  /-- FED_RESTART (R411): A write of FED_CTL.RESTART with the link up moves a LOST port to SYNC. -/
  | fedRestart (f : FedP) (r : Req)
  /-- BULK_TABLE_WRITE (R442): An FMP write to the route table or a plat bank in the bulk window; others get DENY or TGTERR. -/
  | bulkTableWrite (off : Fin 33554432) (r : Req)
  /-- REGISTER_WRITE (R439): A configuration write of any register without a row of its own, checked for offset, privilege and access type. -/
  | registerWrite (off : Fin 33554432) (sz : Fin 9) (r : Req)
  /-- RC_FIELD_READ (R7): A configuration read of a register with an RC field returns the live value and clears that field, with same-cycle events counted after the clear (R440). -/
  | rcFieldRead (off : Fin 33554432) (sz : Fin 9) (r : Req)
  /-- FED_OUTBOUND_PACKET (R404): A packet arriving at a federation agent from its station is sent over the link, or answered CRR/CWA DENY for CRD/CWR, forwarded as a link barrier when it is a BAR to the agent's own key, ends a forwarded-request entry when it is a matching response, and is answered DEAD or dropped while the port is LOST. -/
  | fedOutboundPacket (f : FedP)
  deriving DecidableEq, Repr

end Sys2Proof
end

