-- ==== Sys2Proof/Decode.lean ====
section
/-!
DEFINITION. Decode.lean: the command that a word of the table spells. The spec's table gives no row any bits (every
row's encoding is empty), so no word spells a command.
-/
namespace Sys2Proof

/-- The command that a table word of `nbits` bits spells: none, since the table gives no row any bits. -/
def decodeTableWord (_nbits _w : Nat) : Option Instr := none

end Sys2Proof
end

