-- ==== Sys2Proof/Machine/Regs.lean ====
section
/-!
DEFINITION. Machine/Regs.lean: the configuration registers of the spec's address map: the place of every register
(R437, R443 to R446), the place of every field, and one table row per register with its privileges (R8, R449), its
fields' access types (R7) and their reset values, each as the register tables of the chapters give them.
-/
set_option maxRecDepth 4000
namespace Sys2Proof.Machine

/-- A bit field of a 64-bit register: its lowest bit and its width. -/
structure Fld where
  lo : Nat
  w : Nat
  deriving DecidableEq, Repr

/-- The field's value in a register word. -/
def Fld.get (f : Fld) (x : Word) : Nat := x.toNat / 2 ^ f.lo % 2 ^ f.w

/-- The register word with the field replaced by the low bits of `v`. -/
def Fld.put (f : Fld) (x : Word) (v : Nat) : Word :=
  BitVec.ofNat 64 (x.toNat % 2 ^ f.lo + v % 2 ^ f.w * 2 ^ f.lo + x.toNat / 2 ^ (f.lo + f.w) * 2 ^ (f.lo + f.w))

/-- Access types of R7. -/
inductive Acc where
  | rw | ro | wo | w1c | rc | rws | fmp
  deriving DecidableEq, Repr

/-- Who may use a column of R443 to R446: a privilege level, the FMP alone, no access of the kind (R449), or a rule
of the register's own (set owner R132, mailbox party R231, lock level R203, counter permission R311). -/
inductive Acl where
  | p0 | p1 | p2 | fmp | closed | owner | lck | receiver | party | cnt
  deriving DecidableEq, Repr

/-- A block that holds registers (R437). -/
inductive Blk where
  | glb | stn (s : Nat) | ni (p : Nat) | fed (f : Nat)
  deriving DecidableEq, Repr

/-- One register, or one array of registers of up to two indices, of a block's index of R443 to R446. -/
structure RegRow where
  base : Nat
  n1 : Nat
  s1 : Nat
  n2 : Nat
  s2 : Nat
  rd : Acl
  wr : Acl
  reset : Nat
  flds : List (Fld × Acc)
  deriving DecidableEq, Repr

/-- Whether the offset names a register of the row: base + a * s1 + b * s2 with a < n1 and b < n2. -/
def RegRow.covers (r : RegRow) (off : Nat) : Bool :=
  r.base ≤ off && (off - r.base) / r.s1 < r.n1 && (off - r.base) % r.s1 % r.s2 == 0 &&
    (off - r.base) % r.s1 / r.s2 < r.n2

/-- The first index of the register the offset names in the row. -/
def RegRow.ix1 (r : RegRow) (off : Nat) : Nat := (off - r.base) / r.s1

/-- The second index of the register the offset names in the row. -/
def RegRow.ix2 (r : RegRow) (off : Nat) : Nat := (off - r.base) % r.s1 / r.s2

/-! ### Addresses (offsets in the configuration window, R437) -/
namespace A
/-- Base of station `s`. -/
abbrev stnBase (s : Nat) : Nat := 0x100000 + s * 0x10000
/-- Base of the NI of port `p`. -/
abbrev niBase (p : Nat) : Nat := 0x400000 + p * 0x10000
/-- Base of federation port `f`. -/
abbrev fedBase (f : Nat) : Nat := 0xD00000 + f * 0x10000

/-- GLB_VERSION -/
abbrev GLB_VERSION : Nat := 0x0
/-- GLB_FMP_IMAGE -/
abbrev GLB_FMP_IMAGE : Nat := 0xc00
/-- GLB_FMP_STATUS -/
abbrev GLB_FMP_STATUS : Nat := 0xc08
/-- GLB_JNL_STATUS -/
abbrev GLB_JNL_STATUS : Nat := 0xc20
/-- GLB_SINK -/
abbrev GLB_SINK : Nat := 0xc28
/-- GLB_FED_ID -/
abbrev GLB_FED_ID : Nat := 0xc40
/-- GLB_FED_TIME -/
abbrev GLB_FED_TIME : Nat := 0xc48
/-- GLB_MODE -/
abbrev GLB_MODE : Nat := 0xd00
/-- GLB_MODE_TIME -/
abbrev GLB_MODE_TIME : Nat := 0xd08
/-- GLB_BOOT_STATUS -/
abbrev GLB_BOOT_STATUS : Nat := 0xd10
/-- GLB_WIPE_STATUS -/
abbrev GLB_WIPE_STATUS : Nat := 0xd18
/-- GLB_LC -/
abbrev GLB_LC : Nat := 0xd20
/-- GLB_SOFT_RESET -/
abbrev GLB_SOFT_RESET : Nat := 0xd28
/-- GLB_TRAV_CTL -/
abbrev GLB_TRAV_CTL : Nat := 0xe00
/-- GLB_TRAV_STATUS -/
abbrev GLB_TRAV_STATUS : Nat := 0xe08
/-- GLB_TRAV_DRAIN -/
abbrev GLB_TRAV_DRAIN : Nat := 0xe10
/-- DAT_NOW -/
abbrev DAT_NOW : Nat := 0x1000
/-- DAT_CTL -/
abbrev DAT_CTL : Nat := 0x1008
/-- DAT_STATUS -/
abbrev DAT_STATUS : Nat := 0x1010
/-- DAT_ALIGN_TIME -/
abbrev DAT_ALIGN_TIME : Nat := 0x1018
/-- DAT_ALARM -/
abbrev DAT_ALARM (i : Nat) : Nat := 0x1020 + i * 0x8
/-- DAT_ALARM_CTL -/
abbrev DAT_ALARM_CTL : Nat := 0x1040
/-- DAT_MER_STATUS -/
abbrev DAT_MER_STATUS : Nat := 0x1048
/-- STK_CFG -/
abbrev STK_CFG : Nat := 0x2000
/-- STK_SUMMARY -/
abbrev STK_SUMMARY : Nat := 0x2008
/-- STK_TOTALS -/
abbrev STK_TOTALS : Nat := 0x2010
/-- STK_SET_CTL -/
abbrev STK_SET_CTL (i : Nat) : Nat := 0x2100 + i * 0x40
/-- STK_SET_T -/
abbrev STK_SET_T (i : Nat) : Nat := 0x2108 + i * 0x40
/-- STK_SET_STATUS -/
abbrev STK_SET_STATUS (i : Nat) : Nat := 0x2110 + i * 0x40
/-- STK_SET_EFF_T -/
abbrev STK_SET_EFF_T (i : Nat) : Nat := 0x2118 + i * 0x40
/-- STK_SET_CLOSE_TIME -/
abbrev STK_SET_CLOSE_TIME (i : Nat) : Nat := 0x2120 + i * 0x40
/-- STK_SET_COMMIT_TIME -/
abbrev STK_SET_COMMIT_TIME (i : Nat) : Nat := 0x2128 + i * 0x40
/-- STK_SET_FAULT -/
abbrev STK_SET_FAULT (i : Nat) : Nat := 0x2130 + i * 0x40
/-- GLB_STK_BIND -/
abbrev GLB_STK_BIND : Nat := 0x2800
/-- GLB_STK_STATUS -/
abbrev GLB_STK_STATUS : Nat := 0x2810
/-- GLB_STK_EXP -/
abbrev GLB_STK_EXP (i : Nat) : Nat := 0x2840 + i * 0x8
/-- GLB_STK_SET -/
abbrev GLB_STK_SET (i : Nat) : Nat := 0x2880 + i * 0x8
/-- LCK_CFG -/
abbrev LCK_CFG : Nat := 0x3000
/-- LCK_STATUS -/
abbrev LCK_STATUS : Nat := 0x3008
/-- LCK_ACQ -/
abbrev LCK_ACQ (i : Nat) : Nat := 0x4000 + i * 0x8
/-- LCK_PEEK -/
abbrev LCK_PEEK (i : Nat) : Nat := 0x4800 + i * 0x8
/-- STK_PART -/
abbrev STK_PART (i j : Nat) : Nat := 0x8000 + i * 0x1000 + j * 0x8
/-- STK_SHAD -/
abbrev STK_SHAD (i j : Nat) : Nat := 0x8800 + i * 0x1000 + j * 0x8
/-- MBX_NONEMPTY -/
abbrev MBX_NONEMPTY (i : Nat) : Nat := 0x10000 + i * 0x8
/-- MBX_TOTALS -/
abbrev MBX_TOTALS : Nat := 0x10010
/-- MBX_CH_CFG -/
abbrev MBX_CH_CFG (i : Nat) : Nat := 0x20000 + i * 0x100
/-- MBX_CH_CTL -/
abbrev MBX_CH_CTL (i : Nat) : Nat := 0x20008 + i * 0x100
/-- MBX_CH_STATUS -/
abbrev MBX_CH_STATUS (i : Nat) : Nat := 0x20010 + i * 0x100
/-- MBX_CH_HEAD -/
abbrev MBX_CH_HEAD (i : Nat) : Nat := 0x20018 + i * 0x100
/-- MBX_CH_TIME -/
abbrev MBX_CH_TIME (i : Nat) : Nat := 0x20020 + i * 0x100
/-- MBX_CH_MSG -/
abbrev MBX_CH_MSG (i j : Nat) : Nat := 0x20040 + i * 0x100 + j * 0x8
/-- EVT_STATUS -/
abbrev EVT_STATUS : Nat := 0x30000
/-- EVT_PEND -/
abbrev EVT_PEND (i : Nat) : Nat := 0x30100 + i * 0x8
/-- EVT_SRC_CFG -/
abbrev EVT_SRC_CFG (i : Nat) : Nat := 0x31000 + i * 0x8
/-- SRV_CTL -/
abbrev SRV_CTL : Nat := 0x40000
/-- SRV_STATUS -/
abbrev SRV_STATUS : Nat := 0x40008
/-- SRV_NEXT -/
abbrev SRV_NEXT : Nat := 0x40010
/-- SRV_LAST -/
abbrev SRV_LAST : Nat := 0x40018
/-- GLB_CNT -/
abbrev GLB_CNT (i : Nat) : Nat := 0x40100 + i * 0x8
/-- GLB_CNT_SHD -/
abbrev GLB_CNT_SHD (i : Nat) : Nat := 0x40300 + i * 0x8
/-- GLB_CNT_MODE -/
abbrev GLB_CNT_MODE : Nat := 0x40500
/-- GLB_CNT_PERM -/
abbrev GLB_CNT_PERM : Nat := 0x40508
/-- GLB_CNT_CLEAR -/
abbrev GLB_CNT_CLEAR : Nat := 0x40510
/-- SRV_TRACE_CTL -/
abbrev SRV_TRACE_CTL : Nat := 0x40600
/-- SRV_TRACE_STATUS -/
abbrev SRV_TRACE_STATUS : Nat := 0x40608
/-- THM_CFG -/
abbrev THM_CFG : Nat := 0x50000
/-- THM_STATUS -/
abbrev THM_STATUS : Nat := 0x50008
/-- THM_THROTTLE -/
abbrev THM_THROTTLE : Nat := 0x50010
/-- THM_COMMIT_ADDR -/
abbrev THM_COMMIT_ADDR : Nat := 0x50018
/-- THM_COMMIT_WORD -/
abbrev THM_COMMIT_WORD : Nat := 0x50020
/-- THM_TRIP_TIME -/
abbrev THM_TRIP_TIME : Nat := 0x50028
/-- GLB_PWR_MAP -/
abbrev GLB_PWR_MAP (i : Nat) : Nat := 0x50030 + i * 0x8
/-- THM_SENSOR -/
abbrev THM_SENSOR (i : Nat) : Nat := 0x50100 + i * 0x8
/-- END_CFG -/
abbrev END_CFG : Nat := 0x60000
/-- END_STATUS -/
abbrev END_STATUS : Nat := 0x60008
/-- END_VREQ -/
abbrev END_VREQ : Nat := 0x60010
/-- GLB_FED_MAP -/
abbrev GLB_FED_MAP (i : Nat) : Nat := 0x70000 + i * 0x8
/-- STN_ID -/
abbrev STN_ID (s : Nat) : Nat := stnBase s + 0x0
/-- STN_DATUM -/
abbrev STN_DATUM (s : Nat) : Nat := stnBase s + 0x100
/-- STN_MER_DELAY -/
abbrev STN_MER_DELAY (s : Nat) : Nat := stnBase s + 0x108
/-- STN_CLASS_WEIGHT -/
abbrev STN_CLASS_WEIGHT (s : Nat) : Nat := stnBase s + 0x200
/-- STN_LINK -/
abbrev STN_LINK (s i : Nat) : Nat := stnBase s + 0x300 + i * 0x8
/-- STN_LANE_RX -/
abbrev STN_LANE_RX (s i : Nat) : Nat := stnBase s + 0x340 + i * 0x8
/-- STN_LANE_TX -/
abbrev STN_LANE_TX (s i : Nat) : Nat := stnBase s + 0x370 + i * 0x8
/-- STN_LINK_ERR -/
abbrev STN_LINK_ERR (s i : Nat) : Nat := stnBase s + 0x3a0 + i * 0x8
/-- STN_VC_OCC -/
abbrev STN_VC_OCC (s i : Nat) : Nat := stnBase s + 0x400 + i * 0x8
/-- STN_VC_CRED -/
abbrev STN_VC_CRED (s i : Nat) : Nat := stnBase s + 0x480 + i * 0x8
/-- STN_ROUTE_ERR -/
abbrev STN_ROUTE_ERR (s : Nat) : Nat := stnBase s + 0x500
/-- STN_TRAV_CTL -/
abbrev STN_TRAV_CTL (s : Nat) : Nat := stnBase s + 0x600
/-- STN_TRAV_STATUS -/
abbrev STN_TRAV_STATUS (s : Nat) : Nat := stnBase s + 0x608
/-- STN_PLAT_CTL -/
abbrev STN_PLAT_CTL (s i : Nat) : Nat := stnBase s + 0x700 + i * 0x8
/-- STN_PLAT_PATCH -/
abbrev STN_PLAT_PATCH (s : Nat) : Nat := stnBase s + 0x760
/-- STN_PLAT_PATCH_TIME -/
abbrev STN_PLAT_PATCH_TIME (s : Nat) : Nat := stnBase s + 0x768
/-- STN_GERR -/
abbrev STN_GERR (s : Nat) : Nat := stnBase s + 0x770
/-- STN_HORIZON -/
abbrev STN_HORIZON (s : Nat) : Nat := stnBase s + 0x778
/-- STN_STK_BIND -/
abbrev STN_STK_BIND (s : Nat) : Nat := stnBase s + 0x800
/-- STN_STK_STATUS -/
abbrev STN_STK_STATUS (s : Nat) : Nat := stnBase s + 0x810
/-- STN_STK_EXP -/
abbrev STN_STK_EXP (s i : Nat) : Nat := stnBase s + 0x840 + i * 0x8
/-- STN_STK_SET -/
abbrev STN_STK_SET (s i : Nat) : Nat := stnBase s + 0x880 + i * 0x8
/-- STN_EVT_CAUSE -/
abbrev STN_EVT_CAUSE (s : Nat) : Nat := stnBase s + 0x900
/-- STN_EVT_EN -/
abbrev STN_EVT_EN (s : Nat) : Nat := stnBase s + 0x908
/-- STN_SINK -/
abbrev STN_SINK (s : Nat) : Nat := stnBase s + 0x910
/-- STN_PWR_CTL -/
abbrev STN_PWR_CTL (s : Nat) : Nat := stnBase s + 0xa00
/-- STN_PWR_STATUS -/
abbrev STN_PWR_STATUS (s : Nat) : Nat := stnBase s + 0xa08
/-- END_BENCH -/
abbrev END_BENCH (s i : Nat) : Nat := stnBase s + 0xb00 + i * 0x8
/-- END_STN_STATUS -/
abbrev END_STN_STATUS (s : Nat) : Nat := stnBase s + 0xb80
/-- END_STN_REPLAN -/
abbrev END_STN_REPLAN (s : Nat) : Nat := stnBase s + 0xb88
/-- END_LANE -/
abbrev END_LANE (s i : Nat) : Nat := stnBase s + 0xc00 + i * 0x8
/-- END_LANE_TROUBLE -/
abbrev END_LANE_TROUBLE (s i : Nat) : Nat := stnBase s + 0xc40 + i * 0x8
/-- STN_CNT -/
abbrev STN_CNT (s i : Nat) : Nat := stnBase s + 0x4000 + i * 0x8
/-- STN_CNT_MODE -/
abbrev STN_CNT_MODE (s : Nat) : Nat := stnBase s + 0x4200
/-- STN_CNT_PERM -/
abbrev STN_CNT_PERM (s : Nat) : Nat := stnBase s + 0x4208
/-- STN_CNT_CLEAR -/
abbrev STN_CNT_CLEAR (s : Nat) : Nat := stnBase s + 0x4210
/-- STN_SRV_SEQ -/
abbrev STN_SRV_SEQ (s : Nat) : Nat := stnBase s + 0x4218
/-- STN_PROBE_FILTER -/
abbrev STN_PROBE_FILTER (s : Nat) : Nat := stnBase s + 0x4300
/-- STN_PROBE_ACTION -/
abbrev STN_PROBE_ACTION (s : Nat) : Nat := stnBase s + 0x4308
/-- STN_PROBE_STATUS -/
abbrev STN_PROBE_STATUS (s : Nat) : Nat := stnBase s + 0x4310
/-- NI_DATUM -/
abbrev NI_DATUM (p : Nat) : Nat := niBase p + 0x100
/-- NI_TRAV_CTL -/
abbrev NI_TRAV_CTL (p : Nat) : Nat := niBase p + 0x600
/-- NI_TRAV_STATUS -/
abbrev NI_TRAV_STATUS (p : Nat) : Nat := niBase p + 0x608
/-- NI_TRAV_DRAIN -/
abbrev NI_TRAV_DRAIN (p : Nat) : Nat := niBase p + 0x610
/-- NI_ROUTE_HOME -/
abbrev NI_ROUTE_HOME (p : Nat) : Nat := niBase p + 0x618
/-- NI_ROUTE_CTL -/
abbrev NI_ROUTE_CTL (p : Nat) : Nat := niBase p + 0x620
/-- NI_ROUTE_STATUS -/
abbrev NI_ROUTE_STATUS (p : Nat) : Nat := niBase p + 0x628
/-- NI_CHAIN_CTL -/
abbrev NI_CHAIN_CTL (p : Nat) : Nat := niBase p + 0x700
/-- NI_CHAIN_STATUS -/
abbrev NI_CHAIN_STATUS (p : Nat) : Nat := niBase p + 0x708
/-- NI_CHAIN_PROBE_TX -/
abbrev NI_CHAIN_PROBE_TX (p : Nat) : Nat := niBase p + 0x710
/-- NI_CHAIN_PROBE_RX -/
abbrev NI_CHAIN_PROBE_RX (p : Nat) : Nat := niBase p + 0x718
/-- NI_CHAIN_PROBE_RXID -/
abbrev NI_CHAIN_PROBE_RXID (p : Nat) : Nat := niBase p + 0x720
/-- NI_CHAIN_POOL -/
abbrev NI_CHAIN_POOL (p : Nat) : Nat := niBase p + 0x728
/-- NI_CHAIN_SRC_CFG -/
abbrev NI_CHAIN_SRC_CFG (p i : Nat) : Nat := niBase p + 0x800 + i * 0x8
/-- NI_CHAIN_SRC_SCH -/
abbrev NI_CHAIN_SRC_SCH (p i : Nat) : Nat := niBase p + 0xa00 + i * 0x8
/-- NI_CHAIN_SRC_STAT -/
abbrev NI_CHAIN_SRC_STAT (p i : Nat) : Nat := niBase p + 0xc00 + i * 0x8
/-- NI_CHAIN_DST_CFG -/
abbrev NI_CHAIN_DST_CFG (p i : Nat) : Nat := niBase p + 0xe00 + i * 0x8
/-- NI_CHAIN_DST_STAT -/
abbrev NI_CHAIN_DST_STAT (p i : Nat) : Nat := niBase p + 0x1000 + i * 0x8
/-- NI_STATE_STATUS -/
abbrev NI_STATE_STATUS (p : Nat) : Nat := niBase p + 0x1200
/-- NI_STATE_COUNT_A -/
abbrev NI_STATE_COUNT_A (p : Nat) : Nat := niBase p + 0x1208
/-- NI_STATE_COUNT_B -/
abbrev NI_STATE_COUNT_B (p : Nat) : Nat := niBase p + 0x1210
/-- NI_STATE_CFG -/
abbrev NI_STATE_CFG (p i : Nat) : Nat := niBase p + 0x1400 + i * 0x8
/-- NI_STATE_STAMP -/
abbrev NI_STATE_STAMP (p i : Nat) : Nat := niBase p + 0x1c00 + i * 0x8
/-- NI_CLASS_MAP -/
abbrev NI_CLASS_MAP (p : Nat) : Nat := niBase p + 0x2400
/-- NI_WFQ_WEIGHT -/
abbrev NI_WFQ_WEIGHT (p : Nat) : Nat := niBase p + 0x2408
/-- NI_WFQ_VTIME -/
abbrev NI_WFQ_VTIME (p : Nat) : Nat := niBase p + 0x2410
/-- NI_QUEUE_DEPTH -/
abbrev NI_QUEUE_DEPTH (p : Nat) : Nat := niBase p + 0x2418
/-- NI_SHAPE_CTL -/
abbrev NI_SHAPE_CTL (p : Nat) : Nat := niBase p + 0x2440
/-- NI_SHAPE_RATE -/
abbrev NI_SHAPE_RATE (p i : Nat) : Nat := niBase p + 0x2480 + i * 0x8
/-- NI_SHAPE_SIZE -/
abbrev NI_SHAPE_SIZE (p i : Nat) : Nat := niBase p + 0x24c0 + i * 0x8
/-- NI_SHAPE_LEVEL -/
abbrev NI_SHAPE_LEVEL (p i : Nat) : Nat := niBase p + 0x2500 + i * 0x8
/-- NI_SLUICE_CTL -/
abbrev NI_SLUICE_CTL (p : Nat) : Nat := niBase p + 0x2600
/-- NI_SLUICE_STATUS -/
abbrev NI_SLUICE_STATUS (p : Nat) : Nat := niBase p + 0x2608
/-- NI_SLUICE_BASE -/
abbrev NI_SLUICE_BASE (p : Nat) : Nat := niBase p + 0x2610
/-- NI_SLUICE_START -/
abbrev NI_SLUICE_START (p : Nat) : Nat := niBase p + 0x2618
/-- NI_SLUICE_CYCLE -/
abbrev NI_SLUICE_CYCLE (p : Nat) : Nat := niBase p + 0x2620
/-- NI_SLUICE_ADMIN -/
abbrev NI_SLUICE_ADMIN (p i : Nat) : Nat := niBase p + 0x2700 + i * 0x8
/-- NI_SLUICE_OPER -/
abbrev NI_SLUICE_OPER (p i : Nat) : Nat := niBase p + 0x2800 + i * 0x8
/-- NI_HIST_CTL -/
abbrev NI_HIST_CTL (p : Nat) : Nat := niBase p + 0x2900
/-- NI_HIST_DEPTH -/
abbrev NI_HIST_DEPTH (p i : Nat) : Nat := niBase p + 0x2940 + i * 0x8
/-- NI_HIST_DELAY -/
abbrev NI_HIST_DELAY (p i : Nat) : Nat := niBase p + 0x2980 + i * 0x8
/-- NI_HIST_STATUS -/
abbrev NI_HIST_STATUS (p : Nat) : Nat := niBase p + 0x29c0
/-- NI_MERGE_CTL -/
abbrev NI_MERGE_CTL (p : Nat) : Nat := niBase p + 0x2a00
/-- NI_MERGE_STATUS -/
abbrev NI_MERGE_STATUS (p : Nat) : Nat := niBase p + 0x2a08
/-- NI_BAR_STATUS -/
abbrev NI_BAR_STATUS (p : Nat) : Nat := niBase p + 0x2a10
/-- NI_RESP_POOL -/
abbrev NI_RESP_POOL (p : Nat) : Nat := niBase p + 0x2a18
/-- NI_EXCL_CTL -/
abbrev NI_EXCL_CTL (p : Nat) : Nat := niBase p + 0x2a20
/-- NI_EXCL_STATUS -/
abbrev NI_EXCL_STATUS (p : Nat) : Nat := niBase p + 0x2a28
/-- NI_BAR_FENCE -/
abbrev NI_BAR_FENCE (p i : Nat) : Nat := niBase p + 0x2a40 + i * 0x8
/-- NI_STK_BIND -/
abbrev NI_STK_BIND (p : Nat) : Nat := niBase p + 0x2b00
/-- NI_STK_CTL -/
abbrev NI_STK_CTL (p : Nat) : Nat := niBase p + 0x2b08
/-- NI_STK_STATUS -/
abbrev NI_STK_STATUS (p : Nat) : Nat := niBase p + 0x2b10
/-- NI_STK_EXP -/
abbrev NI_STK_EXP (p i : Nat) : Nat := niBase p + 0x2b40 + i * 0x8
/-- NI_STK_SET -/
abbrev NI_STK_SET (p i : Nat) : Nat := niBase p + 0x2b80 + i * 0x8
/-- NI_REGION_BASE -/
abbrev NI_REGION_BASE (p i : Nat) : Nat := niBase p + 0x3000 + i * 0x20
/-- NI_REGION_LIMIT -/
abbrev NI_REGION_LIMIT (p i : Nat) : Nat := niBase p + 0x3008 + i * 0x20
/-- NI_REGION_TBASE -/
abbrev NI_REGION_TBASE (p i : Nat) : Nat := niBase p + 0x3010 + i * 0x20
/-- NI_REGION_CFG -/
abbrev NI_REGION_CFG (p i : Nat) : Nat := niBase p + 0x3018 + i * 0x20
/-- NI_MONITOR_LINE -/
abbrev NI_MONITOR_LINE (p i : Nat) : Nat := niBase p + 0x3400 + i * 0x8
/-- NI_MONITOR_OWN -/
abbrev NI_MONITOR_OWN (p i : Nat) : Nat := niBase p + 0x3600 + i * 0x8
/-- NI_DESC -/
abbrev NI_DESC (p i : Nat) : Nat := niBase p + 0x3800 + i * 0x8
/-- NI_PORT_CTL -/
abbrev NI_PORT_CTL (p : Nat) : Nat := niBase p + 0x3900
/-- NI_PORT_STATUS -/
abbrev NI_PORT_STATUS (p : Nat) : Nat := niBase p + 0x3908
/-- NI_PORT_ERR -/
abbrev NI_PORT_ERR (p : Nat) : Nat := niBase p + 0x3910
/-- NI_PORT_ERR_CAP -/
abbrev NI_PORT_ERR_CAP (p : Nat) : Nat := niBase p + 0x3918
/-- NI_CTL -/
abbrev NI_CTL (p : Nat) : Nat := niBase p + 0x3a00
/-- NI_TIMEOUT -/
abbrev NI_TIMEOUT (p : Nat) : Nat := niBase p + 0x3a08
/-- NI_SINK -/
abbrev NI_SINK (p : Nat) : Nat := niBase p + 0x3a10
/-- NI_TROUBLE0 -/
abbrev NI_TROUBLE0 (p : Nat) : Nat := niBase p + 0x3a18
/-- NI_TROUBLE1 -/
abbrev NI_TROUBLE1 (p : Nat) : Nat := niBase p + 0x3a20
/-- NI_ERR_ICAP_INFO -/
abbrev NI_ERR_ICAP_INFO (p : Nat) : Nat := niBase p + 0x3a28
/-- NI_ERR_ICAP_ADDR -/
abbrev NI_ERR_ICAP_ADDR (p : Nat) : Nat := niBase p + 0x3a30
/-- NI_ERR_ICAP_TIME -/
abbrev NI_ERR_ICAP_TIME (p : Nat) : Nat := niBase p + 0x3a38
/-- NI_ERR_TCAP_INFO -/
abbrev NI_ERR_TCAP_INFO (p : Nat) : Nat := niBase p + 0x3a40
/-- NI_ERR_TCAP_ADDR -/
abbrev NI_ERR_TCAP_ADDR (p : Nat) : Nat := niBase p + 0x3a48
/-- NI_ERR_TCAP_TIME -/
abbrev NI_ERR_TCAP_TIME (p : Nat) : Nat := niBase p + 0x3a50
/-- NI_EVT_CAUSE -/
abbrev NI_EVT_CAUSE (p : Nat) : Nat := niBase p + 0x3a58
/-- NI_EVT_EN -/
abbrev NI_EVT_EN (p : Nat) : Nat := niBase p + 0x3a60
/-- NI_CNT -/
abbrev NI_CNT (p i : Nat) : Nat := niBase p + 0x4000 + i * 0x8
/-- NI_CNT_MODE -/
abbrev NI_CNT_MODE (p : Nat) : Nat := niBase p + 0x4200
/-- NI_CNT_PERM -/
abbrev NI_CNT_PERM (p : Nat) : Nat := niBase p + 0x4208
/-- NI_CNT_CLEAR -/
abbrev NI_CNT_CLEAR (p : Nat) : Nat := niBase p + 0x4210
/-- NI_SRV_SEQ -/
abbrev NI_SRV_SEQ (p : Nat) : Nat := niBase p + 0x4218
/-- NI_PROBE_FILTER -/
abbrev NI_PROBE_FILTER (p : Nat) : Nat := niBase p + 0x4300
/-- NI_PROBE_ACTION -/
abbrev NI_PROBE_ACTION (p : Nat) : Nat := niBase p + 0x4308
/-- NI_PROBE_STATUS -/
abbrev NI_PROBE_STATUS (p : Nat) : Nat := niBase p + 0x4310
/-- NI_TAG_CTL -/
abbrev NI_TAG_CTL (p : Nat) : Nat := niBase p + 0x4400
/-- NI_TAG_STATUS -/
abbrev NI_TAG_STATUS (p : Nat) : Nat := niBase p + 0x4408
/-- NI_DOM -/
abbrev NI_DOM (p : Nat) : Nat := niBase p + 0x4800
/-- NI_ENUM -/
abbrev NI_ENUM (p : Nat) : Nat := niBase p + 0x4900
/-- FED_DATUM -/
abbrev FED_DATUM (f : Nat) : Nat := fedBase f + 0x100
/-- FED_CTL -/
abbrev FED_CTL (f : Nat) : Nat := fedBase f + 0x200
/-- FED_STATUS -/
abbrev FED_STATUS (f : Nat) : Nat := fedBase f + 0x208
/-- FED_TT_OFFSET -/
abbrev FED_TT_OFFSET (f : Nat) : Nat := fedBase f + 0x210
/-- FED_TT_DELAY -/
abbrev FED_TT_DELAY (f : Nat) : Nat := fedBase f + 0x218
/-- FED_FWD_MASK -/
abbrev FED_FWD_MASK (f : Nat) : Nat := fedBase f + 0x220
/-- FED_XFER -/
abbrev FED_XFER (f : Nat) : Nat := fedBase f + 0x228
/-- FED_SINK -/
abbrev FED_SINK (f : Nat) : Nat := fedBase f + 0x230
/-- FED_POLICE_RATE -/
abbrev FED_POLICE_RATE (f : Nat) : Nat := fedBase f + 0x400
/-- FED_POLICE_SIZE -/
abbrev FED_POLICE_SIZE (f : Nat) : Nat := fedBase f + 0x408
/-- FED_POLICE_LEVEL -/
abbrev FED_POLICE_LEVEL (f : Nat) : Nat := fedBase f + 0x410
/-- FED_POLICE_STATUS -/
abbrev FED_POLICE_STATUS (f : Nat) : Nat := fedBase f + 0x418
/-- FED_EVT_CAUSE -/
abbrev FED_EVT_CAUSE (f : Nat) : Nat := fedBase f + 0x500
/-- FED_EVT_EN -/
abbrev FED_EVT_EN (f : Nat) : Nat := fedBase f + 0x508
/-- FED_TRAV_CTL -/
abbrev FED_TRAV_CTL (f : Nat) : Nat := fedBase f + 0x600
/-- FED_TRAV_STATUS -/
abbrev FED_TRAV_STATUS (f : Nat) : Nat := fedBase f + 0x608
/-- FED_TRAV_DRAIN -/
abbrev FED_TRAV_DRAIN (f : Nat) : Nat := fedBase f + 0x610
/-- FED_CHAIN_SRC_CFG -/
abbrev FED_CHAIN_SRC_CFG (f i : Nat) : Nat := fedBase f + 0x800 + i * 0x8
/-- FED_CHAIN_SRC_SCH -/
abbrev FED_CHAIN_SRC_SCH (f i : Nat) : Nat := fedBase f + 0xa00 + i * 0x8
/-- FED_CHAIN_SRC_STAT -/
abbrev FED_CHAIN_SRC_STAT (f i : Nat) : Nat := fedBase f + 0xc00 + i * 0x8
/-- FED_CHAIN_DST_CFG -/
abbrev FED_CHAIN_DST_CFG (f i : Nat) : Nat := fedBase f + 0xe00 + i * 0x8
/-- FED_CHAIN_DST_STAT -/
abbrev FED_CHAIN_DST_STAT (f i : Nat) : Nat := fedBase f + 0x1000 + i * 0x8
/-- FED_STK_BIND -/
abbrev FED_STK_BIND (f : Nat) : Nat := fedBase f + 0x1800
/-- FED_STK_STATUS -/
abbrev FED_STK_STATUS (f : Nat) : Nat := fedBase f + 0x1810
/-- FED_STK_EXP -/
abbrev FED_STK_EXP (f i : Nat) : Nat := fedBase f + 0x1840 + i * 0x8
/-- FED_STK_SET -/
abbrev FED_STK_SET (f i : Nat) : Nat := fedBase f + 0x1880 + i * 0x8
end A

/-! ### Fields -/
namespace F
abbrev GLB_VERSION_RELEASE : Fld := ⟨0, 16⟩
abbrev GLB_VERSION_PARAMSET : Fld := ⟨16, 16⟩
abbrev GLB_VERSION_STATIONS : Fld := ⟨32, 8⟩
abbrev GLB_VERSION_PORTS : Fld := ⟨40, 8⟩
abbrev GLB_VERSION_FEDPORTS : Fld := ⟨48, 4⟩
abbrev GLB_FMP_IMAGE_SLOT : Fld := ⟨0, 1⟩
abbrev GLB_FMP_STATUS_STATE : Fld := ⟨0, 3⟩
abbrev GLB_FMP_STATUS_SLOT_RUN : Fld := ⟨3, 1⟩
abbrev GLB_FMP_STATUS_REVERTED : Fld := ⟨4, 1⟩
abbrev GLB_FMP_STATUS_TICKETS : Fld := ⟨8, 7⟩
abbrev GLB_FMP_STATUS_HEARTBEAT : Fld := ⟨16, 16⟩
abbrev GLB_FMP_STATUS_FW_VERSION : Fld := ⟨32, 32⟩
abbrev GLB_JNL_STATUS_NEXT_SEQ : Fld := ⟨0, 22⟩
abbrev GLB_JNL_STATUS_ACTIVE : Fld := ⟨22, 1⟩
abbrev GLB_JNL_STATUS_FAULT : Fld := ⟨23, 1⟩
abbrev GLB_JNL_STATUS_QUEUED : Fld := ⟨24, 7⟩
abbrev GLB_JNL_STATUS_DROPPED : Fld := ⟨32, 16⟩
abbrev GLB_JNL_STATUS_TORN_FOUND : Fld := ⟨48, 16⟩
abbrev GLB_SINK_MISFIT : Fld := ⟨0, 16⟩
abbrev GLB_FED_ID_INSTANCE : Fld := ⟨0, 10⟩
abbrev GLB_FED_ID_ROOT : Fld := ⟨10, 1⟩
abbrev GLB_FED_TIME_ROOT_OFS : Fld := ⟨0, 64⟩
abbrev GLB_MODE_MODE : Fld := ⟨0, 4⟩
abbrev GLB_MODE_PREV : Fld := ⟨4, 4⟩
abbrev GLB_MODE_CAUSE : Fld := ⟨16, 15⟩
abbrev GLB_MODE_CHANGES : Fld := ⟨32, 16⟩
abbrev GLB_MODE_TIME_INSTANT : Fld := ⟨0, 64⟩
abbrev GLB_BOOT_STATUS_STAGE : Fld := ⟨0, 4⟩
abbrev GLB_BOOT_STATUS_REASON : Fld := ⟨4, 4⟩
abbrev GLB_BOOT_STATUS_SLOT : Fld := ⟨8, 1⟩
abbrev GLB_BOOT_STATUS_FALLBACK : Fld := ⟨9, 1⟩
abbrev GLB_BOOT_STATUS_KIND : Fld := ⟨10, 2⟩
abbrev GLB_BOOT_STATUS_LC : Fld := ⟨12, 2⟩
abbrev GLB_BOOT_STATUS_SAFE_BOOT : Fld := ⟨14, 1⟩
abbrev GLB_BOOT_STATUS_TIME : Fld := ⟨32, 32⟩
abbrev GLB_WIPE_STATUS_DONE : Fld := ⟨0, 1⟩
abbrev GLB_WIPE_STATUS_CORE_FAIL : Fld := ⟨1, 1⟩
abbrev GLB_WIPE_STATUS_TRACE_FAIL : Fld := ⟨2, 1⟩
abbrev GLB_WIPE_STATUS_NI_FAILS : Fld := ⟨8, 8⟩
abbrev GLB_WIPE_STATUS_STN_FAILS : Fld := ⟨16, 6⟩
abbrev GLB_WIPE_STATUS_TIME : Fld := ⟨32, 32⟩
abbrev GLB_LC_INPUT : Fld := ⟨0, 2⟩
abbrev GLB_LC_EFFECTIVE : Fld := ⟨2, 2⟩
abbrev GLB_LC_BACKWARD : Fld := ⟨4, 1⟩
abbrev GLB_SOFT_RESET_KEY : Fld := ⟨0, 16⟩
abbrev GLB_TRAV_CTL_CUR : Fld := ⟨0, 2⟩
abbrev GLB_TRAV_STATUS_OUT0 : Fld := ⟨0, 16⟩
abbrev GLB_TRAV_STATUS_OUT1 : Fld := ⟨16, 16⟩
abbrev GLB_TRAV_STATUS_OUT2 : Fld := ⟨32, 16⟩
abbrev GLB_TRAV_STATUS_OUT3 : Fld := ⟨48, 16⟩
abbrev GLB_TRAV_DRAIN_DRAIN_BARS : Fld := ⟨0, 16⟩
abbrev GLB_TRAV_DRAIN_DRAIN_ERR : Fld := ⟨16, 16⟩
abbrev GLB_TRAV_DRAIN_LAST_OLD : Fld := ⟨32, 2⟩
abbrev GLB_TRAV_DRAIN_DRAINED : Fld := ⟨34, 1⟩
abbrev DAT_NOW_DATUM : Fld := ⟨0, 64⟩
abbrev DAT_CTL_ALIGN_GO : Fld := ⟨0, 1⟩
abbrev DAT_CTL_VERIFY_EN : Fld := ⟨1, 1⟩
abbrev DAT_CTL_VERIFY_PERIOD : Fld := ⟨8, 5⟩
abbrev DAT_STATUS_ALIGNED : Fld := ⟨0, 1⟩
abbrev DAT_STATUS_SLIP : Fld := ⟨1, 1⟩
abbrev DAT_STATUS_MER_DUE : Fld := ⟨2, 1⟩
abbrev DAT_STATUS_LAST_SITE : Fld := ⟨8, 8⟩
abbrev DAT_STATUS_SLIP_COUNT : Fld := ⟨16, 16⟩
abbrev DAT_STATUS_MER_DUE_COUNT : Fld := ⟨32, 16⟩
abbrev DAT_STATUS_MER_SBE_COUNT : Fld := ⟨48, 8⟩
abbrev DAT_STATUS_VOTE_FIX_COUNT : Fld := ⟨56, 8⟩
abbrev DAT_ALIGN_TIME_INSTANT : Fld := ⟨0, 64⟩
abbrev DAT_ALARM_INSTANT : Fld := ⟨0, 64⟩
abbrev DAT_ALARM_CTL_ARM : Fld := ⟨0, 4⟩
abbrev DAT_ALARM_CTL_FIRED : Fld := ⟨8, 4⟩
abbrev DAT_ALARM_CTL_LATE : Fld := ⟨16, 4⟩
abbrev DAT_MER_STATUS_PENDING : Fld := ⟨0, 4⟩
abbrev DAT_MER_STATUS_MAX_WAIT : Fld := ⟨8, 8⟩
abbrev DAT_MER_STATUS_LATE_COUNT : Fld := ⟨16, 16⟩
abbrev STK_CFG_RESERVE : Fld := ⟨0, 8⟩
abbrev STK_SUMMARY_STATE_0 : Fld := ⟨0, 4⟩
abbrev STK_SUMMARY_STATE_1 : Fld := ⟨4, 4⟩
abbrev STK_SUMMARY_STATE_2 : Fld := ⟨8, 4⟩
abbrev STK_SUMMARY_STATE_3 : Fld := ⟨12, 4⟩
abbrev STK_SUMMARY_STATE_4 : Fld := ⟨16, 4⟩
abbrev STK_SUMMARY_STATE_5 : Fld := ⟨20, 4⟩
abbrev STK_SUMMARY_STATE_6 : Fld := ⟨24, 4⟩
abbrev STK_SUMMARY_STATE_7 : Fld := ⟨28, 4⟩
abbrev STK_TOTALS_APPLIED : Fld := ⟨0, 16⟩
abbrev STK_TOTALS_ABORTED : Fld := ⟨16, 16⟩
abbrev STK_TOTALS_LATE : Fld := ⟨32, 16⟩
abbrev STK_TOTALS_STUCK : Fld := ⟨48, 16⟩
abbrev STK_SET_CTL_OP : Fld := ⟨0, 3⟩
abbrev STK_SET_CTL_MODE : Fld := ⟨4, 1⟩
abbrev STK_SET_CTL_LATE_POLICY : Fld := ⟨5, 1⟩
abbrev STK_SET_CTL_GRAN : Fld := ⟨8, 3⟩
abbrev STK_SET_T_INSTANT : Fld := ⟨0, 64⟩
abbrev STK_SET_STATUS_STATE : Fld := ⟨0, 4⟩
abbrev STK_SET_STATUS_RESULT : Fld := ⟨4, 3⟩
abbrev STK_SET_STATUS_LATE : Fld := ⟨7, 1⟩
abbrev STK_SET_STATUS_REASON : Fld := ⟨8, 4⟩
abbrev STK_SET_STATUS_SEQ_ERR : Fld := ⟨12, 1⟩
abbrev STK_SET_STATUS_OWNER : Fld := ⟨16, 18⟩
abbrev STK_SET_STATUS_PARTS : Fld := ⟨36, 8⟩
abbrev STK_SET_EFF_T_INSTANT : Fld := ⟨0, 64⟩
abbrev STK_SET_CLOSE_TIME_INSTANT : Fld := ⟨0, 64⟩
abbrev STK_SET_COMMIT_TIME_INSTANT : Fld := ⟨0, 64⟩
abbrev STK_SET_FAULT_STATION : Fld := ⟨0, 8⟩
abbrev GLB_STK_BIND_SET : Fld := ⟨0, 3⟩
abbrev GLB_STK_BIND_VALID : Fld := ⟨3, 1⟩
abbrev GLB_STK_STATUS_USED : Fld := ⟨0, 10⟩
abbrev GLB_STK_STATUS_HIGH : Fld := ⟨16, 10⟩
abbrev GLB_STK_STATUS_EXTRA : Fld := ⟨32, 16⟩
abbrev GLB_STK_STATUS_LOST : Fld := ⟨48, 16⟩
abbrev GLB_STK_EXP_CMD : Fld := ⟨0, 3⟩
abbrev GLB_STK_EXP_PART : Fld := ⟨3, 1⟩
abbrev GLB_STK_EXP_PRELOAD : Fld := ⟨4, 1⟩
abbrev GLB_STK_EXP_ASAP : Fld := ⟨5, 1⟩
abbrev GLB_STK_EXP_STAGED : Fld := ⟨8, 10⟩
abbrev GLB_STK_EXP_SHADOWS : Fld := ⟨18, 12⟩
abbrev GLB_STK_EXP_T_LOW : Fld := ⟨32, 32⟩
abbrev GLB_STK_SET_STATE : Fld := ⟨0, 3⟩
abbrev GLB_STK_SET_READY : Fld := ⟨3, 1⟩
abbrev GLB_STK_SET_FAULT : Fld := ⟨4, 1⟩
abbrev GLB_STK_SET_MISSED : Fld := ⟨5, 1⟩
abbrev GLB_STK_SET_FAULT_CODE : Fld := ⟨8, 4⟩
abbrev GLB_STK_SET_ACC : Fld := ⟨12, 10⟩
abbrev GLB_STK_SET_DONE : Fld := ⟨22, 10⟩
abbrev GLB_STK_SET_SHADOWS : Fld := ⟨32, 12⟩
abbrev GLB_STK_SET_REFUSED : Fld := ⟨44, 1⟩
abbrev LCK_CFG_MIN_PRIV : Fld := ⟨0, 2⟩
abbrev LCK_STATUS_BROKEN : Fld := ⟨0, 16⟩
abbrev LCK_STATUS_FORCED : Fld := ⟨16, 16⟩
abbrev LCK_STATUS_LAST_BROKEN : Fld := ⟨32, 8⟩
abbrev LCK_ACQ_RELEASE : Fld := ⟨0, 1⟩
abbrev LCK_ACQ_RESULT : Fld := ⟨0, 2⟩
abbrev LCK_ACQ_OWNER : Fld := ⟨8, 18⟩
abbrev LCK_ACQ_BACKOFF : Fld := ⟨32, 16⟩
abbrev LCK_PEEK_HELD : Fld := ⟨0, 1⟩
abbrev LCK_PEEK_OWNER : Fld := ⟨8, 18⟩
abbrev STK_PART_PART : Fld := ⟨0, 1⟩
abbrev STK_PART_STAGED : Fld := ⟨8, 10⟩
abbrev STK_SHAD_PART : Fld := ⟨0, 1⟩
abbrev STK_SHAD_SHADOWS : Fld := ⟨8, 12⟩
abbrev MBX_NONEMPTY_NONEMPTY : Fld := ⟨0, 64⟩
abbrev MBX_TOTALS_ACCEPTED : Fld := ⟨0, 32⟩
abbrev MBX_TOTALS_CROSSINGS : Fld := ⟨32, 16⟩
abbrev MBX_TOTALS_WAKES : Fld := ⟨48, 16⟩
abbrev MBX_CH_CFG_ENABLE : Fld := ⟨0, 1⟩
abbrev MBX_CH_CFG_WAKE : Fld := ⟨1, 1⟩
abbrev MBX_CH_CFG_ANY : Fld := ⟨2, 1⟩
abbrev MBX_CH_CFG_EMPTY_EV : Fld := ⟨3, 1⟩
abbrev MBX_CH_CFG_MIN_PRIV : Fld := ⟨4, 2⟩
abbrev MBX_CH_CFG_PAIR_VALID : Fld := ⟨6, 1⟩
abbrev MBX_CH_CFG_PAIR : Fld := ⟨8, 7⟩
abbrev MBX_CH_CFG_SENDER : Fld := ⟨16, 18⟩
abbrev MBX_CH_CFG_RECEIVER : Fld := ⟨36, 18⟩
abbrev MBX_CH_CTL_POP : Fld := ⟨0, 1⟩
abbrev MBX_CH_STATUS_COUNT : Fld := ⟨0, 3⟩
abbrev MBX_CH_STATUS_LANDED : Fld := ⟨3, 1⟩
abbrev MBX_CH_STATUS_WAKE_PEND : Fld := ⟨4, 1⟩
abbrev MBX_CH_STATUS_CROSS : Fld := ⟨5, 1⟩
abbrev MBX_CH_STATUS_SEQ_IN : Fld := ⟨8, 16⟩
abbrev MBX_CH_STATUS_FULL_REJ : Fld := ⟨24, 16⟩
abbrev MBX_CH_STATUS_REFUSED : Fld := ⟨40, 16⟩
abbrev MBX_CH_STATUS_DISCARD : Fld := ⟨56, 8⟩
abbrev MBX_CH_HEAD_SRC : Fld := ⟨0, 18⟩
abbrev MBX_CH_HEAD_PRIV : Fld := ⟨18, 2⟩
abbrev MBX_CH_HEAD_VALID : Fld := ⟨20, 1⟩
abbrev MBX_CH_HEAD_SEQ : Fld := ⟨24, 16⟩
abbrev MBX_CH_TIME_ARRIVAL : Fld := ⟨0, 64⟩
abbrev MBX_CH_MSG_BYTES : Fld := ⟨0, 64⟩
abbrev EVT_STATUS_IRQ : Fld := ⟨0, 16⟩
abbrev EVT_STATUS_EVM_SEQ : Fld := ⟨16, 16⟩
abbrev EVT_STATUS_EVM_QUEUE : Fld := ⟨32, 8⟩
abbrev EVT_STATUS_EVM_DROPS : Fld := ⟨48, 8⟩
abbrev EVT_STATUS_MERGED : Fld := ⟨56, 8⟩
abbrev EVT_PEND_PEND : Fld := ⟨0, 64⟩
abbrev EVT_SRC_CFG_EN : Fld := ⟨0, 1⟩
abbrev EVT_SRC_CFG_MODE : Fld := ⟨1, 1⟩
abbrev EVT_SRC_CFG_ACTION : Fld := ⟨2, 2⟩
abbrev EVT_SRC_CFG_LINE : Fld := ⟨4, 4⟩
abbrev EVT_SRC_CFG_TARGET : Fld := ⟨8, 18⟩
abbrev SRV_CTL_GO : Fld := ⟨0, 1⟩
abbrev SRV_CTL_CANCEL : Fld := ⟨1, 1⟩
abbrev SRV_STATUS_SEQ : Fld := ⟨0, 8⟩
abbrev SRV_STATUS_PENDING : Fld := ⟨8, 1⟩
abbrev SRV_STATUS_ARMED : Fld := ⟨9, 1⟩
abbrev SRV_STATUS_LATE : Fld := ⟨10, 1⟩
abbrev SRV_STATUS_SURVEYS : Fld := ⟨16, 32⟩
abbrev SRV_NEXT_INSTANT : Fld := ⟨0, 64⟩
abbrev SRV_LAST_INSTANT : Fld := ⟨0, 64⟩
abbrev GLB_CNT_COUNT : Fld := ⟨0, 48⟩
abbrev GLB_CNT_SAT : Fld := ⟨63, 1⟩
abbrev GLB_CNT_SHD_COUNT : Fld := ⟨0, 48⟩
abbrev GLB_CNT_SHD_SAT : Fld := ⟨63, 1⟩
abbrev GLB_CNT_MODE_EDGE : Fld := ⟨0, 64⟩
abbrev GLB_CNT_PERM_USER : Fld := ⟨0, 64⟩
abbrev GLB_CNT_CLEAR_CLEAR : Fld := ⟨0, 64⟩
abbrev SRV_TRACE_CTL_EN : Fld := ⟨0, 1⟩
abbrev SRV_TRACE_CTL_STOP : Fld := ⟨1, 1⟩
abbrev SRV_TRACE_CTL_CLEAR : Fld := ⟨2, 1⟩
abbrev SRV_TRACE_STATUS_WPTR : Fld := ⟨0, 17⟩
abbrev SRV_TRACE_STATUS_WRAPPED : Fld := ⟨17, 1⟩
abbrev SRV_TRACE_STATUS_FULL : Fld := ⟨18, 1⟩
abbrev SRV_TRACE_STATUS_FROZEN : Fld := ⟨19, 1⟩
abbrev SRV_TRACE_STATUS_DROPS : Fld := ⟨32, 32⟩
abbrev THM_CFG_WARN : Fld := ⟨0, 8⟩
abbrev THM_CFG_THROTTLE : Fld := ⟨8, 8⟩
abbrev THM_CFG_TRIP : Fld := ⟨16, 8⟩
abbrev THM_CFG_RATE : Fld := ⟨32, 8⟩
abbrev THM_STATUS_LEVEL : Fld := ⟨0, 2⟩
abbrev THM_STATUS_RATE : Fld := ⟨2, 1⟩
abbrev THM_STATUS_FAST : Fld := ⟨3, 1⟩
abbrev THM_STATUS_SAFE : Fld := ⟨4, 1⟩
abbrev THM_STATUS_SHUTDOWN_READY : Fld := ⟨5, 1⟩
abbrev THM_STATUS_COMMIT_FAIL : Fld := ⟨6, 1⟩
abbrev THM_STATUS_SUSPECT_FULL : Fld := ⟨7, 1⟩
abbrev THM_STATUS_TRIP_SRC : Fld := ⟨8, 2⟩
abbrev THM_STATUS_HOTTEST : Fld := ⟨16, 7⟩
abbrev THM_STATUS_HOT_READING : Fld := ⟨24, 12⟩
abbrev THM_STATUS_SUSPECTS : Fld := ⟨40, 5⟩
abbrev THM_THROTTLE_STAGE : Fld := ⟨0, 2⟩
abbrev THM_THROTTLE_APPLIED : Fld := ⟨8, 2⟩
abbrev THM_THROTTLE_CHANGES : Fld := ⟨16, 16⟩
abbrev THM_COMMIT_ADDR_ARMED : Fld := ⟨0, 1⟩
abbrev THM_COMMIT_ADDR_WORD : Fld := ⟨8, 32⟩
abbrev THM_COMMIT_WORD_VALUE : Fld := ⟨0, 64⟩
abbrev THM_TRIP_TIME_VALUE : Fld := ⟨0, 64⟩
abbrev GLB_PWR_MAP_STATES : Fld := ⟨0, 64⟩
abbrev THM_SENSOR_READING : Fld := ⟨0, 12⟩
abbrev THM_SENSOR_VALID : Fld := ⟨12, 1⟩
abbrev THM_SENSOR_SUSPECT : Fld := ⟨13, 1⟩
abbrev THM_SENSOR_EFFECTIVE : Fld := ⟨16, 12⟩
abbrev THM_SENSOR_RISE : Fld := ⟨32, 8⟩
abbrev END_CFG_SBE_LIMIT : Fld := ⟨0, 8⟩
abbrev END_CFG_MIN_EYE : Fld := ⟨8, 6⟩
abbrev END_CFG_DRIFT_LIMIT : Fld := ⟨16, 8⟩
abbrev END_CFG_PERIOD : Fld := ⟨24, 16⟩
abbrev END_CFG_GUARDS : Fld := ⟨40, 4⟩
abbrev END_CFG_AUTO : Fld := ⟨44, 1⟩
abbrev END_STATUS_REPLAN_STN : Fld := ⟨0, 6⟩
abbrev END_STATUS_REPLAN_BUSY : Fld := ⟨6, 1⟩
abbrev END_STATUS_QUEUED : Fld := ⟨8, 5⟩
abbrev END_STATUS_LINK_TESTS : Fld := ⟨13, 3⟩
abbrev END_STATUS_STN_TEST : Fld := ⟨16, 1⟩
abbrev END_STATUS_SCANS : Fld := ⟨32, 32⟩
abbrev END_VREQ_STEPS : Fld := ⟨0, 4⟩
abbrev END_VREQ_ACKED : Fld := ⟨4, 4⟩
abbrev END_VREQ_REQUESTS : Fld := ⟨16, 16⟩
abbrev END_VREQ_NOACK : Fld := ⟨32, 16⟩
abbrev GLB_FED_MAP_PORT : Fld := ⟨0, 4⟩
abbrev GLB_FED_MAP_VALID : Fld := ⟨4, 1⟩
abbrev STN_ID_STATION : Fld := ⟨0, 6⟩
abbrev STN_ID_X : Fld := ⟨8, 3⟩
abbrev STN_ID_Y : Fld := ⟨12, 3⟩
abbrev STN_ID_FPRESENT : Fld := ⟨16, 1⟩
abbrev STN_ID_FINDEX : Fld := ⟨20, 4⟩
abbrev STN_ID_GLOBAL_HUB : Fld := ⟨24, 1⟩
abbrev STN_DATUM_DATUM : Fld := ⟨0, 64⟩
abbrev STN_MER_DELAY_PROP : Fld := ⟨0, 5⟩
abbrev STN_MER_DELAY_COMP : Fld := ⟨8, 5⟩
abbrev STN_MER_DELAY_LOCAL : Fld := ⟨16, 5⟩
abbrev STN_CLASS_WEIGHT_W0 : Fld := ⟨0, 8⟩
abbrev STN_CLASS_WEIGHT_W1 : Fld := ⟨8, 8⟩
abbrev STN_CLASS_WEIGHT_W2 : Fld := ⟨16, 8⟩
abbrev STN_CLASS_WEIGHT_W3 : Fld := ⟨24, 8⟩
abbrev STN_CLASS_WEIGHT_W4 : Fld := ⟨32, 8⟩
abbrev STN_CLASS_WEIGHT_W5 : Fld := ⟨40, 8⟩
abbrev STN_LINK_STATE : Fld := ⟨0, 3⟩
abbrev STN_LINK_RX_GOOD : Fld := ⟨8, 5⟩
abbrev STN_LINK_TX_GOOD : Fld := ⟨16, 5⟩
abbrev STN_LINK_RESYNC_COUNT : Fld := ⟨24, 16⟩
abbrev STN_LANE_RX_FAILED : Fld := ⟨0, 22⟩
abbrev STN_LANE_TX_FAILED : Fld := ⟨0, 22⟩
abbrev STN_LINK_ERR_CECC_SBE : Fld := ⟨0, 16⟩
abbrev STN_LINK_ERR_DECC_SBE : Fld := ⟨16, 16⟩
abbrev STN_LINK_ERR_DECC_DUE : Fld := ⟨32, 16⟩
abbrev STN_LINK_ERR_CECC_DUE : Fld := ⟨48, 16⟩
abbrev STN_VC_OCC_REQ_A : Fld := ⟨0, 4⟩
abbrev STN_VC_OCC_REQ_B : Fld := ⟨4, 4⟩
abbrev STN_VC_OCC_RSP_A : Fld := ⟨8, 4⟩
abbrev STN_VC_OCC_RSP_B : Fld := ⟨12, 4⟩
abbrev STN_VC_OCC_MSG_A : Fld := ⟨16, 4⟩
abbrev STN_VC_OCC_MSG_B : Fld := ⟨20, 4⟩
abbrev STN_VC_OCC_MGT : Fld := ⟨24, 4⟩
abbrev STN_VC_CRED_REQ_A : Fld := ⟨0, 4⟩
abbrev STN_VC_CRED_REQ_B : Fld := ⟨4, 4⟩
abbrev STN_VC_CRED_RSP_A : Fld := ⟨8, 4⟩
abbrev STN_VC_CRED_RSP_B : Fld := ⟨12, 4⟩
abbrev STN_VC_CRED_MSG_A : Fld := ⟨16, 4⟩
abbrev STN_VC_CRED_MSG_B : Fld := ⟨20, 4⟩
abbrev STN_VC_CRED_MGT : Fld := ⟨24, 4⟩
abbrev STN_ROUTE_ERR_BADHOP : Fld := ⟨0, 16⟩
abbrev STN_ROUTE_ERR_TURN : Fld := ⟨16, 16⟩
abbrev STN_ROUTE_ERR_LINKDOWN : Fld := ⟨32, 16⟩
abbrev STN_ROUTE_ERR_HDR_DUE : Fld := ⟨48, 16⟩
abbrev STN_TRAV_CTL_CUR : Fld := ⟨0, 2⟩
abbrev STN_TRAV_CTL_OLD : Fld := ⟨4, 2⟩
abbrev STN_TRAV_CTL_OLD_VALID : Fld := ⟨6, 1⟩
abbrev STN_TRAV_CTL_RECONF : Fld := ⟨8, 1⟩
abbrev STN_TRAV_CTL_RETIRE_OLD : Fld := ⟨9, 1⟩
abbrev STN_TRAV_STATUS_HELD : Fld := ⟨0, 16⟩
abbrev STN_TRAV_STATUS_RELEASED : Fld := ⟨16, 16⟩
abbrev STN_TRAV_STATUS_STRAY : Fld := ⟨32, 16⟩
abbrev STN_TRAV_STATUS_HOLDING : Fld := ⟨48, 8⟩
abbrev STN_PLAT_CTL_BANK : Fld := ⟨0, 1⟩
abbrev STN_PLAT_CTL_LEN0 : Fld := ⟨4, 3⟩
abbrev STN_PLAT_CTL_LEN1 : Fld := ⟨8, 3⟩
abbrev STN_PLAT_CTL_LOCKED : Fld := ⟨12, 1⟩
abbrev STN_PLAT_CTL_RESV_COUNT : Fld := ⟨16, 11⟩
abbrev STN_PLAT_PATCH_PARCEL : Fld := ⟨0, 10⟩
abbrev STN_PLAT_PATCH_PLAT : Fld := ⟨10, 4⟩
abbrev STN_PLAT_PATCH_ENTRY : Fld := ⟨16, 16⟩
abbrev STN_PLAT_PATCH_GO : Fld := ⟨32, 1⟩
abbrev STN_PLAT_PATCH_PENDING : Fld := ⟨33, 1⟩
abbrev STN_PLAT_PATCH_TIME_FRAME : Fld := ⟨0, 64⟩
abbrev STN_GERR_ORPHAN : Fld := ⟨0, 16⟩
abbrev STN_GERR_MISMATCH : Fld := ⟨16, 16⟩
abbrev STN_GERR_DEADLINK : Fld := ⟨32, 16⟩
abbrev STN_GERR_LAST_CHAIN : Fld := ⟨48, 14⟩
abbrev STN_HORIZON_NEXT : Fld := ⟨0, 11⟩
abbrev STN_STK_BIND_SET : Fld := ⟨0, 3⟩
abbrev STN_STK_BIND_VALID : Fld := ⟨3, 1⟩
abbrev STN_STK_STATUS_USED : Fld := ⟨0, 10⟩
abbrev STN_STK_STATUS_HIGH : Fld := ⟨16, 10⟩
abbrev STN_STK_STATUS_EXTRA : Fld := ⟨32, 16⟩
abbrev STN_STK_STATUS_LOST : Fld := ⟨48, 16⟩
abbrev STN_STK_EXP_CMD : Fld := ⟨0, 3⟩
abbrev STN_STK_EXP_PART : Fld := ⟨3, 1⟩
abbrev STN_STK_EXP_PRELOAD : Fld := ⟨4, 1⟩
abbrev STN_STK_EXP_ASAP : Fld := ⟨5, 1⟩
abbrev STN_STK_EXP_STAGED : Fld := ⟨8, 10⟩
abbrev STN_STK_EXP_SHADOWS : Fld := ⟨18, 12⟩
abbrev STN_STK_EXP_T_LOW : Fld := ⟨32, 32⟩
abbrev STN_STK_SET_STATE : Fld := ⟨0, 3⟩
abbrev STN_STK_SET_READY : Fld := ⟨3, 1⟩
abbrev STN_STK_SET_FAULT : Fld := ⟨4, 1⟩
abbrev STN_STK_SET_MISSED : Fld := ⟨5, 1⟩
abbrev STN_STK_SET_FAULT_CODE : Fld := ⟨8, 4⟩
abbrev STN_STK_SET_ACC : Fld := ⟨12, 10⟩
abbrev STN_STK_SET_DONE : Fld := ⟨22, 10⟩
abbrev STN_STK_SET_SHADOWS : Fld := ⟨32, 12⟩
abbrev STN_STK_SET_REFUSED : Fld := ⟨44, 1⟩
abbrev STN_EVT_CAUSE_CAUSE : Fld := ⟨0, 16⟩
abbrev STN_EVT_EN_EN : Fld := ⟨0, 16⟩
abbrev STN_SINK_NR_SENT : Fld := ⟨0, 16⟩
abbrev STN_SINK_NR_LOST : Fld := ⟨16, 16⟩
abbrev STN_SINK_NR_QUEUE : Fld := ⟨32, 7⟩
abbrev STN_SINK_MISFIT : Fld := ⟨40, 16⟩
abbrev STN_PWR_CTL_DEEPEST : Fld := ⟨0, 2⟩
abbrev STN_PWR_CTL_SLEEP_REQ : Fld := ⟨2, 1⟩
abbrev STN_PWR_STATUS_STATE : Fld := ⟨0, 3⟩
abbrev STN_PWR_STATUS_BE_WAKES : Fld := ⟨16, 16⟩
abbrev STN_PWR_STATUS_SLEEPS : Fld := ⟨48, 16⟩
abbrev END_BENCH_READING : Fld := ⟨0, 16⟩
abbrev END_BENCH_BASE : Fld := ⟨16, 16⟩
abbrev END_BENCH_DRIFT : Fld := ⟨32, 16⟩
abbrev END_STN_STATUS_DRIFT : Fld := ⟨0, 16⟩
abbrev END_STN_STATUS_TRIGGERED : Fld := ⟨16, 1⟩
abbrev END_STN_STATUS_VACATED : Fld := ⟨17, 1⟩
abbrev END_STN_STATUS_BIST : Fld := ⟨18, 2⟩
abbrev END_STN_STATUS_BIST_BLOCK : Fld := ⟨20, 4⟩
abbrev END_STN_STATUS_REPLANS : Fld := ⟨32, 16⟩
abbrev END_STN_REPLAN_INSTANT : Fld := ⟨0, 64⟩
abbrev END_LANE_TEST : Fld := ⟨0, 22⟩
abbrev END_LANE_SOFT : Fld := ⟨22, 22⟩
abbrev END_LANE_WORST_EYE : Fld := ⟨44, 6⟩
abbrev END_LANE_WORST_LANE : Fld := ⟨50, 5⟩
abbrev END_LANE_WORST_SBE : Fld := ⟨56, 8⟩
abbrev END_LANE_TROUBLE_FAILS : Fld := ⟨0, 16⟩
abbrev END_LANE_TROUBLE_RESTORES : Fld := ⟨16, 16⟩
abbrev END_LANE_TROUBLE_FORCED : Fld := ⟨32, 16⟩
abbrev STN_CNT_COUNT : Fld := ⟨0, 48⟩
abbrev STN_CNT_SAT : Fld := ⟨63, 1⟩
abbrev STN_CNT_MODE_EDGE : Fld := ⟨0, 40⟩
abbrev STN_CNT_PERM_USER : Fld := ⟨0, 40⟩
abbrev STN_CNT_CLEAR_CLEAR : Fld := ⟨0, 40⟩
abbrev STN_SRV_SEQ_SEQ : Fld := ⟨0, 8⟩
abbrev STN_SRV_SEQ_VALID : Fld := ⟨8, 1⟩
abbrev STN_PROBE_FILTER_POINT : Fld := ⟨0, 4⟩
abbrev STN_PROBE_FILTER_CMD_EN : Fld := ⟨4, 1⟩
abbrev STN_PROBE_FILTER_CMD : Fld := ⟨5, 6⟩
abbrev STN_PROBE_FILTER_CLASS_EN : Fld := ⟨11, 1⟩
abbrev STN_PROBE_FILTER_CLASS : Fld := ⟨12, 3⟩
abbrev STN_PROBE_FILTER_TRAV_EN : Fld := ⟨15, 1⟩
abbrev STN_PROBE_FILTER_TRAV : Fld := ⟨16, 2⟩
abbrev STN_PROBE_FILTER_ERR : Fld := ⟨18, 1⟩
abbrev STN_PROBE_FILTER_TAGGED : Fld := ⟨19, 1⟩
abbrev STN_PROBE_FILTER_SRC_EN : Fld := ⟨20, 1⟩
abbrev STN_PROBE_FILTER_SRC : Fld := ⟨21, 18⟩
abbrev STN_PROBE_FILTER_DEST_EN : Fld := ⟨39, 1⟩
abbrev STN_PROBE_FILTER_DEST : Fld := ⟨40, 18⟩
abbrev STN_PROBE_ACTION_EN : Fld := ⟨0, 1⟩
abbrev STN_PROBE_ACTION_TRACE : Fld := ⟨1, 1⟩
abbrev STN_PROBE_ACTION_TAG : Fld := ⟨2, 1⟩
abbrev STN_PROBE_ACTION_FREEZE : Fld := ⟨3, 1⟩
abbrev STN_PROBE_ACTION_ONCE : Fld := ⟨4, 1⟩
abbrev STN_PROBE_ACTION_PRESCALE : Fld := ⟨8, 16⟩
abbrev STN_PROBE_STATUS_MATCHES : Fld := ⟨0, 32⟩
abbrev STN_PROBE_STATUS_FIRES : Fld := ⟨32, 16⟩
abbrev STN_PROBE_STATUS_SPENT : Fld := ⟨48, 1⟩
abbrev NI_DATUM_DATUM : Fld := ⟨0, 64⟩
abbrev NI_TRAV_CTL_CUR : Fld := ⟨0, 2⟩
abbrev NI_TRAV_STATUS_OUT0 : Fld := ⟨0, 16⟩
abbrev NI_TRAV_STATUS_OUT1 : Fld := ⟨16, 16⟩
abbrev NI_TRAV_STATUS_OUT2 : Fld := ⟨32, 16⟩
abbrev NI_TRAV_STATUS_OUT3 : Fld := ⟨48, 16⟩
abbrev NI_TRAV_DRAIN_DRAIN_BARS : Fld := ⟨0, 16⟩
abbrev NI_TRAV_DRAIN_DRAIN_ERR : Fld := ⟨16, 16⟩
abbrev NI_TRAV_DRAIN_LAST_OLD : Fld := ⟨32, 2⟩
abbrev NI_TRAV_DRAIN_DRAINED : Fld := ⟨34, 1⟩
abbrev NI_ROUTE_HOME_ROUTE : Fld := ⟨0, 64⟩
abbrev NI_ROUTE_CTL_INV_GO : Fld := ⟨0, 1⟩
abbrev NI_ROUTE_CTL_INV_TRAV : Fld := ⟨1, 2⟩
abbrev NI_ROUTE_CTL_INV_ALL : Fld := ⟨3, 1⟩
abbrev NI_ROUTE_STATUS_INV_BUSY : Fld := ⟨0, 1⟩
abbrev NI_ROUTE_STATUS_RQ_FILL : Fld := ⟨1, 1⟩
abbrev NI_ROUTE_STATUS_RS_FILL : Fld := ⟨2, 1⟩
abbrev NI_ROUTE_STATUS_LAST_NR_DEST : Fld := ⟨8, 18⟩
abbrev NI_ROUTE_STATUS_FILL_TIMEOUTS : Fld := ⟨32, 16⟩
abbrev NI_ROUTE_STATUS_NR_COUNT : Fld := ⟨48, 16⟩
abbrev NI_CHAIN_CTL_PROBE_IDX : Fld := ⟨0, 6⟩
abbrev NI_CHAIN_CTL_PROBE_GO : Fld := ⟨6, 1⟩
abbrev NI_CHAIN_CTL_PROBE_PEND : Fld := ⟨7, 1⟩
abbrev NI_CHAIN_STATUS_UNKNOWN : Fld := ⟨0, 16⟩
abbrev NI_CHAIN_PROBE_TX_INSTANT : Fld := ⟨0, 64⟩
abbrev NI_CHAIN_PROBE_RX_INSTANT : Fld := ⟨0, 64⟩
abbrev NI_CHAIN_PROBE_RXID_CHAIN : Fld := ⟨0, 14⟩
abbrev NI_CHAIN_PROBE_RXID_VALID : Fld := ⟨14, 1⟩
abbrev NI_CHAIN_PROBE_RXID_SENT : Fld := ⟨16, 48⟩
abbrev NI_CHAIN_POOL_SRC_ACTIVE : Fld := ⟨0, 7⟩
abbrev NI_CHAIN_POOL_DST_ACTIVE : Fld := ⟨8, 7⟩
abbrev NI_CHAIN_POOL_POOL_BYTES : Fld := ⟨16, 16⟩
abbrev NI_CHAIN_SRC_CFG_VALID : Fld := ⟨0, 1⟩
abbrev NI_CHAIN_SRC_CFG_FULL_POLICY : Fld := ⟨2, 1⟩
abbrev NI_CHAIN_SRC_CFG_CHAIN : Fld := ⟨4, 14⟩
abbrev NI_CHAIN_SRC_SCH_PERIOD : Fld := ⟨0, 3⟩
abbrev NI_CHAIN_SRC_SCH_OFFSET : Fld := ⟨4, 10⟩
abbrev NI_CHAIN_SRC_SCH_COUNT : Fld := ⟨16, 5⟩
abbrev NI_CHAIN_SRC_SCH_SPACING : Fld := ⟨24, 10⟩
abbrev NI_CHAIN_SRC_STAT_OCC : Fld := ⟨0, 5⟩
abbrev NI_CHAIN_SRC_STAT_SEQ : Fld := ⟨8, 6⟩
abbrev NI_CHAIN_SRC_STAT_DROPS : Fld := ⟨16, 16⟩
abbrev NI_CHAIN_SRC_STAT_MAX_OCC : Fld := ⟨32, 5⟩
abbrev NI_CHAIN_DST_CFG_VALID : Fld := ⟨0, 1⟩
abbrev NI_CHAIN_DST_CFG_MODE : Fld := ⟨1, 1⟩
abbrev NI_CHAIN_DST_CFG_CHAIN : Fld := ⟨4, 14⟩
abbrev NI_CHAIN_DST_CFG_SLOT : Fld := ⟨24, 8⟩
abbrev NI_CHAIN_DST_STAT_SEQ_EXP : Fld := ⟨0, 6⟩
abbrev NI_CHAIN_DST_STAT_OCC : Fld := ⟨8, 4⟩
abbrev NI_CHAIN_DST_STAT_LOST : Fld := ⟨16, 16⟩
abbrev NI_CHAIN_DST_STAT_DUE : Fld := ⟨32, 16⟩
abbrev NI_CHAIN_DST_STAT_OVERRUN : Fld := ⟨48, 16⟩
abbrev NI_STATE_STATUS_PENDING : Fld := ⟨0, 9⟩
abbrev NI_STATE_STATUS_HELD : Fld := ⟨16, 9⟩
abbrev NI_STATE_STATUS_LAST_STALE : Fld := ⟨32, 8⟩
abbrev NI_STATE_STATUS_STALE_SEEN : Fld := ⟨40, 1⟩
abbrev NI_STATE_STATUS_DELIVERED : Fld := ⟨48, 16⟩
abbrev NI_STATE_COUNT_A_OVERWRITE : Fld := ⟨0, 16⟩
abbrev NI_STATE_COUNT_A_STALE : Fld := ⟨16, 16⟩
abbrev NI_STATE_COUNT_A_BEHIND : Fld := ⟨32, 16⟩
abbrev NI_STATE_COUNT_A_DISCARD : Fld := ⟨48, 16⟩
abbrev NI_STATE_COUNT_B_UNSYNC : Fld := ⟨0, 16⟩
abbrev NI_STATE_COUNT_B_SPAN_ERR : Fld := ⟨16, 16⟩
abbrev NI_STATE_COUNT_B_FUTURE : Fld := ⟨32, 16⟩
abbrev NI_STATE_COUNT_B_DENIED : Fld := ⟨48, 16⟩
abbrev NI_STATE_CFG_EN : Fld := ⟨0, 1⟩
abbrev NI_STATE_CFG_SPUT_EN : Fld := ⟨1, 1⟩
abbrev NI_STATE_CFG_MIN_PRIV : Fld := ⟨2, 2⟩
abbrev NI_STATE_CFG_NOTIFY : Fld := ⟨4, 2⟩
abbrev NI_STATE_CFG_SPAN : Fld := ⟨8, 9⟩
abbrev NI_STATE_CFG_MAX_AGE : Fld := ⟨24, 24⟩
abbrev NI_STATE_STAMP_STAMP : Fld := ⟨0, 62⟩
abbrev NI_STATE_STAMP_STATE : Fld := ⟨62, 2⟩
abbrev NI_CLASS_MAP_CLASS0 : Fld := ⟨0, 3⟩
abbrev NI_CLASS_MAP_CLASS1 : Fld := ⟨4, 3⟩
abbrev NI_CLASS_MAP_CLASS2 : Fld := ⟨8, 3⟩
abbrev NI_CLASS_MAP_CLASS3 : Fld := ⟨12, 3⟩
abbrev NI_CLASS_MAP_CLASS4 : Fld := ⟨16, 3⟩
abbrev NI_CLASS_MAP_CLASS5 : Fld := ⟨20, 3⟩
abbrev NI_CLASS_MAP_CLASS6 : Fld := ⟨24, 3⟩
abbrev NI_CLASS_MAP_CLASS7 : Fld := ⟨28, 3⟩
abbrev NI_WFQ_WEIGHT_W0 : Fld := ⟨0, 8⟩
abbrev NI_WFQ_WEIGHT_W1 : Fld := ⟨8, 8⟩
abbrev NI_WFQ_WEIGHT_W2 : Fld := ⟨16, 8⟩
abbrev NI_WFQ_WEIGHT_W3 : Fld := ⟨24, 8⟩
abbrev NI_WFQ_WEIGHT_W4 : Fld := ⟨32, 8⟩
abbrev NI_WFQ_WEIGHT_W5 : Fld := ⟨40, 8⟩
abbrev NI_WFQ_VTIME_V : Fld := ⟨0, 32⟩
abbrev NI_QUEUE_DEPTH_DEPTH0 : Fld := ⟨0, 7⟩
abbrev NI_QUEUE_DEPTH_DEPTH1 : Fld := ⟨8, 7⟩
abbrev NI_QUEUE_DEPTH_DEPTH2 : Fld := ⟨16, 7⟩
abbrev NI_QUEUE_DEPTH_DEPTH3 : Fld := ⟨24, 7⟩
abbrev NI_QUEUE_DEPTH_DEPTH4 : Fld := ⟨32, 7⟩
abbrev NI_QUEUE_DEPTH_DEPTH5 : Fld := ⟨40, 7⟩
abbrev NI_QUEUE_DEPTH_DEPTH6 : Fld := ⟨48, 7⟩
abbrev NI_QUEUE_DEPTH_MGT : Fld := ⟨56, 4⟩
abbrev NI_SHAPE_CTL_EN : Fld := ⟨0, 7⟩
abbrev NI_SHAPE_CTL_RELOAD : Fld := ⟨8, 7⟩
abbrev NI_SHAPE_RATE_RATE_C : Fld := ⟨0, 17⟩
abbrev NI_SHAPE_RATE_RATE_P : Fld := ⟨32, 17⟩
abbrev NI_SHAPE_SIZE_SIZE_C : Fld := ⟨0, 12⟩
abbrev NI_SHAPE_SIZE_SIZE_P : Fld := ⟨16, 12⟩
abbrev NI_SHAPE_LEVEL_LEVEL_C : Fld := ⟨0, 32⟩
abbrev NI_SHAPE_LEVEL_LEVEL_P : Fld := ⟨32, 32⟩
abbrev NI_SLUICE_CTL_EN : Fld := ⟨0, 1⟩
abbrev NI_SLUICE_CTL_GO : Fld := ⟨1, 1⟩
abbrev NI_SLUICE_CTL_CANCEL : Fld := ⟨2, 1⟩
abbrev NI_SLUICE_CTL_ADMIN_LEN : Fld := ⟨8, 6⟩
abbrev NI_SLUICE_STATUS_PENDING : Fld := ⟨0, 1⟩
abbrev NI_SLUICE_STATUS_LATE_START : Fld := ⟨1, 1⟩
abbrev NI_SLUICE_STATUS_RUNNING : Fld := ⟨2, 1⟩
abbrev NI_SLUICE_STATUS_INDEX : Fld := ⟨8, 5⟩
abbrev NI_SLUICE_STATUS_SKIPPED : Fld := ⟨16, 32⟩
abbrev NI_SLUICE_BASE_INSTANT : Fld := ⟨0, 64⟩
abbrev NI_SLUICE_START_INSTANT : Fld := ⟨0, 64⟩
abbrev NI_SLUICE_CYCLE_CYCLE : Fld := ⟨0, 30⟩
abbrev NI_SLUICE_ADMIN_GATES : Fld := ⟨0, 7⟩
abbrev NI_SLUICE_ADMIN_DURATION : Fld := ⟨8, 24⟩
abbrev NI_SLUICE_OPER_GATES : Fld := ⟨0, 7⟩
abbrev NI_SLUICE_OPER_DURATION : Fld := ⟨8, 24⟩
abbrev NI_HIST_CTL_CLASS : Fld := ⟨0, 3⟩
abbrev NI_HIST_CTL_DEPTH_EXP : Fld := ⟨4, 5⟩
abbrev NI_HIST_CTL_DELAY_EXP : Fld := ⟨12, 4⟩
abbrev NI_HIST_CTL_FREEZE : Fld := ⟨16, 1⟩
abbrev NI_HIST_CTL_CLEAR : Fld := ⟨17, 1⟩
abbrev NI_HIST_DEPTH_COUNT : Fld := ⟨0, 48⟩
abbrev NI_HIST_DELAY_COUNT : Fld := ⟨0, 48⟩
abbrev NI_HIST_STATUS_MAX_DELAY : Fld := ⟨0, 24⟩
abbrev NI_HIST_STATUS_SKIPPED : Fld := ⟨32, 32⟩
abbrev NI_MERGE_CTL_WINDOW : Fld := ⟨0, 10⟩
abbrev NI_MERGE_CTL_FLUSH : Fld := ⟨10, 1⟩
abbrev NI_MERGE_STATUS_LINES : Fld := ⟨0, 8⟩
abbrev NI_MERGE_STATUS_EVICTS : Fld := ⟨16, 16⟩
abbrev NI_MERGE_STATUS_WRM_COUNT : Fld := ⟨32, 16⟩
abbrev NI_BAR_STATUS_STATE : Fld := ⟨0, 2⟩
abbrev NI_BAR_STATUS_QUEUED : Fld := ⟨2, 4⟩
abbrev NI_BAR_STATUS_PORT_BARS : Fld := ⟨8, 9⟩
abbrev NI_BAR_STATUS_LAST_STATUS : Fld := ⟨20, 4⟩
abbrev NI_BAR_STATUS_LAST_TAG : Fld := ⟨24, 12⟩
abbrev NI_BAR_STATUS_ERR_COUNT : Fld := ⟨48, 16⟩
abbrev NI_RESP_POOL_TAGS : Fld := ⟨0, 13⟩
abbrev NI_RESP_POOL_RESERVED : Fld := ⟨16, 17⟩
abbrev NI_EXCL_CTL_PROTECT : Fld := ⟨0, 16⟩
abbrev NI_EXCL_CTL_MAX_RETRY : Fld := ⟨16, 8⟩
abbrev NI_EXCL_CTL_LIFE : Fld := ⟨32, 16⟩
abbrev NI_EXCL_STATUS_NACK_SENT : Fld := ⟨0, 16⟩
abbrev NI_EXCL_STATUS_NACK_RCVD : Fld := ⟨16, 16⟩
abbrev NI_EXCL_STATUS_WRXF_SENT : Fld := ⟨32, 16⟩
abbrev NI_EXCL_STATUS_EVICTS : Fld := ⟨48, 16⟩
abbrev NI_BAR_FENCE_FENCE : Fld := ⟨0, 64⟩
abbrev NI_STK_BIND_SET : Fld := ⟨0, 3⟩
abbrev NI_STK_BIND_VALID : Fld := ⟨3, 1⟩
abbrev NI_STK_CTL_MIN_PRIV : Fld := ⟨0, 2⟩
abbrev NI_STK_STATUS_USED : Fld := ⟨0, 10⟩
abbrev NI_STK_STATUS_HIGH : Fld := ⟨16, 10⟩
abbrev NI_STK_STATUS_EXTRA : Fld := ⟨32, 16⟩
abbrev NI_STK_STATUS_LOST : Fld := ⟨48, 16⟩
abbrev NI_STK_EXP_CMD : Fld := ⟨0, 3⟩
abbrev NI_STK_EXP_PART : Fld := ⟨3, 1⟩
abbrev NI_STK_EXP_PRELOAD : Fld := ⟨4, 1⟩
abbrev NI_STK_EXP_ASAP : Fld := ⟨5, 1⟩
abbrev NI_STK_EXP_STAGED : Fld := ⟨8, 10⟩
abbrev NI_STK_EXP_SHADOWS : Fld := ⟨18, 12⟩
abbrev NI_STK_EXP_T_LOW : Fld := ⟨32, 32⟩
abbrev NI_STK_SET_STATE : Fld := ⟨0, 3⟩
abbrev NI_STK_SET_READY : Fld := ⟨3, 1⟩
abbrev NI_STK_SET_FAULT : Fld := ⟨4, 1⟩
abbrev NI_STK_SET_MISSED : Fld := ⟨5, 1⟩
abbrev NI_STK_SET_FAULT_CODE : Fld := ⟨8, 4⟩
abbrev NI_STK_SET_ACC : Fld := ⟨12, 10⟩
abbrev NI_STK_SET_DONE : Fld := ⟨22, 10⟩
abbrev NI_STK_SET_SHADOWS : Fld := ⟨32, 12⟩
abbrev NI_STK_SET_REFUSED : Fld := ⟨44, 1⟩
abbrev NI_REGION_BASE_PAGE : Fld := ⟨12, 52⟩
abbrev NI_REGION_LIMIT_PAGE : Fld := ⟨12, 52⟩
abbrev NI_REGION_TBASE_PAGE : Fld := ⟨12, 52⟩
abbrev NI_REGION_CFG_VALID : Fld := ⟨0, 1⟩
abbrev NI_REGION_CFG_TYPE : Fld := ⟨1, 2⟩
abbrev NI_REGION_CFG_KIND : Fld := ⟨3, 2⟩
abbrev NI_REGION_CFG_STAKE : Fld := ⟨5, 3⟩
abbrev NI_REGION_CFG_DEST : Fld := ⟨8, 18⟩
abbrev NI_MONITOR_LINE_LINE : Fld := ⟨6, 58⟩
abbrev NI_MONITOR_OWN_OWNER : Fld := ⟨0, 18⟩
abbrev NI_MONITOR_OWN_VALID : Fld := ⟨18, 1⟩
abbrev NI_MONITOR_OWN_PROTECTED : Fld := ⟨19, 1⟩
abbrev NI_MONITOR_OWN_HANDOFF : Fld := ⟨20, 1⟩
abbrev NI_MONITOR_OWN_NEXT : Fld := ⟨32, 18⟩
abbrev NI_DESC_BYTES : Fld := ⟨0, 64⟩
abbrev NI_PORT_CTL_DESC_GO : Fld := ⟨0, 1⟩
abbrev NI_PORT_CTL_QACK_LIMIT : Fld := ⟨8, 8⟩
abbrev NI_PORT_CTL_TS_LIMIT : Fld := ⟨16, 16⟩
abbrev NI_PORT_CTL_MAX_OUT : Fld := ⟨32, 9⟩
abbrev NI_PORT_STATUS_PWR_UP : Fld := ⟨0, 1⟩
abbrev NI_PORT_STATUS_QREQ : Fld := ⟨1, 1⟩
abbrev NI_PORT_STATUS_QACK : Fld := ⟨2, 1⟩
abbrev NI_PORT_STATUS_DESC_STATE : Fld := ⟨4, 2⟩
abbrev NI_PORT_STATUS_DESC_FAIL : Fld := ⟨6, 2⟩
abbrev NI_PORT_STATUS_TS_OUT : Fld := ⟨8, 9⟩
abbrev NI_PORT_STATUS_EVM_DROP : Fld := ⟨32, 16⟩
abbrev NI_PORT_ERR_PARITY : Fld := ⟨0, 16⟩
abbrev NI_PORT_ERR_PROTOCOL : Fld := ⟨16, 16⟩
abbrev NI_PORT_ERR_BADTS : Fld := ⟨32, 16⟩
abbrev NI_PORT_ERR_HANG : Fld := ⟨48, 16⟩
abbrev NI_PORT_ERR_CAP_CODE : Fld := ⟨0, 4⟩
abbrev NI_PORT_ERR_CAP_VALID : Fld := ⟨4, 1⟩
abbrev NI_PORT_ERR_CAP_TAG : Fld := ⟨8, 12⟩
abbrev NI_CTL_STATE : Fld := ⟨0, 3⟩
abbrev NI_CTL_DISABLE_DONE : Fld := ⟨3, 1⟩
abbrev NI_CTL_PWR_DOWN_OK : Fld := ⟨4, 1⟩
abbrev NI_CTL_ISO_CAUSE : Fld := ⟨8, 4⟩
abbrev NI_CTL_AUTO_ISO_HANG : Fld := ⟨12, 1⟩
abbrev NI_CTL_CMD : Fld := ⟨16, 3⟩
abbrev NI_TIMEOUT_REQ : Fld := ⟨0, 16⟩
abbrev NI_TIMEOUT_QUAR : Fld := ⟨16, 16⟩
abbrev NI_TIMEOUT_LATE_RSP : Fld := ⟨32, 16⟩
abbrev NI_SINK_REQ_ABS : Fld := ⟨0, 16⟩
abbrev NI_SINK_POSTED : Fld := ⟨16, 16⟩
abbrev NI_SINK_RSP_ABS : Fld := ⟨32, 16⟩
abbrev NI_SINK_G_DROP : Fld := ⟨48, 16⟩
abbrev NI_TROUBLE0_TGTERR : Fld := ⟨0, 16⟩
abbrev NI_TROUBLE0_DEAD : Fld := ⟨16, 16⟩
abbrev NI_TROUBLE0_PDOWN : Fld := ⟨32, 16⟩
abbrev NI_TROUBLE0_NOROUTE : Fld := ⟨48, 16⟩
abbrev NI_TROUBLE1_CRC : Fld := ⟨0, 16⟩
abbrev NI_TROUBLE1_TIMEOUT : Fld := ⟨16, 16⟩
abbrev NI_TROUBLE1_DENY : Fld := ⟨32, 16⟩
abbrev NI_TROUBLE1_LATE : Fld := ⟨48, 16⟩
abbrev NI_ERR_ICAP_INFO_CODE : Fld := ⟨0, 4⟩
abbrev NI_ERR_ICAP_INFO_VALID : Fld := ⟨4, 1⟩
abbrev NI_ERR_ICAP_INFO_POSTED : Fld := ⟨5, 1⟩
abbrev NI_ERR_ICAP_INFO_CMD : Fld := ⟨6, 6⟩
abbrev NI_ERR_ICAP_INFO_TAG : Fld := ⟨12, 12⟩
abbrev NI_ERR_ICAP_INFO_PEER : Fld := ⟨24, 18⟩
abbrev NI_ERR_ICAP_INFO_BY : Fld := ⟨42, 4⟩
abbrev NI_ERR_ICAP_ADDR_VALUE : Fld := ⟨0, 64⟩
abbrev NI_ERR_ICAP_TIME_VALUE : Fld := ⟨0, 64⟩
abbrev NI_ERR_TCAP_INFO_CODE : Fld := ⟨0, 4⟩
abbrev NI_ERR_TCAP_INFO_VALID : Fld := ⟨4, 1⟩
abbrev NI_ERR_TCAP_INFO_POSTED : Fld := ⟨5, 1⟩
abbrev NI_ERR_TCAP_INFO_CMD : Fld := ⟨6, 6⟩
abbrev NI_ERR_TCAP_INFO_TAG : Fld := ⟨12, 12⟩
abbrev NI_ERR_TCAP_INFO_PEER : Fld := ⟨24, 18⟩
abbrev NI_ERR_TCAP_INFO_BY : Fld := ⟨42, 4⟩
abbrev NI_ERR_TCAP_ADDR_VALUE : Fld := ⟨0, 64⟩
abbrev NI_ERR_TCAP_TIME_VALUE : Fld := ⟨0, 64⟩
abbrev NI_EVT_CAUSE_CAUSE : Fld := ⟨0, 16⟩
abbrev NI_EVT_EN_EN : Fld := ⟨0, 16⟩
abbrev NI_CNT_COUNT : Fld := ⟨0, 48⟩
abbrev NI_CNT_SAT : Fld := ⟨63, 1⟩
abbrev NI_CNT_MODE_EDGE : Fld := ⟨0, 24⟩
abbrev NI_CNT_PERM_USER : Fld := ⟨0, 24⟩
abbrev NI_CNT_CLEAR_CLEAR : Fld := ⟨0, 24⟩
abbrev NI_SRV_SEQ_SEQ : Fld := ⟨0, 8⟩
abbrev NI_SRV_SEQ_VALID : Fld := ⟨8, 1⟩
abbrev NI_PROBE_FILTER_POINT : Fld := ⟨0, 4⟩
abbrev NI_PROBE_FILTER_CMD_EN : Fld := ⟨4, 1⟩
abbrev NI_PROBE_FILTER_CMD : Fld := ⟨5, 6⟩
abbrev NI_PROBE_FILTER_CLASS_EN : Fld := ⟨11, 1⟩
abbrev NI_PROBE_FILTER_CLASS : Fld := ⟨12, 3⟩
abbrev NI_PROBE_FILTER_TRAV_EN : Fld := ⟨15, 1⟩
abbrev NI_PROBE_FILTER_TRAV : Fld := ⟨16, 2⟩
abbrev NI_PROBE_FILTER_ERR : Fld := ⟨18, 1⟩
abbrev NI_PROBE_FILTER_TAGGED : Fld := ⟨19, 1⟩
abbrev NI_PROBE_FILTER_SRC_EN : Fld := ⟨20, 1⟩
abbrev NI_PROBE_FILTER_SRC : Fld := ⟨21, 18⟩
abbrev NI_PROBE_FILTER_DEST_EN : Fld := ⟨39, 1⟩
abbrev NI_PROBE_FILTER_DEST : Fld := ⟨40, 18⟩
abbrev NI_PROBE_ACTION_EN : Fld := ⟨0, 1⟩
abbrev NI_PROBE_ACTION_TRACE : Fld := ⟨1, 1⟩
abbrev NI_PROBE_ACTION_TAG : Fld := ⟨2, 1⟩
abbrev NI_PROBE_ACTION_FREEZE : Fld := ⟨3, 1⟩
abbrev NI_PROBE_ACTION_ONCE : Fld := ⟨4, 1⟩
abbrev NI_PROBE_ACTION_PRESCALE : Fld := ⟨8, 16⟩
abbrev NI_PROBE_STATUS_MATCHES : Fld := ⟨0, 32⟩
abbrev NI_PROBE_STATUS_FIRES : Fld := ⟨32, 16⟩
abbrev NI_PROBE_STATUS_SPENT : Fld := ⟨48, 1⟩
abbrev NI_TAG_CTL_RATE : Fld := ⟨0, 16⟩
abbrev NI_TAG_CTL_SEED : Fld := ⟨16, 16⟩
abbrev NI_TAG_STATUS_TAGGED : Fld := ⟨0, 32⟩
abbrev NI_DOM_DOM_ON : Fld := ⟨0, 1⟩
abbrev NI_DOM_REQ : Fld := ⟨1, 1⟩
abbrev NI_DOM_ACK : Fld := ⟨2, 1⟩
abbrev NI_DOM_WAKE : Fld := ⟨3, 1⟩
abbrev NI_DOM_LOSSES : Fld := ⟨16, 16⟩
abbrev NI_ENUM_PRIV : Fld := ⟨0, 2⟩
abbrev NI_ENUM_HOST_PAIR : Fld := ⟨2, 1⟩
abbrev NI_ENUM_PAIR : Fld := ⟨4, 3⟩
abbrev NI_ENUM_HELD : Fld := ⟨8, 3⟩
abbrev FED_DATUM_DATUM : Fld := ⟨0, 64⟩
abbrev FED_CTL_ENABLE : Fld := ⟨0, 1⟩
abbrev FED_CTL_UPSTREAM : Fld := ⟨1, 1⟩
abbrev FED_CTL_RESTART : Fld := ⟨2, 1⟩
abbrev FED_CTL_MAX_PRIV : Fld := ⟨3, 2⟩
abbrev FED_CTL_HOLD : Fld := ⟨8, 8⟩
abbrev FED_STATUS_STATE : Fld := ⟨0, 3⟩
abbrev FED_STATUS_LOCKED : Fld := ⟨3, 1⟩
abbrev FED_STATUS_HOLDOVER : Fld := ⟨4, 1⟩
abbrev FED_STATUS_LINK_UP : Fld := ⟨5, 1⟩
abbrev FED_STATUS_PARTNER : Fld := ⟨6, 10⟩
abbrev FED_STATUS_PARTNER_PORT : Fld := ⟨16, 4⟩
abbrev FED_STATUS_FWD_OUT : Fld := ⟨20, 10⟩
abbrev FED_STATUS_ABSORBED : Fld := ⟨32, 16⟩
abbrev FED_STATUS_DENIED : Fld := ⟨48, 16⟩
abbrev FED_TT_OFFSET_OFFSET : Fld := ⟨0, 64⟩
abbrev FED_TT_DELAY_DELAY : Fld := ⟨0, 16⟩
abbrev FED_TT_DELAY_SPREAD : Fld := ⟨16, 16⟩
abbrev FED_TT_DELAY_EXCHANGES : Fld := ⟨32, 16⟩
abbrev FED_TT_DELAY_BAD : Fld := ⟨48, 16⟩
abbrev FED_FWD_MASK_TABLE : Fld := ⟨0, 36⟩
abbrev FED_XFER_UNKNOWN : Fld := ⟨0, 16⟩
abbrev FED_XFER_NOROUTE : Fld := ⟨16, 16⟩
abbrev FED_XFER_CRC : Fld := ⟨32, 16⟩
abbrev FED_XFER_BARRIERS : Fld := ⟨48, 16⟩
abbrev FED_SINK_REQ_ABS : Fld := ⟨0, 16⟩
abbrev FED_SINK_POSTED : Fld := ⟨16, 16⟩
abbrev FED_SINK_RSP_ABS : Fld := ⟨32, 16⟩
abbrev FED_SINK_BAR_DEAD : Fld := ⟨48, 16⟩
abbrev FED_POLICE_RATE_RATE_C : Fld := ⟨0, 17⟩
abbrev FED_POLICE_RATE_RATE_P : Fld := ⟨32, 17⟩
abbrev FED_POLICE_SIZE_SIZE_C : Fld := ⟨0, 12⟩
abbrev FED_POLICE_SIZE_SIZE_P : Fld := ⟨16, 12⟩
abbrev FED_POLICE_LEVEL_LEVEL_C : Fld := ⟨0, 32⟩
abbrev FED_POLICE_LEVEL_LEVEL_P : Fld := ⟨32, 32⟩
abbrev FED_POLICE_STATUS_DROPS : Fld := ⟨0, 32⟩
abbrev FED_POLICE_STATUS_DROP_SEEN : Fld := ⟨32, 1⟩
abbrev FED_EVT_CAUSE_CAUSE : Fld := ⟨0, 16⟩
abbrev FED_EVT_EN_EN : Fld := ⟨0, 16⟩
abbrev FED_TRAV_CTL_CUR : Fld := ⟨0, 2⟩
abbrev FED_TRAV_STATUS_OUT0 : Fld := ⟨0, 16⟩
abbrev FED_TRAV_STATUS_OUT1 : Fld := ⟨16, 16⟩
abbrev FED_TRAV_STATUS_OUT2 : Fld := ⟨32, 16⟩
abbrev FED_TRAV_STATUS_OUT3 : Fld := ⟨48, 16⟩
abbrev FED_TRAV_DRAIN_DRAIN_BARS : Fld := ⟨0, 16⟩
abbrev FED_TRAV_DRAIN_DRAIN_ERR : Fld := ⟨16, 16⟩
abbrev FED_TRAV_DRAIN_LAST_OLD : Fld := ⟨32, 2⟩
abbrev FED_TRAV_DRAIN_DRAINED : Fld := ⟨34, 1⟩
abbrev FED_CHAIN_SRC_CFG_VALID : Fld := ⟨0, 1⟩
abbrev FED_CHAIN_SRC_CFG_FULL_POLICY : Fld := ⟨2, 1⟩
abbrev FED_CHAIN_SRC_CFG_CHAIN : Fld := ⟨4, 14⟩
abbrev FED_CHAIN_SRC_SCH_PERIOD : Fld := ⟨0, 3⟩
abbrev FED_CHAIN_SRC_SCH_OFFSET : Fld := ⟨4, 10⟩
abbrev FED_CHAIN_SRC_SCH_COUNT : Fld := ⟨16, 5⟩
abbrev FED_CHAIN_SRC_SCH_SPACING : Fld := ⟨24, 10⟩
abbrev FED_CHAIN_SRC_STAT_OCC : Fld := ⟨0, 5⟩
abbrev FED_CHAIN_SRC_STAT_SEQ : Fld := ⟨8, 6⟩
abbrev FED_CHAIN_SRC_STAT_DROPS : Fld := ⟨16, 16⟩
abbrev FED_CHAIN_SRC_STAT_MAX_OCC : Fld := ⟨32, 5⟩
abbrev FED_CHAIN_DST_CFG_VALID : Fld := ⟨0, 1⟩
abbrev FED_CHAIN_DST_CFG_MODE : Fld := ⟨1, 1⟩
abbrev FED_CHAIN_DST_CFG_CHAIN : Fld := ⟨4, 14⟩
abbrev FED_CHAIN_DST_CFG_SLOT : Fld := ⟨24, 8⟩
abbrev FED_CHAIN_DST_STAT_SEQ_EXP : Fld := ⟨0, 6⟩
abbrev FED_CHAIN_DST_STAT_OCC : Fld := ⟨8, 4⟩
abbrev FED_CHAIN_DST_STAT_LOST : Fld := ⟨16, 16⟩
abbrev FED_CHAIN_DST_STAT_DUE : Fld := ⟨32, 16⟩
abbrev FED_CHAIN_DST_STAT_OVERRUN : Fld := ⟨48, 16⟩
abbrev FED_STK_BIND_SET : Fld := ⟨0, 3⟩
abbrev FED_STK_BIND_VALID : Fld := ⟨3, 1⟩
abbrev FED_STK_STATUS_USED : Fld := ⟨0, 10⟩
abbrev FED_STK_STATUS_HIGH : Fld := ⟨16, 10⟩
abbrev FED_STK_STATUS_EXTRA : Fld := ⟨32, 16⟩
abbrev FED_STK_STATUS_LOST : Fld := ⟨48, 16⟩
abbrev FED_STK_EXP_CMD : Fld := ⟨0, 3⟩
abbrev FED_STK_EXP_PART : Fld := ⟨3, 1⟩
abbrev FED_STK_EXP_PRELOAD : Fld := ⟨4, 1⟩
abbrev FED_STK_EXP_ASAP : Fld := ⟨5, 1⟩
abbrev FED_STK_EXP_STAGED : Fld := ⟨8, 10⟩
abbrev FED_STK_EXP_SHADOWS : Fld := ⟨18, 12⟩
abbrev FED_STK_EXP_T_LOW : Fld := ⟨32, 32⟩
abbrev FED_STK_SET_STATE : Fld := ⟨0, 3⟩
abbrev FED_STK_SET_READY : Fld := ⟨3, 1⟩
abbrev FED_STK_SET_FAULT : Fld := ⟨4, 1⟩
abbrev FED_STK_SET_MISSED : Fld := ⟨5, 1⟩
abbrev FED_STK_SET_FAULT_CODE : Fld := ⟨8, 4⟩
abbrev FED_STK_SET_ACC : Fld := ⟨12, 10⟩
abbrev FED_STK_SET_DONE : Fld := ⟨22, 10⟩
abbrev FED_STK_SET_SHADOWS : Fld := ⟨32, 12⟩
abbrev FED_STK_SET_REFUSED : Fld := ⟨44, 1⟩
end F

/-! ### The register indexes R443 to R446 -/
/-- R443: the global block. Part 0. -/
def glbRows0 : List RegRow := [
  -- GLB_VERSION
  ⟨0x0, 1, 0x1000000, 1, 0x8, .p0, .closed, 0xc902401440302,
    [(F.GLB_VERSION_RELEASE, .ro), (F.GLB_VERSION_PARAMSET, .ro), (F.GLB_VERSION_STATIONS, .ro), (F.GLB_VERSION_PORTS, .ro), (F.GLB_VERSION_FEDPORTS, .ro)]⟩,
  -- GLB_FMP_IMAGE
  ⟨0xc00, 1, 0x1000000, 1, 0x8, .p1, .fmp, 0x0,
    [(F.GLB_FMP_IMAGE_SLOT, .rws)]⟩,
  -- GLB_FMP_STATUS
  ⟨0xc08, 1, 0x1000000, 1, 0x8, .p1, .p2, 0x0,
    [(F.GLB_FMP_STATUS_STATE, .ro), (F.GLB_FMP_STATUS_SLOT_RUN, .ro), (F.GLB_FMP_STATUS_REVERTED, .w1c), (F.GLB_FMP_STATUS_TICKETS, .ro), (F.GLB_FMP_STATUS_HEARTBEAT, .ro), (F.GLB_FMP_STATUS_FW_VERSION, .ro)]⟩,
  -- GLB_JNL_STATUS
  ⟨0xc20, 1, 0x1000000, 1, 0x8, .p1, .closed, 0x0,
    [(F.GLB_JNL_STATUS_NEXT_SEQ, .fmp), (F.GLB_JNL_STATUS_ACTIVE, .fmp), (F.GLB_JNL_STATUS_FAULT, .fmp), (F.GLB_JNL_STATUS_QUEUED, .fmp), (F.GLB_JNL_STATUS_DROPPED, .fmp), (F.GLB_JNL_STATUS_TORN_FOUND, .fmp)]⟩,
  -- GLB_SINK
  ⟨0xc28, 1, 0x1000000, 1, 0x8, .p1, .fmp, 0x0,
    [(F.GLB_SINK_MISFIT, .fmp)]⟩,
  -- GLB_FED_ID
  ⟨0xc40, 1, 0x1000000, 1, 0x8, .p0, .fmp, 0x0,
    [(F.GLB_FED_ID_INSTANCE, .fmp), (F.GLB_FED_ID_ROOT, .fmp)]⟩,
  -- GLB_FED_TIME
  ⟨0xc48, 1, 0x1000000, 1, 0x8, .p1, .fmp, 0x0,
    [(F.GLB_FED_TIME_ROOT_OFS, .fmp)]⟩,
  -- GLB_MODE
  ⟨0xd00, 1, 0x1000000, 1, 0x8, .p0, .closed, 0x1,
    [(F.GLB_MODE_MODE, .ro), (F.GLB_MODE_PREV, .ro), (F.GLB_MODE_CAUSE, .ro), (F.GLB_MODE_CHANGES, .ro)]⟩,
  -- GLB_MODE_TIME
  ⟨0xd08, 1, 0x1000000, 1, 0x8, .p1, .closed, 0x0,
    [(F.GLB_MODE_TIME_INSTANT, .ro)]⟩,
  -- GLB_BOOT_STATUS
  ⟨0xd10, 1, 0x1000000, 1, 0x8, .p1, .closed, 0x0,
    [(F.GLB_BOOT_STATUS_STAGE, .ro), (F.GLB_BOOT_STATUS_REASON, .ro), (F.GLB_BOOT_STATUS_SLOT, .ro), (F.GLB_BOOT_STATUS_FALLBACK, .ro), (F.GLB_BOOT_STATUS_KIND, .ro), (F.GLB_BOOT_STATUS_LC, .ro), (F.GLB_BOOT_STATUS_SAFE_BOOT, .ro), (F.GLB_BOOT_STATUS_TIME, .ro)]⟩,
  -- GLB_WIPE_STATUS
  ⟨0xd18, 1, 0x1000000, 1, 0x8, .p1, .closed, 0x0,
    [(F.GLB_WIPE_STATUS_DONE, .ro), (F.GLB_WIPE_STATUS_CORE_FAIL, .ro), (F.GLB_WIPE_STATUS_TRACE_FAIL, .ro), (F.GLB_WIPE_STATUS_NI_FAILS, .ro), (F.GLB_WIPE_STATUS_STN_FAILS, .ro), (F.GLB_WIPE_STATUS_TIME, .ro)]⟩,
  -- GLB_LC
  ⟨0xd20, 1, 0x1000000, 1, 0x8, .p1, .closed, 0x0,
    [(F.GLB_LC_INPUT, .ro), (F.GLB_LC_EFFECTIVE, .ro), (F.GLB_LC_BACKWARD, .ro)]⟩,
  -- GLB_SOFT_RESET
  ⟨0xd28, 1, 0x1000000, 1, 0x8, .closed, .p2, 0x0,
    [(F.GLB_SOFT_RESET_KEY, .wo)]⟩,
  -- GLB_TRAV_CTL
  ⟨0xe00, 1, 0x1000000, 1, 0x8, .p1, .fmp, 0x0,
    [(F.GLB_TRAV_CTL_CUR, .rws)]⟩,
  -- GLB_TRAV_STATUS
  ⟨0xe08, 1, 0x1000000, 1, 0x8, .p1, .closed, 0x0,
    [(F.GLB_TRAV_STATUS_OUT0, .ro), (F.GLB_TRAV_STATUS_OUT1, .ro), (F.GLB_TRAV_STATUS_OUT2, .ro), (F.GLB_TRAV_STATUS_OUT3, .ro)]⟩,
  -- GLB_TRAV_DRAIN
  ⟨0xe10, 1, 0x1000000, 1, 0x8, .p1, .closed, 0x400000000,
    [(F.GLB_TRAV_DRAIN_DRAIN_BARS, .ro), (F.GLB_TRAV_DRAIN_DRAIN_ERR, .ro), (F.GLB_TRAV_DRAIN_LAST_OLD, .ro), (F.GLB_TRAV_DRAIN_DRAINED, .ro)]⟩,
  -- DAT_NOW
  ⟨0x1000, 1, 0x1000000, 1, 0x8, .p0, .closed, 0x0,
    [(F.DAT_NOW_DATUM, .ro)]⟩,
  -- DAT_CTL
  ⟨0x1008, 1, 0x1000000, 1, 0x8, .p1, .fmp, 0x1002,
    [(F.DAT_CTL_ALIGN_GO, .fmp), (F.DAT_CTL_VERIFY_EN, .fmp), (F.DAT_CTL_VERIFY_PERIOD, .fmp)]⟩,
  -- DAT_STATUS
  ⟨0x1010, 1, 0x1000000, 1, 0x8, .p1, .p2, 0xff00,
    [(F.DAT_STATUS_ALIGNED, .ro), (F.DAT_STATUS_SLIP, .w1c), (F.DAT_STATUS_MER_DUE, .w1c), (F.DAT_STATUS_LAST_SITE, .ro), (F.DAT_STATUS_SLIP_COUNT, .ro), (F.DAT_STATUS_MER_DUE_COUNT, .ro), (F.DAT_STATUS_MER_SBE_COUNT, .ro), (F.DAT_STATUS_VOTE_FIX_COUNT, .ro)]⟩,
  -- DAT_ALIGN_TIME
  ⟨0x1018, 1, 0x1000000, 1, 0x8, .p1, .closed, 0x0,
    [(F.DAT_ALIGN_TIME_INSTANT, .ro)]⟩]

/-- R443: the global block. Part 1. -/
def glbRows1 : List RegRow := [
  -- DAT_ALARM
  ⟨0x1020, 1, 0x1000000, 4, 0x8, .p1, .p1, 0x0,
    [(F.DAT_ALARM_INSTANT, .rw)]⟩,
  -- DAT_ALARM_CTL
  ⟨0x1040, 1, 0x1000000, 1, 0x8, .p1, .p1, 0x0,
    [(F.DAT_ALARM_CTL_ARM, .rw), (F.DAT_ALARM_CTL_FIRED, .w1c), (F.DAT_ALARM_CTL_LATE, .w1c)]⟩,
  -- DAT_MER_STATUS
  ⟨0x1048, 1, 0x1000000, 1, 0x8, .p1, .closed, 0x0,
    [(F.DAT_MER_STATUS_PENDING, .ro), (F.DAT_MER_STATUS_MAX_WAIT, .rc), (F.DAT_MER_STATUS_LATE_COUNT, .ro)]⟩,
  -- STK_CFG
  ⟨0x2000, 1, 0x1000000, 1, 0x8, .p1, .fmp, 0x80,
    [(F.STK_CFG_RESERVE, .fmp)]⟩,
  -- STK_SUMMARY
  ⟨0x2008, 1, 0x1000000, 1, 0x8, .p0, .closed, 0x0,
    [(F.STK_SUMMARY_STATE_0, .ro), (F.STK_SUMMARY_STATE_1, .ro), (F.STK_SUMMARY_STATE_2, .ro), (F.STK_SUMMARY_STATE_3, .ro), (F.STK_SUMMARY_STATE_4, .ro), (F.STK_SUMMARY_STATE_5, .ro), (F.STK_SUMMARY_STATE_6, .ro), (F.STK_SUMMARY_STATE_7, .ro)]⟩,
  -- STK_TOTALS
  ⟨0x2010, 1, 0x1000000, 1, 0x8, .p1, .closed, 0x0,
    [(F.STK_TOTALS_APPLIED, .ro), (F.STK_TOTALS_ABORTED, .ro), (F.STK_TOTALS_LATE, .ro), (F.STK_TOTALS_STUCK, .ro)]⟩,
  -- STK_SET_CTL
  ⟨0x2100, 1, 0x1000000, 8, 0x40, .p1, .owner, 0x0,
    [(F.STK_SET_CTL_OP, .wo), (F.STK_SET_CTL_MODE, .rw), (F.STK_SET_CTL_LATE_POLICY, .rw), (F.STK_SET_CTL_GRAN, .rw)]⟩,
  -- STK_SET_T
  ⟨0x2108, 1, 0x1000000, 8, 0x40, .p1, .owner, 0x0,
    [(F.STK_SET_T_INSTANT, .rw)]⟩,
  -- STK_SET_STATUS
  ⟨0x2110, 1, 0x1000000, 8, 0x40, .p1, .closed, 0x3ffff0000,
    [(F.STK_SET_STATUS_STATE, .ro), (F.STK_SET_STATUS_RESULT, .ro), (F.STK_SET_STATUS_LATE, .ro), (F.STK_SET_STATUS_REASON, .ro), (F.STK_SET_STATUS_SEQ_ERR, .ro), (F.STK_SET_STATUS_OWNER, .ro), (F.STK_SET_STATUS_PARTS, .ro)]⟩,
  -- STK_SET_EFF_T
  ⟨0x2118, 1, 0x1000000, 8, 0x40, .p1, .closed, 0x0,
    [(F.STK_SET_EFF_T_INSTANT, .ro)]⟩,
  -- STK_SET_CLOSE_TIME
  ⟨0x2120, 1, 0x1000000, 8, 0x40, .p1, .closed, 0x0,
    [(F.STK_SET_CLOSE_TIME_INSTANT, .ro)]⟩,
  -- STK_SET_COMMIT_TIME
  ⟨0x2128, 1, 0x1000000, 8, 0x40, .p1, .closed, 0x0,
    [(F.STK_SET_COMMIT_TIME_INSTANT, .ro)]⟩,
  -- STK_SET_FAULT
  ⟨0x2130, 1, 0x1000000, 8, 0x40, .p1, .closed, 0xff,
    [(F.STK_SET_FAULT_STATION, .ro)]⟩,
  -- GLB_STK_BIND
  ⟨0x2800, 1, 0x1000000, 1, 0x8, .p1, .fmp, 0x0,
    [(F.GLB_STK_BIND_SET, .fmp), (F.GLB_STK_BIND_VALID, .fmp)]⟩,
  -- GLB_STK_STATUS
  ⟨0x2810, 1, 0x1000000, 1, 0x8, .p1, .closed, 0x0,
    [(F.GLB_STK_STATUS_USED, .ro), (F.GLB_STK_STATUS_HIGH, .rc), (F.GLB_STK_STATUS_EXTRA, .ro), (F.GLB_STK_STATUS_LOST, .ro)]⟩,
  -- GLB_STK_EXP
  ⟨0x2840, 1, 0x1000000, 8, 0x8, .p1, .fmp, 0x0,
    [(F.GLB_STK_EXP_CMD, .fmp), (F.GLB_STK_EXP_PART, .fmp), (F.GLB_STK_EXP_PRELOAD, .fmp), (F.GLB_STK_EXP_ASAP, .fmp), (F.GLB_STK_EXP_STAGED, .fmp), (F.GLB_STK_EXP_SHADOWS, .fmp), (F.GLB_STK_EXP_T_LOW, .fmp)]⟩,
  -- GLB_STK_SET
  ⟨0x2880, 1, 0x1000000, 8, 0x8, .p1, .closed, 0x8,
    [(F.GLB_STK_SET_STATE, .ro), (F.GLB_STK_SET_READY, .ro), (F.GLB_STK_SET_FAULT, .ro), (F.GLB_STK_SET_MISSED, .ro), (F.GLB_STK_SET_FAULT_CODE, .ro), (F.GLB_STK_SET_ACC, .ro), (F.GLB_STK_SET_DONE, .ro), (F.GLB_STK_SET_SHADOWS, .ro), (F.GLB_STK_SET_REFUSED, .ro)]⟩,
  -- LCK_CFG
  ⟨0x3000, 1, 0x1000000, 1, 0x8, .p1, .fmp, 0x0,
    [(F.LCK_CFG_MIN_PRIV, .fmp)]⟩,
  -- LCK_STATUS
  ⟨0x3008, 1, 0x1000000, 1, 0x8, .p1, .p2, 0x0,
    [(F.LCK_STATUS_BROKEN, .ro), (F.LCK_STATUS_FORCED, .ro), (F.LCK_STATUS_LAST_BROKEN, .ro)]⟩,
  -- LCK_ACQ
  ⟨0x4000, 1, 0x1000000, 256, 0x8, .lck, .lck, 0x3ffff00,
    [(F.LCK_ACQ_RELEASE, .wo), (F.LCK_ACQ_RESULT, .ro), (F.LCK_ACQ_OWNER, .ro), (F.LCK_ACQ_BACKOFF, .ro)]⟩]

/-- R443: the global block. Part 2. -/
def glbRows2 : List RegRow := [
  -- LCK_PEEK
  ⟨0x4800, 1, 0x1000000, 256, 0x8, .p0, .closed, 0x3ffff00,
    [(F.LCK_PEEK_HELD, .ro), (F.LCK_PEEK_OWNER, .ro)]⟩,
  -- STK_PART
  ⟨0x8000, 8, 0x1000, 193, 0x8, .p1, .owner, 0x0,
    [(F.STK_PART_PART, .rw), (F.STK_PART_STAGED, .rw)]⟩,
  -- STK_SHAD
  ⟨0x8800, 8, 0x1000, 193, 0x8, .p1, .fmp, 0x0,
    [(F.STK_SHAD_PART, .fmp), (F.STK_SHAD_SHADOWS, .fmp)]⟩,
  -- MBX_NONEMPTY
  ⟨0x10000, 1, 0x1000000, 2, 0x8, .p1, .closed, 0x0,
    [(F.MBX_NONEMPTY_NONEMPTY, .ro)]⟩,
  -- MBX_TOTALS
  ⟨0x10010, 1, 0x1000000, 1, 0x8, .p1, .closed, 0x0,
    [(F.MBX_TOTALS_ACCEPTED, .ro), (F.MBX_TOTALS_CROSSINGS, .ro), (F.MBX_TOTALS_WAKES, .ro)]⟩,
  -- MBX_CH_CFG
  ⟨0x20000, 1, 0x1000000, 128, 0x100, .p1, .fmp, 0x3ffff3ffff0008,
    [(F.MBX_CH_CFG_ENABLE, .fmp), (F.MBX_CH_CFG_WAKE, .fmp), (F.MBX_CH_CFG_ANY, .fmp), (F.MBX_CH_CFG_EMPTY_EV, .fmp), (F.MBX_CH_CFG_MIN_PRIV, .fmp), (F.MBX_CH_CFG_PAIR_VALID, .fmp), (F.MBX_CH_CFG_PAIR, .fmp), (F.MBX_CH_CFG_SENDER, .fmp), (F.MBX_CH_CFG_RECEIVER, .fmp)]⟩,
  -- MBX_CH_CTL
  ⟨0x20008, 1, 0x1000000, 128, 0x100, .closed, .receiver, 0x0,
    [(F.MBX_CH_CTL_POP, .wo)]⟩,
  -- MBX_CH_STATUS
  ⟨0x20010, 1, 0x1000000, 128, 0x100, .party, .party, 0x0,
    [(F.MBX_CH_STATUS_COUNT, .ro), (F.MBX_CH_STATUS_LANDED, .ro), (F.MBX_CH_STATUS_WAKE_PEND, .ro), (F.MBX_CH_STATUS_CROSS, .w1c), (F.MBX_CH_STATUS_SEQ_IN, .ro), (F.MBX_CH_STATUS_FULL_REJ, .ro), (F.MBX_CH_STATUS_REFUSED, .ro), (F.MBX_CH_STATUS_DISCARD, .ro)]⟩,
  -- MBX_CH_HEAD
  ⟨0x20018, 1, 0x1000000, 128, 0x100, .receiver, .closed, 0x3ffff,
    [(F.MBX_CH_HEAD_SRC, .ro), (F.MBX_CH_HEAD_PRIV, .ro), (F.MBX_CH_HEAD_VALID, .ro), (F.MBX_CH_HEAD_SEQ, .ro)]⟩,
  -- MBX_CH_TIME
  ⟨0x20020, 1, 0x1000000, 128, 0x100, .receiver, .closed, 0x0,
    [(F.MBX_CH_TIME_ARRIVAL, .ro)]⟩,
  -- MBX_CH_MSG
  ⟨0x20040, 128, 0x100, 8, 0x8, .receiver, .closed, 0x0,
    [(F.MBX_CH_MSG_BYTES, .ro)]⟩,
  -- EVT_STATUS
  ⟨0x30000, 1, 0x1000000, 1, 0x8, .p1, .p2, 0x0,
    [(F.EVT_STATUS_IRQ, .ro), (F.EVT_STATUS_EVM_SEQ, .ro), (F.EVT_STATUS_EVM_QUEUE, .ro), (F.EVT_STATUS_EVM_DROPS, .fmp), (F.EVT_STATUS_MERGED, .fmp)]⟩,
  -- EVT_PEND
  ⟨0x30100, 1, 0x1000000, 24, 0x8, .p1, .p1, 0x0,
    [(F.EVT_PEND_PEND, .w1c)]⟩,
  -- EVT_SRC_CFG
  ⟨0x31000, 1, 0x1000000, 1536, 0x8, .p1, .p2, 0x3ffff00,
    [(F.EVT_SRC_CFG_EN, .rw), (F.EVT_SRC_CFG_MODE, .rw), (F.EVT_SRC_CFG_ACTION, .rw), (F.EVT_SRC_CFG_LINE, .rw), (F.EVT_SRC_CFG_TARGET, .rw)]⟩,
  -- SRV_CTL
  ⟨0x40000, 1, 0x1000000, 1, 0x8, .p1, .fmp, 0x0,
    [(F.SRV_CTL_GO, .fmp), (F.SRV_CTL_CANCEL, .fmp)]⟩,
  -- SRV_STATUS
  ⟨0x40008, 1, 0x1000000, 1, 0x8, .p1, .closed, 0x0,
    [(F.SRV_STATUS_SEQ, .ro), (F.SRV_STATUS_PENDING, .ro), (F.SRV_STATUS_ARMED, .ro), (F.SRV_STATUS_LATE, .ro), (F.SRV_STATUS_SURVEYS, .ro)]⟩,
  -- SRV_NEXT
  ⟨0x40010, 1, 0x1000000, 1, 0x8, .p1, .fmp, 0x0,
    [(F.SRV_NEXT_INSTANT, .fmp)]⟩,
  -- SRV_LAST
  ⟨0x40018, 1, 0x1000000, 1, 0x8, .p1, .closed, 0x0,
    [(F.SRV_LAST_INSTANT, .ro)]⟩,
  -- GLB_CNT
  ⟨0x40100, 1, 0x1000000, 64, 0x8, .cnt, .closed, 0x0,
    [(F.GLB_CNT_COUNT, .ro), (F.GLB_CNT_SAT, .ro)]⟩,
  -- GLB_CNT_SHD
  ⟨0x40300, 1, 0x1000000, 64, 0x8, .cnt, .closed, 0x0,
    [(F.GLB_CNT_SHD_COUNT, .ro), (F.GLB_CNT_SHD_SAT, .ro)]⟩]

/-- R443: the global block. Part 3. -/
def glbRows3 : List RegRow := [
  -- GLB_CNT_MODE
  ⟨0x40500, 1, 0x1000000, 1, 0x8, .p1, .p2, 0x0,
    [(F.GLB_CNT_MODE_EDGE, .rw)]⟩,
  -- GLB_CNT_PERM
  ⟨0x40508, 1, 0x1000000, 1, 0x8, .p1, .fmp, 0x0,
    [(F.GLB_CNT_PERM_USER, .fmp)]⟩,
  -- GLB_CNT_CLEAR
  ⟨0x40510, 1, 0x1000000, 1, 0x8, .p1, .p2, 0x0,
    [(F.GLB_CNT_CLEAR_CLEAR, .rw)]⟩,
  -- SRV_TRACE_CTL
  ⟨0x40600, 1, 0x1000000, 1, 0x8, .p1, .p2, 0x0,
    [(F.SRV_TRACE_CTL_EN, .rw), (F.SRV_TRACE_CTL_STOP, .rw), (F.SRV_TRACE_CTL_CLEAR, .wo)]⟩,
  -- SRV_TRACE_STATUS
  ⟨0x40608, 1, 0x1000000, 1, 0x8, .p1, .closed, 0x0,
    [(F.SRV_TRACE_STATUS_WPTR, .ro), (F.SRV_TRACE_STATUS_WRAPPED, .ro), (F.SRV_TRACE_STATUS_FULL, .ro), (F.SRV_TRACE_STATUS_FROZEN, .ro), (F.SRV_TRACE_STATUS_DROPS, .ro)]⟩,
  -- THM_CFG
  ⟨0x50000, 1, 0x1000000, 1, 0x8, .p1, .fmp, 0xa0076695f,
    [(F.THM_CFG_WARN, .fmp), (F.THM_CFG_THROTTLE, .fmp), (F.THM_CFG_TRIP, .fmp), (F.THM_CFG_RATE, .fmp)]⟩,
  -- THM_STATUS
  ⟨0x50008, 1, 0x1000000, 1, 0x8, .p1, .closed, 0x0,
    [(F.THM_STATUS_LEVEL, .ro), (F.THM_STATUS_RATE, .ro), (F.THM_STATUS_FAST, .ro), (F.THM_STATUS_SAFE, .ro), (F.THM_STATUS_SHUTDOWN_READY, .ro), (F.THM_STATUS_COMMIT_FAIL, .ro), (F.THM_STATUS_SUSPECT_FULL, .ro), (F.THM_STATUS_TRIP_SRC, .ro), (F.THM_STATUS_HOTTEST, .ro), (F.THM_STATUS_HOT_READING, .ro), (F.THM_STATUS_SUSPECTS, .ro)]⟩,
  -- THM_THROTTLE
  ⟨0x50010, 1, 0x1000000, 1, 0x8, .p1, .fmp, 0x0,
    [(F.THM_THROTTLE_STAGE, .ro), (F.THM_THROTTLE_APPLIED, .fmp), (F.THM_THROTTLE_CHANGES, .ro)]⟩,
  -- THM_COMMIT_ADDR
  ⟨0x50018, 1, 0x1000000, 1, 0x8, .p1, .fmp, 0x0,
    [(F.THM_COMMIT_ADDR_ARMED, .fmp), (F.THM_COMMIT_ADDR_WORD, .fmp)]⟩,
  -- THM_COMMIT_WORD
  ⟨0x50020, 1, 0x1000000, 1, 0x8, .p1, .fmp, 0x0,
    [(F.THM_COMMIT_WORD_VALUE, .fmp)]⟩,
  -- THM_TRIP_TIME
  ⟨0x50028, 1, 0x1000000, 1, 0x8, .p1, .closed, 0x0,
    [(F.THM_TRIP_TIME_VALUE, .ro)]⟩,
  -- GLB_PWR_MAP
  ⟨0x50030, 1, 0x1000000, 2, 0x8, .p1, .closed, 0x0,
    [(F.GLB_PWR_MAP_STATES, .ro)]⟩,
  -- THM_SENSOR
  ⟨0x50100, 1, 0x1000000, 72, 0x8, .p1, .p2, 0x0,
    [(F.THM_SENSOR_READING, .ro), (F.THM_SENSOR_VALID, .ro), (F.THM_SENSOR_SUSPECT, .w1c), (F.THM_SENSOR_EFFECTIVE, .ro), (F.THM_SENSOR_RISE, .ro)]⟩,
  -- END_CFG
  ⟨0x60000, 1, 0x1000000, 1, 0x8, .p1, .p2, 0x1402d0081810,
    [(F.END_CFG_SBE_LIMIT, .rw), (F.END_CFG_MIN_EYE, .rw), (F.END_CFG_DRIFT_LIMIT, .rw), (F.END_CFG_PERIOD, .rw), (F.END_CFG_GUARDS, .rw), (F.END_CFG_AUTO, .rw)]⟩,
  -- END_STATUS
  ⟨0x60008, 1, 0x1000000, 1, 0x8, .p1, .closed, 0x0,
    [(F.END_STATUS_REPLAN_STN, .ro), (F.END_STATUS_REPLAN_BUSY, .ro), (F.END_STATUS_QUEUED, .ro), (F.END_STATUS_LINK_TESTS, .ro), (F.END_STATUS_STN_TEST, .ro), (F.END_STATUS_SCANS, .ro)]⟩,
  -- END_VREQ
  ⟨0x60010, 1, 0x1000000, 1, 0x8, .p1, .fmp, 0x0,
    [(F.END_VREQ_STEPS, .fmp), (F.END_VREQ_ACKED, .ro), (F.END_VREQ_REQUESTS, .ro), (F.END_VREQ_NOACK, .ro)]⟩,
  -- GLB_FED_MAP
  ⟨0x70000, 1, 0x1000000, 1024, 0x8, .p1, .fmp, 0x0,
    [(F.GLB_FED_MAP_PORT, .fmp), (F.GLB_FED_MAP_VALID, .fmp)]⟩]

/-- R443: the global block. -/
def glbRows : List RegRow := glbRows0 ++ glbRows1 ++ glbRows2 ++ glbRows3

/-- R444: a station. Part 0. -/
def stnRows0 : List RegRow := [
  -- STN_ID
  ⟨0x0, 1, 0x1000000, 1, 0x8, .p0, .closed, 0x0,
    [(F.STN_ID_STATION, .ro), (F.STN_ID_X, .ro), (F.STN_ID_Y, .ro), (F.STN_ID_FPRESENT, .ro), (F.STN_ID_FINDEX, .ro), (F.STN_ID_GLOBAL_HUB, .ro)]⟩,
  -- STN_DATUM
  ⟨0x100, 1, 0x1000000, 1, 0x8, .p1, .closed, 0x0,
    [(F.STN_DATUM_DATUM, .ro)]⟩,
  -- STN_MER_DELAY
  ⟨0x108, 1, 0x1000000, 1, 0x8, .p1, .closed, 0x20000,
    [(F.STN_MER_DELAY_PROP, .ro), (F.STN_MER_DELAY_COMP, .ro), (F.STN_MER_DELAY_LOCAL, .ro)]⟩,
  -- STN_CLASS_WEIGHT
  ⟨0x200, 1, 0x1000000, 1, 0x8, .p1, .fmp, 0x202020202020,
    [(F.STN_CLASS_WEIGHT_W0, .fmp), (F.STN_CLASS_WEIGHT_W1, .fmp), (F.STN_CLASS_WEIGHT_W2, .fmp), (F.STN_CLASS_WEIGHT_W3, .fmp), (F.STN_CLASS_WEIGHT_W4, .fmp), (F.STN_CLASS_WEIGHT_W5, .fmp)]⟩,
  -- STN_LINK
  ⟨0x300, 1, 0x1000000, 6, 0x8, .p1, .closed, 0x161600,
    [(F.STN_LINK_STATE, .ro), (F.STN_LINK_RX_GOOD, .ro), (F.STN_LINK_TX_GOOD, .ro), (F.STN_LINK_RESYNC_COUNT, .ro)]⟩,
  -- STN_LANE_RX
  ⟨0x340, 1, 0x1000000, 6, 0x8, .p1, .fmp, 0x0,
    [(F.STN_LANE_RX_FAILED, .rws)]⟩,
  -- STN_LANE_TX
  ⟨0x370, 1, 0x1000000, 6, 0x8, .p1, .fmp, 0x0,
    [(F.STN_LANE_TX_FAILED, .rws)]⟩,
  -- STN_LINK_ERR
  ⟨0x3a0, 1, 0x1000000, 6, 0x8, .p1, .fmp, 0x0,
    [(F.STN_LINK_ERR_CECC_SBE, .fmp), (F.STN_LINK_ERR_DECC_SBE, .fmp), (F.STN_LINK_ERR_DECC_DUE, .fmp), (F.STN_LINK_ERR_CECC_DUE, .fmp)]⟩,
  -- STN_VC_OCC
  ⟨0x400, 1, 0x1000000, 12, 0x8, .p1, .closed, 0x0,
    [(F.STN_VC_OCC_REQ_A, .ro), (F.STN_VC_OCC_REQ_B, .ro), (F.STN_VC_OCC_RSP_A, .ro), (F.STN_VC_OCC_RSP_B, .ro), (F.STN_VC_OCC_MSG_A, .ro), (F.STN_VC_OCC_MSG_B, .ro), (F.STN_VC_OCC_MGT, .ro)]⟩,
  -- STN_VC_CRED
  ⟨0x480, 1, 0x1000000, 12, 0x8, .p1, .closed, 0x0,
    [(F.STN_VC_CRED_REQ_A, .ro), (F.STN_VC_CRED_REQ_B, .ro), (F.STN_VC_CRED_RSP_A, .ro), (F.STN_VC_CRED_RSP_B, .ro), (F.STN_VC_CRED_MSG_A, .ro), (F.STN_VC_CRED_MSG_B, .ro), (F.STN_VC_CRED_MGT, .ro)]⟩,
  -- STN_ROUTE_ERR
  ⟨0x500, 1, 0x1000000, 1, 0x8, .p1, .fmp, 0x0,
    [(F.STN_ROUTE_ERR_BADHOP, .fmp), (F.STN_ROUTE_ERR_TURN, .fmp), (F.STN_ROUTE_ERR_LINKDOWN, .fmp), (F.STN_ROUTE_ERR_HDR_DUE, .fmp)]⟩,
  -- STN_TRAV_CTL
  ⟨0x600, 1, 0x1000000, 1, 0x8, .p1, .fmp, 0x0,
    [(F.STN_TRAV_CTL_CUR, .rws), (F.STN_TRAV_CTL_OLD, .rws), (F.STN_TRAV_CTL_OLD_VALID, .rws), (F.STN_TRAV_CTL_RECONF, .fmp), (F.STN_TRAV_CTL_RETIRE_OLD, .wo)]⟩,
  -- STN_TRAV_STATUS
  ⟨0x608, 1, 0x1000000, 1, 0x8, .p1, .closed, 0x0,
    [(F.STN_TRAV_STATUS_HELD, .ro), (F.STN_TRAV_STATUS_RELEASED, .ro), (F.STN_TRAV_STATUS_STRAY, .ro), (F.STN_TRAV_STATUS_HOLDING, .ro)]⟩,
  -- STN_PLAT_CTL
  ⟨0x700, 1, 0x1000000, 11, 0x8, .p1, .fmp, 0x220,
    [(F.STN_PLAT_CTL_BANK, .rws), (F.STN_PLAT_CTL_LEN0, .fmp), (F.STN_PLAT_CTL_LEN1, .fmp), (F.STN_PLAT_CTL_LOCKED, .ro), (F.STN_PLAT_CTL_RESV_COUNT, .ro)]⟩,
  -- STN_PLAT_PATCH
  ⟨0x760, 1, 0x1000000, 1, 0x8, .p1, .fmp, 0xf0000,
    [(F.STN_PLAT_PATCH_PARCEL, .fmp), (F.STN_PLAT_PATCH_PLAT, .fmp), (F.STN_PLAT_PATCH_ENTRY, .fmp), (F.STN_PLAT_PATCH_GO, .fmp), (F.STN_PLAT_PATCH_PENDING, .ro)]⟩,
  -- STN_PLAT_PATCH_TIME
  ⟨0x768, 1, 0x1000000, 1, 0x8, .p1, .closed, 0x0,
    [(F.STN_PLAT_PATCH_TIME_FRAME, .ro)]⟩,
  -- STN_GERR
  ⟨0x770, 1, 0x1000000, 1, 0x8, .p1, .fmp, 0x0,
    [(F.STN_GERR_ORPHAN, .fmp), (F.STN_GERR_MISMATCH, .fmp), (F.STN_GERR_DEADLINK, .fmp), (F.STN_GERR_LAST_CHAIN, .ro)]⟩,
  -- STN_HORIZON
  ⟨0x778, 1, 0x1000000, 1, 0x8, .p1, .closed, 0x400,
    [(F.STN_HORIZON_NEXT, .ro)]⟩,
  -- STN_STK_BIND
  ⟨0x800, 1, 0x1000000, 1, 0x8, .p1, .fmp, 0x0,
    [(F.STN_STK_BIND_SET, .fmp), (F.STN_STK_BIND_VALID, .fmp)]⟩,
  -- STN_STK_STATUS
  ⟨0x810, 1, 0x1000000, 1, 0x8, .p1, .closed, 0x0,
    [(F.STN_STK_STATUS_USED, .ro), (F.STN_STK_STATUS_HIGH, .rc), (F.STN_STK_STATUS_EXTRA, .ro), (F.STN_STK_STATUS_LOST, .ro)]⟩]

/-- R444: a station. Part 1. -/
def stnRows1 : List RegRow := [
  -- STN_STK_EXP
  ⟨0x840, 1, 0x1000000, 8, 0x8, .p1, .fmp, 0x0,
    [(F.STN_STK_EXP_CMD, .fmp), (F.STN_STK_EXP_PART, .fmp), (F.STN_STK_EXP_PRELOAD, .fmp), (F.STN_STK_EXP_ASAP, .fmp), (F.STN_STK_EXP_STAGED, .fmp), (F.STN_STK_EXP_SHADOWS, .fmp), (F.STN_STK_EXP_T_LOW, .fmp)]⟩,
  -- STN_STK_SET
  ⟨0x880, 1, 0x1000000, 8, 0x8, .p1, .closed, 0x8,
    [(F.STN_STK_SET_STATE, .ro), (F.STN_STK_SET_READY, .ro), (F.STN_STK_SET_FAULT, .ro), (F.STN_STK_SET_MISSED, .ro), (F.STN_STK_SET_FAULT_CODE, .ro), (F.STN_STK_SET_ACC, .ro), (F.STN_STK_SET_DONE, .ro), (F.STN_STK_SET_SHADOWS, .ro), (F.STN_STK_SET_REFUSED, .ro)]⟩,
  -- STN_EVT_CAUSE
  ⟨0x900, 1, 0x1000000, 1, 0x8, .p1, .p1, 0x0,
    [(F.STN_EVT_CAUSE_CAUSE, .w1c)]⟩,
  -- STN_EVT_EN
  ⟨0x908, 1, 0x1000000, 1, 0x8, .p1, .p2, 0xff,
    [(F.STN_EVT_EN_EN, .rw)]⟩,
  -- STN_SINK
  ⟨0x910, 1, 0x1000000, 1, 0x8, .p1, .fmp, 0x0,
    [(F.STN_SINK_NR_SENT, .fmp), (F.STN_SINK_NR_LOST, .fmp), (F.STN_SINK_NR_QUEUE, .ro), (F.STN_SINK_MISFIT, .fmp)]⟩,
  -- STN_PWR_CTL
  ⟨0xa00, 1, 0x1000000, 1, 0x8, .p1, .fmp, 0x2,
    [(F.STN_PWR_CTL_DEEPEST, .fmp), (F.STN_PWR_CTL_SLEEP_REQ, .fmp)]⟩,
  -- STN_PWR_STATUS
  ⟨0xa08, 1, 0x1000000, 1, 0x8, .p1, .closed, 0x0,
    [(F.STN_PWR_STATUS_STATE, .ro), (F.STN_PWR_STATUS_BE_WAKES, .ro), (F.STN_PWR_STATUS_SLEEPS, .ro)]⟩,
  -- END_BENCH
  ⟨0xb00, 1, 0x1000000, 16, 0x8, .p1, .closed, 0x0,
    [(F.END_BENCH_READING, .ro), (F.END_BENCH_BASE, .ro), (F.END_BENCH_DRIFT, .ro)]⟩,
  -- END_STN_STATUS
  ⟨0xb80, 1, 0x1000000, 1, 0x8, .p1, .closed, 0x0,
    [(F.END_STN_STATUS_DRIFT, .ro), (F.END_STN_STATUS_TRIGGERED, .ro), (F.END_STN_STATUS_VACATED, .ro), (F.END_STN_STATUS_BIST, .ro), (F.END_STN_STATUS_BIST_BLOCK, .ro), (F.END_STN_STATUS_REPLANS, .ro)]⟩,
  -- END_STN_REPLAN
  ⟨0xb88, 1, 0x1000000, 1, 0x8, .p1, .closed, 0x0,
    [(F.END_STN_REPLAN_INSTANT, .ro)]⟩,
  -- END_LANE
  ⟨0xc00, 1, 0x1000000, 6, 0x8, .p1, .closed, 0x0,
    [(F.END_LANE_TEST, .ro), (F.END_LANE_SOFT, .ro), (F.END_LANE_WORST_EYE, .ro), (F.END_LANE_WORST_LANE, .ro), (F.END_LANE_WORST_SBE, .ro)]⟩,
  -- END_LANE_TROUBLE
  ⟨0xc40, 1, 0x1000000, 6, 0x8, .p1, .fmp, 0x0,
    [(F.END_LANE_TROUBLE_FAILS, .fmp), (F.END_LANE_TROUBLE_RESTORES, .fmp), (F.END_LANE_TROUBLE_FORCED, .fmp)]⟩,
  -- STN_CNT
  ⟨0x4000, 1, 0x1000000, 40, 0x8, .cnt, .closed, 0x0,
    [(F.STN_CNT_COUNT, .ro), (F.STN_CNT_SAT, .ro)]⟩,
  -- STN_CNT_MODE
  ⟨0x4200, 1, 0x1000000, 1, 0x8, .p1, .p2, 0x0,
    [(F.STN_CNT_MODE_EDGE, .rw)]⟩,
  -- STN_CNT_PERM
  ⟨0x4208, 1, 0x1000000, 1, 0x8, .p1, .fmp, 0x0,
    [(F.STN_CNT_PERM_USER, .fmp)]⟩,
  -- STN_CNT_CLEAR
  ⟨0x4210, 1, 0x1000000, 1, 0x8, .p1, .p2, 0x0,
    [(F.STN_CNT_CLEAR_CLEAR, .rw)]⟩,
  -- STN_SRV_SEQ
  ⟨0x4218, 1, 0x1000000, 1, 0x8, .p0, .closed, 0x0,
    [(F.STN_SRV_SEQ_SEQ, .ro), (F.STN_SRV_SEQ_VALID, .ro)]⟩,
  -- STN_PROBE_FILTER
  ⟨0x4300, 1, 0x1000000, 1, 0x8, .p1, .fmp, 0x0,
    [(F.STN_PROBE_FILTER_POINT, .fmp), (F.STN_PROBE_FILTER_CMD_EN, .fmp), (F.STN_PROBE_FILTER_CMD, .fmp), (F.STN_PROBE_FILTER_CLASS_EN, .fmp), (F.STN_PROBE_FILTER_CLASS, .fmp), (F.STN_PROBE_FILTER_TRAV_EN, .fmp), (F.STN_PROBE_FILTER_TRAV, .fmp), (F.STN_PROBE_FILTER_ERR, .fmp), (F.STN_PROBE_FILTER_TAGGED, .fmp), (F.STN_PROBE_FILTER_SRC_EN, .fmp), (F.STN_PROBE_FILTER_SRC, .fmp), (F.STN_PROBE_FILTER_DEST_EN, .fmp), (F.STN_PROBE_FILTER_DEST, .fmp)]⟩,
  -- STN_PROBE_ACTION
  ⟨0x4308, 1, 0x1000000, 1, 0x8, .p1, .fmp, 0x0,
    [(F.STN_PROBE_ACTION_EN, .fmp), (F.STN_PROBE_ACTION_TRACE, .fmp), (F.STN_PROBE_ACTION_TAG, .fmp), (F.STN_PROBE_ACTION_FREEZE, .fmp), (F.STN_PROBE_ACTION_ONCE, .fmp), (F.STN_PROBE_ACTION_PRESCALE, .fmp)]⟩,
  -- STN_PROBE_STATUS
  ⟨0x4310, 1, 0x1000000, 1, 0x8, .p1, .closed, 0x0,
    [(F.STN_PROBE_STATUS_MATCHES, .ro), (F.STN_PROBE_STATUS_FIRES, .ro), (F.STN_PROBE_STATUS_SPENT, .ro)]⟩]

/-- R444: a station. -/
def stnRows : List RegRow := stnRows0 ++ stnRows1

/-- R445: an NI. Part 0. -/
def niRows0 : List RegRow := [
  -- NI_DATUM
  ⟨0x100, 1, 0x1000000, 1, 0x8, .p1, .closed, 0x0,
    [(F.NI_DATUM_DATUM, .ro)]⟩,
  -- NI_TRAV_CTL
  ⟨0x600, 1, 0x1000000, 1, 0x8, .p1, .fmp, 0x0,
    [(F.NI_TRAV_CTL_CUR, .rws)]⟩,
  -- NI_TRAV_STATUS
  ⟨0x608, 1, 0x1000000, 1, 0x8, .p1, .closed, 0x0,
    [(F.NI_TRAV_STATUS_OUT0, .ro), (F.NI_TRAV_STATUS_OUT1, .ro), (F.NI_TRAV_STATUS_OUT2, .ro), (F.NI_TRAV_STATUS_OUT3, .ro)]⟩,
  -- NI_TRAV_DRAIN
  ⟨0x610, 1, 0x1000000, 1, 0x8, .p1, .closed, 0x400000000,
    [(F.NI_TRAV_DRAIN_DRAIN_BARS, .ro), (F.NI_TRAV_DRAIN_DRAIN_ERR, .ro), (F.NI_TRAV_DRAIN_LAST_OLD, .ro), (F.NI_TRAV_DRAIN_DRAINED, .ro)]⟩,
  -- NI_ROUTE_HOME
  ⟨0x618, 1, 0x1000000, 1, 0x8, .p1, .fmp, 0x0,
    [(F.NI_ROUTE_HOME_ROUTE, .rws)]⟩,
  -- NI_ROUTE_CTL
  ⟨0x620, 1, 0x1000000, 1, 0x8, .p1, .fmp, 0x0,
    [(F.NI_ROUTE_CTL_INV_GO, .wo), (F.NI_ROUTE_CTL_INV_TRAV, .wo), (F.NI_ROUTE_CTL_INV_ALL, .wo)]⟩,
  -- NI_ROUTE_STATUS
  ⟨0x628, 1, 0x1000000, 1, 0x8, .p1, .closed, 0x3ffff00,
    [(F.NI_ROUTE_STATUS_INV_BUSY, .ro), (F.NI_ROUTE_STATUS_RQ_FILL, .ro), (F.NI_ROUTE_STATUS_RS_FILL, .ro), (F.NI_ROUTE_STATUS_LAST_NR_DEST, .ro), (F.NI_ROUTE_STATUS_FILL_TIMEOUTS, .ro), (F.NI_ROUTE_STATUS_NR_COUNT, .ro)]⟩,
  -- NI_CHAIN_CTL
  ⟨0x700, 1, 0x1000000, 1, 0x8, .p1, .fmp, 0x0,
    [(F.NI_CHAIN_CTL_PROBE_IDX, .fmp), (F.NI_CHAIN_CTL_PROBE_GO, .fmp), (F.NI_CHAIN_CTL_PROBE_PEND, .ro)]⟩,
  -- NI_CHAIN_STATUS
  ⟨0x708, 1, 0x1000000, 1, 0x8, .p1, .fmp, 0x0,
    [(F.NI_CHAIN_STATUS_UNKNOWN, .fmp)]⟩,
  -- NI_CHAIN_PROBE_TX
  ⟨0x710, 1, 0x1000000, 1, 0x8, .p1, .closed, 0x0,
    [(F.NI_CHAIN_PROBE_TX_INSTANT, .ro)]⟩,
  -- NI_CHAIN_PROBE_RX
  ⟨0x718, 1, 0x1000000, 1, 0x8, .p1, .closed, 0x0,
    [(F.NI_CHAIN_PROBE_RX_INSTANT, .ro)]⟩,
  -- NI_CHAIN_PROBE_RXID
  ⟨0x720, 1, 0x1000000, 1, 0x8, .p1, .closed, 0x0,
    [(F.NI_CHAIN_PROBE_RXID_CHAIN, .ro), (F.NI_CHAIN_PROBE_RXID_VALID, .ro), (F.NI_CHAIN_PROBE_RXID_SENT, .ro)]⟩,
  -- NI_CHAIN_POOL
  ⟨0x728, 1, 0x1000000, 1, 0x8, .p1, .closed, 0x0,
    [(F.NI_CHAIN_POOL_SRC_ACTIVE, .ro), (F.NI_CHAIN_POOL_DST_ACTIVE, .ro), (F.NI_CHAIN_POOL_POOL_BYTES, .ro)]⟩,
  -- NI_CHAIN_SRC_CFG
  ⟨0x800, 1, 0x1000000, 64, 0x8, .p1, .fmp, 0x0,
    [(F.NI_CHAIN_SRC_CFG_VALID, .rws), (F.NI_CHAIN_SRC_CFG_FULL_POLICY, .rws), (F.NI_CHAIN_SRC_CFG_CHAIN, .rws)]⟩,
  -- NI_CHAIN_SRC_SCH
  ⟨0xa00, 1, 0x1000000, 64, 0x8, .p1, .fmp, 0x10002,
    [(F.NI_CHAIN_SRC_SCH_PERIOD, .rws), (F.NI_CHAIN_SRC_SCH_OFFSET, .rws), (F.NI_CHAIN_SRC_SCH_COUNT, .rws), (F.NI_CHAIN_SRC_SCH_SPACING, .rws)]⟩,
  -- NI_CHAIN_SRC_STAT
  ⟨0xc00, 1, 0x1000000, 64, 0x8, .p1, .closed, 0x0,
    [(F.NI_CHAIN_SRC_STAT_OCC, .ro), (F.NI_CHAIN_SRC_STAT_SEQ, .ro), (F.NI_CHAIN_SRC_STAT_DROPS, .ro), (F.NI_CHAIN_SRC_STAT_MAX_OCC, .rc)]⟩,
  -- NI_CHAIN_DST_CFG
  ⟨0xe00, 1, 0x1000000, 64, 0x8, .p1, .fmp, 0x0,
    [(F.NI_CHAIN_DST_CFG_VALID, .rws), (F.NI_CHAIN_DST_CFG_MODE, .rws), (F.NI_CHAIN_DST_CFG_CHAIN, .rws), (F.NI_CHAIN_DST_CFG_SLOT, .rws)]⟩,
  -- NI_CHAIN_DST_STAT
  ⟨0x1000, 1, 0x1000000, 64, 0x8, .p1, .closed, 0x0,
    [(F.NI_CHAIN_DST_STAT_SEQ_EXP, .ro), (F.NI_CHAIN_DST_STAT_OCC, .ro), (F.NI_CHAIN_DST_STAT_LOST, .ro), (F.NI_CHAIN_DST_STAT_DUE, .ro), (F.NI_CHAIN_DST_STAT_OVERRUN, .ro)]⟩,
  -- NI_STATE_STATUS
  ⟨0x1200, 1, 0x1000000, 1, 0x8, .p1, .p1, 0x0,
    [(F.NI_STATE_STATUS_PENDING, .ro), (F.NI_STATE_STATUS_HELD, .ro), (F.NI_STATE_STATUS_LAST_STALE, .ro), (F.NI_STATE_STATUS_STALE_SEEN, .w1c), (F.NI_STATE_STATUS_DELIVERED, .ro)]⟩,
  -- NI_STATE_COUNT_A
  ⟨0x1208, 1, 0x1000000, 1, 0x8, .p1, .closed, 0x0,
    [(F.NI_STATE_COUNT_A_OVERWRITE, .ro), (F.NI_STATE_COUNT_A_STALE, .ro), (F.NI_STATE_COUNT_A_BEHIND, .ro), (F.NI_STATE_COUNT_A_DISCARD, .ro)]⟩]

/-- R445: an NI. Part 1. -/
def niRows1 : List RegRow := [
  -- NI_STATE_COUNT_B
  ⟨0x1210, 1, 0x1000000, 1, 0x8, .p1, .closed, 0x0,
    [(F.NI_STATE_COUNT_B_UNSYNC, .ro), (F.NI_STATE_COUNT_B_SPAN_ERR, .ro), (F.NI_STATE_COUNT_B_FUTURE, .ro), (F.NI_STATE_COUNT_B_DENIED, .ro)]⟩,
  -- NI_STATE_CFG
  ⟨0x1400, 1, 0x1000000, 256, 0x8, .p1, .fmp, 0x100,
    [(F.NI_STATE_CFG_EN, .rws), (F.NI_STATE_CFG_SPUT_EN, .rws), (F.NI_STATE_CFG_MIN_PRIV, .rws), (F.NI_STATE_CFG_NOTIFY, .rws), (F.NI_STATE_CFG_SPAN, .rws), (F.NI_STATE_CFG_MAX_AGE, .rws)]⟩,
  -- NI_STATE_STAMP
  ⟨0x1c00, 1, 0x1000000, 256, 0x8, .p1, .closed, 0x0,
    [(F.NI_STATE_STAMP_STAMP, .ro), (F.NI_STATE_STAMP_STATE, .ro)]⟩,
  -- NI_CLASS_MAP
  ⟨0x2400, 1, 0x1000000, 1, 0x8, .p1, .p2, 0x66543210,
    [(F.NI_CLASS_MAP_CLASS0, .rw), (F.NI_CLASS_MAP_CLASS1, .rw), (F.NI_CLASS_MAP_CLASS2, .rw), (F.NI_CLASS_MAP_CLASS3, .rw), (F.NI_CLASS_MAP_CLASS4, .rw), (F.NI_CLASS_MAP_CLASS5, .rw), (F.NI_CLASS_MAP_CLASS6, .rw), (F.NI_CLASS_MAP_CLASS7, .rw)]⟩,
  -- NI_WFQ_WEIGHT
  ⟨0x2408, 1, 0x1000000, 1, 0x8, .p1, .p2, 0x202020202020,
    [(F.NI_WFQ_WEIGHT_W0, .rw), (F.NI_WFQ_WEIGHT_W1, .rw), (F.NI_WFQ_WEIGHT_W2, .rw), (F.NI_WFQ_WEIGHT_W3, .rw), (F.NI_WFQ_WEIGHT_W4, .rw), (F.NI_WFQ_WEIGHT_W5, .rw)]⟩,
  -- NI_WFQ_VTIME
  ⟨0x2410, 1, 0x1000000, 1, 0x8, .p1, .closed, 0x0,
    [(F.NI_WFQ_VTIME_V, .ro)]⟩,
  -- NI_QUEUE_DEPTH
  ⟨0x2418, 1, 0x1000000, 1, 0x8, .p1, .closed, 0x0,
    [(F.NI_QUEUE_DEPTH_DEPTH0, .ro), (F.NI_QUEUE_DEPTH_DEPTH1, .ro), (F.NI_QUEUE_DEPTH_DEPTH2, .ro), (F.NI_QUEUE_DEPTH_DEPTH3, .ro), (F.NI_QUEUE_DEPTH_DEPTH4, .ro), (F.NI_QUEUE_DEPTH_DEPTH5, .ro), (F.NI_QUEUE_DEPTH_DEPTH6, .ro), (F.NI_QUEUE_DEPTH_MGT, .ro)]⟩,
  -- NI_SHAPE_CTL
  ⟨0x2440, 1, 0x1000000, 1, 0x8, .p1, .p2, 0x0,
    [(F.NI_SHAPE_CTL_EN, .rw), (F.NI_SHAPE_CTL_RELOAD, .rw)]⟩,
  -- NI_SHAPE_RATE
  ⟨0x2480, 1, 0x1000000, 7, 0x8, .p1, .p2, 0x1000000010000,
    [(F.NI_SHAPE_RATE_RATE_C, .rw), (F.NI_SHAPE_RATE_RATE_P, .rw)]⟩,
  -- NI_SHAPE_SIZE
  ⟨0x24c0, 1, 0x1000000, 7, 0x8, .p1, .p2, 0x110011,
    [(F.NI_SHAPE_SIZE_SIZE_C, .rw), (F.NI_SHAPE_SIZE_SIZE_P, .rw)]⟩,
  -- NI_SHAPE_LEVEL
  ⟨0x2500, 1, 0x1000000, 7, 0x8, .p1, .closed, 0x11000000110000,
    [(F.NI_SHAPE_LEVEL_LEVEL_C, .ro), (F.NI_SHAPE_LEVEL_LEVEL_P, .ro)]⟩,
  -- NI_SLUICE_CTL
  ⟨0x2600, 1, 0x1000000, 1, 0x8, .p1, .p2, 0x100,
    [(F.NI_SLUICE_CTL_EN, .rw), (F.NI_SLUICE_CTL_GO, .wo), (F.NI_SLUICE_CTL_CANCEL, .wo), (F.NI_SLUICE_CTL_ADMIN_LEN, .rw)]⟩,
  -- NI_SLUICE_STATUS
  ⟨0x2608, 1, 0x1000000, 1, 0x8, .p1, .closed, 0x0,
    [(F.NI_SLUICE_STATUS_PENDING, .ro), (F.NI_SLUICE_STATUS_LATE_START, .ro), (F.NI_SLUICE_STATUS_RUNNING, .ro), (F.NI_SLUICE_STATUS_INDEX, .ro), (F.NI_SLUICE_STATUS_SKIPPED, .ro)]⟩,
  -- NI_SLUICE_BASE
  ⟨0x2610, 1, 0x1000000, 1, 0x8, .p1, .p2, 0x0,
    [(F.NI_SLUICE_BASE_INSTANT, .rw)]⟩,
  -- NI_SLUICE_START
  ⟨0x2618, 1, 0x1000000, 1, 0x8, .p1, .closed, 0x0,
    [(F.NI_SLUICE_START_INSTANT, .ro)]⟩,
  -- NI_SLUICE_CYCLE
  ⟨0x2620, 1, 0x1000000, 1, 0x8, .p1, .closed, 0x0,
    [(F.NI_SLUICE_CYCLE_CYCLE, .ro)]⟩,
  -- NI_SLUICE_ADMIN
  ⟨0x2700, 1, 0x1000000, 32, 0x8, .p1, .p2, 0x7f,
    [(F.NI_SLUICE_ADMIN_GATES, .rw), (F.NI_SLUICE_ADMIN_DURATION, .rw)]⟩,
  -- NI_SLUICE_OPER
  ⟨0x2800, 1, 0x1000000, 32, 0x8, .p1, .closed, 0x7f,
    [(F.NI_SLUICE_OPER_GATES, .ro), (F.NI_SLUICE_OPER_DURATION, .ro)]⟩,
  -- NI_HIST_CTL
  ⟨0x2900, 1, 0x1000000, 1, 0x8, .p1, .p1, 0xa0,
    [(F.NI_HIST_CTL_CLASS, .rw), (F.NI_HIST_CTL_DEPTH_EXP, .rw), (F.NI_HIST_CTL_DELAY_EXP, .rw), (F.NI_HIST_CTL_FREEZE, .rw), (F.NI_HIST_CTL_CLEAR, .wo)]⟩,
  -- NI_HIST_DEPTH
  ⟨0x2940, 1, 0x1000000, 8, 0x8, .p1, .closed, 0x0,
    [(F.NI_HIST_DEPTH_COUNT, .ro)]⟩]

/-- R445: an NI. Part 2. -/
def niRows2 : List RegRow := [
  -- NI_HIST_DELAY
  ⟨0x2980, 1, 0x1000000, 8, 0x8, .p1, .closed, 0x0,
    [(F.NI_HIST_DELAY_COUNT, .ro)]⟩,
  -- NI_HIST_STATUS
  ⟨0x29c0, 1, 0x1000000, 1, 0x8, .p1, .closed, 0x0,
    [(F.NI_HIST_STATUS_MAX_DELAY, .rc), (F.NI_HIST_STATUS_SKIPPED, .ro)]⟩,
  -- NI_MERGE_CTL
  ⟨0x2a00, 1, 0x1000000, 1, 0x8, .p1, .p2, 0x40,
    [(F.NI_MERGE_CTL_WINDOW, .rw), (F.NI_MERGE_CTL_FLUSH, .wo)]⟩,
  -- NI_MERGE_STATUS
  ⟨0x2a08, 1, 0x1000000, 1, 0x8, .p1, .closed, 0x0,
    [(F.NI_MERGE_STATUS_LINES, .ro), (F.NI_MERGE_STATUS_EVICTS, .ro), (F.NI_MERGE_STATUS_WRM_COUNT, .ro)]⟩,
  -- NI_BAR_STATUS
  ⟨0x2a10, 1, 0x1000000, 1, 0x8, .p1, .closed, 0x0,
    [(F.NI_BAR_STATUS_STATE, .ro), (F.NI_BAR_STATUS_QUEUED, .ro), (F.NI_BAR_STATUS_PORT_BARS, .ro), (F.NI_BAR_STATUS_LAST_STATUS, .ro), (F.NI_BAR_STATUS_LAST_TAG, .ro), (F.NI_BAR_STATUS_ERR_COUNT, .ro)]⟩,
  -- NI_RESP_POOL
  ⟨0x2a18, 1, 0x1000000, 1, 0x8, .p1, .closed, 0x0,
    [(F.NI_RESP_POOL_TAGS, .ro), (F.NI_RESP_POOL_RESERVED, .ro)]⟩,
  -- NI_EXCL_CTL
  ⟨0x2a20, 1, 0x1000000, 1, 0x8, .p1, .p2, 0x10000201000,
    [(F.NI_EXCL_CTL_PROTECT, .rw), (F.NI_EXCL_CTL_MAX_RETRY, .rw), (F.NI_EXCL_CTL_LIFE, .rw)]⟩,
  -- NI_EXCL_STATUS
  ⟨0x2a28, 1, 0x1000000, 1, 0x8, .p1, .closed, 0x0,
    [(F.NI_EXCL_STATUS_NACK_SENT, .ro), (F.NI_EXCL_STATUS_NACK_RCVD, .ro), (F.NI_EXCL_STATUS_WRXF_SENT, .ro), (F.NI_EXCL_STATUS_EVICTS, .ro)]⟩,
  -- NI_BAR_FENCE
  ⟨0x2a40, 1, 0x1000000, 4, 0x8, .p1, .closed, 0x0,
    [(F.NI_BAR_FENCE_FENCE, .ro)]⟩,
  -- NI_STK_BIND
  ⟨0x2b00, 1, 0x1000000, 1, 0x8, .p1, .fmp, 0x0,
    [(F.NI_STK_BIND_SET, .fmp), (F.NI_STK_BIND_VALID, .fmp)]⟩,
  -- NI_STK_CTL
  ⟨0x2b08, 1, 0x1000000, 1, 0x8, .p1, .p2, 0x1,
    [(F.NI_STK_CTL_MIN_PRIV, .rw)]⟩,
  -- NI_STK_STATUS
  ⟨0x2b10, 1, 0x1000000, 1, 0x8, .p1, .closed, 0x0,
    [(F.NI_STK_STATUS_USED, .ro), (F.NI_STK_STATUS_HIGH, .rc), (F.NI_STK_STATUS_EXTRA, .ro), (F.NI_STK_STATUS_LOST, .ro)]⟩,
  -- NI_STK_EXP
  ⟨0x2b40, 1, 0x1000000, 8, 0x8, .p1, .fmp, 0x0,
    [(F.NI_STK_EXP_CMD, .fmp), (F.NI_STK_EXP_PART, .fmp), (F.NI_STK_EXP_PRELOAD, .fmp), (F.NI_STK_EXP_ASAP, .fmp), (F.NI_STK_EXP_STAGED, .fmp), (F.NI_STK_EXP_SHADOWS, .fmp), (F.NI_STK_EXP_T_LOW, .fmp)]⟩,
  -- NI_STK_SET
  ⟨0x2b80, 1, 0x1000000, 8, 0x8, .p1, .closed, 0x8,
    [(F.NI_STK_SET_STATE, .ro), (F.NI_STK_SET_READY, .ro), (F.NI_STK_SET_FAULT, .ro), (F.NI_STK_SET_MISSED, .ro), (F.NI_STK_SET_FAULT_CODE, .ro), (F.NI_STK_SET_ACC, .ro), (F.NI_STK_SET_DONE, .ro), (F.NI_STK_SET_SHADOWS, .ro), (F.NI_STK_SET_REFUSED, .ro)]⟩,
  -- NI_REGION_BASE
  ⟨0x3000, 1, 0x1000000, 32, 0x20, .p1, .p2, 0x0,
    [(F.NI_REGION_BASE_PAGE, .rw)]⟩,
  -- NI_REGION_LIMIT
  ⟨0x3008, 1, 0x1000000, 32, 0x20, .p1, .p2, 0x0,
    [(F.NI_REGION_LIMIT_PAGE, .rw)]⟩,
  -- NI_REGION_TBASE
  ⟨0x3010, 1, 0x1000000, 32, 0x20, .p1, .p2, 0x0,
    [(F.NI_REGION_TBASE_PAGE, .rw)]⟩,
  -- NI_REGION_CFG
  ⟨0x3018, 1, 0x1000000, 32, 0x20, .p1, .p2, 0x3ffff00,
    [(F.NI_REGION_CFG_VALID, .rw), (F.NI_REGION_CFG_TYPE, .rw), (F.NI_REGION_CFG_KIND, .rw), (F.NI_REGION_CFG_STAKE, .rw), (F.NI_REGION_CFG_DEST, .rw)]⟩,
  -- NI_MONITOR_LINE
  ⟨0x3400, 1, 0x1000000, 64, 0x8, .p1, .closed, 0x0,
    [(F.NI_MONITOR_LINE_LINE, .ro)]⟩,
  -- NI_MONITOR_OWN
  ⟨0x3600, 1, 0x1000000, 64, 0x8, .p1, .closed, 0x3ffff0003ffff,
    [(F.NI_MONITOR_OWN_OWNER, .ro), (F.NI_MONITOR_OWN_VALID, .ro), (F.NI_MONITOR_OWN_PROTECTED, .ro), (F.NI_MONITOR_OWN_HANDOFF, .ro), (F.NI_MONITOR_OWN_NEXT, .ro)]⟩]

/-- R445: an NI. Part 3. -/
def niRows3 : List RegRow := [
  -- NI_DESC
  ⟨0x3800, 1, 0x1000000, 32, 0x8, .p1, .closed, 0x0,
    [(F.NI_DESC_BYTES, .ro)]⟩,
  -- NI_PORT_CTL
  ⟨0x3900, 1, 0x1000000, 1, 0x8, .p1, .fmp, 0x104004000,
    [(F.NI_PORT_CTL_DESC_GO, .fmp), (F.NI_PORT_CTL_QACK_LIMIT, .fmp), (F.NI_PORT_CTL_TS_LIMIT, .fmp), (F.NI_PORT_CTL_MAX_OUT, .fmp)]⟩,
  -- NI_PORT_STATUS
  ⟨0x3908, 1, 0x1000000, 1, 0x8, .p1, .closed, 0x0,
    [(F.NI_PORT_STATUS_PWR_UP, .ro), (F.NI_PORT_STATUS_QREQ, .ro), (F.NI_PORT_STATUS_QACK, .ro), (F.NI_PORT_STATUS_DESC_STATE, .ro), (F.NI_PORT_STATUS_DESC_FAIL, .ro), (F.NI_PORT_STATUS_TS_OUT, .ro), (F.NI_PORT_STATUS_EVM_DROP, .ro)]⟩,
  -- NI_PORT_ERR
  ⟨0x3910, 1, 0x1000000, 1, 0x8, .p1, .fmp, 0x0,
    [(F.NI_PORT_ERR_PARITY, .fmp), (F.NI_PORT_ERR_PROTOCOL, .fmp), (F.NI_PORT_ERR_BADTS, .fmp), (F.NI_PORT_ERR_HANG, .fmp)]⟩,
  -- NI_PORT_ERR_CAP
  ⟨0x3918, 1, 0x1000000, 1, 0x8, .p1, .p2, 0x0,
    [(F.NI_PORT_ERR_CAP_CODE, .ro), (F.NI_PORT_ERR_CAP_VALID, .w1c), (F.NI_PORT_ERR_CAP_TAG, .ro)]⟩,
  -- NI_CTL
  ⟨0x3a00, 1, 0x1000000, 1, 0x8, .p1, .fmp, 0x1000,
    [(F.NI_CTL_STATE, .ro), (F.NI_CTL_DISABLE_DONE, .ro), (F.NI_CTL_PWR_DOWN_OK, .ro), (F.NI_CTL_ISO_CAUSE, .ro), (F.NI_CTL_AUTO_ISO_HANG, .fmp), (F.NI_CTL_CMD, .fmp)]⟩,
  -- NI_TIMEOUT
  ⟨0x3a08, 1, 0x1000000, 1, 0x8, .p1, .p2, 0x1000100,
    [(F.NI_TIMEOUT_REQ, .rw), (F.NI_TIMEOUT_QUAR, .rw), (F.NI_TIMEOUT_LATE_RSP, .ro)]⟩,
  -- NI_SINK
  ⟨0x3a10, 1, 0x1000000, 1, 0x8, .p1, .fmp, 0x0,
    [(F.NI_SINK_REQ_ABS, .fmp), (F.NI_SINK_POSTED, .fmp), (F.NI_SINK_RSP_ABS, .fmp), (F.NI_SINK_G_DROP, .fmp)]⟩,
  -- NI_TROUBLE0
  ⟨0x3a18, 1, 0x1000000, 1, 0x8, .p1, .fmp, 0x0,
    [(F.NI_TROUBLE0_TGTERR, .fmp), (F.NI_TROUBLE0_DEAD, .fmp), (F.NI_TROUBLE0_PDOWN, .fmp), (F.NI_TROUBLE0_NOROUTE, .fmp)]⟩,
  -- NI_TROUBLE1
  ⟨0x3a20, 1, 0x1000000, 1, 0x8, .p1, .fmp, 0x0,
    [(F.NI_TROUBLE1_CRC, .fmp), (F.NI_TROUBLE1_TIMEOUT, .fmp), (F.NI_TROUBLE1_DENY, .fmp), (F.NI_TROUBLE1_LATE, .fmp)]⟩,
  -- NI_ERR_ICAP_INFO
  ⟨0x3a28, 1, 0x1000000, 1, 0x8, .p1, .p2, 0x3ffff000000,
    [(F.NI_ERR_ICAP_INFO_CODE, .ro), (F.NI_ERR_ICAP_INFO_VALID, .w1c), (F.NI_ERR_ICAP_INFO_POSTED, .ro), (F.NI_ERR_ICAP_INFO_CMD, .ro), (F.NI_ERR_ICAP_INFO_TAG, .ro), (F.NI_ERR_ICAP_INFO_PEER, .ro), (F.NI_ERR_ICAP_INFO_BY, .ro)]⟩,
  -- NI_ERR_ICAP_ADDR
  ⟨0x3a30, 1, 0x1000000, 1, 0x8, .p1, .closed, 0x0,
    [(F.NI_ERR_ICAP_ADDR_VALUE, .ro)]⟩,
  -- NI_ERR_ICAP_TIME
  ⟨0x3a38, 1, 0x1000000, 1, 0x8, .p1, .closed, 0x0,
    [(F.NI_ERR_ICAP_TIME_VALUE, .ro)]⟩,
  -- NI_ERR_TCAP_INFO
  ⟨0x3a40, 1, 0x1000000, 1, 0x8, .p1, .p2, 0x3ffff000000,
    [(F.NI_ERR_TCAP_INFO_CODE, .ro), (F.NI_ERR_TCAP_INFO_VALID, .w1c), (F.NI_ERR_TCAP_INFO_POSTED, .ro), (F.NI_ERR_TCAP_INFO_CMD, .ro), (F.NI_ERR_TCAP_INFO_TAG, .ro), (F.NI_ERR_TCAP_INFO_PEER, .ro), (F.NI_ERR_TCAP_INFO_BY, .ro)]⟩,
  -- NI_ERR_TCAP_ADDR
  ⟨0x3a48, 1, 0x1000000, 1, 0x8, .p1, .closed, 0x0,
    [(F.NI_ERR_TCAP_ADDR_VALUE, .ro)]⟩,
  -- NI_ERR_TCAP_TIME
  ⟨0x3a50, 1, 0x1000000, 1, 0x8, .p1, .closed, 0x0,
    [(F.NI_ERR_TCAP_TIME_VALUE, .ro)]⟩,
  -- NI_EVT_CAUSE
  ⟨0x3a58, 1, 0x1000000, 1, 0x8, .p1, .p1, 0x0,
    [(F.NI_EVT_CAUSE_CAUSE, .w1c)]⟩,
  -- NI_EVT_EN
  ⟨0x3a60, 1, 0x1000000, 1, 0x8, .p1, .p2, 0xff,
    [(F.NI_EVT_EN_EN, .rw)]⟩,
  -- NI_CNT
  ⟨0x4000, 1, 0x1000000, 24, 0x8, .cnt, .closed, 0x0,
    [(F.NI_CNT_COUNT, .ro), (F.NI_CNT_SAT, .ro)]⟩,
  -- NI_CNT_MODE
  ⟨0x4200, 1, 0x1000000, 1, 0x8, .p1, .p2, 0x0,
    [(F.NI_CNT_MODE_EDGE, .rw)]⟩]

/-- R445: an NI. Part 4. -/
def niRows4 : List RegRow := [
  -- NI_CNT_PERM
  ⟨0x4208, 1, 0x1000000, 1, 0x8, .p1, .fmp, 0x0,
    [(F.NI_CNT_PERM_USER, .fmp)]⟩,
  -- NI_CNT_CLEAR
  ⟨0x4210, 1, 0x1000000, 1, 0x8, .p1, .p2, 0x0,
    [(F.NI_CNT_CLEAR_CLEAR, .rw)]⟩,
  -- NI_SRV_SEQ
  ⟨0x4218, 1, 0x1000000, 1, 0x8, .p0, .closed, 0x0,
    [(F.NI_SRV_SEQ_SEQ, .ro), (F.NI_SRV_SEQ_VALID, .ro)]⟩,
  -- NI_PROBE_FILTER
  ⟨0x4300, 1, 0x1000000, 1, 0x8, .p1, .fmp, 0x0,
    [(F.NI_PROBE_FILTER_POINT, .fmp), (F.NI_PROBE_FILTER_CMD_EN, .fmp), (F.NI_PROBE_FILTER_CMD, .fmp), (F.NI_PROBE_FILTER_CLASS_EN, .fmp), (F.NI_PROBE_FILTER_CLASS, .fmp), (F.NI_PROBE_FILTER_TRAV_EN, .fmp), (F.NI_PROBE_FILTER_TRAV, .fmp), (F.NI_PROBE_FILTER_ERR, .fmp), (F.NI_PROBE_FILTER_TAGGED, .fmp), (F.NI_PROBE_FILTER_SRC_EN, .fmp), (F.NI_PROBE_FILTER_SRC, .fmp), (F.NI_PROBE_FILTER_DEST_EN, .fmp), (F.NI_PROBE_FILTER_DEST, .fmp)]⟩,
  -- NI_PROBE_ACTION
  ⟨0x4308, 1, 0x1000000, 1, 0x8, .p1, .fmp, 0x0,
    [(F.NI_PROBE_ACTION_EN, .fmp), (F.NI_PROBE_ACTION_TRACE, .fmp), (F.NI_PROBE_ACTION_TAG, .fmp), (F.NI_PROBE_ACTION_FREEZE, .fmp), (F.NI_PROBE_ACTION_ONCE, .fmp), (F.NI_PROBE_ACTION_PRESCALE, .fmp)]⟩,
  -- NI_PROBE_STATUS
  ⟨0x4310, 1, 0x1000000, 1, 0x8, .p1, .closed, 0x0,
    [(F.NI_PROBE_STATUS_MATCHES, .ro), (F.NI_PROBE_STATUS_FIRES, .ro), (F.NI_PROBE_STATUS_SPENT, .ro)]⟩,
  -- NI_TAG_CTL
  ⟨0x4400, 1, 0x1000000, 1, 0x8, .p1, .fmp, 0x10000,
    [(F.NI_TAG_CTL_RATE, .fmp), (F.NI_TAG_CTL_SEED, .fmp)]⟩,
  -- NI_TAG_STATUS
  ⟨0x4408, 1, 0x1000000, 1, 0x8, .p1, .closed, 0x0,
    [(F.NI_TAG_STATUS_TAGGED, .ro)]⟩,
  -- NI_DOM
  ⟨0x4800, 1, 0x1000000, 1, 0x8, .p1, .fmp, 0x0,
    [(F.NI_DOM_DOM_ON, .fmp), (F.NI_DOM_REQ, .ro), (F.NI_DOM_ACK, .ro), (F.NI_DOM_WAKE, .ro), (F.NI_DOM_LOSSES, .ro)]⟩,
  -- NI_ENUM
  ⟨0x4900, 1, 0x1000000, 1, 0x8, .p1, .fmp, 0x0,
    [(F.NI_ENUM_PRIV, .fmp), (F.NI_ENUM_HOST_PAIR, .fmp), (F.NI_ENUM_PAIR, .fmp), (F.NI_ENUM_HELD, .ro)]⟩]

/-- R445: an NI. -/
def niRows : List RegRow := niRows0 ++ niRows1 ++ niRows2 ++ niRows3 ++ niRows4

/-- R446: a federation port. Part 0. -/
def fedRows0 : List RegRow := [
  -- FED_DATUM
  ⟨0x100, 1, 0x1000000, 1, 0x8, .p1, .closed, 0x0,
    [(F.FED_DATUM_DATUM, .ro)]⟩,
  -- FED_CTL
  ⟨0x200, 1, 0x1000000, 1, 0x8, .p1, .fmp, 0x800,
    [(F.FED_CTL_ENABLE, .fmp), (F.FED_CTL_UPSTREAM, .fmp), (F.FED_CTL_RESTART, .fmp), (F.FED_CTL_MAX_PRIV, .fmp), (F.FED_CTL_HOLD, .fmp)]⟩,
  -- FED_STATUS
  ⟨0x208, 1, 0x1000000, 1, 0x8, .p1, .closed, 0x0,
    [(F.FED_STATUS_STATE, .ro), (F.FED_STATUS_LOCKED, .ro), (F.FED_STATUS_HOLDOVER, .ro), (F.FED_STATUS_LINK_UP, .ro), (F.FED_STATUS_PARTNER, .ro), (F.FED_STATUS_PARTNER_PORT, .ro), (F.FED_STATUS_FWD_OUT, .ro), (F.FED_STATUS_ABSORBED, .ro), (F.FED_STATUS_DENIED, .ro)]⟩,
  -- FED_TT_OFFSET
  ⟨0x210, 1, 0x1000000, 1, 0x8, .p1, .closed, 0x0,
    [(F.FED_TT_OFFSET_OFFSET, .ro)]⟩,
  -- FED_TT_DELAY
  ⟨0x218, 1, 0x1000000, 1, 0x8, .p1, .closed, 0x0,
    [(F.FED_TT_DELAY_DELAY, .ro), (F.FED_TT_DELAY_SPREAD, .ro), (F.FED_TT_DELAY_EXCHANGES, .ro), (F.FED_TT_DELAY_BAD, .ro)]⟩,
  -- FED_FWD_MASK
  ⟨0x220, 1, 0x1000000, 1, 0x8, .p1, .fmp, 0x0,
    [(F.FED_FWD_MASK_TABLE, .rws)]⟩,
  -- FED_XFER
  ⟨0x228, 1, 0x1000000, 1, 0x8, .p1, .fmp, 0x0,
    [(F.FED_XFER_UNKNOWN, .fmp), (F.FED_XFER_NOROUTE, .fmp), (F.FED_XFER_CRC, .fmp), (F.FED_XFER_BARRIERS, .fmp)]⟩,
  -- FED_SINK
  ⟨0x230, 1, 0x1000000, 1, 0x8, .p1, .fmp, 0x0,
    [(F.FED_SINK_REQ_ABS, .fmp), (F.FED_SINK_POSTED, .fmp), (F.FED_SINK_RSP_ABS, .fmp), (F.FED_SINK_BAR_DEAD, .fmp)]⟩,
  -- FED_POLICE_RATE
  ⟨0x400, 1, 0x1000000, 1, 0x8, .p1, .fmp, 0x1000000010000,
    [(F.FED_POLICE_RATE_RATE_C, .fmp), (F.FED_POLICE_RATE_RATE_P, .fmp)]⟩,
  -- FED_POLICE_SIZE
  ⟨0x408, 1, 0x1000000, 1, 0x8, .p1, .fmp, 0xfff0fff,
    [(F.FED_POLICE_SIZE_SIZE_C, .fmp), (F.FED_POLICE_SIZE_SIZE_P, .fmp)]⟩,
  -- FED_POLICE_LEVEL
  ⟨0x410, 1, 0x1000000, 1, 0x8, .p1, .closed, 0xfff00000fff0000,
    [(F.FED_POLICE_LEVEL_LEVEL_C, .ro), (F.FED_POLICE_LEVEL_LEVEL_P, .ro)]⟩,
  -- FED_POLICE_STATUS
  ⟨0x418, 1, 0x1000000, 1, 0x8, .p1, .p2, 0x0,
    [(F.FED_POLICE_STATUS_DROPS, .ro), (F.FED_POLICE_STATUS_DROP_SEEN, .w1c)]⟩,
  -- FED_EVT_CAUSE
  ⟨0x500, 1, 0x1000000, 1, 0x8, .p1, .p1, 0x0,
    [(F.FED_EVT_CAUSE_CAUSE, .w1c)]⟩,
  -- FED_EVT_EN
  ⟨0x508, 1, 0x1000000, 1, 0x8, .p1, .p2, 0xff,
    [(F.FED_EVT_EN_EN, .rw)]⟩,
  -- FED_TRAV_CTL
  ⟨0x600, 1, 0x1000000, 1, 0x8, .p1, .fmp, 0x0,
    [(F.FED_TRAV_CTL_CUR, .rws)]⟩,
  -- FED_TRAV_STATUS
  ⟨0x608, 1, 0x1000000, 1, 0x8, .p1, .closed, 0x0,
    [(F.FED_TRAV_STATUS_OUT0, .ro), (F.FED_TRAV_STATUS_OUT1, .ro), (F.FED_TRAV_STATUS_OUT2, .ro), (F.FED_TRAV_STATUS_OUT3, .ro)]⟩,
  -- FED_TRAV_DRAIN
  ⟨0x610, 1, 0x1000000, 1, 0x8, .p1, .closed, 0x400000000,
    [(F.FED_TRAV_DRAIN_DRAIN_BARS, .ro), (F.FED_TRAV_DRAIN_DRAIN_ERR, .ro), (F.FED_TRAV_DRAIN_LAST_OLD, .ro), (F.FED_TRAV_DRAIN_DRAINED, .ro)]⟩,
  -- FED_CHAIN_SRC_CFG
  ⟨0x800, 1, 0x1000000, 64, 0x8, .p1, .fmp, 0x0,
    [(F.FED_CHAIN_SRC_CFG_VALID, .rws), (F.FED_CHAIN_SRC_CFG_FULL_POLICY, .rws), (F.FED_CHAIN_SRC_CFG_CHAIN, .rws)]⟩,
  -- FED_CHAIN_SRC_SCH
  ⟨0xa00, 1, 0x1000000, 64, 0x8, .p1, .fmp, 0x10002,
    [(F.FED_CHAIN_SRC_SCH_PERIOD, .rws), (F.FED_CHAIN_SRC_SCH_OFFSET, .rws), (F.FED_CHAIN_SRC_SCH_COUNT, .rws), (F.FED_CHAIN_SRC_SCH_SPACING, .rws)]⟩,
  -- FED_CHAIN_SRC_STAT
  ⟨0xc00, 1, 0x1000000, 64, 0x8, .p1, .closed, 0x0,
    [(F.FED_CHAIN_SRC_STAT_OCC, .ro), (F.FED_CHAIN_SRC_STAT_SEQ, .ro), (F.FED_CHAIN_SRC_STAT_DROPS, .ro), (F.FED_CHAIN_SRC_STAT_MAX_OCC, .rc)]⟩]

/-- R446: a federation port. Part 1. -/
def fedRows1 : List RegRow := [
  -- FED_CHAIN_DST_CFG
  ⟨0xe00, 1, 0x1000000, 64, 0x8, .p1, .fmp, 0x0,
    [(F.FED_CHAIN_DST_CFG_VALID, .rws), (F.FED_CHAIN_DST_CFG_MODE, .rws), (F.FED_CHAIN_DST_CFG_CHAIN, .rws), (F.FED_CHAIN_DST_CFG_SLOT, .rws)]⟩,
  -- FED_CHAIN_DST_STAT
  ⟨0x1000, 1, 0x1000000, 64, 0x8, .p1, .closed, 0x0,
    [(F.FED_CHAIN_DST_STAT_SEQ_EXP, .ro), (F.FED_CHAIN_DST_STAT_OCC, .ro), (F.FED_CHAIN_DST_STAT_LOST, .ro), (F.FED_CHAIN_DST_STAT_DUE, .ro), (F.FED_CHAIN_DST_STAT_OVERRUN, .ro)]⟩,
  -- FED_STK_BIND
  ⟨0x1800, 1, 0x1000000, 1, 0x8, .p1, .fmp, 0x0,
    [(F.FED_STK_BIND_SET, .fmp), (F.FED_STK_BIND_VALID, .fmp)]⟩,
  -- FED_STK_STATUS
  ⟨0x1810, 1, 0x1000000, 1, 0x8, .p1, .closed, 0x0,
    [(F.FED_STK_STATUS_USED, .ro), (F.FED_STK_STATUS_HIGH, .rc), (F.FED_STK_STATUS_EXTRA, .ro), (F.FED_STK_STATUS_LOST, .ro)]⟩,
  -- FED_STK_EXP
  ⟨0x1840, 1, 0x1000000, 8, 0x8, .p1, .fmp, 0x0,
    [(F.FED_STK_EXP_CMD, .fmp), (F.FED_STK_EXP_PART, .fmp), (F.FED_STK_EXP_PRELOAD, .fmp), (F.FED_STK_EXP_ASAP, .fmp), (F.FED_STK_EXP_STAGED, .fmp), (F.FED_STK_EXP_SHADOWS, .fmp), (F.FED_STK_EXP_T_LOW, .fmp)]⟩,
  -- FED_STK_SET
  ⟨0x1880, 1, 0x1000000, 8, 0x8, .p1, .closed, 0x8,
    [(F.FED_STK_SET_STATE, .ro), (F.FED_STK_SET_READY, .ro), (F.FED_STK_SET_FAULT, .ro), (F.FED_STK_SET_MISSED, .ro), (F.FED_STK_SET_FAULT_CODE, .ro), (F.FED_STK_SET_ACC, .ro), (F.FED_STK_SET_DONE, .ro), (F.FED_STK_SET_SHADOWS, .ro), (F.FED_STK_SET_REFUSED, .ro)]⟩]

/-- R446: a federation port. -/
def fedRows : List RegRow := fedRows0 ++ fedRows1

/-- Which block and which offset within it a window offset names (R437); none outside the register ranges. -/
def blkOf (a : Nat) : Option (Blk × Nat) :=
  if a < 0x100000 then some (.glb, a)
  else if a < 0x340000 then some (.stn ((a - 0x100000) / 0x10000), (a - 0x100000) % 0x10000)
  else if a < 0x400000 then none
  else if a < 0xD00000 then some (.ni ((a - 0x400000) / 0x10000), (a - 0x400000) % 0x10000)
  else if a < 0xDC0000 then some (.fed ((a - 0xD00000) / 0x10000), (a - 0xD00000) % 0x10000)
  else none

/-- The rows of a block's index. -/
def Blk.rows : Blk → List RegRow
  | .glb => glbRows
  | .stn _ => stnRows
  | .ni _ => niRows
  | .fed _ => fedRows

/-- The row of a block's index that an offset within the block names. -/
def rowOf (b : Blk) (off : Nat) : Option RegRow := b.rows.find? (fun r => r.covers off)

/-- R35 to R65: which stations hold a federation port, and which. -/
def fedOfStation (s : Nat) : Option Nat :=
  if s < 6 then some s else if 18 ≤ s ∧ s < 24 then some (s - 12) else none

/-- The station of federation port `f` (R34). -/
def stationOfFed (f : Nat) : Nat := if f < 6 then f else f + 12

/-- STN_ID of station `s` (R65). -/
def stnIdWord (s : Nat) : Nat :=
  s + (s % 6) * 0x100 + (s / 6) * 0x1000 +
    (match fedOfStation s with
     | some f => 0x10000 + f * 0x100000
     | none => 0) + (if s = 21 then 0x1000000 else 0)

/-- STN_MER_DELAY of station `s` (R32). -/
def merDelayWord (s : Nat) : Nat := Config.prop s + (22 - Config.prop s) * 0x100 + 2 * 0x10000

/-- The value each register holds at reset: its row's reset value, the two per-station constants apart. -/
def resetOf (a : Nat) : Word :=
  match blkOf a with
  | some (.stn s, 0) => BitVec.ofNat 64 (stnIdWord s)
  | some (.stn s, 0x108) => BitVec.ofNat 64 (merDelayWord s)
  | some (b, off) =>
    match rowOf b off with
    | some r => BitVec.ofNat 64 r.reset
    | none => 0
  | none => 0

end Sys2Proof.Machine
end

