-- ==== Sys2Proof/Machine/Store.lean ====
section
/-!
DEFINITION. Machine/Store.lean: sparse data by key: a list of key and value pairs in one canonical form (keys strictly
rising, no entry equal to what an unlisted key reads as). Registers, memory bytes and per-block structures live in it.
-/
namespace Sys2Proof.Machine

variable {α : Type}

/-- What key `k` reads as; `d` says what an unlisted key reads as. -/
def Store.get (d : Nat → α) : List (Nat × α) → Nat → α
  | [], k => d k
  | (j, x) :: m, k => if k = j then x else Store.get d m k

/-- The list without any entry of key `k`. -/
def Store.erase (m : List (Nat × α)) (k : Nat) : List (Nat × α) := m.filter (fun e => e.1 != k)

/-- The list with the entry of key `k`, kept in rising order. -/
def Store.put : List (Nat × α) → Nat → α → List (Nat × α)
  | [], k, v => [(k, v)]
  | (j, x) :: m, k, v =>
    if k < j then (k, v) :: (j, x) :: m
    else if k = j then (k, v) :: m
    else (j, x) :: Store.put m k v

/-- The list with key `k` reading `v`. -/
def Store.set [DecidableEq α] (d : Nat → α) (m : List (Nat × α)) (k : Nat) (v : α) : List (Nat × α) :=
  if v = d k then Store.erase m k else Store.put m k v

/-- Keys strictly rising. -/
def Store.rising : List (Nat × α) → Bool
  | [] => true
  | (j, _) :: m => m.all (fun e => j < e.1) && Store.rising m

/-- The canonical form. -/
def Store.wf [DecidableEq α] (d : Nat → α) (m : List (Nat × α)) : Bool :=
  Store.rising m && m.all (fun e => e.2 ≠ d e.1)

end Sys2Proof.Machine
end

