-- ==== Sys2Proof/Machine/State.lean ====
section
/-!
DEFINITION. Machine/State.lean: the state of the block as plain data: its datum counters, every configuration register
(one sparse store keyed by the offset in the configuration window), the bulk memories, and the queues, buffers, tables
and timers that the spec gives its parts and that no register shows; the reasons a step can stop; the state at reset.
-/
namespace Sys2Proof.Machine

/-! ### Stations (R51 to R65, R84, R92) -/

/-- A best-effort flit held in an input buffer: the datum of its BW cycle, for a head the output port and output VC
decoded at BW (R62, R63), and whether it is held under R84. -/
structure BFlit where
  f : Flit
  bw : Nat
  out : Nat := 0
  ovc : Nat := 0
  held : Bool := false
  deriving DecidableEq, Repr

/-- One virtual channel buffer of a station input (R52). -/
structure InVc where
  buf : List BFlit := []
  /-- Output port and output VC granted to the packet at the front (R57). -/
  grant : Option (Nat × Nat) := none
  /-- Datum of that grant. -/
  grantAt : Nat := 0
  /-- The grant was parked: the head may go through SA in the cycle of its VA (R61). -/
  parked : Bool := false
  /-- The packet now arriving is absorbed into the bittern sink (R62, R84, R41); the header to answer, if any. -/
  absorb : Option (Option Hdr) := none
  /-- A packet's head has arrived on this VC and its TAIL has not (R42). -/
  opened : Bool := false
  /-- The rest of the packet at the front is discarded until its TAIL (R42 step 3). -/
  cut : Bool := false
  deriving DecidableEq, Repr

/-- One output virtual channel: its holder (input port, input VC), the class of the packet, whether its head has left,
and, once its TAIL has won SA, the datum from which it is free: that TAIL has passed ST (R57). -/
structure OutVc where
  holder : Option (Nat × Nat) := none
  cls : Nat := 0
  sent : Bool := false
  freeAt : Nat := 0
  /-- Datum + 1 of the latest flit sent for its packet (R313). -/
  sentAt : Nat := 0
  deriving DecidableEq, Repr

/-- One flit of a link, the datum at which it has reached the receiver, and the datum at which it is launched. -/
structure InFlight where
  w : Wire
  due : Nat
  lau : Nat
  deriving DecidableEq, Repr

/-- What a station keeps per port: the link into its input, the credit returns waiting for the output (R53), the
arbitration memories of the output (R58, R59, R61) and of the input (R55), the resynchronisation timers (R42). -/
structure PortSt where
  wire : List InFlight := []
  /-- VCs of slots freed at the input, each with the datum from which the output may carry its return (R53). -/
  credQ : List (Nat × Nat) := []
  lastVa : Nat := 0
  drrCls : Nat := 0
  drrDef : Nat := 0
  lastVc : Nat := 0
  lastOut : Nat := 0
  /-- Datum + 1 of the last cycle in which the input moved a flit through SA. -/
  inUsed : Nat := 0
  /-- Datum + 1 of the last VA and of the last SA of the output, and of the last flit taken at the input: one a cycle. -/
  vaAt : Nat := 0
  saAt : Nat := 0
  rxAt : Nat := 0
  /-- The receive direction found an uncorrectable CECC error and has not yet sent RESYNC. -/
  syncWanted : Bool := false
  /-- Receive direction: datum at which its RESYNC ends. -/
  rxSync : Option Nat := none
  /-- Transmit direction: datum until which it carries no best-effort flits. -/
  txSync : Option Nat := none
  /-- Lanes that failed HARD, whose failure stake has not yet applied at the receiver (R361). -/
  hardWin : Bool := false
  /-- Lanes that failed HARD: never restored (R363). -/
  hard : List Nat := []
  /-- Corrected errors per physical lane in the current window (R359). -/
  sbe : List (Nat × Nat) := []
  /-- Sample phase of each physical lane, in 1/64 UI (R356). -/
  phase : List (Nat × Nat) := []
  /-- Latest measured eye of each lane: width and centre (R357). -/
  eye : List (Nat × (Nat × Nat)) := []
  /-- Datum of the latest phase step of each lane (R356 step 2). -/
  stepAt : List (Nat × Nat) := []
  /-- Consecutive LINK_BIST passes of each failed lane (R363). -/
  passes : List (Nat × Nat) := []
  deriving DecidableEq, Repr

/-- The receiving side of a local link, at an NI or an agent (R52): flits launched by the station's output with their
datum, flits in the register buffers with the datum of their arrival, the packets being put together by VC, and the
credit returns owed. -/
structure LocalRx where
  wire : List (Nat × Flit) := []
  buf : List (Nat × Flit) := []
  asm : List (Nat × List Flit) := []
  ret : List Nat := []
  deriving DecidableEq, Repr

/-- Why a federation agent builds a packet; the packets of station agents and the global block are answers. -/
inductive AgentUse where
  /-- An answer, given up where it has no route (R73). -/
  | answer
  /-- A drain barrier with its tag and traverse (R82). -/
  | drain (tag c : Nat)
  /-- A packet from the link (R403). -/
  | forward
  /-- A barrier of an inbound engine to a key (R406). -/
  | bar (key : Nat)
  /-- A packet from the link that the agent has absorbed while its route was read (R410). -/
  | dropped
  deriving DecidableEq, Repr

/-- A packet an agent or the global block has built: whether it is a route fill, why it was built, its header and
destination key, and its flits still to be driven. -/
structure TxPkt where
  fill : Bool := false
  use : AgentUse := .answer
  hdr : Hdr
  key : Nat := 0
  left : List Flit
  deriving DecidableEq, Repr

/-- A packet to be built by an agent, and why. -/
structure AgentPkt where
  pkt : Pkt
  use : AgentUse := .answer
  deriving DecidableEq, Repr

/-- What the management agent of a station or a federation agent keeps for its local link (R52, R53, R72): the receiving
side, the credits it holds by VC, packets built and not wholly driven, packets to be built, the packet built and waiting
for its route, its route fill while that has not been sent, the number and traverse of its latest fill, the datum at
which that fill was driven, and its answer. -/
structure Agent where
  rx : LocalRx := {}
  cred : List (Nat × Nat) := []
  q : List TxPkt := []
  todo : List AgentPkt := []
  cur : Option AgentPkt := none
  fill : Option Pkt := none
  fillNo : Nat := 0
  fillTrav : Nat := 0
  issued : Option Nat := none
  rsp : Option Pkt := none
  deriving DecidableEq, Repr

/-- A record of the trace store (R325). -/
structure TraceRec where
  w0 : Word
  w1 : Word
  w2 : Word
  w3 : Word
  /-- The record of the firing that froze the store, the last one the store accepts (R321). -/
  keep : Bool := false
  deriving DecidableEq, Repr

/-- A station's state outside its registers. -/
structure StnSt where
  /-- Input VC buffers, key 8 * port + VC. -/
  vcs : List (Nat × InVc) := []
  /-- Output VCs, key 8 * port + VC. -/
  outs : List (Nat × OutVc) := []
  /-- Per-port state, key port. -/
  ports : List (Nat × PortSt) := []
  /-- G flits launched or to be launched: output port and launch datum (R92). -/
  gout : List (Nat × Nat) := []
  /-- The pending patch: plat, entry index, new value (R105). -/
  patch : Option (Nat × Nat × Nat) := none
  /-- Packets that have arrived at the management agent and are not yet served, oldest first. -/
  agentRx : List Pkt := []
  /-- Absorbed requests awaiting their NOROUTE answer, at most 64 (R285). -/
  nrq : List Hdr := []
  /-- Trace records waiting for the store, at most 8, and the datum of the last one forwarded (R326). -/
  traceQ : List TraceRec := []
  traceAt : Option Nat := none
  /-- Matches of the probe since its last configuration write (R320). -/
  probeN : Nat := 0
  /-- Datum at which the exit from a power state ends (R331, R333). -/
  wakeAt : Option Nat := none
  /-- A lower power state it has decided to enter, and the first datum it spends there (R329, R331). -/
  pwrTo : Option (Nat × Nat) := none
  deriving DecidableEq, Repr

/-! ### Global block -/

/-- A meridian message waiting for launch or on its way (R18, R19). -/
inductive MerKind where
  | idle | alignLoad | alignVerify | stakeCall (n : Nat) | surveyTick (seq : Nat) | reserved (typ : Nat)
  deriving DecidableEq, Repr

/-- A message waiting for its launch slot (R20, R451): the cycle of its request. -/
structure MerReq where
  kind : MerKind
  instant : Nat
  req : Nat
  deriving DecidableEq, Repr

/-- A launched message (R21): its launch slot and the receivers that have already met it. -/
structure MerMsg where
  kind : MerKind
  instant : Nat
  launch : Nat
  seen : List Nat := []
  deriving DecidableEq, Repr

/-- What a block recorded of itself at the beginning of the cycle of its survey instant (R17, R316): the instant, the
sequence number, the registers with their values. -/
structure Capture where
  at' : Nat
  seq : Nat
  vals : List (Nat × Word)
  deriving DecidableEq, Repr

/-- The datum counters besides the global one (R13): after a reset all hold free values, numbered from `base`
(R15), until an ALIGN LOAD; a counter that differs from the global datum is listed with its difference. -/
structure Skew where
  base : Option Nat := none
  diff : List (Nat × Word) := []
  deriving DecidableEq, Repr

/-- A request of the global block's own on behalf of the FMP (R250): its tag, command, traverse, the datum of its issue, the
ticket it serves (0 when that has been cancelled), its byte offset in that ticket's buffer, and its response once that has
arrived. -/
structure OwnReq where
  tag : Nat
  cmd : BitVec 6
  trav : Nat
  at' : Nat
  ticket : Nat
  idx : Nat
  rsp : Option Pkt := none
  /-- Its timer has expired without a response (R281). -/
  late : Bool := false
  deriving DecidableEq, Repr

/-- Global block state outside its registers. -/
structure GlbSt where
  merPend : List MerReq := []
  merFly : List MerMsg := []
  /-- Datum of the latest launch slot used. -/
  merSlot : Option Nat := none
  /-- Sequence number the next survey tick takes (R315). -/
  srvSeq : Nat := 0
  /-- Event messages queued: source and the datum its pending bit set (R299). -/
  evmQ : List (Nat × Nat) := []
  evmAt : Option Nat := none
  /-- Datum of the last fill served. -/
  fillAt : Option Nat := none
  /-- Packets that have reached the global block through port M of station 21, oldest first. -/
  rx : List Pkt := []
  /-- Requests of its own that await their responses (R250, R452). -/
  own : List OwnReq := []
  /-- Survey instant each block has been told of, key block index (R316). -/
  tick : List (Nat × Option (Nat × Nat)) := []
  /-- Datum + 1 of the latest cycle in which a counter's event occurred, key counter offset (R309). -/
  cntLast : List (Nat × Nat) := []
  /-- Datum at which each alarm was last armed (R30). -/
  armAt : List (Nat × Nat) := []
  /-- Arrival datum of the latest ALIGN_VERIFY and of the one before it (R25, R292). -/
  verLast : Nat := 0
  verPrev : Nat := 0
  /-- Datum + 1 of the latest request of the verify timer: one in a cycle (R25). -/
  verAt : Nat := 0
  /-- Copies of datum counters found to disagree in this cycle, key 3 * block index + copy (R14). -/
  votes : List (Nat × Option Word) := []
  /-- What blocks recorded for a survey and have not yet copied into their shadows, key block index (R316). -/
  capt : List (Nat × Option Capture) := []
  /-- The interrupt lines wanted at the end of each of the last 4 cycles, and the EVT_NOTE lines (4 * port + line) of the last 9,
  latest first (R298). -/
  irqPast : List Nat := []
  notePast : List (List Nat) := []
  /-- BUSY answers each lock has given since it was acquired (R199), key lock. -/
  lckBusy : List (Nat × Nat) := []
  /-- The rotating pointer of the lock bank (R200) and the datum + 1 of the latest cycle in which it moved. -/
  lckPtr : Nat := 0
  lckAt : Nat := 0
  /-- Lock accesses at the head of the waiting commands that have been served with an earlier one of their cycle (R200). -/
  lckSkip : Nat := 0
  /-- The mclk in which the mailbox unit last took a message, and last served an access (R228); accesses at the head of the
  waiting commands that have been served before a message of their cycle (R236). -/
  mbxMsgAt : Option Nat := none
  mbxAccAt : Option Nat := none
  mbxSkip : Nat := 0
  /-- Datum at which the crossing timer of a declared pair last restarted, key lower channel (R241). -/
  cross : List (Nat × Option Nat) := []
  deriving DecidableEq, Repr

/-! ### Network interfaces -/

/-- A G flit that reaches an NI or federation agent, and its arrival datum. -/
structure GArrival where
  g : GFlit
  at' : Nat
  deriving DecidableEq, Repr

/-- One way of a route cache set (R70); a set's ways stand most recently used first. -/
structure CacheWay where
  trav : BitVec 2
  d : Gid
  route : BitVec 64
  /-- Datum of its fill. -/
  at' : Nat := 0
  deriving DecidableEq, Repr

/-- What an outgoing packet of an NI is for. -/
inductive OutKind where
  /-- A packet of an access of the unit that ends by its own response; key as in `NiSt.accs`. -/
  | access (key : Nat)
  /-- A posted packet (WRP, WRM, SPUT); for the SPUTs of a STORE_NP the access they belong to (R176). -/
  | posted (key : Option Nat)
  /-- A port barrier (R185) under its own tag. -/
  | portBar (tag : Nat)
  /-- A drain barrier (R82) under its own tag. -/
  | drainBar (tag : Nat)
  /-- A response of the target side. -/
  | response
  /-- A route fill of the request builder or (true) of the response builder (R72). -/
  | fill (rsp : Bool)
  deriving DecidableEq, Repr

/-- A packet to be built, or built and not yet wholly sent: its header and data, its purpose, whether it takes a tag
of its own when it is built (R44), its access's place in acceptance order, its build instant and build number, for a
flushed line the place of its flush in that order (R179, R180), the QOS that gives a class-path packet of the unit its
class at its build (R155, R156), whether its route is known (R72), and its WFQ tags. -/
structure OutPkt where
  pkt : Pkt
  kind : OutKind
  own : Bool := false
  acc : Nat := 0
  built : Nat := 0
  seq : Nat := 0
  ord : Option Nat := none
  qos : Option (BitVec 3) := none
  ready : Bool := true
  stag : Nat := 0
  ftag : Nat := 0
  deriving DecidableEq, Repr

/-- A packet in progress (R153): the packet and the flits still to be driven. -/
structure Prog where
  out : OutPkt
  left : List Flit
  deriving DecidableEq, Repr

/-- A packet whose route is being fetched by a fill (R72): the fill as built, whether it has joined the MGT path, and the
datum of its issue. -/
structure FillWait where
  out : OutPkt
  fill : OutPkt
  queued : Bool := false
  issued : Option Nat := none
  deriving DecidableEq, Repr

/-- A non-posted packet that has been built and has not ended (R81, R178, R281). -/
structure NiReq where
  kind : OutKind
  hdr : Hdr
  acc : Nat := 0
  /-- Datum of the timer's start; none before the head is driven. -/
  start : Option Nat := none
  /-- Datum at which the timer expires, set at the start. -/
  expire : Nat := 0
  /-- Response bytes reserved (R178). -/
  resv : Nat := 0
  /-- EXNACKs received (R196). -/
  nacks : Nat := 0
  /-- Datum at which an EXNACKed RDX retries, and the QOS that gives the retry its class (R155, R196). -/
  retryAt : Option Nat := none
  qos : Option (BitVec 3) := none
  deriving DecidableEq, Repr

/-- A non-OK ending: its code, the header of the packet that ended so, and the block that gave the code (R305). -/
structure ErrEnd where
  code : BitVec 4
  hdr : Hdr
  by' : Nat
  deriving DecidableEq, Repr

/-- An access of the unit that is not posted, or a posted store built as non-posted packets (R44, R209, R280): its
operation, unit address and size, the packets not yet ended, the bytes received, the first non-OK ending. -/
structure UAcc where
  op : Nat
  addr : Nat
  size : Nat
  seq : Nat
  /-- DEVICE or CONFIG access (R180, R181). -/
  device : Bool := false
  left : Nat := 1
  data : List (Nat × Byte) := []
  /-- Reserved response bytes by the line whose beat releases them (R178). -/
  rel : List (Nat × Nat) := []
  err : Option ErrEnd := none
  wrxf : Bool := false
  /-- Its answer has been handed to IS; the tag is held until the last beat transfers. -/
  answered : Bool := false
  deriving DecidableEq, Repr

/-- An answer waiting on IS (R212): kind, tag, status, the beats still to transfer with their byte enables, data and
the response bytes each releases. -/
structure IsAns where
  kind : Nat
  tag : Nat
  status : BitVec 4
  beats : List (BitVec 64 × BitVec 512 × Nat)
  deriving DecidableEq, Repr

/-- A line of the posted-write buffer (R179). -/
structure MLine where
  dest : Gid
  line : Nat
  /-- QOS of the store that took the line. -/
  qos : BitVec 3
  region : BitVec 2
  mask : BitVec 64
  data : BitVec 512
  last : Nat
  /-- Acceptance number of the store that took the line. -/
  acc : Nat := 0
  deriving DecidableEq, Repr

/-- A barrier of the unit (R183 to R186). -/
structure Bar where
  tag : Nat
  kind : BitVec 1
  scope : BitVec 2
  qos : BitVec 3
  addr : Word
  d : Gid
  seq : Nat
  /-- 0 QUEUED, 1 FLUSH, 2 FENCE. -/
  st : Nat := 0
  /-- Keys whose port barrier is still to be built. -/
  todo : List Nat := []
  /-- Port barriers built and not yet ended, by their own tag. -/
  wait : List Nat := []
  err : Option ErrEnd := none
  deriving DecidableEq, Repr

/-- An item of the target side (R173, R213): its TQ kind, the request it came from, its bytes by address order. -/
structure TItem where
  kind : Nat
  hdr : Hdr
  data : List (BitVec 256) := []
  /-- Stake set and staged entry index of STAGED and PRELOAD items. -/
  set : Nat := 0
  mask : BitVec 64 := 0
  line : BitVec 512 := 0
  deriving DecidableEq, Repr

/-- A TS-bearing item presented and not yet answered (R215, R216). -/
structure TOut where
  item : TItem
  at' : Nat
  beats : List (BitVec 512) := []
  /-- TS_STATUS of the first beat of the answer. -/
  status : BitVec 4 := 0
  deriving DecidableEq, Repr

/-- A flit in a chain source queue (R98, R100, R407): its bytes and FLAGS, its STAMP and SEQ, and the block's datum from
which it is ready for injection. -/
structure SrcFlit where
  payload : BitVec 256
  flags : BitVec 4
  stamp : BitVec 16
  seq : BitVec 6
  ready : Nat
  deriving DecidableEq, Repr

/-- The chain queues of an NI or federation agent (R97, R101, R407): G flits from its station, source queues, receive
queues and scan indexes by entry. -/
structure ChainEnd where
  rx : List GArrival := []
  src : List (Nat × List SrcFlit) := []
  dst : List (Nat × List GArrival) := []
  scan : List (Nat × Option Nat) := []
  /-- Datum + 1 of the latest cycle in which it drove a G flit (R98). -/
  drove : Nat := 0
  deriving DecidableEq, Repr

/-- A value written to a state slot (R115): with its stamp and the datum of its write cycle. -/
structure SlotVal where
  value : BitVec 512
  mark : Bool
  stamp : Nat
  at' : Nat
  deriving DecidableEq, Repr

/-- What a flit for a base slot with a span brings to its write (R117): its destination entry, MARK0, the gap before it and
the span. -/
structure ScanRef where
  entry : Nat
  first : Bool
  gap : Nat
  span : Nat
  deriving DecidableEq, Repr

/-- A slot write that has been accepted and waits for its write cycle (R120). -/
structure SlotW where
  slot : Nat
  value : BitVec 512
  mark : Bool
  stamp : Nat
  bits : Nat
  chain : Bool
  due : Nat
  scan : Option ScanRef := none
  deriving DecidableEq, Repr

/-- What an exclusive monitor holds beside its two registers (R193): the RDX's address and size, the datum of the
grant, and the datum at which a hand-off ends. -/
structure Mon where
  addr : Nat := 0
  size : Nat := 0
  granted : Nat := 0
  handEnd : Nat := 0
  deriving DecidableEq, Repr

/-- One beat driven on an NI output channel: TQ (R213). -/
structure TqBeat where
  kind : Nat := 0
  tag : Nat := 0
  src : Gid := 0
  priv : BitVec 2 := 0
  addr : Word := 0
  size : Nat := 0
  set : Nat := 0
  chain : BitVec 14 := 0
  seq : BitVec 6 := 0
  slot : Nat := 0
  stamp : BitVec 32 := 0
  mark : BitVec 2 := 0
  stale : Bool := false
  last : Bool := true
  be : BitVec 64 := 0
  data : BitVec 512 := 0
  deriving DecidableEq, Repr

/-- One beat driven on IS (R212). -/
structure IsBeat where
  kind : Nat
  tag : Nat
  status : BitVec 4
  last : Bool
  be : BitVec 64
  data : BitVec 512
  deriving DecidableEq, Repr

/-- A request on IQ (R210): the control fields of its first beat, the byte enables and data of its beats so far, whether a beat
had a wrong IQ_CPAR, and whether IQ_OP was reserved (R226). -/
structure IqReq where
  addr : BitVec 64 := 0
  size : BitVec 10 := 0
  qos : BitVec 3 := 0
  bkind : BitVec 1 := 0
  bscope : BitVec 2 := 0
  chain : BitVec 6 := 0
  mark : BitVec 2 := 0
  beats : List (BitVec 64 × BitVec 512) := []
  badPar : Bool := false
  resOp : Bool := false
  deriving DecidableEq, Repr

/-- State of one NI outside its registers. -/
structure NiSt where
  /-- Credits for the station input, per VC (R53); key VC. -/
  cred : List (Nat × Nat) := []
  /-- The link from the station: flits, buffers, packets arriving, credit returns owed (R52, R53). -/
  lrx : LocalRx := {}
  /-- Packets whose tail has arrived, REQ and MSG types in one order (R173), oldest first. -/
  rxReq : List Pkt := []
  rxRsp : List Pkt := []
  rxMgt : List Pkt := []
  /-- Route cache, key set number (R70). -/
  cache : List (Nat × List CacheWay) := []
  /-- Sets not yet swept by an invalidation: traverse or all, and the datum of its start (R74). -/
  inv : Option (Option (BitVec 2) × Nat) := none
  /-- Number of its latest route fill (R73). -/
  fillNo : Nat := 0
  rqWait : Option FillWait := none
  rsWait : Option FillWait := none
  /-- Packets of the request side still to be built. -/
  rqBuild : List OutPkt := []
  /-- Answers of the target side still to be built. -/
  rsBuild : List OutPkt := []
  mgtQ : List OutPkt := []
  rspQ : List OutPkt := []
  /-- Class queues, key class. -/
  clsQ : List (Nat × List OutPkt) := []
  /-- Port barriers built and not started, outside the class queues (R185). -/
  barQ : List OutPkt := []
  /-- Packets in progress on the MGT, response and class paths. -/
  curMgt : Option Prog := none
  curRsp : Option Prog := none
  curCls : Option Prog := none
  /-- Datum + 1 of the latest start on the class path (R312). -/
  clsAt : Nat := 0
  /-- Finish tags F_c, key class (R157). -/
  ftags : List (Nat × Nat) := []
  /-- Non-posted packets not yet ended, key tag. -/
  reqs : List (Nat × Option NiReq) := []
  /-- Port and drain barriers not yet ended, key their own tag. -/
  bars : List (Nat × Option NiReq) := []
  /-- Tags in quarantine: the datum until which (R281); keys from 4,096 on are the NI's own barrier tags. -/
  quar : List (Nat × Option Nat) := []
  /-- Accesses of the unit not yet ended or answered, key tag; posted stores have keys from 4,096 on. -/
  accs : List (Nat × Option UAcc) := []
  isQ : List IsAns := []
  /-- Number of the next access or packet in acceptance and build order. -/
  seqNo : Nat := 0
  merge : List MLine := []
  barrs : List Bar := []
  /-- Posted bits, key 256 * traverse + destination key (R82). -/
  posted : List (Nat × Bool) := []
  /-- Values of the slots, key slot (R115). -/
  slots : List (Nat × Option SlotVal) := []
  /-- PENDING slots in the order in which each became PENDING (R121). -/
  order : List Nat := []
  slotW : List SlotW := []
  /-- Slots selected for the coming edges: the edge, the slot, its value as it stood three cycles before (R121). -/
  sel : List (Nat × Nat × SlotVal) := []
  /-- Datum + 1 of the latest slot write: one per fclk (R120). -/
  slotAt : Nat := 0
  /-- Target-request queue, oldest first; beats of its head already transferred. -/
  tq : List TItem := []
  tqBeat : Nat := 0
  /-- TQ_TAG of the head, from its first beat on. -/
  tqTag : Nat := 0
  /-- Outstanding TS-bearing items, key TQ_TAG. -/
  tout : List (Nat × Option TOut) := []
  /-- TS answer in progress: its tag. -/
  tsCur : Option Nat := none
  /-- TS tags whose later beats are discarded (R226 code 0x8). -/
  tsDrop : List Nat := []
  /-- Latest beats driven on TQ and IS. -/
  tqOut : Option TqBeat := none
  isOut : Option IsBeat := none
  /-- Datum + 1 of the latest TARGET_REQUEST_ENTRY: one per fclk (R173). -/
  entryAt : Nat := 0
  mons : List (Nat × Mon) := []
  /-- IQ_READY is held at 0 by the power handshake (R224). -/
  iqShut : Bool := false
  /-- Datum at which PWR_QREQ rose. -/
  qreqAt : Option Nat := none
  /-- Descriptor read: beat index and datum of DESC_REQ rising (R220). -/
  desc : Option (Nat × Nat) := none
  evtRaise : BitVec 4 := 0
  /-- Start instant of the operating sluice list, key 0 (R160). -/
  sluice : List (Nat × Option Nat) := []
  /-- Latest strobe edge and its sets (R218). -/
  strobe : Option (Nat × BitVec 8) := none
  /-- LFSR of the sampler (R322). -/
  lfsr : BitVec 16 := 1
  probeN : Nat := 0
  /-- Packets started from the measured queue (R169), and the datum + 1 of the latest depth sample (R168). -/
  histN : Nat := 0
  histAt : Nat := 0
  /-- Datum + 1 of the latest cycle in which the NI drove a flit. -/
  drove : Nat := 0
  /-- The IQ request some of whose beats have transferred, with its operation (R207, R210). -/
  iqPart : Option (Nat × IqReq) := none
  /-- A beat offered on IQ that did not transfer, with the operation of its command and the datum of the latest edge at which
  it was offered (R207, R226). -/
  iqHeld : Option (Nat × IqBeat × Nat) := none
  /-- Datum + 1 of the latest edge at which a beat was offered on IQ, and at which one transferred on IS, TQ and TS. -/
  iqAt : Nat := 0
  isAt : Nat := 0
  tqAt : Nat := 0
  tsAt : Nat := 0
  /-- Descriptor beats read so far (R220). -/
  descBuf : List (BitVec 512) := []
  deriving DecidableEq, Repr

/-- An entry of a federation agent's forwarded-request table (R405). -/
structure Fwd where
  src : Gid
  tag : BitVec 12
  trav : Nat
  at' : Nat
  deriving DecidableEq, Repr

/-- A barrier in one of an agent's two engines (R406): the header of the barrier it answers, the keys whose port barrier
is still to end, the first non-OK status, and whether it has begun. -/
structure FedBar where
  hdr : Hdr
  /-- Tag of the link barrier that stands for it (outbound). -/
  tag : Nat := 0
  wait : List Nat := []
  err : BitVec 4 := 0
  begun : Bool := false
  deriving DecidableEq, Repr

/-- A packet waiting at the ingress side of an agent, the datum at which it became the head (R410), and whether the agent
has begun to build it. -/
structure Ingress where
  pkt : Pkt
  head : Option Nat := none
  begun : Bool := false
  deriving DecidableEq, Repr

/-- State of one federation agent outside its registers. -/
structure FedSt where
  /-- Packets that have arrived from the station, oldest first. -/
  rx : List Pkt := []
  /-- Packets from the link not yet injected, key VC type 0 REQ, 1 RSP, 2 MSG (R398, R403). -/
  ing : List (Nat × List Ingress) := []
  /-- Packets waiting for the link, key VC type, oldest first; flits of the head of each that have gone; the VC type that sent
  last; G flits waiting for the link (R398). -/
  txQ : List (Nat × List Pkt) := []
  txSent : List (Nat × Nat) := []
  txLast : Nat := 0
  txWait : List GFlit := []
  /-- What FED_TX carries in this cycle; none where FED_TX_VALID is 0 (R396). -/
  link : Option Wire := none
  /-- Packets and G flits sent over the link, latest first: what FED_TX has carried (R396, R404, R407). -/
  tx : List Pkt := []
  txG : List GFlit := []
  /-- Forwarded-request table, key entry 0 to 511 (R405). -/
  fwd : List (Nat × Option Fwd) := []
  /-- Posted bits, key 256 * traverse + destination key (R82), and fence bits, key destination key (R406). -/
  posted : List (Nat × Bool) := []
  fence : List (Nat × Bool) := []
  /-- Drain barriers not yet ended: their tags and traverse (R82). -/
  drains : List (Nat × Nat) := []
  /-- Outbound and inbound barrier engines, oldest first (R406). -/
  outBars : List FedBar := []
  inBars : List FedBar := []
  /-- The next tag of the agent's own packets. -/
  tagNo : Nat := 0
  /-- Own SYNC messages: number of the next, and those sent with their datum, newest first (R399, R400). -/
  syncNo : Nat := 0
  syncTx : List (Nat × Nat) := []
  /-- Latest SYNC sent, as it stood on FED_TT_TX. -/
  ttTx : BitVec 288 := 0
  /-- The partner's latest SYNC: its number and the own datum at its byte 0; its LOCKED bit and its ROOTOFS. -/
  syncRx : Option (Nat × Nat) := none
  partnerLocked : Bool := false
  partnerOfs : Word := 0
  partnerValid : Bool := false
  /-- Twice the latest estimates of offset and delay, newest first, at most 16, and the length of the present run within 1 fclk
  of the mean (R400). -/
  thetas : List Int := []
  deltas : List Int := []
  run : Nat := 0
  /-- Datum of the latest estimate and of the latest SYNC with a correct CHECK. -/
  estAt : Nat := 0
  syncAt : Nat := 0
  deriving DecidableEq, Repr

/-! ### Stakes (R128 to R149) -/

/-- A shadow of the RWS fields of one register, held by a block for a set (R135). -/
structure Shadow where
  blk : Nat
  addr : Nat
  set : Nat
  val : Word
  deriving DecidableEq, Repr

/-- One of an NI's 512 staging entries (R134). -/
structure StkEntry where
  set : Nat
  hdr : Hdr
  mask : BitVec 64
  data : BitVec 512
  /-- It has been presented on TQ (PRELOAD sets, R146). -/
  shown : Bool := false
  deriving DecidableEq, Repr

/-- What a block holds for a set beside its two registers (R137). -/
structure StkBlk where
  /-- The effective T expected or called. -/
  t : Nat := 0
  /-- It has presented an entry of the set in this use (R146). -/
  shown : Bool := false
  /-- Staged writes presented in APPLYING whose answer is still to come (R145). -/
  owed : Nat := 0
  /-- Staged writes answered other than OK since the latest COLLECT write (R145). -/
  bad : Nat := 0
  /-- The NI entered QUIESCE, began a disable or was isolated in this use (R138, PORTDOWN). -/
  down : Bool := false
  /-- READY, FAULT and OPEN as driven from a datum on, newest first (R130). -/
  hist : List (Nat × Bool × Bool × Bool) := []
  deriving DecidableEq, Repr

/-- A pass of the sequencer (R131): its set, its command, and the cycle of its request. -/
structure PassReq where
  set : Nat
  cmd : Nat
  req : Nat
  deriving DecidableEq, Repr

/-- A write of the sequencer that has not been answered: block index, its traverse, its issue cycle. -/
structure SeqWait where
  blk : Nat
  trav : Nat
  at' : Nat
  deriving DecidableEq, Repr

/-- The pass being performed: the next block index, the cycle of the next write, the writes still to be answered. -/
structure Pass where
  set : Nat
  cmd : Nat
  idx : Nat := 0
  at' : Nat
  waits : List SeqWait := []
  deriving DecidableEq, Repr

/-- What the controller holds of a set beside its registers. -/
structure StkSet where
  /-- Abort reason, recorded at the end of the abort (R141). -/
  reason : Nat := 0
  /-- Late under APPLY_ASAP (R136). -/
  asap : Bool := false
  /-- A FAULT was seen since the commit (R148). -/
  faulted : Bool := false
  /-- The abort pass has ended (R141). -/
  passed : Bool := false
  /-- The set was found stuck and its release pass is under way (R148). -/
  stuck : Bool := false
  /-- Plats LOCKED by the close of this set: station and plat (R106). -/
  plats : List (Nat × Nat) := []
  deriving DecidableEq, Repr

/-- The stake controller and the stake state of the 193 blocks. -/
structure StkSt where
  shadows : List Shadow := []
  /-- Staging entries of each NI in order of acceptance. -/
  ents : List (Nat × List StkEntry) := []
  /-- Key 8 * block index + set. -/
  blks : List (Nat × StkBlk) := []
  /-- Preload cancels owed by each NI (R146). -/
  cancels : List (Nat × List Nat) := []
  /-- Blocks and sets that enter IDLE at the end of the present cycle (R454). -/
  leaving : List (Nat × Nat) := []
  sets : List (Nat × StkSet) := []
  reqs : List PassReq := []
  pass : Option Pass := none
  /-- Cycle in which the latest pass ended. -/
  passEnd : Nat := 0
  /-- Stations at which a set applied, with the datum and the set (R292). -/
  applies : List (Nat × Nat × Nat) := []
  /-- Receive lane maps that take effect at T plus the wire delay (R36): register, value, datum, and the kind of the
  FMP's own work that placed them, 0 for none. -/
  lanes : List (Nat × Word × Nat × Nat) := []
  /-- Shadows discarded by blocks that missed their call, until they are placed again (R291). -/
  missed : List Shadow := []
  deriving DecidableEq, Repr

/-- A message in a mailbox channel with its stamp (R234). -/
structure Msg where
  src : Gid
  priv : Nat
  arrival : Nat
  seq : Nat
  data : BitVec 512
  deriving DecidableEq, Repr

/-- A journal record waiting to be written (R301, R302): its type and words 1 to 3. -/
structure JRec where
  typ : Nat
  w1 : Nat
  w2 : Nat
  w3 : Nat
  /-- Slot and SEQ reserved for it (R345). -/
  resv : Option (Nat × Nat) := none
  deriving DecidableEq, Repr

/-- A lane failure whose failure stake is still to be closed (R359): receiving station, its port, the lane. -/
structure LaneFail where
  st : Nat
  n : Nat
  lane : Nat
  deriving DecidableEq, Repr

/-- A request on the NVM port that has been accepted and not answered (R422, R423): its operation (0 READ, 1 PROGRAM,
2 ERASE, 3 OTP_READ), address, data, the datum of its acceptance, and for whom (0 boot, 1 journal, 2 trip commit). -/
structure NvmReq where
  op : Nat
  addr : Nat
  data : Word := 0
  at' : Nat
  who : Nat
  deriving DecidableEq, Repr

/-- The journal record being written (R303): its slot and SEQ, the words still to be programmed, and whether this is
its second attempt. -/
structure JCur where
  rcd : JRec
  slot : Nat
  seq : Nat
  left : List (Nat × Word)
  retry : Bool := false
  deriving DecidableEq, Repr

/-- A port record of the expected map (R388). -/
structure PortRec where
  port : Nat
  present : Bool
  powered : Bool
  priv : Nat
  anySerial : Bool
  maker : Nat
  cls : Nat
  verMin : Nat
  verMax : Nat
  serial : Nat
  caps : Nat
  deriving DecidableEq, Repr

/-- The expected map (R388): the journal region, the host port of each command pair, the port records. -/
structure ExpMap where
  jbase : Nat
  jsec : Nat
  jn : Nat
  jvalid : Bool
  pairs : List (Nat × Nat)
  recs : List PortRec
  deriving DecidableEq, Repr

/-- An FMP image in one of its two slots (R385, R272): version, security version, and whether it has been verified. -/
structure Image where
  version : Nat
  secver : Nat
  verified : Bool
  deriving DecidableEq, Repr

/-- A ticket of a SLOW command (R255, R256): its number, pair, opcode, SEQ, QUIET, the sender's privilege and ID, the
command's 64 bytes, the datum of its REPLY, its state (0 WAITING, 1 RUNNING, 2 DONE), its outcome, results, the stage its
work has reached and what the work carries along; of its buffer (R250) the bytes read, or to be written, the bytes written,
and whether the writing has begun. -/
structure Tkt where
  num : Nat
  pair : Nat
  op : Nat
  seq : Nat
  quiet : Bool
  priv : Nat
  src : Gid
  cmd : BitVec 512
  at' : Nat
  st : Nat := 1
  status : BitVec 4 := 0
  detail : Nat := 0
  words : List Word := []
  stage : Nat := 0
  aux : List Nat := []
  buf : List Byte := []
  off : Nat := 0
  out : Bool := false
  deriving DecidableEq, Repr

/-- What the FMP keeps for a command pair (R247, R253): the last command taken, its REPLY and COMPLETION and its ticket,
messages held for channel 2k + 1, commands set aside, and commands that found the set-aside queue full. -/
structure PairSt where
  last : Option (BitVec 512) := none
  reply : Option (BitVec 512) := none
  comp : Option (BitVec 512) := none
  ticket : Nat := 0
  held : List (BitVec 512) := []
  aside : List Msg := []
  spill : List Msg := []
  deriving DecidableEq, Repr

/-- A source or destination entry held for a plat swap (R266): port, entry, its two registers (schedule 0 for a
destination entry). -/
structure StagedEntry where
  src : Bool
  port : Nat
  k : Nat
  cfg : Word
  sch : Word
  /-- Its record's index in the buffer (R251). -/
  idx : Nat := 0
  deriving DecidableEq, Repr

/-- A plat staged for a swap (R266): station, plat, length code, its record's index in the buffer. -/
structure StagedPlat where
  st : Nat
  n : Nat
  len : Nat
  idx : Nat := 0
  deriving DecidableEq, Repr

/-- What the FMP has under way in set 7 for its own work (R258): a lane-failure stake, a re-application of lost shadows,
a test rotation or a route-around, with the shadows to place. -/
structure Own7 where
  kind : Nat
  fails : List LaneFail := []
  deriving DecidableEq, Repr

/-- A test in the queue or running (R364 to R367): its ticket, kind (1 LINK_BIST, 2 LINK_CAL, 3 STATION_BIST; 5 a rotation
of a re-plan, R356), station and link port; for a running link test the direction under test (0 receive, 1 transmit), the
lanes still to test, the lane under test and the datum of its start, a rotation stake under way, the failed lanes found in
each direction, the narrowest eye, the lanes tested, and whether it has run out of idle lanes. -/
structure Test where
  ticket : Nat
  kind : Nat
  st : Nat
  n : Nat
  run : Bool := false
  dir : Nat := 0
  todo : List Nat := []
  lane : Option Nat := none
  at' : Nat := 0
  moved : Bool := false
  bad0 : Nat := 0
  bad1 : Nat := 0
  eye : Nat := 63
  done : Nat := 0
  noSpare : Bool := false
  deriving DecidableEq, Repr

/-- A re-plan in progress (R356): station, drift that triggered it, ticket (0 none), the receive directions still to be
done, the first of them under way at `step`: 0 patching guards, 1 measuring, 2 patching them back, 3 re-centring, 4 rotating,
5 judging all eyes, 6 waiting for VREQ, 7 about to begin; the datum of that step, the guard entries, the patches still to
make, the DEEPEST to restore, and the directions re-margined. -/
structure Replan where
  st : Nat
  drift : Nat
  ticket : Nat
  dirs : List Nat := [0, 1, 2, 3, 4, 5]
  step : Nat := 7
  at' : Nat := 0
  guards : List Nat := []
  todo : List Nat := []
  deepest : Nat := 0
  links : Nat := 0
  deriving DecidableEq, Repr

/-- The fabric management processor and what it keeps. -/
structure FmpSt where
  jq : List JRec := []
  /-- Records dropped and not yet told by a LOSS record (R303). -/
  jlost : Nat := 0
  jcur : Option JCur := none
  /-- Journal region: first word address, sector size, sector count; next slot to write; VALID records known, oldest
  first, by slot and SEQ; records overwritten; sectors still to be erased (R300). -/
  jbase : Nat := 0
  jsec : Nat := 0
  jn : Nat := 0
  jpos : Nat := 0
  jrecs : List (Nat × Nat) := []
  jover : Nat := 0
  jera : List Nat := []
  /-- The journal scan of the boot is still to end (R304). -/
  jscan : Bool := false
  nvm : List NvmReq := []
  /-- A request has timed out and its late response is awaited (R423). -/
  nvmLate : Bool := false
  /-- The slot and SEQ reserved for a THERMAL_INTENT (R345). -/
  arm : Option (Nat × Nat) := none
  laneFails : List LaneFail := []
  /-- Responses to MERIDIAN_DUE (kind 1) and DATUM_SLIP (kind 0) still to be made: kind, station, stakes applied in the
  window (R291, R292). -/
  slips : List (Nat × Nat × Nat) := []
  /-- Station and datum of the slips answered within the last second (R292). -/
  slipLog : List (Nat × Nat) := []
  /-- Stations marked avoided (R86), the marks of R76 by bank and cause (a station, or 100 + 8 * station + port for a receive
  direction marked for retirement), and the stations vacated or being vacated (R367). -/
  avoid : List Nat := []
  marks : List (Nat × Nat) := []
  vacated : List Nat := []
  /-- Word address of image slot 1 in NVM, MIN_SECVER (R384, R381). -/
  img1 : Nat := 0
  minSec : Nat := 0
  mapAt : Nat := 0
  mapLen : Nat := 0
  /-- The boot map's pairs and the map in force for enumeration (R387, R388). -/
  bootPairs : List (Nat × Nat) := []
  map : Option ExpMap := none
  /-- FMP image slots, key 0 and 1 (R433). -/
  images : List (Nat × Option Image) := []
  /-- Ports and stations that failed the wipe (R383). -/
  badNis : List Nat := []
  badStns : List Nat := []
  /-- An ENUMERATE command has completed OK since the boot (R372). -/
  enumOk : Bool := false
  /-- Admissions under way: port, the step of R389 reached, and the datum of that step. -/
  admissions : List (Nat × Nat × Nat) := []
  pairs : List (Nat × PairSt) := []
  /-- The command pair whose turn it is (R246). -/
  turn : Nat := 0
  tickets : List Tkt := []
  lastTicket : Nat := 0
  /-- The prepared route bank and the pair that prepared it, 8 for the FMP itself (R264, R85); entries written at boot step 5
  (R387). -/
  prep : Option (Nat × Nat) := none
  bootRoutes : List Nat := []
  /-- The draining traverse and the datum of its switch; a drain that stalled (R78, R85). -/
  drain : Option (Nat × Nat) := none
  stalled : Bool := false
  /-- The bank being retired, and the ports whose cache is still to be swept (R85 step 7). -/
  retire : Option (Nat × List Nat) := none
  /-- Causes of a route-around still to be answered, and while one is under way its bank and whether its drain has stalled,
  so that the host finishes it (R85, R86). -/
  around : List Nat := []
  aroundRun : Option (Nat × Bool) := none
  /-- Plats staged and held entries (R266). -/
  plats : List StagedPlat := []
  entries : List StagedEntry := []
  own7 : Option Own7 := none
  /-- A hand-over in progress: the previous slot and the datum T (R277, R278). -/
  hand : Option (Nat × Nat) := none
  /-- HEARTBEAT and the datum of its latest change (R276). -/
  beatAt : Nat := 0
  /-- Stations whose links are held DOWN, by SLEEP or by a STATION_BIST (R333, R367). -/
  linksDown : List Nat := []
  tests : List Test := []
  /-- Re-plans held, in order of their trigger: station, drift, ticket (R355). -/
  replans : List (Nat × Nat × Nat) := []
  replan : Option Replan := none
  /-- Start of the benchmark scan in progress (R353). -/
  scanAt : Option Nat := none
  /-- Datum of the latest VREQ step not yet acknowledged (R358), and the re-plan goes on as if STEPS were 12. -/
  vreqAt : Option Nat := none
  vreqOut : Bool := false
  /-- Saved and last written shaper registers under the throttle, by register (R344). -/
  thrSave : List (Nat × Word) := []
  thrWrote : List (Nat × Word) := []
  deriving DecidableEq, Repr

/-- The thermal grid (R337 to R343). -/
structure ThmSt where
  /-- The sample instant whose evaluation is still to come. -/
  sample : Option Nat := none
  /-- Effective readings at earlier instants, newest first. -/
  hist : List (Nat × List Int) := []
  /-- Consecutive evaluations, key 128 * condition + sensor: 0 WARN, 1 THROTTLE, 2 TRIP, 3 RATE, 4 deviation. -/
  up : List (Nat × Nat) := []
  /-- Consecutive evaluations toward clearing, key condition. -/
  dn : List (Nat × Nat) := []
  /-- Conditions that are set: WARN, THROTTLE, TRIP, RATE. -/
  set : List Nat := []
  /-- Consecutive fast evaluations with neither condition of R338; the rate that evaluations have asked for. -/
  calm : Nat := 0
  want : Bool := false
  deriving DecidableEq, Repr

/-- What the surroundings hold: pins, latches and the test access port. -/
structure HostSt where
  /-- After a trip and until the next reset nothing further is started (R347 step 2). -/
  halt : Bool := false
  /-- Step of the trip sequence reached (R347): 0 none, 3 word in flight, 4 commit in flight, 5 ended. -/
  trip : Nat := 0
  /-- Datum at which a soft reset begins (R376). -/
  softAt : Option Nat := none
  /-- A warm (1) or soft (2) reset held until SHUTDOWN_READY (R378). -/
  heldReset : Option Nat := none
  /-- Datum of the release of the latest reset. -/
  resetAt : Nat := 0
  /-- TAP instruction register (R430). -/
  tapIr : Nat := 1
  scan : Bool := false
  /-- VREQ_ACK as driven by the host (R426). -/
  vreqPin : Nat := 0
  deriving DecidableEq, Repr

/-- The block's state. -/
structure State where
  /-- The global block's datum (R12). -/
  datum : Nat
  /-- The other 192 datum counters, by their difference from the global one (R13). -/
  skew : Skew
  /-- Every configuration register, keyed by its offset in the window (R437, R443 to R446). -/
  regs : List (Nat × Word)
  /-- Survey shadows of counters and status registers, keyed by the live register's offset (R317). -/
  shadow : List (Nat × Word)
  /-- Bulk memories: route table, plat banks, trace store, keyed by offset in the window (R442). -/
  mem : List Host.Cell
  /-- Stations, key station number. -/
  stns : List (Nat × StnSt)
  /-- Network interfaces, key port number. -/
  nis : List (Nat × NiSt)
  /-- Federation agents, key federation port number. -/
  feds : List (Nat × FedSt)
  /-- Local links of the agents, key block index: federation agents and, as stations, management agents (R129). -/
  agents : List (Nat × Agent)
  /-- Chain queues of NIs and federation agents, key block index (R129). -/
  chains : List (Nat × ChainEnd)
  /-- Global block. -/
  glb : GlbSt
  /-- Stake blocks: key 8 * block index + set (R137), and the controller's sets (R128). -/
  stk : StkSt
  /-- Mailbox channels, key channel number (R228). -/
  mbx : List (Nat × List Msg)
  /-- The fabric management processor. -/
  fmp : FmpSt
  /-- The thermal grid. -/
  thm : ThmSt
  /-- Pins and the surroundings' levels. -/
  host : HostSt
  /-- The MODEL's own field: how many free values have been drawn. -/
  freeCtr : Nat
  /-- Registers written in the present cycle whose new value acts from the next cycle on, with the value that acts
  until then (R156, R159, R165, R177). -/
  was : List (Nat × Word)
  /-- Registers that take a value at the end of the present cycle (R165, R167), the latest first. -/
  late : List (Nat × Word)
  /-- Registers that changed in the present cycle: what each held at the cycle's start, and what the accesses served in
  the cycle have made of that (R440). -/
  stood : List (Nat × Word × Word)
  /-- Status and data of the latest access that did not travel as a packet (R441). -/
  direct : BitVec 4 × Word
  /-- Commands waiting, first in, first out. -/
  pending : List Instr
  deriving DecidableEq, Repr

/-- Why a step can stop with a fault: no rule of the spec makes the block stop, so no reason exists. -/
inductive Fault where
  deriving DecidableEq, Repr

/-- Why a command is refused. -/
inductive Refusal where
  /-- Raised by exec's arm of a command that has no meaning yet. Safe: nothing is concluded of it. -/
  | notModelled (mnemonic : String)
  deriving DecidableEq, Repr

/-- The block right after a cold reset has been released and its power has come up: the datum 0, every register at its
reset value, memories as the wipe leaves them, every queue empty. -/
def State.reset : State where
  datum := 0
  skew := { base := some 0 }
  regs := []
  shadow := []
  mem := []
  stns := []
  nis := []
  feds := []
  agents := []
  chains := []
  glb := {}
  stk := {}
  mbx := []
  fmp := {}
  thm := {}
  host := {}
  freeCtr := 192
  was := []
  late := []
  stood := []
  direct := (0, 0)
  pending := []

end Sys2Proof.Machine
end

