-- ==== Sys2Proof/Machine/Ops.lean ====
section
/-!
DEFINITION. Machine/Ops.lean: the named operations over the state: registers and their fields, the per-block
structures, datum counters, memory, free values, counters, causes and events, captures, journal records, answers.
-/
namespace Sys2Proof.Machine

/-- What a meaning answers. -/
abbrev Out := Host.Outcome State Fault Refusal

/-! ### Registers -/

/-- The register at a window offset. -/
def State.rd (s : State) (a : Nat) : Word := Store.get resetOf s.regs a

/-- R440: what a register held at the start of the present cycle, and what the accesses served in it have made of that. -/
def State.seenOf (s : State) (a : Nat) : Word × Word :=
  match s.stood.find? (fun e => e.1 = a) with
  | some e => e.2
  | none => (s.rd a, s.rd a)

/-- A register's entry of `stood`, made at its first change in a cycle. -/
def State.noteSeen (s : State) (a : Nat) : List (Nat × Word × Word) :=
  if s.stood.any (fun e => e.1 = a) then s.stood else (a, s.rd a, s.rd a) :: s.stood

/-- The register at a window offset written whole. -/
def State.wr (s : State) (a : Nat) (v : Word) : State :=
  { s with regs := Store.set resetOf s.regs a v, stood := s.noteSeen a }

/-- R440: an access makes `v` of the register's value at the start of the cycle; with the cycle's own changes after it the
register holds `x`. -/
def State.wrServed (s : State) (a : Nat) (v x : Word) : State :=
  { s.wr a x with stood := (a, (s.seenOf a).1, v) :: s.stood.filter (fun e => e.1 ≠ a) }

/-- A cycle begins: registers read as they stand now until its end (R440). -/
def State.cycleStart (s : State) : State := { s with stood := [] }

/-- A field of a register. -/
def State.fld (s : State) (a : Nat) (f : Fld) : Nat := f.get (s.rd a)

/-- A field of a register written. -/
def State.setFld (s : State) (a : Nat) (f : Fld) (v : Nat) : State := s.wr a (f.put (s.rd a) v)

/-- A one-bit field read as a flag. -/
def State.bit (s : State) (a : Nat) (f : Fld) : Bool := s.fld a f ≠ 0

/-- `n` added to a saturating count (R294). -/
def State.sat (s : State) (a : Nat) (f : Fld) (n : Nat := 1) : State :=
  s.setFld a f (min (s.fld a f + n) (2 ^ f.w - 1))

/-- `n` added to a wrapping count. -/
def State.wrap (s : State) (a : Nat) (f : Fld) (n : Nat := 1) : State := s.setFld a f (s.fld a f + n)

/-- A count lowered, not below 0. -/
def State.down (s : State) (a : Nat) (f : Fld) (n : Nat := 1) : State := s.setFld a f (s.fld a f - n)

/-! ### Writes that act from the next cycle on -/

/-- The value of a register that acts in the present cycle. -/
def State.inForce (s : State) (a : Nat) : Word :=
  match s.was.find? (fun e => e.1 = a) with
  | some e => e.2
  | none => s.rd a

/-- A field of the value that acts in the present cycle. -/
def State.fldNow (s : State) (a : Nat) (f : Fld) : Nat := f.get (s.inForce a)

/-- The present value of a register goes on acting until the end of the cycle, whatever is written. -/
def State.keepNow (s : State) (a : Nat) : State :=
  if s.was.any (fun e => e.1 = a) then s else { s with was := (a, s.rd a) :: s.was }

/-- The register takes a value at the end of the cycle. -/
def State.wrLate (s : State) (a : Nat) (v : Word) : State := { s with late := (a, v) :: s.late }

/-- The end of the cycle: what was written acts, the latest write of a register last. -/
def State.settle (s : State) : State :=
  s.late.foldr (fun e s => s.wr e.1 e.2) { s with was := [], late := [] }

/-! ### Blocks -/

def State.stn (s : State) (i : Nat) : StnSt := Store.get (fun _ => {}) s.stns i
def State.setStn (s : State) (i : Nat) (x : StnSt) : State :=
  { s with stns := Store.set (fun _ => {}) s.stns i x }
def State.modStn (s : State) (i : Nat) (f : StnSt → StnSt) : State := s.setStn i (f (s.stn i))

def State.ni (s : State) (p : Nat) : NiSt := Store.get (fun _ => {}) s.nis p
def State.setNi (s : State) (p : Nat) (x : NiSt) : State :=
  { s with nis := Store.set (fun _ => {}) s.nis p x }
def State.modNi (s : State) (p : Nat) (f : NiSt → NiSt) : State := s.setNi p (f (s.ni p))

def State.fed (s : State) (f : Nat) : FedSt := Store.get (fun _ => {}) s.feds f
def State.setFed (s : State) (f : Nat) (x : FedSt) : State :=
  { s with feds := Store.set (fun _ => {}) s.feds f x }
def State.modFed (s : State) (f : Nat) (g : FedSt → FedSt) : State := s.setFed f (g (s.fed f))

/-- Chain queues of block `b`. -/
def State.chain (s : State) (b : Nat) : ChainEnd := Store.get (fun _ => {}) s.chains b
def State.modChain (s : State) (b : Nat) (g : ChainEnd → ChainEnd) : State :=
  { s with chains := Store.set (fun _ => {}) s.chains b (g (s.chain b)) }

/-- A value of a sparse table whose unlisted keys read the type's default. -/
def tget {α : Type} (d : α) (m : List (Nat × α)) (k : Nat) : α := Store.get (fun _ => d) m k
/-- The table with a value set. -/
def tset {α : Type} [DecidableEq α] (d : α) (m : List (Nat × α)) (k : Nat) (v : α) : List (Nat × α) :=
  Store.set (fun _ => d) m k v

/-- The first of `n` numbers from `t` on that is not used. -/
def lowestFree (used : Nat → Bool) : Nat → Nat → Option Nat
  | 0, _ => none
  | n + 1, t => if used t then lowestFree used n (t + 1) else some t

/-! ### Datum counters (R12 to R17, R129) -/

/-- The counter of a block (block indices of R129) at the present global datum. -/
def State.nowOf (s : State) (b : Nat) : Nat :=
  if b = 192 then s.datum
  else
    let d : Word := Store.get (fun k => match s.skew.base with
      | some n => Config.freeValue (n + k)
      | none => 0) s.skew.diff b
    (s.datum + d.toNat) % 2 ^ 64

/-! ### Clock edges (R11) -/

/-- PCLK rises at the beginning of the cycles with an even datum. -/
def pclkEdge (d : Nat) : Bool := d % 2 = 0
/-- DCLK rises at datum values that are multiples of 8. -/
def dclkEdge (d : Nat) : Bool := d % 8 = 0
/-- ACLK rises at datum values that are multiples of 64. -/
def aclkEdge (d : Nat) : Bool := d % 64 = 0
/-- MCLK rises three times in 4 fclk, at 0, 4/3 and 8/3 fclk after a multiple of 4: in the first three cycles of the
four. -/
def mclkEdge (d : Nat) : Bool := d % 4 ≠ 3
/-- The number of the mclk cycle that began last at or before the fclk cycle `d`. -/
def mclkNo (d : Nat) : Nat := 3 * (d / 4) + min (d % 4) 2

/-- Block index of station `i` (R129). -/
abbrev stnBlk (i : Nat) : Nat := 156 + i
/-- Block index of federation port `f` (R129). -/
abbrev fedBlk (f : Nat) : Nat := 144 + f

/-- R16: the full datum a truncated stamp of `n` bits stands for at datum `now`. -/
def expandStamp (n now stamp : Nat) : Nat :=
  let m := 2 ^ n
  let base := now / m * m + stamp % m
  if base > now + m / 2 then base - m
  else if base + m / 2 ≤ now then base + m
  else base

/-- R26: round-up to a granule. -/
def roundUp (t g : Nat) : Nat := (t + g - 1) / g * g

/-! ### Free values -/

/-- A fresh free value and the state in which it has been drawn. -/
def State.draw (s : State) : Word × State :=
  (Config.freeValue s.freeCtr, { s with freeCtr := s.freeCtr + 1 })

/-! ### Bulk memory -/

/-- A byte of the bulk window; an unlisted byte reads 0. -/
def State.rdByte (s : State) (a : Nat) : Byte := Store.get (fun _ => 0) s.mem a
/-- A byte of the bulk window written. -/
def State.wrByte (s : State) (a : Nat) (v : Byte) : State := { s with mem := Store.set (fun _ => 0) s.mem a v }

/-- The canonical form of the bulk memory. -/
def Memory.wf (m : List Host.Cell) : Bool := Store.wf (fun _ => (0 : Byte)) m

/-- `n` bytes from address `a`, least significant first (R4). -/
def State.rdMem (s : State) (a : Nat) : Nat → Nat
  | 0 => 0
  | n + 1 => (s.rdByte a).toNat + 256 * s.rdMem (a + 1) n

/-- `n` bytes written from address `a`, least significant first (R4). -/
def State.wrMem (s : State) (a : Nat) (v : Nat) : Nat → State
  | 0 => s
  | n + 1 => (s.wrByte a (BitVec.ofNat 8 v)).wrMem (a + 1) (v / 256) n

/-- The bytes from `lo` to below `hi` replaced by `cells`, which lie there in rising order. -/
def State.replaceMem (s : State) (lo hi : Nat) (cells : List Host.Cell) : State :=
  { s with mem := s.mem.filter (fun e => decide (e.1 < lo)) ++ (cells ++ s.mem.filter (fun e => decide (hi ≤ e.1))) }

/-- R68: offset of the route table entry of traverse `t`, source key `sk`, destination key `dk`. -/
def routeAddr (t sk dk : Nat) : Nat := 0x1000000 + 8 * (65536 * t + 256 * sk + dk)

/-- A route table entry. -/
def State.routeAt (s : State) (t sk dk : Nat) : BitVec 64 := BitVec.ofNat 64 (s.rdMem (routeAddr t sk dk) 8)

/-- R66: a no-route value. -/
def noRoute (r : BitVec 64) : Bool := r = 0 || hopOf r 0 = 15

/-- R442: offset of entry `t` of bank `b` of plat `n` of station `i`. -/
def platAddr (i n b t : Nat) : Nat := 0x1200000 + 0x10000 * i + 0x1000 * n + 0x800 * b + 2 * t

/-- FREE (R91) in every entry of both banks of every plat of a station, as cells of the bulk memory. -/
def freeCells (i : Nat) : List Host.Cell :=
  (List.range 11).flatMap (fun n => (List.range 2).flatMap (fun b =>
    (List.range 1024).map (fun t => (platAddr i n b t, (0x0F : Byte)))))

/-- A plat entry (R91). -/
def State.platAt (s : State) (i n b t : Nat) : Nat := s.rdMem (platAddr i n b t) 2

/-! ### Modes (R371) -/
namespace Mode
abbrev OFF : Nat := 0
abbrev WIPE : Nat := 1
abbrev ENUMERATE : Nat := 2
abbrev RUN : Nat := 3
abbrev RECONFIGURE : Nat := 4
abbrev DEGRADED : Nat := 5
abbrev DIAGNOSE : Nat := 6
abbrev SAFE : Nat := 7
end Mode

/-- The present mode. -/
def State.mode (s : State) : Nat := s.fld A.GLB_MODE F.GLB_MODE_MODE

/-- The running modes of R371. -/
def State.running (s : State) : Bool := s.mode = 3 || s.mode = 4 || s.mode = 5

/-! ### Counters (R309, R310) -/

/-- Register offset of a block's counter-mode register, by the counter's own offset, and the counter's index. -/
def cntModeOf (a : Nat) : Nat × Nat :=
  match blkOf a with
  | some (.ni p, off) => (A.NI_CNT_MODE p, (off - 0x4000) / 8)
  | some (.stn i, off) => (A.STN_CNT_MODE i, (off - 0x4000) / 8)
  | _ => (A.GLB_CNT_MODE, (a - A.GLB_CNT 0) / 8)

/-- R309, R312: fclk cycles between two counts of a counter: counters 0 to 5 of an NI count at the edges of PORT_CLK. -/
def cntClock (a : Nat) : Nat :=
  match blkOf a with
  | some (.ni _, off) => if off < 0x4030 then 2 else 1
  | _ => 1

/-- `n` occurrences of a counted event in this cycle, at counter offset `a` (R309, R310), under the mode in force in it: LEVEL
adds them, EDGE adds 1 when the cycle before, of the counter's clock, had none. Reads served in this cycle go on seeing the
count of its start (R319). -/
def State.cnt (s : State) (a : Nat) (n : Nat := 1) : State :=
  if n = 0 then s
  else
    let x := s.rd a
    let last := Store.get (fun _ => 0) s.glb.cntLast a
    let edge := ((s.inForce (cntModeOf a).1).toNat >>> (cntModeOf a).2) % 2 = 1
    let add := if edge then (if s.datum < last then 0 else 1) else n
    let c := min (F.NI_CNT_COUNT.get x + add) (2 ^ 48 - 1)
    let sat := if c = 2 ^ 48 - 1 then 1 else F.NI_CNT_SAT.get x
    let s1 := if F.NI_CNT_SAT.get x = 1 then s
      else s.wr a (F.NI_CNT_SAT.put (F.NI_CNT_COUNT.put x c) sat)
    { s1 with glb := { s1.glb with cntLast := Store.set (fun _ => 0) s1.glb.cntLast a (s.datum + cntClock a + 1) } }

/-- A global counter. -/
def State.gcnt (s : State) (j : Nat) (n : Nat := 1) : State := s.cnt (A.GLB_CNT j) n
/-- A station counter. -/
def State.scnt (s : State) (i j : Nat) (n : Nat := 1) : State := s.cnt (A.STN_CNT i j) n
/-- An NI counter. -/
def State.ncnt (s : State) (p j : Nat) (n : Nat := 1) : State := s.cnt (A.NI_CNT p j) n

/-! ### Journal (R303) -/

/-- A record joins the FMP's journal queue, or is dropped and counted when 64 are waiting (R303). Urgent records,
THERMAL_INTENT and TRIP_COMMIT, go to the head. -/
def State.journal (s : State) (r : JRec) (urgent : Bool := false) : State :=
  if 64 ≤ s.fmp.jq.length then
    { s with fmp := { s.fmp with jlost := s.fmp.jlost + 1 } }.sat A.GLB_JNL_STATUS F.GLB_JNL_STATUS_DROPPED
  else
    let q := if urgent then r :: s.fmp.jq else s.fmp.jq ++ [r]
    let s := { s with fmp := { s.fmp with jq := q } }
    s.setFld A.GLB_JNL_STATUS F.GLB_JNL_STATUS_QUEUED q.length

/-- R302: a record whose word 1 is the present datum. -/
def State.note (s : State) (typ w2 w3 : Nat) : State := s.journal { typ := typ, w1 := s.datum, w2 := w2, w3 := w3 }

/-! ### Marks on stations and directions (R76, R86) -/

/-- The mark of a receive direction: that of port `n` of station `st` (R76, R86). -/
def dirMark (st n : Nat) : Nat := 100 + 8 * st + n

/-- Causes marked for every bank (R76: "for bank t"): R76 does not say for which banks the FMP sets a mark, and R86 keeps every
later route away from the cause. DESIGN CHOICE (log 75): for all four, when the station is marked avoided (R86) or the
failure stake that retires the direction is closed; the marks go when the station returns or the direction carries lanes
again. -/
def State.mark (s : State) (x : Nat) : State :=
  { s with fmp := { s.fmp with marks := s.fmp.marks ++ ([0, 1, 2, 3].map (fun t => (t, x))).filter (fun e => !s.fmp.marks.contains e) } }

/-- The marks of a cause are gone. -/
def State.unmark (s : State) (x : Nat) : State :=
  { s with fmp := { s.fmp with marks := s.fmp.marks.filter (fun e => e.2 ≠ x) } }

/-- R86: a station is marked avoided; the FMP has a route change to make. -/
def State.markAvoid (s : State) (st : Nat) : State :=
  let add (l : List Nat) : List Nat := if l.contains st then l else l ++ [st]
  { s.mark st with fmp := { (s.mark st).fmp with avoid := add s.fmp.avoid, around := add s.fmp.around } }

/-! ### Events (R295 to R299) -/

/-- The present value of an event source: the unit lines, the cause-driven sources and the thermal conditions (R341) hold
levels, every other source is an event of one cycle. -/
def State.srcLevel (s : State) (i : Nat) : Bool :=
  if i < 576 then (s.ni (i / 4)).evtRaise.getLsbD (i % 4)
  else
    let lvl (cause en : Nat) (note : Bool) : Bool :=
      let x := (s.rd cause).toNat % 2 ^ 16 &&& (s.rd en).toNat % 2 ^ 16
      if note then 256 ≤ x else x % 256 ≠ 0
    if 960 ≤ i ∧ i < 1248 then
      lvl (A.NI_EVT_CAUSE ((i - 960) / 2)) (A.NI_EVT_EN ((i - 960) / 2)) (i % 2 = 1)
    else if 1248 ≤ i ∧ i < 1320 then
      lvl (A.STN_EVT_CAUSE ((i - 1248) / 2)) (A.STN_EVT_EN ((i - 1248) / 2)) (i % 2 = 1)
    else if 1320 ≤ i ∧ i < 1344 then
      lvl (A.FED_EVT_CAUSE ((i - 1320) / 2)) (A.FED_EVT_EN ((i - 1320) / 2)) (i % 2 = 1)
    else if i = 1366 then 1 ≤ s.fld A.THM_STATUS F.THM_STATUS_LEVEL
    else if i = 1367 then 2 ≤ s.fld A.THM_STATUS F.THM_STATUS_LEVEL
    else if i = 1368 then s.bit A.THM_STATUS F.THM_STATUS_TRIP_SRC
    else if i = 1370 then s.bit A.THM_STATUS F.THM_STATUS_RATE
    else false

/-- Pending bit of a source (R297). -/
def State.pend (s : State) (i : Nat) : Bool := (s.rd (A.EVT_PEND (i / 64))).getLsbD (i % 64)

/-- A pending bit written. -/
def State.setPend (s : State) (i : Nat) (b : Bool) : State :=
  s.setFld (A.EVT_PEND (i / 64)) ⟨i % 64, 1⟩ (if b then 1 else 0)

/-- R297, R299: an enabled source sets its pending bit; a source routed to EVM queues one event message, or drops it
when 64 are queued. Answers whether a message was dropped. -/
def State.setPending (s : State) (i : Nat) : State × Bool :=
  if s.pend i then (s.sat A.EVT_STATUS F.EVT_STATUS_MERGED, false)
  else
    let s := (s.setPend i true).gcnt 13
    if s.fld (A.EVT_SRC_CFG i) F.EVT_SRC_CFG_ACTION = 3 then
      if s.glb.evmQ.length < 64 then
        let q := s.glb.evmQ ++ [(i, s.datum)]
        ({ s with glb := { s.glb with evmQ := q } }.setFld A.EVT_STATUS F.EVT_STATUS_EVM_QUEUE q.length, false)
      else (s.sat A.EVT_STATUS F.EVT_STATUS_EVM_DROPS, true)
    else (s, false)

/-- A source that is enabled (R297). -/
def State.srcEn (s : State) (i : Nat) : Bool := s.bit (A.EVT_SRC_CFG i) F.EVT_SRC_CFG_EN

/-- R297: a rise of event source `i`. A dropped message raises source 1,378 (R299), whose own action is never EVM. -/
def State.raise (s : State) (i : Nat) : State :=
  if s.srcEn i then
    match s.setPending i with
    | (s, false) => s
    | (s, true) => if s.srcEn 1378 then (s.setPending 1378).1 else s
  else s

/-- R297, LEVEL mode: an enabled source that is 1 sets its pending bit. -/
def State.holdLevel (s : State) (i : Nat) : State :=
  if s.srcEn i && s.srcLevel i && s.fld (A.EVT_SRC_CFG i) F.EVT_SRC_CFG_MODE = 0 && !s.pend i then s.raise i else s

/-- A change of the state from `s` to `t` seen at source `i`: a rise raises it (R297). -/
def State.seeRise (s t : State) (i : Nat) : State :=
  if !s.srcLevel i && t.srcLevel i then t.raise i else t

/-- R296: bit `b` of a cause register sets; `src` is the block's FAULT source, `src + 1` its NOTE source. -/
def State.setCause (s : State) (cause src b : Nat) : State :=
  s.seeRise (s.seeRise (s.setFld cause ⟨b, 1⟩ 1) src) (src + 1)

/-- A cause of an NI (R296). -/
def State.niCause (s : State) (p b : Nat) : State := s.setCause (A.NI_EVT_CAUSE p) (960 + 2 * p) b
/-- A cause of a station (R296). -/
def State.stnCause (s : State) (i b : Nat) : State := s.setCause (A.STN_EVT_CAUSE i) (1248 + 2 * i) b
/-- A cause of a federation agent (R296). -/
def State.fedCause (s : State) (f b : Nat) : State := s.setCause (A.FED_EVT_CAUSE f) (1320 + 2 * f) b

/-- Sources whose EVT_SRC_CFG register holds anything but its reset value, that is, that may be enabled. -/
def State.cfgSources (s : State) : List Nat :=
  (s.regs.filter (fun e => A.EVT_SRC_CFG 0 ≤ e.1 && e.1 < A.EVT_SRC_CFG 1536)).map
    (fun e => (e.1 - A.EVT_SRC_CFG 0) / 8)

/-- R298: a pending source with ACTION IRQ is routed to `line`. -/
def State.irqLine (s : State) (line : Nat) : Bool :=
  s.cfgSources.any (fun i => s.srcEn i && s.pend i && s.fld (A.EVT_SRC_CFG i) F.EVT_SRC_CFG_ACTION = 1 &&
    s.fld (A.EVT_SRC_CFG i) F.EVT_SRC_CFG_LINE = line)

/-- R298: the lines of IRQ_OUT that the pending bits ask for now. -/
def State.irqNow (s : State) : Nat :=
  ((List.range 16).map (fun l => if s.irqLine l then 2 ^ l else 0)).sum

/-- R298: IRQ_OUT[15:0], which follows the pending bits 4 fclk later. -/
def State.irqOut (s : State) : Nat := s.glb.irqPast.getD 3 0

/-- The instance's own number (R393). -/
def State.instance' (s : State) : Nat := s.fld A.GLB_FED_ID F.GLB_FED_ID_INSTANCE

/-- The global ID of a port value of this instance. -/
def State.gid (s : State) (port : Nat) : Gid := BitVec.ofNat 18 (s.instance' * 256 + port)

/-- The port value of a global ID. -/
def gidPort (g : Gid) : Nat := g.toNat % 256
/-- The instance number of a global ID. -/
def gidInst (g : Gid) : Nat := g.toNat / 256

/-- R298: the EVT_NOTE lines that the pending bits ask for now, as 4 * port + line. -/
def State.noteNow (s : State) : List Nat :=
  (s.cfgSources.filter (fun i => s.srcEn i && s.pend i && s.fld (A.EVT_SRC_CFG i) F.EVT_SRC_CFG_ACTION = 2 &&
    s.fld (A.EVT_SRC_CFG i) F.EVT_SRC_CFG_TARGET / 256 = s.instance')).map (fun i =>
      4 * (s.fld (A.EVT_SRC_CFG i) F.EVT_SRC_CFG_TARGET % 256) + s.fld (A.EVT_SRC_CFG i) F.EVT_SRC_CFG_LINE)

/-- R298: EVT_NOTE[line] of port `p`: it follows the pending bits at the first pclk edge at or after 8 fclk, and is 0 while the port's
PWR_UP is 0. -/
def State.evtNote (s : State) (p line : Nat) : Bool :=
  s.bit (A.NI_PORT_STATUS p) F.NI_PORT_STATUS_PWR_UP &&
    (s.glb.notePast.getD (if pclkEdge s.datum then 7 else 8) []).contains (4 * p + line)

/-- What the lines of a cycle ask for is kept for the outputs that follow them (R298). -/
def State.keepLines (s : State) : State :=
  { s with glb := { s.glb with irqPast := (s.irqNow :: s.glb.irqPast).take 4
                               notePast := (s.noteNow :: s.glb.notePast).take 9 } }

/-! ### Captures and trouble counters (R293, R294) -/

/-- NI_TROUBLE0 and NI_TROUBLE1 by code; EXNACK and RETRY_PWR are counted elsewhere (R294). -/
def State.trouble (s : State) (p : Nat) (c : BitVec 4) : State :=
  if c = Code.TGTERR then s.sat (A.NI_TROUBLE0 p) F.NI_TROUBLE0_TGTERR
  else if c = Code.DEAD then s.sat (A.NI_TROUBLE0 p) F.NI_TROUBLE0_DEAD
  else if c = Code.PDOWN then s.sat (A.NI_TROUBLE0 p) F.NI_TROUBLE0_PDOWN
  else if c = Code.NOROUTE then s.sat (A.NI_TROUBLE0 p) F.NI_TROUBLE0_NOROUTE
  else if c = Code.CRC then s.sat (A.NI_TROUBLE1 p) F.NI_TROUBLE1_CRC
  else if c = Code.TIMEOUT then s.sat (A.NI_TROUBLE1 p) F.NI_TROUBLE1_TIMEOUT
  else if c = Code.DENY then s.sat (A.NI_TROUBLE1 p) F.NI_TROUBLE1_DENY
  else if c = Code.LATE then s.sat (A.NI_TROUBLE1 p) F.NI_TROUBLE1_LATE
  else s

/-- What a capture records (R293): code, posted or not, command, tag, peer, address and the block that answered. -/
structure CapInfo where
  code : BitVec 4
  posted : Bool
  cmd : BitVec 6
  tag : Nat
  peer : Gid
  addr : Nat
  by' : Nat := 0
  deriving DecidableEq, Repr

/-- Fields of a capture register. -/
def CapInfo.word (c : CapInfo) : Word :=
  BitVec.ofNat 64 (c.code.toNat + 16 + (if c.posted then 32 else 0) + c.cmd.toNat * 2 ^ 6 + (c.tag % 4096) * 2 ^ 12
    + c.peer.toNat * 2 ^ 24 + c.by' * 2 ^ 42)

/-- R293: the initiator capture takes an ending, unless it holds one. -/
def State.icap (s : State) (p : Nat) (c : CapInfo) : State :=
  if s.bit (A.NI_ERR_ICAP_INFO p) F.NI_ERR_ICAP_INFO_VALID then s
  else (((s.wr (A.NI_ERR_ICAP_INFO p) c.word).wr (A.NI_ERR_ICAP_ADDR p) (BitVec.ofNat 64 c.addr)).wr
    (A.NI_ERR_ICAP_TIME p) (BitVec.ofNat 64 (s.nowOf p))).niCause p 5

/-- R293: the target capture takes a packet the NI itself answers non-OK or discards, unless it holds one. -/
def State.tcap (s : State) (p : Nat) (c : CapInfo) : State :=
  if s.bit (A.NI_ERR_TCAP_INFO p) F.NI_ERR_TCAP_INFO_VALID then s
  else (((s.wr (A.NI_ERR_TCAP_INFO p) c.word).wr (A.NI_ERR_TCAP_ADDR p) (BitVec.ofNat 64 c.addr)).wr
    (A.NI_ERR_TCAP_TIME p) (BitVec.ofNat 64 (s.nowOf p))).niCause p 6

/-- The target capture of a packet (R293). -/
def State.tcapPkt (s : State) (p : Nat) (code : BitVec 4) (h : Hdr) : State :=
  s.tcap p { code := code, posted := Cmd.isPosted h.cmd, cmd := h.cmd, tag := h.tag.toNat, peer := h.src,
             addr := h.address.toNat }

/-! ### Privilege (R8, R9, R44) -/

/-- R44: the privilege a target gives a packet: 3 only with SRC port 240, else taken as P0. -/
def effPriv (src : Gid) (priv : BitVec 2) : Nat :=
  if priv = 3 ∧ gidPort src ≠ 240 then 0 else priv.toNat

/-- The writer is the FMP: PRIV 3 and SRC port 240 (R441). -/
def isFmp (r : Req) : Bool := r.priv = 3 && gidPort r.src = 240

/-! ### Routes and path of agents and the global block -/

/-- Station of the block that a destination key names (R76, R183). -/
def stationOfKey (d : Nat) : Option Nat :=
  if d < 144 then some (d / 4)
  else if d < 156 then some (stationOfFed (d - 144))
  else if 160 ≤ d ∧ d < 196 then some (d - 160)
  else if d = 240 then some 21
  else none

/-- Port of that station at which the key's block is attached (R76). -/
def portOfKey (d : Nat) : Nat :=
  if d < 144 then 6 + d % 4 else if d < 156 then 11 else 10

/-- R67: destination key of a global ID; none when the federation map names no port. -/
def State.destKey (s : State) (d : Gid) : Option Nat :=
  if gidInst d = s.instance' then some (gidPort d)
  else
    let a := A.GLB_FED_MAP (gidInst d)
    if s.bit a F.GLB_FED_MAP_VALID then some (144 + s.fld a F.GLB_FED_MAP_PORT) else none

/-- Per-port state of a station. -/
def StnSt.port (x : StnSt) (i : Nat) : PortSt := tget {} x.ports i
def StnSt.setPort (x : StnSt) (i : Nat) (v : PortSt) : StnSt := { x with ports := tset {} x.ports i v }
def StnSt.modPort (x : StnSt) (i : Nat) (f : PortSt → PortSt) : StnSt := x.setPort i (f (x.port i))
/-- Input VC buffer of a station. -/
def StnSt.vc (x : StnSt) (i v : Nat) : InVc := tget {} x.vcs (8 * i + v)
def StnSt.setVc (x : StnSt) (i v : Nat) (b : InVc) : StnSt := { x with vcs := tset {} x.vcs (8 * i + v) b }
/-- Output VC of a station. -/
def StnSt.ovc (x : StnSt) (o v : Nat) : OutVc := tget {} x.outs (8 * o + v)
def StnSt.setOvc (x : StnSt) (o v : Nat) (b : OutVc) : StnSt := { x with outs := tset {} x.outs (8 * o + v) b }

/-- A link's contents in the order of their arrival. -/
def insertWire (w : InFlight) : List InFlight → List InFlight
  | [] => [w]
  | x :: xs => if w.due < x.due then w :: x :: xs else x :: insertWire w xs

/-- Content put on the link into input `i` of station `st`, launched in cycle `lau` and there at datum `due`. -/
def State.putWire (s : State) (st i : Nat) (w : Wire) (lau due : Nat) : State :=
  s.modStn st (fun x => x.modPort i (fun q => { q with wire := insertWire ⟨w, due, lau⟩ q.wire }))

/-- Content that a local unit drives into input `i` of station `st` in cycle `t`. -/
def State.sendWire (s : State) (st i : Nat) (w : Wire) (t : Nat) : State := s.putWire st i w t t

/-! ### Reporters (R81 to R83, R448) -/

/-- Traverse control register of a block that builds packets, by block index. -/
def travCtlOf (b : Nat) : Nat :=
  if b < 144 then A.NI_TRAV_CTL b else if b < 156 then A.FED_TRAV_CTL (b - 144) else A.GLB_TRAV_CTL
/-- Drain count register of a reporter. -/
def travStatOf (b : Nat) : Nat :=
  if b < 144 then A.NI_TRAV_STATUS b else if b < 156 then A.FED_TRAV_STATUS (b - 144) else A.GLB_TRAV_STATUS
/-- Drain state register of a reporter. -/
def travDrainOf (b : Nat) : Nat :=
  if b < 144 then A.NI_TRAV_DRAIN b else if b < 156 then A.FED_TRAV_DRAIN (b - 144) else A.GLB_TRAV_DRAIN

/-- Current traverse of a reporter (R71). -/
def State.curTrav (s : State) (b : Nat) : Nat := s.fld (travCtlOf b) F.NI_TRAV_CTL_CUR

/-- OUT[t] raised by `n` (R81). -/
def State.outAdd (s : State) (b t : Nat) (n : Nat := 1) : State := s.sat (travStatOf b) ⟨16 * t, 16⟩ n

/-- OUT[t] lowered by 1; DRAINED sets when the draining traverse reaches 0 (R83). -/
def State.outDone (s : State) (b t : Nat) : State :=
  let s := s.down (travStatOf b) ⟨16 * t, 16⟩
  let d := travDrainOf b
  if s.fld (travStatOf b) ⟨16 * t, 16⟩ = 0 ∧ s.fld d F.NI_TRAV_DRAIN_LAST_OLD = t ∧ t ≠ s.curTrav b then
    s.setFld d F.NI_TRAV_DRAIN_DRAINED 1
  else s

/-! ### The stake controller's sets and its sequencer (R128, R131, R141) -/

/-! Passes by the CMD that they write (R131). -/
namespace PassCmd
abbrev COLLECT : Nat := 1
abbrev EXPECT : Nat := 2
abbrev ABORT : Nat := 3
abbrev RELEASE : Nat := 4
end PassCmd

/-! Controller states (R128). -/
namespace SetSt
abbrev IDLE : Nat := 0
abbrev OPENING : Nat := 1
abbrev OPEN : Nat := 2
abbrev CLOSING : Nat := 3
abbrev WAITING : Nat := 4
abbrev COMMITTED : Nat := 5
abbrev APPLYING : Nat := 6
abbrev ABORTING : Nat := 7
end SetSt

/-- A pass is requested in this cycle. -/
def State.reqPass (s : State) (n cmd : Nat) : State :=
  { s with stk := { s.stk with reqs := s.stk.reqs ++ [PassReq.mk n cmd s.datum] } }

/-- State of set `n` (R128). -/
def State.setSt (s : State) (n : Nat) : Nat := s.fld (A.STK_SET_STATUS n) F.STK_SET_STATUS_STATE

/-- The controller state of a set written, in its register and in STK_SUMMARY. -/
def State.toSet (s : State) (n v : Nat) : State :=
  (s.setFld (A.STK_SET_STATUS n) F.STK_SET_STATUS_STATE v).setFld A.STK_SUMMARY ⟨4 * n, 4⟩ v

/-- What the controller holds of a set beside its registers. -/
def State.sset (s : State) (n : Nat) : StkSet := tget {} s.stk.sets n
def State.modSet (s : State) (n : Nat) (f : StkSet → StkSet) : State :=
  { s with stk := { s.stk with sets := tset {} s.stk.sets n (f (s.sset n)) } }

/-- R141: a set is aborted for a reason. -/
def State.abortSet (s : State) (n reason : Nat) : State :=
  ((s.toSet n SetSt.ABORTING).modSet n (fun x => { x with reason := reason, passed := false })).reqPass n PassCmd.ABORT

/-- R131: a write of a pass has failed: in an open or close pass the set aborts at once with reason SEQ, in an abort or
release pass SEQ_ERR sets. -/
def State.seqFail (s : State) (n cmd : Nat) : State :=
  if cmd = PassCmd.COLLECT then (if s.setSt n = SetSt.OPENING then s.abortSet n 5 else s)
  else if cmd = PassCmd.EXPECT then (if s.setSt n = SetSt.CLOSING then s.abortSet n 5 else s)
  else s.setFld (A.STK_SET_STATUS n) F.STK_SET_STATUS_SEQ_ERR 1

/-- R131, R441: the answer to the sequencer's write of block `b` has reached the global block. -/
def State.seqAnswer (s : State) (b : Nat) (ok : Bool) : State :=
  match s.stk.pass with
  | none => s
  | some q =>
    match q.waits.find? (fun w => w.blk = b) with
    | none => s
    | some w =>
      let s := { s with stk := { s.stk with pass := some { q with waits := q.waits.erase w } } }.outDone 192 w.trav
      if ok then s else s.seqFail q.set q.cmd

/-! ### Agents: their local links, and the packets they build (R52, R53, R72) -/

def State.agent (s : State) (b : Nat) : Agent := Store.get (fun _ => {}) s.agents b
def State.setAgent (s : State) (b : Nat) (x : Agent) : State :=
  { s with agents := Store.set (fun _ => {}) s.agents b x }
def State.modAgent (s : State) (b : Nat) (f : Agent → Agent) : State := s.setAgent b (f (s.agent b))

/-- Station and input port of the agent of block `b` (R34). -/
def agentPort (b : Nat) : Nat × Nat := if b < 156 then (stationOfFed (b - 144), 11) else (b - 156, 10)

/-- Port value of the agent of block `b` (R34, R67). -/
def agentKey (b : Nat) : Nat := if b < 156 then b else b + 4

/-- The agent's current traverse (R71, R84). -/
def State.agentTrav (s : State) (b : Nat) : Nat :=
  if b < 156 then s.fld (A.FED_TRAV_CTL (b - 144)) F.NI_TRAV_CTL_CUR else s.fld (A.STN_TRAV_CTL (b - 156)) F.STN_TRAV_CTL_CUR

/-- The X-then-Y torus route from station `o` to the block of key `d`, ejection included (R403). -/
def xyRoute (o d : Nat) : BitVec 64 :=
  match stationOfKey d with
  | none => 0
  | some t =>
    let dx := (t % 6 + 6 - o % 6) % 6
    let dy := (t / 6 + 6 - o / 6) % 6
    let xs := if dx ≤ 3 then List.replicate dx 0 else List.replicate (6 - dx) 1
    let ys := if dy ≤ 3 then List.replicate dy 2 else List.replicate (6 - dy) 3
    BitVec.ofNat 64 (((xs ++ ys ++ [portOfKey d]).zipIdx.map (fun e => e.1 * 16 ^ e.2)).sum)

/-- The packet counts as built and not yet injected (R81 item 1) until its tail is driven: every packet but a fill and the
barriers of an agent's own, which count until they end. -/
def TxPkt.counted (t : TxPkt) : Bool :=
  !t.fill &&
  (match t.use with
   | .answer => !Cmd.isNonPosted t.hdr.cmd
   | .forward => true
   | _ => false)

/-- A packet built joins those the agent of block `b` drives, whole and in order (R75). -/
def State.agentQueue (s : State) (b : Nat) (p : Pkt) (use : AgentUse := .answer) (key : Nat := 0) (fill : Bool := false) :
    State :=
  s.modAgent b (fun x => { x with q := x.q ++
    [{ fill := fill, use := use, hdr := p.h, key := key, left := p.flits (vcTypeOf p.h.cmd).vcA }] })

/-- The route fill of an agent for destination key `d` in traverse `t` (R71, R72): a configuration read of the table entry,
with the agent's traverse at its own build. An agent has no home route register: it takes the X-then-Y torus route, and
the number of the fill as TAG (DESIGN CHOICE, log 70). -/
def State.agentFill (s : State) (b t d : Nat) : State :=
  let x := s.agent b
  let n := (x.fillNo + 1) % 4096
  let key := agentKey b
  let h : Hdr := { route := xyRoute (agentPort b).1 240, trav := BitVec.ofNat 2 (s.agentTrav b), dest := s.gid 240,
                   src := s.gid key, cmd := Cmd.CRD, cls := 7, tag := BitVec.ofNat 12 n, bcount := 8,
                   address := BitVec.ofNat 64 (routeAddr t key d), stamp := BitVec.ofNat 32 (s.nowOf b) }
  let s := if b < 156 then s.outAdd b (s.agentTrav b) else s
  s.setAgent b { x with fillNo := n, fillTrav := s.agentTrav b, issued := none, rsp := none, fill := some (Pkt.seal h []) }

/-- An agent's fill has ended; a federation agent's drain count falls (R81). -/
def State.agentFillEnd (s : State) (b : Nat) : State :=
  let x := s.agent b
  let s := s.setAgent b { x with cur := none, issued := none, rsp := none, fill := none }
  if b < 156 then s.outDone b x.fillTrav else s

/-- Table bit of the station of key `d` in the agent's mask (R403 step 6). -/
def State.fedTable (s : State) (f d : Nat) : Bool :=
  (s.fld (A.FED_FWD_MASK f) F.FED_FWD_MASK_TABLE).testBit ((stationOfKey d).getD 0)

/-- R82: a federation agent's posted bit sets when it builds a WRP, WRM or SPUT. -/
def State.fedMark (s : State) (b t d : Nat) (cmd : BitVec 6) : State :=
  if b < 156 ∧ (cmd = Cmd.WRP ∨ cmd = Cmd.WRM ∨ cmd = Cmd.SPUT) then
    s.modFed (b - 144) (fun x => { x with posted := tset false x.posted (256 * t + d) true })
  else s

/-- The agent of block `b` builds its next packet (R71): in its current traverse, a drain barrier in that of its drain, and
with a route read from the table, for which it waits (R72: one fill at a time), or computed (R403 step 6). What it builds
counts under R81. A station agent's packet has PRIV 0: the spec gives an agent no port privilege (DESIGN CHOICE, log
70). -/
def State.agentPump (s : State) (b : Nat) : Nat → State
  | 0 => s
  | n + 1 =>
    let x := s.agent b
    match x.cur, x.todo with
    | none, o :: rest =>
      let s := s.setAgent b { x with todo := rest }
      match s.destKey o.pkt.h.dest with
      | none => s.agentPump b n
      | some d =>
        let t := match o.use with
          | .drain _ c => c
          | _ => s.agentTrav b
        let h := { o.pkt.h with trav := BitVec.ofNat 2 t }
        let h := match o.use with
          | .forward => h
          | _ => { h with stamp := BitVec.ofNat 32 (s.nowOf b) }
        let s := match o.use with
          | .drain _ _ => s
          | _ => if b < 156 then s.outAdd b t else s
        let s := match o.use with
          | .forward => s.fedMark b t d h.cmd
          | _ => s
        if o.use = .forward && !s.fedTable (b - 144) d then
          (s.agentQueue b (Pkt.seal { h with route := xyRoute (agentPort b).1 d } o.pkt.units) o.use d).agentPump b n
        else (s.modAgent b (fun x => { x with cur := some { o with pkt := { o.pkt with h := h } } })).agentFill b t d
    | _, _ => s

/-- A packet is handed to the agent of block `b` to be built (R71, R72). -/
def State.agentBuild (s : State) (b : Nat) (o : AgentPkt) : State :=
  let s := s.modAgent b (fun x => { x with todo := x.todo ++ [o] })
  s.agentPump b (s.agent b).todo.length

/-- A packet of the global block (source key 240) enters the network through port M of station 21 (R34), by the
table's route in the global block's current traverse; without a route it is discarded (R73). A request counts under R81
where it is issued, any other packet from here until its tail is driven. -/
def State.glbSend (s : State) (h : Hdr) (us : List (BitVec 256)) : State :=
  let t := s.fld A.GLB_TRAV_CTL F.NI_TRAV_CTL_CUR
  match s.destKey h.dest with
  | none => s
  | some d =>
    let r := s.routeAt t 240 d
    if noRoute r then s
    else (if Cmd.isNonPosted h.cmd then s else s.outAdd 192 t).agentQueue (stnBlk 21)
      (Pkt.seal { h with route := r, trav := BitVec.ofNat 2 t, src := s.gid 240, priv := 3,
                         stamp := BitVec.ofNat 32 s.datum } us)

/-- A response of the agent of station `i`, built with a route that the agent fetches for it (R72). -/
def State.agentSend (s : State) (i : Nat) (h : Hdr) (us : List (BitVec 256)) : State :=
  s.agentBuild (stnBlk i) { pkt := { h := { h with src := s.gid (160 + i), priv := 0 }, units := us } }

/-! ### Answers to configuration accesses (R439, R441) -/

/-- Which agent serves an offset (R437): none for the global block. -/
def agentOf (a : Nat) : Option Nat :=
  match blkOf a with
  | some (.stn i, _) => some i
  | some (.ni p, _) => some (p / 4)
  | some (.fed f, _) => some (stationOfFed f)
  | _ => none

/-- R187, R452: barriers waiting at an agent or the global block with no earlier request from the same source. -/
def readyBars (l : List Pkt) : List Pkt :=
  l.filter (fun q => q.h.cmd = 0x08 && (l.takeWhile (· ≠ q)).all (fun x => x.h.src ≠ q.h.src))

/-- The BRR OK of a barrier. -/
def brrOf (q : Hdr) : Hdr :=
  { dest := q.src, cmd := 0x34, cls := q.cls, tag := q.tag, region := q.region, bcount := q.bcount, address := q.address }

/-- R452: the agent of station `i` answers the barriers whose turn has come. -/
def State.agentBars (s : State) (i : Nat) : State :=
  let bs := readyBars (s.stn i).agentRx
  bs.foldl (fun s q => s.agentSend i (brrOf q.h) [])
    (s.modStn i (fun x => { x with agentRx := x.agentRx.filter (fun q => !bs.contains q) }))

/-- R187: the global block answers the barriers whose turn has come. -/
def State.glbBars (s : State) : State :=
  let bs := readyBars s.glb.rx
  bs.foldl (fun s q => s.glbSend (brrOf q.h) [])
    { s with glb := { s.glb with rx := s.glb.rx.filter (fun q => !bs.contains q) } }

/-- The CWA or CRR of an access served at offset `a`, sent from the serving block; the FMP reaches the global block
directly (R441), and what such an access gave is recorded. -/
def State.answer (s : State) (a : Nat) (r : Req) (read : Bool) (st : BitVec 4) (v : Word) : State :=
  let h : Hdr := { dest := r.src, cmd := if read then Cmd.CRR else Cmd.CWA, cls := 7, tag := r.tag, region := r.region,
                   status := st, bcount := 8, address := BitVec.ofNat 64 a }
  let us : List (BitVec 256) :=
    if read && st = Code.OK then [BitVec.ofNat 256 (v.toNat * 2 ^ (8 * (a % 32)))] else []
  match agentOf a with
  | some i =>
    let s := s.modStn i (fun x => { x with agentRx := x.agentRx.filter (fun q =>
      !(q.h.src = r.src && q.h.tag = r.tag && q.h.address = BitVec.ofNat 64 a && q.h.cmd = (if read then Cmd.CRD else Cmd.CWR))) })
    { (s.agentSend i h us).agentBars i with direct := (st, v) }
  | none =>
    let s := { s with glb := { s.glb with rx := s.glb.rx.filter (fun q =>
      !(q.h.src = r.src && q.h.tag = r.tag && q.h.address = BitVec.ofNat 64 a && q.h.cmd = (if read then Cmd.CRD else Cmd.CWR))) } }
    let s := s.gcnt (if read then 5 else 6)
    if isFmp r then { s with direct := (st, v) } else { (s.glbSend h us).glbBars with direct := (st, v) }

/-- R9: the requesting NI's first-error capture of an access answered DENY for privilege: the capture is taken when
the answer reaches that NI as a non-OK response. -/
def State.ans (s : State) (a : Nat) (r : Req) (st : BitVec 4) : State := s.answer a r false st 0

end Sys2Proof.Machine
end

