-- ==== Sys2Proof/Machine/Observe.lean ====
section
/-!
DEFINITION. Machine/Observe.lean: probes (R320, R321), tagging (R322) and trace records (R323 to R326): what the other
families do when a packet passes one of their observation points.
-/
namespace Sys2Proof.Machine

/-- R325: words 2 and 3 of a record, the packet's fields. -/
def traceOf (kind site inp out vc wait : Nat) (datum : Nat) (h : Hdr) (fail : Bool) : TraceRec where
  w0 := BitVec.ofNat 64 (kind + site * 2 ^ 4 + inp * 2 ^ 12 + out * 2 ^ 16 + vc * 2 ^ 20 + min wait 65535 * 2 ^ 24)
  w1 := BitVec.ofNat 64 datum
  w2 := BitVec.ofNat 64 (h.src.toNat + h.dest.toNat * 2 ^ 18 + h.tag.toNat * 2 ^ 36 + h.cmd.toNat * 2 ^ 48
          + h.cls.toNat * 2 ^ 54 + h.len.toNat * 2 ^ 57 + h.trav.toNat * 2 ^ 62)
  w3 := BitVec.ofNat 64 (h.stamp.toNat + h.hopptr.toNat * 2 ^ 32 + h.status.toNat * 2 ^ 36
          + (if fail then 2 ^ 40 else 0))

/-- A record dropped (R326). -/
def State.traceDrop (s : State) : State :=
  (s.sat A.SRV_TRACE_STATUS F.SRV_TRACE_STATUS_DROPS).gcnt 49

/-- R326: a record joins the trace queue of station `st`, which it shares with its NIs; none is made while EN is 0. -/
def State.trace (s : State) (st : Nat) (r : TraceRec) : State :=
  if !s.bit A.SRV_TRACE_CTL F.SRV_TRACE_CTL_EN then s
  else if 8 ≤ (s.stn st).traceQ.length then s.traceDrop
  else s.modStn st (fun x => { x with traceQ := x.traceQ ++ [r] })

/-- R320: every enabled field of a filter matches the header. -/
def probeMatch (flt : Word) (h : Hdr) : Bool :=
  let on (f : Fld) : Bool := f.get flt ≠ 0
  (!on F.NI_PROBE_FILTER_CMD_EN || F.NI_PROBE_FILTER_CMD.get flt = h.cmd.toNat) &&
  (!on F.NI_PROBE_FILTER_CLASS_EN || F.NI_PROBE_FILTER_CLASS.get flt = h.cls.toNat) &&
  (!on F.NI_PROBE_FILTER_TRAV_EN || F.NI_PROBE_FILTER_TRAV.get flt = h.trav.toNat) &&
  (!on F.NI_PROBE_FILTER_ERR || h.status ≠ 0) &&
  (!on F.NI_PROBE_FILTER_TAGGED || h.tagged = 1) &&
  (!on F.NI_PROBE_FILTER_SRC_EN || F.NI_PROBE_FILTER_SRC.get flt = h.src.toNat) &&
  (!on F.NI_PROBE_FILTER_DEST_EN || F.NI_PROBE_FILTER_DEST.get flt = h.dest.toNat)

/-- R320, R321: a probe examines a packet at a point it watches. `cfg` gives the block's filter, action and status
registers, `n` the matches counted since the last configuration write. Answers the new count of matches and whether
the probe fires. -/
def probeStep (s : State) (filter action status : Nat) (n : Nat) (h : Hdr) : State × Nat × Bool :=
  let act := s.rd action
  if F.NI_PROBE_ACTION_EN.get act = 0 || s.bit status F.NI_PROBE_STATUS_SPENT || !probeMatch (s.rd filter) h then
    (s, n, false)
  else
    let s := s.sat status F.NI_PROBE_STATUS_MATCHES
    if (n + 1) % (F.NI_PROBE_ACTION_PRESCALE.get act + 1) ≠ 0 then (s, n + 1, false)
    else
      let s := (s.sat status F.NI_PROBE_STATUS_FIRES).gcnt 46
      let s := if F.NI_PROBE_ACTION_ONCE.get act = 0 then s else s.setFld status F.NI_PROBE_STATUS_SPENT 1
      (s, n + 1, true)

/-- R321: the record of a firing; with FREEZE it is the last one the store accepts. -/
def State.probeRecord (s : State) (action : Nat) (r : TraceRec) : TraceRec :=
  { r with keep := s.bit action F.NI_PROBE_ACTION_FREEZE && !s.bit A.SRV_TRACE_STATUS F.SRV_TRACE_STATUS_FROZEN }

/-- FREEZE of a firing (R321). -/
def State.probeFreeze (s : State) (action : Nat) : State :=
  if s.bit action F.NI_PROBE_ACTION_FREEZE then s.setFld A.SRV_TRACE_STATUS F.SRV_TRACE_STATUS_FROZEN 1 else s

/-- The probe of station `st` examines a head at BW on input `i`, VC `v` (R320). -/
def State.probeStn (s : State) (st i v : Nat) (h : Hdr) : State :=
  let pt := s.fld (A.STN_PROBE_FILTER st) F.STN_PROBE_FILTER_POINT
  if pt = i || pt = 15 then
    match probeStep s (A.STN_PROBE_FILTER st) (A.STN_PROBE_ACTION st) (A.STN_PROBE_STATUS st) (s.stn st).probeN h with
    | (s, n, fire) =>
      let s := s.modStn st (fun x => { x with probeN := n })
      if !fire then s
      else
        let s := if s.bit (A.STN_PROBE_ACTION st) F.NI_PROBE_ACTION_TRACE then
          s.trace st (s.probeRecord (A.STN_PROBE_ACTION st) (traceOf 4 (stnBlk st) i 15 v 0 (s.nowOf (stnBlk st)) h false)) else s
        s.probeFreeze (A.STN_PROBE_ACTION st)
  else s

/-- The probe of port `p` examines a packet at its build point (`arrival` false) or arrival point (R320). Answers
whether a TAG action tags it (R321). -/
def State.probeNi (s : State) (p : Nat) (arrival : Bool) (v : Nat) (h : Hdr) (fail : Bool) : State × Bool :=
  let pt := s.fld (A.NI_PROBE_FILTER p) F.NI_PROBE_FILTER_POINT
  if pt = 2 || pt = (if arrival then 1 else 0) then
    match probeStep s (A.NI_PROBE_FILTER p) (A.NI_PROBE_ACTION p) (A.NI_PROBE_STATUS p) (s.ni p).probeN h with
    | (s, n, fire) =>
      let s := s.modNi p (fun x => { x with probeN := n })
      if !fire then (s, false)
      else
        let s := if s.bit (A.NI_PROBE_ACTION p) F.NI_PROBE_ACTION_TRACE then
          s.trace (p / 4) (s.probeRecord (A.NI_PROBE_ACTION p) (traceOf 4 p 15 15 v 0 (s.nowOf p) h fail)) else s
        (s.probeFreeze (A.NI_PROBE_ACTION p), !arrival && s.bit (A.NI_PROBE_ACTION p) F.NI_PROBE_ACTION_TAG)
  else (s, false)

/-- R322: one step of the sampling LFSR x^16 + x^14 + x^13 + x^11 + 1. -/
def lfsrStep (x : BitVec 16) : BitVec 16 :=
  let b := x.getLsbD 0 ^^ x.getLsbD 2 ^^ x.getLsbD 3 ^^ x.getLsbD 5
  (x >>> 1) ||| (if b then 0x8000#16 else 0#16)

/-- R322, R323: what happens to a packet at its build instant at port `p`: sampling on the class and response paths,
the probe, the TAGGED bit and the BUILD record. `sampled` says whether the path is one the sampler watches. -/
def State.buildPoint (s : State) (p : Nat) (sampled : Bool) (h : Hdr) : State × Hdr :=
  let (s, hit) :=
    if sampled then
      let x := lfsrStep (s.ni p).lfsr
      (s.modNi p (fun n => { n with lfsr := x }),
       decide (x.toNat < s.fld (A.NI_TAG_CTL p) F.NI_TAG_CTL_RATE))
    else (s, false)
  match s.probeNi p false (vcTypeOf h.cmd).vcA { h with tagged := if hit then 1 else 0 } false with
  | (s, tag) =>
    if hit || tag then
      let h := { h with tagged := 1 }
      let s := (s.sat (A.NI_TAG_STATUS p) F.NI_TAG_STATUS_TAGGED).gcnt 47
      (s.trace (p / 4) (traceOf 1 p 15 15 (vcTypeOf h.cmd).vcA 0 (s.nowOf p) h false), h)
    else (s, { h with tagged := 0 })

/-- R320, R323: what happens to a packet whose tail has arrived at port `p`. -/
def State.arrivePoint (s : State) (p v : Nat) (q : Pkt) : State :=
  let s := (s.probeNi p true v q.h q.fails).1
  if q.h.tagged = 1 then s.trace (p / 4) (traceOf 3 p 15 15 v 0 (s.nowOf p) q.h q.fails) else s

/-- R323: the HOP record of a tagged head that leaves on output `o` or is absorbed (`o` = 15) at station `st`. -/
def State.hopRecord (s : State) (st i v o wait bw : Nat) (h : Hdr) : State :=
  if h.tagged = 1 then s.trace st (traceOf 2 (stnBlk st) i o v wait bw h false) else s

end Sys2Proof.Machine
end

