-- ==== Sys2Proof/Machine/Station.lean ====
section
/-!
DEFINITION. Machine/Station.lean: stations: topology (R33, R34), lanes (R36), link errors and resynchronisation (R41,
R42), buffers and credits (R52 to R54), the pipeline stages BW, VA and SA (R55 to R61), routing checks (R62, R63), old
traverses (R84), absorption (R284, R285).
-/
namespace Sys2Proof.Machine

/-! ### Topology (R33, R34) -/

/-- The station that output `o` (0 to 5) of station `s` goes to. -/
def neighbour (s o : Nat) : Nat :=
  let x := s % 6
  let y := s / 6
  match o with
  | 0 => (x + 1) % 6 + 6 * y
  | 1 => (x + 5) % 6 + 6 * y
  | 2 => x + 6 * ((y + 1) % 6)
  | 3 => x + 6 * ((y + 5) % 6)
  | 4 => (x + 3) % 6 + 6 * y
  | _ => x + 6 * ((y + 3) % 6)

/-- The input of that station at which the flit arrives: the port that faces the sender. -/
def oppPort (o : Nat) : Nat :=
  match o with
  | 0 => 1
  | 1 => 0
  | 2 => 3
  | 3 => 2
  | o => o

/-- Wire delay of an output (R33, R53). -/
def wireDelay (o : Nat) : Nat := if o < 4 then 1 else if o < 6 then 2 else 0

/-- R52: depth of the buffer of VC `v` at input `i`. -/
def depth (i v : Nat) : Nat :=
  if i < 4 then (if v < 6 then 8 else if v = 6 then 4 else 0)
  else if i < 6 then (if v < 6 then 8 else 0)
  else if v = 0 ∨ v = 2 ∨ v = 4 ∨ v = 6 then 4 else 0

/-- Depth of the receiver beyond output `o` for VC `v` (R52). -/
def credDepth (o v : Nat) : Nat := depth (if o < 6 then oppPort o else o) v

/-! ### Link states (R36, R65, R360) -/
namespace LinkSt
abbrev DOWN : Nat := 0
abbrev TRAIN : Nat := 1
abbrev FULL : Nat := 2
abbrev HALF : Nat := 3
abbrev RESYNC : Nat := 4
abbrev RETIRED : Nat := 5
end LinkSt

/-- STATE of the receive direction of port `n` at station `s`. -/
def State.linkState (s : State) (st n : Nat) : Nat := s.fld (A.STN_LINK st n) F.STN_LINK_STATE


/-- The bits set in the low `n` bits of a number. -/
def popCount (n x : Nat) : Nat := ((List.range n).filter (fun j => x.testBit j)).length

/-- Good lanes of the receive direction `n` (R36). -/
def State.goodRx (s : State) (st n : Nat) : Nat := 22 - popCount 22 (s.fld (A.STN_LANE_RX st n) F.STN_LANE_RX_FAILED)

/-- R36: the state of a direction that is up, by its good lanes. -/
def stateOfGood (g : Nat) : Nat := if 20 ≤ g then LinkSt.FULL else if 10 ≤ g then LinkSt.HALF else LinkSt.RETIRED

/-- Good lanes of the direction that output `o` drives, as the transmitter holds them (R36). -/
def State.goodTx (s : State) (st o : Nat) : Nat := 22 - popCount 22 (s.fld (A.STN_LANE_TX st o) F.STN_LANE_TX_FAILED)

/-- The state of the direction that output `o` of station `s` drives: DOWN or TRAIN as its receiver shows it, otherwise by
the transmitter's own lanes, which it switches at T (R36); local outputs are always up. -/
def State.outState (s : State) (st o : Nat) : Nat :=
  if o < 6 then
    let x := s.linkState (neighbour st o) (oppPort o)
    if x = LinkSt.DOWN ∨ x = LinkSt.TRAIN then x else stateOfGood (s.goodTx st o)
  else LinkSt.FULL

/-- The direction driven by output `o` runs at half rate. -/
def State.halfOut (s : State) (st o : Nat) : Bool := o < 6 && s.outState st o = LinkSt.HALF

/-! ### Routing decisions (R62, R63) -/

/-- Dimension of a network port: 0 X, 1 Y. -/
def dimOf (o : Nat) : Nat := if o = 0 ∨ o = 1 ∨ o = 4 then 0 else 1

/-- R63: an express hop on output `o` moves down when the packet arrived on input E (XH) or N (XV). -/
def expressDown (i o : Nat) : Bool := (o = 4 && i = 0) || (o = 5 && i = 2)

/-- R63: the hop from station `s` on output `o`, arrived on input `i`, crosses the dateline of its dimension. -/
def crosses (s i o : Nat) : Bool :=
  let x := s % 6
  let y := s / 6
  match o with
  | 0 => x = 5
  | 1 => x = 0
  | 2 => y = 5
  | 3 => y = 0
  | 4 => if expressDown i o then x < 3 else 3 ≤ x
  | 5 => if expressDown i o then y < 3 else 3 ≤ y
  | _ => false

/-- R63: output VC of a head on input `i` with input VC `v` and output `o`. -/
def outVcOf (s i v o : Nat) : Nat :=
  if v = 6 then 6
  else
    let base := v / 2 * 2
    if 6 ≤ o then base
    else
      let same := i < 6 && dimOf i = dimOf o
      let b := if same then v % 2 else 0
      if crosses s i o then base + 1 else base + b

/-- What the walk of R62 case 8 and R76 knows of one dimension: the direction of its first hop (true: up) and the
displacement so far. -/
structure WalkDim where
  dir : Option Bool := none
  disp : Nat := 0
  deriving DecidableEq, Repr

/-- One network hop of the walk (R62 case 8): state of X and of Y, whether a Y hop has been taken, whether R64 is
broken. An express hop moves down when the hop before it in its dimension moved down by a torus port. -/
structure Walk where
  x : WalkDim := {}
  y : WalkDim := {}
  seenY : Bool := false
  prevX : Option Nat := none
  prevY : Option Nat := none
  toFar : Bool := false
  reverse : Bool := false
  yToX : Bool := false
  deriving DecidableEq, Repr

/-- The direction of a hop on port `o`, given the previous network port of its dimension (R62, R63). -/
def hopUp (o : Nat) (prev : Option Nat) : Bool :=
  match o with
  | 0 => true
  | 1 => false
  | 2 => true
  | 3 => false
  | 4 => prev ≠ some 1
  | _ => prev ≠ some 3

/-- One dimension after a hop. -/
def WalkDim.hop (d : WalkDim) (up : Bool) (len : Nat) : WalkDim × Bool :=
  match d.dir with
  | none => ({ dir := some up, disp := len }, false)
  | some u => ({ d with disp := d.disp + len }, u != up)

/-- The walk after a network hop on port `o`. -/
def Walk.hop (w : Walk) (o : Nat) : Walk :=
  let len := if o < 4 then 1 else 3
  if dimOf o = 0 then
    let (d, rev) := w.x.hop (hopUp o w.prevX) len
    { w with x := d, prevX := some o, yToX := w.yToX || w.seenY, reverse := w.reverse || rev,
             toFar := w.toFar || decide (5 < d.disp) }
  else
    let (d, rev) := w.y.hop (hopUp o w.prevY) len
    { w with y := d, prevY := some o, seenY := true, reverse := w.reverse || rev,
             toFar := w.toFar || decide (5 < d.disp) }

/-- The walk over hops 0 to `n` of a route, network hops only. -/
def walkTo (r : BitVec 64) (n : Nat) : Walk :=
  (List.range (n + 1)).foldl (fun w i => if hopOf r i < 6 then w.hop (hopOf r i) else w) {}

/-- R64 is broken. -/
def Walk.broken (w : Walk) : Bool := w.toFar || w.reverse || w.yToX

/-- R62: the case under which station `st` absorbs a head that arrived on input `i`, VC `v`; 0 for none. A head that meets
several cases is counted in the first of them (DESIGN CHOICE, log 69: R62 names no order). -/
def State.routeCase (s : State) (st i v : Nat) (h : Hdr) : Nat :=
  let p := h.hopptr.toNat
  let o := hopOf h.route p
  if 12 ≤ o ∨ (o = 11 ∧ fedOfStation st = none) then 1
  else if p = 15 ∧ o < 6 then 2
  else if (i = 2 ∨ i = 3 ∨ i = 5) ∧ (o = 0 ∨ o = 1 ∨ o = 4) then 3
  else if o = i ∧ o < 4 then 4
  else if o < 6 ∧ crosses st i o ∧ i < 6 ∧ dimOf i = dimOf o ∧ v % 2 = 1 ∧ v < 6 then 5
  else if o < 6 ∧ (s.outState st o = LinkSt.DOWN ∨ s.outState st o = LinkSt.RETIRED) then 6
  else if v = 6 ∧ (o = 4 ∨ o = 5) then 7
  else if o < 6 ∧ (walkTo h.route p).broken then 8
  else 0

/-- R65: the count of STN_ROUTE_ERR a case of R62 belongs to. -/
def routeErrField (c : Nat) : Fld :=
  if c ≤ 2 then F.STN_ROUTE_ERR_BADHOP else if c = 6 then F.STN_ROUTE_ERR_LINKDOWN else F.STN_ROUTE_ERR_TURN

/-! ### Absorption (R284, R285) -/

/-- R285: the owner acts on an absorbed header: a non-posted request joins the agent's NOROUTE queue, or is lost and
counted when 64 answers wait; any other packet is only counted. -/
def State.sinkAct (s : State) (st : Nat) (h : Option Hdr) : State :=
  match h with
  | none => s
  | some h =>
    if !Cmd.isNonPosted h.cmd then s
    else if 64 ≤ (s.stn st).nrq.length then (s.sat (A.STN_SINK st) F.STN_SINK_NR_LOST).stnCause st 6
    else
      let q := (s.stn st).nrq ++ [h]
      (s.modStn st (fun x => { x with nrq := q })).setFld (A.STN_SINK st) F.STN_SINK_NR_QUEUE q.length

/-- R53: the slot of VC `v` freed at input `i` in this cycle is returned on a flit launched in the next cycle or later; with
that a slot of a network link is reused 2w + 4 fclk after its flit was sent. A local unit decides in the cycle in which it
drives, two cycles after its own SA would stand, so the return to it is two cycles later. -/
def State.oweCredit (s : State) (st i v : Nat) : State :=
  s.modStn st (fun x => x.modPort i (fun q => { q with credQ := q.credQ ++ [(v, s.datum + if i < 6 then 1 else 3)] }))

/-- A credit comes back to output `o` of station `st` (R53). -/
def State.credit (s : State) (st o v : Nat) : State :=
  let f : Fld := ⟨4 * v, 4⟩
  s.setFld (A.STN_VC_CRED st o) f (min (s.fld (A.STN_VC_CRED st o) f + 1) (credDepth o v))

/-- Credits held by output `o` for VC `v`. -/
def State.creds (s : State) (st o v : Nat) : Nat := s.fld (A.STN_VC_CRED st o) ⟨4 * v, 4⟩

/-! ### Lanes (R359) -/

/-- The physical lanes of receive direction `n` in use (R36). -/
def State.lanesUsed (s : State) (st n : Nat) : List Nat := usedLanes (s.fld (A.STN_LANE_RX st n) F.STN_LANE_RX_FAILED)

/-- A lane out of use: an idle good lane, or one in the failed set or removed for test (R364). -/
def State.laneOut (s : State) (st n lane : Nat) : Bool := !(s.lanesUsed st n).contains lane

/-- R359, R361: a lane in use has lost lock: it never comes back, and the window of forced errors opens. -/
def State.lockLost (s : State) (st n lane : Nat) : State :=
  (s.modStn st (fun x => x.modPort n (fun q =>
    { q with hardWin := true, hard := if q.hard.contains lane then q.hard else q.hard ++ [lane] }))).setFld
      (A.END_LANE st n) ⟨22 + lane, 1⟩ 0

/-- R359, R360, R363: a lane of receive direction `n` fails; a lane already out of use is judged by BIST alone. One that has
failed SOFT and loses lock before its stake has applied is HARD from then on, the same failure. -/
def State.laneFail (s : State) (st n lane : Nat) (hard : Bool) : State :=
  let known (l : List LaneFail) : Bool := l.any (fun f => f.st = st && f.n = n && f.lane = lane)
  if s.laneOut st n lane then s
  else if known s.fmp.laneFails || (s.fmp.own7.map (fun o => known o.fails)).getD false then
    (if hard then s.lockLost st n lane else s)
  else
    let s := s.sat (A.END_LANE_TROUBLE st n) F.END_LANE_TROUBLE_FAILS
    let s := if hard then s.lockLost st n lane else s.setFld (A.END_LANE st n) ⟨22 + lane, 1⟩ 1
    { s with fmp := { s.fmp with laneFails := s.fmp.laneFails ++ [⟨st, n, lane⟩] } }

/-- R359 SOFT: one corrected bit error on a lane in the current window. -/
def State.laneSbe (s : State) (st n lane : Nat) : State :=
  if 6 ≤ n then s
  else
    let c := tget 0 ((s.stn st).port n).sbe lane + 1
    let s := s.modStn st (fun x => x.modPort n (fun q => { q with sbe := tset 0 q.sbe lane c }))
    let a := A.END_LANE st n
    let s := s.setFld a F.END_LANE_WORST_SBE (max (s.fld a F.END_LANE_WORST_SBE) (min c 255))
    if s.fld A.END_CFG F.END_CFG_SBE_LIMIT < c then s.laneFail st n lane false else s

/-! ### BW: reception (R40, R41, R55, R62, R84) -/

/-- Heads held at a station now (R88). -/
def StnSt.holding (x : StnSt) : Nat :=
  (x.vcs.map (fun e => (e.2.buf.filter (·.held)).length)).sum

/-- A flit of an absorbed packet passes into the sink; at its TAIL the owner acts (R284). -/
def State.sinkFlit (s : State) (st i v : Nat) (h : Option Hdr) (tail : Bool) : State :=
  let s := s.oweCredit st i v
  let b := (s.stn st).vc i v
  if tail then
    (s.modStn st (fun x => x.setVc i v { b with absorb := none, opened := false })).sinkAct st h
  else s.modStn st (fun x => x.setVc i v { b with absorb := some h, opened := true })

/-- R62, R84: the judgement of a head: proceed to an output and output VC, be held, or be absorbed. -/
inductive HeadFate where
  | go (out ovc : Nat)
  | hold
  | stray
  | bad (case : Nat)
  deriving DecidableEq, Repr

/-- R62 as a fate. -/
def State.routeFate (s : State) (st i v : Nat) (h : Hdr) : HeadFate :=
  match s.routeCase st i v h with
  | 0 => .go (hopOf h.route h.hopptr.toNat) (outVcOf st i v (hopOf h.route h.hopptr.toNat))
  | c => .bad c

/-- R84 before R62. -/
def State.headFate (s : State) (st i v : Nat) (h : Hdr) : HeadFate :=
  let a := A.STN_TRAV_CTL st
  if h.trav.toNat = s.fld a F.STN_TRAV_CTL_CUR then s.routeFate st i v h
  else if h.trav.toNat = s.fld a F.STN_TRAV_CTL_OLD ∧ s.bit a F.STN_TRAV_CTL_OLD_VALID then
    if s.bit a F.STN_TRAV_CTL_RECONF then .hold else s.routeFate st i v h
  else .stray

/-- Counts and cause of an absorption under R62 or R84. -/
def State.absorbCount (s : State) (st : Nat) : HeadFate → State
  | .bad c => ((s.sat (A.STN_ROUTE_ERR st) (routeErrField c)).stnCause st 4).scnt st 31
  | _ => ((s.sat (A.STN_TRAV_STATUS st) F.STN_TRAV_STATUS_STRAY).stnCause st 8).scnt st 31

/-- A flit written into the buffer of VC `v` of input `i`. -/
def State.bufWrite (s : State) (st i v : Nat) (b : BFlit) : State :=
  s.modStn st (fun x =>
    let c := x.vc i v
    x.setVc i v { c with buf := c.buf ++ [b], opened := !b.f.isTail })

/-- R42 step 3: the receiver ends a cut-off packet downstream with a poisoned TAIL. -/
def StnSt.endCut (x : StnSt) (i v now : Nat) : StnSt :=
  let b := x.vc i v
  if b.opened then
    let b := if b.absorb.isSome then { b with absorb := none, opened := false }
      else { b with buf := b.buf ++ [{ f := { ft := .tail, vc := v, poison := true, payload := 0 }, bw := now }],
                    opened := false }
    x.setVc i v b
  else x

/-- BW of a flit whose link codes leave it usable. Where a discarded flit was a packet's head, its other flits find no packet
open on their VC and pass into the sink; where it was a TAIL, the next head ends the packet still open (R42 step 3). -/
def State.bwFlit (s : State) (st i : Nat) (f : Flit) : State :=
  let v := f.vc
  let s := if f.isHead then s.modStn st (fun x => x.endCut i v s.datum) else s
  match ((s.stn st).vc i v).absorb with
  | some h => s.sinkFlit st i v h f.isTail
  | none =>
    if !f.isHead then
      if ((s.stn st).vc i v).opened then s.bufWrite st i v { f := f, bw := s.datum } else s.oweCredit st i v
    else
      let h := Hdr.ofBits f.payload
      let s := (s.probeStn st i v h).scnt st 29
      match s.headFate st i v h with
      | .go o w => s.bufWrite st i v { f := f, bw := s.datum, out := o, ovc := w }
      | .hold =>
        let s := (s.sat (A.STN_TRAV_STATUS st) F.STN_TRAV_STATUS_HELD).stnCause st 9
        let s := (s.bufWrite st i v { f := f, bw := s.datum, held := true }).scnt st 30
        s.setFld (A.STN_TRAV_STATUS st) F.STN_TRAV_STATUS_HOLDING (s.stn st).holding
      | fate =>
        ((s.absorbCount st fate).hopRecord st i v 15 0 (s.nowOf (stnBlk st)) h).sinkFlit st i v (some h) f.isTail

/-- An error that DECC cannot correct, counted (R40, R41). -/
def State.deccDueCount (s : State) (st i : Nat) : State :=
  (if i < 6 then s.sat (A.STN_LINK_ERR st i) F.STN_LINK_ERR_DECC_DUE else s).scnt st 33

/-- R41: a flit whose payload error cannot be corrected: a head is absorbed without an answer, a later flit is marked
POISON and forwarded with the bits as received. -/
def State.dueFlit (s : State) (st i : Nat) (f : Flit) (payload : BitVec 256) (side : BitVec 36) : State :=
  let v := f.vc
  let s := (s.deccDueCount st i).stnCause st 2
  if f.isHead then
    let s := s.modStn st (fun x => x.endCut i v s.datum)
    match ((s.stn st).vc i v).absorb with
    | some h => s.sinkFlit st i v h f.isTail
    | none =>
      (((s.sat (A.STN_ROUTE_ERR st) F.STN_ROUTE_ERR_HDR_DUE).stnCause st 3).scnt st 31).sinkFlit st i v none f.isTail
  else s.bwFlit st i { f with poison := true, payload := payload, e2e := side.extractLsb' 0 32, rsv := side.extractLsb' 32 4 }

/-- R42: an uncorrectable CECC error: the flit is discarded and the direction is to be resynchronised. -/
def State.ceccDue (s : State) (st i : Nat) : State :=
  let s := (if i < 6 then s.sat (A.STN_LINK_ERR st i) F.STN_LINK_ERR_CECC_DUE else s).scnt st 33
  if i < 6 then s.modStn st (fun x => x.modPort i (fun q => { q with syncWanted := true })) else s

/-- R38: a bit of a flit that CECC covers or holds: sideband [7:0], [47:44] and [53:48]. -/
def inCecc (b : Nat) : Bool := (256 ≤ b && b < 264) || (300 ≤ b && b < 310)

/-- A single-bit error on bit `b` of a flit, corrected (for a G flit: found, R40) and counted, with the lane that carried
the bit (R36, R359). -/
def State.corrected (s : State) (st i b : Nat) : State :=
  let f := if inCecc b then F.STN_LINK_ERR_CECC_SBE else F.STN_LINK_ERR_DECC_SBE
  if i < 6 then ((s.sat (A.STN_LINK_ERR st i) f).scnt st 32).laneSbe st i (laneOfBit (s.fld (A.STN_LANE_RX st i)
    F.STN_LANE_RX_FAILED) b)
  else s.scnt st 32

/-- The content at the front of the link into input `i`, if it has arrived. -/
def State.front (s : State) (st i : Nat) : Option Wire :=
  match ((s.stn st).port i).wire with
  | [] => none
  | w :: _ => if w.due ≤ s.datum then some w.w else none

/-- The front of the link taken off, as the input's flit of this cycle. -/
def State.popWire (s : State) (st i : Nat) : State :=
  s.modStn st (fun x => x.modPort i (fun q => { q with wire := q.wire.tail, rxAt := s.datum + 1 }))

/-- The input has taken no flit in this cycle. -/
def State.rxFree (s : State) (st i : Nat) : Bool := decide (((s.stn st).port i).rxAt ≤ s.datum)

/-- R53: the credit return that a received flit carries. -/
def State.takeCret (s : State) (st i : Nat) (w : Wire) : State :=
  match w.cret with
  | some v => s.credit st i v
  | none => s

/-- Room for one more flit in the buffer the front flit belongs to; an absorbed packet needs none. -/
def State.room (s : State) (st i : Nat) (f : Flit) : Bool :=
  let b := (s.stn st).vc i f.vc
  b.absorb.isSome || decide (b.buf.length < depth i f.vc)

/-- STN_PWR_STATUS.STATE of a station is ACTIVE. -/
def State.awake (s : State) (st : Nat) : Bool := s.fld (A.STN_PWR_STATUS st) F.STN_PWR_STATUS_STATE = 0

/-- Its link receivers and BW stage are clocked: ACTIVE, CLKGATE or RETAIN (R330). -/
def State.receives (s : State) (st : Nat) : Bool := s.fld (A.STN_PWR_STATUS st) F.STN_PWR_STATUS_STATE ≤ 2

/-- The receive direction of input `i` carries flits. -/
def State.rxUp (s : State) (st i : Nat) : Bool :=
  6 ≤ i || s.linkState st i = LinkSt.FULL || s.linkState st i = LinkSt.HALF || s.linkState st i = LinkSt.RESYNC

/-- The error a flit is taken to carry: in a HARD window every flit of the direction counts as uncorrectable (R361). -/
def State.forcedErr (s : State) (st i : Nat) (e : LinkErr) (payload : BitVec 256) (side : BitVec 36) : State × LinkErr :=
  if i < 6 && ((s.stn st).port i).hardWin then
    (s.sat (A.END_LANE_TROUBLE st i) F.END_LANE_TROUBLE_FORCED, .deccDue payload side)
  else (s, e)

/-- An IDLE flit has been taken: its errors are counted; nothing depends on its payload (R37, R40). -/
def State.idleErr (s : State) (st i : Nat) : LinkErr → State
  | .none => s
  | .sbe b => s.corrected st i b.val
  | .deccDue _ _ => s.deccDueCount st i
  | .ceccDue => s.ceccDue st i

/-- A best-effort flit has been taken with the outcome of its codes (R40 to R42). -/
def State.beErr (s : State) (st i : Nat) (f : Flit) : LinkErr → State
  | .none => s.bwFlit st i f
  | .sbe b => (s.corrected st i b.val).bwFlit st i f
  | .deccDue p x => s.dueFlit st i f p x
  | .ceccDue => s.ceccDue st i

/-- LINK_FLIT_RECEIVE (R40 to R42, R53, R55, R62, R84): the station takes the best-effort or idle flit that reaches input
`i` in this cycle. A cycle that brings nothing else brings an IDLE (R56), of which only its errors matter. Nothing happens
while the station sleeps or wakes from SLEEP, or while the flit's buffer has no room. -/
def execLinkFlitReceive (st : Fin 36) (i : Fin 12) (e : LinkErr) (s : State) : Out :=
  let st := st.val
  let i := i.val
  if !s.receives st || !s.rxUp st i || !s.rxFree st i then .next s
  else
    match s.front st i with
    | some w =>
      match w.content with
      | .idle =>
        let s := s.popWire st i
        .next ((if e = .ceccDue then s else s.takeCret st i w).idleErr st i e)
      | .be f =>
        if e = .ceccDue then .next ((s.popWire st i).ceccDue st i)
        else if !s.room st i f then .next s
        else
          match ((s.popWire st i).takeCret st i w).forcedErr st i e f.payload (f.rsv ++ f.e2e) with
          | (s, e) => .next (s.beErr st i f e)
      | _ => .next s
    | none =>
      if e = .none then .next s
      else .next ((s.modStn st (fun x => x.modPort i (fun q => { q with rxAt := s.datum + 1 }))).idleErr st i e)

/-! ### What an output carries (R28, R35, R56, R90 to R94) -/

/-- The active bank and length of the plat of output `o` (R89, R90). -/
def platOf (o : Nat) : Option Nat := if o < 10 then some o else if o = 11 then some 10 else none

/-- R90: length of a length code. -/
def platLen (code : Nat) : Nat := 64 * 2 ^ code

/-- Active bank of plat `n` at station `st`. -/
def State.platBank (s : State) (st n : Nat) : Nat := s.fld (A.STN_PLAT_CTL st n) F.STN_PLAT_CTL_BANK
/-- Length of bank `b` of plat `n`. -/
def State.bankLen (s : State) (st n b : Nat) : Nat :=
  platLen (s.fld (A.STN_PLAT_CTL st n) (if b = 0 then F.STN_PLAT_CTL_LEN0 else F.STN_PLAT_CTL_LEN1))

/-- R106, R107: the bank of plat `n` that is active in cycle `d` of the station's datum, now or in the few cycles that a
launch is decided ahead: a BANK shadow of a set that has been called takes effect at its T. -/
def State.bankAt (s : State) (st n d : Nat) : Nat :=
  match s.stk.shadows.find? (fun h => h.blk = stnBlk st && h.addr = A.STN_PLAT_CTL st n &&
      s.fld (A.STN_STK_SET st h.set) F.STN_STK_SET_STATE = 3 &&
      decide ((tget {} s.stk.blks (8 * stnBlk st + h.set)).t ≤ d)) with
  | some h => F.STN_PLAT_CTL_BANK.get h.val
  | none => s.platBank st n

/-- R28, R90, R107: the entry of output `o` in force in cycle `d` of the station's datum; FREE on output M. A pending patch
counts from its frame F on (R105). -/
def State.entryAt (s : State) (st o d : Nat) : Nat :=
  match platOf o with
  | some n =>
    let b := s.bankAt st n d
    let k := d % s.bankLen st n b
    match (s.stn st).patch with
    | some (m, j, e) =>
      if m = n ∧ j = k ∧ b = s.platBank st n ∧ (s.rd (A.STN_PLAT_PATCH_TIME st)).toNat ≤ d then e else s.platAt st n b k
    | none => s.platAt st n b k
  | none => 0x000F

/-- R91: IN of an entry. -/
def entryIn (e : Nat) : Nat := e % 16
/-- R91: CHK of an entry. -/
def entryChk (e : Nat) : Nat := e / 16

/-- Cycles that a flit of the output occupies: two at half rate (R36). -/
def State.span (s : State) (st o : Nat) : Nat := if s.halfOut st o then 2 else 1

/-- The link from output `o` of station `st` to its neighbour. -/
def State.linkOf (s : State) (st o : Nat) : List InFlight := ((s.stn (neighbour st o)).port (oppPort o)).wire

/-- The output's cycle `d` is taken by a G flit. -/
def State.gBusy (s : State) (st o d : Nat) : Bool :=
  (s.stn st).gout.any (fun g => g.1 = o && (g.2 = d || (s.halfOut st o && g.2 + 1 = d)))

/-- A flit launched on a network output occupies cycle `d`, or would overlap one launched in it. -/
def State.linkBusy (s : State) (st o d : Nat) : Bool :=
  o < 6 && (s.linkOf st o).any (fun f => decide (f.lau < d + s.span st o) && decide (d < f.lau + s.span st o))

/-- A flit is put on network output `o` to be launched in cycle `t`; at half rate the station beyond has a best-effort or
idle flit whole one cycle after its first half (R36). -/
def State.launch (s : State) (st o : Nat) (w : Wire) (t : Nat) : State :=
  let half := match w.content with
    | .g _ => 0
    | _ => s.span st o - 1
  s.putWire (neighbour st o) (oppPort o) w t (t + wireDelay o + half)

/-- The entry for parcel `d` of output `o` is GUARD: the output sends IDLE and lends nothing (R93). -/
def State.guardAt (s : State) (st o d : Nat) : Bool := entryIn (s.entryAt st o (s.nowOf (stnBlk st) + (d - s.datum))) = 0xE

/-- Best-effort content may start on output `o` in cycle `d`: no flit, no G flit and no GUARD parcel stands in the cycles it
would occupy. -/
def State.slotFree (s : State) (st o d : Nat) : Bool :=
  (List.range (s.span st o)).all (fun k => !s.gBusy st o (d + k) && !s.guardAt st o (d + k)) && !s.linkBusy st o d

/-- The first cycle from `d` on in which best-effort content may start. -/
def State.nextSlot (s : State) (st o : Nat) : Nat → Nat → Nat
  | 0, d => d
  | n + 1, d => if s.slotFree st o d then d else s.nextSlot st o n (d + 1)

/-- A flit of the output that no plat and no RESYNC launches. -/
def isBe : Content → Bool
  | .be _ => true
  | .idle => true
  | _ => false

/-- Best-effort and idle flits of output `o` launched in cycle `t` or later are put off to cycle `d` or later, in order. -/
def State.putOff (s : State) (st o t d : Nat) : State :=
  let mine (f : InFlight) : Bool := isBe f.w.content && decide (t ≤ f.lau)
  let late := (s.linkOf st o).filter mine
  let s := s.modStn (neighbour st o) (fun x => x.modPort (oppPort o) (fun q => { q with wire := q.wire.filter (fun f => !mine f) }))
  late.foldl (fun s f => s.launch st o f.w (s.nextSlot st o 1024 (max f.lau d))) s

/-! ### Resynchronisation (R42) -/

/-- RESYNC_SEND (R42 steps 1 and 3): in the next cycle in which the reverse direction carries no G flit the RESYNC takes the
output's cycle; best-effort flits already launched for it go in the next free cycles. Packets that have crossed in part
are ended downstream. -/
def execResyncSend (st : Fin 36) (n : Fin 6) (s : State) : Out :=
  let st := st.val
  let n := n.val
  if !((s.stn st).port n).syncWanted || (List.range (s.span st n)).any (fun k => s.gBusy st n (s.datum + k)) then .next s
  else
    let due := s.datum + wireDelay n + (s.span st n - 1)
    let s := s.modStn st (fun x => x.modPort n (fun q => { q with syncWanted := false, rxSync := some (due + 64) }))
    let s := s.modStn st (fun x => (List.range 7).foldl (fun x v => x.endCut n v s.datum) x)
    let s := (s.setFld (A.STN_LINK st n) F.STN_LINK_STATE LinkSt.RESYNC).stnCause st 1
    let late := (s.linkOf st n).filter (fun f => isBe f.w.content && decide (s.datum < f.lau + s.span st n))
    let s := s.modStn (neighbour st n) (fun x => x.modPort (oppPort n) (fun q =>
      { q with wire := q.wire.filter (fun f => !late.contains f) }))
    let s := s.launch st n ⟨.resync, none⟩ s.datum
    .next (late.foldl (fun s f => s.launch st n f.w (s.nextSlot st n 1024 (s.datum + s.span st n))) s)

/-- R42 step 3: the transmitter discards the rest of the packets that had crossed in part. `kept` are the VCs whose head has
won SA and is still to be launched: their packets have not crossed. -/
def StnSt.cutSender (x : StnSt) (o v : Nat) (kept : List Nat) : StnSt :=
  let ov := x.ovc o v
  match ov.holder with
  | some (i, w) => if ov.sent && !kept.contains v then
      let b := x.vc i w
      (x.setVc i w { b with cut := true, grant := none }).setOvc o v {}
    else x
  | none => x

/-- R42 step 3: a flit that is not sent, because its packet has crossed in part. -/
def cutOff (kept : List Nat) (f : InFlight) : Bool :=
  match f.w.content with
  | .be f => !kept.contains f.vc
  | _ => false

/-- RESYNC_RECEIVE (R42 steps 2 and 3): the RESYNC flit is taken off the link into input `n`; from this cycle output `n`
carries no best-effort flit for 64 fclk. Of the flits that have won SA and are not yet launched, those of packets that
have crossed in part are discarded, the others go after the 64 fclk. -/
def execResyncReceive (st : Fin 36) (n : Fin 6) (s : State) : Out :=
  let st := st.val
  let n := n.val
  match s.front st n with
  | some ⟨.resync, _⟩ =>
    let s := s.popWire st n
    let late := (s.linkOf st n).filter (fun f => isBe f.w.content && decide (s.datum ≤ f.lau))
    let kept := late.filterMap (fun f => match f.w.content with
      | .be f => if f.isHead then some f.vc else none
      | _ => none)
    let s := s.modStn (neighbour st n) (fun x => x.modPort (oppPort n) (fun q =>
      { q with wire := q.wire.filter (fun f => !(late.contains f && cutOff kept f)) }))
    let s := s.putOff st n s.datum (s.datum + 64)
    let s := s.modStn st (fun x => x.modPort n (fun q => { q with txSync := some (s.datum + 64) }))
    .next (s.modStn st (fun x => (List.range 7).foldl (fun x v => x.cutSender n v kept) x))
  | _ => .next s

/-- Full credits of output `o` (R52, R53). -/
def fullCreds (o : Nat) : Nat := ((List.range 7).map (fun v => credDepth o v * 2 ^ (4 * v))).sum

/-- RESYNC_END (R42 steps 3 and 4): 64 fclk after the transmitter received RESYNC both ends hold full credits again, less
those of the flits that go now; returns still waiting for the direction are void. Packets that began to cross after the
RESYNC was sent and were cut off are ended. -/
def execResyncEnd (st : Fin 36) (n : Fin 6) (s : State) : Out :=
  let st := st.val
  let n := n.val
  let tx := neighbour st n
  let o := oppPort n
  match ((s.stn st).port n).rxSync with
  | some t =>
    if s.datum < t then .next s
    else
      let s := s.modStn st (fun x => x.modPort n (fun q => { q with rxSync := none, credQ := [] }))
      let s := s.modStn st (fun x => (List.range 7).foldl (fun x v => x.endCut n v s.datum) x)
      let s := s.modStn tx (fun x => x.modPort o (fun q => { q with txSync := none }))
      let s := s.wr (A.STN_VC_CRED tx o) (BitVec.ofNat 64 (fullCreds o))
      let s := (s.linkOf tx o).foldl (fun s f => match f.w.content with
        | .be f => s.down (A.STN_VC_CRED tx o) ⟨4 * f.vc, 4⟩
        | _ => s) s
      let s := s.setFld (A.STN_LINK st n) F.STN_LINK_STATE (stateOfGood (s.goodRx st n))
      .next ((s.sat (A.STN_LINK st n) F.STN_LINK_RESYNC_COUNT).scnt st 34)
  | none => .next s

/-! ### VA (R54, R57, R58, R61) -/

/-- The head at the front of an input VC that asks for output `o`: its class, output VC and LEN. -/
def State.vaHead (s : State) (st o i v : Nat) : Option (Nat × Nat × Nat) :=
  let b := (s.stn st).vc i v
  match b.buf with
  | f :: _ =>
    if f.f.isHead && !f.held && b.grant.isNone && !b.cut && f.out = o && decide (f.bw < s.datum) then
      let h := Hdr.ofBits f.f.payload
      some (h.cls.toNat, f.ovc, h.len.toNat)
    else none
  | [] => none

/-- R54: an MGT packet of `len` data units may take the hop: a hop that starts a ring needs 4 free credits, a hop that
continues needs room for the whole packet; torus outputs only. -/
def State.bubble (s : State) (st o i v len : Nat) : Bool :=
  if v ≠ 6 || 4 ≤ o then true
  else if i < 6 && dimOf i = dimOf o then decide (len + 1 ≤ s.creds st o 6)
  else decide (4 ≤ s.creds st o 6)

/-- A credit of output `o` for VC `v` is held (R53). -/
def State.hasCred (s : State) (st o v : Nat) : Bool := decide (1 ≤ s.creds st o v)

/-- Output VC `w` of output `o` is free: no packet holds it and the last one's TAIL has passed ST (R57). -/
def State.vcFree (s : State) (st o w : Nat) : Bool :=
  ((s.stn st).ovc o w).holder.isNone && decide (((s.stn st).ovc o w).freeAt ≤ s.datum)

/-- R58: candidates of output `o`: input, input VC, class, output VC. Of two heads of one input and level the one on the
lower VC stands first and wins (DESIGN CHOICE, log 69: R58 orders inputs, not the VCs of one). -/
def State.vaCands (s : State) (st o : Nat) : List (Nat × Nat × Nat × Nat) :=
  (List.range 12).flatMap (fun i => (List.range 7).filterMap (fun v =>
    match s.vaHead st o i v with
    | some (c, w, len) =>
      if s.vcFree st o w && s.hasCred st o w && s.bubble st o i w len then some (i, v, c, w)
      else none
    | none => none))

/-- Heads that request output `o` now, candidates or not. -/
def State.vaWants (s : State) (st o : Nat) : List (Nat × Nat) :=
  (List.range 12).flatMap (fun i => (List.range 7).filterMap (fun v =>
    if (s.vaHead st o i v).isSome then some (i, v) else none))

/-- Class levels of R58: 7, 6, then 0 to 5 together. -/
def classLevel (c : Nat) : Nat := if c = 7 then 0 else if c = 6 then 1 else 2

/-- The first element in round-robin order of input numbers after `last`. -/
def rrPick {α : Type} (key : α → Nat) (n last : Nat) (xs : List α) : Option α :=
  xs.foldl (fun best x =>
    let r := (key x + n - 1 - last) % n
    match best with
    | none => some x
    | some y => if r < (key y + n - 1 - last) % n then some x else some y) none

/-- R58: the winner among the candidates. -/
def vaPick (last : Nat) (cs : List (Nat × Nat × Nat × Nat)) : Option (Nat × Nat × Nat × Nat) :=
  let lv := (cs.map (fun c => classLevel c.2.2.1)).foldl min 2
  rrPick (fun c => c.1) 12 last (cs.filter (fun c => classLevel c.2.2.1 = lv))

/-! ### SA (R53, R55, R56, R59, R92 to R94) -/

/-- A G flit that reaches an input in this cycle and will be launched on output `o` in cycle `d`: the allocator learns of it
in the cycle of its arrival (R93, R94). -/
def State.gComing (s : State) (st o d : Nat) : Bool :=
  (List.range 12).any (fun i => match s.front st i with
    | some ⟨.g g, _⟩ =>
      let b := if i < 6 && stateOfGood (s.goodRx st i) = LinkSt.HALF then 4 else 3
      let e := s.entryAt st o (s.nowOf (stnBlk st) + b)
      s.datum + b = d && entryIn e = i && entryChk e = g.chain.toNat % 4096
    | _ => false)

/-- A best-effort flit may be launched on output `o` in the cycle that SA now allocates, two cycles on (R55, R56, R93,
R94): no other flit and no GUARD parcel stands in the one or, at half rate, two cycles it occupies, the direction is up and
not in its 64 fclk of resynchronisation (R42). -/
def State.beFree (s : State) (st o : Nat) : Bool :=
  let t := s.datum + 2
  let x := s.stn st
  (s.outState st o = LinkSt.FULL || s.outState st o = LinkSt.HALF) &&
  s.slotFree st o t && !(s.halfOut st o && s.gComing st o (t + 1)) &&
  decide ((x.port o).saAt ≤ s.datum) &&
  (match (x.port o).txSync with
   | some u => decide (u ≤ t)
   | none => true)

/-- The front flit of an input VC is ready for SA on output `o`: it holds the grant, its stage has come and a credit
is held (R55); a parked head goes in the cycle of its VA (R61). -/
def State.saReady (s : State) (st i v : Nat) : Option (Nat × Nat) :=
  let b := (s.stn st).vc i v
  match b.grant, b.buf with
  | some (o, w), f :: _ =>
    if (b.parked || decide (b.grantAt < s.datum)) && decide (f.bw < s.datum) && s.hasCred st o w then some (o, w) else none
  | _, _ => none

/-- Outputs an input has a ready flit for. -/
def State.inputOuts (s : State) (st i : Nat) : List Nat :=
  (List.range 7).filterMap (fun v => (s.saReady st i v).map (·.1))

/-- R55: the output to which input `i` offers its SA slot in this cycle, of all it has ready flits for. -/
def State.offers (s : State) (st i : Nat) : Option Nat :=
  let q := (s.stn st).port i
  if s.datum < q.inUsed then none
  else rrPick id 12 q.lastOut (s.inputOuts st i)

/-- Candidates of output `o` at SA: output VC, class, input, input VC. -/
def State.saCands (s : State) (st o : Nat) : List (Nat × Nat × Nat × Nat) :=
  (List.range 7).filterMap (fun w =>
    let ov := (s.stn st).ovc o w
    match ov.holder with
    | some (i, v) =>
      if s.saReady st i v = some (o, w) && s.offers st i = some o then some (w, ov.cls, i, v) else none
    | none => none)

/-- Classes of which output `o` holds a packet with a flit ready, offered to it or not (R59). -/
def State.readyClasses (s : State) (st o : Nat) : List Nat :=
  (List.range 7).filterMap (fun w =>
    let ov := (s.stn st).ovc o w
    match ov.holder with
    | some (i, v) => if s.saReady st i v = some (o, w) then some ov.cls else none
    | none => none)

/-- R59: the deficit round robin: the class served and the deficit left after its flit. -/
def drrPick (weights : Nat → Nat) (cls deficit : Nat) (ready : List Nat) : Option (Nat × Nat) :=
  if deficit ≠ 0 && ready.contains cls then some (cls, deficit - 1)
  else
    match (List.range 6).find? (fun k => ready.contains ((cls + 1 + k) % 6)) with
    | some k => some ((cls + 1 + k) % 6, weights ((cls + 1 + k) % 6) - 1)
    | none => none

/-- The winner of class `k` among the candidates, VCs in turn (R59). -/
def vcTurn (q : PortSt) (cs : List (Nat × Nat × Nat × Nat)) (k : Nat) : Option (Nat × Nat × Nat × Nat) :=
  rrPick (fun c : Nat × Nat × Nat × Nat => c.1) 7 q.lastVc (cs.filter (fun c => c.2.1 = k))

/-- R59: the winner at SA among the candidates `cs` and the output's new arbitration memory. The turn of a class ends when
it has no flit ready. While the class whose turn it is has flits ready but none offered to this output, because their
inputs offered elsewhere (R55), the next class with a candidate takes the cycle and the turn goes on (DESIGN CHOICE, log
69). -/
def saPick (weights : Nat → Nat) (q : PortSt) (ready : List Nat) (cs : List (Nat × Nat × Nat × Nat)) :
    Option ((Nat × Nat × Nat × Nat) × PortSt) :=
  let q := if ready.contains q.drrCls then q else { q with drrDef := 0 }
  match cs.find? (fun c => c.2.1 = 7) with
  | some c => some (c, { q with lastVc := c.1 })
  | none =>
    match vcTurn q cs 6 with
    | some c => some (c, { q with lastVc := c.1 })
    | none =>
      let offered := cs.map (·.2.1)
      if q.drrDef ≠ 0 && !offered.contains q.drrCls then
        match drrPick weights q.drrCls 0 offered with
        | some (k, _) => (vcTurn q cs k).map (fun c => (c, { q with lastVc := c.1 }))
        | none => none
      else
        match drrPick weights q.drrCls q.drrDef offered with
        | some (k, d) => (vcTurn q cs k).map (fun c => (c, { q with lastVc := c.1, drrCls := k, drrDef := d }))
        | none => none

/-- A flit as it leaves: the head's HOPPTR is incremented, VC rewritten (R44, R40, R55). -/
def leaveFlit (f : Flit) (w : Nat) : Flit :=
  if f.isHead then
    let h := Hdr.ofBits f.payload
    { f with vc := w, payload := { h with hopptr := h.hopptr + 1 }.bits }
  else { f with vc := w }

/-- A flit leaves station `st` on output `o`, launched in cycle `t`: on its way to the neighbouring station, the NI, the
management agent or the federation agent. -/
def State.put (s : State) (st o : Nat) (f : Flit) (t : Nat) : State :=
  if o < 6 then s.launch st o ⟨.be f, none⟩ t
  else if o < 10 then s.modNi (4 * st + (o - 6)) (fun n => { n with lrx := { n.lrx with wire := n.lrx.wire ++ [(t, f)] } })
  else
    let b := if o = 10 then some (stnBlk st) else (fedOfStation st).map fedBlk
    match b with
    | some b => s.modAgent b (fun x => { x with rx := { x.rx with wire := x.rx.wire ++ [(t, f)] } })
    | none => s

/-- ST and LT of the front flit of input VC (i, v) on output `o`, output VC `w` (R53, R55, R57): it is launched two cycles
on; the output VC of a TAIL is free when it has passed ST. -/
def State.sendFront (s : State) (st i v o w : Nat) : State :=
  let b := (s.stn st).vc i v
  match b.buf with
  | [] => s
  | bf :: rest =>
    let g := leaveFlit bf.f w
    let tail := bf.f.isTail
    let s := if bf.f.isHead then
        s.hopRecord st i v o (s.datum + 2 - bf.bw) bf.bw (Hdr.ofBits bf.f.payload) else s
    let s := s.modStn st (fun x =>
      let x := x.setVc i v { b with buf := rest, grant := if tail then none else b.grant, parked := false }
      let x := x.setOvc o w (if tail then { freeAt := s.datum + 2 } else { x.ovc o w with sent := true, sentAt := s.datum + 1 })
      x.modPort i (fun q => { q with inUsed := s.datum + 1, lastOut := o }))
    let s := (s.oweCredit st i v).scnt st o
    (s.setFld (A.STN_VC_CRED st o) ⟨4 * w, 4⟩ (s.creds st o w - 1)).put st o g (s.datum + 2)

/-- R57: output VC `w` of output `o` is granted to the packet at the front of input VC (i, v). -/
def State.grantVc (s : State) (st o i v c w : Nat) (parked : Bool) : State :=
  s.modStn st (fun x =>
    let b := x.vc i v
    ((x.setVc i v { b with grant := some (o, w), grantAt := s.datum, parked := parked }).setOvc o w
      { holder := some (i, v), cls := c, sent := false }).modPort o (fun q => { q with lastVa := i }))

/-- CREDIT_STALL (R313): output `o` had a flit ready in this cycle and no credit for it; a flit that has just come to the front
behind one sent is ready from the next cycle on. -/
def State.creditStall (s : State) (st o : Nat) : Bool :=
  (List.range 7).any (fun w =>
    let q := (s.stn st).ovc o w
    match q.holder with
    | some (i, v) =>
      let b := (s.stn st).vc i v
      (match b.buf with
       | f :: _ => decide (f.bw < s.datum) && decide (b.grantAt < s.datum) && decide (q.sentAt ≤ s.datum)
       | [] => false) && !s.hasCred st o w
    | none => false)

/-- R53, R55, R56, R59, R93, R94: switch allocation of output `o` in this cycle, once: it sends one ready best-effort flit
or none. -/
def State.saRun (s : State) (st o : Nat) : State :=
  if !s.beFree st o then s
  else
    let wgt (c : Nat) : Nat := s.fld (A.STN_CLASS_WEIGHT st) ⟨8 * c, 8⟩
    match saPick wgt ((s.stn st).port o) (s.readyClasses st o) (s.saCands st o) with
    | some ((w, _, i, v), q) =>
      (s.modStn st (fun x => x.setPort o { q with saAt := s.datum + 1 })).sendFront st i v o w
    | none =>
      if (s.readyClasses st o).isEmpty then s.modStn st (fun x => x.modPort o (fun q => { q with drrDef := 0 })) else s

/-- VC_ALLOCATE (R54, R57, R58, R61): output `o` grants at most one head an output VC in a cycle. A parked head goes through
VA and SA in one cycle: it stands in the output's switch allocation of this cycle beside whatever else is ready. -/
def execVcAllocate (st : Fin 36) (o : Fin 12) (s : State) : Out :=
  let st := st.val
  let o := o.val
  if !s.awake st || decide (s.datum < ((s.stn st).port o).vaAt) then .next s
  else
    let wants := s.vaWants st o
    let last := ((s.stn st).port o).lastVa
    let cands := s.vaCands st o
    let s := s.modStn st (fun x => x.modPort o (fun q => { q with vaAt := s.datum + 1 }))
    match vaPick last cands with
    | none => .next (s.scnt st 25 wants.length)
    | some (i, v, c, w) =>
      let parked := i = last && wants.all (fun x => x.1 = i)
      let s := (s.grantVc st o i v c w parked).scnt st 25 (wants.length - 1)
      if parked then .next ((s.scnt st 26).saRun st o) else .next s

/-- R42 step 3: flits of cut packets at the front of the input VCs are discarded into the sink. -/
def State.dropCut (s : State) (st i v : Nat) : State :=
  let b := (s.stn st).vc i v
  if !b.cut then s
  else
    match b.buf with
    | [] => s
    | f :: rest =>
      (s.modStn st (fun x => x.setVc i v { b with buf := rest, cut := !f.f.isTail })).oweCredit st i v

/-- SWITCH_ALLOCATE (R53, R55, R56, R59, R93, R94): output `o` sends one ready best-effort flit or none. Cut packets at the
input of the same number lose a flit per cycle (R42). -/
def execSwitchAllocate (st : Fin 36) (o : Fin 12) (s : State) : Out :=
  let st := st.val
  let o := o.val
  if !s.awake st then .next s
  else .next (((List.range 7).foldl (fun s v => s.dropCut st o v) s).saRun st o)

/-! ### Held heads (R84) -/

/-- The flits of the packet at position `k` of a buffer, up to its TAIL. -/
def splitTail : List BFlit → List BFlit × List BFlit
  | [] => ([], [])
  | f :: fs => if f.f.isTail then ([f], fs) else ((f :: (splitTail fs).1), (splitTail fs).2)

/-- A held head of VC (i, v) and what stands before and behind it. -/
def splitHeld : List BFlit → List BFlit × List BFlit
  | [] => ([], [])
  | f :: fs => if f.held then ([], f :: fs) else ((f :: (splitHeld fs).1), (splitHeld fs).2)

/-- The oldest held head of an input VC is absorbed with the flits of its packet (R84). -/
def State.absorbHeld (s : State) (st i v : Nat) : State :=
  let b := (s.stn st).vc i v
  match splitHeld b.buf with
  | (_, []) => s
  | (before, f :: fs) =>
    let h := Hdr.ofBits f.f.payload
    let (mine, rest) := splitTail (f :: fs)
    let whole := (mine.getLast?.map (fun x => x.f.isTail)).getD false
    let s := s.modStn st (fun x => x.setVc i v
      { b with buf := before ++ rest, absorb := if whole then b.absorb else some (some h) })
    let s := mine.foldl (fun s _ => s.oweCredit st i v) s
    let s := s.hopRecord st i v 15 (s.datum - f.bw) f.bw h
    let s := if whole then s.sinkAct st (some h) else s
    s.setFld (A.STN_TRAV_STATUS st) F.STN_TRAV_STATUS_HOLDING (s.stn st).holding

/-- The oldest held head of an input VC is judged under R62 once RECONF has cleared (R84). -/
def State.releaseHeld (s : State) (st i v : Nat) : State :=
  let b := (s.stn st).vc i v
  match splitHeld b.buf with
  | (_, []) => s
  | (before, f :: fs) =>
    let h := Hdr.ofBits f.f.payload
    let s := s.sat (A.STN_TRAV_STATUS st) F.STN_TRAV_STATUS_RELEASED
    match s.routeFate st i v h with
    | .go o w =>
      let s := s.modStn st (fun x => x.setVc i v
        { b with buf := before ++ ({ f with held := false, bw := s.datum, out := o, ovc := w } :: fs) })
      s.setFld (A.STN_TRAV_STATUS st) F.STN_TRAV_STATUS_HOLDING (s.stn st).holding
    | fate => (s.absorbCount st fate).absorbHeld st i v

/-- HELD_HEAD_TIMEOUT (R84): a head held for 8,192 fclk is absorbed. -/
def execHeldHeadTimeout (st : Fin 36) (i : Fin 12) (v : Fin 7) (s : State) : Out :=
  match (splitHeld ((s.stn st.val).vc i.val v.val).buf).2 with
  | f :: _ =>
    if f.bw + 8192 ≤ s.datum then .next ((s.absorbCount st.val .stray).absorbHeld st.val i.val v.val) else .next s
  | [] => .next s

/-- Every held head of a station released (R84). -/
def State.releaseAll (s : State) (st : Nat) : State :=
  (List.range 12).foldl (fun s i => (List.range 7).foldl (fun s v =>
    ((s.stn st).vc i v).buf.foldl (fun s _ => s.releaseHeld st i v) s) s) s

/-- AGENT_NOROUTE_SEND (R62, R285): the agent sends the oldest queued answer. -/
def execAgentNorouteSend (st : Fin 36) (s : State) : Out :=
  let st := st.val
  match (s.stn st).nrq with
  | [] => .next s
  | h :: q =>
    let s := (s.modStn st (fun x => { x with nrq := q })).setFld (A.STN_SINK st) F.STN_SINK_NR_QUEUE q.length
    let s := s.sat (A.STN_SINK st) F.STN_SINK_NR_SENT
    match Cmd.response h.cmd with
    | some c =>
      .next (s.agentSend st { dest := h.src, cmd := c, cls := h.cls, tag := h.tag, region := h.region,
                              status := Code.NOROUTE, bcount := h.bcount, address := h.address } [])
    | none => .next s

end Sys2Proof.Machine
end

