-- ==== Sys2Proof/Machine/Local.lean ====
section
/-!
DEFINITION. Machine/Local.lean: the local links of a station (R34, R52, R53): what NIs, management agents and federation
agents receive from their station and drive into it, the packets that arrive at agents and the global block (R452), and the
credit returns of every output (R53). All of it follows from the cycle alone.
-/
namespace Sys2Proof.Machine

/-! ### Packets that have arrived (R44, R50, R187, R452) -/

/-- The response is the answer to the route fill that the agent of block `b` awaits (R72, R73). -/
def State.fillMatch (s : State) (b : Nat) (p : Pkt) : Bool :=
  let x := s.agent b
  x.cur.isSome && x.issued.isSome && x.rsp.isNone && p.h.cmd = Cmd.CRR && p.h.dest = s.gid (agentKey b) &&
    p.h.tag.toNat = x.fillNo

/-- The sequencer's write that a response answers is outstanding (R131, R441). -/
def State.seqAwaits (s : State) (p : Pkt) : Bool :=
  p.h.cmd = Cmd.CWA &&
    (match s.stk.pass with
     | some q => q.waits.any (fun w => w.blk = p.h.tag.toNat)
     | none => false)

/-- The request of the FMP that a response answers (R250). -/
def ownMatch (p : Pkt) (o : OwnReq) : Bool := o.rsp.isNone && !o.late && o.tag = p.h.tag.toNat && Cmd.answers o.cmd p.h.cmd

/-- R452: a packet that the agent of station `st` or the global block absorbs. -/
def State.misfit (s : State) (st : Nat) (toGlb : Bool) : State :=
  if toGlb then s.sat A.GLB_SINK F.GLB_SINK_MISFIT else s.sat (A.STN_SINK st) F.STN_SINK_MISFIT

/-- The answer with a code of the agent or the global block to a request; none for other packets. -/
def State.agentReply (s : State) (st : Nat) (toGlb : Bool) (q : Hdr) (code : BitVec 4) : State :=
  match Cmd.response q.cmd with
  | some c =>
    let h : Hdr := { dest := q.src, cmd := c, cls := q.cls, tag := q.tag, region := q.region, status := code,
                     bcount := q.bcount, address := q.address }
    if toGlb then s.glbSend h [] else s.agentSend st h []
  | none => s

/-- R452, R437: the commands, and for CRD and CWR the offsets, that the agent of station `st` or the global block serves. -/
def serves (st : Nat) (toGlb : Bool) (h : Hdr) : Bool :=
  let a := h.address.toNat
  if h.cmd = Cmd.CRD ∨ h.cmd = Cmd.CWR then a < 0x2000000 && agentOf a = (if toGlb then none else some st)
  else h.cmd = Cmd.BAR || (toGlb && h.cmd = Cmd.MSG)

/-- R452, R131, R250: a response reaches the agent or the global block: the answer to a request of its own, or absorbed. -/
def State.ownResponse (s : State) (st : Nat) (toGlb : Bool) (p : Pkt) : State :=
  if toGlb then
    if s.seqAwaits p then s.seqAnswer p.h.tag.toNat (p.h.status = 0 && !p.fails)
    else
      match s.glb.own.find? (ownMatch p) with
      | some o =>
        let put (x : OwnReq) : OwnReq := if ownMatch p x then { x with rsp := some p } else x
        let left := (s.glb.own.map put).filter (fun x => !(x.rsp.isSome && x.ticket = 0))
        { s with glb := { s.glb with own := left } }.outDone 192 o.trav
      | none => s.misfit st true
  else if s.fillMatch (stnBlk st) p then s.modAgent (stnBlk st) (fun x => { x with rsp := some p })
  else s.misfit st false

/-- R281, R452, R280: a whole packet has arrived at the agent of station `st`, or, at station 21 with DEST port 240, at
the global block. Packets the block does not serve are absorbed and, if non-posted, answered (R452). Packets failing
R50 are answered CRC or discarded (R283). A barrier is answered after every earlier request from the same SRC has been
served (R187). -/
def State.agentArrive (s : State) (st : Nat) (p : Pkt) : State :=
  let toGlb := st = 21 && p.h.dest = s.gid 240
  let toMe := p.h.dest = s.gid (160 + st)
  if !toGlb && !toMe then (s.misfit st toGlb).agentReply st toGlb p.h Code.NOROUTE
  else if Cmd.isResponse p.h.cmd then s.ownResponse st toGlb p
  else if p.fails then (s.misfit st toGlb).agentReply st toGlb p.h Code.CRC
  else if !serves st toGlb p.h then (s.misfit st toGlb).agentReply st toGlb p.h Code.TGTERR
  else
    let rx := if toGlb then s.glb.rx else (s.stn st).agentRx
    if p.h.cmd = Cmd.BAR && rx.all (fun q => q.h.src ≠ p.h.src) then s.agentReply st toGlb p.h Code.OK
    else if toGlb then { s with glb := { s.glb with rx := s.glb.rx ++ [p] } }
    else s.modStn st (fun x => { x with agentRx := x.agentRx ++ [p] })

/-- R452, R320, R323: a whole packet has arrived at the NI of port `p`; REQ and MSG types wait in one
queue, in the order in which their tails arrived (R173), the others each in its own. -/
def State.niArrive (s : State) (p v : Nat) (q : Pkt) : State :=
  let s := s.arrivePoint p v q
  s.modNi p (fun n => match vcTypeOfVc v with
    | .req => { n with rxReq := n.rxReq ++ [q] }
    | .rsp => { n with rxRsp := n.rxRsp ++ [q] }
    | .msg => { n with rxReq := n.rxReq ++ [q] }
    | .mgt => { n with rxMgt := n.rxMgt ++ [q] })

/-- A whole packet has arrived at the agent of block `b`. -/
def State.agentTake (s : State) (b : Nat) (p : Pkt) : State :=
  if 156 ≤ b then s.agentArrive (b - 156) p
  else if s.fillMatch b p then s.modAgent b (fun x => { x with rsp := some p })
  else s.modFed (b - 144) (fun x => { x with rx := x.rx ++ [p] })

/-! ### The receiving side (R52, R53) -/

/-- A flit that has reached the register buffers joins its packet; the packet it completes. -/
def LocalRx.put (r : LocalRx) (f : Flit) : LocalRx × Option Pkt :=
  let fs := tget [] r.asm f.vc ++ [f]
  if f.isTail then ({ r with asm := tset [] r.asm f.vc [] }, some (Pkt.ofFlits fs))
  else ({ r with asm := tset [] r.asm f.vc fs }, none)

/-- One cycle of the receiving side: buffers whose flit came two cycles ago are free and their credits owed; the flits
launched for this cycle arrive. Answers the VC and the packet of each TAIL among them. That a flit stands in its register
buffer for two cycles, which gives the round trip of 4 fclk (R53), is DEDUCED (log 69). -/
def LocalRx.cycle (r : LocalRx) (now : Nat) : LocalRx × List (Nat × Pkt) :=
  let gone := r.buf.filter (fun e => decide (e.1 + 2 ≤ now))
  let come := r.wire.filter (fun e => decide (e.1 ≤ now))
  let r := { r with ret := r.ret ++ gone.map (fun e => e.2.vc)
                    buf := r.buf.filter (fun e => decide (now < e.1 + 2)) ++ come.map (fun e => (now, e.2))
                    wire := r.wire.filter (fun e => decide (now < e.1)) }
  come.foldl (fun a e => match a.1.put e.2 with
    | (r, some q) => (r, a.2 ++ [(e.2.vc, q)])
    | (r, none) => (r, a.2)) (r, [])

/-- One cycle of the link from its station to the NI of port `p`. -/
def State.niCycle (s : State) (p : Nat) : State :=
  let n := (s.ni p).lrx.wire.filter (fun e => decide (e.1 ≤ s.datum))
  match (s.ni p).lrx.cycle s.datum with
  | (r, ps) => ps.foldl (fun s e => s.niArrive p e.1 e.2) ((s.modNi p (fun x => { x with lrx := r })).ncnt p 8 n.length)

/-- One cycle of the link from its station to the agent of block `b`. -/
def State.agentCycle (s : State) (b : Nat) : State :=
  match (s.agent b).rx.cycle s.datum with
  | (r, ps) => ps.foldl (fun s e => s.agentTake b e.2) (s.modAgent b (fun x => { x with rx := r }))

/-! ### The sending side of an agent (R53, R75) -/

/-- The packets of an agent that may send a flit: the first of its VC, with a credit (R53, R75). -/
def txPick (cred : List (Nat × Nat)) : List TxPkt → List Nat → Option Nat
  | [], _ => none
  | t :: ts, seen =>
    let v := (t.left.head?.map (·.vc)).getD 0
    if !seen.contains v && decide (1 ≤ tget 4 cred v) then some 0
    else (txPick cred ts (v :: seen)).map (· + 1)

/-! ### The forwarded-request table (R405) -/

/-- Entries of the forwarded-request table in use (R405). -/
def State.fwdUsed (s : State) (f : Nat) : Nat := ((s.fed f).fwd.filter (fun e => e.2.isSome)).length

/-- FWD_OUT follows the table. -/
def State.fwdCount (s : State) (f : Nat) : State := s.setFld (A.FED_STATUS f) F.FED_STATUS_FWD_OUT (s.fwdUsed f)

/-- R405: an injected non-posted request takes an entry. -/
def State.fwdTake (s : State) (f t : Nat) (h : Hdr) : State :=
  match lowestFree (fun e => (tget none (s.fed f).fwd e).isSome) 512 0 with
  | none => s
  | some e =>
    let w : Fwd := { src := h.src, tag := h.tag, trav := t, at' := s.datum }
    ((s.modFed f (fun x => { x with fwd := tset none x.fwd e (some w) })).outAdd (fedBlk f) t).fwdCount f

/-- Ingress queue of a VC type: 0 REQ, 1 RSP, 2 MSG. -/
def ingKey (c : BitVec 6) : Nat :=
  match vcTypeOf c with
  | .rsp => 1
  | .msg => 2
  | _ => 0

/-- The head of an ingress queue has left it: the next is the head from now on (R410). -/
def State.ingNext (s : State) (f k : Nat) : State :=
  s.modFed f (fun x => { x with ing := tset [] x.ing k (match (tget [] x.ing k).tail with
    | [] => []
    | q :: rest => { q with head := some s.datum } :: rest) })

/-- R405, R406, R410: the head flit of a packet from the link is injected: it leaves its ingress queue, a REQ-type packet
sets its key's fence bit, a non-posted request takes an entry. -/
def State.fedGone (s : State) (b : Nat) (t : TxPkt) : State :=
  let f := b - 144
  let s := s.ingNext f (ingKey t.hdr.cmd)
  let s := if vcTypeOf t.hdr.cmd = .req then s.modFed f (fun x => { x with fence := tset false x.fence t.key true }) else s
  if Cmd.isNonPosted t.hdr.cmd then s.fwdTake f t.hdr.trav.toNat t.hdr else s

/-- The reporter that counts a packet driven by the agent of block `b` (R81); a station agent is none. -/
def State.txReporter (s : State) (b : Nat) (t : TxPkt) : Option Nat :=
  if b < 156 then some b else if t.hdr.src = s.gid 240 then some 192 else none

/-- What a flit driven by the agent of block `b` does besides: the head of a fill starts its timeout (R72), that of a
packet from the link has been injected, the tail ends the packet's count (R81). -/
def State.txDriven (s : State) (b : Nat) (t : TxPkt) (f : Flit) (last : Bool) : State :=
  let s := if t.fill && f.isHead then s.modAgent b (fun x => { x with issued := some s.datum }) else s
  let s := if t.use = .forward && f.isHead then s.fedGone b t else s
  if last && t.counted then
    match s.txReporter b t with
    | some r => s.outDone r t.hdr.trav.toNat
    | none => s
  else s

/-- The agent of block `b` drives one flit into its station: of the first packet of each VC the oldest that has a credit. A
flit takes a credit. -/
def State.agentDrive (s : State) (b : Nat) : State :=
  let x := s.agent b
  match txPick x.cred x.q [] with
  | none => s
  | some k =>
    match x.q[k]? with
    | none => s
    | some t =>
      match t.left with
      | [] => s
      | f :: fs =>
        let q := if fs.isEmpty then x.q.eraseIdx k else x.q.set k { t with left := fs }
        let s := s.setAgent b { x with q := q, cred := tset 4 x.cred f.vc (tget 4 x.cred f.vc - 1) }
        (s.sendWire (agentPort b).1 (agentPort b).2 ⟨.be f, none⟩ s.datum).txDriven b t f fs.isEmpty

/-- The flit that the agent drives in this cycle, of whatever type, carries the oldest credit return it owes (R53). -/
def State.agentReturn (s : State) (b : Nat) : State :=
  match (s.agent b).rx.ret with
  | [] => s
  | v :: vs => (s.modAgent b (fun x => { x with rx := { x.rx with ret := vs } })).credit (agentPort b).1 (agentPort b).2 v

/-! ### Credit returns of a station (R53) -/

/-- A credit for VC `v` comes back to the unit behind local input `i` of station `st`. -/
def State.creditUnit (s : State) (st i v : Nat) : State :=
  if i < 10 then s.modNi (4 * st + (i - 6)) (fun n => { n with cred := tset 4 n.cred v (min 4 (tget 4 n.cred v + 1)) })
  else
    match (if i = 10 then some (stnBlk st) else (fedOfStation st).map fedBlk) with
    | some b => s.modAgent b (fun x => { x with cred := tset 4 x.cred v (min 4 (tget 4 x.cred v + 1)) })
    | none => s

/-- The output carries no credit return in this cycle: its direction is not up, or it stands in the 64 fclk of a
resynchronisation, in which its receiver does not read CRET (R42). -/
def State.cretHeld (s : State) (st o : Nat) : Bool :=
  (s.outState st o ≠ LinkSt.FULL && s.outState st o ≠ LinkSt.HALF) ||
  (match ((s.stn st).port o).txSync with
   | some u => decide (s.datum < u)
   | none => false)

/-- R53, R56: the oldest credit return of input `o` goes on the flit that output `o` launches in this cycle, of whatever
type, an IDLE where it launches nothing else. -/
def State.sendCret (s : State) (st o : Nat) : State :=
  match ((s.stn st).port o).credQ with
  | [] => s
  | (v, t) :: rest =>
    if s.datum < t || !s.awake st then s
    else
      let done (s : State) : State := s.modStn st (fun x => x.modPort o (fun q => { q with credQ := rest }))
      if 6 ≤ o then (done s).creditUnit st o v
      else if s.cretHeld st o then s
      else
        match (s.linkOf st o).find? (fun f => f.lau = s.datum) with
        | some f =>
          if f.w.cret.isSome then s
          else (done s).modStn (neighbour st o) (fun x => x.modPort (oppPort o) (fun q =>
            { q with wire := q.wire.map (fun g => if g = f then { g with w := { g.w with cret := some v } } else g) }))
        | none => if s.slotFree st o s.datum then (done s).launch st o ⟨.idle, some v⟩ s.datum else s

/-- The credit returns of every output of station `st`. -/
def State.stnCrets (s : State) (st : Nat) : State := ((s.stn st).ports.map (·.1)).foldl (fun s o => s.sendCret st o) s

/-- One cycle of every local link and of every credit return. `hold` says that a block drives a G flit in this cycle. -/
def State.linkCycle (s : State) (hold : State → Nat → Bool) : State :=
  let s := (s.stns.map (·.1)).foldl (fun s st => s.stnCrets st) s
  let s := (s.nis.map (·.1)).foldl (fun s p => s.niCycle p) s
  (s.agents.map (·.1)).foldl (fun s b =>
    let s := (s.agentReturn b).agentCycle b
    if hold s b then s else s.agentDrive b) s

end Sys2Proof.Machine
end

