-- ==== Sys2Proof/Machine/Access.lean ====
section
/-!
DEFINITION. Machine/Access.lean: how a serving block judges a configuration access before the register's own rule:
the register exists, its privileges (R8, R9, R449), its fields' access types (R6, R7) and the refusal of a field that
the writer may not change (R450).
-/
namespace Sys2Proof.Machine

/-- Whether a writer or reader meets a column of R443 to R446: a level of R8, the set owner's level (R132), the lock
level (R203), the parties of a mailbox channel (R231), the permission of a counter (R311). -/
def State.aclOk (s : State) (c : Acl) (a : Nat) (r : Req) : Bool :=
  let lv := effPriv r.src r.priv
  match c with
  | .p0 => true
  | .p1 => 1 ≤ lv
  | .p2 => 2 ≤ lv
  | .fmp => isFmp r
  | .closed => true
  | .owner => 1 ≤ lv
  | .lck => s.fld A.LCK_CFG F.LCK_CFG_MIN_PRIV ≤ lv
  | .receiver =>
    let cfg := A.MBX_CH_CFG ((a - A.MBX_CH_CFG 0) / 0x100)
    isFmp r || r.src.toNat = s.fld cfg F.MBX_CH_CFG_RECEIVER
  | .party =>
    let cfg := A.MBX_CH_CFG ((a - A.MBX_CH_CFG 0) / 0x100)
    isFmp r || r.src.toNat = s.fld cfg F.MBX_CH_CFG_RECEIVER ||
      (if s.bit cfg F.MBX_CH_CFG_ANY then decide (s.fld cfg F.MBX_CH_CFG_MIN_PRIV ≤ lv)
       else r.src.toNat = s.fld cfg F.MBX_CH_CFG_SENDER)
  | .cnt =>
    1 ≤ lv ||
    (match blkOf a with
     | some (.ni p, off) => (s.rd (A.NI_CNT_PERM p)).getLsbD ((off % 0x200) / 8 % 64)
     | some (.stn i, off) => (s.rd (A.STN_CNT_PERM i)).getLsbD ((off % 0x200) / 8 % 64)
     | some (.glb, off) => (s.rd A.GLB_CNT_PERM).getLsbD ((off - 0x100) / 8 % 64)
     | _ => false)

/-- What the register tables say of a write before the register's own rule. -/
inductive Gate where
  /-- No such register (R439). -/
  | bad
  /-- Below the privilege named (R9), or not the FMP (R7). -/
  | deny
  /-- The register offers no write: completes OK without effect (R449). -/
  | silent
  | go
  deriving DecidableEq, Repr

/-- The row of the register at an offset. -/
def rowAt (a : Nat) : Option RegRow :=
  match blkOf a with
  | some (b, off) => rowOf b off
  | none => none

/-- R439, R9, R449: judgement of a write. -/
def State.writeGate (s : State) (a : Nat) (r : Req) : Gate :=
  match rowAt a with
  | none => .bad
  | some row =>
    if row.wr = .closed then (if isFmp r then .go else .silent)
    else if s.aclOk row.wr a r then .go else .deny

/-- R7: a field's value after a write that is accepted. -/
def Acc.after (c : Acc) (f : Fld) (byFmp : Bool) (new old : Word) : Word :=
  match c with
  | .rw => f.put old (f.get new)
  | .fmp => if byFmp then f.put old (f.get new) else old
  | .w1c => f.put old (f.get old &&& (2 ^ f.w - 1 - f.get new))
  | _ => old

/-- R7, R450: a write of every field of a register; none when a field of type FMP would be changed by another writer.
Fields of type RO and RC are ignored, those of type WO and RWS are left to the register's own rule. -/
def RegRow.write (row : RegRow) (byFmp : Bool) (old new : Word) : Option Word :=
  if !byFmp && row.flds.any (fun e => e.2 = .fmp && e.1.get old ≠ e.1.get new) then none
  else some (row.flds.foldl (fun x e => e.2.after e.1 byFmp new x) old)

/-- Whether the field of a written word holds one of the values that lie outside the bounds. -/
def outside (v : Word) (f : Fld) (lo hi : Nat) : Bool := f.get v < lo || hi < f.get v

/-- Reserved encodings of an NI's registers (R6), by offset; registers whose own rule judges them apart. -/
def reservedNi (off : Nat) (v : Word) : Bool :=
  if 0xA00 ≤ off ∧ off < 0xC00 then outside v F.NI_CHAIN_SRC_SCH_PERIOD 0 4 || outside v F.NI_CHAIN_SRC_SCH_COUNT 1 16
  else if 0x1400 ≤ off ∧ off < 0x1C00 then outside v F.NI_STATE_CFG_SPAN 1 256
  else if off = 0x2400 then (List.range 8).any (fun q => outside v ⟨4 * q, 3⟩ 0 6)
  else if off = 0x2408 then (List.range 6).any (fun c => outside v ⟨8 * c, 8⟩ 1 255)
  else if off = 0x2A20 then
    outside v F.NI_EXCL_CTL_PROTECT 256 65535 || outside v F.NI_EXCL_CTL_MAX_RETRY 1 255 ||
      decide (F.NI_EXCL_CTL_LIFE.get v * 256 ≤ F.NI_EXCL_CTL_PROTECT.get v)
  else if off = 0x3A08 then outside v F.NI_TIMEOUT_REQ 16 65535 || outside v F.NI_TIMEOUT_QUAR 1 65535
  else if off = 0x4900 then outside v F.NI_ENUM_PRIV 0 2
  else false

/-- R6: a written word holds a reserved encoding of a field of the register at offset `a`. -/
def reservedEnc (a : Nat) (v : Word) : Bool :=
  match blkOf a with
  | some (.ni _, off) => reservedNi off v
  | some (.stn _, off) =>
    if off = 0x200 then (List.range 6).any (fun c => outside v ⟨8 * c, 8⟩ 1 255)
    else if 0x700 ≤ off ∧ off < 0x758 then outside v F.STN_PLAT_CTL_LEN0 0 4 || outside v F.STN_PLAT_CTL_LEN1 0 4
    else false
  | some (.fed _, off) =>
    if off = 0x200 then outside v F.FED_CTL_MAX_PRIV 0 2 || outside v F.FED_CTL_HOLD 1 255
    else if 0xA00 ≤ off ∧ off < 0xC00 then outside v F.FED_CHAIN_SRC_SCH_PERIOD 0 4 || outside v F.FED_CHAIN_SRC_SCH_COUNT 1 16
    else if 0xE00 ≤ off ∧ off < 0x1000 then F.FED_CHAIN_DST_CFG_MODE.get v = 1
    else false
  | some (.glb, off) =>
    if off = A.END_CFG then
      outside v F.END_CFG_SBE_LIMIT 1 255 || outside v F.END_CFG_MIN_EYE 8 56 || outside v F.END_CFG_DRIFT_LIMIT 1 255 ||
        outside v F.END_CFG_PERIOD 1 65535 || outside v F.END_CFG_GUARDS 1 15
    else if off = A.END_VREQ then outside v F.END_VREQ_STEPS 0 12
    else if 0x70000 ≤ off ∧ off < 0x72000 then outside v F.GLB_FED_MAP_PORT 0 11
    else false
  | none => false

/-- Registers whose write acts after the cycle in which it is served: the class map (R156), the weights (R159), the
shapers (R165) and the region map (R177) of an NI, and the modes of counters (R309). -/
def actsNext (a : Nat) : Bool :=
  match blkOf a with
  | some (.ni _, off) => off = 0x2400 || off = 0x2408 || (decide (0x2440 ≤ off) && decide (off < 0x2500)) ||
      (decide (0x3000 ≤ off) && decide (off < 0x3400)) || off = 0x4200
  | some (.stn _, off) => off = 0x4200
  | _ => a = A.GLB_CNT_MODE

/-- R440: a field of a register after the cycle's own changes, which made `cur` of `held`, are applied to the value `new`
that an access gave it: bits set by hardware read 1 in a field of type W1C, a count rises by the cycle's events, every
other field takes hardware's value. -/
def Acc.join (c : Acc) (f : Fld) (held cur new : Word) : Nat :=
  let a := f.get held
  let b := f.get cur
  let n := f.get new
  if a = b then n
  else if c = .w1c then n ||| (b - (b &&& a))
  else if c = .fmp ∧ 8 ≤ f.w ∧ a ≤ b then min (n + (b - a)) (2 ^ f.w - 1)
  else b

/-- R440: the register after an access has given it the value `new`: the cycle's own changes are applied after it. -/
def State.joined (s : State) (a : Nat) (row : RegRow) (new : Word) : Word :=
  row.flds.foldl (fun x e => e.1.put x (e.2.join e.1 (s.seenOf a).2 (s.rd a) new)) new

/-- A write that only the register's table governs; it meets the register as it stood at the start of the cycle, and
what the cycle has changed is applied after it (R440). -/
def State.plainWrite (s : State) (a : Nat) (r : Req) : State × BitVec 4 :=
  match rowAt a with
  | none => (s, Code.TGTERR)
  | some row =>
    match row.write (isFmp r) (s.seenOf a).2 r.data with
    | none => (s, Code.DENY)
    | some v => ((if actsNext a then s.keepNow a else s).wrServed a v (s.joined a row v), Code.OK)

/-- R450: the write carries every field of the register at its present value. -/
def State.same (s : State) (a : Nat) (r : Req) : Bool :=
  match rowAt a with
  | none => false
  | some row => row.write true (s.seenOf a).2 r.data = some (s.seenOf a).2

/-- A write served at offset `a`: judged, refused for a reserved encoding (R6), then given to the register's own rule, and answered (R439). In mode OFF the
block is unpowered and serves nothing (R371). -/
def State.serve (s : State) (a : Nat) (r : Req) (act : State → State × BitVec 4) : State :=
  if s.mode = Mode.OFF then s else
  match s.writeGate a r with
  | .bad => s.ans a r Code.TGTERR
  | .deny => s.ans a r Code.DENY
  | .silent => s.ans a r Code.OK
  | .go => if reservedEnc a r.data then s.ans a r Code.DENY else (act s).1.ans a r (act s).2

/-- R5: size and alignment of a configuration access. -/
def accessOk (a sz : Nat) : Bool := sz = 8 && a % 8 = 0

/-- A field of a write. -/
def reqFld (r : Req) (f : Fld) : Nat := f.get r.data

end Sys2Proof.Machine
end

