-- ==== Sys2Proof/Machine/Ni.lean ====
section
/-!
DEFINITION. Machine/Ni.lean: what an NI's initiator and target sides share: tags, the drain counts (R81 to R83), the
endings of requests with their answers on IS (R209, R212, R280), the route cache and its fills (R70 to R74), and the
build of packets into the injection paths (R71, R152, R155, R157).
-/
namespace Sys2Proof.Machine

/-! ### Tags (R178, R211, R281) -/

/-- A request by its tag. -/
def State.req (s : State) (p t : Nat) : Option NiReq := tget none (s.ni p).reqs t
def State.setReq (s : State) (p t : Nat) (v : Option NiReq) : State :=
  s.modNi p (fun n => { n with reqs := tset none n.reqs t v })
/-- A port or drain barrier by its tag. -/
def State.bar (s : State) (p t : Nat) : Option NiReq := tget none (s.ni p).bars t
def State.setBar (s : State) (p t : Nat) (v : Option NiReq) : State :=
  s.modNi p (fun n => { n with bars := tset none n.bars t v })
/-- An access by its key. -/
def State.acc (s : State) (p k : Nat) : Option UAcc := tget none (s.ni p).accs k
def State.setAcc (s : State) (p k : Nat) (v : Option UAcc) : State :=
  s.modNi p (fun n => { n with accs := tset none n.accs k v })

/-- The tag is not free: a request, an access, a barrier or a quarantine holds it. -/
def State.tagUsed (s : State) (p t : Nat) : Bool :=
  (s.req p t).isSome || (s.acc p t).isSome || (tget none (s.ni p).quar t).isSome ||
    (s.ni p).barrs.any (fun b => b.tag = t)

/-- R211: the lowest free tag. -/
def State.freeTag (s : State) (p : Nat) : Option Nat := lowestFree (s.tagUsed p) 4096 0

/-- The lowest tag for a port or drain barrier that no barrier of the NI and no quarantine holds. -/
def State.freeBarTag (s : State) (p : Nat) : Nat :=
  (lowestFree (fun t => (s.bar p t).isSome || (tget none (s.ni p).quar (4096 + t)).isSome) 4096 0).getD 0

/-- The next number of acceptance and build order. -/
def State.nextSeq (s : State) (p : Nat) : Nat × State :=
  ((s.ni p).seqNo, s.modNi p (fun n => { n with seqNo := n.seqNo + 1 }))

/-! ### Response pool (R178) -/

/-- Bytes of the response pool now reserved. -/
def State.reserved (s : State) (p : Nat) : Nat :=
  ((s.ni p).reqs.map (fun e => (e.2.map (·.resv)).getD 0)).sum +
  ((s.ni p).accs.map (fun e => (e.2.map (fun a => (a.rel.map (·.2)).sum)).getD 0)).sum +
  ((s.ni p).isQ.map (fun a => (a.beats.map (·.2.2)).sum)).sum

/-- Bytes of the pool. -/
def State.poolSize (s : State) (p : Nat) : Nat :=
  65536 - s.fld (A.NI_CHAIN_POOL p) F.NI_CHAIN_POOL_POOL_BYTES

/-! ### Endings (R209, R212, R280, R293, R294) -/

/-- R305: the block that gave a non-OK code, given the request's DEST and the answer's SRC. -/
def byOf (dest src : Gid) : Nat :=
  if src = dest then 1
  else if 160 ≤ gidPort src ∧ gidPort src < 196 then 2
  else if gidPort src = 240 then 3
  else if 144 ≤ gidPort src ∧ gidPort src < 156 then 4 else 1

/-- A non-OK ending of the unit's request: its trouble counter and the initiator capture (R293, R294). -/
def State.initErr (s : State) (p : Nat) (posted : Bool) (e : ErrEnd) : State :=
  (s.trouble p e.code).icap p { code := e.code, posted := posted, cmd := e.hdr.cmd, tag := e.hdr.tag.toNat,
                                peer := e.hdr.dest, addr := e.hdr.address.toNat, by' := e.by' }

/-- Lines spanned by `size` bytes from `addr` (R209). -/
def linesOf (addr size : Nat) : Nat := (addr % 64 + size + 63) / 64

/-- Byte enables of beat `j` of an access (R210, R212). -/
def beOf (addr size j : Nat) : BitVec 64 :=
  BitVec.ofNat 64 (((List.range 64).map (fun i =>
    let x := 64 * (addr / 64 + j) + i
    if addr ≤ x ∧ x < addr + size then 2 ^ i else 0)).sum)

/-- One 64-byte line made of the bytes at the given addresses. -/
def lineOf (data : List (Nat × Byte)) (line : Nat) : BitVec 512 :=
  BitVec.ofNat 512 ((data.map (fun e => if e.1 / 64 = line then e.2.toNat * 256 ^ (e.1 % 64) else 0)).sum)

/-- PWR_UP of port `p`. -/
def State.pwrUp (s : State) (p : Nat) : Bool := s.bit (A.NI_PORT_STATUS p) F.NI_PORT_STATUS_PWR_UP

/-- The answer on IS for a finished access (R212): DATA for LOAD and LOAD_RSV, FAIL for a failed STORE_COND, else
DONE. -/
def isAnswer (key : Nat) (a : UAcc) : IsAns :=
  let relAll := (a.rel.map (·.2)).sum
  match a.err with
  | some e => { kind := if a.op = 0 ∨ a.op = 3 then 0 else 1, tag := key, status := e.code, beats := [(0, 0, relAll)] }
  | none =>
    if a.op = 0 ∨ a.op = 3 then
      { kind := 0, tag := key, status := 0
        beats := (List.range (linesOf a.addr a.size)).map (fun j =>
          (beOf a.addr a.size j, lineOf a.data (a.addr / 64 + j),
           (a.rel.map (fun r => if r.1 = a.addr / 64 + j then r.2 else 0)).sum)) }
    else if a.wrxf then { kind := 2, tag := key, status := 0, beats := [(0, 0, relAll)] }
    else { kind := 1, tag := key, status := 0, beats := [(0, 0, relAll)] }

/-- An answer handed to IS; with PWR_UP 0 nothing is presented and the tag is free at once (R206, R289). -/
def State.present (s : State) (p : Nat) (ans : IsAns) : State :=
  if s.pwrUp p then s.modNi p (fun n => { n with isQ := n.isQ ++ [ans] })
  else s.setAcc p ans.tag none

/-- An access whose last packet has ended: its answer, its counts, its capture. Keys from 4,096 on are posted stores,
which the unit gets no answer for. -/
def State.accDone (s : State) (p key : Nat) (a : UAcc) : State :=
  let posted := decide (4096 ≤ key)
  let s := match a.err with
    | some e => s.initErr p posted e
    | none => s
  if posted then s.setAcc p key none
  else
    let s := s.ncnt p (if a.err.isSome then 16 else 15)
    (s.setAcc p key (some { a with answered := true, rel := [], data := [] })).present p (isAnswer key a)

/-- One packet of an access has ended, with bytes, a pool reservation that its bytes still hold, a WRXF, or a non-OK
code (R44). -/
def State.accEnd (s : State) (p key : Nat) (data : List (Nat × Byte)) (rel : List (Nat × Nat)) (wrxf : Bool)
    (e : Option ErrEnd) : State :=
  match s.acc p key with
  | none => s
  | some a =>
    let a := { a with left := a.left - 1, data := a.data ++ data, rel := a.rel ++ rel, wrxf := a.wrxf || wrxf,
                      err := a.err.orElse (fun _ => e) }
    if a.left = 0 ∧ !a.answered then s.accDone p key a else s.setAcc p key (some a)

/-- A port barrier has ended (R185, R186): its barrier's status is that of the first non-OK. -/
def State.portBarEnd (s : State) (p tag : Nat) (e : Option ErrEnd) : State :=
  s.modNi p (fun n => { n with
    bars := tset none n.bars tag none
    barrs := n.barrs.map (fun b => if b.wait.contains tag then
      { b with wait := b.wait.erase tag, err := b.err.orElse (fun _ => e) } else b) })

/-- A drain barrier has ended (R82). -/
def State.drainBarEnd (s : State) (p tag : Nat) (bad : Bool) : State :=
  match s.bar p tag with
  | none => s
  | some q =>
    let s := (s.setBar p tag none).outDone p q.hdr.trav.toNat
    if bad then s.sat (travDrainOf p) F.NI_TRAV_DRAIN_DRAIN_ERR else s

/-- A packet without a response goes: its drain count falls, and a SPUT of a STORE_NP counts as gone (R176). -/
def State.postedGone (s : State) (p : Nat) (o : OutPkt) : State :=
  let s := s.outDone p o.pkt.h.trav.toNat
  match o.kind with
  | .posted (some k) => s.accEnd p k [] [] false none
  | _ => s

/-- A non-posted packet ends without a response: its request goes with the given code (R73, R281, R289). -/
def State.reqFail (s : State) (p : Nat) (kind : OutKind) (h : Hdr) (code : BitVec 4) (by' : Nat) : State :=
  match kind with
  | .access k =>
    ((s.setReq p h.tag.toNat none).outDone p h.trav.toNat).accEnd p k [] [] false (some ⟨code, h, by'⟩)
  | .portBar t => (s.portBarEnd p t (some ⟨code, h, by'⟩)).outDone p h.trav.toNat
  | .drainBar t => s.drainBarEnd p t true
  | _ => s

/-! ### Route cache (R70, R74) -/

/-- R70: the set of a traverse and destination. -/
def cacheSetOf (t : Nat) (d : Gid) : Nat := 256 * t + gidPort d

/-- R74: the way has been swept away by the invalidation in progress. -/
def sweptAway (inv : Option (Option (BitVec 2) × Nat)) (k now : Nat) (w : CacheWay) : Bool :=
  match inv with
  | none => false
  | some (t, st) => st + k < now && w.at' ≤ st + k &&
      (match t with
       | none => true
       | some t => w.trav = t)

/-- The valid ways of a set, most recently used first. -/
def State.cacheWays (s : State) (p k : Nat) : List CacheWay :=
  (tget [] (s.ni p).cache k).filter (fun w => !sweptAway (s.ni p).inv k s.datum w)

/-- A set written. -/
def State.setWays (s : State) (p k : Nat) (ws : List CacheWay) : State :=
  s.modNi p (fun n => { n with cache := tset [] n.cache k ws })

/-- R70: a lookup: the route and the state with the way most recently used. -/
def State.cacheHit (s : State) (p t : Nat) (d : Gid) : Option (BitVec 64 × State) :=
  let k := cacheSetOf t d
  let ws := s.cacheWays p k
  match ws.find? (fun w => w.trav.toNat = t && w.d = d) with
  | some w => some (w.route, s.setWays p k (w :: ws.erase w))
  | none => none

/-- R70: a fill takes an invalid way or the least recently used one. -/
def State.cacheFill (s : State) (p t : Nat) (d : Gid) (r : BitVec 64) : State :=
  let k := cacheSetOf t d
  s.setWays p k (({ trav := BitVec.ofNat 2 t, d := d, route := r, at' := s.datum } :: s.cacheWays p k).take 4)

/-! ### Injection paths (R152, R155, R157) -/

/-- Class queue `c`. -/
def State.clsq (s : State) (p c : Nat) : List OutPkt := tget [] (s.ni p).clsQ c
def State.setClsq (s : State) (p c : Nat) (q : List OutPkt) : State :=
  s.modNi p (fun n => { n with clsQ := tset [] n.clsQ c q })

/-- Packets on the class path (R152). -/
def State.clsCount (s : State) (p : Nat) : Nat := ((s.ni p).clsQ.map (fun e => e.2.length)).sum

/-- R158: tag `a` is smaller than tag `b`. -/
def tagLt (a b : Nat) : Bool := 2 ^ 31 ≤ (a + 2 ^ 32 - b % 2 ^ 32) % 2 ^ 32

/-- The larger of two tags. -/
def tagMax (a b : Nat) : Nat := if tagLt a b then b else a

/-- R157: cost of a packet in flits. -/
def Pkt.cost (q : Pkt) : Nat := 1 + q.h.len.toNat

/-- R157, R159: the stride of a class. -/
def State.stride (s : State) (p c : Nat) : Nat := 65536 / s.fldNow (A.NI_WFQ_WEIGHT p) ⟨8 * c, 8⟩

/-- R155, R156: class of the class-path packets of a request with QOS `qos` that are built in this cycle. -/
def State.classOf (s : State) (p : Nat) (qos : BitVec 3) : Nat := s.fldNow (A.NI_CLASS_MAP p) ⟨4 * qos.toNat, 3⟩

/-- R157: the head of weighted queue `c` takes its tags from start tag `st`. -/
def State.tagHead (s : State) (p c st : Nat) : State :=
  match s.clsq p c with
  | [] => s
  | o :: q =>
    let f := (st + o.pkt.cost * s.stride p c) % 2 ^ 32
    (s.setClsq p c ({ o with stag := st, ftag := f } :: q)).modNi p (fun n => { n with ftags := tset 0 n.ftags c f })

/-- A packet joins its class queue; an empty weighted queue wakes (R157). -/
def State.joinClass (s : State) (p : Nat) (o : OutPkt) : State :=
  let c := o.pkt.h.cls.toNat
  let q := s.clsq p c
  let s := s.setClsq p c (q ++ [o])
  if q = [] ∧ c < 6 then s.tagHead p c (tagMax (s.fld (A.NI_WFQ_VTIME p) F.NI_WFQ_VTIME_V) (tget 0 (s.ni p).ftags c))
  else s

/-- R158: V takes a value if it is larger. -/
def State.vMax (s : State) (p t : Nat) : State :=
  let a := A.NI_WFQ_VTIME p
  s.setFld a F.NI_WFQ_VTIME_V (tagMax (s.fld a F.NI_WFQ_VTIME_V) t)

/-- R158: the last weighted packet has left the class queues. -/
def State.vEmpty (s : State) (p : Nat) : State :=
  if (List.range 6).all (fun k => (s.clsq p k).isEmpty) then
    (List.range 6).foldl (fun s k => s.vMax p (tget 0 (s.ni p).ftags k)) s
  else s

/-- Packets taken out of class queue `c` unstarted: a new head takes its tags from those of the one that went (R157), and V
moves when the last weighted packet leaves (R158). -/
def State.dropClass (s : State) (p c : Nat) (gone : OutPkt → Bool) : State :=
  let old := s.clsq p c
  let new := old.filter (fun o => !gone o)
  if new.length = old.length then s
  else
    let s := s.setClsq p c new
    if c < 6 then
      let s := if (old.head?).any gone then s.tagHead p c (tget 0 (s.ni p).ftags c) else s
      s.vEmpty p
    else s

/-- The packets of an NI's paths changed in place. -/
def State.mapPaths (s : State) (p : Nat) (f : OutPkt → OutPkt) : State :=
  s.modNi p (fun n => { n with
    mgtQ := n.mgtQ.map f, rspQ := n.rspQ.map f, barQ := n.barQ.map f
    clsQ := (List.range 7).foldl (fun q c => tset [] q c ((tget [] q c).map f)) n.clsQ })

/-- A packet of the kind waits on a path. -/
def State.inPath (s : State) (p : Nat) (f : OutPkt → Bool) : Bool :=
  let n := s.ni p
  n.mgtQ.any f || n.rspQ.any f || n.barQ.any f || (List.range 7).any (fun c => (s.clsq p c).any f)

/-- An unstarted packet taken off its path. -/
def State.leavePath (s : State) (p : Nat) (gone : OutPkt → Bool) : State :=
  let s := s.modNi p (fun n => { n with
    mgtQ := n.mgtQ.filter (fun o => !gone o), rspQ := n.rspQ.filter (fun o => !gone o)
    barQ := n.barQ.filter (fun o => !gone o) })
  (List.range 7).foldl (fun s c => s.dropClass p c gone) s

/-- A packet joins its path at its build instant (R152, R155, R185). -/
def State.joinPath (s : State) (p : Nat) (o : OutPkt) : State :=
  match o.kind with
  | .portBar _ => s.modNi p (fun n => { n with barQ := n.barQ ++ [o] })
  | .drainBar _ => s.joinClass p o
  | _ => match vcTypeOf o.pkt.h.cmd with
    | .mgt => s.modNi p (fun n => { n with mgtQ := n.mgtQ ++ [o] })
    | .rsp => s.modNi p (fun n => { n with rspQ := n.rspQ ++ [o] })
    | _ => s.joinClass p o

/-- Room on the path a packet would join (R152). -/
def State.pathRoom (s : State) (p : Nat) (o : OutPkt) : Bool :=
  match o.kind with
  | .portBar _ => true
  | _ => match vcTypeOf o.pkt.h.cmd with
    | .mgt => decide ((s.ni p).mgtQ.length < 8)
    | .rsp => true
    | _ => decide (s.clsCount p < 64)

/-! ### Building (R44, R71 to R73) -/

/-- R73: a packet without a route ends. -/
def State.noRouteEnd (s : State) (p : Nat) (o : OutPkt) : State :=
  let h := o.pkt.h
  let a := A.NI_ROUTE_STATUS p
  let s := (s.sat a F.NI_ROUTE_STATUS_NR_COUNT).setFld a F.NI_ROUTE_STATUS_LAST_NR_DEST h.dest.toNat
  match o.kind with
  | .posted _ => (s.postedGone p o).initErr p true ⟨Code.NOROUTE, h, 0⟩
  | .response => s.outDone p h.trav.toNat
  | .fill _ => s
  | k => s.reqFail p k h Code.NOROUTE 0

/-- A non-posted packet enters the table of what awaits a response. -/
def State.await (s : State) (p : Nat) (o : OutPkt) (h : Hdr) : State :=
  match o.kind with
  | .access k =>
    -- a retry of an RDX (R196) keeps the count of its EXNACKs
    let n := ((s.req p h.tag.toNat).map (·.nacks)).getD 0
    s.setReq p h.tag.toNat (some { kind := .access k, hdr := h, acc := o.acc, nacks := n, qos := o.qos })
  | .portBar t => s.setBar p t (some { kind := .portBar t, hdr := h, acc := o.acc })
  | .drainBar t => s.setBar p t (some { kind := .drainBar t, hdr := h, acc := o.acc })
  | _ => s

/-- R82: the posted bit of traverse and destination key sets when a WRP, WRM or SPUT is built. -/
def State.markPosted (s : State) (p t d : Nat) (cmd : BitVec 6) : State :=
  if cmd = Cmd.WRP ∨ cmd = Cmd.WRM ∨ cmd = Cmd.SPUT then
    s.modNi p (fun n => { n with posted := tset false n.posted (256 * t + d) true })
  else s

/-- The wait of a builder. -/
def NiSt.wait (n : NiSt) (rsp : Bool) : Option FillWait := if rsp then n.rsWait else n.rqWait

/-- A builder stops for a fill, or resumes (R72). -/
def State.setWait (s : State) (p : Nat) (rsp : Bool) (w : Option FillWait) : State :=
  let f := if rsp then F.NI_ROUTE_STATUS_RS_FILL else F.NI_ROUTE_STATUS_RQ_FILL
  (s.modNi p (fun n => if rsp then { n with rsWait := w } else { n with rqWait := w })).setFld (A.NI_ROUTE_STATUS p) f
    (if w.isSome then 1 else 0)

/-- Window offset of the table entry that a packet of port `p` needs (R68, R72). -/
def State.fillAddr (s : State) (p : Nat) (h : Hdr) : Nat :=
  routeAddr h.trav.toNat p ((s.destKey h.dest).getD 0)

/-- A builder stops, and builds the fill of the packet `o` in the current traverse (R71, R72): a CRD on the home route.
Its TAG, twice the fill's number plus the builder, is the model's (log 70). The fill counts as a packet built (R81). -/
def State.startFill (s : State) (p : Nat) (rsp : Bool) (o : OutPkt) : State :=
  let n := ((s.ni p).fillNo + 1) % 2048
  let h : Hdr := { dest := s.gid 240, src := s.gid p, cmd := Cmd.CRD, cls := 7
                   tag := BitVec.ofNat 12 (2 * n + (if rsp then 1 else 0))
                   bcount := 8, address := BitVec.ofNat 64 (s.fillAddr p o.pkt.h), trav := BitVec.ofNat 2 (s.curTrav p)
                   priv := BitVec.ofNat 2 (s.fld (A.NI_ENUM p) F.NI_ENUM_PRIV)
                   stamp := BitVec.ofNat 32 (s.nowOf p), route := s.rd (A.NI_ROUTE_HOME p) }
  let s := (s.modNi p (fun x => { x with fillNo := n })).outAdd p (s.curTrav p)
  s.setWait p rsp (some { out := o, fill := { pkt := Pkt.seal h [], kind := .fill rsp, built := s.datum } })

/-- R71: a packet is built: its header is completed in the current traverse and its route is looked up. It joins its
path at once, and can start when its route is known. The builder has room and, where the packet takes a tag of its own,
`tag` is it. -/
def State.buildNow (s : State) (p : Nat) (rsp : Bool) (o : OutPkt) (tag : Nat) : State :=
  let t := match o.kind with
    | .drainBar _ => o.pkt.h.trav.toNat
    | _ => s.curTrav p
  let (seq, s) := s.nextSeq p
  let h := { o.pkt.h with
    trav := BitVec.ofNat 2 t
    src := s.gid p
    tag := if o.own then BitVec.ofNat 12 tag else o.pkt.h.tag
    priv := BitVec.ofNat 2 (s.fld (A.NI_ENUM p) F.NI_ENUM_PRIV)
    stamp := BitVec.ofNat 32 (s.nowOf p)
    len := BitVec.ofNat 5 o.pkt.units.length
    cls := match o.qos with
      | some q => if vcTypeOf o.pkt.h.cmd = .mgt then o.pkt.h.cls else BitVec.ofNat 3 (s.classOf p q)
      | none => o.pkt.h.cls }
  let s := match o.kind with
    | .drainBar _ => s
    | _ => s.outAdd p t
  let sampled := match vcTypeOf h.cmd, o.kind with
    | .mgt, _ => false
    | _, .drainBar _ => false
    | _, _ => true
  match s.buildPoint p sampled h with
  | (s, h) =>
    let o := { o with pkt := { o.pkt with h := h }, built := s.datum, seq := seq }
    let s := s.await p o h
    match s.destKey h.dest with
    | none => s.noRouteEnd p o
    | some d =>
      let s := s.markPosted p t d h.cmd
      match s.cacheHit p t h.dest with
      | some (r, s) => s.joinPath p { o with pkt := Pkt.seal { h with route := r } o.pkt.units }
      | none => (s.joinPath p { o with ready := false }).startFill p rsp o

/-- The request builder builds what waits, in order, until a fill, a full path or the lack of a tag stops it. -/
def State.pumpReq (s : State) (p : Nat) : Nat → State
  | 0 => s
  | n + 1 =>
    match (s.ni p).rqBuild with
    | [] => s
    | o :: rest =>
      if (s.ni p).rqWait.isSome || !s.pathRoom p o then s
      else
        match (if o.own then s.freeTag p else some 0) with
        | none => s
        | some tag =>
          ((s.modNi p (fun x => { x with rqBuild := rest })).buildNow p false o tag).pumpReq p n

/-- The response builder builds what waits until a fill or a full MGT path stops it (R152). -/
def State.pumpRsp (s : State) (p : Nat) : Nat → State
  | 0 => s
  | n + 1 =>
    match (s.ni p).rsBuild with
    | [] => s
    | o :: rest =>
      if (s.ni p).rsWait.isSome || !s.pathRoom p o then s
      else ((s.modNi p (fun x => { x with rsBuild := rest })).buildNow p true o 0).pumpRsp p n

/-- Both builders go on. -/
def State.pump (s : State) (p : Nat) : State :=
  let s := s.pumpReq p (s.ni p).rqBuild.length
  s.pumpRsp p (s.ni p).rsBuild.length

/-- Packets handed to the request builder. -/
def State.buildReqs (s : State) (p : Nat) (os : List OutPkt) : State :=
  (s.modNi p (fun n => { n with rqBuild := n.rqBuild ++ os })).pump p

/-- R44, R72: a response to a request, handed to the response builder. -/
def State.respond (s : State) (p : Nat) (q : Hdr) (cmd : BitVec 6) (status : BitVec 4) (units : List (BitVec 256)) :
    State :=
  let h : Hdr := { dest := q.src, cmd := cmd, cls := q.cls, tag := q.tag, region := q.region, status := status,
                   bcount := q.bcount, address := q.address }
  (s.modNi p (fun n => { n with rsBuild := n.rsBuild ++ [{ pkt := { h := h, units := units }, kind := .response }] })).pump p

end Sys2Proof.Machine
end

