-- ==== Sys2Proof/Machine/Shadow.lean ====
section
/-!
DEFINITION. Machine/Shadow.lean: the stake registers of a block by its index (R129, R151, R448) and register shadows
(R135).
-/
namespace Sys2Proof.Machine

/-- XX_STK_BIND of block `b` (R129, R151). -/
def bindOf (b : Nat) : Nat :=
  if b < 144 then A.NI_STK_BIND b else if b < 156 then A.FED_STK_BIND (b - 144)
  else if b < 192 then A.STN_STK_BIND (b - 156) else A.GLB_STK_BIND
/-- XX_STK_STATUS of block `b`. -/
def stkStatOf (b : Nat) : Nat :=
  if b < 144 then A.NI_STK_STATUS b else if b < 156 then A.FED_STK_STATUS (b - 144)
  else if b < 192 then A.STN_STK_STATUS (b - 156) else A.GLB_STK_STATUS
/-- XX_STK_EXPn of block `b`. -/
def expOf (b n : Nat) : Nat :=
  if b < 144 then A.NI_STK_EXP b n else if b < 156 then A.FED_STK_EXP (b - 144) n
  else if b < 192 then A.STN_STK_EXP (b - 156) n else A.GLB_STK_EXP n
/-- XX_STK_SETn of block `b`. -/
def setRegOf (b n : Nat) : Nat :=
  if b < 144 then A.NI_STK_SET b n else if b < 156 then A.FED_STK_SET (b - 144) n
  else if b < 192 then A.STN_STK_SET (b - 156) n else A.GLB_STK_SET n

/-! ### Block states (R137) -/
namespace BlkSt
abbrev IDLE : Nat := 0
abbrev COLLECT : Nat := 1
abbrev EXPECT : Nat := 2
abbrev CALLED : Nat := 3
abbrev APPLYING : Nat := 4
end BlkSt

/-- State of block `b` for set `n` (R137). -/
def State.blkSt (s : State) (b n : Nat) : Nat := s.fld (setRegOf b n) F.NI_STK_SET_STATE

/-- Block index of a register's block (R129). -/
def blkIndexOf (a : Nat) : Nat :=
  match blkOf a with
  | some (.ni p, _) => p
  | some (.fed f, _) => 144 + f
  | some (.stn i, _) => 156 + i
  | _ => 192

/-- The shadow a register holds, if any. -/
def State.shadowAt (s : State) (a : Nat) : Option Shadow := s.stk.shadows.find? (fun h => h.addr = a)

/-- Shadows held by block `b` for set `n`. -/
def State.shadowsOf (s : State) (b n : Nat) : List Shadow :=
  s.stk.shadows.filter (fun h => h.blk = b && h.set = n)

/-- R135: a shadow `v` for the RWS fields of register `a`, joined to the set its block is bound to: none when refused. -/
def State.placeShadow (s : State) (a : Nat) (v : Word) : Option State :=
  let b := blkIndexOf a
  let n := s.fld (bindOf b) F.NI_STK_BIND_SET
  if !s.bit (bindOf b) F.NI_STK_BIND_VALID then none
  else if s.blkSt b n ≠ BlkSt.COLLECT then none
  else
    match s.shadowAt a with
    | some h => if h.set = n then
        some { s with stk := { s.stk with shadows := s.stk.shadows.map (fun x => if x.addr = a then { x with val := v } else x) } }
      else none
    | none =>
      let s := { s with stk := { s.stk with shadows := s.stk.shadows ++ [Shadow.mk b a n v] } }
      some (s.setFld (setRegOf b n) F.NI_STK_SET_SHADOWS (s.shadowsOf b n).length)

/-- The RWS fields of a register. -/
def RegRow.rwsFlds (r : RegRow) : List Fld := (r.flds.filter (fun e => e.2 = .rws)).map (·.1)

/-- A register word with only its RWS fields, the rest 0. -/
def RegRow.rwsPart (r : RegRow) (x : Word) : Word :=
  r.rwsFlds.foldl (fun y f => f.put y (f.get x)) 0

/-- A register word with its RWS fields replaced by those of `v`. -/
def RegRow.withRws (r : RegRow) (x v : Word) : Word := r.rwsFlds.foldl (fun y f => f.put y (f.get v)) x

/-- R135, mixed registers: the write's RWS part is the same as the shadow held for a set, or as the value in effect
when none is held. -/
def State.rwsSame (s : State) (a : Nat) (row : RegRow) (data : Word) : Bool :=
  match s.shadowAt a with
  | some h => row.rwsPart h.val = row.rwsPart data
  | none => row.rwsPart (s.rd a) = row.rwsPart data

/-- R135: the RWS part of a write of a register with RWS fields. In a register of RWS fields only every write places a
shadow; in a mixed register only one that changes the RWS part. None: refused. -/
def State.rwsWrite (s : State) (a : Nat) (row : RegRow) (data : Word) : Option State :=
  let mixed := row.flds.any (fun e => e.2 ≠ .rws)
  if mixed && s.rwsSame a row data then some s else s.placeShadow a (row.rwsPart data)

end Sys2Proof.Machine
end

