-- ==== Sys2Proof/Machine/Chains.lean ====
section
/-!
DEFINITION. Machine/Chains.lean: the guaranteed plane: launch of G flits through the plats (R92 to R94), chain sources
(R96 to R100, R107), chain destinations (R101, R103, R117), patches (R104, R105), swaps (R106) and the taking effect and
removal of chain entries (R108). Chain ends are NIs and federation agents, named by block index (R95, R407).
-/
namespace Sys2Proof.Machine

/-! ### Launch at a station (R92) -/

/-- R92: cycles from the arrival of a G flit on input `i` to its launch. -/
def State.bypass (s : State) (st i : Nat) : Nat :=
  if i < 6 && stateOfGood (s.goodRx st i) = LinkSt.HALF then 4 else 3

/-- A G flit discarded in whole or for an output: its count, LAST_CHAIN, cause 5 and counter 35 (R92, R296). -/
def State.gErr (s : State) (st : Nat) (f : Fld) (g : GFlit) : State :=
  (((s.sat (A.STN_GERR st) f).setFld (A.STN_GERR st) F.STN_GERR_LAST_CHAIN g.chain.toNat).stnCause st 5).scnt st 35

/-- The G flit leaves station `st` on output `o` in cycle `t`. -/
def State.gSend (s : State) (st o t : Nat) (g : GFlit) : State :=
  let s := s.modStn st (fun x => { x with gout := x.gout.filter (fun e => decide (s.datum ≤ e.2 + 2)) ++ [(o, t)] })
  let s := match platOf o with
    | some n => s.scnt st (12 + n)
    | none => s
  if o < 6 then s.launch st o ⟨.g g, none⟩ t
  else if o < 10 then s.modChain (4 * st + (o - 6)) (fun c => { c with rx := c.rx ++ [GArrival.mk g t] })
  else
    match fedOfStation st with
    | some f => s.modChain (fedBlk f) (fun c => { c with rx := c.rx ++ [GArrival.mk g t] })
    | none => s

/-- R94: the second half of a G flit that output `o` launched in the parcel before stands in the parcel of cycle `t`; the
entry there is ignored. -/
def State.gHalf (s : State) (st o t : Nat) : Bool :=
  s.halfOut st o && (s.stn st).gout.any (fun g => g.1 = o && g.2 + 1 = t)

/-- R92, R94: the entry of output `o` in force `b` cycles on names input `i`. -/
def State.gNames (s : State) (st i o b : Nat) : Bool :=
  entryIn (s.entryAt st o (s.nowOf (stnBlk st) + b)) = i && !s.gHalf st o (s.datum + b)

/-- R92 on one output: the entry in force at the launch decides (R105, R107). -/
def State.gOutput (s : State) (st i o b : Nat) (g : GFlit) : State :=
  if !s.gNames st i o b then s
  else if entryChk (s.entryAt st o (s.nowOf (stnBlk st) + b)) ≠ g.chain.toNat % 4096 then s.gErr st F.STN_GERR_MISMATCH g
  else if o < 6 && (s.outState st o = LinkSt.DOWN || s.outState st o = LinkSt.RETIRED) then
    s.gErr st F.STN_GERR_DEADLINK g
  else s.gSend st o (s.datum + b) g

/-- Outputs that have a plat (R89). -/
def platOutputs : List Nat := [0, 1, 2, 3, 4, 5, 6, 7, 8, 9, 11]

/-- R92: launch, fork or discard of a G flit that reaches input `i` in this cycle. -/
def State.gLaunch (s : State) (st i : Nat) (g : GFlit) : State :=
  let b := s.bypass st i
  if platOutputs.any (fun o => s.gNames st i o b) then
    platOutputs.foldl (fun s o => s.gOutput st i o b g) s
  else s.gErr st F.STN_GERR_ORPHAN g

/-- R40: a G flit after the link it has just crossed, by what its codes tell. -/
def GFlit.after (g : GFlit) : LinkErr → GFlit
  | .sbe b => if inCecc b.val then g else { g with err := g.err.flip b }
  | .deccDue p x => g.corrupt p x
  | _ => g

/-- R40: the station checks DECC of a G flit and counts any error, its own link's or one it arrived with; CECC errors it
corrects. -/
def State.gChecked (s : State) (st i : Nat) (g : GFlit) (e : LinkErr) : State :=
  let s := match e with
    | .sbe b => if inCecc b.val then s.corrected st i b.val else s
    | _ => s
  match g.err with
  | .none => s
  | .sbe b => s.corrected st i b.val
  | .due => s.deccDueCount st i

/-- G_FLIT_ARRIVE (R40, R42, R56, R92): the G flit at the front of the link into input `i` reaches the station. A
payload error is counted and the flit goes on as received (R40); a sideband error that cannot be corrected discards it
(R42). -/
def execGFlitArrive (st : Fin 36) (i : Fin 12) (e : LinkErr) (s : State) : Out :=
  let st := st.val
  let i := i.val
  match s.front st i with
  | some ⟨.g g, cret⟩ =>
    if !s.rxFree st i then .next s
    else if e = .ceccDue then .next ((s.popWire st i).ceccDue st i)
    else
      match ((s.popWire st i).takeCret st i ⟨.g g, cret⟩).forcedErr st i e g.payload g.side with
      | (s, e) => .next ((s.gChecked st i (g.after e) e).gLaunch st i (g.after e))
  | _ => .next s

/-! ### Chain entries by block index (R95, R407) -/

/-- XX_CHAIN_SRC_CFGk of block `b`. -/
def srcCfgOf (b k : Nat) : Nat := if b < 144 then A.NI_CHAIN_SRC_CFG b k else A.FED_CHAIN_SRC_CFG (b - 144) k
/-- XX_CHAIN_SRC_SCHk of block `b`. -/
def srcSchOf (b k : Nat) : Nat := if b < 144 then A.NI_CHAIN_SRC_SCH b k else A.FED_CHAIN_SRC_SCH (b - 144) k
/-- XX_CHAIN_SRC_STATk of block `b`. -/
def srcStatOf (b k : Nat) : Nat := if b < 144 then A.NI_CHAIN_SRC_STAT b k else A.FED_CHAIN_SRC_STAT (b - 144) k
/-- XX_CHAIN_DST_CFGk of block `b`. -/
def dstCfgOf (b k : Nat) : Nat := if b < 144 then A.NI_CHAIN_DST_CFG b k else A.FED_CHAIN_DST_CFG (b - 144) k
/-- XX_CHAIN_DST_STATk of block `b`. -/
def dstStatOf (b k : Nat) : Nat := if b < 144 then A.NI_CHAIN_DST_STAT b k else A.FED_CHAIN_DST_STAT (b - 144) k

/-- Source entry `k` of block `b` is valid. -/
def State.srcValid (s : State) (b k : Nat) : Bool := s.bit (srcCfgOf b k) F.NI_CHAIN_SRC_CFG_VALID
/-- Destination entry `k` of block `b` is valid. -/
def State.dstValid (s : State) (b k : Nat) : Bool := s.bit (dstCfgOf b k) F.NI_CHAIN_DST_CFG_VALID

/-- The source queue of entry `k`. -/
def State.srcQueue (s : State) (b k : Nat) : List SrcFlit := tget [] (s.chain b).src k
/-- The source queue written, with OCC and MAX_OCC. -/
def State.setSrcQueue (s : State) (b k : Nat) (q : List SrcFlit) : State :=
  let s := (s.modChain b (fun c => { c with src := tset [] c.src k q })).setFld (srcStatOf b k) F.NI_CHAIN_SRC_STAT_OCC
    q.length
  s.setFld (srcStatOf b k) F.NI_CHAIN_SRC_STAT_MAX_OCC (max (s.fld (srcStatOf b k) F.NI_CHAIN_SRC_STAT_MAX_OCC) q.length)

/-- The receive queue of entry `k`. -/
def State.dstQueue (s : State) (b k : Nat) : List GArrival := tget [] (s.chain b).dst k
/-- The receive queue written, with OCC. -/
def State.setDstQueue (s : State) (b k : Nat) (q : List GArrival) : State :=
  (s.modChain b (fun c => { c with dst := tset [] c.dst k q })).setFld (dstStatOf b k) F.NI_CHAIN_DST_STAT_OCC q.length

/-- CHAIN_LOSS of an NI (R312); agents have no such counter. -/
def State.chainLoss (s : State) (b n : Nat) : State := if b < 144 then s.ncnt b 23 n else s

/-- Flits of a source entry discarded and counted in DROPS. -/
def State.srcDrops (s : State) (b k n : Nat) : State :=
  (s.sat (srcStatOf b k) F.NI_CHAIN_SRC_STAT_DROPS n).chainLoss b n

/-- A count of a destination entry raised. -/
def State.dstLoss (s : State) (b k : Nat) (f : Fld) (n : Nat) : State := (s.sat (dstStatOf b k) f n).chainLoss b n

/-- Every flit of a source queue is discarded (R108, R289, R374). -/
def State.dropSrcQueue (s : State) (b k : Nat) : State :=
  let n := (s.srcQueue b k).length
  if n = 0 then s else (s.setSrcQueue b k []).srcDrops b k n

/-- Every flit of a receive queue is discarded and counted in LOST (R108, R288, R289). -/
def State.dropDstQueue (s : State) (b k : Nat) : State :=
  let n := (s.dstQueue b k).length
  if n = 0 then s else (s.setDstQueue b k []).dstLoss b k F.NI_CHAIN_DST_STAT_LOST n

/-- Every source queue of a block dropped. -/
def State.dropAllSrc (s : State) (b : Nat) : State := (List.range 64).foldl (fun s k => s.dropSrcQueue b k) s
/-- Every receive queue of a block dropped. -/
def State.dropAllDst (s : State) (b : Nat) : State := (List.range 64).foldl (fun s k => s.dropDstQueue b k) s

/-- R97: NI_CHAIN_POOL follows the valid entries. -/
def State.chainPool (s : State) (p : Nat) : State :=
  if p < 144 then
    let a := ((List.range 64).filter (fun k => s.srcValid p k)).length
    let d := ((List.range 64).filter (fun k => s.dstValid p k)).length
    ((s.setFld (A.NI_CHAIN_POOL p) F.NI_CHAIN_POOL_SRC_ACTIVE a).setFld (A.NI_CHAIN_POOL p) F.NI_CHAIN_POOL_DST_ACTIVE
      d).setFld (A.NI_CHAIN_POOL p) F.NI_CHAIN_POOL_POOL_BYTES (512 * a + 256 * d)
  else s

/-- R100, R108: a change of a source entry's configuration register at a stake's effective instant: taking effect or
removal. -/
def State.srcChanged (s : State) (b k : Nat) (was : Bool) : State :=
  let is := s.srcValid b k
  if is && !was then
    ((s.modChain b (fun c => { c with src := tset [] c.src k [] })).wr (srcStatOf b k) 0).chainPool b
  else if was && !is then (s.dropSrcQueue b k).chainPool b
  else s

/-- R108: the same for a destination entry. -/
def State.dstChanged (s : State) (b k : Nat) (was : Bool) : State :=
  let is := s.dstValid b k
  if is && !was then
    ((s.modChain b (fun c => { c with dst := tset [] c.dst k [], scan := tset none c.scan k none })).wr (dstStatOf b k)
      0).chainPool b
  else if was && !is then (s.dropDstQueue b k).chainPool b
  else s

/-! ### Injection (R96, R98, R103, R107, R374) -/

/-- R96: `d` is an injection instant of entry `k` of block `b`. -/
def State.instant (s : State) (b k d : Nat) : Bool :=
  let a := srcSchOf b k
  let pc := platLen (s.fld a F.NI_CHAIN_SRC_SCH_PERIOD)
  (List.range (s.fld a F.NI_CHAIN_SRC_SCH_COUNT)).any (fun j =>
    ((d : Int) - s.fld a F.NI_CHAIN_SRC_SCH_OFFSET - j * s.fld a F.NI_CHAIN_SRC_SCH_SPACING) % pc = 0)

/-- R107: a pending RWS write of the entry in a stake whose quiet window [T − 128, T) holds now. -/
def State.quiet (s : State) (b k : Nat) : Bool :=
  s.stk.shadows.any (fun h => h.blk = b && (h.addr = srcCfgOf b k || h.addr = srcSchOf b k) &&
    (let st := s.blkSt b h.set
     let t := (tget {} s.stk.blks (8 * b + h.set)).t
     (st = BlkSt.EXPECT || st = BlkSt.CALLED) && decide (t ≤ s.nowOf b + 128) && decide (s.nowOf b < t)))

/-- R374: the modes in which an initiator is restricted; a host pair's port is exempt; after a trip R347 holds in its
place until the next boot. -/
def State.restricted (s : State) (p : Nat) : Bool :=
  (s.mode = Mode.ENUMERATE || s.mode = Mode.DIAGNOSE || s.mode = Mode.SAFE) && !s.host.halt &&
  !s.bit (A.NI_ENUM p) F.NI_ENUM_HOST_PAIR

/-- R347 step 2: after a trip nothing further is started until the next reset. -/
def State.tripped (s : State) : Bool := s.host.halt

/-- The source entry whose injection instant this cycle is for block `b`: the lowest valid one (R96). -/
def State.instantEntry (s : State) (b : Nat) : Option Nat :=
  (List.range 64).find? (fun k => s.srcValid b k && s.instant b k (s.nowOf b) && !s.quiet b k)

/-- The entry whose instant this cycle is and the flit that goes (R98, R103): the oldest ready one, or, when the queue
is empty, a pending probe of the entry (none). -/
def State.injects (s : State) (b : Nat) : Option (Nat × Option SrcFlit) :=
  if s.tripped || (decide (b < 144) && s.restricted b) then none
  else
    match s.instantEntry b with
    | none => none
    | some k =>
      match s.srcQueue b k with
      | f :: _ => if f.ready ≤ s.nowOf b then some (k, some f) else none
      | [] =>
        if decide (b < 144) && s.bit (A.NI_CHAIN_CTL b) F.NI_CHAIN_CTL_PROBE_PEND &&
            s.fld (A.NI_CHAIN_CTL b) F.NI_CHAIN_CTL_PROBE_IDX = k then some (k, none)
        else none

/-- Station and input at which a chain end drives its flits (R34, R98, R407). -/
def inputOf (b : Nat) : Nat × Nat := if b < 144 then (b / 4, 6 + b % 4) else (stationOfFed (b - 144), 11)

/-- Quadrant of a station (R183). -/
def quadOf (st : Nat) : Nat := (if 3 ≤ st % 6 then 1 else 0) + (if 3 ≤ st / 6 then 2 else 0)

/-- A G flit driven into the station by block `b`, with the oldest credit return that its NI owes (R53). -/
def State.drive (s : State) (b : Nat) (g : GFlit) : State :=
  let cret := if b < 144 then (s.ni b).lrx.ret.head? else none
  let s := s.sendWire (inputOf b).1 (inputOf b).2 ⟨.g g, cret⟩ s.datum
  let s := s.modChain b (fun c => { c with drove := s.datum + 1 })
  if b < 144 then
    let s := s.modNi b (fun n => { n with lrx := { n.lrx with ret := n.lrx.ret.tail }, drove := s.datum + 1 })
    (s.ncnt b 7).gcnt (54 + quadOf (b / 4))
  else s

/-- The chain end may drive a flit in this cycle: it has driven none (R98: the oldest flit in cycle a, one flit a cycle). -/
def State.driveFree (s : State) (b : Nat) : Bool :=
  decide ((s.chain b).drove ≤ s.datum) && (decide (144 ≤ b) || decide ((s.ni b).drove ≤ s.datum))

/-- CHAIN_INJECT (R98, R103): in an injection instant the chain end drives the oldest queued flit, a pending probe when
the queue is empty, or nothing. CHAIN is read from the entry as the flit goes, also after a rewrite that changed it while the
flit was queued (DESIGN CHOICE, log 71: R100 does not say which of the two instants fixes it). -/
def execChainInject (b : Fin 156) (s : State) : Out :=
  let b := b.val
  if !s.driveFree b then .next s else
  match s.injects b with
  | none => .next s
  | some (k, some f) =>
    let g : GFlit := { flags := f.flags, chain := BitVec.ofNat 14 (s.fld (srcCfgOf b k) F.NI_CHAIN_SRC_CFG_CHAIN),
                       seq := f.seq, stamp := f.stamp, payload := f.payload }
    .next ((s.setSrcQueue b k (s.srcQueue b k).tail).drive b g)
  | some (k, none) =>
    let a := s.nowOf b
    let g : GFlit := { flags := 4, chain := BitVec.ofNat 14 (s.fld (srcCfgOf b k) F.NI_CHAIN_SRC_CFG_CHAIN),
                       seq := BitVec.ofNat 6 (s.fld (srcStatOf b k) F.NI_CHAIN_SRC_STAT_SEQ), stamp := BitVec.ofNat 16 a,
                       payload := BitVec.ofNat 256 (a % 2 ^ 64) }
    .next (((s.drive b g).wr (A.NI_CHAIN_PROBE_TX b) (BitVec.ofNat 64 a)).setFld (A.NI_CHAIN_CTL b)
      F.NI_CHAIN_CTL_PROBE_PEND 0)

/-- A write of NI_CHAIN_CTL (R103). A write with PROBE_GO = 0 may change PROBE_IDX while a probe is pending; the probe then
waits for the instants of the new entry (DESIGN CHOICE, log 71: R103 refuses only PROBE_GO = 1). -/
def State.writeChainCtl (s : State) (p : Nat) (r : Req) : State × BitVec 4 :=
  let a := A.NI_CHAIN_CTL p
  if !isFmp r && reqFld r F.NI_CHAIN_CTL_PROBE_IDX ≠ s.fld a F.NI_CHAIN_CTL_PROBE_IDX then (s, Code.DENY)
  else if reqFld r F.NI_CHAIN_CTL_PROBE_GO = 0 then
    (s.setFld a F.NI_CHAIN_CTL_PROBE_IDX (reqFld r F.NI_CHAIN_CTL_PROBE_IDX), Code.OK)
  else if s.bit a F.NI_CHAIN_CTL_PROBE_PEND then (s, Code.DENY)
  else
    ((s.setFld a F.NI_CHAIN_CTL_PROBE_IDX (reqFld r F.NI_CHAIN_CTL_PROBE_IDX)).setFld a F.NI_CHAIN_CTL_PROBE_PEND 1,
     Code.OK)

/-- CHAIN_PROBE_GO (R103): a write of NI_CHAIN_CTL is served. -/
def execChainProbeGo (p : Fin 144) (r : Req) (s : State) : Out :=
  .next (s.serve (A.NI_CHAIN_CTL p.val) r (·.writeChainCtl p.val r))

/-! ### Reception (R101, R103, R117) -/

/-- The destination entry of a chain. -/
def State.dstEntry (s : State) (b : Nat) (c : BitVec 14) : Option Nat :=
  (List.range 64).find? (fun k => s.dstValid b k && s.fld (dstCfgOf b k) F.NI_CHAIN_DST_CFG_CHAIN = c.toNat)

/-- A G flit with no matching entry; agents count none. -/
def State.unknownFlit (s : State) (b : Nat) : State :=
  if b < 144 then s.sat (A.NI_CHAIN_STATUS b) F.NI_CHAIN_STATUS_UNKNOWN else s

/-- A slot write joins those waiting for their write cycle (R120). -/
def State.queueSlot (s : State) (p : Nat) (w : SlotW) : State :=
  s.modNi p (fun n => { n with slotW := n.slotW ++ [w] })

/-- R117, R120: a flit for a destination entry in STATE mode waits for its write cycle; `gap` is the gap found in step 4 of
R101. With a span above 1 its scan index is found when it is written. -/
def State.stateFlit (s : State) (p k gap : Nat) (g : GFlit) : State :=
  let b := s.fld (dstCfgOf p k) F.NI_CHAIN_DST_CFG_SLOT
  let m := s.fld (A.NI_STATE_CFG p b) F.NI_STATE_CFG_SPAN
  s.queueSlot p { slot := b, value := g.payload.setWidth 512, mark := g.flags.getLsbD 1, stamp := g.stamp.toNat,
                  bits := 16, chain := true, due := s.datum + 5,
                  scan := if m ≤ 1 then none else some ⟨k, g.flags.getLsbD 0, gap, m⟩ }

/-- R102: a flit for a destination entry in PORT mode joins its receive queue; at an agent it waits for the link
(R407). -/
def State.portFlit (s : State) (b k : Nat) (x : GArrival) : State :=
  if 8 ≤ (s.dstQueue b k).length then
    let first := s.fld (dstStatOf b k) F.NI_CHAIN_DST_STAT_OVERRUN = 0
    let s := s.dstLoss b k F.NI_CHAIN_DST_STAT_OVERRUN 1
    if first && decide (b < 144) then s.niCause b 9 else s
  else s.setDstQueue b k (s.dstQueue b k ++ [x])

/-- The target side of port `p` takes packets normally (R286, R287). -/
def State.enabled (s : State) (p : Nat) : Bool := s.fld (A.NI_CTL p) F.NI_CTL_STATE = 1

/-- R287, R125: a G flit for a port that is not ENABLED. -/
def State.gDropped (s : State) (p : Nat) (g : GFlit) : State :=
  let s := s.sat (A.NI_SINK p) F.NI_SINK_G_DROP
  if (s.dstEntry p g.chain).any (fun k => s.bit (dstCfgOf p k) F.NI_CHAIN_DST_CFG_MODE) then
    s.sat (A.NI_STATE_COUNT_A p) F.NI_STATE_COUNT_A_DISCARD
  else s

/-- R101: the steps taken with a G flit at chain end `b`. -/
def State.takeG (s : State) (b : Nat) (x : GArrival) : State :=
  let g := x.g
  if decide (b < 144) && !s.enabled b then s.gDropped b g
  else if g.err = .due then
    match s.dstEntry b g.chain with
    | some k => s.dstLoss b k F.NI_CHAIN_DST_STAT_DUE 1
    | none => s.unknownFlit b
  else
    match s.dstEntry b g.chain with
    | none => s.unknownFlit b
    | some k =>
      if g.flags.getLsbD 2 && decide (b < 144) then
        let a := A.NI_CHAIN_PROBE_RXID b
        let s := s.wr (A.NI_CHAIN_PROBE_RX b) (BitVec.ofNat 64 (s.nowOf b))
        ((s.setFld a F.NI_CHAIN_PROBE_RXID_CHAIN g.chain.toNat).setFld a F.NI_CHAIN_PROBE_RXID_VALID 1).setFld a
          F.NI_CHAIN_PROBE_RXID_SENT g.payload.toNat
      else
        let st := dstStatOf b k
        let gap := (g.seq.toNat + 64 - s.fld st F.NI_CHAIN_DST_STAT_SEQ_EXP) % 64
        let s := if gap ≠ 0 && !g.flags.getLsbD 2 then s.dstLoss b k F.NI_CHAIN_DST_STAT_LOST gap else s
        let s := if g.flags.getLsbD 2 then s else s.setFld st F.NI_CHAIN_DST_STAT_SEQ_EXP (g.seq.toNat + 1)
        if s.bit (dstCfgOf b k) F.NI_CHAIN_DST_CFG_MODE && decide (b < 144) then s.stateFlit b k gap g
        else s.portFlit b k x

/-- R101 step 1: the flit after its last hop. R101 speaks of DECC alone; a flit whose CECC cannot be corrected is taken as one
whose DECC cannot (DESIGN CHOICE, log 71). -/
def GFlit.lastHop (g : GFlit) (e : LinkErr) : GFlit := if e = .ceccDue then { g with err := .due } else g.after e

/-- CHAIN_FLIT_RECEIVE (R101 to R103, R117, R287): the G flit that reached the chain end in this cycle is taken. -/
def execChainFlitReceive (h : GHop) (s : State) : Out :=
  let b := h.b.val
  match (s.chain b).rx with
  | [] => .next s
  | x :: rest =>
    if s.datum < x.at' then .next s
    else
      let s := s.modChain b (fun c => { c with rx := rest })
      let s := if b < 144 then s.ncnt b 9 else s
      .next (s.takeG b { x with g := x.g.lastHop h.err })

/-! ### Patches and swaps (R104 to R106) -/

/-- A plat of the station is LOCKED. -/
def State.anyLocked (s : State) (st : Nat) : Bool :=
  (List.range 11).any (fun n => s.bit (A.STN_PLAT_CTL st n) F.STN_PLAT_CTL_LOCKED)

/-- A write of STN_PLAT_PATCH (R105). -/
def State.writePatch (s : State) (st : Nat) (r : Req) : State × BitVec 4 :=
  let a := A.STN_PLAT_PATCH st
  let n := reqFld r F.STN_PLAT_PATCH_PLAT
  let k := reqFld r F.STN_PLAT_PATCH_PARCEL
  let len := s.bankLen st n (s.platBank st n)
  if 11 ≤ n ∨ len ≤ k then (s, Code.DENY)
  else
    let go := reqFld r F.STN_PLAT_PATCH_GO = 1
    if go ∧ (s.bit a F.STN_PLAT_PATCH_PENDING ∨ s.anyLocked st) then (s, Code.DENY)
    else
      let t := ((s.setFld a F.STN_PLAT_PATCH_PARCEL k).setFld a F.STN_PLAT_PATCH_PLAT n).setFld a
        F.STN_PLAT_PATCH_ENTRY (reqFld r F.STN_PLAT_PATCH_ENTRY)
      if !go then (t, Code.OK)
      else
        let f := roundUp (s.nowOf (stnBlk st) + 4) len
        (((t.setFld a F.STN_PLAT_PATCH_PENDING 1).wr (A.STN_PLAT_PATCH_TIME st) (BitVec.ofNat 64 f)).modStn st (fun x =>
          { x with patch := some (n, k, reqFld r F.STN_PLAT_PATCH_ENTRY) }), Code.OK)

/-- PLAT_PATCH_GO (R105): a write of STN_PLAT_PATCH is served. -/
def execPlatPatchGo (st : Fin 36) (r : Req) (s : State) : Out :=
  .next (s.serve (A.STN_PLAT_PATCH st.val) r (·.writePatch st.val r))

/-- PLAT_PATCH_APPLY (R105): at the frame start F the patched entry takes its new value in the active bank. -/
def execPlatPatchApply (st : Fin 36) (s : State) : Out :=
  let st := st.val
  match (s.stn st).patch with
  | none => .next s
  | some (n, k, e) =>
    if s.nowOf (stnBlk st) < (s.rd (A.STN_PLAT_PATCH_TIME st)).toNat then .next s
    else
      let s := s.modStn st (fun x => { x with patch := none })
      .next ((s.wrMem (platAddr st n (s.platBank st n) k) e 2).setFld (A.STN_PLAT_PATCH st) F.STN_PLAT_PATCH_PENDING 0)

/-- A write of STN_PLAT_CTLn (R104, R106, R135): BANK is RWS; a length code may not change while its bank is active or
the plat is LOCKED. -/
def State.writePlatCtl (s : State) (st n : Nat) (r : Req) : State × BitVec 4 :=
  let a := A.STN_PLAT_CTL st n
  let moves (f : Fld) (bank : Nat) : Bool :=
    reqFld r f ≠ s.fld a f &&
      (4 < reqFld r f || s.platBank st n = bank || s.bit a F.STN_PLAT_CTL_LOCKED)
  if moves F.STN_PLAT_CTL_LEN0 0 || moves F.STN_PLAT_CTL_LEN1 1 then (s, Code.DENY)
  else
    match rowAt a with
    | none => (s, Code.TGTERR)
    | some row =>
      match s.rwsWrite a row r.data with
      | none => (s, Code.DENY)
      | some t =>
        ((t.setFld a F.STN_PLAT_CTL_LEN0 (reqFld r F.STN_PLAT_CTL_LEN0)).setFld a F.STN_PLAT_CTL_LEN1
          (reqFld r F.STN_PLAT_CTL_LEN1), Code.OK)

/-! ### Horizon (R111) -/

/-- The least wait from datum `d` until a G flit can arrive for a parcel of the bank: b before the parcel (R92). -/
def State.bankHorizon (s : State) (st n bank d : Nat) : Nat :=
  let p := s.bankLen st n bank
  (List.range p).foldl (fun best k =>
    let e := s.platAt st n bank k
    if entryIn e = 0xE ∨ entryIn e = 0xF then best
    else
      let b := s.bypass st (entryIn e)
      min best ((k + p * 1024 - (d + b) % p) % p)) 1024

/-- A stake whose expectation the station has received, and which has not applied or aborted, holds a BANK shadow of
the plat. -/
def State.bankStaged (s : State) (st n : Nat) : Bool :=
  s.stk.shadows.any (fun h => h.addr = A.STN_PLAT_CTL st n &&
    (s.blkSt (stnBlk st) h.set = BlkSt.EXPECT || s.blkSt (stnBlk st) h.set = BlkSt.CALLED))

/-- R111, R331: STN_HORIZON.NEXT; a pending patch counts from its acceptance. -/
def State.horizon (s : State) (st : Nat) : Nat :=
  let d := s.nowOf (stnBlk st)
  let h := (List.range 11).foldl (fun best n =>
    let x := s.bankHorizon st n (s.platBank st n) d
    let y := if s.bankStaged st n then s.bankHorizon st n (1 - s.platBank st n) d else 1024
    min best (min x y)) 1024
  match (s.stn st).patch with
  | none => h
  | some (n, k, e) =>
    if entryIn e = 0xE ∨ entryIn e = 0xF then h
    else
      let p := s.bankLen st n (s.platBank st n)
      min h ((k + p * 1024 - (d + s.bypass st (entryIn e)) % p) % p)

/-- RESV_COUNT (R114): entries of the active bank that are neither FREE nor GUARD. -/
def State.resvCount (s : State) (st n : Nat) : Nat :=
  let b := s.platBank st n
  ((List.range (s.bankLen st n b)).filter (fun k => entryIn (s.platAt st n b k) < 0xE)).length

end Sys2Proof.Machine
end

