-- ==== Sys2Proof/Machine/BestEffort.lean ====
section
/-!
DEFINITION. Machine/BestEffort.lean: the injection scheduler of an NI (R152 to R158, R180, R181, R184), sluice lists
(R160 to R162), shapers (R163 to R165), the policer of an agent (R166, R167) and histograms (R168, R169).
-/
namespace Sys2Proof.Machine

/-! ### Buckets (R163) -/

/-- A 32-bit two's-complement level. -/
def toI32 (x : Nat) : Int := if x % 2 ^ 32 < 2 ^ 31 then (x % 2 ^ 32 : Nat) else (x % 2 ^ 32 : Nat) - (2 ^ 32 : Int)
/-- Its 32-bit code. -/
def ofI32 (x : Int) : Nat := (x % 2 ^ 32).toNat

/-- One refill of a level with `rate`, capped at `size` flits (R163). -/
def refill (level rate size : Nat) : Nat := ofI32 (min (toI32 level + rate) (size * 65536))

/-- A level charged with `l` flits (R164, R166). -/
def charge (level l : Nat) : Nat := ofI32 (toI32 level - l * 65536)

/-- Both levels of a level register changed. -/
def levels (x : Word) (f g : Nat → Nat) : Word :=
  F.NI_SHAPE_LEVEL_LEVEL_P.put (F.NI_SHAPE_LEVEL_LEVEL_C.put x (f (F.NI_SHAPE_LEVEL_LEVEL_C.get x)))
    (g (F.NI_SHAPE_LEVEL_LEVEL_P.get x))

/-- Class `c` of port `p` is shaped in this cycle (R165). -/
def State.shaped (s : State) (p c : Nat) : Bool := (s.fldNow (A.NI_SHAPE_CTL p) F.NI_SHAPE_CTL_EN).testBit c

/-- R163: one fclk of refill of class `c`, in the cycle that begins. -/
def State.refillShaper (s : State) (p c : Nat) : State :=
  if !s.shaped p c then s
  else
    let r := s.rd (A.NI_SHAPE_RATE p c)
    let z := s.rd (A.NI_SHAPE_SIZE p c)
    s.wr (A.NI_SHAPE_LEVEL p c) (levels (s.rd (A.NI_SHAPE_LEVEL p c))
      (fun l => refill l (F.NI_SHAPE_RATE_RATE_C.get r) (F.NI_SHAPE_SIZE_SIZE_C.get z))
      (fun l => refill l (F.NI_SHAPE_RATE_RATE_P.get r) (F.NI_SHAPE_SIZE_SIZE_P.get z)))

/-- R163: one fclk of refill of an agent's policer. -/
def State.refillPolicer (s : State) (f : Nat) : State :=
  let r := s.rd (A.FED_POLICE_RATE f)
  let z := s.rd (A.FED_POLICE_SIZE f)
  s.wr (A.FED_POLICE_LEVEL f) (levels (s.rd (A.FED_POLICE_LEVEL f))
    (fun l => refill l (F.FED_POLICE_RATE_RATE_C.get r) (F.FED_POLICE_SIZE_SIZE_C.get z))
    (fun l => refill l (F.FED_POLICE_RATE_RATE_P.get r) (F.FED_POLICE_SIZE_SIZE_P.get z)))

/-- R165: both buckets of class `c` reset at the end of the serving cycle: to 0, or to full under RELOAD. -/
def State.resetShaper (s : State) (p c : Nat) : State :=
  let z := s.rd (A.NI_SHAPE_SIZE p c)
  let full := (s.fld (A.NI_SHAPE_CTL p) F.NI_SHAPE_CTL_RELOAD).testBit c
  s.wrLate (A.NI_SHAPE_LEVEL p c) (levels 0 (fun _ => if full then F.NI_SHAPE_SIZE_SIZE_C.get z * 65536 else 0)
    (fun _ => if full then F.NI_SHAPE_SIZE_SIZE_P.get z * 65536 else 0))

/-- R165: a write of a shaper register. Reserved rates, sizes below 17 are refused (R6). -/
def State.writeShaper (s : State) (p : Nat) (reg : ShaperReg) (r : Req) : State × BitVec 4 :=
  match reg with
  | .ctl =>
    let old := s.fld (A.NI_SHAPE_CTL p) F.NI_SHAPE_CTL_EN
    match s.plainWrite (A.NI_SHAPE_CTL p) r with
    | (t, c) =>
      if c ≠ Code.OK then (s, c)
      else ((List.range 7).foldl (fun t k =>
        if (reqFld r F.NI_SHAPE_CTL_EN).testBit k && !old.testBit k then t.resetShaper p k else t) t, c)
  | .rate k =>
    if 65536 < reqFld r F.NI_SHAPE_RATE_RATE_C ∨ 65536 < reqFld r F.NI_SHAPE_RATE_RATE_P then (s, Code.DENY)
    else
      match s.plainWrite (A.NI_SHAPE_RATE p k.val) r with
      | (t, c) => if c ≠ Code.OK then (s, c) else (t.resetShaper p k.val, c)
  | .size k =>
    if reqFld r F.NI_SHAPE_SIZE_SIZE_C < 17 ∨ reqFld r F.NI_SHAPE_SIZE_SIZE_P < 17 then (s, Code.DENY)
    else
      match s.plainWrite (A.NI_SHAPE_SIZE p k.val) r with
      | (t, c) => if c ≠ Code.OK then (s, c) else (t.resetShaper p k.val, c)

/-- The register of a shaper write. -/
def shaperAddr (p : Nat) : ShaperReg → Nat
  | .ctl => A.NI_SHAPE_CTL p
  | .rate c => A.NI_SHAPE_RATE p c.val
  | .size c => A.NI_SHAPE_SIZE p c.val

/-- SHAPER_RESET_WRITE (R165): a write of a shaper register is served. -/
def execShaperResetWrite (p : Fin 144) (reg : ShaperReg) (r : Req) (s : State) : Out :=
  .next (s.serve (shaperAddr p.val reg) r (·.writeShaper p.val reg r))

/-- R167: a write of FED_POLICE_RATE or FED_POLICE_SIZE sets both levels to full at the end of the serving cycle. -/
def State.writePolicer (s : State) (f : Nat) (size : Bool) (r : Req) : State × BitVec 4 :=
  let a := if size then A.FED_POLICE_SIZE f else A.FED_POLICE_RATE f
  let bad := if size then reqFld r F.FED_POLICE_SIZE_SIZE_C < 3 ∨ reqFld r F.FED_POLICE_SIZE_SIZE_P < 3
    else 65536 < reqFld r F.FED_POLICE_RATE_RATE_C ∨ 65536 < reqFld r F.FED_POLICE_RATE_RATE_P
  if bad then (s, Code.DENY)
  else
    match s.plainWrite a r with
    | (t, c) =>
      if c ≠ Code.OK then (s, c)
      else
        let z := t.rd (A.FED_POLICE_SIZE f)
        (t.wrLate (A.FED_POLICE_LEVEL f) (levels 0 (fun _ => F.FED_POLICE_SIZE_SIZE_C.get z * 65536)
          (fun _ => F.FED_POLICE_SIZE_SIZE_P.get z * 65536)), c)

/-- POLICE_RESET_WRITE (R167): a write of FED_POLICE_RATE or, with `size`, FED_POLICE_SIZE is served. -/
def execPoliceResetWrite (f : Fin 12) (size : Bool) (r : Req) (s : State) : Out :=
  .next (s.serve (if size then A.FED_POLICE_SIZE f.val else A.FED_POLICE_RATE f.val) r (·.writePolicer f.val size r))

/-! ### Sluice lists (R160 to R162) -/

/-- DURATION of an entry of the operating list (`oper`) or of the administrative one. -/
def State.duration (s : State) (p : Nat) (oper : Bool) (k : Nat) : Nat :=
  s.fld (if oper then A.NI_SLUICE_OPER p k else A.NI_SLUICE_ADMIN p k) F.NI_SLUICE_ADMIN_DURATION

/-- The entry in force at offset `o` of the cycle: the first whose cumulative duration exceeds it (R160). -/
def State.entryFrom (s : State) (p : Nat) : List Nat → Nat → Nat
  | [], _ => 0
  | k :: ks, o => if o < s.duration p true k then k else s.entryFrom p ks (o - s.duration p true k)

/-- The operating entry in force at datum `d`. -/
def State.sluiceIndex (s : State) (p d : Nat) : Nat :=
  let cyc := s.fld (A.NI_SLUICE_CYCLE p) F.NI_SLUICE_CYCLE_CYCLE
  let start := (tget none (s.ni p).sluice 0).getD 0
  s.entryFrom p (List.range 32) (if cyc = 0 then 0 else (((d : Int) - start) % cyc).toNat)

/-- Class `c`'s gate is open at datum `d` (R160). -/
def State.gateOpen (s : State) (p c d : Nat) : Bool :=
  !s.bit (A.NI_SLUICE_CTL p) F.NI_SLUICE_CTL_EN || !s.bit (A.NI_SLUICE_STATUS p) F.NI_SLUICE_STATUS_RUNNING ||
  (s.fld (A.NI_SLUICE_OPER p (s.sluiceIndex p d)) F.NI_SLUICE_OPER_GATES).testBit c

/-- R162: a head of `l` flits fits from datum `d` on. -/
def State.fits (s : State) (p c d l : Nat) : Bool := (List.range l).all (fun k => s.gateOpen p c (d + k))

/-- CYCLE of the administrative list. -/
def State.adminCycle (s : State) (p : Nat) : Nat :=
  ((List.range (s.fld (A.NI_SLUICE_CTL p) F.NI_SLUICE_CTL_ADMIN_LEN)).map (fun k => s.duration p false k)).sum

/-- A GO of the sluice list served in cycle `w` (R161). -/
def State.sluiceGo (s : State) (p : Nat) : State :=
  let w := s.nowOf p
  let base := (s.rd (A.NI_SLUICE_BASE p)).toNat
  let cyc := s.adminCycle p
  let n := if w + 256 ≤ base then 0 else (w + 256 - base + cyc - 1) / cyc
  let a := A.NI_SLUICE_STATUS p
  (((s.setFld a F.NI_SLUICE_STATUS_LATE_START (if n = 0 then 0 else 1)).setFld a F.NI_SLUICE_STATUS_SKIPPED
    (min n (2 ^ 32 - 1))).setFld a F.NI_SLUICE_STATUS_PENDING 1).wr (A.NI_SLUICE_START p) (BitVec.ofNat 64 (base + n * cyc))

/-- R161: a write of NI_SLUICE_CTL. -/
def State.writeSluiceCtl (s : State) (p : Nat) (r : Req) : State × BitVec 4 :=
  let a := A.NI_SLUICE_CTL p
  let len := reqFld r F.NI_SLUICE_CTL_ADMIN_LEN
  let pend := s.bit (A.NI_SLUICE_STATUS p) F.NI_SLUICE_STATUS_PENDING
  let go := reqFld r F.NI_SLUICE_CTL_GO = 1
  let cancel := reqFld r F.NI_SLUICE_CTL_CANCEL = 1
  if len = 0 ∨ 32 < len ∨ (pend ∧ (go ∨ len ≠ s.fld a F.NI_SLUICE_CTL_ADMIN_LEN)) then (s, Code.DENY)
  else if go ∧ (List.range len).any (fun k => s.duration p false k = 0) then (s, Code.DENY)
  else
    let s := (s.setFld a F.NI_SLUICE_CTL_EN (reqFld r F.NI_SLUICE_CTL_EN)).setFld a F.NI_SLUICE_CTL_ADMIN_LEN len
    let s := if cancel then
        let s := s.setFld (A.NI_SLUICE_STATUS p) F.NI_SLUICE_STATUS_PENDING 0
        if pend then s.wr (A.NI_SLUICE_START p) (BitVec.ofNat 64 ((tget none (s.ni p).sluice 0).getD 0)) else s
      else s
    (if go then s.sluiceGo p else s, Code.OK)

/-- R161: a write of NI_SLUICE_BASE or of an administrative entry, refused while PENDING is 1. -/
def State.writeSluiceAdmin (s : State) (a p : Nat) (r : Req) : State × BitVec 4 :=
  if s.bit (A.NI_SLUICE_STATUS p) F.NI_SLUICE_STATUS_PENDING && !s.same a r then (s, Code.DENY)
  else s.plainWrite a r

/-- SLUICE_GO (R161): a write of NI_SLUICE_CTL is served. -/
def execSluiceGo (p : Fin 144) (r : Req) (s : State) : Out :=
  .next (s.serve (A.NI_SLUICE_CTL p.val) r (·.writeSluiceCtl p.val r))
/-- SLUICE_CANCEL (R161): a write of NI_SLUICE_CTL is served. -/
def execSluiceCancel (p : Fin 144) (r : Req) (s : State) : Out :=
  .next (s.serve (A.NI_SLUICE_CTL p.val) r (·.writeSluiceCtl p.val r))

/-- SLUICE_START (R161): at START the administrative list becomes the operating list. -/
def execSluiceStart (p : Fin 144) (s : State) : Out :=
  let p := p.val
  let a := A.NI_SLUICE_STATUS p
  let start := (s.rd (A.NI_SLUICE_START p)).toNat
  if !s.bit a F.NI_SLUICE_STATUS_PENDING || decide (s.nowOf p < start) then .next s
  else
    let len := s.fld (A.NI_SLUICE_CTL p) F.NI_SLUICE_CTL_ADMIN_LEN
    let cyc := s.adminCycle p
    let s := (List.range 32).foldl (fun s k => s.wr (A.NI_SLUICE_OPER p k)
      (if k < len then s.rd (A.NI_SLUICE_ADMIN p k) else resetOf (A.NI_SLUICE_OPER p k))) s
    let s := (s.setFld (A.NI_SLUICE_CYCLE p) F.NI_SLUICE_CYCLE_CYCLE cyc).modNi p (fun n => { n with sluice := [(0, some start)] })
    .next ((s.setFld a F.NI_SLUICE_STATUS_PENDING 0).setFld a F.NI_SLUICE_STATUS_RUNNING 1)

/-! ### Histograms (R168, R169) -/

/-- Packets waiting in the measured queue: built, also where their route is still to come, and not started. -/
def State.measured (s : State) (p : Nat) : Nat :=
  let c := s.fld (A.NI_HIST_CTL p) F.NI_HIST_CTL_CLASS
  if c = 7 then (s.ni p).mgtQ.length else (s.clsq p c).length

/-- R168: the depth bin. -/
def depthBin (n : Nat) : Nat := if n = 0 then 0 else min 7 (n.log2 + 1)
/-- R169: the delay bin. -/
def delayBin (n : Nat) : Nat := if n < 16 then 0 else min 7 (n.log2 / 2 - 1)

/-- A histogram bin, or SKIPPED while frozen. -/
def State.histCount (s : State) (p a : Nat) : State :=
  if s.bit (A.NI_HIST_CTL p) F.NI_HIST_CTL_FREEZE then s.sat (A.NI_HIST_STATUS p) F.NI_HIST_STATUS_SKIPPED
  else s.sat a F.NI_HIST_DEPTH_COUNT

/-- HIST_DEPTH_SAMPLE (R168): at a datum that is a multiple of 2^DEPTH_EXP, once. -/
def execHistDepthSample (p : Fin 144) (s : State) : Out :=
  let p := p.val
  if s.nowOf p % 2 ^ s.fld (A.NI_HIST_CTL p) F.NI_HIST_CTL_DEPTH_EXP = 0 && decide ((s.ni p).histAt ≤ s.datum) then
    .next ((s.modNi p (fun n => { n with histAt := s.datum + 1 })).histCount p (A.NI_HIST_DEPTH p (depthBin (s.measured p))))
  else .next s

/-- R169: a packet of the measured queue starts, built at datum `built`. -/
def State.histStart (s : State) (p cls built : Nat) : State :=
  let ctl := A.NI_HIST_CTL p
  if s.fld ctl F.NI_HIST_CTL_CLASS ≠ cls then s
  else
    let n := (s.ni p).histN + 1
    let s := s.modNi p (fun x => { x with histN := n })
    if n % 2 ^ s.fld ctl F.NI_HIST_CTL_DELAY_EXP ≠ 0 then s
    else
      let d := s.datum - built
      let s := s.histCount p (A.NI_HIST_DELAY p (delayBin d))
      if s.bit ctl F.NI_HIST_CTL_FREEZE then s
      else s.setFld (A.NI_HIST_STATUS p) F.NI_HIST_STATUS_MAX_DELAY
        (max (s.fld (A.NI_HIST_STATUS p) F.NI_HIST_STATUS_MAX_DELAY) (min d 16777215))

/-- R169: every bin and SKIPPED set to 0. -/
def State.histZero (s : State) (p : Nat) : State :=
  ((List.range 8).foldl (fun s b => (s.wr (A.NI_HIST_DEPTH p b) 0).wr (A.NI_HIST_DELAY p b) 0) s).setFld
    (A.NI_HIST_STATUS p) F.NI_HIST_STATUS_SKIPPED 0

/-- A write of NI_HIST_CTL (R169). -/
def State.writeHistCtl (s : State) (p : Nat) (r : Req) : State × BitVec 4 :=
  let a := A.NI_HIST_CTL p
  let e := reqFld r F.NI_HIST_CTL_DEPTH_EXP
  if e < 4 ∨ 20 < e then (s, Code.DENY)
  else
    let fs := [F.NI_HIST_CTL_CLASS, F.NI_HIST_CTL_DEPTH_EXP, F.NI_HIST_CTL_DELAY_EXP]
    let changes := fs.any (fun f => reqFld r f ≠ s.fld a f)
    match s.plainWrite a r with
    | (t, c) =>
      if c ≠ Code.OK then (s, c)
      else (if changes || reqFld r F.NI_HIST_CTL_CLEAR = 1 then t.histZero p else t, c)

/-- HIST_CLEAR (R169): a write of NI_HIST_CTL is served. -/
def execHistClear (p : Fin 144) (r : Req) (s : State) : Out :=
  .next (s.serve (A.NI_HIST_CTL p.val) r (·.writeHistCtl p.val r))

/-! ### Holds (R180, R181, R183) -/

/-- R183: quadrant of the station of a key. -/
def quadOfKey (d : Nat) : Option Nat := (stationOfKey d).map quadOf

/-- R183: whether a barrier with scope `sc` and destination key `k` covers key `d`. -/
def coversKey (sc k d : Nat) : Bool :=
  match sc with
  | 0 => d = k
  | 1 => (quadOfKey d).isSome && quadOfKey d = quadOfKey k
  | 2 => !(decide (144 ≤ d) && decide (d < 156))
  | _ => true

/-- Destination key of a global ID, 255 where there is none. -/
def State.keyOf (s : State) (d : Gid) : Nat := (s.destKey d).getD 255

/-- A barrier covers a key. -/
def State.barCovers (s : State) (b : Bar) (d : Nat) : Bool := coversKey b.scope.toNat (s.keyOf b.d) d

/-- Two packets' bytes share a 64-byte line. -/
def sameLine (a b : Hdr) : Bool :=
  let fst (h : Hdr) := h.address.toNat / 64
  let lst (h : Hdr) := (h.address.toNat + max h.bcount.toNat 1 - 1) / 64
  decide (fst a ≤ lst b) && decide (fst b ≤ lst a)

/-- ORDERED or STAKED region. -/
def orderedReg (h : Hdr) : Bool := h.region = 1 || h.region = 3

/-- Packets that have been built for the class queues and have not started. -/
def State.unstarted (s : State) (p : Nat) : List OutPkt := (List.range 7).flatMap (fun c => s.clsq p c)

/-- An earlier-accepted DEVICE or CONFIG access of the unit has not ended. -/
def State.deviceHold (s : State) (p acc : Nat) : Bool :=
  (s.ni p).accs.any (fun e => match e.2 with
    | some a => a.device && !a.answered && decide (a.seq < acc)
    | none => false)

/-- R180 TRAVERSE: a key has old-traverse business at the NI: a drain barrier, or a non-posted request, a port barrier
among them, started with the draining traverse. -/
def State.traverseHold (s : State) (p d : Nat) : Bool :=
  let old := s.fld (A.NI_TRAV_DRAIN p) F.NI_TRAV_DRAIN_LAST_OLD
  let draining := old ≠ s.curTrav p && s.fld (A.NI_TRAV_DRAIN p) F.NI_TRAV_DRAIN_DRAINED = 0
  (s.ni p).bars.any (fun e => match e.2 with
    | some q => (match q.kind with
      | .drainBar _ => s.keyOf q.hdr.dest = d
      | _ => draining && q.start.isSome && q.hdr.trav.toNat = old && s.keyOf q.hdr.dest = d)
    | none => false) ||
  (draining && (s.ni p).reqs.any (fun e => match e.2 with
    | some q => q.start.isSome && q.hdr.trav.toNat = old && s.keyOf q.hdr.dest = d
    | none => false))

/-- Response bytes a packet needs (R178). -/
def respNeed (h : Hdr) : Nat :=
  if h.cmd = Cmd.RD ∨ h.cmd = Cmd.RDX ∨ h.cmd = Cmd.CRD then 32 * lenFor h.address.toNat h.bcount.toNat else 0

/-- R178 SPACE: the pool cannot give the reservation. -/
def State.spaceHold (s : State) (p : Nat) (h : Hdr) : Bool :=
  let need := respNeed h
  need ≠ 0 && decide (s.poolSize p < s.reserved p + need)

/-- A drain barrier, subject to no hold, gate or shaper (R155, R180). -/
def isDrainBar : OutKind → Bool
  | .drainBar _ => true
  | _ => false

/-- Place of a packet's build instant in the order of acceptance and build: that of its flush for a line of the posted-write
buffer (R179). -/
def OutPkt.place (o : OutPkt) : Nat := o.ord.getD o.seq

/-- R180: a class-path head is held. -/
def State.held (s : State) (p : Nat) (o : OutPkt) : Bool :=
  let h := o.pkt.h
  let d := s.keyOf h.dest
  let earlier := (s.unstarted p).filter (fun x => decide (x.seq < o.seq) && x.pkt.h.dest = h.dest && !isDrainBar x.kind)
  !isDrainBar o.kind &&
  (earlier.any (fun x => sameLine x.pkt.h h) ||
   (orderedReg h && earlier.any (fun x => orderedReg x.pkt.h)) ||
   (h.region = 2 && s.deviceHold p o.acc) ||
   (s.ni p).barrs.any (fun b => decide (b.seq < o.place) && (h.cmd = Cmd.MSG || h.cmd = Cmd.EVM || s.barCovers b d)) ||
   s.traverseHold p d || s.spaceHold p h)

/-- R181: a CRD or CWR of a CONFIG access is held. -/
def State.mgtHeld (s : State) (p : Nat) (o : OutPkt) : Bool :=
  match o.kind with
  | .access _ => s.deviceHold p o.acc || (s.ni p).barrs.any (fun b => decide (b.seq < o.acc)) || s.spaceHold p o.pkt.h
  | _ => false

/-! ### Starts (R153, R154, R157, R158) -/

/-- R164: the shaper permits a start of class `c`. -/
def State.shapeOk (s : State) (p c : Nat) : Bool :=
  !s.shaped p c ||
    (let x := s.rd (A.NI_SHAPE_LEVEL p c)
     decide (0 ≤ toI32 (F.NI_SHAPE_LEVEL_LEVEL_C.get x)) && decide (0 ≤ toI32 (F.NI_SHAPE_LEVEL_LEVEL_P.get x)))

/-- A credit for a VC at the station's input (R53). -/
def State.niCred (s : State) (p v : Nat) : Bool := decide (1 ≤ tget 4 (s.ni p).cred v)

/-- The VC of a packet leaving an NI (R51, R152). -/
def outVc (h : Hdr) : Nat := (vcTypeOf h.cmd).vcA

/-- R154: a class-queue head is eligible. -/
def State.eligible (s : State) (p c : Nat) (o : OutPkt) : Bool :=
  let free := isDrainBar o.kind
  o.ready && !s.held p o && (free || (s.fits p c (s.nowOf p) o.pkt.cost && s.shapeOk p c)) && s.niCred p (outVc o.pkt.h)

/-- R157, R158: the weighted class whose head starts. -/
def State.wfqPick (s : State) (p : Nat) : Option Nat :=
  (List.range 6).foldl (fun best c =>
    match s.clsq p c with
    | [] => best
    | o :: _ =>
      if !s.eligible p c o then best
      else
        match best with
        | none => some c
        | some b =>
          match s.clsq p b with
          | [] => some c
          | x :: _ =>
            if tagLt o.stag x.stag || (o.stag = x.stag && tagLt o.ftag x.ftag) then some c else best) none

/-- R154: the class queue whose head starts in this cycle. -/
def State.classPick (s : State) (p : Nat) : Option Nat :=
  match s.clsq p 6 with
  | o :: _ => if s.eligible p 6 o then some 6 else s.wfqPick p
  | [] => s.wfqPick p

/-- The head of class queue `c` leaves it: tags, V and buckets (R157, R158, R164). -/
def State.leaveClass (s : State) (p c : Nat) (o : OutPkt) : State :=
  let rest := (s.clsq p c).tail
  let s := s.setClsq p c rest
  let s := if s.shaped p c && !isDrainBar o.kind then
      s.wr (A.NI_SHAPE_LEVEL p c) (levels (s.rd (A.NI_SHAPE_LEVEL p c)) (charge · o.pkt.cost) (charge · o.pkt.cost))
    else s
  if c < 6 then
    ((s.tagHead p c (tget 0 (s.ni p).ftags c)).vMax p o.stag).vEmpty p
  else s

/-- R184: fence bit of a key. -/
def fenceReg (p d : Nat) : Nat := A.NI_BAR_FENCE p (d / 64)
def State.setFence (s : State) (p d v : Nat) : State := s.setFld (fenceReg p d) ⟨d % 64, 1⟩ v
def State.fence (s : State) (p d : Nat) : Bool := s.bit (fenceReg p d) ⟨d % 64, 1⟩

/-- R178, R281: a non-posted packet starts: its timer and its reservation. -/
def State.startReq (s : State) (p : Nat) (o : OutPkt) : State :=
  let limit := s.fld (A.NI_TIMEOUT p) F.NI_TIMEOUT_REQ * 1024
  let on (q : NiReq) : NiReq := { q with start := some s.datum, expire := s.datum + limit, resv := respNeed o.pkt.h, retryAt := none }
  match o.kind with
  | .access _ => match s.req p o.pkt.h.tag.toNat with
    | some q => s.setReq p o.pkt.h.tag.toNat (some (on q))
    | none => s
  | .portBar t => match s.bar p t with
    | some q => s.setBar p t (some (on q))
    | none => s
  | .drainBar t => match s.bar p t with
    | some q => s.setBar p t (some (on q))
    | none => s
  | _ => s

/-- A packet starts: what its start does besides its first flit. A port barrier has no place in the measured queues
(R169, R185). -/
def State.onStart (s : State) (p : Nat) (o : OutPkt) : State :=
  let h := o.pkt.h
  let s := s.startReq p o
  let s := match o.kind with
    | .portBar _ => s
    | _ => s.histStart p h.cls.toNat o.built
  match o.kind with
  | .fill rsp =>
    let s := s.ncnt p 14
    match (s.ni p).wait rsp with
    | some w => s.setWait p rsp (some { w with issued := some s.datum })
    | none => s
  | .posted (some k) => s.accEnd p k [] [] false none
  | .response => s
  | .portBar _ => s
  | .drainBar _ => s.sat (travDrainOf p) F.NI_TRAV_DRAIN_DRAIN_BARS
  | _ => s

/-- R184: a class-path packet of REQ type that starts sets its key's fence bit. -/
def State.fenceStart (s : State) (p : Nat) (o : OutPkt) : State :=
  if vcTypeOf o.pkt.h.cmd = .req && o.pkt.h.cmd ≠ Cmd.BAR then s.setFence p (s.keyOf o.pkt.h.dest) 1 else s

/-- A flit driven into the station's input, with a credit return for it (R53, R153). -/
def State.driveFlit (s : State) (p : Nat) (f : Flit) : State :=
  let s := s.sendWire (p / 4) (6 + p % 4) ⟨.be f, (s.ni p).lrx.ret.head?⟩ s.datum
  let s := s.modNi p (fun n => { n with lrx := { n.lrx with ret := n.lrx.ret.tail }, drove := s.datum + 1
                                        cred := tset 4 n.cred f.vc (tget 4 n.cred f.vc - 1) })
  (s.ncnt p 6).gcnt (50 + quadOf (p / 4))

/-- R81: the tail of a packet that no response ends has been driven. -/
def State.tailGone (s : State) (p : Nat) (o : OutPkt) : State :=
  match o.kind with
  | .posted _ => s.outDone p o.pkt.h.trav.toNat
  | .response => s.outDone p o.pkt.h.trav.toNat
  | _ => s

/-- The next flit of a packet in progress goes out; what remains of it. -/
def State.continuePkt (s : State) (p : Nat) (g : Prog) : State × Option Prog :=
  match g.left with
  | [] => (s, none)
  | f :: rest =>
    let s := s.driveFlit p f
    if rest.isEmpty then (s.tailGone p g.out, none) else (s, some { g with left := rest })

/-- A packet as it is started. -/
def OutPkt.prog (o : OutPkt) : Prog := ⟨o, o.pkt.flits (outVc o.pkt.h)⟩

/-- R152, R181: the MGT packet that starts. Fills pass every packet that waits for its own fill, which could not come
otherwise; fills, CRR and CWA pass a CRD or CWR that is held or waits for its fill; all else keeps build order (log 73). -/
def State.mgtPick (s : State) (p : Nat) : Option OutPkt := go (s.ni p).mgtQ false false
where
  /-- `req`: an earlier CRD or CWR stays; `rsp`: an earlier CRR or CWA stays. -/
  go : List OutPkt → Bool → Bool → Option OutPkt
    | [], _, _ => none
    | o :: os, req, rsp =>
      match o.kind with
      | .fill _ => some o
      | .access _ => if req || rsp || !o.ready || s.mgtHeld p o then go os true rsp else some o
      | _ => if rsp || !o.ready then go os req true else some o

/-- R153: the MGT path drives a flit, if it has one ready. -/
def State.injMgt (s : State) (p : Nat) : Option State :=
  if !s.niCred p 6 then none
  else
    match (s.ni p).curMgt with
    | some g =>
      let (s, r) := s.continuePkt p g
      some (s.modNi p (fun n => { n with curMgt := r }))
    | none =>
      if s.host.halt then none
      else
        match s.mgtPick p with
        | none => none
        | some o =>
          let s := (s.modNi p (fun n => { n with mgtQ := n.mgtQ.erase o })).onStart p o
          let (s, r) := s.continuePkt p o.prog
          some ((s.modNi p (fun n => { n with curMgt := r })).pump p)

/-- R153: the response path drives a flit. -/
def State.injRsp (s : State) (p : Nat) : Option State :=
  if !s.niCred p 2 then none
  else
    match (s.ni p).curRsp with
    | some g =>
      let (s, r) := s.continuePkt p g
      some (s.modNi p (fun n => { n with curRsp := r }))
    | none =>
      if s.host.halt then none
      else
        match (s.ni p).rspQ with
        | [] => none
        | o :: q =>
          if !o.ready then none else
          let (s, r) := (s.modNi p (fun n => { n with rspQ := q })).continuePkt p o.prog
          some (s.modNi p (fun n => { n with curRsp := r }))

/-- A port barrier that may start: subject only to TRAVERSE and a credit (R180, R185). -/
def State.portBarReady (s : State) (p : Nat) : Option OutPkt :=
  match (s.ni p).barQ with
  | [] => none
  | o :: _ => if o.ready && s.niCred p 0 && !s.traverseHold p (s.keyOf o.pkt.h.dest) then some o else none

/-- Counters 10 to 13 (R312) in the cycle that ends: the class path has started nothing in it while a head is held. -/
def State.waitCounts (s : State) (p : Nat) : State :=
  if s.datum < (s.ni p).clsAt then s
  else
    let heads := (List.range 7).filterMap (fun c => ((s.clsq p c).head?).map (fun o => (c, o)))
    let now := s.nowOf p
    let add (s : State) (j : Nat) (b : Bool) : State := if b then s.ncnt p j else s
    let s := add s 10 (heads.any (fun e => !s.niCred p (outVc e.2.pkt.h)))
    let s := add s 11 (heads.any (fun e => !isDrainBar e.2.kind && !s.shapeOk p e.1))
    let s := add s 12 (heads.any (fun e => !isDrainBar e.2.kind && !s.fits p e.1 now e.2.pkt.cost))
    add s 13 (heads.any (fun e => s.held p e.2))

/-- R153, R154: the class path drives a flit: the packet in progress, a port barrier, or a class-queue head. -/
def State.injCls (s : State) (p : Nat) : State × Bool :=
  match (s.ni p).curCls with
  | some g =>
    if s.niCred p (outVc g.out.pkt.h) then
      let (s, r) := s.continuePkt p g
      (s.modNi p (fun n => { n with curCls := r }), true)
    else (s, false)
  | none =>
    if s.host.halt then (s, false)
    else
      match s.portBarReady p with
      | some o =>
        let s := (s.modNi p (fun n => { n with barQ := n.barQ.tail, clsAt := s.datum + 1 })).onStart p o
        let (s, r) := s.continuePkt p o.prog
        (s.modNi p (fun n => { n with curCls := r }), true)
      | none =>
        match s.classPick p with
        | none => (s, false)
        | some c =>
          match s.clsq p c with
          | [] => (s, false)
          | o :: _ =>
            let s := ((s.leaveClass p c o).onStart p o).fenceStart p o
            let (s, r) := s.continuePkt p o.prog
            ((s.modNi p (fun n => { n with curCls := r, clsAt := s.datum + 1 })).pump p, true)

/-- NI_INJECT (R53, R153, R154): in a cycle in which no G flit is due the NI drives one flit: of the MGT path, else of
the response path, else of the class path; with none, an idle flit that returns a credit. -/
def execNiInject (p : Fin 144) (s : State) : Out :=
  let p := p.val
  if decide (s.datum < (s.ni p).drove) || (s.injects p).isSome then .next s
  else
    match s.injMgt p with
    | some t => .next t
    | none =>
      match s.injRsp p with
      | some t => .next t
      | none =>
        match s.injCls p with
        | (t, true) => .next t
        | (t, false) =>
          match (t.ni p).lrx.ret with
          | [] => .next t
          | v :: vs =>
            .next ((t.modNi p (fun n => { n with lrx := { n.lrx with ret := vs }, drove := t.datum + 1 })).sendWire (p / 4) (6 + p % 4)
              ⟨.idle, some v⟩ t.datum)

end Sys2Proof.Machine
end

