-- ==== Sys2Proof/Machine/Datum.lean ====
section
/-!
DEFINITION. Machine/Datum.lean: the datum counters and the meridian (R12 to R32, R451): alignment, verification,
launch and arrival of messages, alarms.
-/
namespace Sys2Proof.Machine

/-! ### Requests and counters -/

/-- The messages waiting for a launch slot; DAT_MER_STATUS.PENDING follows from them when it is read (R451). -/
def State.setMer (s : State) (q : List MerReq) : State :=
  { s with glb := { s.glb with merPend := q } }

/-- R451: a message asked for in this cycle. -/
def State.merReq (s : State) (k : MerKind) (instant : Nat) : State :=
  s.setMer (s.glb.merPend ++ [⟨k, instant, s.datum⟩])

/-- The difference of a block's counter from the global datum. -/
def State.skewOf (s : State) (b : Nat) : Word :=
  Store.get (fun k => match s.skew.base with
    | some n => Config.freeValue (n + k)
    | none => 0) s.skew.diff b

/-- A block's counter set to the global datum (R24, R25). -/
def State.alignBlock (s : State) (b : Nat) : State :=
  { s with skew := { s.skew with diff := match s.skew.base with
    | some _ => Store.put s.skew.diff b 0
    | none => Store.set (fun _ => 0) s.skew.diff b 0 } }

/-- R15: after a reset the counters of stations, NIs and federation ports hold undefined values: 192 free values. -/
def State.unalign (s : State) : State :=
  { s with skew := { base := some s.freeCtr, diff := [] }, freeCtr := s.freeCtr + 192 }

/-- Station of a receiver (R23). -/
def stationOfBlk (b : Nat) : Nat :=
  if b < 144 then b / 4 else if b < 156 then stationOfFed (b - 144) else if b < 192 then b - 156 else 21

/-- R23: a corrected single-bit error of a message. -/
def State.merSbe (s : State) (n : Nat) : State := s.sat A.DAT_STATUS F.DAT_STATUS_MER_SBE_COUNT n

/-- R23: receiver `b` discards a message with an uncorrectable error. -/
def State.merDue (s : State) (b : Nat) : State :=
  let st := stationOfBlk b
  let s := (s.setFld A.DAT_STATUS F.DAT_STATUS_MER_DUE 1).sat A.DAT_STATUS F.DAT_STATUS_MER_DUE_COUNT
  let s := (s.setFld A.DAT_STATUS F.DAT_STATUS_LAST_SITE st).stnCause st 7
  { s.raise 1344 with fmp := { s.fmp with slips := s.fmp.slips ++ [(1, st, 0)] } }

/-! ### The message on the wires (R18, R19) -/

/-- R19: the code of a message's TYPE. -/
def MerKind.code : MerKind → BitVec 4
  | .idle => 0x0
  | .alignLoad => 0x1
  | .alignVerify => 0x2
  | .stakeCall _ => 0x3
  | .surveyTick _ => 0x4
  | .reserved t => BitVec.ofNat 4 t

/-- R19: ARG, bits [15:4] of the message. A reserved TYPE has none that the spec names; 0 stands there. -/
def MerKind.arg : MerKind → BitVec 12
  | .stakeCall n => BitVec.ofNat 12 (n % 8)
  | .surveyTick q => BitVec.ofNat 12 (q % 256)
  | _ => 0

/-- R18: bits [87:0]. -/
def MerMsg.body (m : MerMsg) : BitVec 88 :=
  (0 : BitVec 8) ++ BitVec.ofNat 64 m.instant ++ m.kind.arg ++ m.kind.code

/-- R18: the 96 bits of a message. -/
def MerMsg.word (m : MerMsg) : BitVec 96 := Config.merCheck m.body ++ m.body

/-- R18: the three beats, on consecutive fclk cycles, bits [31:0] first. -/
def MerMsg.beat (m : MerMsg) (i : Nat) : BitVec 32 := m.word.extractLsb' (32 * i) 32

/-- R19: what bits [15:0] of a message name; a TYPE of 5 or more is reserved. -/
def merKindOf (x : BitVec 96) : MerKind :=
  let arg := x.extractLsb' 4 12
  match (x.extractLsb' 0 4).toNat with
  | 0 => .idle
  | 1 => .alignLoad
  | 2 => .alignVerify
  | 3 => .stakeCall (arg.toNat % 8)
  | 4 => .surveyTick (arg.toNat % 256)
  | t => .reserved t

/-- R18: the beat on the meridian's 32 wires at the global block in this cycle: 0 when no launch slot has been used in
the last three cycles. -/
def State.merWires (s : State) : BitVec 32 :=
  match s.glb.merFly.find? (fun m => m.launch ≤ s.datum && decide (s.datum < m.launch + 3)) with
  | some m => m.beat (s.datum - m.launch)
  | none => 0

/-- The launched message of the given kind that reaches the receivers in this cycle (R21) and that `b` has not met. -/
def State.arriving (s : State) (b : Nat) (want : MerKind → Bool) : Option MerMsg :=
  s.glb.merFly.find? (fun m => want m.kind && m.launch + 24 = s.datum && !m.seen.contains b)

/-- Receiver `b` has met a message. -/
def State.meet (s : State) (m : MerMsg) (b : Nat) : State :=
  let q := s.glb.merFly.map (fun x => if x = m then { x with seen := x.seen ++ [b] } else x)
  { s with glb := { s.glb with merFly := q } }

/-- A set is open: its state is other than IDLE (R128). -/
def State.setOpen (s : State) : Bool := decide ((s.rd A.STK_SUMMARY).toNat % 2 ^ 32 ≠ 0)

/-! ### Alignment (R24, R25) -/

/-- R24: the conditions for an accepted ALIGN_GO. -/
def State.alignOk (s : State) : Bool :=
  (s.mode = Mode.ENUMERATE || s.mode = Mode.DIAGNOSE) && !s.setOpen && !s.bit A.SRV_STATUS F.SRV_STATUS_PENDING

/-- A write of DAT_CTL: ALIGN_GO (R24), VERIFY_EN, VERIFY_PERIOD (10 to 24; other values are reserved, R6). -/
def State.writeDatCtl (s : State) (r : Req) : State × BitVec 4 :=
  let go := reqFld r F.DAT_CTL_ALIGN_GO = 1
  let per := reqFld r F.DAT_CTL_VERIFY_PERIOD
  if per < 10 ∨ 24 < per then (s, Code.DENY)
  else if go ∧ !s.alignOk then (s, Code.DENY)
  else
    let s := (s.setFld A.DAT_CTL F.DAT_CTL_VERIFY_EN (reqFld r F.DAT_CTL_VERIFY_EN)).setFld A.DAT_CTL
      F.DAT_CTL_VERIFY_PERIOD per
    (if go then s.merReq .alignLoad 0 else s, Code.OK)

/-- ALIGN_GO (R24): a write of DAT_CTL is served. -/
def execAlignGo (r : Req) (s : State) : Out := .next (s.serve A.DAT_CTL r (·.writeDatCtl r))

/-- VERIFY_TIMER (R25): every 2^VERIFY_PERIOD fclk an ALIGN_VERIFY is asked for, once. That the period's instants are the
datum values that are multiples of 2^VERIFY_PERIOD, and that the message so takes the slot 4 fclk later (R451), is a
DESIGN CHOICE (log 68): R25 names the period and no phase. -/
def execVerifyTimer (s : State) : Out :=
  if s.bit A.DAT_CTL F.DAT_CTL_VERIFY_EN && s.datum % 2 ^ s.fld A.DAT_CTL F.DAT_CTL_VERIFY_PERIOD = 0 &&
      decide (s.glb.verAt ≤ s.datum) then
    .next ({ s with glb := { s.glb with verAt := s.datum + 1 } }.merReq .alignVerify 0)
  else .next s

/-! ### Launch (R20 to R22, R451) -/

/-- R20: rank of a pending message: lower launches first. -/
def merRank (m : MerReq) : Nat × Nat × Nat :=
  match m.kind with
  | .alignLoad => (0, 0, 0)
  | .alignVerify => (0, 0, 0)
  | .stakeCall n => (1, m.req, n)
  | .surveyTick _ => (2, 0, 0)
  | .reserved _ => (3, 0, 0)
  | .idle => (3, 0, 0)

/-- Lexicographic order of ranks. -/
def rankLt (a b : Nat × Nat × Nat) : Bool :=
  a.1 < b.1 || (a.1 = b.1 && (a.2.1 < b.2.1 || (a.2.1 = b.2.1 && a.2.2 < b.2.2)))

/-- The message that takes the slot among those pending. Of an ALIGN_LOAD and an ALIGN_VERIFY, which R20 puts into one
rank, the one asked for first goes first (DESIGN CHOICE, log 68). -/
def merPick (q : List MerReq) : Option MerReq :=
  q.foldl (fun best m => match best with
    | none => some m
    | some b => if rankLt (merRank m) (merRank b) then some m else some b) none

/-- R22: a stake call or survey tick that can no longer be launched in time. -/
def merLate (now : Nat) (m : MerReq) : Bool :=
  match m.kind with
  | .stakeCall _ => decide (m.instant < now + 32)
  | .surveyTick _ => decide (m.instant < now + 32)
  | _ => false

/-- R22, R315: the requester of a late message receives LATE. -/
def State.merRefuse (s : State) (m : MerReq) : State :=
  let s := s.sat A.DAT_MER_STATUS F.DAT_MER_STATUS_LATE_COUNT
  match m.kind with
  | .surveyTick _ =>
    (s.setFld A.SRV_STATUS F.SRV_STATUS_PENDING 0).setFld A.SRV_STATUS F.SRV_STATUS_LATE 1
  | _ => s

/-- The message on its way, and what its launch does at its requester (R24, R25, R315). -/
def State.merSend (s : State) (m : MerReq) : State :=
  let inst := match m.kind with
    | .alignLoad => s.datum + 24
    | .alignVerify => s.datum + 24
    | _ => m.instant
  let fly := s.glb.merFly.filter (fun x => decide (s.datum ≤ x.launch + 24))
  let s := { s with glb := { s.glb with merFly := fly ++ [MerMsg.mk m.kind inst s.datum []] } }
  let s := s.gcnt 0
  match m.kind with
  | .stakeCall _ => s.gcnt 1
  | .alignVerify =>
    let s := { s with glb := { s.glb with verPrev := s.glb.verLast, verLast := inst } }
    { s with stk := { s.stk with applies := s.stk.applies.filter (fun e => s.glb.verPrev ≤ e.2.1) } }.gcnt 62
  | .surveyTick q =>
    let s := { s with glb := { s.glb with srvSeq := (q + 1) % 256, tick := tset none s.glb.tick 192 (some (inst, q)) } }
    (((s.setFld A.SRV_STATUS F.SRV_STATUS_PENDING 0).setFld A.SRV_STATUS F.SRV_STATUS_ARMED 1).setFld A.SRV_STATUS
      F.SRV_STATUS_SEQ q).gcnt 2
  | _ => s

/-- An empty slot carries IDLE (R20). -/
def State.merIdle (s : State) : State :=
  let fly := s.glb.merFly.filter (fun x => decide (s.datum ≤ x.launch + 24))
  { s with glb := { s.glb with merFly := fly ++ [MerMsg.mk .idle 0 s.datum []] } }

/-- MERIDIAN_LAUNCH (R20, R22, R451): in a slot, that is at a datum that is a multiple of 4, the global block launches
one pending message, or IDLE; messages asked for in this very cycle are not pending yet. -/
def execMeridianLaunch (s : State) : Out :=
  if s.datum % 4 ≠ 0 ∨ s.glb.merSlot = some s.datum then .next s
  else
    let s := { s with glb := { s.glb with merSlot := some s.datum } }
    let old := s.glb.merPend.filter (fun m => m.req < s.datum)
    let late := old.filter (merLate s.datum)
    let s := late.foldl (fun s m => s.merRefuse m) (s.setMer (s.glb.merPend.filter (fun m => !late.contains m)))
    match merPick (old.filter (fun m => !merLate s.datum m)) with
    | none => .next s.merIdle
    | some m =>
      let w := (s.datum - m.req + 3) / 4
      let s := s.setMer (s.glb.merPend.erase m)
      let s := s.setFld A.DAT_MER_STATUS F.DAT_MER_STATUS_MAX_WAIT
        (max (s.fld A.DAT_MER_STATUS F.DAT_MER_STATUS_MAX_WAIT) (min w 255))
      .next (s.merSend m)

/-! ### Arrivals (R19, R21, R23 to R25) -/

/-- ALIGN_LOAD_ARRIVAL (R24): 24 fclk after the launch every counter takes the global datum, but those of receivers
that discarded the message. `sbe` receivers corrected a single-bit error. -/
def execAlignLoadArrival (sbe : Fin 193) (s : State) : Out :=
  match s.glb.merFly.find? (fun m => m.kind = .alignLoad && m.launch + 24 = s.datum) with
  | none => .next s
  | some m =>
    let keep := m.seen.filter (fun b => b < 192)
    let d := keep.foldl (fun d b => Store.set (fun _ => 0) d b (s.skewOf b)) []
    let s := { s with skew := { base := none, diff := d }, glb := { s.glb with merFly := s.glb.merFly.erase m } }
    let s := (s.merSbe sbe.val).wr A.DAT_ALIGN_TIME (BitVec.ofNat 64 m.instant)
    .next (s.setFld A.DAT_STATUS F.DAT_STATUS_ALIGNED 1)

/-- R25, R292: a receiver that differs loads the expected value. -/
def State.slip (s : State) (b : Nat) : State :=
  let st := stationOfBlk b
  let n := (s.stk.applies.filter (fun e => e.1 = st && s.glb.verPrev ≤ e.2.1)).length
  let s := ((s.alignBlock b).setFld A.DAT_STATUS F.DAT_STATUS_SLIP 1).sat A.DAT_STATUS F.DAT_STATUS_SLIP_COUNT
  let s := ((s.setFld A.DAT_STATUS F.DAT_STATUS_LAST_SITE st).raise 1345).gcnt 63
  { s with fmp := { s.fmp with slips := s.fmp.slips ++ [(0, st, n)] } }

/-- ALIGN_VERIFY_ARRIVAL (R25). -/
def execAlignVerifyArrival (b : Fin 192) (sbe : Bool) (s : State) : Out :=
  match s.arriving b.val (· = .alignVerify) with
  | none => .next s
  | some m =>
    let s := (s.meet m b.val).merSbe (if sbe then 1 else 0)
    if s.nowOf b.val = m.instant then .next s else .next (s.slip b.val)

/-- MERIDIAN_DUE_DISCARD (R23): receiver `x.b` discards the message that reaches it in this cycle. With `x.sbe` the error was
of a single bit in an IDLE, which is corrected and counted and has no other effect (R20: an empty slot carries IDLE);
for the other types the command of their arrival says so. -/
def execMeridianDueDiscard (x : MerDiscard) (s : State) : Out :=
  match s.arriving x.b.val (fun k => !x.sbe || k = .idle) with
  | none => .next s
  | some m => .next (if x.sbe then (s.meet m x.b.val).merSbe 1 else (s.meet m x.b.val).merDue x.b.val)

/-- MERIDIAN_RESERVED_TYPE (R19): the message that reaches receiver `b` in this cycle shows it a reserved TYPE; it ignores
the message and counts it as a DUE. The block itself launches none. -/
def execMeridianReservedType (b : Fin 192) (typ : BitVec 4) (s : State) : Out :=
  if typ.toNat < 5 then .next s
  else
    match s.arriving b.val (fun _ => true) with
    | none => .next s
    | some m => .next ((s.meet m b.val).merDue b.val)

/-! ### Alarms (R30) -/

/-- A write of DAT_ALARMn, refused while ARM[n] is 1 (R30, R450). -/
def State.writeAlarm (s : State) (n : Nat) (r : Req) : State × BitVec 4 :=
  if (s.fld A.DAT_ALARM_CTL F.DAT_ALARM_CTL_ARM).testBit n ∧ r.data ≠ s.rd (A.DAT_ALARM n) then (s, Code.DENY)
  else (s.wr (A.DAT_ALARM n) r.data, Code.OK)

/-- A write of DAT_ALARM_CTL: the bits that become 1 are armed in this cycle. -/
def State.writeAlarmCtl (s : State) (r : Req) : State × BitVec 4 :=
  let old := s.fld A.DAT_ALARM_CTL F.DAT_ALARM_CTL_ARM
  let new := reqFld r F.DAT_ALARM_CTL_ARM
  match s.plainWrite A.DAT_ALARM_CTL r with
  | (t, c) =>
    if c ≠ Code.OK then (s, c)
    else
      ({ t with glb := { t.glb with armAt := (List.range 4).foldl (fun m n =>
          if new.testBit n && !old.testBit n then tset 0 m n s.datum else m) t.glb.armAt } }, c)

/-- DATUM_ALARM_FIRE (R30): an armed alarm whose value the datum has reached fires; LATE when it was armed beyond it. An
alarm armed in the very cycle of its value, which is neither before nor beyond it, fires in that cycle without LATE
(DESIGN CHOICE, log 68). -/
def execDatumAlarmFire (n : Fin 4) (s : State) : Out :=
  let n := n.val
  let at' := (s.rd (A.DAT_ALARM n)).toNat
  let armed := tget 0 s.glb.armAt n
  if (s.fld A.DAT_ALARM_CTL F.DAT_ALARM_CTL_ARM).testBit n && decide (at' ≤ s.datum) &&
      (decide (armed ≤ at') || decide (armed < s.datum)) then
    let a := A.DAT_ALARM_CTL
    let s := (s.setFld a ⟨n, 1⟩ 0).setFld a ⟨8 + n, 1⟩ 1
    let s := if at' < armed then s.setFld a ⟨16 + n, 1⟩ 1 else s
    .next (s.raise (1346 + n))
  else .next s

/-! ### Voting (R14) -/

/-- Copy `c` of the counter of block `b`: the counter's value unless it disagrees in this cycle. -/
def State.copyOf (s : State) (b c : Nat) : Nat :=
  match tget none s.glb.votes (3 * b + c) with
  | some v => v.toNat
  | none => s.nowOf b

/-- The value two of three copies agree on; the first where none agree. -/
def vote3 (x y z : Nat) : Nat := if y = z then y else x

/-- R14: what block `b`'s counter shows: the vote of its copies. -/
def State.voted (s : State) (b : Nat) : Nat := vote3 (s.copyOf b 0) (s.copyOf b 1) (s.copyOf b 2)

/-- A copy of block `b` disagrees already in this cycle. -/
def State.split (s : State) (b : Nat) : Bool :=
  (List.range 3).any (fun c => (tget none s.glb.votes (3 * b + c)).isSome)

/-- VOTE_FIX (R14): copy `x.copy` of block `b`'s counter stands at `x.value` in this cycle and disagrees with the other two. It
is rewritten and counted in the next cycle (`State.voteFixes`). R14 says nothing of two copies of one counter that
disagree in one cycle: the second is no such event, and nothing happens (DESIGN CHOICE, log 68). -/
def execVoteFix (b : Fin 193) (x : BadCopy) (s : State) : Out :=
  if x.value.toNat = s.nowOf b.val ∨ s.split b.val then .next s
  else .next { s with glb := { s.glb with votes := tset none s.glb.votes (3 * b.val + x.copy.val) (some x.value) } }

/-- R14: copies that disagreed in the cycle that has ended are rewritten from the other two, and counted. -/
def State.voteFixes (s : State) : State :=
  let n := (s.glb.votes.filter (fun e => e.2.isSome)).length
  ({ s with glb := { s.glb with votes := [] } }).sat A.DAT_STATUS F.DAT_STATUS_VOTE_FIX_COUNT n

end Sys2Proof.Machine
end

