-- ==== Sys2Proof/Machine/StateCh.lean ====
section
/-!
DEFINITION. Machine/StateCh.lean: state channels (R115 to R127): the slots of a target NI, their writes by chains and
SPUTs, their emptying, and the selection for TQ.
-/
namespace Sys2Proof.Machine

/-! ### Slot states (R115) -/
namespace SlotSt
abbrev EMPTY : Nat := 0
abbrev PENDING : Nat := 1
abbrev DELIVERED : Nat := 2
abbrev STALE : Nat := 3
end SlotSt

/-- STATE of slot `k` of port `p`. -/
def State.slotSt (s : State) (p k : Nat) : Nat := s.fld (A.NI_STATE_STAMP p k) F.NI_STATE_STAMP_STATE
/-- STAMP of slot `k`. -/
def State.slotStamp (s : State) (p k : Nat) : Nat := s.fld (A.NI_STATE_STAMP p k) F.NI_STATE_STAMP_STAMP

/-- STATE of a slot written; the order of R121 follows. -/
def State.setSlotSt (s : State) (p k v : Nat) : State :=
  let s := s.setFld (A.NI_STATE_STAMP p k) F.NI_STATE_STAMP_STATE v
  s.modNi p (fun n => { n with order :=
    if v = SlotSt.PENDING then (if n.order.contains k then n.order else n.order ++ [k]) else n.order.erase k })

/-- A count of NI_STATE_COUNT_A. -/
def State.stCountA (s : State) (p : Nat) (f : Fld) : State := s.sat (A.NI_STATE_COUNT_A p) f
/-- A count of NI_STATE_COUNT_B. -/
def State.stCountB (s : State) (p : Nat) (f : Fld) : State := s.sat (A.NI_STATE_COUNT_B p) f

/-- The slot becomes EMPTY; a pending value is discarded and counted (R116, R125). -/
def State.emptySlot (s : State) (p k : Nat) : State :=
  if s.slotSt p k = SlotSt.EMPTY then s
  else
    let s := if s.slotSt p k = SlotSt.PENDING then s.stCountA p F.NI_STATE_COUNT_A_DISCARD else s
    (s.modNi p (fun n => { n with sel := n.sel.filter (fun e => e.2.1 ≠ k) })).setSlotSt p k SlotSt.EMPTY

/-- R125: every slot of a port becomes EMPTY. -/
def State.emptySlots (s : State) (p : Nat) : State := (List.range 256).foldl (fun s k => s.emptySlot p k) s

/-- R116: a stake has written the configuration of slot `k`, which was `old`. -/
def State.slotChanged (s : State) (p k : Nat) (old : Word) : State :=
  let a := A.NI_STATE_CFG p k
  if F.NI_STATE_CFG_EN.get old ≠ s.fld a F.NI_STATE_CFG_EN ∨ F.NI_STATE_CFG_SPAN.get old ≠ s.fld a F.NI_STATE_CFG_SPAN
  then s.emptySlot p k else s

/-! ### Writing (R119, R120) -/

/-- The value goes into the slot, which is PENDING from the next cycle on. -/
def State.storeSlot (s : State) (p : Nat) (w : SlotW) (stamp : Nat) : State :=
  let s := s.modNi p (fun n => { n with slots := tset none n.slots w.slot (some ⟨w.value, w.mark, stamp, s.datum⟩) })
  (s.setFld (A.NI_STATE_STAMP p w.slot) F.NI_STATE_STAMP_STAMP stamp).setSlotSt p w.slot SlotSt.PENDING

/-- R116, R119, R120, R125: one write meets its slot; whether it is written. -/
def State.slotPut (s : State) (p : Nat) (w : SlotW) : State × Bool :=
  if !s.enabled p || !s.bit (A.NI_STATE_CFG p w.slot) F.NI_STATE_CFG_EN then
    (s.stCountA p F.NI_STATE_COUNT_A_DISCARD, false)
  else
    let now := s.nowOf p
    let x := expandStamp w.bits now w.stamp
    let s := if now < x then s.stCountB p F.NI_STATE_COUNT_B_FUTURE else s
    let stamp := min x now
    let st := s.slotSt p w.slot
    if st ≠ SlotSt.EMPTY ∧ stamp < s.slotStamp p w.slot then (s.stCountA p F.NI_STATE_COUNT_A_BEHIND, false)
    else
      let s := if st = SlotSt.PENDING then (s.stCountA p F.NI_STATE_COUNT_A_OVERWRITE).ncnt p 21 else s
      (s.storeSlot p w stamp, true)

/-- R117: the scan index of a flit, from the index of the last flit written for its entry. Where a scan's first flit was itself
discarded, so that none has been written, a later flit has no index and is discarded as UNSYNC (DESIGN CHOICE, log 72). -/
def State.scanIndex (s : State) (p : Nat) (x : ScanRef) : Option Nat :=
  if x.first then some 0 else (tget none (s.chain p).scan x.entry).map (fun l => l + 1 + x.gap)

/-- R116 to R120: one write in its write cycle; a discarded flit leaves the index of its entry unchanged. -/
def State.slotWrite (s : State) (p : Nat) (w : SlotW) : State :=
  match w.scan with
  | none => (s.slotPut p w).1
  | some x =>
    match s.scanIndex p x with
    | none => s.stCountB p F.NI_STATE_COUNT_B_UNSYNC
    | some i =>
      if x.span ≤ i then s.stCountB p F.NI_STATE_COUNT_B_SPAN_ERR
      else
        match s.slotPut p { w with slot := (w.slot + i) % 256 } with
        | (s, true) => s.modChain p (fun c => { c with scan := tset none c.scan x.entry (some i) })
        | (s, false) => s

/-- The waiting write whose turn it is: the earliest ready, a chain's before a SPUT's. -/
def nextSlotW (now : Nat) (ws : List SlotW) : Option SlotW :=
  (ws.filter (fun w => decide (w.due ≤ now))).foldl (fun best w =>
    match best with
    | none => some w
    | some b => if w.due < b.due || (w.due = b.due && w.chain && !b.chain) then some w else some b) none

/-- STATE_SLOT_WRITE (R119, R120): in its write cycle the oldest accepted write meets its slot; one per fclk. -/
def execStateSlotWrite (p : Fin 144) (s : State) : Out :=
  let p := p.val
  if s.datum < (s.ni p).slotAt then .next s
  else
    match nextSlotW s.datum (s.ni p).slotW with
    | none => .next s
    | some w =>
      .next ((s.modNi p (fun n => { n with slotW := n.slotW.erase w, slotAt := s.datum + 1 })).slotWrite p w)

/-! ### SPUT (R118, R287, R452) -/

/-- R287, R452: a posted packet dropped at port `p`. -/
def State.postedDrop (s : State) (p : Nat) (code : BitVec 4) (q : Pkt) : State :=
  (s.sat (A.NI_SINK p) F.NI_SINK_POSTED).tcapPkt p code q.h

/-- The code of a port that is not ENABLED (R287). -/
def State.stateCode (s : State) (p : Nat) : BitVec 4 :=
  if s.fld (A.NI_CTL p) F.NI_CTL_STATE = 2 then Code.PDOWN else Code.DEAD

/-- The bytes of a packet from its ADDRESS on, as a number (R44). -/
def Pkt.dataNat (q : Pkt) : Nat :=
  bytesNat q.bytes / 256 ^ (q.h.address.toNat % 32) % 256 ^ q.h.bcount.toNat

/-- R118: what port `p` does with a SPUT. -/
def State.takeSput (s : State) (p : Nat) (q : Pkt) : State :=
  let a := q.h.address.toNat
  let n := q.h.bcount.toNat
  let cfg := A.NI_STATE_CFG p (a / 64 % 256)
  let discard (s : State) : State := s.stCountA p F.NI_STATE_COUNT_A_DISCARD
  if q.h.dest ≠ s.gid p then s.postedDrop p Code.NOROUTE q
  else if !s.enabled p then discard (s.postedDrop p (s.stateCode p) q)
  else if q.fails then (discard s).tcapPkt p Code.CRC q.h
  else if 2 ^ 14 ≤ a ∨ n = 0 ∨ 64 < n ∨ 64 < a % 64 + n ∨ q.h.len.toNat ≠ lenFor a n ∨ !q.h.clean then
    (discard s).tcapPkt p Code.TGTERR q.h
  else if !s.bit cfg F.NI_STATE_CFG_EN || !s.bit cfg F.NI_STATE_CFG_SPUT_EN then discard s
  else if effPriv q.h.src q.h.priv < s.fld cfg F.NI_STATE_CFG_MIN_PRIV then
    (s.stCountB p F.NI_STATE_COUNT_B_DENIED).tcapPkt p Code.DENY q.h
  else
    s.queueSlot p { slot := a / 64, value := BitVec.ofNat 512 (q.dataNat * 256 ^ (a % 64)), mark := false
                    stamp := q.h.stamp.toNat, bits := 32, chain := false, due := s.datum + 5 }

/-- SPUT_RECEIVE (R118): the SPUT at the head of the arrived REQ packets is taken. -/
def execSputReceive (p : Fin 144) (s : State) : Out :=
  let p := p.val
  match (s.ni p).rxReq with
  | q :: rest =>
    if q.h.cmd = Cmd.SPUT then .next ((s.modNi p (fun n => { n with rxReq := rest })).takeSput p q) else .next s
  | [] => .next s

/-! ### Selection for TQ (R121, R124) -/

/-- R123, R124: the stake set `n` holds slots stamped from its T on: from its call until it applies at the NI. -/
def State.holdsSlots (s : State) (p n stamp : Nat) : Bool :=
  decide ((tget {} s.stk.blks (8 * p + n)).t ≤ stamp) &&
  (s.blkSt p n = BlkSt.CALLED ||
    (s.blkSt p n = BlkSt.APPLYING && (tget [] s.stk.ents p).any (fun e => e.set = n)))

/-- R124: the slot is held. -/
def State.slotHeld (s : State) (p k : Nat) : Bool :=
  (List.range 8).any (fun n => s.holdsSlots p n (s.slotStamp p k))

/-- R121: the slots that the selection for edge `x` passes over: the one selected for the edge before. -/
def State.lastSel (s : State) (p x : Nat) : Option Nat := ((s.ni p).sel.find? (fun e => e.1 + 2 = x)).map (·.2.1)

/-- R121, R124: the selection made in cycle E − 3, on the state as the writes up to cycle E − 4 have left it: the first slot in
the order of pending that is not held. -/
def State.selectSlot (s : State) (p x : Nat) : Option (Nat × SlotVal) :=
  (s.ni p).order.findSome? (fun k =>
    if s.slotHeld p k || s.lastSel p x = some k then none
    else (tget none (s.ni p).slots k).map (fun v => (k, v)))

/-- R121: at the beginning of the cycle E − 3 of a pclk edge E the NI of port `p` selects for E. -/
def State.selectCycle (s : State) (p : Nat) : State :=
  if s.datum % 2 = 0 then s
  else
    let x := s.datum + 3
    let old := (s.ni p).sel.filter (fun e => decide (s.datum < e.1))
    s.modNi p (fun n => { n with sel := match s.selectSlot p x with
      | some (k, v) => old ++ [(x, k, v)]
      | none => old })

/-- The slot selected for the present edge, with its value. -/
def State.selected (s : State) (p : Nat) : Option (Nat × SlotVal) :=
  ((s.ni p).sel.find? (fun e => e.1 = s.datum)).map (·.2)

/-- The selected value has left its slot: a newer write keeps the slot PENDING, at the end of the order. -/
def State.slotLeaves (s : State) (p k : Nat) (v : SlotVal) (st : Nat) : State :=
  if tget none (s.ni p).slots k = some v then s.setSlotSt p k st
  else s.modNi p (fun n => { n with order := n.order.erase k ++ [k] })

/-- The selected value is within its age limit (R121). -/
def State.fresh (s : State) (p k : Nat) (v : SlotVal) : Bool :=
  let age := s.fld (A.NI_STATE_CFG p k) F.NI_STATE_CFG_MAX_AGE
  age = 0 || decide (s.nowOf p ≤ v.stamp + age)

/-- R121, R122: the selected value is stale and discarded; NOTICE is the offer's part. -/
def State.staleDiscard (s : State) (p k : Nat) (v : SlotVal) : State :=
  let s := ((s.slotLeaves p k v SlotSt.STALE).stCountA p F.NI_STATE_COUNT_A_STALE).ncnt p 20
  let a := A.NI_STATE_STATUS p
  let s := s.setFld a F.NI_STATE_STATUS_LAST_STALE k
  if 2 ≤ s.fld (A.NI_STATE_CFG p k) F.NI_STATE_CFG_NOTIFY ∧ s.fld a F.NI_STATE_STATUS_STALE_SEEN = 0 then
    (s.setFld a F.NI_STATE_STATUS_STALE_SEEN 1).niCause p 8
  else s

/-- PENDING and HELD of NI_STATE_STATUS (R127). -/
def State.pendingSlots (s : State) (p : Nat) : Nat := (s.ni p).order.length
def State.heldSlots (s : State) (p : Nat) : Nat := ((s.ni p).order.filter (fun k => s.slotHeld p k)).length

end Sys2Proof.Machine
end

