-- ==== Sys2Proof/Machine/Monitors.lean ====
section
/-!
DEFINITION. Machine/Monitors.lean: exclusive monitors of a target NI (R193 to R197).
-/
namespace Sys2Proof.Machine

/-- No source: the value of an empty OWNER or NEXT. -/
abbrev noGid : Nat := 0x3FFFF

/-- Monitor `m` of port `p` is in use. -/
def State.monValid (s : State) (p m : Nat) : Bool := s.bit (A.NI_MONITOR_OWN p m) F.NI_MONITOR_OWN_VALID
/-- Its line is in hand-off. -/
def State.monHand (s : State) (p m : Nat) : Bool := s.bit (A.NI_MONITOR_OWN p m) F.NI_MONITOR_OWN_HANDOFF
/-- Its line number. -/
def State.monLine (s : State) (p m : Nat) : Nat := s.fld (A.NI_MONITOR_LINE p m) F.NI_MONITOR_LINE_LINE
/-- Its owner. -/
def State.monOwner (s : State) (p m : Nat) : Nat := s.fld (A.NI_MONITOR_OWN p m) F.NI_MONITOR_OWN_OWNER
/-- Its NEXT. -/
def State.monNext (s : State) (p m : Nat) : Nat := s.fld (A.NI_MONITOR_OWN p m) F.NI_MONITOR_OWN_NEXT
/-- What it holds beside its registers. -/
def State.mon (s : State) (p m : Nat) : Mon := tget {} (s.ni p).mons m
def State.setMon (s : State) (p m : Nat) (x : Mon) : State := s.modNi p (fun n => { n with mons := tset {} n.mons m x })

/-- R193: within PROTECT of its grant. -/
def State.monProtected (s : State) (p m : Nat) : Bool :=
  s.monValid p m && decide (s.nowOf p < (s.mon p m).granted + s.fld (A.NI_EXCL_CTL p) F.NI_EXCL_CTL_PROTECT)

/-- The monitor and its NEXT are gone. -/
def State.clearMon (s : State) (p m : Nat) : State :=
  ((s.setMon p m {}).wr (A.NI_MONITOR_LINE p m) (resetOf (A.NI_MONITOR_LINE p m))).wr (A.NI_MONITOR_OWN p m)
    (resetOf (A.NI_MONITOR_OWN p m))

/-- R194, R197: a monitor is freed; with a NEXT its line enters hand-off for 20,480 fclk. -/
def State.freeMon (s : State) (p m : Nat) : State :=
  if !s.monValid p m then s
  else if s.monNext p m = noGid then s.clearMon p m
  else
    let a := A.NI_MONITOR_OWN p m
    ((((s.setFld a F.NI_MONITOR_OWN_VALID 0).setFld a F.NI_MONITOR_OWN_OWNER noGid).setFld a F.NI_MONITOR_OWN_PROTECTED
      0).setFld a F.NI_MONITOR_OWN_HANDOFF 1).setMon p m { handEnd := s.nowOf p + 20480 }

/-- The monitors of a port. -/
def monIxs : List Nat := List.range 64

/-- R194: every monitor freed (a STK_STROBE pulse). -/
def State.freeMons (s : State) (p : Nat) : State := monIxs.foldl (fun s m => s.freeMon p m) s

/-- R194: every monitor and NEXT freed (QUIESCE, disable, isolation, reset). -/
def State.clearMons (s : State) (p : Nat) : State :=
  monIxs.foldl (fun s m => if s.monValid p m || s.monHand p m then s.clearMon p m else s) s

/-- R194: a write sharing bytes with [addr, addr + size) frees the monitors of the lines it touches. -/
def State.writeMons (s : State) (p addr size : Nat) : State :=
  monIxs.foldl (fun s m =>
    if s.monValid p m && decide (addr / 64 ≤ s.monLine p m) && decide (s.monLine p m ≤ (addr + size - 1) / 64)
    then s.freeMon p m else s) s

/-- The monitor or hand-off that a line has, if any. -/
def State.lineMon (s : State) (p line : Nat) : Option Nat :=
  monIxs.find? (fun m => (s.monValid p m || s.monHand p m) && s.monLine p m = line)

/-- R194: a source answered EXNACK is recorded as NEXT where none is. -/
def State.noteNext (s : State) (p m src : Nat) : State :=
  if s.monNext p m = noGid then s.setFld (A.NI_MONITOR_OWN p m) F.NI_MONITOR_OWN_NEXT src else s

/-- R194: the line refuses an RDX of `src`: the monitor or hand-off that stands in its way. -/
def State.rdxBlocker (s : State) (p line src : Nat) : Option Nat :=
  match s.lineMon p line with
  | none => none
  | some m =>
    if s.monHand p m then (if s.monNext p m = src then none else some m)
    else if s.monProtected p m && s.monOwner p m ≠ src then some m else none

/-- R194: what is freed before a grant: the source's own monitor, an unprotected one on the line, the line's hand-off to
the source. -/
def State.rdxClear (s : State) (p line src : Nat) : State :=
  let s := monIxs.foldl (fun s m => if s.monValid p m && s.monOwner p m = src then s.freeMon p m else s) s
  match s.lineMon p line with
  | none => s
  | some m => s.clearMon p m

/-- The oldest unprotected monitor. -/
def State.oldestMon (s : State) (p : Nat) : Option Nat :=
  (monIxs.filter (fun m => s.monValid p m && !s.monProtected p m)).foldl (fun best m =>
    match best with
    | none => some m
    | some b => if (s.mon p m).granted < (s.mon p b).granted then some m else some b) none

/-- The monitor is granted (R193, R194). -/
def State.grantMon (s : State) (p m line addr size src : Nat) : State :=
  let a := A.NI_MONITOR_OWN p m
  (((((s.clearMon p m).setFld (A.NI_MONITOR_LINE p m) F.NI_MONITOR_LINE_LINE line).setFld a F.NI_MONITOR_OWN_OWNER
    src).setFld a F.NI_MONITOR_OWN_VALID 1)).setMon p m { addr := addr, size := size, granted := s.nowOf p }

/-- R194: an RDX of `src` at its ordering point: whether it is granted, and the state after. -/
def State.rdxJudge (s : State) (p addr size src : Nat) : State × Bool :=
  let line := addr / 64
  match s.rdxBlocker p line src with
  | some m => (s.noteNext p m src, false)
  | none =>
    let t := s.rdxClear p line src
    match monIxs.find? (fun m => !t.monValid p m && !t.monHand p m) with
    | some m => (t.grantMon p m line addr size src, true)
    | none =>
      match t.oldestMon p with
      | some m =>
        -- an evicted monitor with a NEXT leaves its place to the new one: no hand-off place is left for its line
        ((t.sat (A.NI_EXCL_STATUS p) F.NI_EXCL_STATUS_EVICTS).grantMon p m line addr size src, true)
      | none => (t, false)

/-- R194: the monitor that lets a WRX of `src` succeed. -/
def State.wrxMon (s : State) (p addr size src : Nat) : Option Nat :=
  monIxs.find? (fun m => s.monValid p m && s.monOwner p m = src && (s.mon p m).addr = addr && (s.mon p m).size = size)

/-- MONITOR_EXPIRE (R193): LIFE × 256 fclk after its grant a monitor is freed. -/
def execMonitorExpire (p : Fin 144) (m : Fin 64) (s : State) : Out :=
  let life := 256 * s.fld (A.NI_EXCL_CTL p.val) F.NI_EXCL_CTL_LIFE
  if s.monValid p.val m.val && decide ((s.mon p.val m.val).granted + life ≤ s.nowOf p.val) then
    .next (s.freeMon p.val m.val)
  else .next s

/-- HANDOFF_EXPIRE (R197): a hand-off that runs out ends and its line is free. -/
def execHandoffExpire (p : Fin 144) (m : Fin 64) (s : State) : Out :=
  if s.monHand p.val m.val && decide ((s.mon p.val m.val).handEnd ≤ s.nowOf p.val) then .next (s.clearMon p.val m.val)
  else .next s

end Sys2Proof.Machine
end

