-- ==== Sys2Proof/Machine/Routes.lean ====
section
/-!
DEFINITION. Machine/Routes.lean: route fills as the global block serves them (R72, R73), cache invalidation (R74), and the stations' traverse control
register (R84, R88).
-/
namespace Sys2Proof.Machine

/-! ### STN_TRAV_CTL (R84, R88, R135) -/

/-- A write of STN_TRAV_CTL: CUR, OLD and OLD_VALID go to a shadow when they differ (R135), RECONF is the FMP's,
RETIRE_OLD = 1 clears OLD_VALID at once; a RECONF that clears releases the held heads. -/
def State.writeStnTrav (s : State) (st : Nat) (r : Req) : State × BitVec 4 :=
  let a := A.STN_TRAV_CTL st
  match rowAt a with
  | none => (s, Code.TGTERR)
  | some row =>
    match s.rwsWrite a row r.data with
    | none => (s, Code.DENY)
    | some t =>
      let t := t.setFld a F.STN_TRAV_CTL_RECONF (reqFld r F.STN_TRAV_CTL_RECONF)
      let t := if reqFld r F.STN_TRAV_CTL_RETIRE_OLD = 1 then t.setFld a F.STN_TRAV_CTL_OLD_VALID 0 else t
      (if s.bit a F.STN_TRAV_CTL_RECONF && !t.bit a F.STN_TRAV_CTL_RECONF then t.releaseAll st else t, Code.OK)

/-- RECONF_WRITE (R84): a write of STN_TRAV_CTL is served. -/
def execReconfWrite (st : Fin 36) (r : Req) (s : State) : Out :=
  .next (s.serve (A.STN_TRAV_CTL st.val) r (·.writeStnTrav st.val r))

/-- RETIRE_OLD (R88): a write of STN_TRAV_CTL is served. -/
def execRetireOld (st : Fin 36) (r : Req) (s : State) : Out :=
  .next (s.serve (A.STN_TRAV_CTL st.val) r (·.writeStnTrav st.val r))

/-! ### Fills (R72, R73) -/

/-- The oldest fill that has reached the global block: a CRD of a route table entry. -/
def isFill (q : Pkt) : Bool :=
  q.h.cmd = Cmd.CRD && 0x1000000 ≤ q.h.address.toNat && q.h.address.toNat < 0x1200000

/-- FILL_SERVE (R72, R11): in a cycle in which an mclk begins the global block answers the oldest pending fill, at most one
per 4 mclk. -/
def execFillServe (s : State) : Out :=
  let ready := match s.glb.fillAt with
    | none => true
    | some t => decide (mclkNo t + 4 ≤ mclkNo s.datum)
  match s.glb.rx.find? isFill with
  | none => .next s
  | some q =>
    if !ready || !mclkEdge s.datum then .next s
    else
      let a := q.h.address.toNat
      let v := BitVec.ofNat 64 (s.rdMem (a / 8 * 8) 8)
      let s := { s with glb := { s.glb with rx := s.glb.rx.erase q, fillAt := some s.datum } }
      let h : Hdr := { dest := q.h.src, cmd := Cmd.CRR, cls := 7, tag := q.h.tag, region := q.h.region, bcount := 8,
                       address := q.h.address }
      .next ((s.gcnt 3).glbSend h [BitVec.ofNat 256 (v.toNat * 2 ^ (8 * (a % 32)))]).glbBars

/-- A packet of MGT type that has reached port `p` and answers the given fill. -/
def fillAnswer (rsp : Bool) (q : Pkt) : Bool :=
  q.h.cmd = Cmd.CRR && 0x1000000 ≤ q.h.address.toNat && q.h.address.toNat < 0x1200000 &&
    q.h.tag.toNat % 2 = (if rsp then 1 else 0)

/-- The route that an answer to a fill brings: none for a no-route value, a STATUS other than OK, or an answer that fails
R50. -/
def fillRoute (q : Pkt) : Option (BitVec 64) :=
  let v : BitVec 64 := BitVec.ofNat 64 ((q.units.headD 0).toNat / 2 ^ (8 * (q.h.address.toNat % 32)))
  if q.h.status ≠ 0 ∨ q.fails ∨ noRoute v then none else some v

/-! ### Invalidation (R74) -/

/-- A write of NI_ROUTE_CTL (R74, R88). -/
def State.writeRouteCtl (s : State) (p : Nat) (r : Req) : State × BitVec 4 :=
  if reqFld r F.NI_ROUTE_CTL_INV_GO = 0 then (s, Code.OK)
  else if (s.ni p).inv.isSome then (s, Code.DENY)
  else
    let t : Option (BitVec 2) :=
      if reqFld r F.NI_ROUTE_CTL_INV_ALL = 1 then none else some (BitVec.ofNat 2 (reqFld r F.NI_ROUTE_CTL_INV_TRAV))
    ((s.modNi p (fun n => { n with inv := some (t, s.datum) })).setFld (A.NI_ROUTE_STATUS p)
      F.NI_ROUTE_STATUS_INV_BUSY 1, Code.OK)

/-- INV_GO (R74): a write of NI_ROUTE_CTL is served. -/
def execInvGo (p : Fin 144) (r : Req) (s : State) : Out :=
  .next (s.serve (A.NI_ROUTE_CTL p.val) r (·.writeRouteCtl p.val r))

/-- INV_SWEEP_DONE (R74): one set per fclk, the sweep of 1,024 sets is over; what it swept is gone. -/
def execInvSweepDone (p : Fin 144) (s : State) : Out :=
  match (s.ni p.val).inv with
  | none => .next s
  | some (_, st) =>
    if s.datum < st + 1024 then .next s
    else
      let c := (s.ni p.val).cache.foldl (fun c e => tset [] c e.1 (s.cacheWays p.val e.1)) (s.ni p.val).cache
      .next ((s.modNi p.val (fun n => { n with inv := none, cache := c })).setFld (A.NI_ROUTE_STATUS p.val)
        F.NI_ROUTE_STATUS_INV_BUSY 0)

end Sys2Proof.Machine
end

