-- ==== Sys2Proof/Machine/Stakes.lean ====
section
/-!
DEFINITION. Machine/Stakes.lean: the stake controller, its sequencer and the block states (R128 to R149, R454), staged
writes (R133, R134) and the meanings that move a set from its opening to its commit or abort. What a set does when it
applies stands in Apply.lean.
-/
namespace Sys2Proof.Machine

/-! ### Blocks (R129, R130, R137, R138) -/

/-- What a block holds for a set beside its registers. -/
def State.blk (s : State) (b n : Nat) : StkBlk := tget {} s.stk.blks (8 * b + n)
def State.modBlk (s : State) (b n : Nat) (f : StkBlk → StkBlk) : State :=
  { s with stk := { s.stk with blks := tset {} s.stk.blks (8 * b + n) (f (s.blk b n)) } }

/-- A field of XX_STK_SETn. -/
def State.setF (s : State) (b n : Nat) (f : Fld) : Nat := s.fld (setRegOf b n) f
/-- A field of the block's latest expectation (R136). -/
def State.expF (s : State) (b n : Nat) (f : Fld) : Nat := s.fld (expOf b n) f

/-- R130: the block drives its READY, FAULT and OPEN on the gather tree from this cycle on. -/
def State.driveTree (s : State) (b n : Nat) : State :=
  let now : Bool × Bool × Bool := (s.bit (setRegOf b n) F.NI_STK_SET_READY, s.bit (setRegOf b n) F.NI_STK_SET_FAULT,
    decide (s.blkSt b n ≠ BlkSt.IDLE))
  let h := (s.blk b n).hist
  let keep := h.takeWhile (fun e => decide (s.datum < e.1 + 24)) ++ (h.dropWhile (fun e => decide (s.datum < e.1 + 24))).take 1
  match h with
  | (_, cur) :: _ => if cur = now then s else s.modBlk b n (fun x => { x with hist := (s.datum, now) :: keep })
  | [] => if now = (true, false, false) then s else s.modBlk b n (fun x => { x with hist := [(s.datum, now)] })

/-- R130: what the controller sees now of a block: its outputs of 24 cycles ago. -/
def State.seen (s : State) (b n : Nat) : Bool × Bool × Bool :=
  match (s.blk b n).hist.find? (fun e => decide (e.1 + 24 ≤ s.datum)) with
  | some e => e.2
  | none => (true, false, false)

/-- The 193 blocks. -/
def stakeBlocks : List Nat := List.range 193

/-- R130: the gathered READY[n]. -/
def State.gReady (s : State) (n : Nat) : Bool := stakeBlocks.all (fun b => (s.seen b n).1)
/-- R130: the gathered FAULT[n]. -/
def State.gFault (s : State) (n : Nat) : Bool := stakeBlocks.any (fun b => (s.seen b n).2.1)
/-- R130: the gathered OPEN[n]. -/
def State.gOpen (s : State) (n : Nat) : Bool := stakeBlocks.any (fun b => (s.seen b n).2.2)

/-- Staging entries of block `b` for set `n`, in order of acceptance (R134); only NIs hold any. -/
def State.entriesOf (s : State) (b n : Nat) : List StkEntry := (tget [] s.stk.ents b).filter (fun e => e.set = n)

/-- Staging entries in use at block `b`. -/
def State.entsUsed (s : State) (b : Nat) : Nat := (tget [] s.stk.ents b).length

/-- The staging entries of a block written, with USED and HIGH. -/
def State.setEnts (s : State) (b : Nat) (es : List StkEntry) : State :=
  let s := { s with stk := { s.stk with ents := tset [] s.stk.ents b es } }
  let s := s.setFld (stkStatOf b) F.NI_STK_STATUS_USED es.length
  s.setFld (stkStatOf b) F.NI_STK_STATUS_HIGH (max (s.fld (stkStatOf b) F.NI_STK_STATUS_HIGH) es.length)

/-- R138: capability bit of a unit's descriptor (R221). -/
def State.cap (s : State) (p bit : Nat) : Bool := (s.rd (A.NI_DESC p 2)).getLsbD bit

/-- The full T of an expectation (R16, R138). -/
def State.expT (s : State) (b n : Nat) : Nat := expandStamp 32 (s.nowOf b) (s.expF b n F.NI_STK_EXP_T_LOW)

/-- R138 GRANULE: T is unfit for the block. -/
def State.badGranule (s : State) (b n : Nat) : Bool :=
  let t := s.expT b n
  s.expF b n F.NI_STK_EXP_ASAP = 0 &&
  ((decide (b < 144) && s.expF b n F.NI_STK_EXP_PRELOAD = 1 && s.expF b n F.NI_STK_EXP_PART = 1 && t % 2 = 1) ||
   (decide (156 ≤ b) && decide (b < 192) && (List.range 11).any (fun k =>
      (s.shadowsOf b n).any (fun h => h.addr = A.STN_PLAT_CTL (b - 156) k) &&
        t % max (s.bankLen (b - 156) k 0) (s.bankLen (b - 156) k 1) ≠ 0)))

/-- R138: the first condition of the table that holds for a block in EXPECT, of those its registers show. -/
def State.faultCode (s : State) (b n : Nat) : Nat :=
  let part := s.expF b n F.NI_STK_EXP_PART = 1
  let held := (s.shadowsOf b n).length
  if s.expF b n F.NI_STK_EXP_STAGED < s.setF b n F.NI_STK_SET_ACC ∨ s.expF b n F.NI_STK_EXP_SHADOWS < held ∨
      (¬part ∧ (!(s.entriesOf b n).isEmpty ∨ held ≠ 0)) then 1
  else if s.setF b n F.NI_STK_SET_REFUSED = 1 then 2
  else if s.expF b n F.NI_STK_EXP_PRELOAD = 1 ∧ part ∧ b < 144 ∧ !s.cap b 3 then 3
  else if s.badGranule b n then 4
  else if (s.blk b n).down then 6
  else 0

/-- R138: a block in EXPECT is ready, no fault considered. -/
def State.expReady (s : State) (b n : Nat) : Bool :=
  let acc := s.setF b n F.NI_STK_SET_ACC
  let held := (s.shadowsOf b n).length
  (s.expF b n F.NI_STK_EXP_PART = 0 && (s.entriesOf b n).isEmpty && held = 0) ||
  (acc = s.expF b n F.NI_STK_EXP_STAGED && held = s.expF b n F.NI_STK_EXP_SHADOWS &&
    (s.expF b n F.NI_STK_EXP_PRELOAD = 0 || s.setF b n F.NI_STK_SET_DONE = s.expF b n F.NI_STK_EXP_STAGED))

/-- R138: a block takes a fault code; the first one stands. -/
def State.blkFault (s : State) (b n code : Nat) : State :=
  if s.setF b n F.NI_STK_SET_FAULT = 1 then s
  else
    let s := (s.setFld (setRegOf b n) F.NI_STK_SET_FAULT 1).setFld (setRegOf b n) F.NI_STK_SET_FAULT_CODE code
    (if s.blkSt b n = BlkSt.EXPECT then s.setFld (setRegOf b n) F.NI_STK_SET_READY 0 else s).driveTree b n

/-- R137, R138: READY and FAULT of a block in EXPECT follow what it holds. -/
def State.refresh (s : State) (b n : Nat) : State :=
  if s.blkSt b n ≠ BlkSt.EXPECT ∨ s.setF b n F.NI_STK_SET_FAULT = 1 then s
  else
    match s.faultCode b n with
    | 0 => (s.setFld (setRegOf b n) F.NI_STK_SET_READY (if s.expReady b n then 1 else 0)).driveTree b n
    | c => s.blkFault b n c

/-- The set's shadows at a block are gone, and so is their count. -/
def State.dropShadows (s : State) (b n : Nat) : State :=
  { s with stk := { s.stk with shadows := s.stk.shadows.filter (fun h => !(h.blk = b && h.set = n)) } }.setFld
    (setRegOf b n) F.NI_STK_SET_SHADOWS 0

/-- The set's entries at a block are gone. -/
def State.dropEntries (s : State) (b n : Nat) : State :=
  if (s.entriesOf b n).isEmpty then s else s.setEnts b ((tget [] s.stk.ents b).filter (fun e => e.set ≠ n))

/-- R137: a block enters IDLE: every field but FAULT_CODE and MISSED returns to its reset value. -/
def State.enterIdle (s : State) (b n : Nat) : State :=
  let code := s.setF b n F.NI_STK_SET_FAULT_CODE
  let miss := s.setF b n F.NI_STK_SET_MISSED
  let s := ((s.wr (setRegOf b n) (resetOf (setRegOf b n))).setFld (setRegOf b n) F.NI_STK_SET_FAULT_CODE code).setFld
    (setRegOf b n) F.NI_STK_SET_MISSED miss
  (s.modBlk b n (fun x => { hist := x.hist, bad := x.bad })).driveTree b n

/-- R146: a PRELOAD NI that presented an entry of the set owes a cancel. -/
def State.oweCancel (s : State) (b n : Nat) : State :=
  if (s.blk b n).shown then
    { (s.modBlk b n (fun x => { x with shown := false })) with
      stk := { (s.modBlk b n (fun x => { x with shown := false })).stk with
        cancels := tset [] s.stk.cancels b (tget [] s.stk.cancels b ++ [n]) } }
  else s

/-- Entries and shadows discarded after commit, counted in LOST. -/
def State.stkLost (s : State) (b k : Nat) : State :=
  if k = 0 then s else s.sat (stkStatOf b) F.NI_STK_STATUS_LOST k

/-- R137, R141: an ABORT or RELEASE write takes effect. -/
def State.blkDiscard (s : State) (b n : Nat) : State :=
  ((((s.dropShadows b n).dropEntries b n).oweCancel b n).enterIdle b n)

/-- The set has committed and has not ended (R128). -/
def State.committed (s : State) (n : Nat) : Bool := s.setSt n = SetSt.COMMITTED || s.setSt n = SetSt.APPLYING

/-- The fields of a register that a word carries; reserved bits stay as they are (R6). -/
def State.wrFlds (s : State) (a : Nat) (v : Word) : State :=
  match rowAt a with
  | some row => s.wr a (row.flds.foldl (fun x f => f.1.put x (f.1.get v)) (s.rd a))
  | none => s

/-- R137: the writes of XX_STK_EXPn by CMD. -/
def State.writeExp (s : State) (b n : Nat) (r : Req) : State × BitVec 4 :=
  let st := s.blkSt b n
  let a := expOf b n
  match reqFld r F.NI_STK_EXP_CMD with
  | 0 => (s, Code.OK)
  | 1 =>
    if st = BlkSt.IDLE then
      let s := ((s.wr (setRegOf b n) (resetOf (setRegOf b n))).setFld (setRegOf b n) F.NI_STK_SET_STATE
        BlkSt.COLLECT).setFld (setRegOf b n) F.NI_STK_SET_READY 0
      ((s.modBlk b n (fun x => { hist := x.hist })).driveTree b n, Code.OK)
    else (s, Code.DENY)
  | 2 =>
    if st = BlkSt.COLLECT then
      let s := (s.wrFlds a r.data).setFld a F.NI_STK_EXP_CMD 0
      let s := s.setFld (setRegOf b n) F.NI_STK_SET_STATE BlkSt.EXPECT
      let s := s.modBlk b n (fun x => { x with t := s.expT b n })
      ((s.driveTree b n).refresh b n, Code.OK)
    else (s, Code.DENY)
  | 3 =>
    if st = BlkSt.COLLECT ∨ st = BlkSt.EXPECT then (s.blkDiscard b n, Code.OK)
    else if st = BlkSt.IDLE then (s, Code.OK) else (s, Code.DENY)
  | 4 =>
    let after := st = BlkSt.CALLED || st = BlkSt.APPLYING || s.committed n
    let lost := if after then (s.entriesOf b n).length + (s.shadowsOf b n).length else 0
    ((s.blkDiscard b n).stkLost b lost, Code.OK)
  | _ => (s, Code.DENY)

/-- EXP_COLLECT (R137): a write of XX_STK_EXPn is served. -/
def execExpCollect (b : Fin 193) (n : Fin 8) (r : Req) (s : State) : Out :=
  .next (s.serve (expOf b.val n.val) r (·.writeExp b.val n.val r))
/-- EXP_EXPECT (R137, R138): a write of XX_STK_EXPn is served. -/
def execExpExpect (b : Fin 193) (n : Fin 8) (r : Req) (s : State) : Out :=
  .next (s.serve (expOf b.val n.val) r (·.writeExp b.val n.val r))
/-- EXP_ABORT (R141): a write of XX_STK_EXPn is served. -/
def execExpAbort (b : Fin 193) (n : Fin 8) (r : Req) (s : State) : Out :=
  .next (s.serve (expOf b.val n.val) r (·.writeExp b.val n.val r))
/-- EXP_RELEASE (R137): a write of XX_STK_EXPn is served. -/
def execExpRelease (b : Fin 193) (n : Fin 8) (r : Req) (s : State) : Out :=
  .next (s.serve (expOf b.val n.val) r (·.writeExp b.val n.val r))

/-- R138 PORTDOWN, R454: the NI of port `p` enters QUIESCE, begins a disable or is isolated. In CALLED a block that still
holds shadows, or that takes part in a PRELOAD set, keeps its place until T, since PORTDOWN does not affect the outcome;
any other whose entries are discarded leaves (DEDUCED, log 73). -/
def State.portDownSet (s : State) (p n : Nat) : State :=
  let st := s.blkSt p n
  if st = BlkSt.IDLE then s
  else
    let k := (s.entriesOf p n).length
    let s := ((s.dropEntries p n).oweCancel p n).modBlk p n (fun x => { x with down := true })
    if st = BlkSt.CALLED ∨ st = BlkSt.APPLYING then
      let s := (s.blkFault p n 6).stkLost p k
      let more := !(s.shadowsOf p n).isEmpty ||
        (s.expF p n F.NI_STK_EXP_PRELOAD = 1 && s.expF p n F.NI_STK_EXP_PART = 1)
      if st = BlkSt.APPLYING ∨ (k ≠ 0 ∧ !more) then
        { s with stk := { s.stk with leaving := s.stk.leaving ++ [(p, n)] } }
      else s
    else s.refresh p n

/-- R138: every set of a port that goes down. -/
def State.portDownStakes (s : State) (p : Nat) : State := (List.range 8).foldl (fun s n => s.portDownSet p n) s

/-! ### Sequencer (R131) -/

/-- Station of a block (R129). -/
def stationOfStakeBlk (b : Nat) : Nat := stationOfBlk b

/-- R148, STK_SETn_FAULT: the controller sees the gathered FAULT[n] of this cycle. -/
def State.seeFault (s : State) (n : Nat) : State :=
  if s.setSt n = SetSt.IDLE ∨ !s.gFault n then s
  else
    let st := (List.range 36).find? (fun i => stakeBlocks.any (fun b => stationOfStakeBlk b = i && (s.seen b n).2.1))
    let s := if s.fld (A.STK_SET_FAULT n) F.STK_SET_FAULT_STATION = 0xFF then
      s.setFld (A.STK_SET_FAULT n) F.STK_SET_FAULT_STATION (st.getD 0xFF) else s
    if s.setSt n = SetSt.COMMITTED ∨ s.setSt n = SetSt.APPLYING then s.modSet n (fun x => { x with faulted := true }) else s

/-- R149: every set that has not committed is aborted with reason MODE. -/
def State.abortUncommitted (s : State) : State :=
  (List.range 8).foldl (fun s n =>
    let st := s.setSt n
    if st = SetSt.OPENING ∨ st = SetSt.OPEN ∨ st = SetSt.CLOSING ∨ st = SetSt.WAITING then s.abortSet n 6 else s) s

/-- No station is in SLEEP or waking from it (R334). -/
def State.noneAsleep (s : State) : Bool :=
  (List.range 36).all (fun i => s.fld (A.STN_PWR_STATUS i) F.STN_PWR_STATUS_STATE < 3)

/-- SEQ_PASS_START (R131, R334): the sequencer takes the oldest requested pass. -/
def execSeqPassStart (s : State) : Out :=
  match s.stk.pass, s.stk.reqs with
  | none, q :: rest =>
    if q.cmd = PassCmd.COLLECT && !s.noneAsleep then .next s
    else
      let first : Pass := { set := q.set, cmd := q.cmd, at' := max (max q.req s.stk.passEnd + 4) s.datum }
      .next { s with stk := { s.stk with reqs := rest, pass := some first } }
  | _, _ => .next s

/-- R136: the expectation record of block `b`, or only the command for another pass. -/
def State.passData (s : State) (q : Pass) (b : Nat) : Word :=
  if q.cmd ≠ PassCmd.EXPECT then BitVec.ofNat 64 q.cmd
  else
    let part := s.rd (A.STK_PART q.set b)
    let shad := s.rd (A.STK_SHAD q.set b)
    let on := F.STK_PART_PART.get part = 1 ∨ F.STK_SHAD_PART.get shad = 1
    let x := F.NI_STK_EXP_CMD.put 0 q.cmd
    let x := F.NI_STK_EXP_PART.put x (if on then 1 else 0)
    let x := F.NI_STK_EXP_PRELOAD.put x (s.fld (A.STK_SET_CTL q.set) F.STK_SET_CTL_MODE)
    let x := F.NI_STK_EXP_STAGED.put x (F.STK_PART_STAGED.get part)
    let x := F.NI_STK_EXP_SHADOWS.put x (F.STK_SHAD_SHADOWS.get shad)
    if (s.sset q.set).asap then F.NI_STK_EXP_ASAP.put x 1
    else F.NI_STK_EXP_T_LOW.put x (s.rd (A.STK_SET_EFF_T q.set)).toNat

/-- R131, R441: the sequencer's write of block `b` leaves as a CWR packet of port 240; one that finds no route counts as
answered NOROUTE. Block 192 is written directly. -/
def State.seqWrite (s : State) (q : Pass) (b : Nat) : State × Pass :=
  let data := s.passData q b
  if b = 192 then ((s.writeExp 192 q.set { src := s.gid 240, priv := 3, tag := 192, data := data }).1, q)
  else
    let a := expOf b q.set
    let t := s.fld A.GLB_TRAV_CTL F.NI_TRAV_CTL_CUR
    let d := 160 + (agentOf a).getD 0
    if noRoute (s.routeAt t 240 d) then (s.seqFail q.set q.cmd, q)
    else
      let h : Hdr := { dest := s.gid d, cmd := Cmd.CWR, cls := 7, tag := BitVec.ofNat 12 b, bcount := 8,
                       address := BitVec.ofNat 64 a }
      ((s.outAdd 192 t).glbSend h [BitVec.ofNat 256 (data.toNat * 2 ^ (8 * (a % 32)))],
       { q with waits := q.waits ++ [SeqWait.mk b t s.datum] })

/-- SEQ_PASS_WRITE (R131): every 4 fclk the sequencer issues the next write of its pass. -/
def execSeqPassWrite (s : State) : Out :=
  match s.stk.pass with
  | none => .next s
  | some q =>
    if 193 ≤ q.idx ∨ s.datum < q.at' then .next s
    else
      match s.seqWrite q q.idx with
      | (t, q') => .next { t with stk := { t.stk with pass := some { q' with idx := q.idx + 1, at' := s.datum + 4 } } }

/-- LOCKED of plats (R106). -/
def State.lockPlats (s : State) (ps : List (Nat × Nat)) (v : Nat) : State :=
  ps.foldl (fun s e => s.setFld (A.STN_PLAT_CTL e.1 e.2) F.STN_PLAT_CTL_LOCKED v) s

/-- The FMP's own use of set 7 has ended (R258); the lane failures of an aborted failure stake stay to be closed. -/
def State.own7Done (s : State) (n result : Nat) : State :=
  match s.fmp.own7 with
  | none => s
  | some o =>
    if n ≠ 7 then s
    else
      let back := if o.kind = 1 ∧ result = 3 then o.fails else []
      { s with fmp := { s.fmp with own7 := none, laneFails := back ++ s.fmp.laneFails } }

/-- The end of a set's use: its result, and the event STAKE_DONE (R141, R148). -/
def State.endSet (s : State) (n result reason : Nat) : State :=
  let s := s.own7Done n result
  let a := A.STK_SET_STATUS n
  let ps := (s.sset n).plats
  let s := ((s.setFld a F.STK_SET_STATUS_RESULT result).setFld a F.STK_SET_STATUS_REASON reason).toSet n SetSt.IDLE
  ((s.lockPlats ps 0).modSet n (fun _ => {})).raise (1350 + n)

/-- What the end of a pass does to its set (R131, R132, R136, R141, R148). -/
def State.passDone (s : State) (q : Pass) : State :=
  let n := q.set
  let st := s.setSt n
  match q.cmd with
  | 1 => if st = SetSt.OPENING then s.toSet n SetSt.OPEN else s
  | 2 => if st = SetSt.CLOSING then s.toSet n SetSt.WAITING else s
  | _ =>
    if q.cmd = PassCmd.ABORT then s.modSet n (fun x => { x with passed := true })
    else if (s.sset n).stuck then (s.endSet n 4 0).sat A.STK_TOTALS F.STK_TOTALS_STUCK
    else s

/-- SEQ_PASS_END (R131, R281): when every write has been answered, or has expired after 131,072 fclk, the pass ends. -/
def execSeqPassEnd (s : State) : Out :=
  match s.stk.pass with
  | none => .next s
  | some q =>
    let dead := q.waits.filter (fun w => decide (w.at' + 131072 ≤ s.datum))
    let s := dead.foldl (fun s w => (s.outDone 192 w.trav).seqFail q.set q.cmd) s
    let q := { q with waits := q.waits.filter (fun w => !dead.contains w) }
    if q.idx < 193 ∨ !q.waits.isEmpty then .next { s with stk := { s.stk with pass := some q } }
    else .next ({ s with stk := { s.stk with pass := none, passEnd := s.datum } }.passDone q)

/-! ### Opening, closing, aborting (R132, R136) -/

/-- The writer owns the set or is the FMP. -/
def State.ownsSet (s : State) (n : Nat) (r : Req) : Bool :=
  isFmp r || r.src.toNat = s.fld (A.STK_SET_STATUS n) F.STK_SET_STATUS_OWNER

/-- R136: the granule coded in GRAN. -/
def granOf (g : Nat) : Nat := if g = 0 then 1 else if g = 1 then 2 else 16 * 2 ^ g

/-- R106: plats whose active bank the set would change. -/
def State.swapPlats (s : State) (n : Nat) : List (Nat × Nat) :=
  (List.range 36).flatMap (fun i => (List.range 11).filterMap (fun k =>
    if s.stk.shadows.any (fun h => h.set = n && h.addr = A.STN_PLAT_CTL i k &&
        F.STN_PLAT_CTL_BANK.get h.val ≠ s.platBank i k) then some (i, k) else none))

/-- R132: an accepted OPEN. -/
def State.openSet (s : State) (n : Nat) (r : Req) : State :=
  let s := s.wr (A.STK_SET_CTL n) 0
  let s := s.wr (A.STK_SET_T n) 0
  let s := stakeBlocks.foldl (fun s b => (s.wr (A.STK_PART n b) 0).wr (A.STK_SHAD n b) 0) s
  let a := A.STK_SET_STATUS n
  let s := ((s.setFld a F.STK_SET_STATUS_OWNER r.src.toNat).setFld a F.STK_SET_STATUS_SEQ_ERR 0).setFld
    (A.STK_SET_FAULT n) F.STK_SET_FAULT_STATION 0xFF
  ((s.modSet n (fun _ => {})).toSet n SetSt.OPENING).reqPass n PassCmd.COLLECT

/-- R334: the opening of a set asks every sleeping station to wake. -/
def State.wakeSleepers (s : State) : State :=
  (List.range 36).foldl (fun s i => if s.fld (A.STN_PWR_STATUS i) F.STN_PWR_STATUS_STATE = 3 then
    (s.setFld (A.STN_PWR_STATUS i) F.STN_PWR_STATUS_STATE 4).modStn i (fun x => { x with wakeAt := some (s.datum + 8000) })
    else s) s

/-- R136: an accepted CLOSE at datum C. -/
def State.closeSet (s : State) (n : Nat) : State :=
  let c := s.datum
  let ctl := A.STK_SET_CTL n
  let g := granOf (s.fld ctl F.STK_SET_CTL_GRAN)
  let g := if s.fld ctl F.STK_SET_CTL_MODE = 1 then max g 2 else g
  let t := roundUp (s.rd (A.STK_SET_T n)).toNat g
  let late := decide (t < c + 2048)
  let a := A.STK_SET_STATUS n
  let parts := (stakeBlocks.filter (fun b => s.bit (A.STK_PART n b) F.STK_PART_PART || s.bit (A.STK_SHAD n b) F.STK_SHAD_PART)).length
  let s := (s.wr (A.STK_SET_CLOSE_TIME n) (BitVec.ofNat 64 c)).wr (A.STK_SET_EFF_T n) (BitVec.ofNat 64 t)
  let s := (s.setFld a F.STK_SET_STATUS_PARTS parts).setFld a F.STK_SET_STATUS_LATE (if late then 1 else 0)
  let s := if late then s.sat A.STK_TOTALS F.STK_TOTALS_LATE else s
  if late && s.fld ctl F.STK_SET_CTL_LATE_POLICY = 0 then s.abortSet n 4
  else
    let ps := s.swapPlats n
    let s := (s.lockPlats ps 1).modSet n (fun x => { x with asap := late, plats := ps })
    (s.toSet n SetSt.CLOSING).reqPass n PassCmd.EXPECT

/-- The modes in which a set may be opened (R132). -/
def State.openMode (s : State) : Bool :=
  s.mode = Mode.ENUMERATE || s.mode = Mode.RUN || s.mode = Mode.RECONFIGURE || s.mode = Mode.DEGRADED

/-- R132: a write of STK_SETn_CTL. -/
def State.writeSetCtl (s : State) (n : Nat) (r : Req) : State × BitVec 4 :=
  let a := A.STK_SET_CTL n
  let st := s.setSt n
  let fs := [F.STK_SET_CTL_MODE, F.STK_SET_CTL_LATE_POLICY, F.STK_SET_CTL_GRAN]
  let changes := fs.any (fun f => reqFld r f ≠ s.fld a f)
  let own := s.ownsSet n r
  let badFlds := changes && (st ≠ SetSt.OPEN || !own || reqFld r F.STK_SET_CTL_GRAN = 7)
  let t := fs.foldl (fun s f => s.setFld a f (reqFld r f)) s
  match reqFld r F.STK_SET_CTL_OP with
  | 0 => if badFlds then (s, Code.DENY) else (t, Code.OK)
  | 1 =>
    if st ≠ SetSt.IDLE || !s.openMode || ((s.fld A.STK_CFG F.STK_CFG_RESERVE).testBit n && !isFmp r) then (s, Code.DENY)
    else ((s.openSet n r).wakeSleepers, Code.OK)
  | 2 => if st ≠ SetSt.OPEN || !own || badFlds then (s, Code.DENY) else (t.closeSet n, Code.OK)
  | 3 =>
    if !(st = SetSt.OPEN || st = SetSt.CLOSING || st = SetSt.WAITING) || !own || badFlds then (s, Code.DENY)
    else (t.abortSet n 1, Code.OK)
  | _ => (s, Code.DENY)

/-- SET_OPEN (R132): a write of STK_SETn_CTL is served. -/
def execSetOpen (n : Fin 8) (r : Req) (s : State) : Out :=
  .next (s.serve (A.STK_SET_CTL n.val) r (·.writeSetCtl n.val r))
/-- SET_CLOSE (R136): a write of STK_SETn_CTL is served. -/
def execSetClose (n : Fin 8) (r : Req) (s : State) : Out :=
  .next (s.serve (A.STK_SET_CTL n.val) r (·.writeSetCtl n.val r))
/-- SET_ABORT (R132): a write of STK_SETn_CTL is served. -/
def execSetAbort (n : Fin 8) (r : Req) (s : State) : Out :=
  .next (s.serve (A.STK_SET_CTL n.val) r (·.writeSetCtl n.val r))

/-- R132: a write of STK_SETn_T or STK_PARTn_i, accepted from the owner while the set is OPEN; of STK_SHADn_i, the
FMP's alone. A write that changes nothing is accepted (R450). -/
def State.writeContent (s : State) (a n : Nat) (r : Req) : State × BitVec 4 :=
  if s.same a r then (s, Code.OK)
  else if s.setSt n ≠ SetSt.OPEN ∨ !s.ownsSet n r then (s, Code.DENY)
  else s.plainWrite a r

/-- R132: STAGED of a part is 0 to 512, and 0 for a block that is no NI. -/
def State.writePart (s : State) (n b : Nat) (r : Req) : State × BitVec 4 :=
  if 512 < reqFld r F.STK_PART_STAGED ∨ (144 ≤ b ∧ reqFld r F.STK_PART_STAGED ≠ 0) then (s, Code.DENY)
  else s.writeContent (A.STK_PART n b) n r

/-! ### Commit and abort (R139, R141) -/

/-- The effective T of a set. -/
def State.effT (s : State) (n : Nat) : Nat := (s.rd (A.STK_SET_EFF_T n)).toNat
/-- The close datum of a set. -/
def State.closeT (s : State) (n : Nat) : Nat := (s.rd (A.STK_SET_CLOSE_TIME n)).toNat

/-- STAKE_COMMIT (R139): a ready set in WAITING commits in this cycle and its call is asked for. The commit of a
hand-over stake pauses the FMP (R277). -/
def execStakeCommit (n : Fin 8) (s : State) : Out :=
  let n := n.val
  if s.setSt n ≠ SetSt.WAITING || s.gFault n || !s.gReady n then .next s
  else
    let c := s.datum
    let commit (s : State) (t : Nat) : State :=
      let s := if s.stk.shadows.any (fun h => h.set = n && h.addr = A.GLB_FMP_IMAGE) then
        s.setFld A.GLB_FMP_STATUS F.GLB_FMP_STATUS_STATE 2 else s
      ((s.wr (A.STK_SET_COMMIT_TIME n) (BitVec.ofNat 64 c)).toSet n SetSt.COMMITTED).merReq (.stakeCall n) t
    if (s.sset n).asap then
      if c ≤ s.closeT n + 65536 then
        let t := roundUp (c + 256) 1024
        .next (commit (s.wr (A.STK_SET_EFF_T n) (BitVec.ofNat 64 t)) t)
      else .next s
    else if c + 256 ≤ s.effT n then .next (commit s (s.effT n)) else .next s

/-- STAKE_FAULT_ABORT (R139): a gathered fault in WAITING aborts the set. -/
def execStakeFaultAbort (n : Fin 8) (s : State) : Out :=
  let n := n.val
  if s.setSt n = SetSt.WAITING && s.gFault n then .next ((s.seeFault n).abortSet n 2) else .next s

/-- STAKE_NOTREADY (R139): a set in CLOSING or WAITING that is not ready by its last instant is aborted. -/
def execStakeNotready (n : Fin 8) (s : State) : Out :=
  let n := n.val
  let st := s.setSt n
  let last := if (s.sset n).asap then s.closeT n + 65536 else s.effT n - 256
  if decide (last ≤ s.datum) &&
      (st = SetSt.CLOSING || (st = SetSt.WAITING && !s.gFault n && (!s.gReady n || decide (last < s.datum)))) then
    .next (s.abortSet n 3)
  else .next s

/-- STAKE_ABORT_DONE (R141): the abort pass has ended and OPEN[n] has fallen. -/
def execStakeAbortDone (n : Fin 8) (s : State) : Out :=
  let n := n.val
  if s.setSt n = SetSt.ABORTING && (s.sset n).passed && !s.gOpen n then
    .next ((s.endSet n 3 (s.sset n).reason).sat A.STK_TOTALS F.STK_TOTALS_ABORTED)
  else .next s

/-- STAKE_CONTROLLER_T (R148): at T a committed set is APPLYING. -/
def execStakeControllerT (n : Fin 8) (s : State) : Out :=
  let n := n.val
  if s.setSt n = SetSt.COMMITTED ∧ s.effT n ≤ s.datum then .next (s.toSet n SetSt.APPLYING) else .next s

/-- STAKE_RESULT (R148): from T + 24 on, when the gathered OPEN[n] has fallen, the set ends. -/
def execStakeResult (n : Fin 8) (s : State) : Out :=
  let n := n.val
  if s.setSt n = SetSt.APPLYING && decide (s.effT n + 24 ≤ s.datum) && !(s.sset n).stuck && !s.gOpen n then
    let s := s.seeFault n
    let err := (s.sset n).faulted
    let s := (s.endSet n (if err then 2 else 1) 0).sat A.STK_TOTALS F.STK_TOTALS_APPLIED
    .next (if err then s.raise 1358 else s)
  else .next s

/-- STAKE_STUCK (R148): a set still open at T + 65,536 gets a release pass. -/
def execStakeStuck (n : Fin 8) (s : State) : Out :=
  let n := n.val
  if s.setSt n = SetSt.APPLYING && decide (s.effT n + 65536 ≤ s.datum) && !(s.sset n).stuck && s.gOpen n then
    .next (((s.modSet n (fun x => { x with stuck := true })).raise 1359).reqPass n PassCmd.RELEASE)
  else .next s

/-! ### Calls at the blocks (R142, R143) -/

/-- R142: a call reaches block `b` by the meridian. -/
def State.callAt (s : State) (b n t : Nat) : State :=
  if s.blkSt b n = BlkSt.EXPECT then
    let s := (s.setFld (setRegOf b n) F.NI_STK_SET_STATE BlkSt.CALLED).modBlk b n (fun x => { x with t := t })
    (s.setFld (setRegOf b n) F.NI_STK_SET_READY 1).driveTree b n
  else s.stkLost b 1

/-- The set a call names. -/
def callSet : MerKind → Option Nat
  | .stakeCall n => some n
  | _ => none

/-- STAKE_CALL_ARRIVAL (R23, R142). The global block, which launches the message, takes its own call in the same cycle,
with the first receiver served. -/
def execStakeCallArrival (b : Fin 192) (sbe : Bool) (s : State) : Out :=
  match s.arriving b.val (fun k => (callSet k).isSome) with
  | none => .next s
  | some m =>
    let n := (callSet m.kind).getD 0
    let s := if m.seen.contains 192 then s.meet m b.val
      else ((s.meet m 192).meet { m with seen := m.seen ++ [192] } b.val).callAt 192 n m.instant
    let s := s.merSbe (if sbe then 1 else 0)
    .next (s.callAt b.val n m.instant)

/-- STAKE_MISSED (R143): a participant in EXPECT that reaches T without a call. -/
def execStakeMissed (b : Fin 193) (n : Fin 8) (s : State) : Out :=
  let b := b.val
  let n := n.val
  if s.blkSt b n = BlkSt.EXPECT && s.expF b n F.NI_STK_EXP_PART = 1 && s.expF b n F.NI_STK_EXP_ASAP = 0 &&
      decide ((s.blk b n).t ≤ s.nowOf b) && s.setF b n F.NI_STK_SET_MISSED = 0 then
    let k := (s.entriesOf b n).length + (s.shadowsOf b n).length
    let gone := s.shadowsOf b n
    let s := (((s.dropShadows b n).dropEntries b n).stkLost b k).setFld (setRegOf b n) F.NI_STK_SET_MISSED 1
    .next ({ s with stk := { s.stk with missed := s.stk.missed ++ gone } }.blkFault b n 8)
  else .next s

/-! ### Staged writes (R133, R134) -/

/-- R133: the judgement of an STW at port `p`: its STATUS, whether REFUSED sets, whether EXTRA counts, whether it is
staged. -/
def State.judgeStw (s : State) (p : Nat) (q : Pkt) : BitVec 4 × Bool × Bool × Bool :=
  let n := q.h.stake.toNat
  let st := s.blkSt p n
  let a := q.h.address.toNat
  let k := q.h.bcount.toNat
  if st = BlkSt.IDLE then (Code.DENY, false, false, false)
  else if st = BlkSt.CALLED ∨ st = BlkSt.APPLYING then (Code.LATE, false, true, false)
  else if k = 0 ∨ 64 < a % 64 + k ∨ q.h.len.toNat ≠ lenFor a k ∨ !q.h.clean then (Code.TGTERR, true, false, false)
  else if effPriv q.h.src q.h.priv < s.fld (A.NI_STK_CTL p) F.NI_STK_CTL_MIN_PRIV then (Code.DENY, true, false, false)
  else if st = BlkSt.EXPECT ∧ (s.expF p n F.NI_STK_EXP_PART = 0 ∨
      s.expF p n F.NI_STK_EXP_STAGED ≤ s.setF p n F.NI_STK_SET_ACC) then (Code.TGTERR, false, true, false)
  else if 512 ≤ s.entsUsed p then (Code.TGTERR, true, false, false)
  else (Code.OK, false, false, true)

/-- The bytes [off, off + k) of a line as a mask. -/
def lineMask (off k : Nat) : BitVec 64 := BitVec.ofNat 64 ((2 ^ k - 1) * 2 ^ off)

/-- R133, R134: an STW taken at port `p`: the code of its STR and the state after. -/
def State.takeStw (s : State) (p : Nat) (q : Pkt) : State :=
  let n := q.h.stake.toNat
  let reply (s : State) (c : BitVec 4) : State := s.respond p q.h Cmd.STR c []
  if q.h.dest ≠ s.gid p then
    reply ((s.sat (A.NI_SINK p) F.NI_SINK_REQ_ABS).tcapPkt p Code.NOROUTE q.h) Code.NOROUTE
  else if q.fails then reply ((s.sat (A.NI_SINK p) F.NI_SINK_REQ_ABS).tcapPkt p Code.CRC q.h) Code.CRC
  else if !s.enabled p then
    reply ((s.sat (A.NI_SINK p) F.NI_SINK_REQ_ABS).tcapPkt p (s.stateCode p) q.h) (s.stateCode p)
  else
    match s.judgeStw p q with
    | (code, refused, extra, staged) =>
      let s := if refused then (s.setFld (setRegOf p n) F.NI_STK_SET_REFUSED 1).refresh p n else s
      let s := if extra then s.sat (A.NI_STK_STATUS p) F.NI_STK_STATUS_EXTRA else s
      if staged then
        let a := q.h.address.toNat
        let k := q.h.bcount.toNat
        let e : StkEntry := { set := n, hdr := q.h, mask := lineMask (a % 64) k
                              data := BitVec.ofNat 512 (q.dataNat * 256 ^ (a % 64)) }
        let s := s.setEnts p (tget [] s.stk.ents p ++ [e])
        let s := (s.wrap (setRegOf p n) F.NI_STK_SET_ACC).ncnt p 22
        reply (s.refresh p n) Code.OK
      else reply (s.tcapPkt p code q.h) code

/-- STW_RECEIVE (R133): the STW at the head of the arrived REQ packets is taken. -/
def execStwReceive (p : Fin 144) (s : State) : Out :=
  let p := p.val
  match (s.ni p).rxReq with
  | q :: rest =>
    if q.h.cmd = Cmd.STW then .next ((s.modNi p (fun n => { n with rxReq := rest })).takeStw p q) else .next s
  | [] => .next s

/-! ### Register shadows (R135) -/

/-- R135: a write of a register whose fields are all RWS. -/
def State.writeRws (s : State) (a : Nat) (r : Req) : State × BitVec 4 :=
  match rowAt a with
  | none => (s, Code.TGTERR)
  | some row =>
    match s.rwsWrite a row r.data with
    | some t => (t.refresh (blkIndexOf a) (s.fld (bindOf (blkIndexOf a)) F.NI_STK_BIND_SET), Code.OK)
    | none => (s, Code.DENY)

end Sys2Proof.Machine
end

