-- ==== Sys2Proof/Machine/Journal.lean ====
section
/-!
DEFINITION. Machine/Journal.lean: the NVM port as the journal uses it (R422, R423), the writing of journal records
(R300 to R303) and the scan at boot (R304, R349).
-/
namespace Sys2Proof.Machine

/-! ### Records (R301, R302) -/

/-- The `n` low bytes of a number, least significant first. -/
def leBytes (n x : Nat) : List Byte := (List.range n).map (fun i => BitVec.ofNat 8 (x / 256 ^ i))

/-- R301: header word of a record with the given words 1 to WORDS. -/
def recHeader (typ seq : Nat) (ws : List Nat) : Word :=
  let low := typ % 256 + 256 * ws.length + 1024 * (seq % 2 ^ 22)
  BitVec.ofNat 64 (low + 2 ^ 32 * (crc32c (ws.flatMap (leBytes 8) ++ leBytes 4 low)).toNat)

/-- The types of R302. -/
def recTypeOk (t : Nat) : Bool := decide (1 ≤ t) && decide (t ≤ 0x11)

/-- Classes of R304. -/
inductive SlotClass where
  | free | valid | torn | corrupt
  deriving DecidableEq, Repr

/-- An erased word. -/
abbrev erased : Word := 0xFFFFFFFFFFFFFFFF#64

/-- R304: class of a slot. -/
def slotClass (q : JSlot) : SlotClass :=
  let (h, a, b, c) := q
  let n := h.toNat / 256 % 4
  let ws := ([a, b, c].take n).map (·.toNat)
  if h = erased then (if a = erased ∧ b = erased ∧ c = erased then .free else .torn)
  else if recTypeOk (h.toNat % 256) && recHeader (h.toNat % 256) (h.toNat / 1024) ws = h then .valid
  else .corrupt

/-- SEQ of a header word. -/
def recSeq (h : Word) : Nat := h.toNat / 1024 % 2 ^ 22

/-! ### The region and its slots (R300, R303) -/

/-- Slots of a sector and of the region. -/
def State.jPerSec (s : State) : Nat := s.fmp.jsec / 4
def State.jSlots (s : State) : Nat := s.jPerSec * s.fmp.jn

/-- R300: the next slot is taken; entering sector k asks for the erasure of sector (k + 1) mod N. -/
def State.takeSlot (s : State) : Nat × State :=
  let i := s.fmp.jpos
  let f := { s.fmp with jpos := (i + 1) % s.jSlots }
  if s.jPerSec = 0 ∨ i % s.jPerSec ≠ 0 then (i, { s with fmp := f })
  else
    let k := (i / s.jPerSec + 1) % s.fmp.jn
    let gone := f.jrecs.filter (fun e => e.1 / s.jPerSec = k)
    (i, { s with fmp := { f with
      jera := if f.jera.contains k then f.jera else f.jera ++ [k]
      jrecs := f.jrecs.filter (fun e => e.1 / s.jPerSec ≠ k)
      jover := f.jover + gone.length } })

/-- The next SEQ is taken. -/
def State.takeSeq (s : State) : Nat × State :=
  let q := s.fld A.GLB_JNL_STATUS F.GLB_JNL_STATUS_NEXT_SEQ
  (q, s.setFld A.GLB_JNL_STATUS F.GLB_JNL_STATUS_NEXT_SEQ (q + 1))

/-- The journal may be written: from a trip on, and after it while SHUTDOWN_READY is latched, no word program is
started (R347). -/
def State.jActive (s : State) : Bool :=
  s.bit A.GLB_JNL_STATUS F.GLB_JNL_STATUS_ACTIVE && !s.bit A.GLB_JNL_STATUS F.GLB_JNL_STATUS_FAULT && !s.host.halt &&
  !s.bit A.THM_STATUS F.THM_STATUS_SHUTDOWN_READY

/-- QUEUED follows the queue (R307). -/
def State.setJq (s : State) (q : List JRec) : State :=
  { s with fmp := { s.fmp with jq := q } }.setFld A.GLB_JNL_STATUS F.GLB_JNL_STATUS_QUEUED q.length

/-- R303: writing stops until the next reset. -/
def State.jFault (s : State) : State :=
  { s with fmp := { s.fmp with jcur := none } }.setFld A.GLB_JNL_STATUS F.GLB_JNL_STATUS_FAULT 1 |>.raise 1376

/-- A request put on the NVM port. -/
def State.nvmPut (s : State) (op addr : Nat) (data : Word) (who : Nat) : State :=
  { s with fmp := { s.fmp with nvm := s.fmp.nvm ++ [{ op := op, addr := addr, data := data, at' := s.datum, who := who }] } }

/-- Nothing is outstanding on the NVM port, and no late response is awaited (R423). -/
def State.nvmFree (s : State) : Bool := s.fmp.nvm.isEmpty && !s.fmp.nvmLate

/-- R300, R303, R423: the next request of the journal goes out when the port is free: an erasure first, then the next
word of the record being written. -/
def State.jIssue (s : State) : State :=
  if !s.jActive || !s.nvmFree then s
  else
    match s.fmp.jera with
    | k :: _ => s.nvmPut 2 (s.fmp.jbase + k * s.fmp.jsec) 0 1
    | [] =>
      match s.fmp.jcur with
      | some c =>
        match c.left with
        | (a, w) :: _ => s.nvmPut 1 a w 1
        | [] => s
      | none => s

/-- R301, R303: record `r` is begun in a slot with a SEQ: words 1 to 3 in order, the header last. -/
def State.jBegin (s : State) (r : JRec) (slot seq : Nat) (retry : Bool) : State :=
  let a := s.fmp.jbase + 4 * slot
  let ws := [r.w1, r.w2, r.w3]
  let left := [(a + 1, BitVec.ofNat 64 r.w1), (a + 2, BitVec.ofNat 64 r.w2), (a + 3, BitVec.ofNat 64 r.w3),
               (a, recHeader r.typ seq ws)]
  let c : JCur := { rcd := r, slot := slot, seq := seq, retry := retry, left := left }
  { s with fmp := { s.fmp with jcur := some c } }.jIssue

/-- A record begun in the slot reserved for it, or in the next one. -/
def State.jStart (s : State) (r : JRec) (retry : Bool) : State :=
  match r.resv, retry with
  | some (slot, seq), false => s.jBegin r slot seq false
  | _, _ =>
    let (slot, s) := s.takeSlot
    let (seq, s) := s.takeSeq
    s.jBegin r slot seq retry

/-- R303: the head of the queue pre-empts a record that is being written. -/
def State.jPreempts (s : State) : Bool :=
  match s.fmp.jq, s.fmp.jcur with
  | r :: _, some c => r.typ = 6 && r.resv.isSome && c.rcd.typ ≠ 6
  | _, _ => false

/-- R303: dropped records are told by a LOSS record once the queue has room. -/
def State.jTellLoss (s : State) : State :=
  if s.fmp.jlost = 0 ∨ 64 ≤ s.fmp.jq.length then s
  else ({ s with fmp := { s.fmp with jlost := 0 } }.note 0x11 (s.fmp.jlost % 65536) 0).raise 1375

/-- JOURNAL_RECORD_WRITE (R300, R303): the record at the head of the queue is begun, when none is being written. -/
def execJournalRecordWrite (s : State) : Out :=
  if !s.jActive || s.fmp.jcur.isSome then .next s
  else
    match s.fmp.jq with
    | [] => .next s
    | r :: q => .next (((s.setJq q).jTellLoss).jStart r false)

/-! ### Responses (R423, R303, R347) -/

/-- A word of the journal has been programmed: the rest of its record, or a pre-empting one, goes on. -/
def State.jWordDone (s : State) : State :=
  match s.fmp.jcur with
  | none => s
  | some c =>
    let c := { c with left := c.left.tail }
    if c.left.isEmpty then
      { s with fmp := { s.fmp with jcur := none, jrecs := s.fmp.jrecs ++ [(c.slot, c.seq)] } }
    else
      let s := { s with fmp := { s.fmp with jcur := some c } }
      if s.jPreempts then
        match s.fmp.jq with
        | r :: q =>
          ({ s with fmp := { s.fmp with jcur := none } }.setJq ({ c.rcd with resv := none } :: q)).jStart r false
        | [] => s
      else s

/-- R303: a word was answered with an error: the record is written once more, or the journal stops. -/
def State.jWordFail (s : State) : State :=
  match s.fmp.jcur with
  | none => s
  | some c => if c.retry then s.jFault else { s with fmp := { s.fmp with jcur := none } }.jStart c.rcd true

/-- R347 step 5, after step 4 if the commit was written: the trip sequence ends. -/
def State.tripEnd (s : State) (fail : Bool) : State :=
  let s := if fail then s.setFld A.THM_STATUS F.THM_STATUS_COMMIT_FAIL 1 else s
  { s with host := { s.host with trip := 5 } }

/-- What the answer to a request does (R303, R347). -/
def State.nvmDone (s : State) (q : NvmReq) (ok : Bool) : State :=
  match q.who with
  | 1 =>
    if q.op = 2 then
      if ok then { s with fmp := { s.fmp with jera := s.fmp.jera.tail } } else s.jFault
    else if ok then (s.gcnt 40).jWordDone
    else s.jWordFail
  | 2 => (if ok then s.gcnt 40 else s).tripEnd !ok
  | _ => s

/-- NVM_RESPONSE (R422, R423): at an edge of NVM_CLK, which is DCLK (R11), the oldest outstanding request is answered. A response
that comes after its timeout only frees the port. -/
def execNvmResponse (st : Bool) (_d : Word) (s : State) : Out :=
  match (if dclkEdge s.datum then s.fmp.nvm else []) with
  | [] => .next s
  | q :: rest =>
    let late := s.fmp.nvmLate
    let s := { s with fmp := { s.fmp with nvm := rest, nvmLate := false } }
    .next (if late then s.jIssue else (s.nvmDone q st).jIssue)

/-- R423: the block's timeout of an operation, in fclk. -/
def nvmLimit (op : Nat) : Nat := if op = 1 then 2000000 else if op = 2 then 2000000000 else 200000

/-- NVM_TIMEOUT (R423): a request that has waited its timeout counts as answered with an error; its late response is
waited for before anything further is issued. -/
def execNvmTimeout (s : State) : Out :=
  match s.fmp.nvm with
  | [] => .next s
  | q :: _ =>
    if s.fmp.nvmLate ∨ q.who = 2 ∨ s.datum < q.at' + nvmLimit q.op then .next s
    else .next (s.nvmDone q false |> fun t => { t with fmp := { t.fmp with nvmLate := true } })

/-! ### The boot scan (R304, R349) -/

/-- SEQ `a` is higher than SEQ `b`, modulo 2^22. -/
def seqGt (a b : Nat) : Bool := a ≠ b && decide ((a + 2 ^ 22 - b) % 2 ^ 22 < 2 ^ 21)

/-- The VALID slots of a region: index, header and words. -/
def validSlots (q : List JSlot) : List (Nat × JSlot) :=
  (q.zipIdx.filter (fun e => slotClass e.1 = .valid)).map (fun e => (e.2, e.1))

/-- R304: the newest record. -/
def newestSlot (vs : List (Nat × JSlot)) : Option (Nat × JSlot) :=
  vs.foldl (fun best v => match best with
    | none => some v
    | some b => if seqGt (recSeq v.2.1) (recSeq b.2.1) then some v else some b) none

/-- R304: the slots of the region from the one after `i` on, round to `i`. -/
def slotsAfter (q : List JSlot) (i : Nat) : List (Nat × JSlot) :=
  let z := q.zipIdx.map (fun e => (e.2, e.1))
  z.drop (i + 1) ++ z.take i

/-- R304: the first slot after the last slot that is not FREE, counted from the newest record. -/
def resumeAt (q : List JSlot) (i : Nat) : Nat :=
  match ((slotsAfter q i).filter (fun e => slotClass e.2 ≠ .free)).getLast? with
  | some e => (e.1 + 1) % q.length
  | none => (i + 1) % q.length

/-- R304: TORN and CORRUPT slots that follow the newest record. -/
def tornAfter (q : List JSlot) (i : Nat) : List (Nat × SlotClass) :=
  ((slotsAfter q i).map (fun e => (e.1, slotClass e.2))).filter (fun e => e.2 = .torn || e.2 = .corrupt)

/-- R349: the intent that the boot must presume to have ended in a trip, by its SEQ. -/
def openIntent (vs : List (Nat × JSlot)) : Option Nat :=
  let intents := vs.filter (fun v => v.2.1.toNat % 256 = 6)
  match newestSlot intents with
  | none => none
  | some v =>
    let sq := recSeq v.2.1
    if vs.any (fun e => (e.2.1.toNat % 256 = 7 && recSeq e.2.1 = (sq + 1) % 2 ^ 22) ||
        ((e.2.1.toNat % 256 = 8 || e.2.1.toNat % 256 = 9) && e.2.2.2.1.toNat % 2 ^ 22 = sq)) then none
    else some sq

/-- The slots VALID records hold, oldest first. -/
def recsOf (q : List JSlot) (i : Nat) : List (Nat × Nat) :=
  (slotsAfter q i ++ (validSlots q).filter (fun v => v.1 = i)).filterMap (fun e =>
    if slotClass e.2 = .valid then some (e.1, recSeq e.2.1) else none)

/-- R304, R302: TORN records and the BOOT record, then the TRIP_PRESUMED of R349. -/
def State.scanRecords (s : State) (torn : List (Nat × SlotClass)) (found : Nat) (presumed : Option Nat) : State :=
  let s := s.setFld A.GLB_JNL_STATUS F.GLB_JNL_STATUS_TORN_FOUND found
  let s := torn.foldl (fun s e => s.note 0xD (4 * e.1 + 2 ^ 32 * (if e.2 = .torn then 1 else 2)) 0) s
  let b := A.GLB_BOOT_STATUS
  let s := s.note 1 (s.fld A.GLB_FMP_STATUS F.GLB_FMP_STATUS_FW_VERSION + 2 ^ 32 * s.fld b F.GLB_BOOT_STATUS_KIND +
    2 ^ 34 * s.fld b F.GLB_BOOT_STATUS_LC) found
  match presumed with
  | some sq => s.note 8 sq 0
  | none => s

/-- JOURNAL_SCAN_END (R304): the scan of the region has read `slots`. -/
def execJournalScanEnd (slots : List JSlot) (s : State) : Out :=
  if !s.fmp.jscan || slots.length ≠ s.jSlots || slots.isEmpty then .next s
  else
    let s := { s with fmp := { s.fmp with jscan := false } }.setFld A.GLB_JNL_STATUS F.GLB_JNL_STATUS_ACTIVE 1
    let found := min (slots.filter (fun q => slotClass q = .torn || slotClass q = .corrupt)).length 65535
    match newestSlot (validSlots slots) with
    | none =>
      let s := { s with fmp := { s.fmp with jpos := 0, jera := List.range s.fmp.jn, jrecs := [] } }
      .next ((s.setFld A.GLB_JNL_STATUS F.GLB_JNL_STATUS_NEXT_SEQ 0).scanRecords [] found none)
    | some (i, v) =>
      let torn := tornAfter slots i
      let s := { s with fmp := { s.fmp with jpos := resumeAt slots i, jrecs := recsOf slots i } }
      let s := s.setFld A.GLB_JNL_STATUS F.GLB_JNL_STATUS_NEXT_SEQ (recSeq v.1 + 1)
      .next (s.scanRecords torn found (openIntent (validSlots slots)))

/-! ### Slips (R291, R292) -/

/-- SLIP_RESPONSE (R291, R292): the FMP answers the oldest slip or lost meridian message: a SLIP record; for a slip
with stakes in its window STAKE_FAULT; a station's third slip within 1 s marks it avoided. -/
def execSlipResponse (s : State) : Out :=
  match s.fmp.slips with
  | [] => .next s
  | (kind, st, n) :: rest =>
    let s := { s with fmp := { s.fmp with slips := rest } }.note 0xE (st + 64 * kind + 256 * (n % 65536)) 0
    if kind = 1 then .next s
    else
      let s := if n ≠ 0 then s.raise 1358 else s
      let log := (s.fmp.slipLog.filter (fun e => decide (s.datum < e.2 + 2000000000))) ++ [(st, s.datum)]
      let s := { s with fmp := { s.fmp with slipLog := log } }
      if 3 ≤ (log.filter (fun e => e.1 = st)).length && !s.fmp.avoid.contains st then
        .next (s.markAvoid st)
      else .next s

end Sys2Proof.Machine
end

