-- ==== Sys2Proof/Machine/Set7.lean ====
section
/-!
DEFINITION. Machine/Set7.lean: how the FMP places shadows in a set and uses set 7 for its own work (R135, R258), and the
placing again of lost shadows (R291).
-/
namespace Sys2Proof.Machine

/-- The FMP as the writer of a register (R441). -/
def State.fmpReq (s : State) (data : Word) : Req := { src := s.gid 240, priv := 3, tag := 0, data := data }

/-- The patch word (R105) that gives entry `t` of plat `n` the value `entry`. -/
def patchWord (n t entry : Nat) : Word :=
  F.STN_PLAT_PATCH_GO.put (F.STN_PLAT_PATCH_ENTRY.put
    (F.STN_PLAT_PATCH_PLAT.put (F.STN_PLAT_PATCH_PARCEL.put 0 t) n) entry) 1

/-- A write of the patch register by the FMP, undone unless the station can take it. -/
def State.tryPatch (s : State) (st : Nat) (x : Word) : State × Bool :=
  let w := s.writePatch st (s.fmpReq x)
  if w.2 = Code.OK then (w.1, true) else (s, false)

/-- R135, R258: the FMP binds the block of register `a` to set `n` and writes the register's RWS fields; the controller's
count of the block's shadows follows. None: the shadow is refused. -/
def State.placeFor (s : State) (n a : Nat) (v : Word) : Option State :=
  let b := blkIndexOf a
  let s := (s.setFld (bindOf b) F.NI_STK_BIND_SET n).setFld (bindOf b) F.NI_STK_BIND_VALID 1
  match rowAt a with
  | none => none
  | some row =>
    match s.placeShadow a (row.rwsPart v) with
    | none => none
    | some s =>
      some ((s.setFld (A.STK_SHAD n b) F.STK_SHAD_PART 1).setFld (A.STK_SHAD n b) F.STK_SHAD_SHADOWS (s.shadowsOf b n).length)

/-- Shadows placed one after another; whether all were accepted. -/
def State.placeAll (s : State) (n : Nat) (l : List (Nat × Word)) : State × Bool :=
  l.foldl (fun (x : State × Bool) e => match x.1.placeFor n e.1 e.2 with
    | some t => (t, x.2)
    | none => (x.1, false)) (s, true)

/-- The granule code of at least `g` fclk (R136). -/
def granCode (g : Nat) : Nat := ((List.range 7).find? (fun c => decide (g ≤ granOf c))).getD 6

/-- R106: the granule the shadows of a set need: the larger of the old and new length of every plat swapped, else 1. -/
def State.needGran (s : State) (n : Nat) : Nat :=
  (s.swapPlats n).foldl (fun g e => max g (max (s.bankLen e.1 e.2 0) (s.bankLen e.1 e.2 1))) 1

/-- The FMP opens set 7 for itself (R258, R334). -/
def State.open7 (s : State) : State := (s.openSet 7 (s.fmpReq 0)).wakeSleepers

/-- Set 7 is not in use. -/
def State.idle7 (s : State) : Bool := s.setSt 7 = SetSt.IDLE && s.stk.reqs.all (fun q => q.set ≠ 7)

/-- The FMP closes set 7 with the requested T, or with close + LEAD when T is 0 (R258). -/
def State.close7 (s : State) (t lead : Nat) : State :=
  let g := granCode (s.needGran 7)
  let t := if t = 0 then s.datum + lead else t
  ((s.wr (A.STK_SET_T 7) (BitVec.ofNat 64 t)).setFld (A.STK_SET_CTL 7) F.STK_SET_CTL_GRAN g).closeSet 7

/-- REAPPLY_SHADOWS (R291): set `n` has ended APPLIED_ERR through a lost call: the FMP opens set 7; once it is open it
places again every shadow that the blocks discarded, closes it with a lead of 2,048 fclk, and journals a STAKE record. -/
def execReapplyShadows (n : Fin 8) (s : State) : Out :=
  let n := n.val
  let lost := s.stk.missed.filter (fun h => h.set = n)
  let ended := s.setSt n = SetSt.IDLE && s.fld (A.STK_SET_STATUS n) F.STK_SET_STATUS_RESULT = 2
  match lost, s.fmp.own7 with
  | _ :: _, none =>
    if ended && s.idle7 then .next ({ s with fmp := { s.fmp with own7 := some { kind := 2 } } }.open7) else .next s
  | h :: _, some o =>
    if o.kind = 2 && s.setSt 7 = SetSt.OPEN && (n = 7 || ended) then
      let s := { s with stk := { s.stk with missed := s.stk.missed.filter (fun h => h.set ≠ n) } }
      .next (((s.placeAll 7 (lost.map (fun h => (h.addr, h.val)))).1.close7 0 2048).note 0xF
        (n + 16 * 2 + 256 * 8 + 4096 * h.blk) 0)
    else .next s
  | [], _ => .next s

end Sys2Proof.Machine
end

