-- ==== Sys2Proof/Machine/Federation.lean ====
section
/-!
DEFINITION. Machine/Federation.lean: the federation agents: time transfer (R399 to R401), packets from and to the link
(R402 to R406, R410), relayed chains (R407), and the loss of a partner (R411).
-/
namespace Sys2Proof.Machine

/-- Key of an agent (R67). -/
def fedKey (f : Nat) : Nat := 144 + f
/-- STATE of a federation port. -/
def State.fedState (s : State) (f : Nat) : Nat := s.fld (A.FED_STATUS f) F.FED_STATUS_STATE
/-- The agent's datum (R13). -/
def State.fedNow (s : State) (f : Nat) : Nat := s.nowOf (fedKey f)

namespace FedState
abbrev DOWN : Nat := 0
abbrev SYNC : Nat := 1
abbrev UP : Nat := 2
abbrev LOST : Nat := 3
end FedState

/-! ### Sending (R396, R67) -/

/-- A packet joins those for the link. -/
def State.fedLink (s : State) (f : Nat) (q : Pkt) : State :=
  if s.fedState f = FedState.UP then
    let k := ingKey q.h.cmd
    s.modFed f (fun x => { x with txQ := tset [] x.txQ k (tget [] x.txQ k ++ [q]) })
  else s

/-- R398: the VC type whose flit goes next, if one waits: turn about, beginning after the one that sent last (DESIGN CHOICE,
log 47). -/
def txNext (x : FedSt) : Option Nat :=
  [(x.txLast + 1) % 3, (x.txLast + 2) % 3, x.txLast % 3].find? (fun k => !(tget [] x.txQ k).isEmpty)

/-- R396, R398: one cycle of the link: a G flit that waits goes first, else one flit of a packet; FED_TX_READY is taken as 1
and a credit as never short (log 47). -/
def State.fedDrive (s : State) (f : Nat) : State :=
  let x := s.fed f
  match x.txWait with
  | g :: gs => (s.modFed f (fun x => { x with txWait := gs, txG := g :: x.txG, link := some ⟨.g g, none⟩ })).gcnt 59
  | [] =>
    match txNext x with
    | none => if x.link.isSome then s.modFed f (fun x => { x with link := none }) else s
    | some k =>
      match tget [] x.txQ k with
      | [] => s
      | q :: rest =>
        let fs := q.flits (vcTypeOf q.h.cmd).vcA
        let n := tget 0 x.txSent k
        let last := decide (fs.length ≤ n + 1)
        (s.modFed f (fun x =>
          { x with link := (fs[n]?).map (fun g => ⟨.be g, none⟩), txLast := k
                   txSent := tset 0 x.txSent k (if last then 0 else n + 1)
                   txQ := if last then tset [] x.txQ k rest else x.txQ
                   tx := if last then q :: x.tx else x.tx })).gcnt 59

/-- Header of the agent's answer to a request. -/
def State.fedRspHdr (s : State) (f : Nat) (q : Hdr) (cmd : BitVec 6) (code : BitVec 4) : Hdr :=
  { dest := q.src, src := s.gid (fedKey f), cmd := cmd, cls := q.cls, tag := q.tag, region := q.region, status := code,
    bcount := q.bcount, address := q.address, stamp := BitVec.ofNat 32 (s.fedNow f) }

/-- A non-posted packet from the link is answered over the link; any other is discarded. -/
def State.fedAnswerLink (s : State) (f : Nat) (q : Hdr) (code : BitVec 4) : State :=
  match Cmd.response q.cmd with
  | some c => s.fedLink f (Pkt.seal (s.fedRspHdr f q c code) [])
  | none => s

/-- A non-posted packet from the station is answered into the station; any other is discarded. -/
def State.fedAnswerLocal (s : State) (f : Nat) (q : Hdr) (code : BitVec 4) : State :=
  match Cmd.response q.cmd with
  | some c => s.agentBuild (fedKey f) { pkt := { h := s.fedRspHdr f q c code, units := [] } }
  | none => s

/-- The next tag of the agent's own requests. -/
def State.fedTag (s : State) (f : Nat) : Nat × State :=
  ((s.fed f).tagNo % 4096, s.modFed f (fun x => { x with tagNo := x.tagNo + 1 }))

/-- R82: a switch of the agent from traverse `c`: its posted bits of `c` are added to OUT[c] and each becomes a drain
barrier, to be built and sent like its other packets. -/
def State.fedDrain (s : State) (f c : Nat) : State :=
  let b := fedKey f
  let ks := ((s.fed f).posted.filter (fun e => e.2 && e.1 / 256 = c)).map (fun e => e.1 % 256)
  let s := s.modFed f (fun x => { x with posted := x.posted.filter (fun e => e.1 / 256 ≠ c) })
  let s := s.outAdd b c ks.length
  ks.foldl (fun s d =>
    let (tag, s) := s.fedTag f
    let h : Hdr := { dest := s.gid d, src := s.gid b, cmd := Cmd.BAR, cls := 6, tag := BitVec.ofNat 12 tag }
    (s.modFed f (fun x => { x with drains := x.drains ++ [(tag, c)] })).agentBuild b
      { pkt := { h := h, units := [] }, use := .drain tag c }) s

/-! ### Time transfer (R399 to R401) -/

/-- Bits `lo` to `lo + n - 1` of a SYNC message. -/
def syncBits (m : BitVec 288) (lo n : Nat) : Nat := m.toNat / 2 ^ lo % 2 ^ n

/-- CHECK of a SYNC message (R399). -/
def syncCheck (m : BitVec 288) : BitVec 32 := crc32c (leBytes 32 m.toNat)

/-- GLB_FED_TIME is valid: at the root, or where the upstream partner's is and its bridge has locked. -/
def State.rootValid (s : State) : Bool :=
  s.bit A.GLB_FED_ID F.GLB_FED_ID_ROOT ||
  (List.range 12).any (fun f => s.bit (A.FED_CTL f) F.FED_CTL_UPSTREAM && (s.fed f).partnerValid &&
    (s.bit (A.FED_STATUS f) F.FED_STATUS_LOCKED || s.bit (A.FED_STATUS f) F.FED_STATUS_HOLDOVER))

/-- The SYNC message an agent sends now (R399). -/
def State.syncMsg (s : State) (f : Nat) : BitVec 288 :=
  let x := s.fed f
  let b (v : Bool) : Nat := if v then 1 else 0
  let (rn, rt) := x.syncRx.getD (0, 0)
  let low := 1 + 16 * b (s.bit (A.FED_STATUS f) F.FED_STATUS_LOCKED) + 32 * b (s.bit (A.FED_CTL f) F.FED_CTL_UPSTREAM) +
    64 * b s.rootValid + 2 ^ 8 * (x.syncNo % 256) + 2 ^ 16 * (rn % 256) + 2 ^ 24 * s.instance' + 2 ^ 34 * f +
    2 ^ 64 * (s.fedNow f % 2 ^ 64) + 2 ^ 128 * (rt % 2 ^ 64) + 2 ^ 192 * (s.rd A.GLB_FED_TIME).toNat
  BitVec.ofNat 288 (low + 2 ^ 256 * (crc32c (leBytes 32 low)).toNat)

/-- TT_SYNC_SEND (R399): at a multiple of 4,096 the agent sends its SYNC message. The command stands for byte 0. -/
def execTtSyncSend (f : Fin 12) (s : State) : Out :=
  let f := f.val
  let now := s.fedNow f
  if now % 4096 ≠ 0 ∨ ((s.fed f).syncTx.head?.map (·.2)) = some now then .next s
  else
    let m := s.syncMsg f
    .next (s.modFed f (fun x => { x with syncNo := x.syncNo + 1, ttTx := m
                                         syncTx := ((x.syncNo % 256, now) :: x.syncTx).take 256 }))

/-- The mean of doubled values, rounded to the nearest with ties up (R400). -/
def meanOf (l : List Int) : Int := if l.isEmpty then 0 else (l.sum + l.length) / (2 * l.length)

/-- R400: HOLDOVER with cause TIME_FAULT; LOCKED is lost. -/
def State.timeFault (s : State) (f : Nat) : State :=
  ((s.setFld (A.FED_STATUS f) F.FED_STATUS_HOLDOVER 1).setFld (A.FED_STATUS f) F.FED_STATUS_LOCKED 0).fedCause f 1

/-- R400: an estimate is formed from its doubled offset and delay. -/
def State.estimate (s : State) (f : Nat) (th de : Int) : State :=
  let x := s.fed f
  let ths := (th :: x.thetas).take 16
  let des := (de :: x.deltas).take 16
  let mean := meanOf ths
  let near := decide (th ≤ 2 * mean + 2) && decide (2 * mean ≤ th + 2)
  let run := if near then x.run + 1 else 0
  let s := s.modFed f (fun x => { x with thetas := ths, deltas := des, run := run, estAt := s.fedNow f })
  let a := A.FED_TT_DELAY f
  let top := ths.foldl max th
  let low := ths.foldl min th
  let s := ((s.sat a F.FED_TT_DELAY_EXCHANGES).setFld a F.FED_TT_DELAY_DELAY (meanOf des).toNat).setFld a
    F.FED_TT_DELAY_SPREAD ((top - low) / 2).toNat
  let s := if near then s else s.timeFault f
  let s := if 16 ≤ run then
    (s.setFld (A.FED_STATUS f) F.FED_STATUS_LOCKED 1).setFld (A.FED_STATUS f) F.FED_STATUS_HOLDOVER 0 else s
  if s.bit (A.FED_STATUS f) F.FED_STATUS_HOLDOVER then s else s.wr (A.FED_TT_OFFSET f) (BitVec.ofInt 64 mean)

/-- R411: DOWN ends when the port is enabled and the link is up; SYNC ends once both sides are locked. -/
def State.fedAdvance (s : State) (f : Nat) : State :=
  let a := A.FED_STATUS f
  let s := if s.fedState f = FedState.DOWN && s.bit (A.FED_CTL f) F.FED_CTL_ENABLE && s.bit a F.FED_STATUS_LINK_UP then
    (s.setFld a F.FED_STATUS_STATE FedState.SYNC).modFed f (fun x => { x with estAt := s.fedNow f, syncAt := s.fedNow f })
    else s
  if s.fedState f = FedState.SYNC && s.bit a F.FED_STATUS_LOCKED && (s.fed f).partnerLocked then
    s.setFld a F.FED_STATUS_STATE FedState.UP else s

/-- TT_SYNC_RECEIVE (R399, R400, R411): the partner's SYNC whose byte 0 arrives now is checked and forms an estimate for
the own SYNC it names. Its arrival shows that FED_LINK_UP is 1. -/
def execTtSyncReceive (f : Fin 12) (m : SyncMsg) (s : State) : Out :=
  let f := f.val
  if syncBits m 256 32 ≠ (syncCheck m).toNat ∨ syncBits m 0 4 ≠ 1 then
    .next (s.sat (A.FED_TT_DELAY f) F.FED_TT_DELAY_BAD)
  else
    let a := A.FED_STATUS f
    let t4 := s.fedNow f
    let s := ((s.setFld a F.FED_STATUS_PARTNER (syncBits m 24 10)).setFld a F.FED_STATUS_PARTNER_PORT
      (syncBits m 34 4)).setFld a F.FED_STATUS_LINK_UP 1
    let valid := syncBits m 6 1 = 1
    let s := s.modFed f (fun x => { x with
      syncRx := some (syncBits m 8 8, t4), partnerLocked := syncBits m 4 1 = 1, syncAt := t4, partnerValid := valid
      partnerOfs := if valid then BitVec.ofNat 64 (syncBits m 192 64) else x.partnerOfs })
    let s := match (s.fed f).syncTx.find? (fun e => e.1 = syncBits m 16 8) with
      | none => s
      | some (n, t1) =>
        let w (v : Nat) : BitVec 64 := BitVec.ofNat 64 v
        let there := (w (syncBits m 128 64) - w t1).toInt
        let back := (w (syncBits m 64 64) - w t4).toInt
        (s.modFed f (fun x => { x with syncTx := x.syncTx.filter (fun e => e.1 ≠ n) })).estimate f (there + back)
          (there - back)
    .next (s.fedAdvance f)

/-! ### Losing a partner (R411) -/

/-- The reply to a barrier that an engine has finished or dropped. -/
def State.fedBarAnswer (s : State) (f : Nat) (b : FedBar) (code : BitVec 4) (link : Bool) : State :=
  if link then s.fedAnswerLink f b.hdr code else s.fedAnswerLocal f b.hdr code

/-- R411: a packet for the link while the partner is lost. -/
def State.fedAbsorb (s : State) (f : Nat) (h : Hdr) : State :=
  if Cmd.isNonPosted h.cmd then (s.sat (A.FED_SINK f) F.FED_SINK_REQ_ABS).fedAnswerLocal f h Code.DEAD
  else if Cmd.isResponse h.cmd then s.sat (A.FED_SINK f) F.FED_SINK_RSP_ABS
  else s.sat (A.FED_SINK f) F.FED_SINK_POSTED

/-- Packets for the link of which no flit has gone. -/
def FedSt.unsent (x : FedSt) : List Pkt :=
  [0, 1, 2].flatMap (fun k => (tget [] x.txQ k).drop (if tget 0 x.txSent k = 0 then 0 else 1))

/-- A port enters LOST: its forwarded requests end, its link barriers are answered DEAD, packets that wait for the link end like
those still to come, an ISOLATE record is journalled. -/
def State.fedLost (s : State) (f cause : Nat) : State :=
  if s.fedState f = FedState.LOST ∨ s.fedState f = FedState.DOWN then s
  else
    let x := s.fed f
    let s := (s.setFld (A.FED_STATUS f) F.FED_STATUS_STATE FedState.LOST).fedCause f cause
    let s := s.note 4 (fedKey f + 256 * 2) 0
    let s := x.fwd.foldl (fun s e => match e.2 with
      | some w => s.outDone (fedKey f) w.trav
      | none => s) s
    let s := (s.modFed f (fun x => { x with fwd := [], outBars := [], txQ := [], txSent := [], txWait := [], link := none })).setFld
      (A.FED_STATUS f) F.FED_STATUS_FWD_OUT 0
    let s := (x.unsent.filter (fun q => q.h.cmd ≠ Cmd.BAR)).foldl (fun s q => s.fedAbsorb f q.h) s
    x.outBars.foldl (fun s b => (s.sat (A.FED_SINK f) F.FED_SINK_BAR_DEAD).fedAnswerLocal f b.hdr Code.DEAD) s

/-- TT_SYNC_TIMEOUT (R400, R411): no estimate for 65,536 fclk sets HOLDOVER; no SYNC with a correct CHECK for as long
puts the port in LOST. -/
def execTtSyncTimeout (f : Fin 12) (s : State) : Out :=
  let f := f.val
  if s.fedState f = FedState.DOWN then .next s
  else
    let now := s.fedNow f
    let s := if (s.fed f).estAt + 65536 ≤ now && !s.bit (A.FED_STATUS f) F.FED_STATUS_HOLDOVER then s.timeFault f else s
    .next (if (s.fed f).syncAt + 65536 ≤ now then s.fedLost f 3 else s)

/-- FED_LINK_DOWN (R411): FED_LINK_UP falls. -/
def execFedLinkDown (f : Fin 12) (s : State) : Out :=
  let f := f.val
  .next ((s.setFld (A.FED_STATUS f) F.FED_STATUS_LINK_UP 0).fedLost f 0)

/-- A write of FED_CTL (R411, R412): RESTART moves a LOST port with its link up to SYNC. -/
def State.writeFedCtl (s : State) (f : Nat) (r : Req) : State × BitVec 4 :=
  if reqFld r F.FED_CTL_MAX_PRIV = 3 ∨ reqFld r F.FED_CTL_HOLD = 0 then (s, Code.DENY)
  else
    match s.plainWrite (A.FED_CTL f) r with
    | (t, c) =>
      if c ≠ Code.OK then (s, c)
      else
        let t := t.setFld (A.FED_CTL f) F.FED_CTL_RESTART 0
        let t := if reqFld r F.FED_CTL_RESTART = 1 && t.fedState f = FedState.LOST &&
            t.bit (A.FED_STATUS f) F.FED_STATUS_LINK_UP then
          (t.setFld (A.FED_STATUS f) F.FED_STATUS_STATE FedState.SYNC).modFed f (fun x =>
            { x with estAt := s.fedNow f, syncAt := s.fedNow f, partnerLocked := false }) else t
        (t.fedAdvance f, Code.OK)

/-- FED_RESTART (R411): a write of FED_CTL is served. -/
def execFedRestart (f : Fin 12) (r : Req) (s : State) : Out :=
  .next (s.serve (A.FED_CTL f.val) r (·.writeFedCtl f.val r))

/-- ROOT_OFS_UPDATE (R401): at the root ROOT_OFS is 0; elsewhere the FMP sets it to the upstream partner's plus the
offset of the upstream port. -/
def execRootOfsUpdate (s : State) : Out :=
  if s.bit A.GLB_FED_ID F.GLB_FED_ID_ROOT then .next (s.wr A.GLB_FED_TIME 0)
  else
    match (List.range 12).find? (fun f => s.bit (A.FED_CTL f) F.FED_CTL_UPSTREAM) with
    | none => .next s
    | some f =>
      if (s.fed f).partnerValid then .next (s.wr A.GLB_FED_TIME ((s.fed f).partnerOfs + s.rd (A.FED_TT_OFFSET f)))
      else .next s

/-! ### Barriers at agents (R406) -/

/-- The outbound engine sends the link barrier of its oldest barrier, unless it has one under way. -/
def State.outBarStart (s : State) (f : Nat) : State :=
  match (s.fed f).outBars with
  | [] => s
  | b :: rest =>
    if b.begun then s
    else
      let (tag, s) := s.fedTag f
      let partner := s.fld (A.FED_STATUS f) F.FED_STATUS_PARTNER * 256 + 144 +
        s.fld (A.FED_STATUS f) F.FED_STATUS_PARTNER_PORT
      let h : Hdr := { dest := BitVec.ofNat 18 partner, src := s.gid (fedKey f), cmd := Cmd.BAR, cls := b.hdr.cls
                       bkind := b.hdr.bkind, scope := 3, tag := BitVec.ofNat 12 tag
                       stamp := BitVec.ofNat 32 (s.fedNow f) }
      let s := s.modFed f (fun x => { x with outBars := { b with begun := true, tag := tag } :: rest })
      s.fedLink f (Pkt.seal h [])

/-- The inbound engine expands its oldest barrier: one port barrier to every key whose fence bit is set, but its own. -/
def State.inBarExpand (s : State) (f : Nat) : State :=
  match (s.fed f).inBars with
  | [] => s
  | b :: rest =>
    if b.begun then s
    else
      let ks := ((s.fed f).fence.filter (fun e => e.2 && e.1 ≠ fedKey f)).map (·.1)
      let s := s.sat (A.FED_XFER f) F.FED_XFER_BARRIERS
      let (s, os, wait) := ks.foldl (fun (x : State × List AgentPkt × List Nat) d =>
        let (s, os, wait) := x
        let s := s.modFed f (fun y => { y with fence := tset false y.fence d false })
        let (tag, s) := s.fedTag f
        let h : Hdr := { dest := s.gid d, src := s.gid (fedKey f), cmd := Cmd.BAR, cls := b.hdr.cls
                         bkind := b.hdr.bkind, tag := BitVec.ofNat 12 tag }
        (s, os ++ [{ pkt := { h := h, units := [] }, use := .bar d }], wait ++ [tag])) (s, [], [])
      let s := s.modFed f (fun x => { x with inBars := { b with begun := true, wait := wait } :: rest })
      os.foldl (fun s o => s.agentBuild (fedKey f) o) s

/-- The inbound engine answers barriers that have ended and goes on with the next. -/
def State.inBarGo (s : State) (f : Nat) : Nat → State
  | 0 => s
  | n + 1 =>
    let s := s.inBarExpand f
    match (s.fed f).inBars with
    | b :: rest =>
      if b.wait.isEmpty then
        ((s.modFed f (fun x => { x with inBars := rest })).fedAnswerLink f b.hdr b.err).inBarGo f n
      else s
    | [] => s

/-- A port barrier of the inbound engine has ended. -/
def State.inBarEnd (s : State) (f tag : Nat) (code : BitVec 4) : State :=
  match (s.fed f).inBars with
  | [] => s
  | i :: rest =>
    let i := { i with wait := i.wait.erase tag, err := if i.err = 0 then code else i.err }
    (s.modFed f (fun x => { x with inBars := i :: rest })).inBarGo f (rest.length + 1)

/-! ### From the link (R166, R167, R402, R403, R405, R410) -/

/-- R166: the policer accepts a head of `l` flits, and is charged. -/
def State.police (s : State) (f l : Nat) : Option State :=
  let a := A.FED_POLICE_LEVEL f
  let c := s.fld a F.FED_POLICE_LEVEL_LEVEL_C
  let p := s.fld a F.FED_POLICE_LEVEL_LEVEL_P
  let k := 65536 * l
  if k ≤ c ∧ k ≤ p then
    some ((s.setFld a F.FED_POLICE_LEVEL_LEVEL_C (c - k)).setFld a F.FED_POLICE_LEVEL_LEVEL_P (p - k))
  else none

/-- R167: an excess packet is dropped. -/
def State.policeDrop (s : State) (f : Nat) (h : Hdr) : State :=
  let a := A.FED_POLICE_STATUS f
  let s := (s.sat a F.FED_POLICE_STATUS_DROPS).gcnt 60
  let s := if s.bit a F.FED_POLICE_STATUS_DROP_SEEN then s else (s.setFld a F.FED_POLICE_STATUS_DROP_SEEN 1).fedCause f 8
  s.fedAnswerLink f h Code.DENY

/-- R405: entry `e` ends. -/
def State.fwdEnd (s : State) (f e : Nat) : State :=
  match tget none (s.fed f).fwd e with
  | none => s
  | some w => ((s.modFed f (fun x => { x with fwd := tset none x.fwd e none })).outDone (fedKey f) w.trav).fwdCount f

/-- R403, R62: a packet from the link has no route. -/
def State.fedNoRoute (s : State) (f : Nat) (q : Hdr) : State :=
  (s.sat (A.FED_XFER f) F.FED_XFER_NOROUTE).fedAnswerLink f q Code.NOROUTE

/-- R403 step 5: the destination key of a packet from the link, none for the agent's own or no key. -/
def State.fedDest (s : State) (f : Nat) (q : Hdr) : Option Nat :=
  match s.destKey q.dest with
  | none => none
  | some d => if d = fedKey f then none else some d

/-- R405: the table's fullness holds a packet back: entries in use, and requests built and not yet injected. -/
def State.fedHolds (s : State) (f : Nat) (q : Pkt) : Bool :=
  Cmd.isNonPosted q.h.cmd &&
    (let x := s.agent (fedKey f)
     let n := (x.q.filter (fun t => t.use = .forward && Cmd.isNonPosted t.hdr.cmd)).length
     decide (512 ≤ s.fwdUsed f + n))

/-- The agent can begin to build: it waits for no route (R72). -/
def Agent.idle (x : Agent) : Bool := x.cur.isNone && x.todo.isEmpty

/-- R403 steps 5 to 7: the head of an ingress queue is built when the agent can; heads without a route go at once. It
stays the head until its own head flit has been injected (R410). A link barrier joins the inbound engine when every packet
before it has gone and the engine holds fewer than 8 (R406). -/
def State.fedPumpQ (s : State) (f k : Nat) : Nat → State
  | 0 => s
  | n + 1 =>
    match tget [] (s.fed f).ing k with
    | [] => s
    | q :: rest =>
      if q.begun then s
      else if q.pkt.h.cmd = Cmd.BAR then
        if 8 ≤ (s.fed f).inBars.length then s
        else
          (((s.ingNext f k).modFed f (fun x => { x with inBars := x.inBars ++ [{ hdr := q.pkt.h }] })).inBarGo f 9).fedPumpQ f k n
      else if (s.fedDest f q.pkt.h).isNone then ((s.ingNext f k).fedNoRoute f q.pkt.h).fedPumpQ f k n
      else if s.fedHolds f q.pkt || !(s.agent (fedKey f)).idle then s
      else
        (s.modFed f (fun x => { x with ing := tset [] x.ing k ({ q with begun := true } :: rest) })).agentBuild (fedKey f)
          { pkt := { h := { q.pkt.h with hopptr := 0 }, units := q.pkt.units }, use := .forward }

/-- Every ingress queue goes on. -/
def State.fedPump (s : State) (f : Nat) : State :=
  [0, 1, 2].foldl (fun s k => s.fedPumpQ f k ((tget [] (s.fed f).ing k).length + 1)) s

/-- FWD_ENTRY_EXPIRE (R405). -/
def execFwdEntryExpire (f : Fin 12) (e : Fin 512) (s : State) : Out :=
  let f := f.val
  match tget none (s.fed f).fwd e.val with
  | none => .next s
  | some w => if w.at' + 131072 ≤ s.datum then .next ((s.fwdEnd f e.val).fedPump f) else .next s

/-- The agent takes back a packet from the link that it has built and not injected: it is on its way out, or waits for
its route, which is then read for nothing. -/
def State.takeBack (s : State) (b k : Nat) : State :=
  let x := s.agent b
  let mine (t : TxPkt) : Bool := t.use = .forward && ingKey t.hdr.cmd = k
  match x.q.find? mine with
  | some t => (s.setAgent b { x with q := x.q.erase t }).outDone b t.hdr.trav.toNat
  | none =>
    match x.cur with
    | some o =>
      if o.use = .forward && ingKey o.pkt.h.cmd = k then s.setAgent b { x with cur := some { o with use := .dropped } } else s
    | none => s

/-- FED_INGRESS_HOLD_EXPIRE (R410): a head that has waited HOLD × 1,024 fclk is absorbed. -/
def execFedIngressHoldExpire (f : Fin 12) (s : State) : Out :=
  let f := f.val
  let lim := 1024 * s.fld (A.FED_CTL f) F.FED_CTL_HOLD
  .next ([0, 1, 2].foldl (fun s k =>
    match tget [] (s.fed f).ing k with
    | q :: _ =>
      match q.head with
      | some t =>
        if t + lim ≤ s.datum then
          let s := if q.begun then s.takeBack (fedKey f) k else s
          (((s.ingNext f k).sat (A.FED_STATUS f) F.FED_STATUS_ABSORBED).fedAnswerLink f q.pkt.h Code.TIMEOUT).fedPump f
        else s
      | none => s
    | [] => s) s)

/-! ### Barriers and packets that arrive (R402, R403, R406) -/

/-- A response that reaches the agent's own key (R50, R82, R406, R452): a BRR for a drain barrier or for a port barrier of
the inbound engine; one that fails R50 ends it with CRC. Any other is absorbed. -/
def State.fedOwnRsp (s : State) (f : Nat) (q : Pkt) : State :=
  let b := fedKey f
  let tag := q.h.tag.toNat
  let code := if q.fails then Code.CRC else q.h.status
  let s := if q.fails then (s.sat (A.FED_XFER f) F.FED_XFER_CRC).fedCause f 2 else s
  match (s.fed f).drains.find? (fun e => e.1 = tag && q.h.cmd = Cmd.BRR) with
  | some (_, c) =>
    let s := (s.modFed f (fun x => { x with drains := x.drains.filter (fun e => e.1 ≠ tag) })).outDone b c
    if code = Code.OK then s else s.sat (travDrainOf b) F.NI_TRAV_DRAIN_DRAIN_ERR
  | none =>
    if q.h.cmd = Cmd.BRR && ((s.fed f).inBars.head?.map (fun i => i.wait.contains tag)).getD false then
      (s.outDone b q.h.trav.toNat).inBarEnd f tag code
    else s.sat (A.FED_SINK f) F.FED_SINK_RSP_ABS

/-- A packet from the link joins an ingress queue (R403); where none waits before it, it is the head from now on (R410). -/
def State.ingPut (s : State) (f k : Nat) (q : Pkt) : State :=
  s.modFed f (fun x =>
    let old := tget [] x.ing k
    { x with ing := tset [] x.ing k (old ++ [{ pkt := q, head := if old.isEmpty then some s.datum else none }]) })

/-- LINK_BARRIER_RECEIVE (R406): a link barrier from the partner waits among the requests from the link for the inbound
engine. -/
def execLinkBarrierReceive (f : Fin 12) (w : FedPkt) (s : State) : Out :=
  let f := f.val
  if s.fedState f ≠ FedState.UP ∨ w.h.cmd ≠ Cmd.BAR then .next s
  else
    let s := s.gcnt 58 (1 + w.h.len.toNat)
    if w.fails then .next (((s.sat (A.FED_XFER f) F.FED_XFER_CRC).fedCause f 2).fedAnswerLink f w.h Code.CRC)
    else .next ((s.ingPut f 0 w).fedPump f)

/-- The BRR of a link barrier has come with a code: the engine answers the barrier and goes on. -/
def State.outBarEnd (s : State) (f : Nat) (h : Hdr) (code : BitVec 4) : State :=
  match (s.fed f).outBars with
  | [] => s
  | b :: rest =>
    if b.begun && b.tag = h.tag.toNat then
      ((s.modFed f (fun x => { x with outBars := rest })).fedAnswerLocal f b.hdr code).outBarStart f
    else s

/-- FED_PACKET_RECEIVE (R402, R403): a packet from the link, in the order of R403. Link barriers stand under
LINK_BARRIER_RECEIVE. -/
def execFedPacketReceive (f : Fin 12) (w : FedPkt) (s : State) : Out :=
  let f := f.val
  if s.fedState f ≠ FedState.UP ∨ w.h.cmd = Cmd.BAR then .next s
  else
    let s := s.gcnt 58 (1 + w.h.len.toNat)
    match (if vcTypeOf w.h.cmd = .msg then s.police f (1 + w.h.len.toNat) else some s) with
    | none => .next (s.policeDrop f w.h)
    | some s =>
      let own := w.h.dest = s.gid (fedKey f) ∧ w.h.cmd = Cmd.BRR
      if w.fails then
        let s := (s.sat (A.FED_XFER f) F.FED_XFER_CRC).fedCause f 2
        .next (if own then s.outBarEnd f w.h Code.CRC else s.fedAnswerLink f w.h Code.CRC)
      else if own then .next (s.outBarEnd f w.h w.h.status)
      else
        let cap := min (min w.h.priv.toNat 2) (s.fld (A.FED_CTL f) F.FED_CTL_MAX_PRIV)
        let h := { w.h with priv := BitVec.ofNat 2 cap
                            stamp := w.h.stamp - (s.rd (A.FED_TT_OFFSET f)).setWidth 32 }
        let k := ingKey h.cmd
        .next ((s.ingPut f k { w with h := h }).fedPump f)

/-! ### To the link (R404, R405, R406, R411) -/

/-- A packet addressed to the agent's own key (R404, R406, R452): a barrier joins the outbound engine, a BRR ends a
barrier of the agent; nothing else is served. -/
def State.fedOwn (s : State) (f : Nat) (q : Pkt) : State :=
  if Cmd.isResponse q.h.cmd then s.fedOwnRsp f q
  else if q.fails then ((s.sat (A.FED_XFER f) F.FED_XFER_CRC).fedCause f 2).fedAnswerLocal f q.h Code.CRC
  else if q.h.cmd ≠ Cmd.BAR then s.fedAnswerLocal f q.h Code.TGTERR
  else if s.fedState f = FedState.UP then
    (s.modFed f (fun x => { x with outBars := x.outBars ++ [{ hdr := q.h }] })).outBarStart f
  else (s.sat (A.FED_SINK f) F.FED_SINK_BAR_DEAD).fedAnswerLocal f q.h Code.DEAD

/-- R405: a response that leaves through the agent ends the entry it answers. -/
def State.fwdMatch (s : State) (f : Nat) (h : Hdr) : State :=
  match (s.fed f).fwd.find? (fun e => match e.2 with
    | some w => w.src = h.dest && w.tag = h.tag
    | none => false) with
  | some (e, _) => (s.fwdEnd f e).fedPump f
  | none => s

/-- A packet from the station waits: the link is not up and not lost, or the outbound engine is full (R406, R411). -/
def State.fedWaits (s : State) (f : Nat) (q : Pkt) : Bool :=
  if q.h.dest = s.gid (fedKey f) then
    q.h.cmd = Cmd.BAR && decide (8 ≤ (s.fed f).outBars.length) && s.fedState f = FedState.UP
  else q.h.cmd ≠ Cmd.CRD && q.h.cmd ≠ Cmd.CWR && s.fedState f ≠ FedState.UP && s.fedState f ≠ FedState.LOST

/-- The oldest packet that does not wait, behind none of its own VC (R52). -/
def goPick (waits : Pkt → Bool) : List Pkt → List Nat → Option Pkt
  | [], _ => none
  | q :: qs, held =>
    let v := (vcTypeOf q.h.cmd).vcA
    if held.contains v || waits q then goPick waits qs (v :: held) else some q

/-- FED_OUTBOUND_PACKET (R404 to R406, R411): the oldest packet that has arrived from the station and need not wait. -/
def execFedOutboundPacket (f : Fin 12) (s : State) : Out :=
  let f := f.val
  match goPick (s.fedWaits f) (s.fed f).rx [] with
  | none => .next s
  | some q =>
      let t := s.modFed f (fun x => { x with rx := x.rx.erase q })
      if q.h.dest = s.gid (fedKey f) then .next (t.fedOwn f q)
      else if q.h.cmd = Cmd.CRD ∨ q.h.cmd = Cmd.CWR then
        if q.fails then .next (((t.sat (A.FED_XFER f) F.FED_XFER_CRC).fedCause f 2).fedAnswerLocal f q.h Code.CRC)
        else .next ((t.sat (A.FED_STATUS f) F.FED_STATUS_DENIED).fedAnswerLocal f q.h Code.DENY)
      else if t.fedState f = FedState.LOST then .next (t.fedAbsorb f q.h)
      else
        let t := if Cmd.isResponse q.h.cmd then t.fwdMatch f q.h else t
        .next (t.fedLink f q)

/-! ### Relayed chains (R407) -/

/-- FED_CHAIN_FLIT_RECEIVE (R40, R402, R407): a relayed G flit joins the agent's source entry for its chain; a full queue
drops its oldest flit. A flit that fails DECC is discarded, and R407 names no count for it. -/
def execFedChainFlitReceive (f : Fin 12) (g : FedG) (s : State) : Out :=
  let f := f.val
  let b := fedKey f
  if s.fedState f ≠ FedState.UP then .next s
  else if g.err = .due then .next (s.gcnt 58)
  else
    let s := s.gcnt 58
    match (List.range 64).find? (fun k => s.srcValid b k && s.fld (srcCfgOf b k) F.NI_CHAIN_SRC_CFG_CHAIN = g.chain.toNat) with
    | none => .next (s.sat (A.FED_XFER f) F.FED_XFER_UNKNOWN)
    | some k =>
      let x : SrcFlit := { payload := g.payload, flags := g.flags, seq := g.seq, ready := s.fedNow f + 1
                           stamp := g.stamp - (s.rd (A.FED_TT_OFFSET f)).setWidth 16 }
      let q := s.srcQueue b k
      let (s, q) := if 16 ≤ q.length then (s.srcDrops b k 1, q.tail) else (s, q)
      .next (s.setSrcQueue b k (q ++ [x]))

/-- R407: flits of relayed chains that arrived before this cycle are the link's next, or, while the partner is lost, are
discarded and counted in LOST (R411). -/
def State.fedRelay (s : State) (f : Nat) : State :=
  let b := fedKey f
  (s.chain b).dst.foldl (fun s e =>
    let k := e.1
    let go := (s.dstQueue b k).filter (fun x => decide (x.at' < s.datum))
    if go.isEmpty then s
    else
      let s := s.setDstQueue b k ((s.dstQueue b k).filter (fun x => !decide (x.at' < s.datum)))
      if s.fedState f = FedState.UP then s.modFed f (fun x => { x with txWait := x.txWait ++ go.map (·.g) })
      else s.dstLoss b k F.NI_CHAIN_DST_STAT_LOST go.length) s

end Sys2Proof.Machine
end

