-- ==== Sys2Proof/Machine/Apply.lean ====
section
/-!
DEFINITION. Machine/Apply.lean: what a stake does when it applies (R142, R148): register shadows taking effect (R36, R79,
R82, R106 to R108, R116, R277), strobes (R142, R146), deliveries (R145), the lane maps of receivers at T plus the wire
delay (R36, R360), and the cycle in which a faulted block enters IDLE (R454).
-/
namespace Sys2Proof.Machine

/-! ### Traverse switches (R79, R82) -/

/-- R82: the posted bits of traverse `c` of NI `p` are added to OUT[c] and become drain barriers. -/
def State.niDrain (s : State) (p c : Nat) : State :=
  let ks := ((s.ni p).posted.filter (fun e => e.2 && e.1 / 256 = c)).map (fun e => e.1 % 256)
  let s := s.modNi p (fun n => { n with posted := n.posted.filter (fun e => e.1 / 256 ≠ c) })
  let s := s.outAdd p c ks.length
  ks.foldl (fun s d =>
    let t := s.freeBarTag p
    let h : Hdr := { dest := s.gid d, cmd := Cmd.BAR, cls := 6, tag := BitVec.ofNat 12 t, trav := BitVec.ofNat 2 c }
    (s.setBar p t (some { kind := .drainBar t, hdr := h, acc := 0 })).buildReqs p [{ pkt := { h := h }, kind := .drainBar t }]) s

/-- R79, R81 to R83: reporter `b` takes traverse `n` as its current one. -/
def State.switchTrav (s : State) (b n : Nat) : State :=
  let c := s.curTrav b
  if n = c then s
  else
    let s := s.setFld (travCtlOf b) F.NI_TRAV_CTL_CUR n
    let s := (s.setFld (travDrainOf b) F.NI_TRAV_DRAIN_LAST_OLD c).setFld (travDrainOf b) F.NI_TRAV_DRAIN_DRAINED 0
    let s := if b < 144 then s.niDrain b c else if b < 156 then s.fedDrain (b - 144) c else s
    if s.fld (travStatOf b) ⟨16 * c, 16⟩ = 0 then s.setFld (travDrainOf b) F.NI_TRAV_DRAIN_DRAINED 1 else s

/-! ### Links (R36, R360) -/

/-- R360: the step of a failure stake is journalled and raises its event. -/
def State.laneRecord (s : State) (st n failed was now : Nat) : State :=
  let note (s : State) (step : Nat) : State :=
    s.note 3 (st + 64 * n + 512 + 1024 * step + 16384 * failed) (s.fld (A.END_LANE_TROUBLE st n) F.END_LANE_TROUBLE_FAILS)
  if now = LinkSt.RETIRED then
    if was ≠ now then
      let s := ((note s 3).raise 1373).stnCause st 0
      { s with fmp := { s.fmp with around := s.fmp.around ++ [dirMark st n] } }
    else note s 3
  else if now = LinkSt.HALF ∧ was ≠ now then ((note s 2).raise 1372).stnCause st 0
  else (note s 1).raise 1371

/-- R363: lanes that failed SOFT or BIST come back: `back` is their set. -/
def State.laneRestore (s : State) (st n failed back : Nat) : State :=
  if back = 0 then s
  else
    let a := A.END_LANE st n
    let t := A.END_LANE_TROUBLE st n
    let s := s.setFld a ⟨22, 22⟩ (s.fld a ⟨22, 22⟩ &&& (2 ^ 22 - 1 - back))
    let s := s.modStn st (fun x => x.modPort n (fun q => { q with passes := q.passes.filter (fun e => !back.testBit e.1) }))
    (s.sat t F.END_LANE_TROUBLE_RESTORES (popCount 22 back)).note 3 (st + 64 * n + 512 + 4096 + 16384 * failed)
      (s.fld t F.END_LANE_TROUBLE_FAILS)

/-- The lanes of a receive direction that failed HARD, as a set. -/
def State.hardSet (s : State) (st n : Nat) : Nat := (((s.stn st).port n).hard.map (fun l => 2 ^ l)).sum

/-- R36, R360, R364: receive direction `n` of station `st` switches to the failed set `v`; `kind` is the FMP's own work that
placed it: 1 a failure stake, 3 a test rotation, 4 one that also restores lanes. Lanes in the set that did not fail are out
for test. -/
def State.laneSwitch (s : State) (st n : Nat) (v : Word) (kind : Nat) : State :=
  let old := s.fld (A.STN_LANE_RX st n) F.STN_LANE_RX_FAILED
  let s := s.setFld (A.STN_LANE_RX st n) F.STN_LANE_RX_FAILED v.toNat
  let failed := s.fld (A.STN_LANE_RX st n) F.STN_LANE_RX_FAILED
  let q := (s.stn st).port n
  let s := s.setFld (A.STN_LINK st n) F.STN_LINK_RX_GOOD (s.goodRx st n)
  let s := s.modStn st (fun x => x.setPort n { q with hardWin := q.hardWin && !q.hard.all (fun l => failed.testBit l) })
  let was := s.linkState st n
  let now := stateOfGood (s.goodRx st n)
  let s := if was = LinkSt.DOWN ∨ was = LinkSt.TRAIN ∨ was = now ∨ (was = LinkSt.RESYNC ∧ now ≠ LinkSt.RETIRED) then s
    else s.setFld (A.STN_LINK st n) F.STN_LINK_STATE now
  let s := if now = LinkSt.RETIRED then s else s.unmark (dirMark st n)
  if kind ≠ 1 ∧ kind ≠ 3 ∧ kind ≠ 4 then s
  else
    let a := A.END_LANE st n
    let soft := s.fld a ⟨22, 22⟩
    let s := if kind = 1 then s.laneRecord st n failed was now
      else s.laneRestore st n failed (old &&& soft &&& (2 ^ 22 - 1 - failed))
    s.setFld a F.END_LANE_TEST (failed &&& (2 ^ 22 - 1 - (soft ||| s.hardSet st n)))

/-! ### Shadows (R142) -/

/-- Index of offset `a` in an array of `n` registers from `base` on. -/
def idxIn (a base n : Nat) : Option Nat :=
  if base ≤ a ∧ a < base + 8 * n ∧ (a - base) % 8 = 0 then some ((a - base) / 8) else none

/-- A chain end's entry takes a shadow (R107, R108). -/
def State.applyChain (s : State) (b a : Nat) (v : Word) : State :=
  match idxIn a (srcCfgOf b 0) 64, idxIn a (dstCfgOf b 0) 64 with
  | some k, _ =>
    let was := s.srcValid b k
    (s.wr a v).srcChanged b k was
  | _, some k =>
    let was := s.dstValid b k
    (s.wr a v).dstChanged b k was
  | none, none => s.wr a v

/-- A shadow of an NI takes effect. -/
def State.applyNi (s : State) (p a : Nat) (v : Word) : State :=
  if a = A.NI_TRAV_CTL p then s.switchTrav p (F.NI_TRAV_CTL_CUR.get v)
  else
    match idxIn a (A.NI_STATE_CFG p 0) 256 with
    | some k => (s.wr a v).slotChanged p k (s.rd a)
    | none => s.applyChain p a v

/-- A shadow of a station takes effect: a plat's new bank is no longer LOCKED (R106); a lane map switches at once on the
transmit side, and after the wire delay on the receive side (R36). -/
def State.applyStn (s : State) (st a n : Nat) (v : Word) : State :=
  match idxIn a (A.STN_PLAT_CTL st 0) 11, idxIn a (A.STN_LANE_RX st 0) 6, idxIn a (A.STN_LANE_TX st 0) 6 with
  | some k, _, _ =>
    ((s.wr a v).setFld a F.STN_PLAT_CTL_LOCKED 0).modSet n (fun x => { x with plats := x.plats.filter (· ≠ (st, k)) })
  | _, some i, _ =>
    let kind := if n = 7 then (s.fmp.own7.map (·.kind)).getD 0 else 0
    { s with stk := { s.stk with lanes := s.stk.lanes ++ [(a, v, s.datum + wireDelay (oppPort i), kind)] } }
  | _, _, some o =>
    let s := s.wr a v
    s.setFld (A.STN_LINK st o) F.STN_LINK_TX_GOOD (22 - popCount 22 (s.fld a F.STN_LANE_TX_FAILED))
  | none, none, none => s.wr a v

/-- A shadow of the global block takes effect: the hand-over restarts the FMP in the new slot (R277). -/
def State.applyGlb (s : State) (a : Nat) (v : Word) : State :=
  if a = A.GLB_TRAV_CTL then
    let c := s.curTrav 192
    let n := F.NI_TRAV_CTL_CUR.get v
    let s := s.switchTrav 192 n
    if n = c then s
    else
      { s with fmp := { s.fmp with drain := some (c, s.datum), stalled := false
                                   prep := if s.fmp.prep.map (·.1) = some n then none else s.fmp.prep } }
  else if a = A.GLB_FMP_IMAGE then
    let prev := s.fld a F.GLB_FMP_IMAGE_SLOT
    let s := s.wr a v
    let slot := s.fld a F.GLB_FMP_IMAGE_SLOT
    let s := (s.setFld A.GLB_FMP_STATUS F.GLB_FMP_STATUS_STATE 3).setFld A.GLB_FMP_STATUS F.GLB_FMP_STATUS_SLOT_RUN slot
    { s with fmp := { s.fmp with hand := some (prev, s.datum) } }
  else s.wr a v

/-- R142: a register shadow takes effect. -/
def State.applyShadow (s : State) (n : Nat) (h : Shadow) : State :=
  match rowAt h.addr, blkOf h.addr with
  | some row, some (b, _) =>
    let v := row.withRws (s.rd h.addr) h.val
    match b with
    | .ni p => s.applyNi p h.addr v
    | .stn st => s.applyStn st h.addr n v
    | .fed f => if h.addr = A.FED_TRAV_CTL f then s.switchTrav (fedKey f) (F.NI_TRAV_CTL_CUR.get v)
        else s.applyChain (fedKey f) h.addr v
    | .glb => s.applyGlb h.addr v
  | _, _ => s

/-- R142, R146, R194: the strobe of a PRELOAD set; sets with the same T share one pulse. Every monitor is freed. -/
def State.strobe (s : State) (p n : Nat) : State :=
  let bit : BitVec 8 := BitVec.ofNat 8 (2 ^ n)
  let sets := match (s.ni p).strobe with
    | some (t, m) => if t = s.datum then m ||| bit else bit
    | none => bit
  (s.modNi p (fun x => { x with strobe := some (s.datum, sets) })).freeMons p

/-- R454, R137: a block enters IDLE, one cycle later when it drives FAULT. -/
def State.leave (s : State) (b n : Nat) : State :=
  if s.setF b n F.NI_STK_SET_FAULT = 1 then
    if s.stk.leaving.contains (b, n) then s else { s with stk := { s.stk with leaving := s.stk.leaving ++ [(b, n)] } }
  else s.enterIdle b n

/-- R292: a set applied at a station. -/
def State.noteApply (s : State) (b n : Nat) : State :=
  let e := (stationOfStakeBlk b, s.datum, n)
  if s.expF b n F.NI_STK_EXP_PART = 0 ∨ s.stk.applies.contains e then s
  else { s with stk := { s.stk with applies := (s.stk.applies.filter (fun x => decide (s.glb.verPrev ≤ x.2.1))) ++ [e] } }

/-- STAKE_APPLY (R142): in cycle T a called block acts on what it holds. -/
def execStakeApply (b : Fin 193) (n : Fin 8) (s : State) : Out :=
  let b := b.val
  let n := n.val
  if s.blkSt b n ≠ BlkSt.CALLED ∨ s.nowOf b < (s.blk b n).t then .next s
  else
    let s := s.noteApply b n
    let hs := s.shadowsOf b n
    let s := (hs.foldl (fun s h => s.applyShadow n h) s).dropShadows b n
    let part := s.expF b n F.NI_STK_EXP_PART = 1
    let pre := s.expF b n F.NI_STK_EXP_PRELOAD = 1
    if b < 144 ∧ pre ∧ part then .next (((s.strobe b n).dropEntries b n).leave b n)
    else if b < 144 ∧ !(s.entriesOf b n).isEmpty then
      .next ((s.setFld (setRegOf b n) F.NI_STK_SET_STATE BlkSt.APPLYING).driveTree b n)
    else .next (s.leave b n)

/-- R454: the blocks whose further cycle has passed enter IDLE. -/
def State.leaveAll (s : State) : State :=
  s.stk.leaving.foldl (fun s e => s.enterIdle e.1 e.2) { s with stk := { s.stk with leaving := [] } }

/-- R36: receive lane maps whose instant has come take effect. -/
def State.lanesDue (s : State) : State :=
  let go := s.stk.lanes.filter (fun e => decide (e.2.2.1 ≤ s.datum))
  go.foldl (fun s e =>
    match blkOf e.1 with
    | some (.stn st, _) =>
      match idxIn e.1 (A.STN_LANE_RX st 0) 6 with
      | some n => s.laneSwitch st n e.2.1 e.2.2.2
      | none => s
    | _ => s) { s with stk := { s.stk with lanes := s.stk.lanes.filter (fun e => decide (s.datum < e.2.2.1)) } }

/-- RWS_SHADOW_WRITE (R135): a write of a register with RWS fields is served. -/
def execRwsShadowWrite (off : Fin 33554432) (r : Req) (s : State) : Out :=
  let a := off.val
  match rowAt a, blkOf a with
  | some row, some (b, _) =>
    if row.rwsFlds.isEmpty then .next s
    else
      match b with
      | .stn st =>
        if a = A.STN_TRAV_CTL st then .next (s.serve a r (·.writeStnTrav st r))
        else
          match idxIn a (A.STN_PLAT_CTL st 0) 11 with
          | some n => .next (s.serve a r (·.writePlatCtl st n r))
          | none => .next (s.serve a r (·.writeRws a r))
      | _ => .next (s.serve a r (·.writeRws a r))
  | _, _ => .next s

end Sys2Proof.Machine
end

