-- ==== Sys2Proof/Machine/Locks.lean ====
section
/-!
DEFINITION. Machine/Locks.lean: the lock bank (R199 to R201).
-/
namespace Sys2Proof.Machine

/-! Results of a read of LCK_ACQn. -/
namespace Lck
abbrev ACQUIRED : Nat := 0
abbrev BUSY : Nat := 1
abbrev OWNED : Nat := 2
end Lck

/-- Lock `l` is owned. -/
def State.lockHeld (s : State) (l : Nat) : Bool := s.bit (A.LCK_PEEK l) F.LCK_PEEK_HELD
/-- Its owner. -/
def State.lockOwner (s : State) (l : Nat) : Nat := s.fld (A.LCK_PEEK l) F.LCK_PEEK_OWNER

/-- Lock `l` becomes free. -/
def State.lockFree (s : State) (l : Nat) : State :=
  { s.wr (A.LCK_PEEK l) (resetOf (A.LCK_PEEK l)) with glb := { s.glb with lckBusy := tset 0 s.glb.lckBusy l 0 } }

/-- Lock `l` becomes owned by `src`. -/
def State.lockTake (s : State) (l src : Nat) : State :=
  (s.setFld (A.LCK_PEEK l) F.LCK_PEEK_HELD 1).setFld (A.LCK_PEEK l) F.LCK_PEEK_OWNER src

/-- R200: the first lock access served in a cycle moves the rotating pointer one past its source port. -/
def State.lockServed (s : State) (src : Gid) : State :=
  if s.datum < s.glb.lckAt then s
  else { s with glb := { s.glb with lckPtr := (gidPort src + 1) % 256, lckAt := s.datum + 1 } }

/-- What a read of LCK_ACQn returns. -/
def lockWord (result owner backoff : Nat) : Word :=
  F.LCK_ACQ_BACKOFF.put (F.LCK_ACQ_OWNER.put (F.LCK_ACQ_RESULT.put 0 result) owner) backoff

/-- R199: an acquisition attempt of `src`: the value read and the state after. -/
def State.lockAcquire (s : State) (l : Nat) (src : Gid) : State × Word :=
  let me := src.toNat
  let s := s.lockServed src
  if !s.lockHeld l then ((s.lockTake l me).gcnt 10, lockWord Lck.ACQUIRED me 0)
  else if s.lockOwner l = me then (s, lockWord Lck.OWNED me 0)
  else
    let b := tget 0 s.glb.lckBusy l
    ({ s with glb := { s.glb with lckBusy := tset 0 s.glb.lckBusy l (b + 1) } }.gcnt 11,
     lockWord Lck.BUSY (s.lockOwner l) (16 * 2 ^ min b 10))

/-- R199: a write of LCK_ACQn. -/
def State.writeLock (s : State) (l : Nat) (r : Req) : State × BitVec 4 :=
  let s := s.lockServed r.src
  if reqFld r F.LCK_ACQ_RELEASE = 0 then (s, Code.OK)
  else if s.lockHeld l ∧ s.lockOwner l = r.src.toNat then (s.lockFree l, Code.OK)
  else if isFmp r then
    (if s.lockHeld l then (s.lockFree l).sat A.LCK_STATUS F.LCK_STATUS_FORCED else s, Code.OK)
  else (s, Code.DENY)

/-! ### The accesses of a cycle (R200) -/

/-- The offsets of the lock bank's LCK_ACQn. -/
def inLocks (a : Nat) : Bool := decide (A.LCK_ACQ 0 ≤ a) && decide (a < A.LCK_ACQ 256)

/-- An access to LCK_ACQn: its offset, whether it is a read, the request. -/
structure LockAcc where
  addr : Nat
  read : Bool
  r : Req
  deriving DecidableEq, Repr

/-- The access to the lock bank that a command makes. -/
def lockAccOf : Instr → Option LockAcc
  | .lockAcquire l r => some ⟨A.LCK_ACQ l.val, true, r⟩
  | .lockRelease l r => some ⟨A.LCK_ACQ l.val, false, r⟩
  | .registerWrite off sz r => if accessOk off.val sz.val && inLocks off.val then some ⟨off.val, false, r⟩ else none
  | .rcFieldRead off sz r => if accessOk off.val sz.val && inLocks off.val then some ⟨off.val, true, r⟩ else none
  | _ => none

/-- One access is served: below LCK_CFG.MIN_PRIV a read is refused and returns 0 (R9). -/
def State.lockServe (s : State) (x : LockAcc) : State :=
  let l := (x.addr - A.LCK_ACQ 0) / 8
  if x.read then
    if !s.aclOk .lck x.addr x.r then s.answer x.addr x.r true Code.DENY 0
    else
      match s.lockAcquire l x.r.src with
      | (t, v) => t.answer x.addr x.r true Code.OK v
  else s.serve x.addr x.r (·.writeLock l x.r)

/-- R200: place of an access from the rotating pointer on. -/
def lockRank (ptr : Nat) (x : LockAcc) : Nat := (gidPort x.r.src + 256 - ptr) % 256

/-- R200: an access put in the order of the ranks; of equal ranks the one commanded first is first. -/
def lockInsert (ptr : Nat) (x : LockAcc) : List LockAcc → List LockAcc
  | [] => [x]
  | y :: l => if lockRank ptr x ≤ lockRank ptr y then x :: y :: l else y :: lockInsert ptr x l

/-- R200: the accesses of one cycle in the order in which they are served. -/
def lockOrder (ptr : Nat) (l : List LockAcc) : List LockAcc := l.foldr (lockInsert ptr) []

/-- R200: an access to the lock bank. It arrives in the same cycle as those of the commands that still wait, and all are served in
the order of R200; those commands then have nothing left to do. -/
def State.lockAccess (s : State) (x : LockAcc) : State :=
  if s.mode = Mode.OFF then s
  else if 0 < s.glb.lckSkip then { s with glb := { s.glb with lckSkip := s.glb.lckSkip - 1 } }
  else
    let l := s.pending.filterMap lockAccOf
    let s := (lockOrder s.glb.lckPtr (x :: l)).foldl State.lockServe s
    if l.isEmpty then s else { s with glb := { s.glb with lckSkip := l.length } }

/-- LOCK_ACQUIRE (R199): a read of LCK_ACQn. -/
def execLockAcquire (l : Fin 256) (r : Req) (s : State) : Out := .next (s.lockAccess ⟨A.LCK_ACQ l.val, true, r⟩)

/-- LOCK_RELEASE (R199): a write of LCK_ACQn. -/
def execLockRelease (l : Fin 256) (r : Req) (s : State) : Out := .next (s.lockAccess ⟨A.LCK_ACQ l.val, false, r⟩)

/-- R201: every lock that a port's global ID owns is freed. -/
def State.breakLocks (s : State) (p : Nat) : State :=
  let me := (s.gid p).toNat
  (List.range 256).foldl (fun s l =>
    if s.lockHeld l ∧ s.lockOwner l = me then
      (((s.lockFree l).sat A.LCK_STATUS F.LCK_STATUS_BROKEN).setFld A.LCK_STATUS F.LCK_STATUS_LAST_BROKEN l).raise 1360
    else s) s

end Sys2Proof.Machine
end

