-- ==== Sys2Proof/Machine/Mailbox.lean ====
section
/-!
DEFINITION. Machine/Mailbox.lean: the mailbox unit (R228 to R243) and the power-up request of an endpoint domain
(R335) that a wake channel makes.
-/
namespace Sys2Proof.Machine

/-! ### Channels (R228, R236) -/

/-- Messages of channel `n`, oldest first. -/
def State.msgs (s : State) (n : Nat) : List Msg := tget [] s.mbx n

/-- The channel's messages written, with the registers that show them: COUNT, NONEMPTY, HEAD, TIME and MSG0 to MSG7. -/
def State.setMsgs (s : State) (n : Nat) (q : List Msg) : State :=
  let s := { s with mbx := tset [] s.mbx n q }
  let s := (s.setFld (A.MBX_CH_STATUS n) F.MBX_CH_STATUS_COUNT q.length).setFld (A.MBX_NONEMPTY (n / 64)) ⟨n % 64, 1⟩
    (if q.isEmpty then 0 else 1)
  match q with
  | [] => (List.range 8).foldl (fun s k => s.wr (A.MBX_CH_MSG n k) 0)
      ((s.wr (A.MBX_CH_HEAD n) (resetOf (A.MBX_CH_HEAD n))).wr (A.MBX_CH_TIME n) 0)
  | m :: _ =>
    let h := F.MBX_CH_HEAD_SEQ.put (F.MBX_CH_HEAD_VALID.put (F.MBX_CH_HEAD_PRIV.put (F.MBX_CH_HEAD_SRC.put 0
      m.src.toNat) m.priv) 1) m.seq
    (List.range 8).foldl (fun s k => s.wr (A.MBX_CH_MSG n k) (m.data.extractLsb' (64 * k) 64))
      ((s.wr (A.MBX_CH_HEAD n) h).wr (A.MBX_CH_TIME n) (BitVec.ofNat 64 m.arrival))

/-- A flag of MBX_CHn_CFG. -/
def State.chBit (s : State) (n : Nat) (f : Fld) : Bool := s.bit (A.MBX_CH_CFG n) f
/-- Receiver of channel `n`. -/
def State.receiver (s : State) (n : Nat) : Nat := s.fld (A.MBX_CH_CFG n) F.MBX_CH_CFG_RECEIVER
/-- Port of the receiver. -/
def State.rcvPort (s : State) (n : Nat) : Nat := s.receiver n % 256

/-- STATE of the NI of a port (R286). -/
def State.niState (s : State) (p : Nat) : Nat := s.fld (A.NI_CTL p) F.NI_CTL_STATE

/-- R238: the receiver of channel `n` is down; 240 never is. -/
def State.rcvDown (s : State) (n : Nat) : Bool :=
  let p := s.rcvPort n
  decide (p < 144) && (!s.pwrUp p || s.niState p = 2)

/-! ### Domain requests (R335) -/

/-- R335: a mailbox wake is pending for port `p`. -/
def State.wakePending (s : State) (p : Nat) : Bool :=
  (List.range 128).any (fun n => s.bit (A.MBX_CH_STATUS n) F.MBX_CH_STATUS_WAKE_PEND && s.rcvPort n = p)

/-- NI_DOM shows PD_REQ[p] and the pending wake (R335). -/
def State.domRefresh (s : State) (p : Nat) : State :=
  if 144 ≤ p then s
  else
    let a := A.NI_DOM p
    let w := s.wakePending p
    let q := s.bit a F.NI_DOM_DOM_ON || (w && s.niState p = 2)
    (s.setFld a F.NI_DOM_WAKE (if w then 1 else 0)).setFld a F.NI_DOM_REQ (if q then 1 else 0)

/-- R238, R239: the channel's wake is asked for. -/
def State.askWake (s : State) (n : Nat) : State :=
  let a := A.MBX_CH_STATUS n
  if s.bit a F.MBX_CH_STATUS_WAKE_PEND then s.setFld a F.MBX_CH_STATUS_LANDED 1
  else
    (((s.setFld a F.MBX_CH_STATUS_LANDED 1).setFld a F.MBX_CH_STATUS_WAKE_PEND 1).sat A.MBX_TOTALS
      F.MBX_TOTALS_WAKES).domRefresh (s.rcvPort n)

/-- R239: channels of a receiver that goes down and holds messages ask for its power. -/
def State.mbxDown (s : State) (p : Nat) : State :=
  (List.range 128).foldl (fun s n =>
    if s.chBit n F.MBX_CH_CFG_ENABLE && s.rcvPort n = p && s.chBit n F.MBX_CH_CFG_WAKE && !(s.msgs n).isEmpty
    then s.askWake n else s) s

/-! ### Declared pairs (R240, R241) -/

/-- R240: the partner of channel `n` in a declared pair. -/
def State.pairOf (s : State) (n : Nat) : Option Nat :=
  let m := s.fld (A.MBX_CH_CFG n) F.MBX_CH_CFG_PAIR
  if s.chBit n F.MBX_CH_CFG_PAIR_VALID && s.chBit m F.MBX_CH_CFG_PAIR_VALID &&
      s.fld (A.MBX_CH_CFG m) F.MBX_CH_CFG_PAIR = n then some m else none

/-- R241: the crossing timer of the pair that includes channel `n` runs on, or restarts when either channel is not
full or (`pop`) a POP has been served. -/
def State.crossTimer (s : State) (n : Nat) (pop : Bool) : State :=
  match s.pairOf n with
  | none => { s with glb := { s.glb with cross := tset none s.glb.cross n none } }
  | some m =>
    let full := (s.msgs n).length = 4 && (s.msgs m).length = 4
    let k := min n m
    let old := tget none s.glb.cross k
    let new := if !full then none else if pop then some s.datum else old.orElse (fun _ => some s.datum)
    { s with glb := { s.glb with cross := tset none s.glb.cross k new } }

/-! ### Sending (R233, R234) -/

/-- R233: the judgement of a message from `src` with privilege `priv` to channel `n`: its MSR status, and whether it
lands under R238. -/
def State.mbxJudge (s : State) (n : Nat) (src : Gid) (priv : Nat) : BitVec 4 × Bool :=
  let cfg := A.MBX_CH_CFG n
  let c := (s.msgs n).length
  let st := s.niState (s.rcvPort n)
  if !s.chBit n F.MBX_CH_CFG_ENABLE then (Code.DENY, false)
  else if (!s.chBit n F.MBX_CH_CFG_ANY && decide (src.toNat ≠ s.fld cfg F.MBX_CH_CFG_SENDER)) ||
      decide (priv < s.fld cfg F.MBX_CH_CFG_MIN_PRIV) then (Code.DENY, false)
  else if s.rcvPort n < 144 ∧ (st = 3 ∨ st = 0) then (Code.DEAD, false)
  else if s.rcvDown n then
    if !s.chBit n F.MBX_CH_CFG_WAKE then (Code.PDOWN, false)
    else if c = 0 then (Code.OK, true) else (Code.RETRY_PWR, false)
  else if 4 ≤ c then (Code.TGTERR, false)
  else (Code.OK, false)

/-- R233, R234, R237, R238: a message meets its channel. -/
def State.mbxPut (s : State) (n : Nat) (src : Gid) (priv : Nat) (data : BitVec 512) : State × BitVec 4 :=
  let a := A.MBX_CH_STATUS n
  match s.mbxJudge n src priv with
  | (code, lands) =>
    if code = Code.OK then
      let m : Msg := { src := src, priv := priv, arrival := s.datum, seq := s.fld a F.MBX_CH_STATUS_SEQ_IN, data := data }
      let was := s.msgs n
      let s := (((s.setMsgs n (was ++ [m])).wrap a F.MBX_CH_STATUS_SEQ_IN).sat A.MBX_TOTALS F.MBX_TOTALS_ACCEPTED).gcnt 7
      let s := if lands then s.askWake n else if was.isEmpty then s.raise (576 + n) else s
      (s.crossTimer n false, code)
    else
      let f := if code = Code.TGTERR then F.MBX_CH_STATUS_FULL_REJ else F.MBX_CH_STATUS_REFUSED
      ((s.sat a f).gcnt 8, code)

/-! ### Receiving (R236, R238, R239) -/

/-- R236: the head message is removed; nothing happens on an empty channel. -/
def State.mbxPop (s : State) (n : Nat) : State :=
  match s.msgs n with
  | [] => s.crossTimer n true
  | _ :: q =>
    let s := (s.setMsgs n q).gcnt 9
    let s := if q.isEmpty && s.chBit n F.MBX_CH_CFG_EMPTY_EV then s.raise (704 + n) else s
    s.crossTimer n true

/-- A write of MBX_CHn_CTL (R236). -/
def State.writeMbxCtl (s : State) (n : Nat) (r : Req) : State × BitVec 4 :=
  (if reqFld r F.MBX_CH_CTL_POP = 1 then s.mbxPop n else s, Code.OK)

/-! The mclk of the unit (R11, R228) -/

/-- The offsets of the mailbox unit. -/
def inMbx (a : Nat) : Bool := decide (A.MBX_NONEMPTY 0 ≤ a) && decide (a < A.MBX_CH_CFG 128)

/-- The access to the mailbox unit that a command makes: its offset, whether it is a read, the request. -/
def mbxAccOf : Instr → Option (Nat × Bool × Req)
  | .mailboxPop n r => some (A.MBX_CH_CTL n.val, false, r)
  | .mbxCfgWrite n r => some (A.MBX_CH_CFG n.val, false, r)
  | .registerWrite off sz r => if accessOk off.val sz.val && inMbx off.val then some (off.val, false, r) else none
  | .rcFieldRead off sz r => if accessOk off.val sz.val && inMbx off.val then some (off.val, true, r) else none
  | _ => none

/-- R228: the unit can still serve an access in this mclk. -/
def State.accFree (s : State) : Bool := mclkEdge s.datum && s.glb.mbxAccAt ≠ some (mclkNo s.datum)

/-- R228: the unit can still take a message in this mclk. -/
def State.msgFree (s : State) : Bool := mclkEdge s.datum && s.glb.mbxMsgAt ≠ some (mclkNo s.datum)

/-- The unit's access of this mclk is used. -/
def State.accUsed (s : State) : State := { s with glb := { s.glb with mbxAccAt := some (mclkNo s.datum) } }

/-- R228: an access to the mailbox unit, served by `act` as the one of this mclk. One that finds its mclk used, or no mclk
beginning, is not served in this cycle and waits for its command to come again; one that was served before a message of
its cycle (R236) has nothing left to do. -/
def State.mbxAccess (s : State) (act : State → State) : State :=
  if s.mode = Mode.OFF then s
  else if 0 < s.glb.mbxSkip then { s with glb := { s.glb with mbxSkip := s.glb.mbxSkip - 1 } }
  else if !s.accFree then s
  else act s.accUsed

/-- R236: the POP of channel `n` that this mclk serves, when it is still to come. -/
def State.popDue (s : State) (n : Nat) : Option Req :=
  match s.pending.findSome? mbxAccOf with
  | some (a, false, r) =>
    if s.glb.mbxSkip = 0 && s.accFree && a = A.MBX_CH_CTL n && reqFld r F.MBX_CH_CTL_POP = 1 then some r else none
  | _ => none

/-- R236: a POP that reaches channel `n` in the same mclk as a message is served first. -/
def State.popFirst (s : State) (n : Nat) : State :=
  match s.popDue n with
  | none => s
  | some r =>
    let s := s.accUsed.serve (A.MBX_CH_CTL n) r (·.writeMbxCtl n r)
    { s with glb := { s.glb with mbxSkip := 1 } }

/-- MAILBOX_POP (R236): a write of MBX_CHn_CTL is served. -/
def execMailboxPop (n : Fin 128) (r : Req) (s : State) : Out :=
  .next (s.mbxAccess (·.serve (A.MBX_CH_CTL n.val) r (·.writeMbxCtl n.val r)))

/-! States of the FMP (R279). -/
namespace Fw
abbrev BOOT : Nat := 0
abbrev SERVING : Nat := 1
abbrev PAUSED : Nat := 2
abbrev HANDOVER : Nat := 3
abbrev HALTED : Nat := 4
end Fw

/-- GLB_FMP_STATUS.STATE. -/
def State.fwState (s : State) : Nat := s.fld A.GLB_FMP_STATUS F.GLB_FMP_STATUS_STATE

/-! ### Command pairs (R245, R247) -/

/-- What the FMP keeps for pair `k`. -/
def State.pair (s : State) (k : Nat) : PairSt := tget {} s.fmp.pairs k
def State.modPair (s : State) (k : Nat) (f : PairSt → PairSt) : State :=
  { s with fmp := { s.fmp with pairs := tset {} s.fmp.pairs k (f (s.pair k)) } }

/-- R247, R242: while a message for pair `k` is held, a serving FMP moves the commands of channel 2k into the set-aside queue of
16; those that find it full wait to be answered OVERRUN. -/
def State.setAside (s : State) (k : Nat) : Nat → State
  | 0 => s
  | n + 1 =>
    if (s.pair k).held.isEmpty ∨ s.fwState ≠ Fw.SERVING then s
    else
      match s.msgs (2 * k) with
      | [] => s
      | m :: _ =>
        let s := s.mbxPop (2 * k)
        (s.modPair k (fun p => if p.aside.length < 16 then { p with aside := p.aside ++ [m] }
          else { p with spill := p.spill ++ [m] })).setAside k n

/-- R234, R247: a message meets its channel; the FMP moves it aside when it is a command of a pair whose messages are held. -/
def State.mbxLand (s : State) (n : Nat) (src : Gid) (priv : Nat) (data : BitVec 512) : State × BitVec 4 :=
  match s.mbxPut n src priv data with
  | (s, c) => (if n < 16 ∧ n % 2 = 0 then s.setAside (n / 2) 4 else s, c)

/-- MSG_RECEIVE (R233): the mailbox unit judges the oldest MSG that has arrived and answers it with MSR; at most one in an mclk
(R228). -/
def execMsgReceive (s : State) : Out :=
  match s.glb.rx.find? (fun q => q.h.cmd = Cmd.MSG) with
  | none => .next s
  | some q =>
    if !s.msgFree then .next s
    else
    let s := { s with glb := { s.glb with rx := s.glb.rx.erase q, mbxMsgAt := some (mclkNo s.datum) } }
    let x := q.h.address.toNat
    let bad := x % 64 ≠ 0 ∨ 2 ^ 13 ≤ x ∨ q.h.bcount ≠ 64 ∨ q.h.len ≠ 2 ∨ !q.h.clean
    let data := BitVec.ofNat 512 (bytesNat q.bytes)
    let (s, code) := if bad then (s.gcnt 8, Code.TGTERR)
      else (s.popFirst (x / 64)).mbxLand (x / 64) q.h.src (effPriv q.h.src q.h.priv) data
    let h : Hdr := { dest := q.h.src, cmd := Cmd.MSR, cls := q.h.cls, tag := q.h.tag, region := q.h.region, status := code
                     bcount := q.h.bcount, address := q.h.address }
    .next (s.glbSend h []).glbBars

/-- R241: the access of this mclk, still to come, is a POP of channel `n` that the unit accepts. -/
def State.popCounts (s : State) (n : Nat) : Bool :=
  match s.popDue n with
  | some r => s.writeGate (A.MBX_CH_CTL n) r = .go
  | none => false

/-- MAILBOX_CROSS (R241): the timer of channel `n`'s pair has reached 4,096 mclk; a POP that this mclk serves on either channel
prevents the crossing. -/
def execMailboxCross (n : Fin 128) (s : State) : Out :=
  let n := n.val
  match s.pairOf n with
  | none => .next s
  | some m =>
    let k := min n m
    match tget none s.glb.cross k with
    | none => .next s
    | some t =>
      if mclkNo s.datum < mclkNo t + 4096 || s.popCounts n || s.popCounts m then .next s
      else
        let mark (s : State) (c : Nat) : State :=
          if s.bit (A.MBX_CH_STATUS c) F.MBX_CH_STATUS_CROSS then s
          else (s.setFld (A.MBX_CH_STATUS c) F.MBX_CH_STATUS_CROSS 1).raise (832 + c)
        let s := { s with glb := { s.glb with cross := tset none s.glb.cross k (some s.datum) } }
        .next ((mark (mark s n) m).sat A.MBX_TOTALS F.MBX_TOTALS_CROSSINGS)

/-- MAILBOX_WAKE (R238): the receiver of a landed message is up. -/
def execMailboxWake (n : Fin 128) (s : State) : Out :=
  let n := n.val
  let a := A.MBX_CH_STATUS n
  if s.bit a F.MBX_CH_STATUS_LANDED && !s.rcvDown n then
    .next ((((s.setFld a F.MBX_CH_STATUS_LANDED 0).setFld a F.MBX_CH_STATUS_WAKE_PEND 0).domRefresh (s.rcvPort n)).raise
      (576 + n))
  else .next s

/-- R229, R239: the channel discards its messages. -/
def State.mbxDiscard (s : State) (n : Nat) (cross : Bool) : State :=
  let a := A.MBX_CH_STATUS n
  let k := (s.msgs n).length
  let s := (s.setMsgs n []).sat a F.MBX_CH_STATUS_DISCARD k
  let s := (s.setFld a F.MBX_CH_STATUS_LANDED 0).setFld a F.MBX_CH_STATUS_WAKE_PEND 0
  let s := if cross then s.setFld a F.MBX_CH_STATUS_CROSS 0 else s
  (s.domRefresh (s.rcvPort n)).crossTimer n false

/-- R239: every channel with receiver `p` discards its messages. -/
def State.mbxLose (s : State) (p : Nat) : State :=
  (List.range 128).foldl (fun s n => if s.rcvPort n = p && !(s.msgs n).isEmpty then s.mbxDiscard n false else s) s

/-- R229: a write of MBX_CHn_CFG is acceptable. -/
def State.mbxCfgOk (s : State) (n : Nat) (v : Word) : Bool :=
  let a := A.MBX_CH_CFG n
  let en := F.MBX_CH_CFG_ENABLE.get v = 1
  let rc := F.MBX_CH_CFG_RECEIVER.get v
  let port := rc % 256
  let others := [F.MBX_CH_CFG_WAKE, F.MBX_CH_CFG_ANY, F.MBX_CH_CFG_EMPTY_EV, F.MBX_CH_CFG_MIN_PRIV, F.MBX_CH_CFG_PAIR_VALID,
    F.MBX_CH_CFG_PAIR, F.MBX_CH_CFG_SENDER, F.MBX_CH_CFG_RECEIVER]
  let rcvOk := decide (rc / 256 = s.instance') && (decide (port < 144) || decide (port = 240))
  (!en || rcvOk) && !(s.bit a F.MBX_CH_CFG_ENABLE && others.any (fun f => f.get v ≠ s.fld a f))

/-- R229: MBX_CHn_CFG written; a channel that is disabled discards its messages. -/
def State.mbxCfgSet (s : State) (n : Nat) (v : Word) : State :=
  let off := s.chBit n F.MBX_CH_CFG_ENABLE && F.MBX_CH_CFG_ENABLE.get v = 0
  let row := (rowAt (A.MBX_CH_CFG n)).bind (fun row => row.write true (s.rd (A.MBX_CH_CFG n)) v)
  let s := s.wr (A.MBX_CH_CFG n) (row.getD 0)
  if off then s.mbxDiscard n true else s.crossTimer n false

/-- One event source routed to EVT_NOTE `line` of the party `g` (R298); nothing for a party that is no port of this
instance (240 is served inside the FMP). The source's MODE stands. -/
def State.routeNote (s : State) (i line g : Nat) : State :=
  if g / 256 = s.instance' ∧ g % 256 < 144 then
    let a := A.EVT_SRC_CFG i
    (((s.setFld a F.EVT_SRC_CFG_EN 1).setFld a F.EVT_SRC_CFG_ACTION 2).setFld a F.EVT_SRC_CFG_LINE line).setFld a
      F.EVT_SRC_CFG_TARGET g
  else s

/-- R237, R298: the default routing that the FMP gives a channel it enables: MBX_ARRIVE to the receiver on NOTE line 0,
MBX_EMPTY to the sender on NOTE line 1; with ANY no single sender is named and MBX_EMPTY stays as it is. -/
def State.routeBells (s : State) (n : Nat) : State :=
  if s.chBit n F.MBX_CH_CFG_ENABLE then
    let s := s.routeNote (576 + n) 0 (s.receiver n)
    if s.chBit n F.MBX_CH_CFG_ANY then s else s.routeNote (704 + n) 1 (s.fld (A.MBX_CH_CFG n) F.MBX_CH_CFG_SENDER)
  else s

/-- The FMP configures a channel (R229, R237). -/
def State.fmpMbxCfg (s : State) (n : Nat) (v : Word) : State := (s.mbxCfgSet n v).routeBells n

/-- A write of MBX_CHn_CFG (R229). -/
def State.writeMbxCfg (s : State) (n : Nat) (r : Req) : State × BitVec 4 :=
  if s.mbxCfgOk n r.data then (s.mbxCfgSet n r.data, Code.OK) else (s, Code.DENY)

/-- MBX_CFG_WRITE (R229): a write of MBX_CHn_CFG is served. -/
def execMbxCfgWrite (n : Fin 128) (r : Req) (s : State) : Out :=
  .next (s.mbxAccess (·.serve (A.MBX_CH_CFG n.val) r (·.writeMbxCfg n.val r)))

end Sys2Proof.Machine
end

