-- ==== Sys2Proof/Machine/Iq.lean ====
section
/-!
DEFINITION. Machine/Iq.lean: the requests of a unit on IQ (R175 to R181, R192, R209 to R211, R226, R232, R374), the
posted-write buffer (R179), barriers (R183 to R186), and the answers on IS (R207, R212).
-/
namespace Sys2Proof.Machine

/-! ### Illegal behaviour of the unit (R226) -/

/-- The field of NI_PORT_ERR that counts a code of R226. -/
def portErrFld (code : Nat) : Fld :=
  if code = 1 ∨ code = 5 then F.NI_PORT_ERR_PARITY
  else if code = 6 ∨ code = 7 ∨ code = 8 then F.NI_PORT_ERR_BADTS
  else if code = 9 ∨ code = 11 then F.NI_PORT_ERR_HANG
  else F.NI_PORT_ERR_PROTOCOL

/-- R226, R296: an illegal behaviour: its count, its cause and the first-event capture. -/
def State.portErr (s : State) (p code tag : Nat) : State :=
  let a := A.NI_PORT_ERR_CAP p
  let s := s.sat (A.NI_PORT_ERR p) (portErrFld code)
  let s := if s.bit a F.NI_PORT_ERR_CAP_VALID then s
    else ((s.setFld a F.NI_PORT_ERR_CAP_CODE code).setFld a F.NI_PORT_ERR_CAP_VALID 1).setFld a F.NI_PORT_ERR_CAP_TAG tag
  s.niCause p (if code = 1 ∨ code = 5 then 3 else 4)

/-! ### The region map (R175, R438) -/

/-- What the region map makes of a request: its destination, its target address, the region's TYPE, KIND and STAKE. -/
structure Xlat where
  dest : Gid
  addr : Nat
  ty : Nat
  kind : Nat
  stake : Nat
  deriving DecidableEq, Repr

/-- R175, R177: region `n`, as it acts in this cycle, covers the bytes [a, a + size). -/
def State.regionHit (s : State) (p a size n : Nat) : Bool :=
  decide (s.fldNow (A.NI_REGION_CFG p n) F.NI_REGION_CFG_VALID = 1) && decide ((s.inForce (A.NI_REGION_BASE p n)).toNat ≤ a) &&
    decide (a + max size 1 - 1 ≤ (s.inForce (A.NI_REGION_LIMIT p n)).toNat + 4095)

/-- R175: the translation of a request; none when no entry covers all its bytes. -/
def State.translate (s : State) (p a size : Nat) : Option Xlat :=
  ((List.range 32).find? (s.regionHit p a size)).map (fun n =>
    let c := A.NI_REGION_CFG p n
    { dest := BitVec.ofNat 18 (s.fldNow c F.NI_REGION_CFG_DEST)
      addr := (a - (s.inForce (A.NI_REGION_BASE p n)).toNat + (s.inForce (A.NI_REGION_TBASE p n)).toNat) % 2 ^ 64
      ty := s.fldNow c F.NI_REGION_CFG_TYPE, kind := s.fldNow c F.NI_REGION_CFG_KIND
      stake := s.fldNow c F.NI_REGION_CFG_STAKE })

/-- R438: the port of a configuration offset, or the code that refuses it. -/
def cfgPort (off : Nat) : BitVec 4 ⊕ Nat :=
  if off < 0x100000 then .inr 240
  else if off < 0x340000 then .inr (160 + (off - 0x100000) / 0x10000)
  else if off < 0x400000 then .inl Code.TGTERR
  else if off < 0xD00000 then .inr (160 + (off - 0x400000) / 0x10000 / 4)
  else if off < 0xDC0000 then .inr (160 + stationOfFed ((off - 0xD00000) / 0x10000))
  else if off < 0x1000000 then .inl Code.TGTERR
  else if off < 0x2000000 then .inl Code.DENY
  else .inl Code.TGTERR

/-- R177, R176: a write of a region register. BASE, LIMIT and TBASE do not change while VALID is 1. -/
def State.writeRegion (s : State) (p n a : Nat) (r : Req) : State × BitVec 4 :=
  if s.bit (A.NI_REGION_CFG p n) F.NI_REGION_CFG_VALID && !s.same a r then (s, Code.DENY) else s.plainWrite a r

/-- R177, R176: a write of NI_REGION_CFGn. -/
def State.writeRegionCfg (s : State) (p n : Nat) (r : Req) : State × BitVec 4 :=
  let a := A.NI_REGION_CFG p n
  let v := reqFld r F.NI_REGION_CFG_VALID = 1
  let kind := reqFld r F.NI_REGION_CFG_KIND
  let others := [F.NI_REGION_CFG_TYPE, F.NI_REGION_CFG_KIND, F.NI_REGION_CFG_STAKE, F.NI_REGION_CFG_DEST]
  if kind = 3 ∨ (v ∧ kind = 1 ∧ 2 ≤ reqFld r F.NI_REGION_CFG_TYPE) then (s, Code.DENY)
  else if s.bit a F.NI_REGION_CFG_VALID ∧ v ∧ others.any (fun f => reqFld r f ≠ s.fld a f) then (s, Code.DENY)
  else s.plainWrite a r

/-! ### What a request carries -/

/-- The lines of a request as one number, byte i of the first line in bits [8i + 7:8i]. -/
def linesNat : List (BitVec 64 × BitVec 512) → Nat
  | [] => 0
  | b :: bs => b.2.toNat + 2 ^ 512 * linesNat bs

/-- The `n` bytes at unit address `x` of a request at unit address `a` (R210). -/
def iqBytes (q : IqReq) (x n : Nat) : Nat := linesNat q.beats / 256 ^ (x - 64 * (q.addr.toNat / 64)) % 256 ^ n

/-- R44: the data units of the bytes [x, x + n), given as a number. -/
def rangeUnits (v x n : Nat) : List (BitVec 256) :=
  (List.range (lenFor x n)).map (fun j => BitVec.ofNat 256 (v * 256 ^ (x % 32) / 2 ^ (256 * j)))

/-- R44: the packets of an access by byte range: two when 17 data units would be needed. -/
def splitRange (a n : Nat) : List (Nat × Nat) :=
  if lenFor a n = 17 then
    let e := 32 * (a / 32) + 512
    [(a, e - a), (e, a + n - e)]
  else [(a, n)]

/-- R176: one range for each 64-byte line that the bytes touch. -/
def splitLines (a n : Nat) : List (Nat × Nat) :=
  (List.range (linesOf a n)).map (fun j =>
    let lo := max a (64 * (a / 64 + j))
    (lo, min (a + n) (64 * (a / 64 + j + 1)) - lo))

/-- The command by which a capture names a request that was refused before it was built. -/
def opCmd (op : Nat) : BitVec 6 :=
  if op = 1 then Cmd.WRP else if op = 2 then Cmd.WR else if op = 3 then Cmd.RDX else if op = 4 then Cmd.WRX
  else if op = 5 then Cmd.BAR else if op = 7 then Cmd.MSG else Cmd.RD

/-- Operations whose request takes a tag (R209). -/
def opTagged (op : Nat) : Bool := op = 0 || op = 2 || op = 3 || op = 4 || op = 5 || op = 7

/-- R209, R210: IQ_SIZE, with its alignment, IQ_BE and the beat count are as the operation requires. -/
def iqLegal (q : IqReq) (op : Nat) : Bool :=
  let n := q.size.toNat
  let one := decide (q.beats.length = 1)
  let enables := (List.range q.beats.length).all (fun j =>
    decide ((q.beats.map Prod.fst).getD j 0 = beOf q.addr.toNat n j))
  !q.resOp &&
  (if op = 0 then one && decide (1 ≤ n) && decide (n ≤ 512)
   else if op = 1 || op = 2 then
     decide (1 ≤ n) && decide (n ≤ 512) && decide (q.beats.length = linesOf q.addr.toNat n) && enables
   else if op = 3 then one && (n = 8 || n = 16) && decide (q.addr.toNat % n = 0)
   else if op = 4 then one && (n = 8 || n = 16) && decide (q.addr.toNat % n = 0) && enables
   else if op = 5 then one && n = 0
   else if op = 6 then one && n = 32
   else one && n = 64)

/-- A request that the initiator NI completes itself (R280 item 1): with a tag it is answered on IS, a posted one is
refused (R293). -/
def State.refuse (s : State) (p op : Nat) (q : IqReq) (acc key : Nat) (dest : Gid) (code : BitVec 4) : State :=
  let h : Hdr := { dest := dest, cmd := opCmd op, tag := BitVec.ofNat 12 (if opTagged op then key else 0), address := q.addr }
  s.accDone p key { op := op, addr := q.addr.toNat, size := q.size.toNat, seq := acc, left := 0, err := some ⟨code, h, 0⟩ }

/-! ### The posted-write buffer (R179) -/

/-- The lines held, with LINES. -/
def State.setMerge (s : State) (p : Nat) (ls : List MLine) : State :=
  (s.modNi p (fun n => { n with merge := ls })).setFld (A.NI_MERGE_STATUS p) F.NI_MERGE_STATUS_LINES ls.length

/-- First valid byte of a mask. -/
def maskFirst (m : BitVec 64) : Nat := ((List.range 64).find? (fun i => m.getLsbD i)).getD 0
/-- Number of valid bytes. -/
def maskCount (m : BitVec 64) : Nat := ((List.range 64).filter (fun i => m.getLsbD i)).length

/-- R179: the packet of a flushed line: WRP of its contiguous bytes, else WRM. -/
def MLine.out (l : MLine) (ord : Option Nat) : OutPkt :=
  let f := maskFirst l.mask
  let c := maskCount l.mask
  let h : Hdr := { dest := l.dest, region := l.region }
  if l.mask = lineMask' f c then
    { pkt := { h := { h with cmd := Cmd.WRP, bcount := BitVec.ofNat 10 c, address := BitVec.ofNat 64 (64 * l.line + f) }
               units := rangeUnits (l.data.toNat / 256 ^ f % 256 ^ c) (64 * l.line + f) c }
      kind := .posted none, acc := l.acc, ord := ord, qos := some l.qos }
  else
    { pkt := { h := { h with cmd := Cmd.WRM, bcount := 0, address := BitVec.ofNat 64 (64 * l.line) }
               units := [l.mask.setWidth 256, l.data.setWidth 256, BitVec.ofNat 256 (l.data.toNat / 2 ^ 256)] }
      kind := .posted none, acc := l.acc, ord := ord, qos := some l.qos }
where
  lineMask' (f c : Nat) : BitVec 64 := BitVec.ofNat 64 ((2 ^ c - 1) * 2 ^ f)

/-- Lines flushed: removed from the buffer and handed to the request builder, with their place in the order of acceptance
and build where a barrier flushes them. -/
def State.flush (s : State) (p : Nat) (which : MLine → Bool) (ord : Option Nat := none) : State :=
  let go := (s.ni p).merge.filter which
  if go.isEmpty then s
  else
    let outs := go.map (fun l => l.out ord)
    let wrm := (outs.filter (fun o => o.pkt.h.cmd = Cmd.WRM)).length
    let s := s.setMerge p ((s.ni p).merge.filter (fun l => !which l))
    (s.sat (A.NI_MERGE_STATUS p) F.NI_MERGE_STATUS_WRM_COUNT wrm).buildReqs p outs

/-- R179 item 3: the lines of a destination that share a line with [x, x + n). -/
def sharesLine (d : Gid) (x n : Nat) (l : MLine) : Bool :=
  l.dest = d && decide (x / 64 ≤ l.line) && decide (l.line ≤ (x + max n 1 - 1) / 64)

/-- The oldest line flushed for space (R179). -/
def State.flushOldest (s : State) (p : Nat) : State :=
  match (s.ni p).merge with
  | [] => s
  | l :: _ => (s.sat (A.NI_MERGE_STATUS p) F.NI_MERGE_STATUS_EVICTS).flush p (· = l)

/-- R179: a store that merges: NORMAL, KIND MEMORY, within one line. -/
def mergeable (q : IqReq) (x : Xlat) : Bool := x.kind = 0 && x.ty = 0 && decide (linesOf q.addr.toNat q.size.toNat ≤ 1)

/-- The line a store would merge into. -/
def State.mergeLine (s : State) (p : Nat) (x : Xlat) : Option MLine :=
  (s.ni p).merge.find? (fun l => l.dest = x.dest && l.line = x.addr / 64)

/-- The class under which a line is held (R179): that of the QOS of the store that took it (log 73). -/
def State.lineCls (s : State) (p : Nat) (l : MLine) : Nat := s.classOf p l.qos

/-- The store needs a new line and none is left; on a class conflict the held line makes the room. -/
def State.mergeFull (s : State) (p : Nat) (x : Xlat) : Bool :=
  decide (128 ≤ (s.ni p).merge.length) && (s.mergeLine p x).isNone

/-- Bytes of a store laid over a line's data. -/
def overlay (old : BitVec 512) (off n v : Nat) : BitVec 512 :=
  let x := old.toNat
  BitVec.ofNat 512 (x % 256 ^ off + v * 256 ^ off + x / 256 ^ (off + n) * 256 ^ (off + n))

/-- R179: a store merges into the buffer. -/
def State.mergeStore (s : State) (p : Nat) (q : IqReq) (x : Xlat) (acc : Nat) : State :=
  let cls := s.classOf p q.qos
  let n := q.size.toNat
  let off := x.addr % 64
  let m : BitVec 64 := BitVec.ofNat 64 ((2 ^ n - 1) * 2 ^ off)
  let v := iqBytes q q.addr.toNat n
  let s := match s.mergeLine p x with
    | some l => if s.lineCls p l = cls then s else s.flush p (· = l)
    | none => s
  let s := match s.mergeLine p x with
    | some l =>
      let l' := { l with mask := l.mask ||| m, data := overlay l.data off n v, last := s.datum }
      (s.setMerge p ((s.ni p).merge.map (fun y => if y = l then l' else y))).ncnt p 18
    | none =>
      s.setMerge p ((s.ni p).merge ++
        [MLine.mk x.dest (x.addr / 64) q.qos 0 m (overlay 0 off n v) s.datum acc])
  s.flush p (fun l => l.mask = BitVec.allOnes 64)

/-- MERGE_WINDOW_EXPIRE (R179): lines idle for WINDOW fclk are flushed. -/
def execMergeWindowExpire (p : Fin 144) (s : State) : Out :=
  let w := s.fld (A.NI_MERGE_CTL p.val) F.NI_MERGE_CTL_WINDOW
  .next (s.flush p.val (fun l => decide (l.last + w ≤ s.datum)))

/-- A write of NI_MERGE_CTL (R179); WINDOW 0 is reserved. -/
def State.writeMergeCtl (s : State) (p : Nat) (r : Req) : State × BitVec 4 :=
  if reqFld r F.NI_MERGE_CTL_WINDOW = 0 then (s, Code.DENY)
  else
    match s.plainWrite (A.NI_MERGE_CTL p) r with
    | (t, c) => if c ≠ Code.OK then (s, c) else (if reqFld r F.NI_MERGE_CTL_FLUSH = 1 then t.flush p (fun _ => true) else t, c)

/-- MERGE_FLUSH (R179): a write of NI_MERGE_CTL is served. -/
def execMergeFlush (p : Fin 144) (r : Req) (s : State) : Out :=
  .next (s.serve (A.NI_MERGE_CTL p.val) r (·.writeMergeCtl p.val r))

/-! ### Issuing packets (R44, R176) -/

/-- The packets of one access by unit byte ranges: each range's own ADDRESS and BCOUNT, and its data where `data`. Every
packet after the first, and every one of a posted store, takes a tag of its own. -/
def packets (q : IqReq) (x : Xlat) (cmd : BitVec 6) (kind : OutKind) (acc key : Nat)
    (data : Bool) (ranges : List (Nat × Nat)) : List OutPkt :=
  ranges.mapIdx (fun j e =>
    let t := x.addr + (e.1 - q.addr.toNat)
    let h : Hdr := { dest := x.dest, cmd := cmd, cls := if vcTypeOf cmd = .mgt then 7 else 0
                     tag := BitVec.ofNat 12 key
                     region := BitVec.ofNat 2 x.ty, stake := BitVec.ofNat 3 (if cmd = Cmd.STW then x.stake else 0)
                     bcount := BitVec.ofNat 10 e.2, address := BitVec.ofNat 64 t }
    { pkt := { h := h, units := if data then rangeUnits (iqBytes q e.1 e.2) t e.2 else [] }, kind := kind
      own := (match kind with
        | .access _ => decide (j ≠ 0) || decide (4096 ≤ key)
        | _ => false)
      acc := acc, qos := some q.qos })

/-- An access of non-posted packets is entered and handed to the builder. -/
def State.issue (s : State) (p op : Nat) (q : IqReq) (x : Xlat) (cmd : BitVec 6) (acc key : Nat) (data : Bool)
    (ranges : List (Nat × Nat)) : State :=
  let s := s.setAcc p key (some { op := op, addr := q.addr.toNat, size := q.size.toNat, seq := acc
                                  device := x.ty = 2 && x.kind = 0 || x.kind = 2, left := ranges.length })
  s.buildReqs p (packets q x cmd (.access key) acc key data ranges)

/-- Posted packets handed to the builder; with a key they belong to a STORE_NP (R176). -/
def State.issuePosted (s : State) (p op : Nat) (q : IqReq) (x : Xlat) (cmd : BitVec 6) (acc : Nat) (key : Option Nat)
    (ranges : List (Nat × Nat)) : State :=
  let s := match key with
    | some k => s.setAcc p k (some { op := op, addr := q.addr.toNat, size := q.size.toNat, seq := acc, left := ranges.length })
    | none => s
  s.buildReqs p (packets q x cmd (.posted key) acc 0 true ranges)

/-- R176, R438: an access in a region of KIND CONFIG. -/
def State.issueCfg (s : State) (p op : Nat) (q : IqReq) (x : Xlat) (acc key : Nat) : State :=
  let a := q.addr.toNat
  if (op = 0 ∨ op = 1 ∨ op = 2) ∧ q.size = 8 ∧ a % 8 = 0 then
    match cfgPort x.addr with
    | .inl c => s.refuse p op q acc key x.dest c
    | .inr port =>
      let x := { x with dest := BitVec.ofNat 18 (gidInst x.dest * 256 + port) }
      s.issue p op q x (if op = 0 then Cmd.CRD else Cmd.CWR) acc key (decide (op ≠ 0)) [(a, 8)]
  else s.refuse p op q acc key x.dest Code.TGTERR

/-- R176: a store, posted or not, in a region that is not of KIND CONFIG and that does not merge. -/
def State.issueStore (s : State) (p op : Nat) (q : IqReq) (x : Xlat) (acc key : Nat) : State :=
  let a := q.addr.toNat
  let n := q.size.toNat
  if x.kind = 1 then s.issuePosted p op q x Cmd.SPUT acc (if op = 2 then some key else none) (splitLines a n)
  else if x.ty = 3 then s.issue p op q x Cmd.STW acc key true (splitLines a n)
  else if op = 1 ∧ x.ty ≠ 2 then s.issuePosted p op q x Cmd.WRP acc none (splitRange a n)
  else s.issue p op q x Cmd.WR acc key true (splitRange a n)

/-- R176, R192: a load or an exclusive access in a region that is not of KIND CONFIG. -/
def State.issueRead (s : State) (p op : Nat) (q : IqReq) (x : Xlat) (acc key : Nat) : State :=
  let a := q.addr.toNat
  let n := q.size.toNat
  if x.kind = 1 ∨ (op ≠ 0 ∧ (x.ty = 3 ∨ a % n ≠ 0)) then s.refuse p op q acc key x.dest Code.TGTERR
  else if op = 0 then s.issue p op q x Cmd.RD acc key false (splitRange a n)
  else if op = 3 then s.issue p op q x Cmd.RDX acc key false [(a, n)]
  else s.issue p op q x Cmd.WRX acc key true [(a, n)]

/-- R175, R374: a memory access is translated, judged and issued, or refused. -/
def State.access (s : State) (p op : Nat) (q : IqReq) (acc key : Nat) : State :=
  match s.translate p q.addr.toNat q.size.toNat with
  | none => s.refuse p op q acc key 0x3FFFF Code.DENY
  | some x =>
    if s.restricted p && x.kind ≠ 2 then s.refuse p op q acc key x.dest Code.DENY
    else if x.kind = 2 then s.issueCfg p op q x acc key
    else if op = 1 ∧ mergeable q x then s.mergeStore p q x acc
    else
      let s := s.flush p (sharesLine x.dest x.addr q.size.toNat)
      if op = 1 ∨ op = 2 then s.issueStore p op q x acc key else s.issueRead p op q x acc key

/-- MESSAGE (R232): an MSG to the mailbox unit that IQ_ADDR names; the region map is not consulted. -/
def State.message (s : State) (p : Nat) (q : IqReq) (acc key : Nat) : State :=
  let a := q.addr.toNat
  if a % 64 ≠ 0 ∨ a / 2 ^ 13 % 8 ≠ 0 ∨ 2 ^ 26 ≤ a then s.refuse p 7 q acc key 0x3FFFF Code.TGTERR
  else
    let x : Xlat := { dest := BitVec.ofNat 18 (a / 2 ^ 16 % 1024 * 256 + 240), addr := a % 2 ^ 13, ty := 0, kind := 0, stake := 0 }
    s.issue p 7 q x Cmd.MSG acc key true [(a, 64)]

/-- The source queue of a chain put is full. -/
def State.putFull (s : State) (p k : Nat) : Bool := decide (16 ≤ (s.srcQueue p k).length)

/-- CHAIN_PUT (R98 to R100, R226, R374): a flit joins the queue of its source entry. -/
def State.chainPut (s : State) (p : Nat) (q : IqReq) : State :=
  let k := q.chain.toNat
  if !s.srcValid p k then s.portErr p 4 0
  else if s.restricted p then s.srcDrops p k 1
  else
    let s := if s.putFull p k then (s.setSrcQueue p k (s.srcQueue p k).tail).srcDrops p k 1 else s
    let e := s.nowOf p
    let f : SrcFlit := { payload := ((q.beats.map Prod.snd).headD 0).setWidth 256, flags := q.mark.setWidth 4
                         stamp := BitVec.ofNat 16 e, seq := BitVec.ofNat 6 (s.fld (srcStatOf p k) F.NI_CHAIN_SRC_STAT_SEQ)
                         ready := e + 8 }
    (s.setSrcQueue p k (s.srcQueue p k ++ [f])).wrap (srcStatOf p k) F.NI_CHAIN_SRC_STAT_SEQ

/-- BARRIER (R183, R185): accepted and queued. The lines it covers are flushed at once (R179 item 4), in place of the
barrier, so that it does not hold them (DEDUCED, log 73). -/
def State.barrier (s : State) (p : Nat) (q : IqReq) (acc key : Nat) : State :=
  if s.restricted p then s.refuse p 5 q acc key 0x3FFFF Code.DENY
  else
    match s.translate p q.addr.toNat 0 with
    | none => s.refuse p 5 q acc key 0x3FFFF Code.DENY
    | some x =>
      let sc := q.bscope.toNat
      if (sc = 1 ∨ sc = 2) ∧ gidInst x.dest ≠ s.instance' then s.refuse p 5 q acc key x.dest Code.TGTERR
      else if sc = 1 ∧ (quadOfKey (s.keyOf x.dest)).isNone then s.refuse p 5 q acc key x.dest Code.TGTERR
      else
        let b : Bar := { tag := key, kind := q.bkind, scope := q.bscope, qos := q.qos, addr := q.addr, d := x.dest, seq := acc }
        (s.modNi p (fun n => { n with barrs := n.barrs ++ [b] })).flush p (fun l => s.barCovers b (s.keyOf l.dest)) (some acc)

/-! ### The channel IQ (R207, R210, R211, R178, R152) -/

/-- Even parity: whether the low `w` bits of a number hold an odd number of ones (R205). -/
def oddOnes (n w : Nat) : Bool := (List.range w).foldl (fun a i => a != n.testBit i) false

/-- IQ_OP as driven: the code of the command's operation, or a reserved one. -/
def iqCode (op : Nat) (b : IqBeat) : Nat :=
  match b.resOp with
  | some r => 8 + r.val
  | none => op

/-- IQ_CPAR as it should be (R205). -/
def iqCpar (op : Nat) (b : IqBeat) : Bool :=
  [(iqCode op b, 4), (b.addr.toNat, 64), (b.size.toNat, 10), (b.qos.toNat, 3), (b.bkind.toNat, 1), (b.bscope.toNat, 2),
   (b.chain.toNat, 6), (b.mark.toNat, 2), (b.last.toNat, 1), (b.be.toNat, 64)].foldl (fun a e => a != oddOnes e.1 e.2) false

/-- IQ_CPAR is wrong on the beat (R226 code 0x1). -/
def iqBad (op : Nat) (b : IqBeat) : Bool := b.cpar != iqCpar op b

/-- The control fields of a beat other than IQ_OP (R210). -/
def beatCtl (b : IqBeat) : IqReq :=
  { addr := b.addr, size := b.size, qos := b.qos, bkind := b.bkind, bscope := b.bscope, chain := b.chain, mark := b.mark }

/-- The request that a beat offered with operation `op` belongs to, up to and with that beat: its operation and fields are
those of its first beat (R210). -/
def State.iqWhole (s : State) (p op : Nat) (b : IqBeat) : Nat × IqReq :=
  match (s.ni p).iqPart with
  | some (o, q) => (o, { q with beats := q.beats ++ [(b.be, b.data)], badPar := q.badPar || iqBad op b })
  | none => (op, { beatCtl b with beats := [(b.be, b.data)], badPar := iqBad op b, resOp := b.resOp.isSome })

/-- The request builder has nothing to do (R72, R152). -/
def State.builderIdle (s : State) (p : Nat) : Bool := (s.ni p).rqBuild.isEmpty && (s.ni p).rqWait.isNone

/-- R152: room on the path that an access's packets would join. A store that only merges builds none. -/
def State.accessRoom (s : State) (p op : Nat) (q : IqReq) : Bool :=
  match s.translate p q.addr.toNat q.size.toNat with
  | none => true
  | some x =>
    if x.kind = 2 then decide ((s.ni p).mgtQ.length < 8)
    else decide (s.clsCount p < 64) || (op = 1 && mergeable q x &&
      (match s.mergeLine p x with
       | some l => s.lineCls p l = s.classOf p q.qos
       | none => !s.mergeFull p x))

/-- There is room for a request: on its path (R152), in its chain queue (R99), among the barriers (R185). -/
def State.iqRoom (s : State) (p op : Nat) (q : IqReq) : Bool :=
  if q.resOp then true
  else if op = 5 then decide ((s.ni p).barrs.length < 8)
  else if op = 6 then
    let k := q.chain.toNat
    !(s.srcValid p k && s.putFull p k && s.fld (srcCfgOf p k) F.NI_CHAIN_SRC_CFG_FULL_POLICY = 0 && !s.restricted p)
  else if op = 7 then decide (s.clsCount p < 64)
  else s.accessRoom p op q

/-- IQ_READY while a beat of the request `q` is offered: a tag is free (R178, R211), the builder waits for nothing (R72),
and there is room. -/
def State.iqReady (s : State) (p op : Nat) (q : IqReq) : Bool :=
  !(s.ni p).iqShut && s.builderIdle p && (s.freeTag p).isSome && s.iqRoom p op q

/-- IQ_ATAG as driven while IQ_READY is 1 (R211). -/
def State.iqAtag (s : State) (p : Nat) : BitVec 12 := BitVec.ofNat 12 ((s.freeTag p).getD 0)

/-- R179, no room: the oldest line is flushed before a store that needs a new one is taken. -/
def State.makeRoom (s : State) (p op : Nat) (q : IqReq) : State :=
  match s.translate p q.addr.toNat q.size.toNat with
  | some x =>
    if op = 1 && !q.resOp && !(s.ni p).iqShut && s.builderIdle p && !s.restricted p && mergeable q x && s.mergeFull p x
    then s.flushOldest p else s
  | none => s

/-- A request accepted: its count (R312), its acceptance number and the tag it takes, or for a posted store the key
of its access in the NI. -/
def State.iqTake (s : State) (p op : Nat) : Nat × Nat × State :=
  let s := (s.modNi p (fun n => { n with iqPart := none })).ncnt p 0
  let tag := (s.freeTag p).getD 0
  let (acc, s) := s.nextSeq p
  (acc, if opTagged op then tag else 4096 + acc, s)

/-- What an accepted request of an operation does. -/
def State.iqAct (s : State) (p op : Nat) (q : IqReq) (acc key : Nat) : State :=
  if op = 5 then s.barrier p q acc key
  else if op = 6 then s.chainPut p q
  else if op = 7 then s.message p q acc key
  else s.access p op q acc key

/-- R210, R226: a request is accepted with its LAST beat: the parity and form checks, then what its operation does. A wrong
IQ_CPAR counts once for each such beat. -/
def State.iqAccept (s : State) (p op : Nat) (q : IqReq) (bad : Bool) : State :=
  match s.iqTake p op with
  | (acc, key, s) =>
    let tagged := opTagged op && !q.resOp
    let tag := if tagged then key else 0
    let cut (s : State) : State := if tagged then s.refuse p op q acc key 0x3FFFF Code.TGTERR else s
    let s := if bad then s.portErr p 1 tag else s
    if q.badPar then cut s
    else if !iqLegal q op then cut (s.portErr p 3 tag)
    else s.iqAct p op q acc key

/-- An edge at which a beat is offered on IQ: an edge of PCLK (R204) with PWR_UP = 1 (R206), one beat at each. -/
def State.iqEdge (s : State) (p : Nat) : Bool :=
  pclkEdge s.datum && s.pwrUp p && decide ((s.ni p).iqAt ≤ s.datum)

/-- R226 code 0x2: a control field differs from that of the beat that was offered before and did not transfer. -/
def State.iqSteady (s : State) (p op : Nat) (b : IqBeat) : State :=
  match (s.ni p).iqHeld with
  | some (o, h, _) => if iqCode o h = iqCode op b && beatCtl h = beatCtl b then s else s.portErr p 2 0
  | none => s

/-- R226 code 0x2: at the fclk cycle after an edge, a beat that had not transferred and was not offered again there has been
dropped. -/
def State.iqDrop (s : State) (p : Nat) : State :=
  match (s.ni p).iqHeld with
  | some (_, _, t) =>
    if t + 1 < s.datum ∧ !pclkEdge s.datum then (s.modNi p (fun n => { n with iqHeld := none })).portErr p 2 0 else s
  | none => s

/-- A beat offered on IQ with operation `op` (R207, R210, R211, R226): it transfers when IQ_READY is 1, and the LAST one
completes the request. -/
def State.iq (s : State) (p op : Nat) (b : IqBeat) : State :=
  if !s.iqEdge p then s
  else
    let s := (s.iqSteady p op b).modNi p (fun n => { n with iqAt := s.datum + 1 })
    match s.iqWhole p op b with
    | (o, q) =>
      let s := s.makeRoom p o q
      if !s.iqReady p o q then (s.modNi p (fun n => { n with iqHeld := some (op, b, s.datum) })).ncnt p 1
      else
        let s := s.modNi p (fun n => { n with iqHeld := none })
        if b.last then s.iqAccept p o q (iqBad op b)
        else
          let s := s.modNi p (fun n => { n with iqPart := some (o, q) })
          if iqBad op b then s.portErr p 1 0 else s

/-- LOAD (R176): RD, or CRD in a region of KIND CONFIG. -/
def execLoad (p : Fin 144) (b : IqBeat) (s : State) : Out := .next (s.iq p.val 0 b)
/-- STORE (R176, R179): merged, or built as WRP, WR, STW, SPUT or CWR. -/
def execStore (p : Fin 144) (b : IqBeat) (s : State) : Out := .next (s.iq p.val 1 b)
/-- STORE_NP (R176): WR, STW, SPUT or CWR. -/
def execStoreNp (p : Fin 144) (b : IqBeat) (s : State) : Out := .next (s.iq p.val 2 b)
/-- LOAD_RSV (R192): RDX. -/
def execLoadRsv (p : Fin 144) (b : IqBeat) (s : State) : Out := .next (s.iq p.val 3 b)
/-- STORE_COND (R192): WRX. -/
def execStoreCond (p : Fin 144) (b : IqBeat) (s : State) : Out := .next (s.iq p.val 4 b)
/-- BARRIER (R183, R185): accepted and queued; at most 8 are held. -/
def execBarrier (p : Fin 144) (b : IqBeat) (s : State) : Out := .next (s.iq p.val 5 b)
/-- CHAIN_PUT (R98 to R100, R226, R374): a flit joins the queue of its source entry. -/
def execChainPut (p : Fin 144) (b : IqBeat) (s : State) : Out := .next (s.iq p.val 6 b)
/-- MESSAGE (R232): an MSG to the mailbox unit that IQ_ADDR names. -/
def execMessage (p : Fin 144) (b : IqBeat) (s : State) : Out := .next (s.iq p.val 7 b)

/-! ### Barriers (R183 to R186) -/

/-- The barrier in progress written. -/
def State.setBarr (s : State) (p : Nat) (b : Bar) : State := s.modNi p (fun n => { n with barrs := b :: n.barrs.tail })

/-- The class-path packets that a barrier's FLUSH waits for have all started (R185): those built, or to be built, in a
place before the barrier or in its own. -/
def State.flushDone (s : State) (p : Nat) (b : Bar) : Bool :=
  let covered (o : OutPkt) : Bool := vcTypeOf o.pkt.h.cmd ≠ .mgt && s.barCovers b (s.keyOf o.pkt.h.dest) &&
    (match o.kind with
     | .portBar _ => false
     | _ => true)
  !((s.ni p).rqBuild.any (fun o => decide (o.ord.getD o.acc ≤ b.seq) && covered o)) &&
  !((s.unstarted p).any (fun o => decide (o.place ≤ b.seq) && covered o))

/-- R186: the barrier in progress completes: its answer on IS, its record in NI_BAR_STATUS and the capture. -/
def State.barDone (s : State) (p : Nat) (b : Bar) : State :=
  let st := (b.err.map (·.code)).getD Code.OK
  let a := A.NI_BAR_STATUS p
  let s := s.modNi p (fun n => { n with barrs := n.barrs.tail })
  let s := (s.setFld a F.NI_BAR_STATUS_LAST_STATUS st.toNat).setFld a F.NI_BAR_STATUS_LAST_TAG b.tag
  let s := match b.err with
    | some e => (((s.sat a F.NI_BAR_STATUS_ERR_COUNT).trouble p e.code).icap p
        { code := e.code, posted := false, cmd := Cmd.BAR, tag := b.tag, peer := e.hdr.dest, addr := b.addr.toNat
          by' := e.by' }).ncnt p 16
    | none => s.ncnt p 15
  let acc : UAcc := { op := 5, addr := b.addr.toNat, size := 0, seq := b.seq, left := 0, answered := true }
  (s.setAcc p b.tag (some acc)).present p { kind := 1, tag := b.tag, status := st, beats := [(0, 0, 0)] }

/-- R185 FENCE: the port barrier of the next key is built; its fence bit clears (R184). It has no place in the class queues
and passes packets that wait for one. -/
def State.buildPortBar (s : State) (p : Nat) (b : Bar) (d : Nat) (rest : List Nat) : State :=
  let t := s.freeBarTag p
  let s := (s.setBarr p { b with todo := rest, wait := b.wait ++ [t] }).setFence p d 0
  let h : Hdr := { dest := s.gid d, cmd := Cmd.BAR, tag := BitVec.ofNat 12 t, bkind := b.kind, scope := 0 }
  let o : OutPkt := { pkt := { h := h }, kind := .portBar t, acc := b.seq, qos := some b.qos }
  let s := s.setBar p t (some { kind := .portBar t, hdr := h, acc := b.seq })
  (s.modNi p (fun n => { n with rqBuild := o :: n.rqBuild })).pump p

/-- BARRIER_ADVANCE (R185): the oldest barrier goes on when what it waits for has come. -/
def execBarrierAdvance (p : Fin 144) (s : State) : Out :=
  let p := p.val
  match (s.ni p).barrs with
  | [] => .next s
  | b :: _ =>
    if b.st = 0 then
      .next ((s.setBarr p { b with st := 1 }).flush p (fun l => s.barCovers b (s.keyOf l.dest)))
    else if b.st = 1 then
      if !s.flushDone p b then .next s
      else
        let keys := (List.range 256).filter (fun d => s.barCovers b d && s.fence p d)
        if keys.isEmpty then .next (s.barDone p b) else .next (s.setBarr p { b with st := 2, todo := keys })
    else
      match b.todo with
      | d :: rest =>
        if (s.ni p).rqWait.isNone && (s.ni p).barQ.isEmpty then .next (s.buildPortBar p b d rest) else .next s
      | [] => if b.wait.isEmpty then .next (s.barDone p b) else .next s

/-! ### IS (R207, R212) -/

/-- IS_CPAR of a beat (R205). -/
def IsBeat.cpar (b : IsBeat) : Bool :=
  [(b.kind, 2), (b.tag, 12), (b.status.toNat, 4), (b.last.toNat, 1), (b.be.toNat, 64)].foldl (fun a e => a != oddOnes e.1 e.2) false

/-- IS_PRESENT (R207, R212): at an edge the NI drives the next beat of the oldest answer; with IS_READY it transfers,
releases what it carries (R178), and frees the tag when it is the last. -/
def execIsPresent (p : Fin 144) (ready : Bool) (s : State) : Out :=
  let p := p.val
  if s.datum % 2 ≠ 0 || !s.pwrUp p || decide (s.datum < (s.ni p).isAt) then .next s
  else
    match (s.ni p).isQ with
    | [] => .next (s.modNi p (fun n => { n with isOut := none }))
    | a :: rest =>
      match a.beats with
      | [] => .next ((s.modNi p (fun n => { n with isQ := rest })).setAcc p a.tag none)
      | (be, data, _) :: more =>
        let beat : IsBeat := { kind := a.kind, tag := a.tag, status := a.status, last := more.isEmpty, be := be, data := data }
        let s := s.modNi p (fun n => { n with isOut := some beat })
        if !ready then .next s
        else
          let s := (s.modNi p (fun n => { n with isAt := s.datum + 1 })).ncnt p 2
          if more.isEmpty then .next ((s.modNi p (fun n => { n with isQ := rest })).setAcc p a.tag none)
          else .next (s.modNi p (fun n => { n with isQ := { a with beats := more } :: rest }))

end Sys2Proof.Machine
end

