-- ==== Sys2Proof/Machine/Target.lean ====
section
/-!
DEFINITION. Machine/Target.lean: the target side of an NI: entry of requests at the ordering point (R44, R173, R187,
R192, R194, R283, R287, R452), offers on TQ (R144, R146, R208, R213 to R217), answers on TS (R145, R216, R226); and the
initiator side's responses, retries, timeouts and quarantine (R196, R280, R281).
-/
namespace Sys2Proof.Machine

/-! ### Entry (R172, R173) -/

/-- R45: the response of a request that the NI answers itself. -/
def State.answerReq (s : State) (p : Nat) (q : Pkt) (code : BitVec 4) : State :=
  match Cmd.response q.h.cmd with
  | some c => s.respond p q.h c code []
  | none => s

/-- R284, R287, R452: a packet that the target side does not take: a request is answered and counted in REQ_ABS, a
posted packet or one of a reserved command in POSTED, a response in RSP_ABS; the target capture takes it. -/
def State.turnAway (s : State) (p : Nat) (code : BitVec 4) (q : Pkt) : State :=
  let s := s.tcapPkt p code q.h
  if Cmd.isNonPosted q.h.cmd then (s.sat (A.NI_SINK p) F.NI_SINK_REQ_ABS).answerReq p q code
  else if Cmd.isResponse q.h.cmd then s.sat (A.NI_SINK p) F.NI_SINK_RSP_ABS
  else s.sat (A.NI_SINK p) F.NI_SINK_POSTED

/-- R44, R45: LEN, BCOUNT and ADDRESS are as the command requires, and no field has a reserved or a foreign value. -/
def wellMade (q : Pkt) : Bool :=
  let h := q.h
  let a := h.address.toNat
  let n := h.bcount.toNat
  let len := h.len.toNat
  let range := decide (1 ≤ n) && decide (n ≤ 512) && decide (lenFor a n ≤ 16)
  h.clean &&
  (if h.cmd = Cmd.RD then range && len = 0
   else if h.cmd = Cmd.RDX then (n = 8 || n = 16) && len = 0
   else if h.cmd = Cmd.WR || h.cmd = Cmd.WRP then range && len = lenFor a n
   else if h.cmd = Cmd.WRM then n = 0 && len = 3 && a % 64 = 0
   else if h.cmd = Cmd.WRX then (n = 8 || n = 16) && len = 1
   else if h.cmd = Cmd.BAR then n = 0 && len = 0
   else if h.cmd = Cmd.EVM then n = 32 && len = 1
   else false)

/-- R452: a command that the target side serves and that this entry takes; STW and SPUT have their own. -/
def served (c : BitVec 6) : Bool :=
  c = Cmd.RD || c = Cmd.RDX || c = Cmd.WR || c = Cmd.WRP || c = Cmd.WRM || c = Cmd.WRX || c = Cmd.BAR || c = Cmd.EVM

/-- An item joins the target-request queue. -/
def State.enter (s : State) (p kind : Nat) (q : Pkt) : State :=
  s.modNi p (fun n => { n with tq := n.tq ++ [{ kind := kind, hdr := q.h, data := q.units }] })

/-- R192: the unit does not take this exclusive access. -/
def State.exclRefused (s : State) (p : Nat) (q : Pkt) : Bool := !s.cap p 0 || (q.h.bcount = 16 && !s.cap p 1)

/-- R194: bytes that a write of the command shares with lines. -/
def writeSpan (q : Pkt) : Nat := if q.h.cmd = Cmd.WRM then 64 else q.h.bcount.toNat

/-- R173, R194: a request that passes its checks passes its ordering point. -/
def State.order (s : State) (p : Nat) (q : Pkt) : State :=
  let a := q.h.address.toNat
  let n := q.h.bcount.toNat
  let src := q.h.src.toNat
  if q.h.cmd = Cmd.RD then s.enter p 0 q
  else if q.h.cmd = Cmd.WR then (s.writeMons p a n).enter p 2 q
  else if q.h.cmd = Cmd.WRP ∨ q.h.cmd = Cmd.WRM then (s.writeMons p a (writeSpan q)).enter p 1 q
  else if q.h.cmd = Cmd.RDX then
    if s.exclRefused p q then (s.tcapPkt p Code.TGTERR q.h).answerReq p q Code.TGTERR
    else
      match s.rdxJudge p a n src with
      | (s, true) => s.enter p 0 q
      | (s, false) => (s.sat (A.NI_EXCL_STATUS p) F.NI_EXCL_STATUS_NACK_SENT).answerReq p q Code.EXNACK
  else if q.h.cmd = Cmd.WRX then
    if s.exclRefused p q then (s.tcapPkt p Code.TGTERR q.h).answerReq p q Code.TGTERR
    else
      match s.wrxMon p a n src with
      | some m => (s.freeMon p m).enter p 2 q
      | none => (s.sat (A.NI_EXCL_STATUS p) F.NI_EXCL_STATUS_WRXF_SENT).respond p q.h Cmd.WRXF Code.OK []
  else if q.h.cmd = Cmd.BAR then
    if q.h.bkind = 0 then s.respond p q.h Cmd.BRR Code.OK [] else s.enter p 3 q
  else if s.cap p 4 then s.enter p 9 q
  else s.sat (A.NI_PORT_STATUS p) F.NI_PORT_STATUS_EVM_DROP

/-- R452, R283, R287, R44: the checks made at entry. -/
def State.takeReq (s : State) (p : Nat) (q : Pkt) : State :=
  if q.h.dest ≠ s.gid p then s.turnAway p Code.NOROUTE q
  else if !served q.h.cmd then s.turnAway p Code.TGTERR q
  else if q.fails then s.turnAway p Code.CRC q
  else if !s.enabled p then s.turnAway p (s.stateCode p) q
  else if !wellMade q then s.turnAway p Code.TGTERR q
  else s.order p q

/-- A request of the MGT type that has reached an NI, which serves none (R452). -/
def mgtMisfit (q : Pkt) : Bool := q.h.cmd = Cmd.CRD || q.h.cmd = Cmd.CWR

/-- TARGET_REQUEST_ENTRY (R173): the oldest arrived request of REQ or MSG type is checked and entered, one per fclk. STW
and SPUT packets at the front are left to their own commands. -/
def execTargetRequestEntry (p : Fin 144) (s : State) : Out :=
  let p := p.val
  if s.datum < (s.ni p).entryAt then .next s
  else
    let s' := s.modNi p (fun n => { n with entryAt := s.datum + 1 })
    match (s.ni p).rxReq, (s.ni p).rxMgt.find? mgtMisfit with
    | q :: rest, _ =>
      if q.h.cmd = Cmd.STW ∨ q.h.cmd = Cmd.SPUT then .next s
      else .next ((s'.modNi p (fun n => { n with rxReq := rest })).takeReq p q)
    | [], some q => .next ((s'.modNi p (fun n => { n with rxMgt := n.rxMgt.erase q })).takeReq p q)
    | [], none => .next s

/-! ### Items on TQ (R213 to R215) -/

/-- R213: kinds whose items the unit answers on TS. -/
def tsBearing (kind : Nat) : Bool := kind = 0 || kind = 2 || kind = 3 || kind = 4 || kind = 5

/-- TS-bearing items outstanding, from their presentation on (R215): TS_OUT of NI_PORT_STATUS. -/
def State.tsOut (s : State) (p : Nat) : Nat := ((s.ni p).tout.filter (fun e => e.2.isSome)).length

/-- R215: a further TS-bearing item may be presented. -/
def State.tsFree (s : State) (p : Nat) : Bool := decide (s.tsOut p < s.fld (A.NI_PORT_CTL p) F.NI_PORT_CTL_MAX_OUT)

/-- The TQ_TAG of a new item: the lowest that no outstanding item holds and no late beat names. -/
def State.freeTqTag (s : State) (p : Nat) : Nat :=
  (lowestFree (fun t => (tget none (s.ni p).tout t).isSome || (s.ni p).tsDrop.contains t ||
    ((s.ni p).tqBeat ≠ 0 && t = (s.ni p).tqTag)) 256 0).getD 0

/-- Data bytes of an item from the first byte of its first line on. -/
def TItem.linesData (i : TItem) : Nat :=
  let a := i.hdr.address.toNat
  let v := i.data.foldr (fun u acc => u.toNat + 2 ^ 256 * acc) 0
  v * 256 ^ (32 * (a / 32) - 64 * (a / 64))

/-- Beats of an item on TQ (R213). -/
def TItem.beats (i : TItem) : Nat :=
  if i.hdr.cmd = Cmd.WRM then 1
  else if i.kind = 1 ∨ i.kind = 2 then linesOf i.hdr.address.toNat i.hdr.bcount.toNat else 1

/-- R213, R214: beat `j` of an item of the target-request queue. -/
def TItem.beat (i : TItem) (tag j : Nat) : TqBeat :=
  let a := i.hdr.address.toNat
  let base : TqBeat := { kind := i.kind, src := i.hdr.src, last := decide (i.beats ≤ j + 1) }
  let req : TqBeat := { base with priv := BitVec.ofNat 2 (effPriv i.hdr.src i.hdr.priv), addr := i.hdr.address
                                  size := i.hdr.bcount.toNat }
  if i.kind = 0 then { req with tag := tag }
  else if i.hdr.cmd = Cmd.WRM then
    { req with size := 64, be := ((i.data.getD 0 0).setWidth 64)
               data := BitVec.ofNat 512 ((i.data.getD 1 0).toNat + (i.data.getD 2 0).toNat * 2 ^ 256) }
  else if i.kind = 1 ∨ i.kind = 2 then
    { req with tag := if i.kind = 2 then tag else 0, be := beOf a i.hdr.bcount.toNat j
               data := BitVec.ofNat 512 (i.linesData / 2 ^ (512 * j)) }
  else if i.kind = 3 then { base with tag := tag }
  else { base with data := (i.data.getD 0 0).setWidth 512 }

/-- R213: the beat of a STAGED or PRELOAD item. -/
def StkEntry.beat (e : StkEntry) (kind tag : Nat) : TqBeat :=
  { kind := kind, tag := tag, src := e.hdr.src, priv := BitVec.ofNat 2 (effPriv e.hdr.src e.hdr.priv)
    addr := BitVec.ofNat 64 (64 * (e.hdr.address.toNat / 64)), size := 64, set := e.set, be := e.mask, data := e.data }

/-- What the NI can offer at an edge (R144). -/
inductive Offer where
  | chain (k : Nat) (x : GArrival)
  | state (k : Nat) (v : SlotVal)
  | notice (k : Nat) (v : SlotVal)
  | staged (e : StkEntry)
  | preload (e : StkEntry)
  | cancel (n : Nat)
  | target (i : TItem)
  deriving DecidableEq, Repr

/-- R102, R112: the chain flit whose presentation is due, the earliest arrival first. -/
def State.offerChain (s : State) (p : Nat) : Option Offer :=
  let heads := (List.range 64).filterMap (fun k => ((s.dstQueue p k).head?).map (fun x => (k, x)))
  ((heads.filter (fun e => decide (e.2.at' + 9 ≤ s.datum))).foldl (fun best e =>
    match best with
    | none => some e
    | some b => if e.2.at' < b.2.at' then some e else some b) none).map (fun e => Offer.chain e.1 e.2)

/-- Owed cancels of an NI, oldest first (R146). -/
def State.owed (s : State) (p : Nat) : List Nat := tget [] s.stk.cancels p

/-- R144: order of staged writes: by effective T, then set. -/
def State.stagedFirst (s : State) (p : Nat) : Option StkEntry :=
  let ok := (List.range 8).filter (fun n => s.blkSt p n = BlkSt.APPLYING && !(s.owed p).contains n && !(s.entriesOf p n).isEmpty)
  let n := ok.foldl (fun best n =>
    match best with
    | none => some n
    | some b => if (s.blk p n).t < (s.blk p b).t then some n else some b) none
  n.bind (fun n => (s.entriesOf p n).head?)

/-- R146, R217: the next entry of a PRELOAD set in EXPECT, for a unit that declares PRELOAD. -/
def State.preloadFirst (s : State) (p : Nat) : Option StkEntry :=
  (tget [] s.stk.ents p).find? (fun e => s.cap p 3 && !e.shown && s.blkSt p e.set = BlkSt.EXPECT &&
    s.expF p e.set F.NI_STK_EXP_PRELOAD = 1 && s.expF p e.set F.NI_STK_EXP_PART = 1 &&
    !(s.owed p).contains e.set)

/-- R144 rank 5, R214, R215: the head of the target-request queue, in progress or startable; none while it is held for want
of an outstanding item, or behind a staged write. -/
def State.offerTarget (s : State) (p : Nat) : Option Offer :=
  match (s.ni p).tq with
  | [] => none
  | i :: _ =>
    if tsBearing i.kind && !s.tsFree p then none
    else if (s.stagedFirst p).isSome then none
    else some (.target i)

/-- R144 ranks 3 to 5. -/
def State.offerLow (s : State) (p : Nat) : Option Offer :=
  let free := s.tsFree p
  match (if free then s.stagedFirst p else none) with
  | some e => some (.staged e)
  | none =>
    match s.owed p with
    | n :: _ => some (.cancel n)
    | [] =>
      match (if free then s.preloadFirst p else none) with
      | some e => some (.preload e)
      | none => s.offerTarget p

/-- NOTIFY asks for a notice (R122). -/
def State.noticed (s : State) (p k : Nat) : Bool := s.fld (A.NI_STATE_CFG p k) F.NI_STATE_CFG_NOTIFY % 2 = 1

/-- R144, R121, R122, R208: what the NI offers at this edge, with the silent discards and the selection that happen
whether or not its beat transfers. -/
def State.choose (s : State) (p : Nat) : State × Option Offer :=
  match s.offerChain p with
  | some o => (s, some o)
  | none =>
    match s.selected p with
    | none => (s, s.offerLow p)
    | some (k, v) =>
      if s.fresh p k v then (s, some (.state k v))
      else if s.noticed p k then (s, some (.notice k v))
      else
        let t := s.staleDiscard p k v
        (t, t.offerLow p)

/-- The beat of an offer. A stale notice carries the discarded value's MARK1 as a delivery would (DESIGN CHOICE, log 72:
R122 lists slot number, STAMP, STALE and a zero VALUE and is silent on TQ_MARK). -/
def State.offerBeat (s : State) (p : Nat) (o : Offer) : TqBeat :=
  let tag := s.freeTqTag p
  match o with
  | .chain _ x => { kind := 7, chain := x.g.chain, seq := x.g.seq, stamp := x.g.stamp.setWidth 32
                    mark := x.g.flags.setWidth 2, data := x.g.payload.setWidth 512 }
  | .state k v => { kind := 8, slot := k, stamp := BitVec.ofNat 32 v.stamp, mark := if v.mark then 2 else 0, data := v.value }
  | .notice k v => { kind := 8, slot := k, stamp := BitVec.ofNat 32 v.stamp, mark := if v.mark then 2 else 0, stale := true }
  | .staged e => e.beat 4 tag
  | .preload e => e.beat 5 tag
  | .cancel n => { kind := 6, set := n }
  | .target i => i.beat (if (s.ni p).tqBeat = 0 then tag else (s.ni p).tqTag) (s.ni p).tqBeat

/-- A TS-bearing item becomes outstanding under a tag. -/
def State.addOut (s : State) (p tag : Nat) (i : TItem) : State :=
  s.modNi p (fun n => { n with tout := tset none n.tout tag (some { item := i, at' := s.datum }) })

/-- R146: the entry has been presented. -/
def State.showEntry (s : State) (p : Nat) (e : StkEntry) : State :=
  let es := tget [] s.stk.ents p
  let i := es.findIdx (· = e)
  ({ s with stk := { s.stk with ents := tset [] s.stk.ents p (es.set i { e with shown := true }) } }).modBlk p e.set
    (fun b => { b with shown := true })

/-- The item of a staged entry. -/
def StkEntry.item (e : StkEntry) (kind : Nat) : TItem :=
  { kind := kind, hdr := e.hdr, set := e.set, mask := e.mask, line := e.data }

/-- The offer's beat transfers: what the presentation does (R102, R121, R122, R144 to R146, R214, R215). -/
def State.transfer (s : State) (p : Nat) (o : Offer) : State :=
  let tag := s.freeTqTag p
  match o with
  | .chain k _ => s.setDstQueue p k (s.dstQueue p k).tail
  | .state k v => (s.slotLeaves p k v SlotSt.DELIVERED).wrap (A.NI_STATE_STATUS p) F.NI_STATE_STATUS_DELIVERED
  | .notice k v => s.staleDiscard p k v
  | .staged e =>
    let s := s.setEnts p ((tget [] s.stk.ents p).erase e)
    let s := s.writeMons p (64 * (e.hdr.address.toNat / 64)) 64
    (s.modBlk p e.set (fun b => { b with owed := b.owed + 1 })).addOut p tag (e.item 4)
  | .preload e => (s.showEntry p e).addOut p tag (e.item 5)
  | .cancel n => { s with stk := { s.stk with cancels := tset [] s.stk.cancels p ((s.owed p).erase n) } }
  | .target i =>
    let j := (s.ni p).tqBeat
    let tag := if j = 0 then tag else (s.ni p).tqTag
    if i.beats ≤ j + 1 then
      let s := s.modNi p (fun n => { n with tq := n.tq.tail, tqBeat := 0 })
      if tsBearing i.kind then s.addOut p tag i else s
    else s.modNi p (fun n => { n with tqBeat := j + 1, tqTag := tag })

/-- TQ_CPAR of a beat (R205). -/
def TqBeat.cpar (b : TqBeat) : Bool :=
  [(b.kind, 4), (b.tag, 8), (b.src.toNat, 18), (b.priv.toNat, 2), (b.addr.toNat, 64), (b.size, 10), (b.set, 3),
   (b.chain.toNat, 14), (b.seq.toNat, 6), (b.slot, 8), (b.stamp.toNat, 32), (b.mark.toNat, 2), (b.stale.toNat, 1),
   (b.last.toNat, 1), (b.be.toNat, 64)].foldl (fun a e => a != oddOnes e.1 e.2) false

/-- TQ_OFFER (R144, R208): at an edge the NI offers one beat; it transfers when the unit is ready. No offer is made
while PWR_UP is 0, after PWR_QREQ has risen, or before the port is ENABLED (R223, R224). -/
def execTqOffer (p : Fin 144) (ready : Bool) (s : State) : Out :=
  let p := p.val
  if s.datum % 2 ≠ 0 || !s.pwrUp p || s.bit (A.NI_PORT_STATUS p) F.NI_PORT_STATUS_QREQ || !s.enabled p ||
      decide (s.datum < (s.ni p).tqAt) then .next s
  else
    let s := s.modNi p (fun n => { n with tqAt := s.datum + 1 })
    match s.choose p with
    | (s, none) => .next (s.modNi p (fun n => { n with tqOut := none }))
    | (s, some o) =>
      let b := s.offerBeat p o
      let s := s.modNi p (fun n => { n with tqOut := some b })
      if !ready then .next (s.ncnt p 4)
      else .next (if b.last then (s.transfer p o).ncnt p 3 else s.transfer p o)

/-! ### Answers on TS (R145, R216, R217, R226) -/

/-- R145, R454: an answer to a staged write has come or its item has ended. An answer other than OK is counted, and raises
FAULT in a block that is still APPLYING. The spec names no register for that count (DESIGN CHOICE, log 74: it is plain state of
the block, cleared by COLLECT). -/
def State.stagedEnd (s : State) (p n : Nat) (code : BitVec 4) : State :=
  let s := if code = Code.OK then s
    else
      let s := s.modBlk p n (fun b => { b with bad := b.bad + 1 })
      if s.blkSt p n = BlkSt.APPLYING then s.blkFault p n 7 else s
  let s := s.modBlk p n (fun b => { b with owed := b.owed - 1 })
  if s.blkSt p n = BlkSt.APPLYING ∧ (s.blk p n).owed = 0 ∧ (s.entriesOf p n).isEmpty then
    if s.setF p n F.NI_STK_SET_FAULT = 1 then { s with stk := { s.stk with leaving := s.stk.leaving ++ [(p, n)] } }
    else s.enterIdle p n
  else s

/-- R134, R138, R217: a preload entry has been acknowledged, or not. One acknowledged with OK is free; one whose entry has
been discarded meanwhile ends without effect. -/
def State.preloadEnd (s : State) (p : Nat) (i : TItem) (code : BitVec 4) : State :=
  let e : StkEntry := { set := i.set, hdr := i.hdr, mask := i.mask, data := i.line, shown := true }
  if s.blkSt p i.set ≠ BlkSt.EXPECT ∨ !(tget [] s.stk.ents p).contains e then s
  else if code = Code.OK then
    ((s.setEnts p ((tget [] s.stk.ents p).erase e)).wrap (setRegOf p i.set) F.NI_STK_SET_DONE).refresh p i.set
  else s.blkFault p i.set 5

/-- R213, R187: an outstanding item ends with a status and, for a read, its lines as one number. -/
def State.endItem (s : State) (p tag : Nat) (i : TItem) (code : BitVec 4) (lines : Nat) : State :=
  let s := s.modNi p (fun n => { n with tout := tset none n.tout tag none
                                        tsCur := if n.tsCur = some tag then none else n.tsCur })
  let a := i.hdr.address.toNat
  let n := i.hdr.bcount.toNat
  if i.kind = 0 then
    s.respond p i.hdr Cmd.RDR code
      (if code = Code.OK then rangeUnits (lines / 256 ^ (a % 64) % 256 ^ n) a n else [])
  else if i.kind = 2 then s.respond p i.hdr Cmd.WRR code []
  else if i.kind = 3 then s.respond p i.hdr Cmd.BRR code []
  else if i.kind = 4 then s.stagedEnd p i.set code
  else s.preloadEnd p i code

/-- R226 code 0x8: an answer ends TGTERR before its LAST beat; its later beats are discarded. -/
def State.cutAnswer (s : State) (p tag : Nat) (x : TOut) (more : Bool) : State :=
  let s := (s.portErr p 8 tag).endItem p tag x.item Code.TGTERR 0
  if more then s.modNi p (fun n => { n with tsDrop := n.tsDrop ++ [tag] }) else s

/-- The lines of a READ item (R216). -/
def TItem.lines (i : TItem) : Nat := linesOf i.hdr.address.toNat i.hdr.bcount.toNat

/-- Lines as one number, the first lowest. -/
def beatsNat (bs : List (BitVec 512)) : Nat := bs.foldr (fun b acc => b.toNat + 2 ^ 512 * acc) 0

/-- R216, R226: a beat of the answer to an outstanding item. -/
def State.tsBeat (s : State) (p : Nat) (x : TOut) (b : TsBeat) : State :=
  let tag := b.tag.toNat
  let odd := b.status ≠ Code.OK ∧ b.status ≠ Code.TGTERR ∧ b.status ≠ Code.DENY
  let s := if odd then s.portErr p 7 tag else s
  let code := if odd then Code.TGTERR else b.status
  if x.item.kind ≠ 0 then
    if b.last then s.endItem p tag x.item code 0 else s.cutAnswer p tag x true
  else
    let first := x.beats.isEmpty
    let x := { x with beats := x.beats ++ [b.data], status := if x.status = Code.OK then code else x.status }
    let m := x.item.lines
    if b.last then
      if x.beats.length = m ∨ (first ∧ code ≠ Code.OK) then s.endItem p tag x.item x.status (beatsNat x.beats)
      else s.cutAnswer p tag x false
    else if m ≤ x.beats.length then s.cutAnswer p tag x true
    else s.modNi p (fun n => { n with tout := tset none n.tout tag (some x), tsCur := some tag })

/-- R226 code 0x8: a beat with another tag interrupts the answer in progress. -/
def State.interrupt (s : State) (p tag : Nat) : State :=
  match (s.ni p).tsCur with
  | none => s
  | some c =>
    if c = tag then s
    else
      match tget none (s.ni p).tout c with
      | some x => s.cutAnswer p c x true
      | none => s

/-- TS_CPAR is wrong on a beat (R205, R226 code 0x5). -/
def tsBad (b : TsBeat) : Bool :=
  b.cpar != [(b.tag.toNat, 8), (b.status.toNat, 4), (b.last.toNat, 1)].foldl (fun a e => a != oddOnes e.1 e.2) false

/-- TS_READY: low only while the response builder waits for a fill (R216). -/
def State.tsReady (s : State) (p : Nat) : Bool := (s.ni p).rsWait.isNone

/-- TS_ANSWER (R216, R226): a beat of the unit on TS. -/
def execTsAnswer (p : Fin 144) (b : TsBeat) (s : State) : Out :=
  let p := p.val
  if s.datum % 2 ≠ 0 || !s.pwrUp p || !s.tsReady p || decide (s.datum < (s.ni p).tsAt) then .next s
  else
    let s := (s.modNi p (fun n => { n with tsAt := s.datum + 1 })).ncnt p 5
    let tag := b.tag.toNat
    if tsBad b then .next (s.portErr p 5 tag)
    else
      let s := s.interrupt p tag
      if (s.ni p).tsDrop.contains tag then
        .next (if b.last then s.modNi p (fun n => { n with tsDrop := n.tsDrop.erase tag }) else s)
      else
        match tget none (s.ni p).tout tag with
        | none => .next (s.portErr p 6 tag)
        | some x => .next (s.tsBeat p x b)

/-! ### Responses (R280, R281, R196) -/

/-- Unit address of a packet of an access: target and unit addresses agree in their low 12 bits (R175). -/
def unitAddr (a : UAcc) (h : Hdr) : Nat := a.addr + (h.address.toNat + 4096 - a.addr % 4096) % 4096

/-- R212: the bytes of a read's answer by unit address. -/
def readBytes (a : UAcc) (h : Hdr) (q : Pkt) : List (Nat × Byte) :=
  let off := h.address.toNat % 32
  ((q.bytes.drop off).take h.bcount.toNat).mapIdx (fun i b => (unitAddr a h + i, b))

/-- R196: an RDX of the unit has been answered EXNACK: it waits and retries, or ends. -/
def State.exnack (s : State) (p : Nat) (r : NiReq) (k : Nat) (src : Gid) : State :=
  let s := (s.sat (A.NI_EXCL_STATUS p) F.NI_EXCL_STATUS_NACK_RCVD).ncnt p 19
  let t := r.hdr.tag.toNat
  let s := s.outDone p r.hdr.trav.toNat
  if s.fld (A.NI_EXCL_CTL p) F.NI_EXCL_CTL_MAX_RETRY ≤ r.nacks + 1 then
    (s.setReq p t none).accEnd p k [] [] false (some ⟨Code.EXNACK, r.hdr, byOf r.hdr.dest src⟩)
  else
    s.setReq p t (some { r with nacks := r.nacks + 1, start := none, resv := 0
                                retryAt := some (s.datum + 16 * 2 ^ min r.nacks 10) })

/-- R280: a response that matches a request of an access ends it. -/
def State.endByResponse (s : State) (p : Nat) (r : NiReq) (k : Nat) (q : Pkt) : State :=
  let code := if q.fails then Code.CRC else endStatus q.h.status
  let t := r.hdr.tag.toNat
  if code = Code.EXNACK ∧ r.hdr.cmd = Cmd.RDX then s.exnack p r k q.h.src
  else
    let s := (s.setReq p t none).outDone p r.hdr.trav.toNat
    if code ≠ Code.OK then
      let who := if q.fails then 0 else byOf r.hdr.dest q.h.src
      s.accEnd p k [] [] false (some ⟨code, r.hdr, who⟩)
    else
      match s.acc p k with
      | none => s
      | some a =>
        if respNeed r.hdr = 0 then s.accEnd p k [] [] (q.h.cmd = Cmd.WRXF) none
        else
          let last := (unitAddr a r.hdr + r.hdr.bcount.toNat - 1) / 64
          s.accEnd p k (readBytes a r.hdr q) [(last, r.resv)] false none

/-- R185, R186, R82: a BRR ends a port or drain barrier of the NI. -/
def State.brr (s : State) (p : Nat) (q : Pkt) : State :=
  let t := q.h.tag.toNat
  if (tget none (s.ni p).quar (4096 + t)).isSome then s.sat (A.NI_TIMEOUT p) F.NI_TIMEOUT_LATE_RSP
  else
    match s.bar p t with
    | none => s.sat (A.NI_SINK p) F.NI_SINK_RSP_ABS
    | some b =>
      let code := if q.fails then Code.CRC else endStatus q.h.status
      let who := if q.fails then 0 else byOf b.hdr.dest q.h.src
      match b.kind with
      | .drainBar _ => s.drainBarEnd p t (code ≠ Code.OK)
      | _ => (s.portBarEnd p t (if code = Code.OK then none else some ⟨code, b.hdr, who⟩)).outDone p b.hdr.trav.toNat

/-- R280, R281, R452: a response that has reached port `p`. -/
def State.takeRsp (s : State) (p : Nat) (q : Pkt) : State :=
  let t := q.h.tag.toNat
  if q.h.dest ≠ s.gid p then s.turnAway p Code.NOROUTE q
  else if q.h.cmd = Cmd.BRR then s.brr p q
  else if (tget none (s.ni p).quar t).isSome then s.sat (A.NI_TIMEOUT p) F.NI_TIMEOUT_LATE_RSP
  else
    match s.req p t with
    | none => s.sat (A.NI_SINK p) F.NI_SINK_RSP_ABS
    | some r =>
      if r.start.isNone || !Cmd.answers r.hdr.cmd q.h.cmd then s.sat (A.NI_SINK p) F.NI_SINK_RSP_ABS
      else
        match r.kind with
        | .access k => s.endByResponse p r k q
        | _ => s.sat (A.NI_SINK p) F.NI_SINK_RSP_ABS

/-- A response on the MGT type that is no fill answer. -/
def mgtResponse (q : Pkt) : Bool := !mgtMisfit q && !fillAnswer false q && !fillAnswer true q

/-- RESPONSE_RECEIVE (R280): the oldest response that has arrived is taken. -/
def execResponseReceive (p : Fin 144) (s : State) : Out :=
  let p := p.val
  match (s.ni p).rxRsp, (s.ni p).rxMgt.find? mgtResponse with
  | q :: rest, _ => .next (((s.modNi p (fun n => { n with rxRsp := rest })).takeRsp p q).pump p)
  | [], some q => .next (((s.modNi p (fun n => { n with rxMgt := n.rxMgt.erase q })).takeRsp p q).pump p)
  | [], none => .next s

/-- RDX_RETRY (R196): when its wait ends an EXNACKed RDX is built again and joins its class queue. -/
def execRdxRetry (p : Fin 144) (t : BitVec 12) (s : State) : Out :=
  let p := p.val
  match s.req p t.toNat with
  | none => .next s
  | some r =>
    match r.retryAt with
    | none => .next s
    | some d =>
      if s.datum < d then .next s
      else .next ((s.setReq p t.toNat (some { r with retryAt := none })).buildReqs p
        [{ pkt := { h := r.hdr }, kind := r.kind, acc := r.acc, qos := r.qos }])

/-- R281: a tag enters quarantine; key 4,096 on for a barrier's own tag. -/
def State.quarantine (s : State) (p key : Nat) : State :=
  let until' := s.datum + s.fld (A.NI_TIMEOUT p) F.NI_TIMEOUT_QUAR * 1024
  s.modNi p (fun n => { n with quar := tset none n.quar key (some until') })

/-- R280: a response to the request has come, in this cycle or before, and is still to be taken. -/
def State.rspHere (s : State) (p key : Nat) (r : NiReq) : Bool :=
  ((s.ni p).rxRsp ++ (s.ni p).rxMgt).any (fun q => q.h.tag.toNat = key % 4096 && Cmd.answers r.hdr.cmd q.h.cmd &&
    q.h.dest = s.gid p)

/-- REQUEST_TIMEOUT (R281): the timer of a request, or (from 4,096 on) of a port or drain barrier, expires. A response that has come
in the same cycle ends the request instead (R280). -/
def execRequestTimeout (p : Fin 144) (t : Fin 8192) (s : State) : Out :=
  let p := p.val
  match (if t.val < 4096 then s.req p t.val else s.bar p (t.val - 4096)) with
  | none => .next s
  | some r =>
    if r.start.isNone || decide (s.datum < r.expire) || s.rspHere p t.val r then .next s
    else .next (((s.quarantine p t.val).reqFail p r.kind r.hdr Code.TIMEOUT 0).pump p)

/-- TAG_QUARANTINE_END (R281): the tag is free again. -/
def execTagQuarantineEnd (p : Fin 144) (t : Fin 8192) (s : State) : Out :=
  let p := p.val
  match tget none (s.ni p).quar t.val with
  | none => .next s
  | some d =>
    if s.datum < d then .next s
    else .next ((s.modNi p (fun n => { n with quar := tset none n.quar t.val none })).pump p)

end Sys2Proof.Machine
end

