-- ==== Sys2Proof/Machine/Ports.lean ====
section
/-!
DEFINITION. Machine/Ports.lean: port states (R286 to R290), the power handshake and the domain (R223 to R225, R335,
R336), the descriptor (R220 to R222), a unit that hangs (R226), event lines and event messages (R219, R299).
-/
namespace Sys2Proof.Machine

/-! Port states (R286). -/
namespace PortStt
abbrev DISABLED : Nat := 0
abbrev ENABLED : Nat := 1
abbrev QUIESCE : Nat := 2
abbrev ISOLATED : Nat := 3
abbrev DISABLING : Nat := 4
end PortStt

/-- STATE of a port's NI written; PD_REQ follows (R335). -/
def State.toPort (s : State) (p v : Nat) : State := (s.setFld (A.NI_CTL p) F.NI_CTL_STATE v).domRefresh p

/-! ### Ending what the target side holds (R288, R289) -/

/-- A queued or outstanding item ended by the NI itself with a code: a request is answered and counted, a posted packet
dropped. Staged and preload items are ended by their set. -/
def State.endByNi (s : State) (p : Nat) (i : TItem) (code : BitVec 4) : State :=
  if i.kind = 4 ∨ i.kind = 5 then s
  else s.turnAway p code { h := i.hdr, units := i.data }

/-- R288: every item of the target-request queue not yet presented ends with a code. -/
def State.endQueue (s : State) (p : Nat) (code : BitVec 4) : State :=
  let q := (s.ni p).tq
  q.foldl (fun s i => s.endByNi p i code) (s.modNi p (fun n => { n with tq := [], tqBeat := 0 }))

/-- Every outstanding TS-bearing item ends with a code (R288, R289). -/
def State.endOut (s : State) (p : Nat) (code : BitVec 4) : State :=
  let q := (s.ni p).tout.filterMap (fun e => e.2)
  q.foldl (fun s x => s.endByNi p x.item code) (s.modNi p (fun n => { n with tout := [], tsCur := none, tsDrop := [] }))

/-- The effects of R125, R138, R194 and the loss of arrived PORT-mode flits, shared by R288 and R289. -/
def State.portLeaves (s : State) (p : Nat) : State :=
  (((s.emptySlots p).portDownStakes p).clearMons p).dropAllDst p

/-! ### Quiesce, disable, isolate (R288, R289) -/

/-- The unit's outputs are ignored and PWR_UP is 0 (R206). A descriptor read goes on until its own limit (R220). -/
def State.powerOff (s : State) (p : Nat) : State :=
  let a := A.NI_PORT_STATUS p
  ((s.setFld a F.NI_PORT_STATUS_PWR_UP 0).setFld a F.NI_PORT_STATUS_QREQ 0).modNi p (fun n => { n with
    evtRaise := 0, qreqAt := none, isOut := none, tqOut := none, iqPart := none, iqHeld := none })

/-- R288: entry into QUIESCE or DISABLING. -/
def State.goingDown (s : State) (p st : Nat) : State :=
  let s := (s.toPort p st).endQueue p (if st = PortStt.QUIESCE then Code.PDOWN else Code.DEAD)
  let s := (s.portLeaves p).flush p (fun _ => true)
  let s := (s.setFld (A.NI_PORT_STATUS p) F.NI_PORT_STATUS_QREQ 1).modNi p (fun n => { n with
    qreqAt := some s.datum, tqOut := none })
  if st = PortStt.QUIESCE then s.mbxDown p else s

/-- R288: a port reaches DISABLED at the end of a disable. -/
def State.disabled (s : State) (p : Nat) : State :=
  let s := (s.toPort p PortStt.DISABLED).setFld (A.NI_CTL p) F.NI_CTL_DISABLE_DONE 1
  ((s.niCause p 10).breakLocks p).mbxLose p

/-- R288: PWR_DOWN_OK is signalled. -/
def State.downOk (s : State) (p : Nat) : State :=
  ((s.setFld (A.NI_CTL p) F.NI_CTL_PWR_DOWN_OK 1).setFld (A.NI_DOM p) F.NI_DOM_DOM_ON 0 |>.domRefresh p).niCause p 11

/-- R289: a packet of the unit that has not started is discarded with isolation: its tag and its drain count go, and
nothing is presented. -/
def State.discardOut (s : State) (p : Nat) (o : OutPkt) (built : Bool) : State :=
  let t := o.pkt.h.trav.toNat
  let s := if built then s.outDone p t else s
  match o.kind with
  | .access k =>
    let s := if built then s.setReq p o.pkt.h.tag.toNat none else s
    match s.acc p k with
    | none => s
    | some a => if a.left ≤ 1 then s.setAcc p k none else s.setAcc p k (some { a with left := a.left - 1 })
  | .posted (some k) =>
    match s.acc p k with
    | none => s
    | some a => if a.left ≤ 1 then s.setAcc p k none else s.setAcc p k (some { a with left := a.left - 1 })
  | .portBar t => s.modNi p (fun n => { n with
      bars := tset none n.bars t none
      barrs := n.barrs.map (fun b => { b with wait := b.wait.erase t }) })
  | _ => s

/-- A packet that isolation discards: the unit's class-path traffic, but no drain barrier and no MGT packet. -/
def unitClassPath (o : OutPkt) : Bool :=
  (match o.kind with
   | .access _ => vcTypeOf o.pkt.h.cmd ≠ .mgt
   | .posted _ => true
   | .portBar _ => true
   | _ => false)

/-- R289: the unit's class-path packets that have not started, its barriers and its answers are discarded. A fill that one of
them waits for goes on until it ends (R73, R81). -/
def State.discardUnit (s : State) (p : Nat) : State :=
  let n := s.ni p
  let queued := (s.unstarted p).filter unitClassPath ++ n.barQ
  let unbuilt := n.rqBuild.filter unitClassPath
  let s := (s.leavePath p unitClassPath).modNi p (fun n => { n with rqBuild := n.rqBuild.filter (fun o => !unitClassPath o) })
  let s := queued.foldl (fun s o => s.discardOut p o true) s
  let s := unbuilt.foldl (fun s o => s.discardOut p o false) s
  let s := s.modNi p (fun n => { n with barrs := (n.barrs.filter (fun b => !b.wait.isEmpty)).map (fun b => { b with todo := [], st := 2 }) })
  (s.ni p).isQ.foldl (fun s a => s.setAcc p a.tag none) (s.modNi p (fun n => { n with isQ := [] }))

/-- R289: isolation of port `p` with a cause (R290). -/
def State.isolate (s : State) (p cause : Nat) : State :=
  let was := s.niState p
  let okBefore := s.bit (A.NI_CTL p) F.NI_CTL_PWR_DOWN_OK
  let s := (s.toPort p PortStt.ISOLATED).setFld (A.NI_CTL p) F.NI_CTL_ISO_CAUSE cause
  let s := (s.powerOff p).portLeaves p
  let s := ((s.endOut p Code.DEAD).endQueue p Code.DEAD).setMerge p []
  let s := ((s.discardUnit p).dropAllSrc p).breakLocks p
  let s := (((s.mbxLose p).niCause p 0).raise 1364).gcnt 61
  let s := s.note 4 (p + 256 * cause) 0
  let s := if was = PortStt.QUIESCE ∧ !okBefore then s.downOk p else s
  s.pump p

/-- R286: CMD of NI_CTL: the moves the table allows; the present state's own command changes nothing. -/
def State.portCmd (s : State) (p cmd : Nat) : State × BitVec 4 :=
  let st := s.niState p
  let desc := s.fld (A.NI_PORT_STATUS p) F.NI_PORT_STATUS_DESC_STATE = 2
  if cmd = 0 then (s, Code.OK)
  else if cmd = 1 then
    if st = PortStt.ENABLED then (s, Code.OK)
    else if st = PortStt.DISABLED ∧ desc then
      ((s.toPort p PortStt.ENABLED).setFld (A.NI_CTL p) F.NI_CTL_DISABLE_DONE 0, Code.OK)
    else (s, Code.TGTERR)
  else if cmd = 2 then
    if st = PortStt.DISABLED ∨ st = PortStt.DISABLING then (s, Code.OK)
    else if st = PortStt.ENABLED then (s.goingDown p PortStt.DISABLING, Code.OK)
    else (s.disabled p, Code.OK)
  else if cmd = 3 then
    if st = PortStt.QUIESCE then (s, Code.OK)
    else if st = PortStt.ENABLED then (s.goingDown p PortStt.QUIESCE, Code.OK)
    else (s, Code.TGTERR)
  else if cmd = 4 then ((s.setFld (A.NI_DOM p) F.NI_DOM_DOM_ON 1).domRefresh p, Code.OK)
  else if cmd = 5 then
    if st = PortStt.ISOLATED then (s, Code.OK)
    else if st = PortStt.DISABLED then (s, Code.TGTERR)
    else (s.isolate p 1, Code.OK)
  else (s, Code.DENY)

/-- A write of NI_CTL (R286). -/
def State.writeNiCtl (s : State) (p : Nat) (r : Req) : State × BitVec 4 :=
  let a := A.NI_CTL p
  if !isFmp r && (reqFld r F.NI_CTL_CMD ≠ 0 || reqFld r F.NI_CTL_AUTO_ISO_HANG ≠ s.fld a F.NI_CTL_AUTO_ISO_HANG) then
    (s, Code.DENY)
  else
    match s.portCmd p (reqFld r F.NI_CTL_CMD) with
    | (t, c) => if c ≠ Code.OK then (s, c)
      else (t.setFld a F.NI_CTL_AUTO_ISO_HANG (reqFld r F.NI_CTL_AUTO_ISO_HANG), c)

/-- NI_ENABLE (R286): a write of NI_CTL is served. -/
def execNiEnable (p : Fin 144) (r : Req) (s : State) : Out :=
  .next (s.serve (A.NI_CTL p.val) r (·.writeNiCtl p.val r))
/-- NI_DISABLE (R288): a write of NI_CTL is served. -/
def execNiDisable (p : Fin 144) (r : Req) (s : State) : Out :=
  .next (s.serve (A.NI_CTL p.val) r (·.writeNiCtl p.val r))
/-- NI_QUIESCE (R288): a write of NI_CTL is served. -/
def execNiQuiesce (p : Fin 144) (r : Req) (s : State) : Out :=
  .next (s.serve (A.NI_CTL p.val) r (·.writeNiCtl p.val r))
/-- NI_RESUME (R288): a write of NI_CTL is served. -/
def execNiResume (p : Fin 144) (r : Req) (s : State) : Out :=
  .next (s.serve (A.NI_CTL p.val) r (·.writeNiCtl p.val r))
/-- NI_ISOLATE (R289): a write of NI_CTL is served. -/
def execNiIsolate (p : Fin 144) (r : Req) (s : State) : Out :=
  .next (s.serve (A.NI_CTL p.val) r (·.writeNiCtl p.val r))

/-- R87: the current traverse has a route from port `p` to key 240 and one back. -/
def State.reachable (s : State) (p : Nat) : Bool :=
  let t := s.fld A.GLB_TRAV_CTL F.NI_TRAV_CTL_CUR
  !noRoute (s.routeAt t p 240) && !noRoute (s.routeAt t 240 p)

/-- ISOLATE_NO_ROUTE (R290 cause 2): the FMP isolates a port that the current traverse no longer joins to key 240. -/
def execIsolateNoRoute (p : Fin 144) (s : State) : Out :=
  let p := p.val
  let st := s.niState p
  if (st = PortStt.ENABLED ∨ st = PortStt.QUIESCE ∨ st = PortStt.DISABLING) ∧ !s.reachable p then .next (s.isolate p 2)
  else .next s

/-! ### The power handshake (R223 to R225) -/

/-- PWR_UP_RAISE (R223): at the first edge at which the domain is up and the NI is not in QUIESCE, being disabled or
isolated. -/
def execPwrUpRaise (p : Fin 144) (s : State) : Out :=
  let p := p.val
  let a := A.NI_PORT_STATUS p
  let st := s.niState p
  if s.datum % 2 = 0 && !s.pwrUp p && s.bit (A.NI_DOM p) F.NI_DOM_ACK && (st = 0 || st = 1) then
    .next ((s.setFld a F.NI_PORT_STATUS_PWR_UP 1).modNi p (fun n => { n with iqShut := false }))
  else .next s

/-- PWR_QACK is sampled 1 with PWR_QREQ at 1 and no TS-bearing item outstanding: it is taken (R224 step 3, R226 code 0xA). -/
def State.qackTake (s : State) (p : Nat) : State :=
  let a := A.NI_PORT_STATUS p
  if s.bit a F.NI_PORT_STATUS_QACK && s.bit a F.NI_PORT_STATUS_QREQ && decide (s.tsOut p = 0) then
    s.modNi p (fun n => { n with iqShut := true })
  else s

/-- PWR_QACK (R204, R224, R226 code 0xA): PWR_QACK is sampled at an edge with a level, which QACK shows. A rise that must
be ignored counts once; the level is taken later if it still stands when nothing forbids it. -/
def execPwrQack (x : QackSample) (s : State) : Out :=
  let p := x.p.val
  let a := A.NI_PORT_STATUS p
  if !pclkEdge s.datum then .next s
  else
    let rise := x.level && !s.bit a F.NI_PORT_STATUS_QACK
    let s := s.setFld a F.NI_PORT_STATUS_QACK (if x.level then 1 else 0)
    let bad := !s.bit a F.NI_PORT_STATUS_QREQ || decide (0 < s.tsOut p)
    .next ((if rise && bad then s.portErr p 10 0 else s).qackTake p)

/-- R224 step 3: every request of the unit has ended and been answered. -/
def State.unitDone (s : State) (p : Nat) : Bool :=
  (s.ni p).isQ.isEmpty && (s.ni p).barrs.isEmpty && (s.ni p).accs.all (fun e => e.2.isNone)

/-- PORT_DOWN (R224 step 4, R288). -/
def execPortDown (p : Fin 144) (s : State) : Out :=
  let p := p.val
  let st := s.niState p
  if s.datum % 2 = 0 && s.bit (A.NI_PORT_STATUS p) F.NI_PORT_STATUS_QREQ && (s.ni p).iqShut && s.unitDone p then
    let s := s.powerOff p
    .next (if st = PortStt.QUIESCE then s.downOk p else if st = PortStt.DISABLING then s.disabled p else s)
  else .next s

/-- R225, R288: the handshake goes on without the acknowledgement; outstanding items are answered TIMEOUT. -/
def State.proceedLate (s : State) (p : Nat) : State :=
  (s.endOut p Code.TIMEOUT).modNi p (fun n => { n with iqShut := true })

/-- QACK_LATE (R225): no acknowledgement within QACK_LIMIT × 1,024 pclk. -/
def execQackLate (p : Fin 144) (s : State) : Out :=
  let p := p.val
  match (s.ni p).qreqAt with
  | none => .next s
  | some t =>
    if !pclkEdge s.datum || (s.ni p).iqShut || decide (s.datum < t + 2048 * s.fld (A.NI_PORT_CTL p) F.NI_PORT_CTL_QACK_LIMIT) then .next s
    else .next (((s.portErr p 11 0).niCause p 2).proceedLate p)

/-- UNIT_HANG (R226 code 0x9, R290): a TS-bearing item unanswered for TS_LIMIT × 64 pclk. -/
def execUnitHang (p : Fin 144) (t : BitVec 8) (s : State) : Out :=
  let p := p.val
  let t := t.toNat
  match tget none (s.ni p).tout t with
  | none => .next s
  | some x =>
    if s.datum < x.at' + 128 * s.fld (A.NI_PORT_CTL p) F.NI_PORT_CTL_TS_LIMIT then .next s
    else
      let s := (s.portErr p 9 t).niCause p 1
      let st := s.niState p
      if s.bit (A.NI_CTL p) F.NI_CTL_AUTO_ISO_HANG && (st = 1 || st = 2 || st = 4) then .next (s.isolate p 3)
      else if x.item.kind = 4 ∨ x.item.kind = 5 then .next (s.endItem p t x.item Code.TIMEOUT 0)
      else
        let cur (n : NiSt) : Option Nat := if n.tsCur = some t then none else n.tsCur
        let s := s.modNi p (fun n => { n with tout := tset none n.tout t none, tsCur := cur n })
        .next (s.endByNi p x.item Code.TIMEOUT)

/-! ### The domain (R335, R336) -/

/-- DOMAIN_RETURN (R336): a quiesced port whose domain is requested and reported up returns to ENABLED. -/
def execDomainReturn (p : Fin 144) (s : State) : Out :=
  let p := p.val
  if s.niState p = PortStt.QUIESCE && s.bit (A.NI_CTL p) F.NI_CTL_PWR_DOWN_OK && s.bit (A.NI_DOM p) F.NI_DOM_REQ &&
      s.bit (A.NI_DOM p) F.NI_DOM_ACK then
    .next ((s.setFld (A.NI_CTL p) F.NI_CTL_PWR_DOWN_OK 0).toPort p PortStt.ENABLED)
  else .next s

/-- PD_ACK_RISE (R336): the synchronised PD_ACK[p] rises: the domain is reported up. -/
def execPdAckRise (p : Fin 144) (s : State) : Out := .next (s.setFld (A.NI_DOM p.val) F.NI_DOM_ACK 1)

/-- PD_ACK_FALL (R336): the synchronised PD_ACK[p] falls; while PD_REQ[p] is 1 the domain is lost. -/
def execPdAckFall (p : Fin 144) (s : State) : Out :=
  let p := p.val
  let a := A.NI_DOM p
  if !s.bit a F.NI_DOM_ACK then .next s
  else
    let req := s.bit a F.NI_DOM_REQ
    let s := s.setFld a F.NI_DOM_ACK 0
    if !req then .next s
    else
      let s := s.sat a F.NI_DOM_LOSSES
      let st := s.niState p
      if st = PortStt.ENABLED ∨ st = PortStt.DISABLING then .next ((s.isolate p 4).niCause p 7)
      else if st = PortStt.QUIESCE ∧ !s.bit (A.NI_CTL p) F.NI_CTL_PWR_DOWN_OK then
        .next (((s.setFld (A.NI_PORT_STATUS p) F.NI_PORT_STATUS_PWR_UP 0).proceedLate p).niCause p 7)
      else .next s

/-! ### The descriptor (R220 to R222) -/

/-- R220: a write of NI_PORT_CTL: DESC_GO and the limits. -/
def State.writePortCtl (s : State) (p : Nat) (r : Req) : State × BitVec 4 :=
  let a := A.NI_PORT_CTL p
  let go := reqFld r F.NI_PORT_CTL_DESC_GO = 1
  let out := reqFld r F.NI_PORT_CTL_MAX_OUT
  if reqFld r F.NI_PORT_CTL_QACK_LIMIT = 0 ∨ reqFld r F.NI_PORT_CTL_TS_LIMIT = 0 ∨ out = 0 ∨ 256 < out then (s, Code.DENY)
  else
    match s.plainWrite a { r with data := F.NI_PORT_CTL_DESC_GO.put r.data 0 } with
    | (t, c) =>
      if c ≠ Code.OK then (s, c)
      else if !go then (t, c)
      else if !isFmp r || !s.pwrUp p || (s.ni p).desc.isSome || decide (0 < s.tsOut p) || (s.ni p).tqBeat ≠ 0 then
        (s, Code.DENY)
      else
        let st := A.NI_PORT_STATUS p
        (((t.setFld st F.NI_PORT_STATUS_DESC_STATE 1).setFld st F.NI_PORT_STATUS_DESC_FAIL 0).modNi p (fun n => { n with
          desc := some (0, roundUp (t.datum + 1) 2), descBuf := [] }), c)

/-- DESC_GO (R220): a write of NI_PORT_CTL is served. -/
def execDescGo (p : Fin 144) (r : Req) (s : State) : Out :=
  .next (s.serve (A.NI_PORT_CTL p.val) r (·.writePortCtl p.val r))

/-- Bytes of a descriptor. -/
def descBytes (bs : List (BitVec 512)) : List Byte :=
  bs.flatMap (fun b => (List.range 64).map (fun k => b.extractLsb' (8 * k) 8))

/-- Bytes [lo, hi] of a descriptor are all 0. -/
def zeroBytes (b : List Byte) (lo hi : Nat) : Bool := ((b.drop lo).take (hi + 1 - lo)).all (· = 0)

/-- R221: reserved bits of a chain request record are 0. -/
def recordOk (b : List Byte) (k : Nat) : Bool :=
  (b.getD (0x40 + 8 * k) 0).toNat < 4 && zeroBytes b (0x40 + 8 * k + 6) (0x40 + 8 * k + 7)

/-- R222: DESC_FAIL of a descriptor, 0 when it passes. -/
def descFail (b : List Byte) : Nat :=
  if crc32c (b.take 0xFC) ≠ BitVec.ofNat 32 (bytesNat ((b.drop 0xFC).take 4)) then 2
  else if bytesNat (b.take 4) ≠ 0x01000001 || 32 ≤ (b.getD 0x10 0).toNat || !zeroBytes b 0x11 0x17 || !zeroBytes b 0x1D 0x1D ||
      !zeroBytes b 0x21 0x21 || !zeroBytes b 0x24 0x3F || !zeroBytes b 0xF8 0xFB ||
      !(List.range 16).all (recordOk b) then 3
  else 0

/-- R220, R222: a descriptor read ends. -/
def State.descEnd (s : State) (p fail : Nat) : State :=
  let a := A.NI_PORT_STATUS p
  let s := (s.setFld a F.NI_PORT_STATUS_DESC_STATE (if fail = 0 then 2 else 3)).setFld a F.NI_PORT_STATUS_DESC_FAIL fail
  (s.modNi p (fun n => { n with desc := none, descBuf := [] })).niCause p 12

/-- DESC_BEAT (R220, R226 codes 0xC, 0xD): DESC_VALID is sampled 1 with `d` on TS_DATA; `ts`: TS_VALID was 1 at the
same edge. A beat at the first edge at which the unit samples DESC_REQ, earlier than R220 allows and in no row of R226, is ignored
(DESIGN CHOICE, log 74). -/
def execDescBeat (p : Fin 144) (d : BitVec 512) (ts : Bool) (s : State) : Out :=
  let p := p.val
  if s.datum % 2 ≠ 0 || !s.pwrUp p then .next s
  else
    let s := if ts then s.portErr p 13 0 else s
    match (s.ni p).desc with
    | none => .next (s.portErr p 12 0)
    | some (j, t) =>
      if s.datum < t then .next (s.portErr p 12 0)
      else if s.datum = t then .next s
      else
        let buf := (s.ni p).descBuf ++ [d]
        if j < 3 then
          .next (s.modNi p (fun n => { n with desc := some (j + 1, s.datum + 4), descBuf := buf }))
        else
          let b := descBytes buf
          let s := (List.range 32).foldl (fun s k =>
            s.wr (A.NI_DESC p k) (BitVec.ofNat 64 (bytesNat ((b.drop (8 * k)).take 8)))) s
          .next (s.descEnd p (descFail b))

/-- DESC_TIMEOUT (R220): no DESC_VALID within 1,024 pclk of DESC_REQ rising. -/
def execDescTimeout (p : Fin 144) (s : State) : Out :=
  let p := p.val
  match (s.ni p).desc with
  | none => .next s
  | some (_, t) => if s.datum < t + 2048 then .next s else .next (s.descEnd p 1)

/-! ### Event lines and messages (R219, R299) -/

/-- EVT_RAISE_CHANGE (R219, R297): the NI samples EVT_RAISE = `v` at an edge. -/
def execEvtRaiseChange (p : Fin 144) (v : BitVec 4) (s : State) : Out :=
  let p := p.val
  if s.datum % 2 ≠ 0 || !s.pwrUp p then .next s
  else
    let t := s.modNi p (fun n => { n with evtRaise := v })
    .next ((List.range 4).foldl (fun u j => if !s.srcLevel (4 * p + j) && t.srcLevel (4 * p + j) then u.raise (4 * p + j) else u) t)

/-- R299: the cause register of the block of a source. -/
def State.causeWord (s : State) (i : Nat) : Word :=
  if 960 ≤ i ∧ i < 1248 then s.rd (A.NI_EVT_CAUSE ((i - 960) / 2))
  else if 1248 ≤ i ∧ i < 1320 then s.rd (A.STN_EVT_CAUSE ((i - 1248) / 2))
  else if 1320 ≤ i ∧ i < 1344 then s.rd (A.FED_EVT_CAUSE ((i - 1320) / 2))
  else 0

/-- EVM_BUILD (R299): the aggregator builds the oldest queued event message, one every 16 fclk at most. -/
def execEvmBuild (s : State) : Out :=
  let ready := match s.glb.evmAt with
    | none => true
    | some t => decide (t + 16 ≤ s.datum)
  match s.glb.evmQ with
  | [] => .next s
  | (i, at') :: rest =>
    if !ready then .next s
    else
      let seq := s.fld A.EVT_STATUS F.EVT_STATUS_EVM_SEQ
      let s := { s with glb := { s.glb with evmQ := rest, evmAt := some s.datum } }
      let s := (s.setFld A.EVT_STATUS F.EVT_STATUS_EVM_QUEUE rest.length).wrap A.EVT_STATUS F.EVT_STATUS_EVM_SEQ
      let edge := s.fld (A.EVT_SRC_CFG i) F.EVT_SRC_CFG_MODE = 1
      let s := if edge || !s.srcLevel i then s.setPend i false else s
      let data := i + seq * 2 ^ 16 + at' % 2 ^ 64 * 2 ^ 64 + (s.causeWord i).toNat * 2 ^ 128
      let h : Hdr := { dest := BitVec.ofNat 18 (s.fld (A.EVT_SRC_CFG i) F.EVT_SRC_CFG_TARGET), cmd := Cmd.EVM, cls := 6
                       bcount := 32, address := BitVec.ofNat 64 i }
      .next ((s.gcnt 12).glbSend h [BitVec.ofNat 256 data])

end Sys2Proof.Machine
end

