-- ==== Sys2Proof/Machine/Fmp.lean ====
section
/-!
DEFINITION. Machine/Fmp.lean: how the FMP takes commands and answers them: messages (R245 to R250), DETAIL values (R251),
the checks of a command and their order (R252), kept commands (R253), tickets (R255, R256), privileges and modes (R257),
resources (R274), buffers (R250), and the hand-over of the running image (R276 to R278).
-/
namespace Sys2Proof.Machine

/-! ### Messages (R248, R249) -/

/-- Word `j` of a message (R248). -/
def msgWord (m : BitVec 512) (j : Nat) : Nat := (m.extractLsb' (64 * j) 64).toNat

/-- Bits [lo + n - 1:lo] of a word. -/
def bitsOf (x lo n : Nat) : Nat := x / 2 ^ lo % 2 ^ n

/-- OPCODE of a command. -/
def opcodeOf (m : BitVec 512) : Nat := msgWord m 0 % 256
/-- SEQ of a command. -/
def seqOf (m : BitVec 512) : Nat := bitsOf (msgWord m 0) 16 16
/-- The SET argument of R258. -/
def setArg (m : BitVec 512) : Nat := bitsOf (msgWord m 1) 8 8

/-- Eight words as a message. -/
def msgOfWords (ws : List Nat) : BitVec 512 :=
  BitVec.ofNat 512 ((ws.take 8).foldr (fun w n => w % 2 ^ 64 + 2 ^ 64 * n) 0)

/-! KIND of a message of the FMP (R249). -/
namespace Kind
abbrev REPLY : Nat := 0
abbrev COMPLETION : Nat := 1
abbrev NOTICE : Nat := 2
end Kind

/-- The outcome of a command: STATUS, DETAIL and the result words from W1 on (R249, R251). -/
structure Ans where
  status : BitVec 4 := 0
  detail : Nat := 0
  words : List Nat := []
  deriving DecidableEq, Repr

/-! The DETAIL values of R251 with the STATUS that goes with each. -/
namespace Ans
def ok (ws : List Nat := []) : Ans := { words := ws }
def badOp : Ans := ⟨Code.TGTERR, 0x01, []⟩
def badArg (ws : List Nat := []) : Ans := ⟨Code.TGTERR, 0x02, ws⟩
def noTicket : Ans := ⟨Code.TGTERR, 0x03, []⟩
def mode : Ans := ⟨Code.DENY, 0x04, []⟩
def conflict (t : Nat) : Ans := ⟨Code.DENY, 0x05, [t]⟩
def buffer (c : BitVec 4) (off : Nat) : Ans := ⟨c, 0x06, [off]⟩
def priv : Ans := ⟨Code.DENY, 0x07, []⟩
def unknownTicket : Ans := ⟨Code.TGTERR, 0x08, []⟩
def seqReuse : Ans := ⟨Code.TGTERR, 0x09, []⟩
def overrun : Ans := ⟨Code.TGTERR, 0x0A, []⟩
def setState : Ans := ⟨Code.DENY, 0x0B, []⟩
def lint (code idx : Nat) : Ans := ⟨Code.DENY, 0x0C, [code, idx]⟩
def platCheck (w idx : Nat) : Ans := ⟨Code.DENY, 0x0D, [w, idx]⟩
def notPrepared : Ans := ⟨Code.DENY, 0x0E, []⟩
def draining : Ans := ⟨Code.DENY, 0x0F, []⟩
def drainStall : Ans := ⟨Code.TIMEOUT, 0x10, []⟩
def aborted (reason : Nat) : Ans := ⟨if reason = 4 then Code.LATE else Code.TGTERR, 0x11, [reason]⟩
def inUse : Ans := ⟨Code.DENY, 0x12, []⟩
def noCancel : Ans := ⟨Code.DENY, 0x13, []⟩
def auth : Ans := ⟨Code.DENY, 0x14, []⟩
def rollback : Ans := ⟨Code.DENY, 0x15, []⟩
def unit (fail : Nat) (mismatch : Bool) : Ans := ⟨Code.DENY, 0x16, [fail + if mismatch then 256 else 0]⟩
def reverted : Ans := ⟨Code.TGTERR, 0x17, []⟩
def stateCfg (port idx : Nat) : Ans := ⟨Code.DENY, 0x18, [port, idx]⟩
def cancelled : Ans := ⟨Code.TGTERR, 0x19, []⟩
def mbxCfg (ch : Nat) : Ans := ⟨Code.DENY, 0x1A, [ch]⟩
def applyFault (result blk : Nat) : Ans := ⟨Code.TGTERR, 0x1B, [result * 16 + blk * 4096]⟩
end Ans

/-- A message of the FMP (R249). -/
def fmpMsg (op kind seq ticket : Nat) (a : Ans) : BitVec 512 :=
  msgOfWords ((op + kind * 2 ^ 8 + seq * 2 ^ 16 + a.status.toNat * 2 ^ 32 + a.detail * 2 ^ 40 + ticket * 2 ^ 48) :: a.words)

/-! ### Opcodes (R252, R257, R259 to R273) -/

/-- The rows of the mode table of R257; `handover` and `test` have one opcode each. -/
inductive OpGrp where
  | always | enum | notSafe | stake | test | handover
  deriving DecidableEq, Repr

/-- What the opcode tables say of an opcode: its value, the R mark, its class SLOW, its group, and the bits that its
arguments W1 to W7 may use (missing words: none). -/
structure OpInfo where
  op : Nat
  r : Bool
  slow : Bool
  grp : OpGrp
  args : List Nat := []
  deriving DecidableEq, Repr

/-- Bits of a buffer's words W6 and W7, after the bits of W1 to W5 (R250). -/
def withBuf (l : List Nat) : List Nat :=
  l ++ List.replicate (5 - l.length) 0 ++ [0xFFFFFFFF0003FFFF, 0xFFFFFFFFFFFFFFFF]

/-- A word all of whose bits are used. -/
abbrev anyWord : Nat := 0xFFFFFFFFFFFFFFFF

/-- General, enumeration and port opcodes (R259, R261). -/
def opsGeneral : List OpInfo := [
  ⟨0x00, true, false, .always, List.replicate 7 anyWord⟩, ⟨0x01, true, false, .always, []⟩,
  ⟨0x02, true, false, .always, [0xFF]⟩, ⟨0x03, false, false, .always, [0xFF]⟩, ⟨0x04, false, true, .always, [0xF]⟩,
  ⟨0x05, false, false, .notSafe, [0xFFFF, anyWord]⟩, ⟨0x06, false, false, .notSafe, [0xFF7F, anyWord, anyWord]⟩,
  ⟨0x07, false, false, .notSafe, [0xFF]⟩, ⟨0x08, false, true, .enum, withBuf []⟩, ⟨0x09, false, true, .enum, [1]⟩,
  ⟨0x0A, false, true, .notSafe, [0xFF]⟩, ⟨0x0B, false, true, .notSafe, [0xFF]⟩, ⟨0x0C, false, false, .always, [0xFF]⟩,
  ⟨0x0D, true, false, .always, [0xFF]⟩]

/-- Route, chain and plat opcodes (R262, R265). -/
def opsRoutes : List OpInfo := [
  ⟨0x10, false, true, .stake, withBuf []⟩, ⟨0x11, false, true, .stake, withBuf [3]⟩,
  ⟨0x12, true, false, .always, [0xFFFF03]⟩, ⟨0x13, false, true, .stake, [0xFF03, anyWord, 0xFFFFFFFF]⟩,
  ⟨0x14, false, true, .stake, []⟩, ⟨0x15, false, true, .stake, [1]⟩, ⟨0x16, false, true, .stake, withBuf [0xFF]⟩,
  ⟨0x17, false, false, .stake, [0x7FFF]⟩, ⟨0x18, false, true, .stake, withBuf []⟩,
  ⟨0x19, false, true, .stake, [0xFF00, anyWord, 0xFFFFFFFF]⟩, ⟨0x1A, false, false, .stake, [0xFFFFFFFFF]⟩,
  ⟨0x1B, true, true, .always, withBuf [0x7FF]⟩, ⟨0x1C, true, false, .always, [0x3FFF]⟩,
  ⟨0x1D, false, true, .stake, [0x3FFF]⟩]

/-- Stake, domain and observation opcodes (R267 to R269). -/
def opsStakes : List OpInfo := [
  ⟨0x20, true, false, .always, [7]⟩, ⟨0x21, false, true, .stake, withBuf [0xFF00]⟩, ⟨0x22, false, false, .stake, [7]⟩,
  ⟨0x28, false, true, .notSafe, [0xFF]⟩, ⟨0x29, false, true, .notSafe, [0xFF]⟩, ⟨0x2A, true, false, .always, [0xFF]⟩,
  ⟨0x30, false, true, .notSafe, [anyWord]⟩, ⟨0x31, true, true, .always, withBuf [0x1FFF, 0x1FFF]⟩,
  ⟨0x32, false, false, .notSafe, [0xFF, anyWord, anyWord]⟩, ⟨0x33, false, false, .notSafe, [0xFF, anyWord]⟩,
  ⟨0x34, true, true, .always, withBuf [anyWord]⟩, ⟨0x35, false, false, .notSafe, [0xFF, anyWord]⟩]

/-- Thermal, maintenance, firmware and journal opcodes (R270 to R273). -/
def opsUpkeep : List OpInfo := [
  ⟨0x38, false, false, .notSafe, [0xFF00FFFFFF]⟩, ⟨0x39, true, false, .always, []⟩, ⟨0x3A, false, false, .notSafe, [0x33F]⟩,
  ⟨0x40, false, true, .test, [0x1FFF]⟩, ⟨0x41, false, true, .stake, [0x3F]⟩, ⟨0x42, false, true, .stake, [0x3F]⟩,
  ⟨0x43, true, false, .always, [0x1FF]⟩, ⟨0x44, false, true, .stake, [0x3F]⟩, ⟨0x48, false, true, .notSafe, withBuf []⟩,
  ⟨0x49, false, true, .handover, [0, 0, 0xFFFFFFFF]⟩, ⟨0x4A, true, false, .always, []⟩, ⟨0x50, true, false, .always, []⟩,
  ⟨0x51, true, true, .always, withBuf [anyWord, 0xFFFF]⟩]

/-- Every opcode. -/
def opTable : List OpInfo := opsGeneral ++ opsRoutes ++ opsStakes ++ opsUpkeep

/-- The row of an opcode; none for a reserved one. -/
def opInfo (op : Nat) : Option OpInfo := opTable.find? (fun i => i.op = op)

/-- R257: the modes in which a group is accepted. -/
def OpGrp.accepts (g : OpGrp) (mode : Nat) : Bool :=
  match g with
  | .always => 2 ≤ mode && mode ≤ 7
  | .enum => mode = 2
  | .notSafe => 2 ≤ mode && mode ≤ 6
  | .stake => 2 ≤ mode && mode ≤ 5
  | .test => 3 ≤ mode && mode ≤ 6
  | .handover => 3 ≤ mode && mode ≤ 5

/-- R248, R252: no bit is set where the command requires 0. -/
def OpInfo.bitsOk (i : OpInfo) (m : BitVec 512) : Bool :=
  let w0 := if i.slow then 0xFFFF01FF else 0xFFFF00FF
  (msgWord m 0 ||| w0) = w0 &&
  (List.range 7).all (fun j => (msgWord m (j + 1) ||| i.args.getD j 0) = i.args.getD j 0)

/-- R250: a buffer's length and address. -/
def bufOk (m : BitVec 512) : Bool :=
  let len := bitsOf (msgWord m 6) 32 32
  len % 8 = 0 && decide (len ≤ 16777216) && msgWord m 7 % 64 = 0

/-- BUF_LEN (R250). -/
def bufLen (m : BitVec 512) : Nat := bitsOf (msgWord m 6) 32 32

/-- R252: the checks before an opcode's own: reserved bits, privilege, mode. -/
def State.fmpJudge (s : State) (i : OpInfo) (m : Msg) : Option Ans :=
  if !i.bitsOk m.data then some (.badArg)
  else if m.priv < (if i.r then 1 else 2) then some .priv
  else if !i.grp.accepts s.mode then some .mode
  else none

/-! ### Reply channels (R247) -/

/-- The tickets written, with the count that GLB_FMP_STATUS shows. -/
def State.setTickets (s : State) (q : List Tkt) : State :=
  { s with fmp := { s.fmp with tickets := q } }.setFld A.GLB_FMP_STATUS F.GLB_FMP_STATUS_TICKETS q.length

/-- R256: a COMPLETION has been placed: its ticket is freed. -/
def State.freeDone (s : State) (k : Nat) (m : BitVec 512) : State :=
  if bitsOf (msgWord m 0) 8 2 = Kind.COMPLETION then
    s.setTickets (s.fmp.tickets.filter (fun t =>
      !(t.num = bitsOf (msgWord m 0) 48 8 && t.pair = k && t.st = 2 && !t.quiet)))
  else s

/-- R247: a message is offered to channel 2k + 1; whether it must be held. One refused with DENY or DEAD is dropped: its
ticket, whose COMPLETION has not been placed, stays held (R256). -/
def State.offerMsg (s : State) (k : Nat) (m : BitVec 512) : State × Bool :=
  match s.mbxPut (2 * k + 1) (s.gid 240) 3 m with
  | (s, c) =>
    if c = Code.TGTERR ∨ c = Code.PDOWN ∨ c = Code.RETRY_PWR then (s, true)
    else (if c = Code.OK then s.freeDone k m else s, false)

/-- R247: a message for pair `k` is produced. When it is the first to be held, the commands in channel 2k are moved aside. -/
def State.placeMsg (s : State) (k : Nat) (m : BitVec 512) : State :=
  if !(s.pair k).held.isEmpty then s.modPair k (fun p => { p with held := p.held ++ [m] })
  else
    match s.offerMsg k m with
    | (s, true) => (s.modPair k (fun p => { p with held := [m] })).setAside k 4
    | (s, false) => s

/-- R247: the held messages are offered in order, until one is refused again. -/
def State.offerHeld (s : State) (k : Nat) : List (BitVec 512) → State
  | [] => s.modPair k (fun p => { p with held := [] })
  | m :: rest =>
    match s.offerMsg k m with
    | (s, true) => s.modPair k (fun p => { p with held := m :: rest })
    | (s, false) => s.offerHeld k rest

/-- R247: the commands that found the set-aside queue full are answered. -/
def State.answerSpill (s : State) (k : Nat) : State :=
  let l := (s.pair k).spill
  let s := s.modPair k (fun p => { p with spill := [] })
  l.foldl (fun s m => s.placeMsg k (fmpMsg (opcodeOf m.data) Kind.REPLY (seqOf m.data) 0 .overrun)) s

/-- REPLY_RETRY (R247): the FMP offers the held messages of pair `k` again. -/
def execReplyRetry (k : Fin 8) (s : State) : Out :=
  let k := k.val
  let q := (s.pair k).held
  if q.isEmpty then .next s
  else
    let s := s.offerHeld k q
    .next (if (s.pair k).held.isEmpty then s.answerSpill k else s)

/-! ### Resources (R274) -/

/-- A resource of R274. -/
inductive Res where
  | routes | plats | set7 | port (p : Nat) | station (s : Nat) | survey | firmware
  deriving DecidableEq, Repr

/-- R274: the resources that a command holds. -/
def resOf (m : BitVec 512) : List Res :=
  let w1 := msgWord m 1
  let set7 := if setArg m = 0xFF then [Res.set7] else []
  match opcodeOf m with
  | 0x10 => [.routes]
  | 0x11 => [.routes]
  | 0x13 => .routes :: set7
  | 0x14 => [.routes]
  | 0x15 => [.routes]
  | 0x16 => [.routes]
  | 0x09 => [.routes, .plats]
  | 0x41 => [.routes, .plats, .station (w1 % 64)]
  | 0x42 => [.routes, .plats, .station (w1 % 64)]
  | 0x18 => [.plats]
  | 0x19 => .plats :: set7
  | 0x44 => [.plats]
  | 0x0A => [.port (w1 % 256)]
  | 0x0B => [.port (w1 % 256)]
  | 0x28 => [.port (w1 % 256)]
  | 0x29 => [.port (w1 % 256)]
  | 0x40 => if w1 % 16 = 4 then [] else [.station (bitsOf w1 4 6)]
  | 0x30 => [.survey]
  | 0x31 => [.survey]
  | 0x48 => [.firmware]
  | 0x49 => [.firmware, .set7]
  | _ => []

/-- R274: opcodes that hold ALL. -/
def holdsAll (op : Nat) : Bool := op = 0x04 || op = 0x49

/-- Tickets whose work has not ended: they hold their resources. -/
def State.working (s : State) : List Tkt := s.fmp.tickets.filter (fun t => t.st ≠ 2)

/-- A ticket for which `f` holds is at work. -/
def State.anyTkt (s : State) (f : Tkt → Bool) : Bool := s.working.any f

/-- R274: a route-around holds ROUTES, until its drain stalls and the FMP stops (R85 step 5). -/
def State.aroundHolds (s : State) : Bool :=
  match s.fmp.aroundRun with
  | some (_, stalled) => !stalled
  | none => false

/-- R274: the conflict that a SLOW command meets: the ticket that holds what it needs, 0 for the FMP's own work. -/
def State.conflict (s : State) (m : BitVec 512) : Option Nat :=
  let need := resOf m
  match s.working.find? (fun t => (resOf t.cmd).any (fun r => need.contains r)) with
  | some t => some t.num
  | none =>
    if need.contains .routes && s.aroundHolds then some 0
    else
      match s.working.find? (fun t => holdsAll t.op) with
      | some t => some t.num
      | none =>
        if opcodeOf m = 0x49 then s.fmp.tickets.head?.map (·.num)
        else if holdsAll (opcodeOf m) then s.working.head?.map (·.num)
        else none

/-! ### Tickets (R255, R256) -/

/-- R256: the next ticket number. -/
def State.nextTicket (s : State) : Nat :=
  let free := fun n => s.fmp.tickets.all (fun t => t.num ≠ n)
  ((List.range 255).map (fun j => (s.fmp.lastTicket + j) % 255 + 1)).find? free |>.getD 1

/-- R256: the oldest QUIET ticket in state DONE, of one pair or of any. -/
def State.oldQuiet (s : State) (k : Option Nat) : Option Tkt :=
  s.fmp.tickets.find? (fun t => t.quiet && t.st = 2 && (k.isNone || k = some t.pair))

/-- R256: a place for one more ticket of pair `k`; none when no limit can be met. -/
def State.ticketRoom (s : State) (k : Nat) : Option State :=
  let own := (s.fmp.tickets.filter (fun t => t.pair = k)).length
  let s1 := if own < 16 then some s
    else (s.oldQuiet (some k)).map (fun t => s.setTickets (s.fmp.tickets.erase t))
  match s1 with
  | none => none
  | some s => if s.fmp.tickets.length < 64 then some s
    else (s.oldQuiet none).map (fun t => s.setTickets (s.fmp.tickets.erase t))

/-- A ticket replaced by itself as it now stands. -/
def State.putTkt (s : State) (t : Tkt) : State :=
  s.setTickets (s.fmp.tickets.map (fun x => if x.num = t.num then t else x))

/-- R255: the work of a ticket ends: its outcome, and its COMPLETION unless QUIET is set. -/
def State.endTkt (s : State) (t : Tkt) (a : Ans) : State :=
  let t := { t with st := 2, status := a.status, detail := a.detail, words := (a.words.take 7).map (BitVec.ofNat 64) }
  let s := s.putTkt t
  if t.quiet then s
  else
    let m := fmpMsg t.op Kind.COMPLETION t.seq t.num a
    let p := s.pair t.pair
    let s := if p.ticket = t.num && (p.last.map seqOf) = some t.seq then s.modPair t.pair (fun p => { p with comp := some m })
      else s
    s.placeMsg t.pair m

/-! ### Taking a command (R246, R252, R253) -/

/-- R276: the firmware advances HEARTBEAT. -/
def State.beat (s : State) : State :=
  { s.wrap A.GLB_FMP_STATUS F.GLB_FMP_STATUS_HEARTBEAT with fmp := { s.fmp with beatAt := s.datum } }

/-- R247: the command that the FMP takes next from pair `k`: the oldest set aside, else the head of channel 2k; none while
it does not serve or a message is held. -/
def State.fmpHead (s : State) (k : Nat) : Option Msg :=
  if s.fwState ≠ Fw.SERVING ∨ !(s.pair k).held.isEmpty then none
  else
    match (s.pair k).aside with
    | m :: _ => some m
    | [] => (s.msgs (2 * k)).head?

/-- R246: the pair that the FMP serves next: the first from the turn on that has a command for it. -/
def State.fmpNext (s : State) : Option Nat :=
  ((List.range 8).map (fun j => (s.fmp.turn + j) % 8)).find? (fun k => (s.fmpHead k).isSome)

/-- R246: that command is taken, and the turn passes to the next pair. -/
def State.fmpPop (s : State) (k : Nat) : State :=
  let s := { s with fmp := { s.fmp with turn := (k + 1) % 8 } }
  let s := match (s.pair k).aside with
    | _ :: q => s.modPair k (fun p => { p with aside := q })
    | [] => s.mbxPop (2 * k)
  (s.gcnt 14).beat

/-- R253: a command is kept with its REPLY and the ticket it took. -/
def State.keep (s : State) (k : Nat) (m reply : BitVec 512) (ticket : Nat) : State :=
  s.modPair k (fun p => { p with last := some m, reply := some reply, comp := none, ticket := ticket })

/-- The REPLY of a command is produced and kept. -/
def State.reply (s : State) (k : Nat) (m : BitVec 512) (ticket : Nat) (a : Ans) : State :=
  let r := fmpMsg (opcodeOf m) Kind.REPLY (seqOf m) ticket a
  (s.keep k m r ticket).placeMsg k r

/-- R253: the answer to a command whose SEQ repeats the kept one; none for any other. -/
def State.resend (s : State) (k : Nat) (m : BitVec 512) : Option State :=
  let p := s.pair k
  match p.last with
  | none => none
  | some l =>
    if seqOf l ≠ seqOf m then none
    else if l ≠ m then some (s.placeMsg k (fmpMsg (opcodeOf m) Kind.REPLY (seqOf m) 0 .seqReuse))
    else
      let s := match p.reply with
        | some r => s.placeMsg k r
        | none => s
      some (match p.comp with
        | some c => s.placeMsg k c
        | none => s)

/-- The FMP takes the command at the head of pair `k`, if it is that pair's turn (R246) and the command carries opcode `op`
and executes, and hands it to `body`. A reserved opcode is answered BADOP; a repeated command is answered again (R253); a
command of another opcode or out of its turn waits. -/
def State.fmpTake (s : State) (k op : Nat) (body : OpInfo → Msg → State → State) : State :=
  match (if s.fmpNext = some k then s.fmpHead k else none) with
  | none => s
  | some m =>
    match opInfo (opcodeOf m.data) with
    | none =>
      let s := s.fmpPop k
      (s.resend k m.data).getD (s.reply k m.data 0 .badOp)
    | some i =>
      if i.op ≠ op then s
      else
        let s := s.fmpPop k
        (s.resend k m.data).getD (body i m s)

/-- A FAST command (R254): checked, carried out, answered. -/
def State.fmpFast (s : State) (k op : Nat) (f : Msg → State → State × Ans) : State :=
  s.fmpTake k op (fun i m s =>
    match s.fmpJudge i m with
    | some a => s.reply k m.data 0 a
    | none => match f m s with
      | (s, a) => s.reply k m.data 0 a)

/-- A SLOW opcode with no test of the block's state. -/
def noTest (_m : Msg) (_s : State) : Option Ans := none

/-- A SLOW command (R252, R255): checked in the order of R252 (`chk` judges its arguments), then against the state of what it
names (`test`: DETAIL values that R252 does not list, such as NOTPREPARED), a ticket taken, its REPLY sent. Its work goes on
under the ticket. -/
def State.fmpSlow (s : State) (k op : Nat) (chk : Msg → State → Option Ans) (test : Msg → State → Option Ans := noTest) :
    State :=
  s.fmpTake k op (fun i m s =>
    match s.fmpJudge i m with
    | some a => s.reply k m.data 0 a
    | none =>
      match chk m s with
      | some a => s.reply k m.data 0 a
      | none =>
        match s.ticketRoom k with
        | none => s.reply k m.data 0 .noTicket
        | some s' =>
          match s.conflict m.data with
          | some t => s.reply k m.data 0 (.conflict t)
          | none =>
            match test m s with
            | some a => s.reply k m.data 0 a
            | none =>
              let n := s'.nextTicket
              let t : Tkt := { num := n, pair := k, op := op, seq := seqOf m.data, quiet := (msgWord m.data 0).testBit 8,
                               priv := m.priv, src := m.src, cmd := m.data, at' := s.datum }
              let s := { s' with fmp := { s'.fmp with lastTicket := n } }.setTickets (s'.fmp.tickets ++ [t])
              s.reply k m.data n .ok)

/-! ### Stakes of a command (R258) -/

/-- R258: SET is 0 to 7 or 0xFF. -/
def setArgOk (m : Msg) : Bool := decide (setArg m.data < 8) || setArg m.data = 0xFF

/-- R258: the state of the set that a SET argument names. -/
def State.setArgChk (s : State) (m : Msg) : Option Ans :=
  let n := setArg m.data
  if n = 0xFF then none
  else if s.setSt n ≠ SetSt.OPEN then some .setState
  else if s.fld (A.STK_SET_STATUS n) F.STK_SET_STATUS_OWNER = m.src.toNat ∨ 2 ≤ m.priv then none
  else some .setState

/-- R251: the first faulted block of a set's latest use, 0xFF for none. -/
def State.firstFault (s : State) (n : Nat) : Nat :=
  let st := s.fld (A.STK_SET_FAULT n) F.STK_SET_FAULT_STATION
  (stakeBlocks.find? (fun b => stationOfStakeBlk b = st && s.setF b n F.NI_STK_SET_FAULT_CODE ≠ 0)).getD 0xFF

/-- R258: how the stake in set 7 has ended; none while it has not. -/
def State.set7Result (s : State) : Option (Option Ans) :=
  if s.setSt 7 ≠ SetSt.IDLE then none
  else
    let r := s.fld (A.STK_SET_STATUS 7) F.STK_SET_STATUS_RESULT
    if r = 1 then some none
    else if r = 3 then some (some (.aborted (s.fld (A.STK_SET_STATUS 7) F.STK_SET_STATUS_REASON)))
    else some (some (.applyFault r (s.firstFault 7)))

/-! ### Buffers (R250) -/

/-- The `i`-th 64-bit word of a buffer (R4). -/
def bufWord (bs : List Byte) (i : Nat) : Nat := bytesNat ((bs.drop (8 * i)).take 8)

/-- The access to a ticket's buffer that is under way. -/
def State.ownOf (s : State) (t : Tkt) : Option OwnReq := s.glb.own.find? (fun o => o.ticket = t.num)

/-- A request of the FMP is gone. -/
def State.dropOwn (s : State) (o : OwnReq) : State := { s with glb := { s.glb with own := s.glb.own.erase o } }

/-- A tag no request of the FMP's has; the sequencer's are the block indexes (R131), below 256. -/
def State.ownTag (s : State) : Nat :=
  (lowestFree (fun t => s.glb.own.any (fun o => o.tag = 256 + t)) 3840 0).getD 0 + 256

/-- R250: an access to the buffer of ticket `t` at offset `off`, an RD of `n` bytes or a WR of the bytes `bs`, leaves as a packet of
port 240, CLASS 5; it counts in OUT while it is outstanding (R81). None: no route leads to the unit, and the access ends
NOROUTE (R73). -/
def State.bufAccess (s : State) (t : Tkt) (off n : Nat) (bs : Option (List Byte)) : Option State :=
  let dest : Gid := BitVec.ofNat 18 (msgWord t.cmd 6 % 2 ^ 18)
  let tr := s.fld A.GLB_TRAV_CTL F.NI_TRAV_CTL_CUR
  let a := msgWord t.cmd 7 + off
  let cmd := if bs.isSome then Cmd.WR else Cmd.RD
  match s.destKey dest with
  | none => none
  | some d =>
    if noRoute (s.routeAt tr 240 d) then none
    else
      let h : Hdr := { dest := dest, cmd := cmd, cls := 5, tag := BitVec.ofNat 12 s.ownTag, len := BitVec.ofNat 5 (lenFor a n)
                       bcount := BitVec.ofNat 10 n, address := BitVec.ofNat 64 a }
      let us := match bs with
        | some l => unitsOfBytes (lenFor a n) l
        | none => []
      let o : OwnReq := { tag := s.ownTag, cmd := cmd, trav := tr, at' := s.datum, ticket := t.num, idx := off }
      let s := { s with glb := { s.glb with own := s.glb.own ++ [o] } }
      some ((s.outAdd 192 tr).glbSend h us)

/-- What a buffer access has come to: under way; ended with a code; answered OK with its packet. -/
inductive BufEnd where
  | wait | code (c : BitVec 4) | ok (p : Pkt)
  deriving DecidableEq, Repr

/-- The state of a buffer access (R250, R281, R50). -/
def OwnReq.outcome (o : OwnReq) : BufEnd :=
  match o.rsp with
  | some p => if p.fails then .code Code.CRC else if p.h.status ≠ 0 then .code p.h.status else .ok p
  | none => if o.late then .code Code.TIMEOUT else .wait

/-- The data bytes of an RR to a buffer access of `n` bytes at address `a`. -/
def rrBytes (p : Pkt) (a n : Nat) : List Byte := (p.bytes.drop (a % 32)).take n

/-- R250: the reading of a ticket's input buffer goes on by one access: the bytes when all have come, the end that a failed
access gives. The FMP has one access of a ticket under way at a time (DESIGN CHOICE, log 76). -/
def State.readBuf (s : State) (t : Tkt) : State × Tkt × Option (Except Ans (List Byte)) :=
  let len := bufLen t.cmd
  let issue (s : State) (t : Tkt) : State × Tkt × Option (Except Ans (List Byte)) :=
    let off := t.buf.length
    if len ≤ off then (s, t, some (.ok t.buf))
    else
      match s.bufAccess t off (min 512 (len - off)) none with
      | some s => (s, t, none)
      | none => (s, t, some (.error (.buffer Code.NOROUTE off)))
  match s.ownOf t with
  | none => issue s t
  | some o =>
    match o.outcome with
    | .wait => (s, t, none)
    | .code c => (s.dropOwn o, t, some (.error (.buffer c o.idx)))
    | .ok p =>
      let t := { t with buf := t.buf ++ rrBytes p (msgWord t.cmd 7 + o.idx) (min 512 (len - o.idx)) }
      issue ((s.dropOwn o).putTkt t) t

/-- The work of a command with an input buffer: `body` takes the bytes once all have been read (R250). -/
def State.withBuf (s : State) (t : Tkt) (body : State → Tkt → List Byte → State) : State :=
  match s.readBuf t with
  | (s, _, none) => s
  | (s, t, some (.error a)) => s.endTkt t a
  | (s, t, some (.ok bs)) => body s t bs

/-- R250: the writing of a ticket's output buffer goes on by one access; with the last one the ticket ends, `aux` its result
words. -/
def State.writeOn (s : State) (t : Tkt) : State :=
  let issue (s : State) (t : Tkt) : State :=
    if t.buf.length ≤ t.off then s.endTkt t (.ok t.aux)
    else
      let part := (t.buf.drop t.off).take 512
      match s.bufAccess t t.off part.length (some part) with
      | some s => s
      | none => s.endTkt t (.buffer Code.NOROUTE t.off)
  match s.ownOf t with
  | none => issue s t
  | some o =>
    match o.outcome with
    | .wait => s
    | .code c => (s.dropOwn o).endTkt t (.buffer c o.idx)
    | .ok _ =>
      let t := { t with off := t.off + 512 }
      issue ((s.dropOwn o).putTkt t) t

/-- The end of an output command that writes `bs`: W1 is `ws`; BADARG, and nothing written, when the buffer has no room. -/
def State.endBuf (s : State) (t : Tkt) (bs : List Byte) (ws : List Nat) : State :=
  if bufLen t.cmd < bs.length then s.endTkt t .badArg
  else
    let t := { t with out := true, buf := bs, aux := ws }
    (s.putTkt t).writeOn t

/-- R281: requests of the FMP that have had no response for 131,072 fclk end; they no longer count (R81). -/
def State.ownExpire (s : State) : State :=
  let due (o : OwnReq) : Bool := o.rsp.isNone && !o.late && decide (o.at' + 131072 ≤ s.datum)
  let gone := s.glb.own.filter due
  let left := s.glb.own.filter (fun o => !(due o && o.ticket = 0))
  let s := { s with glb := { s.glb with own := left.map (fun o => if due o then { o with late := true } else o) } }
  gone.foldl (fun s o => s.outDone 192 o.trav) s

/-- The buffer access of a cancelled ticket is nobody's any more (R259). -/
def State.orphan (s : State) (t : Tkt) : State :=
  let mine (o : OwnReq) : Bool := o.ticket = t.num
  let left := s.glb.own.filter (fun o => !(mine o && (o.rsp.isSome || o.late)))
  { s with glb := { s.glb with own := left.map (fun o => if mine o then { o with ticket := 0 } else o) } }

/-! ### Notices, hangs and hand-overs (R249, R276 to R278) -/

/-- R249: the NOTICE of entering SERVING goes to every enabled reply channel. -/
def State.noticeAll (s : State) : State :=
  (List.range 8).foldl (fun s k =>
    if s.chBit (2 * k + 1) F.MBX_CH_CFG_ENABLE then s.placeMsg k (fmpMsg 0x49 Kind.NOTICE 0 0 .ok) else s) s

/-- FMP_HANG (R276): HEARTBEAT has not changed for 131,072 fclk while SERVING. -/
def execFmpHang (s : State) : Out :=
  if s.fwState = Fw.SERVING ∧ s.fmp.beatAt + 131072 ≤ s.datum then
    .next ((s.setFld A.GLB_FMP_STATUS F.GLB_FMP_STATUS_STATE Fw.HALTED).raise 1361 |>.note 0x10
      (s.fld A.GLB_FMP_STATUS F.GLB_FMP_STATUS_FW_VERSION) 0)
  else .next s

/-- The ticket of the hand-over under way. -/
def State.handTkt (s : State) : Option Tkt := s.working.find? (fun t => t.op = 0x49)

/-- Version of an image slot, 0 when it holds none. -/
def State.imgVersion (s : State) (slot : Nat) : Nat := ((tget none s.fmp.images slot).map (·.version)).getD 0

/-- The running image becomes that of `slot`, and serves. -/
def State.serveImage (s : State) (slot : Nat) : State :=
  let a := A.GLB_FMP_STATUS
  let s := (s.setFld a F.GLB_FMP_STATUS_SLOT_RUN slot).setFld a F.GLB_FMP_STATUS_FW_VERSION (s.imgVersion slot)
  { (s.setFld a F.GLB_FMP_STATUS_STATE Fw.SERVING).beat with fmp := { s.fmp with hand := none, beatAt := s.datum } }

/-- HANDOVER_SERVING (R277 step 4): the new image has read the hand-over record; it serves, and places the COMPLETION of
FW_HANDOVER and the NOTICE. -/
def execHandoverServing (s : State) : Out :=
  match s.fmp.hand with
  | none => .next s
  | some (_, t0) =>
    if s.fwState ≠ Fw.HANDOVER ∨ t0 + 100000 ≤ s.datum then .next s
    else
      let slot := s.fld A.GLB_FMP_IMAGE F.GLB_FMP_IMAGE_SLOT
      let old := s.fld A.GLB_FMP_STATUS F.GLB_FMP_STATUS_FW_VERSION
      let s := s.serveImage slot
      let s := s.note 0xC old (s.imgVersion slot)
      let s := match s.handTkt with
        | some t => s.endTkt t (.ok [s.imgVersion slot])
        | none => s
      .next s.noticeAll

/-- HANDOVER_REVERT (R278): the new image does not serve by T + 100,000: the previous one is restored; the failed image
stays staged, marked unverified. -/
def execHandoverRevert (s : State) : Out :=
  match s.fmp.hand with
  | none => .next s
  | some (prev, t0) =>
    if s.fwState ≠ Fw.HANDOVER ∨ s.datum < t0 + 100000 then .next s
    else
      let failed := s.fld A.GLB_FMP_IMAGE F.GLB_FMP_IMAGE_SLOT
      let img := (tget none s.fmp.images failed).map (fun i => { i with verified := false })
      let s := { s with fmp := { s.fmp with images := tset none s.fmp.images failed img } }
      let s := (s.setFld A.GLB_FMP_IMAGE F.GLB_FMP_IMAGE_SLOT prev).serveImage prev
      let s := s.setFld A.GLB_FMP_STATUS F.GLB_FMP_STATUS_REVERTED 1
      let s := s.note 0xC (s.imgVersion prev) (s.imgVersion failed + 2 ^ 32)
      let s := match s.handTkt with
        | some t => s.endTkt t .reverted
        | none => s
      .next s.noticeAll

end Sys2Proof.Machine
end

