-- ==== Sys2Proof/Machine/RouteFind.lean ====
section
/-!
DEFINITION. Machine/RouteFind.lean: route lint (R76), the writing of banks (R69, R77), the candidate order of R86, the
traverse switch and its drain (R79, R83, R85), routing around retired links and avoided stations (R86).
-/
namespace Sys2Proof.Machine

/-! ### Lint (R76) -/

/-- Lint codes (R76). -/
abbrev lintInUse : Nat := 0x0B

/-- The sixteen hops of a route (R66). -/
def hopsOf (r : BitVec 64) : List Nat := (List.range 16).map (hopOf r)

/-- A route of the given hops. -/
def routeOfHops (hs : List Nat) : BitVec 64 := BitVec.ofNat 64 ((hs.take 16).foldr (fun h n => h + 16 * n) 0)

/-- A walk over network hops from a station: the hops taken with the station each leaves, the station reached, and what
comes next. -/
def walkFrom (st : Nat) : List Nat → List (Nat × Nat) × Nat × List Nat
  | [] => ([], st, [])
  | h :: hs =>
    if h < 6 then
      let (p, e, rest) := walkFrom (neighbour st h) hs
      ((st, h) :: p, e, rest)
    else ([], st, h :: hs)

/-- Codes YTOX, REVERSE and TOOFAR of the network hops of a route (R64, R76). -/
def dimCode (net : List Nat) : Nat :=
  let w := net.foldl (fun (w : Walk) h => w.hop h) {}
  if w.yToX then 5 else if w.reverse then 6 else if w.toFar then 7 else 0

/-- A key of a management agent or of the global block (R76). -/
def mgtKey (k : Nat) : Bool := (160 ≤ k && k ≤ 195) || k = 240

/-- The link direction that leaves station `st` on output `o` is DOWN or RETIRED. -/
def State.linkOff (s : State) (st o : Nat) : Bool := s.outState st o = LinkSt.DOWN || s.outState st o = LinkSt.RETIRED

/-- R76: the link direction that leaves station `st` on output `o` is DOWN or RETIRED, or marked for retirement in bank
`t`. -/
def State.linkOut (s : State) (t st o : Nat) : Bool :=
  s.linkOff st o || s.fmp.marks.contains (t, dirMark (neighbour st o) (oppPort o))

/-- The rules of R76 on a route whose walk has a start, for bank `t`, apart from INUSE. -/
def State.lintWalk (s : State) (t : Nat) (r : BitVec 64) (start sk dk : Nat) (home : Bool) : Nat :=
  let (path, stop, rest) := walkFrom start (hopsOf r)
  match rest with
  | [] => 2
  | e :: after =>
    if 12 ≤ e ∨ (e = 11 ∧ fedOfStation stop = none) then 1
    else if after.any (· ≠ 0) then 3
    else if stationOfKey dk ≠ some stop ∨ portOfKey dk ≠ e then 4
    else
      let c := dimCode (path.map (·.2))
      if c ≠ 0 then c
      else if (home || mgtKey sk || mgtKey dk) && path.any (fun p => p.2 = 4 || p.2 = 5) then 8
      else if path.any (fun p => s.linkOut t p.1 p.2) then 9
      else if path.any (fun p => s.fmp.marks.contains (t, neighbour p.1 p.2)) then 10
      else 0

/-- R76: the lint code of a route of bank `t` for source key `sk` and destination key `dk`, 0 when it passes. -/
def State.lint (s : State) (t : Nat) (r : BitVec 64) (sk dk : Nat) (home : Bool := false) : Nat :=
  if noRoute r then 0
  else
    match stationOfKey sk with
    | none => 4
    | some st => s.lintWalk t r st sk dk home

/-- R78: a bank whose traverse is in use: current, or draining. -/
def State.bankInUse (s : State) (t : Nat) : Bool :=
  t = s.curTrav 192 || (match s.fmp.drain with
    | some (c, _) => c = t
    | none => false)

/-- R69: a write of an entry is refused: in a bank in use only a no-route value may become a route. A write that leaves a
route as it is changes nothing; one that puts one no-route value in the place of another names no path before or after
and is let pass (DESIGN CHOICE, log 75: R69 forbids it by "only from a no-route value to a route" and allows it by "a
route-changing write"). -/
def State.breaksUse (s : State) (t sk dk : Nat) (r : BitVec 64) : Bool :=
  let old := s.routeAt t sk dk
  s.bankInUse t && !noRoute old && old ≠ r

/-- R76, R77: the code of a record that a command stores in bank `t`. -/
def State.recordCode (s : State) (t sk dk : Nat) (r : BitVec 64) : Nat :=
  let c := s.lint t r sk dk
  if c ≠ 0 then c else if s.breaksUse t sk dk r then lintInUse else 0

/-- A table entry written (R68). -/
def State.putRoute (s : State) (t sk dk : Nat) (r : BitVec 64) : State := s.wrMem (routeAddr t sk dk) r.toNat 8

/-! ### Candidates (R86) -/

/-- A way to cross one dimension: whether it goes down, the place of its express hop, its hops. -/
structure DimWay where
  down : Nat
  pos : Nat
  hops : List Nat
  deriving DecidableEq, Repr

/-- R86: the ways over a displacement `d` upward in a ring of six, on the ports up, down and express, in candidate order
within a length. -/
def dimWays (d up down exp : Nat) : List DimWay :=
  if d = 0 then [⟨0, 0, []⟩]
  else
    let ways (dn m t : Nat) : List DimWay :=
      ⟨dn, 0, List.replicate m t⟩ ::
        (if m < 3 then [] else (List.range (m - 3 + 1)).map (fun p =>
          ⟨dn, p, List.replicate p t ++ exp :: List.replicate (m - 3 - p) t⟩))
    ways 0 d up ++ ways 1 (6 - d) down

/-- Number of express hops. -/
def expressHops (hs : List Nat) : Nat := (hs.filter (fun h => h = 4 || h = 5)).length

/-- R86: the rank of a candidate, lowest first. -/
def candRank (x y : DimWay) : List Nat :=
  [(x.hops ++ y.hops).length, expressHops (x.hops ++ y.hops), x.down, y.down, x.pos, y.pos]

/-- Lexicographic order. -/
def lexLt : List Nat → List Nat → Bool
  | a :: as, b :: bs => a < b || (a = b && lexLt as bs)
  | _, _ => false

/-- R86: the first candidate that is lint-clean in bank `t`, 0 where there is none. Of two that the five criteria leave equal
(an express hop in X only against one in Y only), the one met first is kept: X ways before Y ways, torus hops first
(DESIGN CHOICE, log 75: R86 gives no further order). -/
def State.bestRoute (s : State) (t sk dk : Nat) (home : Bool := false) : BitVec 64 :=
  match stationOfKey sk, stationOfKey dk with
  | some a, some b =>
    let xs := dimWays ((b % 6 + 6 - a % 6) % 6) 0 1 4
    let ys := dimWays ((b / 6 + 6 - a / 6) % 6) 2 3 5
    let best := xs.foldl (fun best x => ys.foldl (fun (best : Option (List Nat × BitVec 64)) y =>
      let r := routeOfHops (x.hops ++ y.hops ++ [portOfKey dk])
      let k := candRank x y
      if s.lint t r sk dk home ≠ 0 then best
      else
        match best with
        | some (k0, r0) => if lexLt k k0 then some (k, r) else some (k0, r0)
        | none => some (k, r)) best) none
    (best.map (·.2)).getD 0
  | _, _ => 0

/-- The keys that name a block of this instance (R76). -/
def allKeys : List Nat := List.range 156 ++ (List.range 36).map (160 + ·) ++ [240]

/-- R86: bank 0 filled at enumeration: every entry that holds no route takes its first candidate. -/
def State.autoRoute (s : State) : State :=
  allKeys.foldl (fun s sk => allKeys.foldl (fun s dk =>
    if noRoute (s.routeAt 0 sk dk) then
      let r := s.bestRoute 0 sk dk
      if r = 0 then s else s.putRoute 0 sk dk r
    else s) s) s

/-! ### Routes through a place (R84, R86, R333) -/

/-- The links a stored route takes. -/
def routeLinks (sk : Nat) (r : BitVec 64) : List (Nat × Nat) :=
  if noRoute r then []
  else
    match stationOfKey sk with
    | some st => (walkFrom st (hopsOf r)).1
    | none => []

/-- A route enters station `st`. -/
def routeEnters (sk : Nat) (r : BitVec 64) (st : Nat) : Bool := (routeLinks sk r).any (fun p => neighbour p.1 p.2 = st)

/-- A route of traverse `t` enters station `st`. -/
def State.travEnters (s : State) (t st : Nat) : Bool :=
  allKeys.any (fun sk => allKeys.any (fun dk => routeEnters sk (s.routeAt t sk dk) st))

/-- R333: a route of the current or the draining traverse enters station `st`. -/
def State.entered (s : State) (st : Nat) : Bool :=
  s.travEnters (s.curTrav 192) st || (match s.fmp.drain with
    | some (c, _) => s.travEnters c st
    | none => false)

/-! ### The switch and its drain (R79, R83, R85) -/

/-- The word of STN_TRAV_CTL that a switch from `c` to `n` shadows (R79). -/
def stnTravWord (n c : Nat) : Word :=
  F.STN_TRAV_CTL_OLD_VALID.put (F.STN_TRAV_CTL_OLD.put (F.STN_TRAV_CTL_CUR.put 0 n) c) 1

/-- R79: the shadows of a switch to traverse `n`. -/
def State.switchShadows (s : State) (n : Nat) : List (Nat × Word) :=
  let c := s.curTrav 192
  let w := BitVec.ofNat 64 n
  let homes := (List.range 144).filterMap (fun p =>
    let old := s.rd (A.NI_ROUTE_HOME p)
    let new := s.routeAt n p 240
    if old = new then none else some (A.NI_ROUTE_HOME p, new))
  (List.range 144).map (fun p => (A.NI_TRAV_CTL p, w)) ++ (List.range 12).map (fun f => (A.FED_TRAV_CTL f, w)) ++
    (List.range 36).map (fun i => (A.STN_TRAV_CTL i, stnTravWord n c)) ++ [(A.GLB_TRAV_CTL, w)] ++ homes

/-- The 157 drain reporters by block index (R81). -/
def reporters : List Nat := List.range 156 ++ [192]

/-- R83: the drain of traverse `c` is complete. -/
def State.drainDone (s : State) (c : Nat) : Bool :=
  reporters.all (fun b => s.fld (travStatOf b) ⟨16 * c, 16⟩ = 0)

/-- R85 step 7: the FMP retires the old traverse: OLD_VALID is cleared in every station, the posted bits of `c` in every
reporter (R81, R82); the caches are still to be swept. -/
def State.retireBank (s : State) (c : Nat) : State :=
  let s := (List.range 36).foldl (fun s i => s.setFld (A.STN_TRAV_CTL i) F.STN_TRAV_CTL_OLD_VALID 0) s
  let s := (List.range 144).foldl (fun s p =>
    s.modNi p (fun n => { n with posted := n.posted.filter (fun e => e.1 / 256 ≠ c) })) s
  let s := (List.range 12).foldl (fun s f =>
    s.modFed f (fun x => { x with posted := x.posted.filter (fun e => e.1 / 256 ≠ c) })) s
  { s with fmp := { s.fmp with retire := some (c, List.range 144) } }

/-- The cache of port `p` begins to sweep traverse `c` (R74). -/
def State.startSweep (s : State) (p c : Nat) : State :=
  (s.modNi p (fun n => { n with inv := some (some (BitVec.ofNat 2 c), s.datum) })).setFld (A.NI_ROUTE_STATUS p)
    F.NI_ROUTE_STATUS_INV_BUSY 1

/-- R74, R85 step 7, R88: the FMP writes INV_GO to the caches still to be swept; one that sweeps already answers DENY and is
asked again later. -/
def State.sweepOn (s : State) : State :=
  match s.fmp.retire with
  | none => s
  | some (c, ps) =>
    let busy (p : Nat) : Bool := (s.ni p).inv.isSome
    let s' := (ps.filter (fun p => !busy p)).foldl (fun s p => s.startSweep p c) s
    { s' with fmp := { s'.fmp with retire := some (c, ps.filter busy) } }

/-- R78: every NI has invalidated the bank being retired. -/
def State.swept (s : State) : Bool :=
  match s.fmp.retire with
  | none => false
  | some (_, ps) => ps.isEmpty && (List.range 144).all (fun p => (s.ni p).inv.isNone)

/-- R78: the retired bank is free. -/
def State.bankFreed (s : State) : State := { s with fmp := { s.fmp with drain := none, stalled := false, retire := none } }

/-- R78: a bank that is neither in use nor, when another is free, prepared. -/
def State.freeBank (s : State) : Nat :=
  let free := [0, 1, 2, 3].filter (fun t => !s.bankInUse t)
  let unprep := free.filter (fun t => (s.fmp.prep.map (·.1)) ≠ some t)
  (unprep ++ free).headD 0

/-- R85 step 1: bank `c` copied into bank `n`, each entry passed through `f`. -/
def State.copyBank (s : State) (c n : Nat) (f : Nat → Nat → BitVec 64 → BitVec 64) : State :=
  (List.range 256).foldl (fun s sk => (List.range 256).foldl (fun s dk => s.putRoute n sk dk (f sk dk (s.routeAt c sk dk))) s) s

/-- DRAIN_STALL (R85 step 5): a drain is not complete 10 ms after T: the FMP stops polling and leaves the traverse
draining. -/
def execDrainStall (s : State) : Out :=
  match s.fmp.drain with
  | none => .next s
  | some (c, t) =>
    if s.fmp.stalled ∨ s.drainDone c ∨ s.datum < t + 20000000 ∨ s.fwState = Fw.HALTED ∨ s.fmp.retire.isSome then .next s
    else
      let run := s.fmp.aroundRun.map (fun e => (e.1, true))
      .next ({ s with fmp := { s.fmp with stalled := true, aroundRun := run } }.raise 1362)

/-! ### Routing around (R86) -/

/-- The station or, from 100 on, the retired receive direction 100 + 8 * station + port that a route must now avoid: a
route uses it. -/
def State.usesCause (_s : State) (sk : Nat) (r : BitVec 64) (cause : Nat) : Bool :=
  if cause < 100 then routeEnters sk r cause
  else
    let st := (cause - 100) / 8
    let n := (cause - 100) % 8
    (routeLinks sk r).contains (neighbour st n, oppPort n)

/-- A route of traverse `t` still uses a cause. -/
def State.travUses (s : State) (t cause : Nat) : Bool :=
  allKeys.any (fun sk => allKeys.any (fun dk => s.usesCause sk (s.routeAt t sk dk) cause))

/-- R86: the bank of a route-around: each affected entry takes its first candidate, or no route. -/
def State.aroundBank (s : State) (c n : Nat) : State :=
  s.copyBank c n (fun sk dk r => if s.fmp.around.any (fun x => s.usesCause sk r x) then s.bestRoute n sk dk else r)

/-- R264: the prepared bank is discarded, and its pair told (none for a bank that the FMP's own aborted change left
prepared). -/
def State.dropPrep (s : State) : State :=
  match s.fmp.prep with
  | none => s
  | some (n, k) =>
    let s := { s with fmp := { s.fmp with prep := none } }
    if k < 8 then s.placeMsg k (fmpMsg 0x10 Kind.NOTICE 0 0 (.ok [n])) else s

/-- R86: a route-around starts: its bank is built and set 7 opened. -/
def State.startAround (s : State) : State :=
  let s := s.dropPrep
  let n := s.freeBank
  let s := s.aroundBank (s.curTrav 192) n
  { s with fmp := { s.fmp with aroundRun := some (n, false), own7 := some { kind := 5 } } }.open7

/-- R86: a route-around is complete: event ROUTE_AROUND; the causes that no route of the current traverse uses are
answered. -/
def State.aroundDone (s : State) : State :=
  let left := s.fmp.around.filter (fun x => s.travUses (s.curTrav 192) x)
  { s with fmp := { s.fmp with aroundRun := none, around := left } }.raise 1363

/-- R85 steps 5 and 7 of a route-around whose stake has ended. After an abort bank `n` stays prepared, and the causes wait to be
answered again. When the drain is complete the old bank is retired; when it is free the change is complete. After a
DRAIN_STALL the host retries the drain or orders its finish, and the change is complete once the bank is free. -/
def State.endAround (s : State) (n : Nat) (stalled : Bool) : State :=
  if s.curTrav 192 ≠ n then { s with fmp := { s.fmp with aroundRun := none, prep := some (n, 8) } }
  else
    match s.fmp.drain with
    | none => s.aroundDone
    | some (c, _) =>
      if stalled then s
      else if s.fmp.retire.isSome then
        let s := s.sweepOn
        if s.swept then s.bankFreed.aroundDone else s
      else if s.drainDone c then (s.retireBank c).sweepOn
      else s

/-- ROUTE_AROUND (R86): the FMP answers retired directions and avoided stations: a bank is built and set 7 opened; the
switch is placed and closed with a lead of 2,048 fclk; after its drain the old bank is retired and freed. -/
def execRouteAround (s : State) : Out :=
  if s.fwState ≠ Fw.SERVING then .next s
  else
    match s.fmp.aroundRun with
    | none =>
      if s.fmp.around.isEmpty ∨ s.fmp.drain.isSome ∨ s.fmp.own7.isSome ∨ !s.idle7 ∨ !s.openMode ∨
          s.anyTkt (fun t => (resOf t.cmd).contains .routes) then .next s
      else .next s.startAround
    | some (n, stalled) =>
      match s.fmp.own7 with
      | some o =>
        if o.kind = 5 ∧ s.setSt 7 = SetSt.OPEN then
          .next ((s.placeAll 7 (s.switchShadows n)).1.close7 0 2048)
        else .next s
      | none => .next (s.endAround n stalled)

end Sys2Proof.Machine
end

