-- ==== Sys2Proof/Machine/PlatCheck.lean ====
section
/-!
DEFINITION. Machine/PlatCheck.lean: the framing of a plat set (R266), the plat validity checks (R109, R110) and the checks
of a state configuration (R126).
-/
namespace Sys2Proof.Machine

/-! ### Plat sets (R266) -/

/-- A PLAT record: station, plat, length code and entries. -/
structure PlatRec where
  st : Nat
  n : Nat
  len : Nat
  ents : List Nat
  deriving DecidableEq, Repr

/-- A plat set: its records with their index in the buffer. -/
structure Plan where
  plats : List (Nat × PlatRec) := []
  ents : List (Nat × StagedEntry) := []
  deriving DecidableEq, Repr

/-- The record that begins with header `h` (R266); none when it cannot be framed. -/
def frameRecord (h : Nat) (rest : List Nat) : Option ((PlatRec ⊕ StagedEntry) × List Nat) :=
  let idx := bitsOf h 4 8
  let len := bitsOf h 22 3
  let k := bitsOf h 16 6
  match h % 16 with
  | 1 =>
    let words := platLen len / 4
    if 4 < len ∨ rest.length < words then none
    else
      let ents := (rest.take words).flatMap (fun w => (List.range 4).map (fun j => bitsOf w (16 * j) 16))
      some (.inl ⟨idx, bitsOf h 12 4, len, ents⟩, rest.drop words)
  | 2 =>
    match rest with
    | c :: q :: tl => some (.inr ⟨true, idx, k, BitVec.ofNat 64 c, BitVec.ofNat 64 q, 0⟩, tl)
    | _ => none
  | 3 =>
    match rest with
    | c :: tl => some (.inr ⟨false, idx, k, BitVec.ofNat 64 c, 0, 0⟩, tl)
    | _ => none
  | _ => none

/-- R266: a header carries only what its TYPE has, within its ranges. -/
def headerOk (h : Nat) : Bool :=
  if h % 16 = 1 then bitsOf h 4 8 < 36 && bitsOf h 12 4 < 11 && bitsOf h 16 6 = 0 && h < 2 ^ 25
  else bitsOf h 4 8 < 144 && bitsOf h 12 4 = 0 && h < 2 ^ 22

/-- R266: the buffer's words framed into records; the index of the record that cannot be. -/
def framePlan (fuel i : Nat) (p : Plan) (ws : List Nat) : Except Nat Plan :=
  match fuel, ws with
  | _, [] => .ok p
  | 0, _ => .error i
  | f + 1, h :: rest =>
    match frameRecord h rest with
    | none => .error i
    | some (r, rest) =>
      if !headerOk h then .error i
      else
        match r with
        | .inl x => framePlan f (i + 1) { p with plats := p.plats ++ [(i, x)] } rest
        | .inr x => framePlan f (i + 1) { p with ents := p.ents ++ [(i, x)] } rest

/-! ### What will be in effect after T (R109) -/

/-- Output of a plat (R89). -/
def outOfPlat (n : Nat) : Nat := if n = 10 then 11 else n

/-- The PLAT record that names a plat, the latest if several do. -/
def Plan.platFor (p : Plan) (st n : Nat) : Option PlatRec :=
  (p.plats.reverse.find? (fun r => r.2.st = st && r.2.n = n)).map (·.2)

/-- Length of a plat after T. -/
def State.planLen (s : State) (p : Plan) (st n : Nat) : Nat :=
  match p.platFor st n with
  | some r => platLen r.len
  | none => s.bankLen st n (s.platBank st n)

/-- Entry `t` of a plat after T. -/
def State.planEntry (s : State) (p : Plan) (st n t : Nat) : Nat :=
  match p.platFor st n with
  | some r => r.ents.getD t 0x000F
  | none => s.platAt st n (s.platBank st n) t

/-- A source or destination register after T. -/
def State.planReg (s : State) (p : Plan) (src : Bool) (b k : Nat) (sch : Bool) : Word :=
  match p.ents.reverse.find? (fun e => e.2.src = src && e.2.port = b && e.2.k = k) with
  | some (_, e) => if sch then e.sch else e.cfg
  | none => s.rd (if src then (if sch then srcSchOf b k else srcCfgOf b k) else dstCfgOf b k)

/-- A chain source after T: block, entry, chain, schedule. -/
structure PlanSrc where
  b : Nat
  k : Nat
  chain : Nat
  sch : Word
  deriving DecidableEq, Repr

/-- The valid source entries after T. -/
def State.planSrcs (s : State) (p : Plan) : List PlanSrc :=
  (List.range 156).flatMap (fun b => (List.range 64).filterMap (fun k =>
    let c := s.planReg p true b k false
    if F.NI_CHAIN_SRC_CFG_VALID.get c = 1 then some ⟨b, k, F.NI_CHAIN_SRC_CFG_CHAIN.get c, s.planReg p true b k true⟩ else none))

/-- The valid destination entries after T: block and chain. -/
def State.planDsts (s : State) (p : Plan) : List (Nat × Nat) :=
  (List.range 156).flatMap (fun b => (List.range 64).filterMap (fun k =>
    let c := s.planReg p false b k false
    if F.NI_CHAIN_DST_CFG_VALID.get c = 1 then some (b, F.NI_CHAIN_DST_CFG_CHAIN.get c) else none))

/-- R96: the schedule of a source is in order. -/
def schOk (w : Word) : Bool :=
  let pc := platLen (F.NI_CHAIN_SRC_SCH_PERIOD.get w)
  let n := F.NI_CHAIN_SRC_SCH_COUNT.get w
  F.NI_CHAIN_SRC_SCH_PERIOD.get w ≤ 4 && F.NI_CHAIN_SRC_SCH_OFFSET.get w < pc && 1 ≤ n && n ≤ 16 &&
    (n < 2 || (n - 1) * F.NI_CHAIN_SRC_SCH_SPACING.get w < pc)

/-- R96: the injection instants in [0, 1024). -/
def schInstants (w : Word) : List Nat :=
  let pc := platLen (F.NI_CHAIN_SRC_SCH_PERIOD.get w)
  (List.range 1024).filter (fun d => (List.range (F.NI_CHAIN_SRC_SCH_COUNT.get w)).any (fun j =>
    d % pc = (F.NI_CHAIN_SRC_SCH_OFFSET.get w + j * F.NI_CHAIN_SRC_SCH_SPACING.get w) % pc))

/-! ### The simulation (R109, R92) -/

/-- Where a flit was refused or went: station, plat, parcel. -/
abbrev PlatSpot := Nat × Nat × Nat

/-- What became of one flit of a chain: entries that name its input with another CHK, inputs where nothing takes it,
ejections with their datum and the output they leave on, the entries that carried it, and whether it never leaves. -/
structure FlitRun where
  mism : List PlatSpot := []
  orphan : List PlatSpot := []
  ends : List (Nat × Nat × PlatSpot) := []
  used : List PlatSpot := []
  long : Bool := false
  deriving DecidableEq, Repr

/-- Two runs together. -/
def FlitRun.join (a b : FlitRun) : FlitRun :=
  ⟨a.mism ++ b.mism, a.orphan ++ b.orphan, a.ends ++ b.ends, a.used ++ b.used, a.long || b.long⟩

/-- Block index of what hangs on a local output (R34). -/
def ejectBlk (st o : Nat) : Nat := if o < 10 then 4 * st + (o - 6) else ((fedOfStation st).map fedBlk).getD 0

/-- Stations after which a flit has met some plat at the same parcel twice, so that it never leaves the network. -/
def runFuel : Nat := 36 * 11 * 1024

/-- R92: a flit of a chain reaches input `i` of station `st` in cycle `c`; followed through forks to its ejections. -/
def State.runFlit (s : State) (p : Plan) (chain : Nat) : Nat → Nat → Nat → Nat → FlitRun
  | 0, _, _, _ => { long := true }
  | fuel + 1, st, i, c =>
    let t := c + s.bypass st i
    let outs := (List.range 11).filterMap (fun n =>
      let par := t % s.planLen p st n
      let e := s.planEntry p st n par
      if entryIn e = i then some (n, par, entryChk e) else none)
    if outs.isEmpty then { orphan := [(st, (platOf i).getD 0, t % 1024)] }
    else
      outs.foldl (fun (r : FlitRun) (x : Nat × Nat × Nat) =>
        let (n, par, chk) := x
        let o := outOfPlat n
        if chk ≠ chain % 4096 then r.join { mism := [(st, n, par)] }
        else if o < 6 then
          (r.join { used := [(st, n, par)] }).join
            (s.runFlit p chain fuel (neighbour st o) (oppPort o) (t + wireDelay o))
        else r.join { used := [(st, n, par)], ends := [(ejectBlk st o, t, st, n, par)] }) {}

/-- R109: every flit of every valid chain over 1,024 fclk: source, injection instant, run. -/
def State.runAll (s : State) (p : Plan) : List (PlanSrc × Nat × FlitRun) :=
  (s.planSrcs p).flatMap (fun x => (schInstants x.sch).map (fun d =>
    (x, d, s.runFlit p x.chain runFuel (inputOf x.b).1 (inputOf x.b).2 d)))

/-! ### The checks (R109) -/

/-- A check that failed: code, station, plat, parcel, chain (R251), and the record that names the place, if one does. -/
structure PlatFail where
  code : Nat
  st : Nat := 0
  n : Nat := 0
  parcel : Nat := 0
  chain : Nat := 0
  idx : Option Nat := none
  deriving DecidableEq, Repr

/-- W1 of DETAIL PLATCHECK (R251). -/
def PlatFail.word (f : PlatFail) : Nat :=
  f.code + f.st * 2 ^ 8 + f.n * 2 ^ 14 + f.parcel * 2 ^ 18 + f.chain * 2 ^ 28

/-- The record that names a plat. -/
def Plan.platIdx (p : Plan) (st n : Nat) : Option Nat :=
  (p.plats.reverse.find? (fun r => r.2.st = st && r.2.n = n)).map (·.1)
/-- The record that names a chain entry. -/
def Plan.entIdx (p : Plan) (src : Bool) (b k : Nat) : Option Nat :=
  (p.ents.reverse.find? (fun e => e.2.src = src && e.2.port = b && e.2.k = k)).map (·.1)

/-- Check ENTRY on one entry of plat `n` of station `st`. -/
def entryOk (st n e : Nat) : Bool :=
  let i := entryIn e
  if i = 0xE ∨ i = 0xF then entryChk e = 0
  else i ≠ 0xA && i ≠ 0xC && i ≠ 0xD && (i ≠ 0xB || (fedOfStation st).isSome) && (n ≠ 10 || (fedOfStation st).isSome)

/-- Check UTURN on one entry. -/
def uturn (n e : Nat) : Bool := entryIn e = outOfPlat n

/-- All plats of the instance. -/
def allPlats : List (Nat × Nat) := (List.range 36).flatMap (fun st => (List.range 11).map (fun n => (st, n)))

/-- A failure of code `code` at the first spot of the instance's plats after T for which `f` holds. -/
def State.firstEntry (s : State) (p : Plan) (code : Nat) (f : Nat → Nat → Nat → Nat → Bool) : Option PlatFail :=
  allPlats.findSome? (fun x =>
    ((List.range (s.planLen p x.1 x.2)).find? (fun t => f x.1 x.2 t (s.planEntry p x.1 x.2 t))).map (fun t =>
      { code := code, st := x.1, n := x.2, parcel := t, idx := p.platIdx x.1 x.2 }))

/-- Checks ENTRY and UTURN, over every plat (codes 1 and 2). -/
def State.chkEntries (s : State) (p : Plan) : Option PlatFail :=
  let len := allPlats.findSome? (fun x =>
    let a := A.STN_PLAT_CTL x.1 x.2
    if 4 < s.fld a F.STN_PLAT_CTL_LEN0 ∨ 4 < s.fld a F.STN_PLAT_CTL_LEN1 then
      some { code := 1, st := x.1, n := x.2, idx := p.platIdx x.1 x.2 : PlatFail } else none)
  (len.orElse (fun _ => s.firstEntry p 1 (fun st n _ e => !entryOk st n e))).orElse
    (fun _ => s.firstEntry p 2 (fun _ n _ e => uturn n e))

/-- Checks DUPID, SCHED (codes 3 and 4); an NI cannot exceed its 64 entries (code 5). The failure concerns no plat: the place
reported is the entry's own station with plat 0 and parcel 0 (DESIGN CHOICE, log 77: R110 reports station, plat and
parcel, and does not say which for a chain entry). -/
def State.chkSrcs (s : State) (p : Plan) : Option PlatFail :=
  let ss := s.planSrcs p
  let ds := s.planDsts p
  let dup := (ss.zipIdx).findSome? (fun x =>
    if (ss.take x.2).any (fun y => y.chain = x.1.chain) then
      some { code := 3, st := (inputOf x.1.b).1, chain := x.1.chain, idx := p.entIdx true x.1.b x.1.k : PlatFail } else none)
  let lone := ds.findSome? (fun d =>
    if ss.any (fun x => x.chain = d.2) then none
    else some { code := 3, st := (inputOf d.1).1, chain := d.2
                idx := (p.ents.find? (fun e => !e.2.src && e.2.port = d.1 &&
                  F.NI_CHAIN_DST_CFG_CHAIN.get e.2.cfg = d.2)).map (·.1) : PlatFail })
  let sched := (ss.zipIdx).findSome? (fun x =>
    if !schOk x.1.sch || (ss.take x.2).any (fun y => y.b = x.1.b &&
        (schInstants y.sch).any (fun d => (schInstants x.1.sch).contains d)) then
      some { code := 4, st := (inputOf x.1.b).1, chain := x.1.chain, idx := p.entIdx true x.1.b x.1.k : PlatFail } else none)
  (dup.orElse (fun _ => lone)).orElse (fun _ => sched)

/-- A failure on a spot of a chain's run. -/
def Plan.failAt (p : Plan) (code chain : Nat) (x : PlatSpot) : PlatFail :=
  { code := code, st := x.1, n := x.2.1, parcel := x.2.2, chain := chain, idx := p.platIdx x.1 x.2.1 }

/-- Check STRAY on one flit: the output on which it leaves for no destination of its chain, or for the second time for one;
a destination missed has no output, and the place reported is the source's station (DESIGN CHOICE, log 77). -/
def Plan.strayOf (p : Plan) (ds : List (Nat × Nat)) (r : PlanSrc × Nat × FlitRun) : Option PlatFail :=
  let want := (ds.filter (fun d => d.2 = r.1.chain)).map (·.1)
  let ends := r.2.2.ends
  let bad := (ends.zipIdx).find? (fun e => !want.contains e.1.1 || (ends.take e.2).any (fun y => y.1 = e.1.1))
  match bad with
  | some e => some (p.failAt 8 r.1.chain e.1.2.2)
  | none =>
    if want.all (fun b => ends.any (fun e => e.1 = b)) then none
    else some { code := 8, st := (inputOf r.1.b).1, chain := r.1.chain, idx := p.entIdx true r.1.b r.1.k }

/-- Checks CHKMIS, ORPHAN and STRAY of the simulation (codes 6 to 8). An ORPHAN flit is reported at the station and input that
no plat takes it from, the input's number in place of a plat and the parcel it would have needed (DESIGN CHOICE, log 77). -/
def State.chkRuns (s : State) (p : Plan) (rs : List (PlanSrc × Nat × FlitRun)) : Option PlatFail :=
  let mism := rs.findSome? (fun r => r.2.2.mism.head?.map (p.failAt 6 r.1.chain))
  let orphan := rs.findSome? (fun r => r.2.2.orphan.head?.map (p.failAt 7 r.1.chain))
  let used := rs.flatMap (fun r => r.2.2.used)
  let idle := s.firstEntry p 7 (fun st n t e => entryIn e < 0xE && !used.contains (st, n, t))
  let ds := s.planDsts p
  let stray := rs.findSome? (p.strayOf ds)
  ((mism.orElse (fun _ => orphan)).orElse (fun _ => idle)).orElse (fun _ => stray)

/-- A reservation names a chain: the lowest valid chain with its CHK. -/
def State.chainOf (s : State) (p : Plan) (e : Nat) : Nat :=
  (((s.planSrcs p).find? (fun x => x.chain % 4096 = entryChk e)).map (·.chain)).getD 0

/-- A failure on a reserved entry with the chain that the entry names. -/
def State.nameChain (s : State) (p : Plan) (f : PlatFail) : PlatFail :=
  if f.chain = 0 then { f with chain := s.chainOf p (s.planEntry p f.st f.n f.parcel) } else f

/-- Checks HALFRATE, LINKOUT, TRANSIT and the part of WAKE that needs no T (codes 9 to 12). TRANSIT is reported at the source's
station with plat 0 and parcel 0 (DESIGN CHOICE, log 77); a flit that never leaves fails it. -/
def State.chkLinks (s : State) (p : Plan) (rs : List (PlanSrc × Nat × FlitRun)) : Option PlatFail :=
  let resv (e : Nat) : Bool := entryIn e < 0xE
  let half := s.firstEntry p 9 (fun st n t e => resv e && n < 6 && s.halfOut st n &&
    s.planEntry p st n ((t + 1) % s.planLen p st n) ≠ 0x000F)
  let out := s.firstEntry p 0xA (fun st n _ e => resv e && n < 6 && s.linkOff st n)
  let transit := rs.findSome? (fun r =>
    if r.2.2.long || r.2.2.ends.any (fun e => r.2.1 + 128 < e.2.1) then
      some { code := 0xB, st := (inputOf r.1.b).1, chain := r.1.chain, idx := p.entIdx true r.1.b r.1.k : PlatFail } else none)
  let wake := s.firstEntry p 0xC (fun st _ _ e => resv e &&
    (s.bit (A.STN_PWR_CTL st) F.STN_PWR_CTL_SLEEP_REQ || s.fmp.vacated.contains st ||
      s.anyTkt (fun t => t.op = 0x41 && msgWord t.cmd 1 % 64 = st)))
  ((half.orElse (fun _ => out)).map (s.nameChain p)).orElse (fun _ => transit.orElse (fun _ => wake.map (s.nameChain p)))

/-- R109: the first check that a plat set fails. -/
def State.platCheck (s : State) (p : Plan) : Option PlatFail :=
  match s.chkEntries p with
  | some f => some f
  | none =>
    match s.chkSrcs p with
    | some f => some f
    | none =>
      let rs := s.runAll p
      (s.chkRuns p rs).orElse (fun _ => s.chkLinks p rs)

/-- R109, check WAKE: a reservation of the set lies on a station in SLEEP that would wake too late. -/
def State.wakeLate (s : State) (p : Plan) (lead : Nat) : Option PlatFail :=
  if 8003 ≤ lead then none
  else
    (s.firstEntry p 0xC (fun st _ _ e => entryIn e < 0xE && 3 ≤ s.fld (A.STN_PWR_STATUS st) F.STN_PWR_STATUS_STATE)).map
      (s.nameChain p)

/-- R265: checks ENTRY, UTURN and LIVE of a single-entry patch. -/
def State.patchCheck (s : State) (st n t e : Nat) : Option PlatFail :=
  let live (e : Nat) : Option PlanSrc :=
    if entryIn e < 0xE then (s.planSrcs {}).find? (fun x => x.chain % 4096 = entryChk e) else none
  let at' : PlatFail := { code := 0, st := st, n := n, parcel := t, idx := none }
  if !entryOk st n e then some { at' with code := 1 }
  else if uturn n e then some { at' with code := 2 }
  else
    match (live (s.platAt st n (s.platBank st n) t)).orElse (fun _ => live e) with
    | some x => some { at' with code := 0xD, chain := x.chain }
    | none => none

/-! ### State configurations (R126) -/

/-- `n` bytes of the unit's descriptor from byte `lo` (R221). -/
def State.desc (s : State) (p lo n : Nat) : Nat :=
  ((List.range n).map (fun i => bitsOf (s.rd (A.NI_DESC p ((lo + i) / 8))).toNat (8 * ((lo + i) % 8)) 8 * 256 ^ i)).sum

/-- R126: the slots and STATE-mode entries of NI `p` are out of order, under the configuration that `slot` and `dst`
give. SPAN counts only for a slot that a STATE-mode entry names as its base (R117, R127). -/
def State.stateBad (s : State) (p : Nat) (slot dst : Nat → Word) : Bool :=
  let modes := (List.range 64).filterMap (fun k =>
    let d := dst k
    if F.NI_CHAIN_DST_CFG_VALID.get d = 1 ∧ F.NI_CHAIN_DST_CFG_MODE.get d = 1 then some (F.NI_CHAIN_DST_CFG_SLOT.get d) else none)
  let span (b : Nat) : Nat := F.NI_STATE_CFG_SPAN.get (slot b)
  let en (b : Nat) : Bool := F.NI_STATE_CFG_EN.get (slot b) = 1
  modes.any (fun b => !en b) ||
    modes.any (fun b => 256 < b + span b) ||
    (modes.zipIdx).any (fun x => (modes.take x.2).any (fun y => x.1 < y + span y && y < x.1 + span x.1)) ||
    (!(s.desc p 0x10 8).testBit 2 && (!modes.isEmpty || (List.range 256).any en))

end Sys2Proof.Machine
end

