-- ==== Sys2Proof/Machine/Modes.lean ====
section
/-!
DEFINITION. Machine/Modes.lean: operating modes and their causes (R371 to R374), the trip (R346, R347), resets (R376 to
R379, R418, R419), life-cycle states (R380), the supplies (R414), manufacturing scan and the test access port (R430, R431).
-/
namespace Sys2Proof.Machine

/-! ### Changes of mode (R372, R374, R149) -/

/-- R374: flits held in the source queues of restricted ports are discarded. -/
def State.dropRestricted (s : State) : State :=
  (List.range 144).foldl (fun s p => if s.restricted p then s.dropAllSrc p else s) s

/-- R372: the mode changes: it is journalled, raises MODE_CHANGE and is recorded; entering DIAGNOSE or SAFE aborts every
set that has not committed (R149); entering a restricted mode discards held chain flits (R374). -/
def State.toMode (s : State) (m : Nat) : State :=
  let old := s.mode
  if old = m then s
  else
    let s := ((s.setFld A.GLB_MODE F.GLB_MODE_PREV old).setFld A.GLB_MODE F.GLB_MODE_MODE m).sat A.GLB_MODE F.GLB_MODE_CHANGES
    let s := (s.wr A.GLB_MODE_TIME (BitVec.ofNat 64 s.datum)).note 2 (old + 16 * m) 0 |>.raise 1377
    let s := if m = Mode.DIAGNOSE ∨ m = Mode.SAFE then s.abortUncommitted else s
    s.dropRestricted

/-! ### Causes (R373) -/

/-- A link direction is HALF or RETIRED (R360). -/
def State.anyHalf (s : State) : Bool :=
  (List.range 36).any (fun st => (List.range 6).any (fun n =>
    let x := s.linkState st n
    x = LinkSt.HALF || x = LinkSt.RETIRED || (x = LinkSt.RESYNC && decide (s.goodRx st n < 20))))

/-- A STATION_VACATE or STATION_RETURN of station `st` is running. -/
def State.moving (s : State) (st : Nat) : Bool :=
  s.anyTkt (fun t => (t.op = 0x41 || t.op = 0x42) && msgWord t.cmd 1 % 64 = st)

/-- R373: the CAUSE bits. -/
def State.causes (s : State) : Nat :=
  let b (i : Nat) (p : Bool) : Nat := if p then 2 ^ i else 0
  b 0 (s.anyTkt (fun t => (resOf t.cmd).any (fun r => r = .routes || r = .plats)) || s.fmp.aroundRun.isSome)
  + b 1 s.fmp.drain.isSome
  + b 2 (s.anyTkt (fun t => t.op = 0x41 || t.op = 0x42))
  + b 3 (s.anyTkt (fun t => t.op = 0x49))
  + b 8 s.anyHalf
  + b 9 ((List.range 144).any (fun p => s.niState p = 3))
  + b 10 (s.fmp.avoid.any (fun st => !s.moving st))
  + b 11 (2 ≤ s.fld A.THM_STATUS F.THM_STATUS_LEVEL)
  + b 12 (s.bit A.GLB_JNL_STATUS F.GLB_JNL_STATUS_FAULT)
  + b 13 ((List.range 144).any (fun p => s.bit (A.NI_ENUM p) F.NI_ENUM_HELD))
  + b 14 (s.bit A.THM_STATUS F.THM_STATUS_SUSPECT_FULL)

/-- R373: the running mode that the causes ask for. -/
def runMode (causes : Nat) : Nat :=
  if causes % 256 ≠ 0 then Mode.RECONFIGURE else if causes ≠ 0 then Mode.DEGRADED else Mode.RUN

/-- MODE_CAUSE_UPDATE (R373): the FMP brings CAUSE up to date; in the running modes the mode follows. -/
def execModeCauseUpdate (s : State) : Out :=
  if s.mode < 2 ∨ s.fwState = Fw.HALTED then .next s
  else
    let c := s.causes
    let s := s.setFld A.GLB_MODE F.GLB_MODE_CAUSE c
    .next (if s.running then s.toMode (runMode c) else s)

/-! ### The trip (R346, R347) -/

/-- R346, R347 steps 1 and 2: the block trips, unless SAFE is set. In WIPE the boot goes on, to SAFE (R378). -/
def State.trip (s : State) (src : Nat) : State :=
  let a := A.THM_STATUS
  if s.bit a F.THM_STATUS_SAFE then s
  else
    let t := ((s.setFld a F.THM_STATUS_SAFE 1).setFld a F.THM_STATUS_TRIP_SRC src).wr A.THM_TRIP_TIME (BitVec.ofNat 64 s.datum)
    let t := s.seeRise { t with host := { t.host with halt := true, trip := 3 } } 1368
    if t.mode < 2 then t else t.toMode Mode.SAFE

/-- HOST_TRIP (R346, R11): the input has been sampled 1 at two consecutive ACLK edges, the second of them in this cycle. -/
def execHostTrip (s : State) : Out :=
  if s.mode = Mode.OFF ∨ !aclkEdge s.datum then .next s else .next (s.trip 2)

/-! ### Resets (R376 to R379) -/

/-- R363: lanes that failed HARD stay in the failed sets of both ends of their direction until block power is removed. -/
def State.keepHard (t s : State) : State :=
  (List.range 36).foldl (fun t st => (List.range 6).foldl (fun t n =>
    let hard := ((s.stn st).port n).hard
    if hard.isEmpty then t
    else
      let v := BitVec.ofNat 64 ((hard.map (fun l => 2 ^ l)).sum)
      let o := neighbour st n
      let t := t.modStn st (fun x => x.modPort n (fun q => { q with hard := hard }))
      let t := (t.wr (A.STN_LANE_RX st n) v).wr (A.STN_LANE_TX o (oppPort n)) v
      (t.setFld (A.STN_LINK st n) F.STN_LINK_RX_GOOD (22 - hard.length)).setFld (A.STN_LINK o (oppPort n)) F.STN_LINK_TX_GOOD
        (22 - hard.length)) t) t

/-- The DAT_STATUS counts, kept over a warm or soft reset (R376, R382). -/
def datCounts (x : Word) : Word :=
  [F.DAT_STATUS_SLIP_COUNT, F.DAT_STATUS_MER_DUE_COUNT, F.DAT_STATUS_MER_SBE_COUNT, F.DAT_STATUS_VOTE_FIX_COUNT].foldl
    (fun y f => f.put y (f.get x)) (resetOf A.DAT_STATUS)

/-- The latches of R348 in THM_STATUS. -/
def safeLatches (x : Word) : Word :=
  [F.THM_STATUS_SAFE, F.THM_STATUS_SHUTDOWN_READY, F.THM_STATUS_COMMIT_FAIL, F.THM_STATUS_TRIP_SRC].foldl
    (fun y f => f.put y (f.get x)) 0

/-- GLB_LC taking its latest sampled value as the effective state, when that is the higher code (R380). -/
def lcTaken (x : Word) : Word :=
  if F.GLB_LC_EFFECTIVE.get x < F.GLB_LC_INPUT.get x then F.GLB_LC_EFFECTIVE.put x (F.GLB_LC_INPUT.get x) else x

/-- R376, R377, R382: a reset of kind 0 cold, 1 warm, 2 soft: everything takes its reset value, and WIPE begins. Kept are
the latches of R348, GLB_LC, lanes failed HARD and, over a warm or soft reset, the datum and the DAT_STATUS counts. The
datum counters of the other blocks are undefined until the ALIGN LOAD (R15). -/
def State.restart (s : State) (kind : Nat) : State :=
  let lc := lcTaken (s.rd A.GLB_LC)
  let t : State := { State.reset with
    datum := if kind = 0 then 0 else s.datum
    freeCtr := s.freeCtr
    pending := s.pending
    host := { scan := s.host.scan, tapIr := s.host.tapIr, vreqPin := s.host.vreqPin } }
  let t := ((t.wr A.GLB_LC lc).wr A.THM_STATUS (safeLatches (s.rd A.THM_STATUS))).wr A.THM_TRIP_TIME (s.rd A.THM_TRIP_TIME)
  let t := if kind = 0 then t else t.wr A.DAT_STATUS (datCounts (s.rd A.DAT_STATUS))
  let b := A.GLB_BOOT_STATUS
  let t := (t.setFld b F.GLB_BOOT_STATUS_KIND kind).setFld b F.GLB_BOOT_STATUS_LC (F.GLB_LC_EFFECTIVE.get lc)
  let t := t.setFld b F.GLB_BOOT_STATUS_SAFE_BOOT (t.fld A.THM_STATUS F.THM_STATUS_SAFE)
  let t := t.keepHard s
  { t.unalign with host := { t.host with resetAt := t.datum }, stood := [] }

/-- The trip sequence is under way: resets other than a cold one are held (R378). -/
def State.tripping (s : State) : Bool :=
  s.host.trip ≠ 0 && !s.bit A.THM_STATUS F.THM_STATUS_SHUTDOWN_READY

/-- R378: a warm (1) or soft (2) reset acts, or is held until SHUTDOWN_READY. In OFF nothing is reset. -/
def State.warm (s : State) (kind : Nat) : State :=
  if s.mode = Mode.OFF then s
  else if s.tripping then
    { s with host := { s.host with heldReset := s.host.heldReset.orElse (fun _ => some kind) } }
  else s.restart kind

/-- COLD_RESET (R376, R418, R415): the cold reset input falls and is released. From OFF the power has come up: the latches
of R348 are clear and GLB_LC takes the sampled value without a test of its order (R380). -/
def execColdReset (s : State) : Out :=
  if s.mode = Mode.OFF then
    let v := s.fld A.GLB_LC F.GLB_LC_INPUT
    let t := s.wr A.GLB_LC (F.GLB_LC_EFFECTIVE.put (F.GLB_LC_INPUT.put 0 v) v)
    .next ((t.wr A.THM_STATUS 0).wr A.THM_TRIP_TIME 0 |>.restart 0)
  else .next (s.restart 0)

/-- WARM_RESET (R376, R418, R11): the warm reset input has been sampled 0 on two ACLK edges, the second of them in this
cycle, and is released. -/
def execWarmReset (s : State) : Out := .next (if aclkEdge s.datum then s.warm 1 else s)

/-- R376: a write of GLB_SOFT_RESET: the right KEY schedules a soft reset 2,048 fclk later. -/
def State.writeSoftReset (s : State) (r : Req) : State × BitVec 4 :=
  if reqFld r F.GLB_SOFT_RESET_KEY ≠ 0xC0DE then (s, Code.DENY)
  else ({ s with host := { s.host with softAt := s.host.softAt.orElse (fun _ => some (s.datum + 2048)) } }, Code.OK)

/-- SOFT_RESET_WRITE (R376): a write of GLB_SOFT_RESET is served. -/
def execSoftResetWrite (r : Req) (s : State) : Out := .next (s.serve A.GLB_SOFT_RESET r (·.writeSoftReset r))

/-- SOFT_RESET_BEGIN (R376): 2,048 fclk after the key write the soft reset begins. -/
def execSoftResetBegin (s : State) : Out :=
  match s.host.softAt with
  | none => .next s
  | some t =>
    if s.datum < t then .next s
    else .next ({ s with host := { s.host with softAt := none } }.warm 2)

/-- LC_STATE_CHANGE (R380, R11): a value of LC_STATE has been sampled on 4 consecutive ACLK edges, the last of them in this
cycle. A higher code changes the effective
state with a warm reset; a lower one is ignored and sets BACKWARD. Without power only the input changes. -/
def execLcStateChange (v : LcState) (s : State) : Out :=
  let a := A.GLB_LC
  if s.mode ≠ Mode.OFF ∧ !aclkEdge s.datum then .next s else
  let s := s.setFld a F.GLB_LC_INPUT v.toNat
  let eff := s.fld a F.GLB_LC_EFFECTIVE
  if s.mode = Mode.OFF ∨ v.toNat = eff then .next s
  else if v.toNat < eff then .next (s.setFld a F.GLB_LC_BACKWARD 1)
  else .next (s.warm 1)

/-- POWER_REMOVE (R414, R348, R372): block power is removed; nothing is kept but what the surroundings drive. -/
def execPowerRemove (s : State) : Out :=
  let t : State := { State.reset with
    freeCtr := s.freeCtr
    pending := s.pending
    host := { scan := s.host.scan, vreqPin := s.host.vreqPin } }
  .next ((t.wr A.GLB_LC (F.GLB_LC_INPUT.put 0 (s.fld A.GLB_LC F.GLB_LC_INPUT))).setFld A.GLB_MODE F.GLB_MODE_MODE Mode.OFF).cycleStart

/-- SCAN_MODE_CHANGE (R431): entry into or exit from manufacturing scan; ignored in DEPLOYED. -/
def execScanModeChange (enter : Bool) (s : State) : Out :=
  if s.fld A.GLB_LC F.GLB_LC_EFFECTIVE = 2 ∨ s.host.scan = enter then .next s
  else .next ({ s with host := { s.host with scan := enter } }.warm 1)

/-! ### Test access (R430) -/

/-- TAP_IDCODE (R430): the TAP instruction IDCODE. -/
def execTapIdcode (s : State) : Out := .next { s with host := { s.host with tapIr := 1 } }

/-- TAP_IJTAG (R430): the TAP instruction IJTAG. -/
def execTapIjtag (s : State) : Out := .next { s with host := { s.host with tapIr := 8 } }

/-- TAP_BYPASS (R430): any instruction other than IDCODE and IJTAG selects the bypass register. -/
def execTapBypass (ir : BitVec 4) (s : State) : Out :=
  if ir = 1 ∨ ir = 8 then .next s else .next { s with host := { s.host with tapIr := ir.toNat } }

/-- R430: the data register that the TAP instruction selects. -/
inductive TapReg where
  | idcode | ijtag | bypass
  deriving DecidableEq, Repr

/-- R430: the data register selected. -/
def State.tapReg (s : State) : TapReg :=
  if s.host.tapIr = 1 then .idcode else if s.host.tapIr = 8 then .ijtag else .bypass

/-- R430: the identification register. -/
def idcode : BitVec 32 := BitVec.ofNat 32 (0x2B144000 + 2 * Config.tapMfr.toNat + 1)

/-- R430: an instrument of the IEEE 1687 network. -/
inductive Instrument where
  | thermal | benchmark | link | sramBist | debug
  deriving DecidableEq, Repr

/-- R381: whether an instrument can be reached: in DEPLOYED only the thermal and benchmark readouts. -/
def State.reaches (s : State) (i : Instrument) : Bool :=
  s.tapReg = .ijtag && (s.fld A.GLB_LC F.GLB_LC_EFFECTIVE ≠ 2 || i = .thermal || i = .benchmark)

end Sys2Proof.Machine
end

