-- ==== Sys2Proof/Machine/Thermal.lean ====
section
/-!
DEFINITION. Machine/Thermal.lean: the thermal grid (R337 to R343), the throttle (R344), the trip commit (R345) and the end
of the trip sequence (R347).
-/
namespace Sys2Proof.Machine

/-! ### Readings (R337, R339, R340) -/

/-- A 12-bit reading as a number of 0.125 degrees. -/
def signed12 (x : Nat) : Int := if x < 2048 then (x : Int) else (x : Int) - 4096
/-- A number in `n`-bit two's complement. -/
def twos (n : Nat) (x : Int) : Nat := (x % (2 ^ n : Int)).toNat

/-- R337: station of a sensor. -/
def sensorStn (j : Nat) : Nat := j / 2

/-- R340: the eight neighbours of sensor `j`. -/
def sensorNeighbours (j : Nat) : List Nat :=
  let s := sensorStn j
  [0, 1, 2, 3].flatMap (fun o => [2 * neighbour s o, 2 * neighbour s o + 1])

/-- A value put into a rising list. -/
def insertInt (x : Int) : List Int → List Int
  | [] => [x]
  | y :: ys => if x ≤ y then x :: y :: ys else y :: insertInt x ys

/-- R340: the median; for an even count the mean of the two middle values, rounded down. -/
def median (l : List Int) : Option Int :=
  let q := l.foldr insertInt []
  let n := q.length
  match q[(n - 1) / 2]?, q[n / 2]? with
  | some a, some b => some ((a + b) / 2)
  | _, _ => none

/-- The reading of sensor `j` in an evaluation, if its conversion gave one. -/
def readingOf (rd : List SensorReading) (j : Nat) : Option Int := (rd.getD j none).map (fun x => signed12 x.toNat)

/-- Sensor `j` is marked SUSPECT. -/
def State.suspect (s : State) (j : Nat) : Bool := s.bit (A.THM_SENSOR j) F.THM_SENSOR_SUSPECT

/-- Suspect sensors. -/
def State.suspects (s : State) : Nat := ((List.range 72).filter (fun j => s.suspect j)).length

/-- R340: M of sensor `j`: the median over its usable neighbours, or over the grid; none when no sensor is usable. -/
def State.medianAt (s : State) (rd : List SensorReading) (j : Nat) : Option Int :=
  let usable (l : List Nat) : List Int := l.filterMap (fun k => if s.suspect k then none else readingOf rd k)
  let near := usable (sensorNeighbours j)
  if 3 ≤ near.length then median near else median (usable (List.range 72))

/-- R340: M of every sensor; where no sensor is usable, a free value. -/
def State.medians (s : State) (rd : List SensorReading) : List Int × State :=
  let ms := (List.range 72).map (fun j => s.medianAt rd j)
  if ms.all (·.isSome) then (ms.map (·.getD 0), s)
  else
    let (w, s) := s.draw
    (ms.map (·.getD (signed12 (w.toNat % 4096))), s)

/-- A count of consecutive evaluations: raised when the condition holds, else restarted. -/
def State.upCount (s : State) (c j : Nat) (holds : Bool) : State :=
  let k := 128 * c + j
  let n := if holds then tget 0 s.thm.up k + 1 else 0
  { s with thm := { s.thm with up := tset 0 s.thm.up k n } }

/-- The present length of a run. -/
def State.upAt (s : State) (c j : Nat) : Nat := tget 0 s.thm.up (128 * c + j)

/-- R340: whole degrees of a reading, in eight bits. -/
def degC (x : Int) : Nat := twos 8 (x / 8)

/-- R340: sensor `j` is compared with its M: after three deviations it is marked SUSPECT, unless sixteen are. -/
def State.judgeSensor (s : State) (rd : List SensorReading) (j : Nat) (m : Int) : State :=
  let a := A.THM_SENSOR j
  let dev := match readingOf rd j with
    | some x => decide (64 < (x - m).natAbs)
    | none => true
  let s := match readingOf rd j with
    | some x => (s.setFld a F.THM_SENSOR_READING (twos 12 x)).setFld a F.THM_SENSOR_VALID 1
    | none => s.setFld a F.THM_SENSOR_VALID 0
  let s := s.upCount 4 j dev
  if s.upAt 4 j < 3 ∨ s.suspect j then s
  else if 16 ≤ s.suspects then s.setFld A.THM_STATUS F.THM_STATUS_SUSPECT_FULL 1
  else
    let s := (s.setFld a F.THM_SENSOR_SUSPECT 1).raise 1369
    s.note 0xA (j + 256 * degC (signed12 (s.fld a F.THM_SENSOR_READING)) + 65536 * degC m) 0

/-- R340: the effective reading of sensor `j`. -/
def State.effective (s : State) (rd : List SensorReading) (j : Nat) (m : Int) : Int :=
  if s.suspect j then m
  else
    match readingOf rd j with
    | some x => x
    | none =>
      match s.thm.hist with
      | (_, es) :: _ => max m (es.getD j m)
      | [] => m

/-- R339: rate of rise of sensor `j` at instant `i`, toward zero. -/
def riseOf (hist : List (Nat × List Int)) (i j : Nat) (e : Int) : Int :=
  match hist.find? (fun h => h.1 + 2000000 ≤ i) with
  | none => 0
  | some (i0, es) => ((e - es.getD j e) * 2000000).tdiv (8 * ((i : Int) - i0))

/-- The earlier evaluations that R339 and R343 can still ask for. -/
def keepHist (i : Nat) : List (Nat × List Int) → List (Nat × List Int)
  | [] => []
  | h :: hs => if h.1 + 2000000 ≤ i then [h] else h :: keepHist i hs

/-- RISE of sensor `j`; a rate outside its eight bits leaves a free value. -/
def State.setRise (s : State) (j : Nat) (r : Int) : State :=
  if -128 ≤ r ∧ r ≤ 127 then s.setFld (A.THM_SENSOR j) F.THM_SENSOR_RISE (twos 8 r)
  else
    let (w, s) := s.draw
    s.setFld (A.THM_SENSOR j) F.THM_SENSOR_RISE w.toNat

/-! ### Levels (R341) -/

/-- R341: condition `c` after an evaluation: set when some sensor's count reaches 3, cleared when every sensor has been
back for 3 evaluations. `hot` is each sensor's condition, `cool` that all are back. -/
def State.condition (s : State) (c : Nat) (hot : List Bool) (cool clears : Bool) : State :=
  let s := (hot.zipIdx).foldl (fun s e => s.upCount c e.2 e.1) s
  let fires := (List.range 72).any (fun j => 3 ≤ s.upAt c j)
  let n := if cool then tget 0 s.thm.dn c + 1 else 0
  let s := { s with thm := { s.thm with dn := tset 0 s.thm.dn c n } }
  if fires then { s with thm := { s.thm with set := if s.thm.set.contains c then s.thm.set else s.thm.set ++ [c] } }
  else if clears ∧ 3 ≤ n then { s with thm := { s.thm with set := s.thm.set.filter (· ≠ c) } }
  else s

/-- R341: LEVEL of the conditions that are set. -/
def levelOf (set : List Nat) : Nat :=
  if set.contains 2 then 3 else if set.contains 1 || set.contains 3 then 2 else if set.contains 0 then 1 else 0

/-- R341: the levels after an evaluation. -/
def State.levels (s : State) (es rs : List Int) : State :=
  let thr (f : Fld) : Int := 8 * (s.fld A.THM_CFG f : Int)
  let rate : Int := s.fld A.THM_CFG F.THM_CFG_RATE
  let lvl (s : State) (c : Nat) (t : Int) : State :=
    s.condition c (es.map (fun e => decide (t ≤ e))) (es.all (fun e => e ≤ t - 16)) (c ≠ 2)
  let s := lvl (lvl (lvl s 0 (thr F.THM_CFG_WARN)) 1 (thr F.THM_CFG_THROTTLE)) 2 (thr F.THM_CFG_TRIP)
  let s := s.condition 3 (rs.map (fun r => decide (rate < r))) (rs.all (fun r => 2 * r ≤ rate)) true
  (s.setFld A.THM_STATUS F.THM_STATUS_LEVEL (levelOf s.thm.set)).setFld A.THM_STATUS F.THM_STATUS_RATE
    (if s.thm.set.contains 3 then 1 else 0)

/-- R338: an evaluation asks for the fast rate. -/
def State.asksFast (s : State) (es rs : List Int) : Bool :=
  let warn : Int := s.fld A.THM_CFG F.THM_CFG_WARN
  let rate : Int := s.fld A.THM_CFG F.THM_CFG_RATE
  es.any (fun e => decide (8 * (warn - 5) ≤ e)) || rs.any (fun r => decide (rate < 2 * r))

/-- The hottest sensor and its effective reading. -/
def hottest (es : List Int) : Nat × Int :=
  (es.zipIdx).foldl (fun b e => if b.2 < e.1 then (e.2, e.1) else b) (0, es.getD 0 0)

/-- R343: the throttle stage after the evaluation of instant `i`; `was` is LEVEL before it, `old` the evaluations before. -/
def State.throttle (s : State) (i was : Nat) (old : List (Nat × List Int)) (es : List Int) : State :=
  let a := A.THM_THROTTLE
  let st := s.fld a F.THM_THROTTLE_STAGE
  let lv := s.fld A.THM_STATUS F.THM_STATUS_LEVEL
  let rising := match old.find? (fun h => h.1 + 2000000 = i) with
    | some (_, hs) => decide ((hottest hs).2 ≤ (hottest es).2)
    | none => false
  let new :=
    if 2 ≤ lv ∧ was < 2 ∧ st = 0 then 1
    else if i % 2000000 ≠ 0 then st
    else if 2 ≤ lv then (if rising then min (st + 1) 3 else st)
    else st - 1
  if new = st then s else (s.setFld a F.THM_THROTTLE_STAGE new).sat a F.THM_THROTTLE_CHANGES

/-! ### Sampling and evaluation (R337, R338) -/

/-- THERMAL_SAMPLE (R337, R338): at a sample instant every sensor starts a conversion. The fast rate comes into force at
a multiple of 125,000, and ends at a multiple of 2,000,000. -/
def execThermalSample (s : State) : Out :=
  let a := A.THM_STATUS
  let d := s.datum
  let fast := s.bit a F.THM_STATUS_FAST
  let fast := if fast then !(d % 2000000 = 0 && 16 ≤ s.thm.calm) else s.thm.want && d % 125000 = 0
  if s.mode = Mode.OFF ∨ !(d % 2000000 = 0 || (fast && d % 125000 = 0)) then .next s
  else
    let s := s.setFld a F.THM_STATUS_FAST (if fast then 1 else 0)
    .next { s with thm := { s.thm with sample := some d, calm := if fast then s.thm.calm else 0
                                       want := s.thm.want && !fast } }

/-- THERMAL_EVALUATION (R339 to R343, R346): 4,000 fclk after a sample instant the 72 readings are evaluated. -/
def execThermalEvaluation (rd : List SensorReading) (s : State) : Out :=
  match s.thm.sample with
  | none => .next s
  | some i =>
    if s.mode = Mode.OFF ∨ s.datum < i + 4000 ∨ rd.length ≠ 72 then .next s
    else
      let s0 := s
      let was := s.fld A.THM_STATUS F.THM_STATUS_LEVEL
      let old := s.thm.hist
      let s := s.gcnt 43 ((rd.filter (·.isSome)).length)
      let (ms, s) := s.medians rd
      let s := (List.range 72).foldl (fun s j => s.judgeSensor rd j (ms.getD j 0)) s
      let es := (List.range 72).map (fun j => s.effective rd j (ms.getD j 0))
      let rs := (es.zipIdx).map (fun e => riseOf old i e.2 e.1)
      let s := (es.zipIdx).foldl (fun s e => s.setFld (A.THM_SENSOR e.2) F.THM_SENSOR_EFFECTIVE (twos 12 e.1)) s
      let s := (rs.zipIdx).foldl (fun s r => s.setRise r.2 r.1) s
      let s := s.levels es rs
      let a := A.THM_STATUS
      let s := ((s.setFld a F.THM_STATUS_HOTTEST (hottest es).1).setFld a F.THM_STATUS_HOT_READING
        (twos 12 (hottest es).2)).setFld a F.THM_STATUS_SUSPECTS s.suspects
      let s := s.throttle i was old es
      let fast := s.asksFast es rs
      let calm := if fast then 0 else if s.bit a F.THM_STATUS_FAST then s.thm.calm + 1 else s.thm.calm
      let hist := (i, es) :: keepHist i old
      let s := { s with thm := { s.thm with sample := none, hist := hist, calm := calm, want := fast } }
      let s := s0.seeRise (s0.seeRise (s0.seeRise s 1366) 1367) 1370
      .next (if s.thm.set.contains 2 then s.trip 1 else s)

/-! ### The throttle (R344) -/

/-- The shaper registers that the throttle saves. -/
def throttleRegs (p : Nat) : List Nat :=
  A.NI_SHAPE_CTL p :: (List.range 6).flatMap (fun c => [A.NI_SHAPE_RATE p c, A.NI_SHAPE_SIZE p c])

/-- R344: the values to restore: saved on leaving stage 0; a register that the host has changed since the FMP last wrote it
is saved anew. -/
def State.throttleSave (s : State) (applied : Nat) (p : Nat) : State :=
  (throttleRegs p).foldl (fun s a =>
    if applied = 0 ∨ tget 0 s.fmp.thrWrote a ≠ s.rd a then
      { s with fmp := { s.fmp with thrSave := tset 0 s.fmp.thrSave a (s.rd a) } } else s) s

/-- A shaper register written by the FMP, remembered as its latest write. -/
def State.throttleWrite (s : State) (p : Nat) (reg : ShaperReg) (v : Word) : State :=
  let s := (s.writeShaper p reg (s.fmpReq v)).1
  let a := shaperAddr p reg
  { s with fmp := { s.fmp with thrWrote := tset 0 s.fmp.thrWrote a (s.rd a) } }

/-- The weights of NI `p` (R157). -/
def State.wfqWeight (s : State) (p c : Nat) : Nat := s.fld (A.NI_WFQ_WEIGHT p) ⟨8 * c, 8⟩

/-- R344: stage `k` on class `c` of NI `p`. -/
def State.throttleClass (s : State) (p k : Nat) (c : Fin 7) : State :=
  let sv (a : Nat) : Word := tget 0 s.fmp.thrSave a
  let en := (F.NI_SHAPE_CTL_EN.get (sv (A.NI_SHAPE_CTL p))).testBit c.val
  let sum := ((List.range 6).map (fun j => s.wfqWeight p j)).sum
  let r := max 1 (65536 * s.wfqWeight p c.val / (2 ^ k * sum))
  let old := sv (A.NI_SHAPE_RATE p c.val)
  let low (f : Fld) : Nat := if en then min r (f.get old) else r
  let rate := F.NI_SHAPE_RATE_RATE_P.put (F.NI_SHAPE_RATE_RATE_C.put 0 (low F.NI_SHAPE_RATE_RATE_C)) (low F.NI_SHAPE_RATE_RATE_P)
  let size := if en then sv (A.NI_SHAPE_SIZE p c.val) else F.NI_SHAPE_SIZE_SIZE_P.put (F.NI_SHAPE_SIZE_SIZE_C.put 0 17) 17
  (s.throttleWrite p (.rate c) rate).throttleWrite p (.size c) size

/-- The classes 0 to 5. -/
def classes05 : List (Fin 7) := [0, 1, 2, 3, 4, 5]

/-- R344: the stage applied to NI `p`. -/
def State.throttleNi (s : State) (p applied k : Nat) : State :=
  let s := s.throttleSave applied p
  if k = 0 then
    let sv (a : Nat) : Word := tget 0 s.fmp.thrSave a
    let s := classes05.foldl (fun s c => (s.throttleWrite p (.rate c) (sv (A.NI_SHAPE_RATE p c.val))).throttleWrite p (.size c)
      (sv (A.NI_SHAPE_SIZE p c.val))) s
    s.throttleWrite p .ctl (sv (A.NI_SHAPE_CTL p))
  else
    let s := classes05.foldl (fun s c => s.throttleClass p k c) s
    let x := s.rd (A.NI_SHAPE_CTL p)
    s.throttleWrite p .ctl (F.NI_SHAPE_CTL_EN.put x (F.NI_SHAPE_CTL_EN.get x ||| 0x3F))

/-- THROTTLE_APPLY (R344): the FMP applies a changed stage to all 144 NIs. -/
def execThrottleApply (s : State) : Out :=
  let a := A.THM_THROTTLE
  let k := s.fld a F.THM_THROTTLE_STAGE
  let was := s.fld a F.THM_THROTTLE_APPLIED
  if k = was ∨ s.fwState = Fw.HALTED then .next s
  else
    let s := (List.range 144).foldl (fun s p => s.throttleNi p was k) s
    let s := if k = 0 then { s with fmp := { s.fmp with thrSave := [], thrWrote := [] } } else s
    .next (s.setFld a F.THM_THROTTLE_APPLIED k)

/-! ### The trip commit (R345, R347) -/

/-- TRIP_ARM (R345): when LEVEL reaches 2 the FMP reserves two journal slots, writes and arms the commit word and queues
the THERMAL_INTENT; when LEVEL falls without a trip it disarms. -/
def execTripArm (s : State) : Out :=
  let a := A.THM_COMMIT_ADDR
  let armed := s.bit a F.THM_COMMIT_ADDR_ARMED
  let lv := s.fld A.THM_STATUS F.THM_STATUS_LEVEL
  if s.fwState = Fw.HALTED ∨ s.bit A.THM_STATUS F.THM_STATUS_SAFE then .next s
  else if 2 ≤ lv ∧ !armed ∧ s.jActive then
    let (k, s) := s.takeSlot
    let (k1, s) := s.takeSlot
    let (q, s) := s.takeSeq
    let (q1, s) := s.takeSeq
    let s := s.wr A.THM_COMMIT_WORD (recHeader 7 q1 [])
    let s := (s.setFld a F.THM_COMMIT_ADDR_WORD (s.fmp.jbase + 4 * k1)).setFld a F.THM_COMMIT_ADDR_ARMED 1
    let s := { s with fmp := { s.fmp with arm := some (k, q) } }
    let deg := degC (signed12 (s.fld A.THM_STATUS F.THM_STATUS_HOT_READING))
    .next (s.journal { typ := 6, w1 := s.datum, w2 := s.fld A.THM_STATUS F.THM_STATUS_HOTTEST + 256 * deg, w3 := 0
                       resv := some (k, q) } true)
  else if lv < 2 ∧ armed then
    let s := s.setFld a F.THM_COMMIT_ADDR_ARMED 0
    match s.fmp.arm with
    | some (_, q) => .next ({ s with fmp := { s.fmp with arm := none } }.note 9 q 0)
    | none => .next s
  else .next s

/-- TRIP_COMMIT_PROGRAM (R347 steps 3 and 4): no word program is in progress: the armed commit word is programmed; if none
is armed, or step 3 has reached its bound, the sequence goes to step 5 with COMMIT_FAIL. -/
def execTripCommitProgram (s : State) : Out :=
  if s.host.trip ≠ 3 then .next s
  else if (s.rd A.THM_TRIP_TIME).toNat + 100000 ≤ s.datum then .next (s.tripEnd true)
  else if !s.fmp.nvm.isEmpty then .next s
  else if s.bit A.THM_COMMIT_ADDR F.THM_COMMIT_ADDR_ARMED then
    .next ({ s with host := { s.host with trip := 4 } }.nvmPut 1 (s.fld A.THM_COMMIT_ADDR F.THM_COMMIT_ADDR_WORD)
      (s.rd A.THM_COMMIT_WORD) 2)
  else .next (s.tripEnd true)

/-- SHUTDOWN_READY (R347 step 5, R378): the sequence has ended, or a bound has passed; a reset held meanwhile acts. -/
def execShutdownReady (s : State) : Out :=
  let a := A.THM_STATUS
  let t := (s.rd A.THM_TRIP_TIME).toNat
  let bound := (s.host.trip = 3 ∧ t + 100000 ≤ s.datum) ∨ (s.host.trip = 4 ∧ t + 200000 ≤ s.datum)
  if s.bit a F.THM_STATUS_SHUTDOWN_READY ∨ !(s.host.trip = 5 ∨ bound) then .next s
  else
    let s := if s.host.trip = 5 then s else s.tripEnd true
    let s := s.setFld a F.THM_STATUS_SHUTDOWN_READY 1
    match s.host.heldReset with
    | some k => .next (s.warm k)
    | none => .next s

end Sys2Proof.Machine
end

