-- ==== Sys2Proof/Machine/Power.lean ====
section
/-!
DEFINITION. Machine/Power.lean: power states of stations (R329 to R334), links trained down and up by the FMP (R333, R367,
R368), and what makes a station fit for SLEEP or vacated (R333, R367).
-/
namespace Sys2Proof.Machine

/-- STN_PWR_STATUS.STATE (R329): 0 ACTIVE, 1 CLKGATE, 2 RETAIN, 3 SLEEP, 4 WAKING. -/
def State.pwrState (s : State) (st : Nat) : Nat := s.fld (A.STN_PWR_STATUS st) F.STN_PWR_STATUS_STATE

/-- STN_PWR_CTL.DEEPEST. -/
def State.deepest (s : State) (st : Nat) : Nat := s.fld (A.STN_PWR_CTL st) F.STN_PWR_CTL_DEEPEST

/-! ### CLKGATE and RETAIN (R331) -/

/-- A flit is held in an input buffer of the station. -/
def StnSt.holdsFlit (x : StnSt) : Bool := x.vcs.any (fun e => !e.2.buf.isEmpty)

/-- A configuration access to the station is in progress: its agent receives, serves or answers one. -/
def State.inAccess (s : State) (st : Nat) : Bool :=
  let a := s.agent (stnBlk st)
  !(s.stn st).agentRx.isEmpty || !a.rx.wire.isEmpty || a.rx.asm.any (fun e => !e.2.isEmpty) || a.cur.isSome ||
    !a.todo.isEmpty || !a.q.isEmpty

/-- R331: nothing keeps the station ACTIVE but its plats. -/
def State.stnIdle (s : State) (st : Nat) : Bool :=
  let x := s.stn st
  !x.holdsFlit && x.outs.all (fun e => e.2.holder.isNone) && x.ports.all (fun e => e.2.credQ.isEmpty) && !s.inAccess st &&
    x.gout.all (fun g => decide (g.2 < s.datum))

/-- R331: the deepest state that NEXT and DEEPEST allow, with its ENTRY; none to stay ACTIVE. -/
def lowerState (next deepest : Nat) : Option (Nat × Nat) :=
  if 256 ≤ next ∧ 2 ≤ deepest then some (2, 16) else if 7 ≤ next ∧ 1 ≤ deepest then some (1, 1) else none

/-- POWER_STATE_ENTER (R331): an idle station decides to enter CLKGATE or RETAIN. -/
def execPowerStateEnter (st : Fin 36) (s : State) : Out :=
  let st := st.val
  let x := s.stn st
  if s.pwrState st ≠ 0 ∨ x.wakeAt.isSome ∨ x.pwrTo.isSome ∨ !s.stnIdle st then .next s
  else
    match lowerState (s.horizon st) (s.deepest st) with
    | some (lo, entry) => .next (s.modStn st (fun x => { x with pwrTo := some (lo, s.datum + entry) }))
    | none => .next s

/-- R329: EXIT of CLKGATE and RETAIN. -/
def exitOf (state : Nat) : Nat := if state = 1 then 2 else 80

/-- POWER_STATE_EXIT (R331, R332): a gated station starts its exit for a reserved parcel, a flit or a configuration
access. -/
def execPowerStateExit (st : Fin 36) (s : State) : Out :=
  let st := st.val
  let x := s.stn st
  let p := s.pwrState st
  if (p ≠ 1 ∧ p ≠ 2) ∨ x.wakeAt.isSome then .next s
  else
    let be := x.holdsFlit || s.inAccess st
    if !be && decide (exitOf p < s.horizon st) then .next s
    else
      let s := s.modStn st (fun x => { x with wakeAt := some (s.datum + exitOf p) })
      .next (if be then s.sat (A.STN_PWR_STATUS st) F.STN_PWR_STATUS_BE_WAKES else s)

/-! ### Links of a station (R333, R367, R368) -/

/-- The twelve link directions of a station: receiving station and port. -/
def dirsOf (st : Nat) : List (Nat × Nat) :=
  (List.range 6).flatMap (fun n => [(st, n), (neighbour st n, oppPort n)])

/-- A direction is trained DOWN: what is on its wire is lost. -/
def State.dirDown (s : State) (d : Nat × Nat) : State :=
  if s.linkState d.1 d.2 = LinkSt.DOWN then s
  else
    let s := s.modStn d.1 (fun x => x.modPort d.2 (fun q => { q with wire := [], syncWanted := false, rxSync := none }))
    let s := s.modStn (neighbour d.1 d.2) (fun x => x.modPort (oppPort d.2) (fun q => { q with txSync := none }))
    (s.setFld (A.STN_LINK d.1 d.2) F.STN_LINK_STATE LinkSt.DOWN).stnCause d.1 0

/-- A direction comes up: both ends hold full credits, and STATE follows its good lanes (R36, R53). -/
def State.dirUp (s : State) (d : Nat × Nat) : State :=
  let o := oppPort d.2
  let s := s.wr (A.STN_VC_CRED (neighbour d.1 d.2) o) (BitVec.ofNat 64 (fullCreds o))
  s.setFld (A.STN_LINK d.1 d.2) F.STN_LINK_STATE (stateOfGood (s.goodRx d.1 d.2))

/-- R333, R367: the FMP trains every link direction of a station DOWN at both ends, and holds them so. -/
def State.linksOff (s : State) (st : Nat) : State :=
  let s := (dirsOf st).foldl (fun s d => s.dirDown d) s
  { s with fmp := { s.fmp with linksDown := if s.fmp.linksDown.contains st then s.fmp.linksDown else s.fmp.linksDown ++ [st] } }

/-- Every link direction of a station reads DOWN. -/
def State.allDown (s : State) (st : Nat) : Bool := (dirsOf st).all (fun d => s.linkState d.1 d.2 = LinkSt.DOWN)

/-- A direction may be trained up: no station at either end is held down. -/
def State.mayTrain (s : State) (d : Nat × Nat) : Bool :=
  !s.fmp.linksDown.contains d.1 && !s.fmp.linksDown.contains (neighbour d.1 d.2)

/-- R333, R368: a station's links begin to train, but those of a neighbour that is held down. -/
def State.linksTrain (s : State) (st : Nat) : State :=
  let s := { s with fmp := { s.fmp with linksDown := s.fmp.linksDown.filter (· ≠ st) } }
  (dirsOf st).foldl (fun s d => if s.mayTrain d && s.linkState d.1 d.2 = LinkSt.DOWN then
    s.setFld (A.STN_LINK d.1 d.2) F.STN_LINK_STATE LinkSt.TRAIN else s) s

/-- R333: the training of a station's links has ended; they come up. -/
def State.linksOn (s : State) (st : Nat) : State :=
  (dirsOf st).foldl (fun s d => if s.mayTrain d && s.linkState d.1 d.2 = LinkSt.TRAIN then s.dirUp d else s) s

/-! ### SLEEP (R333, R334) -/

/-- A bank of a plat of the station holds a reservation (R333). -/
def State.holdsResv (s : State) (st : Nat) : Bool :=
  (List.range 11).any (fun n => [0, 1].any (fun b =>
    (List.range (s.bankLen st n b)).any (fun k => entryIn (s.platAt st n b k) < 0xE)))

/-- An open set holds a shadow that swaps a plat of the station. -/
def State.swapOpen (s : State) (st : Nat) : Bool :=
  (List.range 8).any (fun n => s.setSt n ≠ SetSt.IDLE && (s.swapPlats n).any (fun e => e.1 = st))

/-- R333 without its condition on the stake sets; R367. -/
def State.fitToStop (s : State) (st : Nat) : Bool :=
  s.fmp.avoid.contains st && !s.entered st && !s.holdsResv st && !s.swapOpen st &&
    (List.range 4).all (fun j => s.niState (4 * st + j) = 0 || s.niState (4 * st + j) = 3) &&
    (match fedOfStation st with
     | some f => (List.range 1024).all (fun i =>
        !(s.bit (A.GLB_FED_MAP i) F.GLB_FED_MAP_VALID && s.fld (A.GLB_FED_MAP i) F.GLB_FED_MAP_PORT = f))
     | none => true)

/-- R367: the station is vacated. -/
def State.isVacated (s : State) (st : Nat) : Bool :=
  s.bit (A.STN_TRAV_CTL st) F.STN_TRAV_CTL_RECONF && s.fitToStop st

/-- R333: the FMP asks a station whose DEEPEST is SLEEP for it, when every condition holds. -/
def State.askSleep (s : State) (st : Nat) : State :=
  if s.deepest st = 3 && !s.setOpen && s.fitToStop st then
    (s.setFld (A.STN_PWR_CTL st) F.STN_PWR_CTL_SLEEP_REQ 1).linksOff st
  else s

/-- SLEEP_ENTER (R333, R334): the FMP sets SLEEP_REQ once its conditions hold; with it set, and every stake set IDLE, the
station's links are trained DOWN, and it enters SLEEP when all of them read DOWN, unless a bank of its plats has come to hold a
reservation (R111). -/
def execSleepEnter (st : Fin 36) (s : State) : Out :=
  let st := st.val
  if 3 ≤ s.pwrState st ∨ s.deepest st ≠ 3 then .next s
  else if !s.bit (A.STN_PWR_CTL st) F.STN_PWR_CTL_SLEEP_REQ then
    .next (if s.fwState = Fw.HALTED then s else s.askSleep st)
  else if s.setOpen || !s.stk.reqs.isEmpty || s.holdsResv st then .next s
  else if !s.allDown st then .next (s.linksOff st)
  else
    let s := s.modStn st (fun x => { x with pwrTo := none, wakeAt := none })
    .next ((s.setFld (A.STN_PWR_STATUS st) F.STN_PWR_STATUS_STATE 3).sat (A.STN_PWR_STATUS st) F.STN_PWR_STATUS_SLEEPS)

/-- SLEEP_EXIT (R333, R334): SLEEP_REQ has cleared, or a stake set is open and its controller asks for the exit of every
sleeping station: the station wakes, and is ACTIVE 8,000 fclk later. -/
def execSleepExit (st : Fin 36) (s : State) : Out :=
  let st := st.val
  if s.pwrState st ≠ 3 ∨ (s.bit (A.STN_PWR_CTL st) F.STN_PWR_CTL_SLEEP_REQ ∧ !s.setOpen) then .next s
  else
    .next ((s.setFld (A.STN_PWR_STATUS st) F.STN_PWR_STATUS_STATE 4).modStn st (fun x =>
      { x with wakeAt := some (s.datum + 8000) }))

/-- R329, R331, R333: the decided entries and the exits of a station whose instant has come; the links of a station that
wakes from SLEEP train meanwhile. -/
def State.pwrTick (s : State) (st : Nat) : State :=
  let x := s.stn st
  let s := if s.pwrState st = 4 ∧ s.fmp.linksDown.contains st ∧ !s.fmp.vacated.contains st then s.linksTrain st else s
  let s := match x.pwrTo with
    | some (lo, t) => if s.datum < t then s
      else (s.setFld (A.STN_PWR_STATUS st) F.STN_PWR_STATUS_STATE lo).modStn st (fun x => { x with pwrTo := none })
    | none => s
  match x.wakeAt with
  | some t => if s.datum < t then s
    else
      let slept := decide (3 ≤ s.pwrState st)
      let s := (s.setFld (A.STN_PWR_STATUS st) F.STN_PWR_STATUS_STATE 0).modStn st (fun x => { x with wakeAt := none })
      if slept && !s.fmp.vacated.contains st then s.linksOn st else s
  | none => s

/-! ### Triggers of re-plans (R355) -/

/-- R355: a re-plan of a station is triggered, unless one is held. -/
def State.trigger (s : State) (st drift : Nat) : State :=
  if s.fmp.replans.any (fun r => r.1 = st && r.2.2 = 0) then s
  else
    { s with fmp := { s.fmp with replans := s.fmp.replans ++ [(st, drift, 0)] } }.setFld (A.END_STN_STATUS st)
      F.END_STN_STATUS_TRIGGERED 1

end Sys2Proof.Machine
end

