-- ==== Sys2Proof/Machine/Boot.lean ====
section
/-!
DEFINITION. Machine/Boot.lean: the wipe and the boot (R382 to R387), images and their checks (R385, R386), the expected
map (R388), admission of ports (R389 to R391).
-/
namespace Sys2Proof.Machine

/-! ### Failure of a boot (R386) -/

/-- GLB_BOOT_STATUS.STAGE. -/
def State.bootStage (s : State) : Nat := s.fld A.GLB_BOOT_STATUS F.GLB_BOOT_STATUS_STAGE

def State.setStage (s : State) (v : Nat) : State := s.setFld A.GLB_BOOT_STATUS F.GLB_BOOT_STATUS_STAGE v

/-- R386, R387: the boot fails for a reason; the block stays as it is until the next reset. -/
def State.bootFail (s : State) (reason : Nat) : State :=
  (s.setStage 7).setFld A.GLB_BOOT_STATUS F.GLB_BOOT_STATUS_REASON reason

/-- NVM_ABORT (R422, R424): 1 from the start of any reset until boot step 2 begins, which a boot that failed the wipe
never does. -/
def State.nvmAbort (s : State) : Bool :=
  s.mode = Mode.OFF || (s.mode = Mode.WIPE && (s.bootStage = 0 ||
    (s.bootStage = 7 && s.fld A.GLB_BOOT_STATUS F.GLB_BOOT_STATUS_REASON = 1)))

/-- The status outputs of R429: IRQ_OUT, BOOT_STAGE, BOOT_REASON and MODE_OUT. -/
structure StatusPins where
  irq : Nat
  stage : Nat
  reason : Nat
  mode : Nat
  deriving DecidableEq, Repr

/-- R429: what the status outputs drive. -/
def State.statusPins (s : State) : StatusPins :=
  ⟨s.irqOut, s.bootStage, s.fld A.GLB_BOOT_STATUS F.GLB_BOOT_STATUS_REASON, s.mode⟩

/-! ### Wipe and directory (R382 to R384) -/

/-- R53: the local outputs of every station, to its NIs, its agent and its federation agent, hold the credits of their
receivers' depths. The local links have no training, and come up with the end of the wipe (DESIGN CHOICE, log 32). -/
def State.localCredits (s : State) : State :=
  (List.range 36).foldl (fun s st => ([6, 7, 8, 9, 10] ++ if (fedOfStation st).isSome then [11] else []).foldl (fun s o =>
    s.wr (A.STN_VC_CRED st o) (BitVec.ofNat 64 (fullCreds o))) s) s

/-- WIPE_DONE (R382, R383): the wipe ends; what failed the read-back is recorded, and the local links come up. -/
def execWipeDone (w : WipeResult) (s : State) : Out :=
  let a := A.GLB_WIPE_STATUS
  if s.mode ≠ Mode.WIPE ∨ s.bit a F.GLB_WIPE_STATUS_DONE then .next s
  else
    let b (p : Bool) : Nat := if p then 1 else 0
    let s := s.localCredits
    let s := (s.setFld a F.GLB_WIPE_STATUS_DONE 1).setFld a F.GLB_WIPE_STATUS_CORE_FAIL (b w.core)
    let s := (s.setFld a F.GLB_WIPE_STATUS_TRACE_FAIL (b w.trace)).setFld a F.GLB_WIPE_STATUS_NI_FAILS w.nis.eraseDups.length
    let s := s.setFld a F.GLB_WIPE_STATUS_STN_FAILS w.stns.eraseDups.length
    let s := s.setFld a F.GLB_WIPE_STATUS_TIME (min (s.datum - s.host.resetAt) (2 ^ 32 - 1))
    let s := { s with fmp := { s.fmp with badNis := w.nis.map Fin.val, badStns := w.stns.map Fin.val } }
    .next (if w.core then s.bootFail 1 else s.setStage 1)

/-- R384: the eight words of the boot directory are in order. -/
def dirOk (d : List Word) : Bool :=
  let w (i : Nat) : Nat := (d.getD i 0).toNat
  d.length = 8 && w 0 = 1 && w 2 < 2 ^ 48 && [3, 4, 5, 6].all (fun i => w i = 0) && w 7 < 2 ^ 32 &&
    crc32c ((d.take 7).flatMap (fun x => leBytes 8 x.toNat)) = BitVec.ofNat 32 (w 7)

/-- BOOT_ROM_READ (R384, R386): the boot ROM has read the directory, the key hash and MIN_SECVER. -/
def execBootRomRead (b : RomRead) (s : State) : Out :=
  if s.mode ≠ Mode.WIPE ∨ s.bootStage ≠ 1 then .next s
  else if b.nvmErr then .next (s.bootFail 3)
  else if !dirOk b.dir then .next (s.bootFail 2)
  else
    let w (i : Nat) : Nat := (b.dir.getD i 0).toNat
    let s := { s with fmp := { s.fmp with img1 := bitsOf (w 1) 32 32, minSec := b.minSec.toNat
                                          mapAt := bitsOf (w 2) 0 32, mapLen := bitsOf (w 2) 32 16 } }
    .next (s.setStage 2)

/-! ### Images (R385, R386) -/

/-- A field of an image's first 256 bytes (R385). -/
def imgField (head : List Byte) (at' n : Nat) : Nat := bytesNat ((head.drop at').take n)

/-- R386 reason 4: FORMAT, LENGTH, ENTRY and the zero fields are as R385 states. -/
def imgFormat (h : List Byte) : Bool :=
  let len := imgField h 4 4
  h.length = 256 && imgField h 0 4 = 1 && len % 32 = 0 && decide (352 ≤ len) && decide (len ≤ 524288) &&
    decide (imgField h 0x10 4 + 96 < len) && decide (imgField h 0x14 4 < 2) && zeroBytes h 0x18 0x3F && zeroBytes h 0xA0 0xFF

/-- R386: the first check that an image fails, 0 when it passes. `floor` is the security version that it must reach, none
where R381 checks none; `deployed` refuses DEVELOP_ONLY. -/
def imgReason (v : ImageCheck) (floor : Option Nat) (deployed : Bool) : Nat :=
  if !imgFormat v.head then 4
  else if !v.keyOk then 5
  else if !v.sigOk then 6
  else if (floor.map (fun f => decide (imgField v.head 0x0C 4 < f))).getD false then 7
  else if deployed && imgField v.head 0x14 4 = 1 then 8
  else 0

/-- The image a check has passed. -/
def imageOf (v : ImageCheck) : Image := ⟨imgField v.head 8 4, imgField v.head 0x0C 4, true⟩

/-- Effective LC_STATE DEPLOYED (R380). -/
def State.deployed (s : State) : Bool := s.fld A.GLB_LC F.GLB_LC_EFFECTIVE = 2

/-- IMAGE_VERIFY (R386): the image loaded into FMP slot 0 is checked; the first image that passes starts the FMP, in mode
ENUMERATE. Stations that failed the wipe are avoided from here on (R383); no route is stored yet, so
none has to be changed (R86). -/
def execImageVerify (v : ImageCheck) (s : State) : Out :=
  let b := A.GLB_BOOT_STATUS
  if s.mode ≠ Mode.WIPE ∨ s.bootStage ≠ 2 then .next s
  else if v.nvmErr then .next (s.bootFail 3)
  else
    let r := imgReason v (if s.deployed then some s.fmp.minSec else none) s.deployed
    let second := s.bit b F.GLB_BOOT_STATUS_FALLBACK
    if r ≠ 0 then
      if second ∨ s.fmp.img1 = 0xFFFFFFFF then .next (s.bootFail r)
      else .next ((s.setFld b F.GLB_BOOT_STATUS_REASON r).setFld b F.GLB_BOOT_STATUS_FALLBACK 1)
    else
      let img := imageOf v
      let s := { s with fmp := { s.fmp with images := tset none s.fmp.images 0 (some img)
                                            avoid := s.fmp.avoid ++ s.fmp.badStns } }
      let s := s.fmp.badStns.foldl State.mark s
      let s := (s.setFld b F.GLB_BOOT_STATUS_SLOT (if second then 1 else 0)).setStage 4
      let s := s.setFld A.GLB_FMP_STATUS F.GLB_FMP_STATUS_FW_VERSION img.version
      .next (s.toMode Mode.ENUMERATE)

/-! ### The expected map (R388) -/

/-- A port record of the map, from its four words. -/
def portRecOf (ws : List Nat) : Option PortRec :=
  match ws with
  | [a, b, c, d] =>
    if 143 < bitsOf a 0 8 ∨ bitsOf a 10 2 = 3 ∨ 2 ^ 13 ≤ a ∨ bitsOf c 16 16 ≠ 0 ∨ 32 ≤ d then none
    else
      some { port := bitsOf a 0 8, present := a.testBit 8, powered := a.testBit 9, priv := bitsOf a 10 2
             anySerial := a.testBit 12, maker := bitsOf b 0 32, cls := bitsOf b 32 16, verMin := bitsOf b 48 16
             verMax := bitsOf c 0 16, serial := bitsOf c 32 32, caps := d }
  | _ => none

/-- The records of a map, in strictly ascending port order. -/
def portRecs : Nat → Nat → List Nat → Option (List PortRec)
  | 0, _, [] => some []
  | 0, _, _ => none
  | n + 1, lo, ws =>
    match portRecOf (ws.take 4) with
    | none => none
    | some r => if r.port < lo then none else (portRecs n (r.port + 1) (ws.drop 4)).map (r :: ·)

/-- R388: the command pairs that W3 names. -/
def mapPairs (w3 : Nat) : List (Nat × Nat) :=
  (List.range 8).filterMap (fun k => if bitsOf w3 (8 * k) 8 = 0xFF then none else some (k, bitsOf w3 (8 * k) 8))

/-- R300, R388: the journal region named is possible. -/
def regionOk (w n : Nat) : Bool :=
  decide (64 ≤ w) && decide (w ≤ 65536) && w % 4 = 0 && decide (2 ≤ n) && decide (n ≤ 4096)

/-- R388: a map from its bytes; none when it breaks a rule. -/
def parseMap (bs : List Byte) : Option ExpMap :=
  let w (i : Nat) : Nat := bufWord bs i
  let n := bitsOf (w 0) 16 8
  let pairs := mapPairs (w 3)
  let valid := (w 2).testBit 13
  if bs.length ≠ 64 + 32 * n ∨ w 0 % 2 ^ 16 ≠ 1 ∨ 144 < n ∨ 2 ^ 24 ≤ w 0 ∨ 2 ^ 49 ≤ w 1 ∨ 2 ^ 14 ≤ w 2 ∨
      [4, 5, 6, 7].any (fun i => w i ≠ 0) ∨ (valid ∧ !regionOk (bitsOf (w 1) 32 17) (bitsOf (w 2) 0 13)) then none
  else
    match portRecs n 0 ((List.range (4 * n)).map (fun i => w (8 + i))) with
    | none => none
    | some recs =>
      let hostOk (p : Nat) : Bool := recs.any (fun r => r.port = p && r.present && r.powered)
      if pairs.any (fun e => !hostOk e.2) || (pairs.map (·.2)).eraseDups.length ≠ pairs.length then none
      else some { jbase := bitsOf (w 1) 0 32, jsec := bitsOf (w 1) 32 17, jn := bitsOf (w 2) 0 13, jvalid := valid
                  pairs := pairs, recs := recs }

/-- The record of a port in the map in force; none: as PRESENT = 0 (R388). -/
def State.portRec (s : State) (p : Nat) : Option PortRec :=
  s.fmp.map.bind (fun m => m.recs.find? (fun r => r.port = p && r.present))

/-! ### Boot step 4 (R387) -/

/-- FREE in every entry of both banks of every plat (R91), as cells of the bulk memory. -/
def freePlats : List Host.Cell := (List.range 36).flatMap freeCells

/-- The same within the memory. -/
def State.freeAllPlats (s : State) : State := s.replaceMem 0x1200000 0x1440000 freePlats

/-- The boot map taken: its pairs, its journal region, the scan of the journal. -/
def State.takeBootMap (s : State) (m : ExpMap) : State :=
  let f := s.fmp
  if m.jvalid then
    { s with fmp := { f with map := some m, bootPairs := m.pairs, jbase := m.jbase, jsec := m.jsec, jn := m.jn, jscan := true } }
  else { s with fmp := { f with map := some m, bootPairs := m.pairs } }

/-- BOOT_INIT (R387 step 4): an ALIGN LOAD is asked for, every plat entry is FREE, and the boot map is read; with SAFE
latched the mode becomes SAFE (R372). A trip has already made it SAFE, and the boot goes on (R378). -/
def execBootInit (b : BootMap) (s : State) : Out :=
  if (s.mode ≠ Mode.ENUMERATE ∧ s.mode ≠ Mode.SAFE) ∨ s.bootStage ≠ 4 then .next s
  else
    let s := (s.merReq .alignLoad 0).freeAllPlats
    let s :=
      if b.nvmErr then s.bootFail 3
      else
        match (if s.fmp.mapAt = 0xFFFFFFFF ∨ b.bytes.length ≠ s.fmp.mapLen then none else parseMap b.bytes) with
        | none => s.bootFail 9
        | some m => (s.takeBootMap m).setStage 5
    .next (if s.bit A.THM_STATUS F.THM_STATUS_SAFE then s.toMode Mode.SAFE else s)

/-! ### Admission of ports (R389 to R391) -/

/-- DOM_ON of a port written by the FMP. -/
def State.setDom (s : State) (p v : Nat) : State := (s.setFld (A.NI_DOM p) F.NI_DOM_DOM_ON v).domRefresh p

/-- R391: a port is held DISABLED, for a reason: 1 MISMATCH, 2 DOMAIN, 3 NOROUTE, 4 WIPE. -/
def State.holdPort (s : State) (p reason : Nat) : State :=
  let s := { s with fmp := { s.fmp with admissions := s.fmp.admissions.filter (fun e => e.1 ≠ p) } }
  let s := (s.setFld (A.NI_ENUM p) F.NI_ENUM_HELD reason).setDom p 0
  if reason = 1 ∨ reason = 2 then
    let fail := s.fld (A.NI_PORT_STATUS p) F.NI_PORT_STATUS_DESC_FAIL
    let diff := if reason = 1 ∧ fail = 0 then 1024 else 0
    (s.raise 1365).note 5 (p + 256 * fail + diff) (s.desc p 4 4 + 2 ^ 32 * s.desc p 8 2)
  else s

/-- R383: a port whose NI or station failed the wipe. -/
def State.wipedBad (s : State) (p : Nat) : Bool := s.fmp.badNis.contains p || s.fmp.badStns.contains (p / 4)

/-- R389 step 1: the admission of a port that the map marks PRESENT and POWERED begins. -/
def State.admitStart (s : State) (p : Nat) : State :=
  match s.portRec p with
  | none => s
  | some r =>
    if s.niState p = 1 then s
    else if s.wipedBad p then s.holdPort p 4
    else if !r.powered || s.fmp.admissions.any (fun e => e.1 = p) then s
    else { s.setDom p 1 with fmp := { s.fmp with admissions := s.fmp.admissions ++ [(p, 1, s.datum)] } }

/-- R390: the descriptor of a port matches its record. -/
def State.descMatches (s : State) (p : Nat) (r : PortRec) : Bool :=
  s.fld (A.NI_PORT_STATUS p) F.NI_PORT_STATUS_DESC_STATE = 2 && s.desc p 4 4 = r.maker && s.desc p 8 2 = r.cls &&
    decide (r.verMin ≤ s.desc p 0xA 2) && decide (s.desc p 0xA 2 ≤ r.verMax) && (r.anySerial || s.desc p 0xC 4 = r.serial) &&
    (s.desc p 0x10 8 ||| r.caps) = s.desc p 0x10 8 && decide (1 ≤ s.desc p 0x18 2) && decide (s.desc p 0x18 2 ≤ 256) &&
    decide (s.desc p 0x1B 1 ≤ 64) && decide (s.desc p 0x1C 1 ≤ 64) && decide (s.desc p 0x1E 2 ≤ 256)

/-- R389 steps 3 to 6: the descriptor has been read. -/
def State.admitJudge (s : State) (p : Nat) : State :=
  match s.portRec p with
  | none => s.holdPort p 1
  | some r =>
    if !s.descMatches p r then s.holdPort p 1
    else
      let home := s.routeAt (s.curTrav 192) p 240
      if !s.reachable p then s.holdPort p 3
      else
        let s := s.wr (A.NI_ROUTE_HOME p) home
        let s := s.setFld (A.NI_PORT_CTL p) F.NI_PORT_CTL_MAX_OUT (s.desc p 0x18 2)
        let s := (s.setFld (A.NI_ENUM p) F.NI_ENUM_PRIV (min r.priv (s.desc p 0x1A 1))).setFld (A.NI_ENUM p) F.NI_ENUM_HELD 0
        let s := { s with fmp := { s.fmp with admissions := s.fmp.admissions.filter (fun e => e.1 ≠ p) } }
        (s.portCmd p 1).1

/-- R389 step 2: the FMP writes DESC_GO. -/
def State.admitDesc (s : State) (p : Nat) : State :=
  match s.writePortCtl p (s.fmpReq (F.NI_PORT_CTL_DESC_GO.put (s.rd (A.NI_PORT_CTL p)) 1)) with
  | (t, c) =>
    if c ≠ Code.OK then s
    else { t with fmp := { t.fmp with admissions := t.fmp.admissions.map (fun e => if e.1 = p then (p, 2, t.datum) else e) } }

/-- PORT_ADMIT (R389 to R391): the admission of port `p` goes one step on. -/
def execPortAdmit (p : Fin 144) (s : State) : Out :=
  let p := p.val
  if s.fwState = Fw.HALTED then .next s
  else
    match s.fmp.admissions.find? (fun e => e.1 = p) with
    | none => .next s
    | some (_, 1, t) =>
      if s.pwrUp p then .next (s.admitDesc p)
      else if s.datum < t + 4000000 then .next s
      else
        let a := A.NI_PORT_STATUS p
        .next (((s.setFld a F.NI_PORT_STATUS_DESC_STATE 3).setFld a F.NI_PORT_STATUS_DESC_FAIL 1).holdPort p 2)
    | some _ =>
      if s.fld (A.NI_PORT_STATUS p) F.NI_PORT_STATUS_DESC_STATE < 2 then .next s else .next (s.admitJudge p)

/-! ### Boot step 5 (R387) -/

/-- R387: the routes between key 240 and a command-pair host port, in bank 0. -/
def State.bootRoute (s : State) (p : Nat) : State :=
  let one (s : State) (sk dk : Nat) : State :=
    if !noRoute (s.routeAt 0 sk dk) then s
    else
      let r := s.bestRoute 0 sk dk
      if r = 0 then s else s.putRoute 0 sk dk r
  one (one s 240 p) p 240

/-- NI_ENUM of a command-pair host. -/
def State.setHostPair (s : State) (k p : Nat) : State :=
  (s.setFld (A.NI_ENUM p) F.NI_ENUM_HOST_PAIR 1).setFld (A.NI_ENUM p) F.NI_ENUM_PAIR k

/-- R230: MBX_CHn_CFG of a channel of pair `k`. -/
def pairCfg (partner sender receiver : Nat) : Word :=
  let x := F.MBX_CH_CFG_PAIR_VALID.put (F.MBX_CH_CFG_ENABLE.put 0 1) 1
  let x := F.MBX_CH_CFG_PAIR.put x partner
  F.MBX_CH_CFG_RECEIVER.put (F.MBX_CH_CFG_SENDER.put x sender) receiver

/-- R230: the two channels of command pair `k`, whose host is port `p`. -/
def State.pairChannels (s : State) (k p : Nat) : State :=
  let host := (s.gid p).toNat
  let fmp := (s.gid 240).toNat
  (s.fmpMbxCfg (2 * k) (pairCfg (2 * k + 1) host fmp)).fmpMbxCfg (2 * k + 1) (pairCfg (2 * k) fmp host)

/-- R230: channels 0 to 15 configured and enabled. R230 does not say which port the channels of a pair take that the map names
no host for: that port is a free value (log 78). -/
def State.enablePairs (s : State) : State :=
  (List.range 8).foldl (fun s k =>
    match s.fmp.bootPairs.find? (fun e => e.1 = k) with
    | some e => s.pairChannels k e.2
    | none =>
      let (v, s) := s.draw
      s.pairChannels k (v.toNat % 144)) s

/-- BOOT_SERVING (R387 step 5): once the counters are aligned the host routes are written and the hosts' admission begins;
when it has ended the channels are enabled and the FMP serves. A re-plan of every station is held (R354, R358). -/
def execBootServing (s : State) : Out :=
  if s.bootStage ≠ 5 ∨ !s.bit A.DAT_STATUS F.DAT_STATUS_ALIGNED then .next s
  else
    let pairs := s.fmp.bootPairs
    if s.fmp.bootRoutes.length < pairs.length then
      let s := pairs.foldl (fun s e => (s.bootRoute e.2).setHostPair e.1 e.2) s
      let s := { s with fmp := { s.fmp with bootRoutes := pairs.map (·.2) } }
      .next (pairs.foldl (fun s e => s.admitStart e.2) s)
    else if !s.fmp.admissions.isEmpty then .next s
    else
      let s := s.enablePairs
      let s := (s.setStage 6).setFld A.GLB_BOOT_STATUS F.GLB_BOOT_STATUS_TIME (min (s.datum - s.host.resetAt) (2 ^ 32 - 1))
      let s := (s.setFld A.GLB_FMP_STATUS F.GLB_FMP_STATUS_STATE Fw.SERVING).beat
      let s := (List.range 36).foldl (fun s st => s.trigger st 0) s
      .next s.noticeAll

end Sys2Proof.Machine
end

