-- ==== Sys2Proof/Machine/Endurance.lean ====
section
/-!
DEFINITION. Machine/Endurance.lean: benchmark scans (R353, R354), re-plans (R355 to R358), lane failures and their stakes
(R359 to R363), link tests and their rotations (R364 to R366), station BIST (R367), link training (R368).
-/
namespace Sys2Proof.Machine

/-! ### Benchmark scans (R353, R354) -/

/-- A 16-bit two's complement number. -/
def signed16 (x : Nat) : Int := if x < 32768 then (x : Int) else (x : Int) - 65536

/-- A ticket whose work is done waits for its COMPLETION with these results. -/
def State.tktResult (s : State) (num : Nat) (ws : List Nat) : State :=
  match s.fmp.tickets.find? (fun t => t.num = num && t.st ≠ 2) with
  | some t => s.putTkt { t with stage := 9, aux := ws }
  | none => s

/-- Tickets of a BENCHMARK_SCAN at a stage: 1 waiting for a scan, 2 for the end of the one in progress. -/
def State.scanTkts (s : State) (stage : Nat) : List Tkt :=
  s.working.filter (fun t => t.op = 0x40 && t.stage = stage && msgWord t.cmd 1 % 16 = 4)

/-- BENCHMARK_SCAN_START (R353): at a multiple of 2^31, or for a BENCHMARK_SCAN test, a scan starts. -/
def execBenchmarkScanStart (s : State) : Out :=
  let q := s.scanTkts 1
  if s.fmp.scanAt.isSome ∨ s.mode = Mode.OFF ∨ (s.datum % 2 ^ 31 ≠ 0 ∧ q.isEmpty) then .next s
  else
    let s := q.foldl (fun s t => s.putTkt { t with stage := 2 }) s
    .next { s with fmp := { s.fmp with scanAt := some s.datum } }

/-- R354: a monitor's reading is posted. -/
def State.postReading (s : State) (st j : Nat) (x : BenchReading) : State :=
  let a := A.END_BENCH st j
  let s := s.setFld a F.END_BENCH_READING x.toNat
  s.setFld a F.END_BENCH_DRIFT ((x.toNat + 65536 - s.fld a F.END_BENCH_BASE) % 65536)

/-- R354: the drift of a station. -/
def State.stnDrift (s : State) (st : Nat) : Nat :=
  (List.range 16).foldl (fun m j => max m (signed16 (s.fld (A.END_BENCH st j) F.END_BENCH_DRIFT)).toNat) 0

/-- BENCHMARK_SCAN_END (R353 to R355): 65,536 fclk after its start the scan's 576 readings are posted; a drift above the limit
triggers a re-plan. -/
def execBenchmarkScanEnd (rd : List BenchReading) (s : State) : Out :=
  match s.fmp.scanAt with
  | none => .next s
  | some t =>
    if s.datum < t + 65536 ∨ rd.length ≠ 576 then .next s
    else
      let s := { s with fmp := { s.fmp with scanAt := none } }
      let s := (rd.zipIdx).foldl (fun s e => s.postReading (e.2 / 16) (e.2 % 16) e.1) s
      let s := (List.range 36).foldl (fun s st =>
        let d := s.stnDrift st
        let s := s.setFld (A.END_STN_STATUS st) F.END_STN_STATUS_DRIFT d
        if s.bit A.END_CFG F.END_CFG_AUTO && decide (s.fld A.END_CFG F.END_CFG_DRIFT_LIMIT < d) then s.trigger st d else s) s
      let s := (s.sat A.END_STATUS F.END_STATUS_SCANS).gcnt 45
      let worst := (List.range 36).foldl (fun m st => max m (s.fld (A.END_STN_STATUS st) F.END_STN_STATUS_DRIFT)) 0
      .next ((s.scanTkts 2).foldl (fun s t => s.tktResult t.num [0, worst]) s)

/-! ### Use of set 7 and lane maps (R36, R359, R364) -/

/-- The FMP may open set 7 for its own work: it is idle, no ticket holds it, and the mode lets a set open. -/
def State.mayOpen7 (s : State) : Bool :=
  s.fmp.own7.isNone && s.idle7 && s.openMode && s.fwState ≠ Fw.HALTED &&
    !s.anyTkt (fun t => (resOf t.cmd).contains .set7 && decide (1 ≤ t.stage))

/-- FAILED of a receive direction. -/
def State.failedSet (s : State) (d : Nat × Nat) : Nat := s.fld (A.STN_LANE_RX d.1 d.2) F.STN_LANE_RX_FAILED

/-- The two shadows of a direction's new failed set (R36). -/
def laneShadows (d : Nat × Nat) (failed : Nat) : List (Nat × Word) :=
  let v := F.STN_LANE_RX_FAILED.put 0 failed
  [(A.STN_LANE_TX (neighbour d.1 d.2) (oppPort d.2), v), (A.STN_LANE_RX d.1 d.2, v)]

/-! ### Failure stakes (R359, R360, R362) -/

/-- LANE_FAIL_HARD (R359, R361): the clock recovery of a lane in use loses lock. -/
def execLaneFailHard (st : Fin 36) (n : Fin 6) (lane : Fin 22) (s : State) : Out :=
  .next (s.laneFail st.val n.val lane.val true)

/-- R362: the spots of every chain that crosses the output of a direction, with those chains. -/
def State.crossing (s : State) (d : Nat × Nat) : List Nat × List PlatSpot :=
  let tx := neighbour d.1 d.2
  let o := oppPort d.2
  let rs := (s.runAll {}).filter (fun r => r.2.2.used.any (fun u => u.1 = tx && u.2.1 = o))
  let ids := (rs.map (fun r => r.1.chain)).eraseDups
  (ids, (((s.runAll {}).filter (fun r => ids.contains r.1.chain)).flatMap (fun r => r.2.2.used)).eraseDups)

/-- R362: the inactive bank of a plat takes the active one's entries but for the spots freed, and its length. -/
def State.bankWithout (s : State) (st n : Nat) (free : List Nat) : State :=
  let b := s.platBank st n
  let len := s.bankLen st n b
  let a := A.STN_PLAT_CTL st n
  let code := s.fld a (if b = 0 then F.STN_PLAT_CTL_LEN0 else F.STN_PLAT_CTL_LEN1)
  let s := s.setFld a (if b = 0 then F.STN_PLAT_CTL_LEN1 else F.STN_PLAT_CTL_LEN0) code
  (List.range len).foldl (fun s t =>
    s.wrMem (platAddr st n (1 - b) t) (if free.contains t then 0x000F else s.platAt st n b t) 2) s

/-- R362: the shadows that remove the chains crossing a direction; the banks they swap in are written. A plat set staged by the
host no longer fits and is dropped. -/
def State.removeChains (s : State) (d : Nat × Nat) : State × List (Nat × Word) :=
  let (ids, spots) := s.crossing d
  if ids.isEmpty then (s, [])
  else
    let plats := (spots.map (fun u => (u.1, u.2.1))).eraseDups
    let swaps := plats.map (fun e => (A.STN_PLAT_CTL e.1 e.2, F.STN_PLAT_CTL_BANK.put 0 (1 - s.platBank e.1 e.2)))
    let ends := (List.range 156).flatMap (fun b => (List.range 64).flatMap (fun k =>
      let x := s.rd (srcCfgOf b k)
      let y := s.rd (dstCfgOf b k)
      (if F.NI_CHAIN_SRC_CFG_VALID.get x = 1 ∧ ids.contains (F.NI_CHAIN_SRC_CFG_CHAIN.get x) then
        [(srcCfgOf b k, F.NI_CHAIN_SRC_CFG_VALID.put x 0)] else []) ++
      (if F.NI_CHAIN_DST_CFG_VALID.get y = 1 ∧ ids.contains (F.NI_CHAIN_DST_CFG_CHAIN.get y) then
        [(dstCfgOf b k, F.NI_CHAIN_DST_CFG_VALID.put y 0)] else [])))
    let s := plats.foldl (fun s e =>
      s.bankWithout e.1 e.2 ((spots.filter (fun u => u.1 = e.1 && u.2.1 = e.2)).map (·.2.2))) s
    ({ s with fmp := { s.fmp with plats := [], entries := [] } }, swaps ++ ends)

/-- The shadows of a failure stake for one direction with its new failed set (R359, R362); a direction that it retires is marked
(R76). -/
def State.failShadows (s : State) (d : Nat × Nat) (lanes : List Nat) : State × List (Nat × Word) :=
  let failed := lanes.foldl (fun f l => f ||| 2 ^ l) (s.failedSet d)
  let now := stateOfGood (22 - popCount 22 failed)
  let tx := neighbour d.1 d.2
  let s := if now = LinkSt.RETIRED then s.mark (dirMark d.1 d.2) else s
  let (s, rm) := if now ≠ s.linkState d.1 d.2 ∧ now ≠ LinkSt.FULL ∧ 0 < s.resvCount tx (oppPort d.2) then s.removeChains d
    else (s, [])
  (s, laneShadows d failed ++ rm)

/-- R359: the failure stake is placed and closed. -/
def State.closeFailure (s : State) (fails : List LaneFail) : State :=
  let dirs := (fails.map (fun f => (f.st, f.n))).eraseDups
  let (s, sh) := dirs.foldl (fun (x : State × List (Nat × Word)) d =>
    let lanes := (fails.filter (fun f => f.st = d.1 && f.n = d.2)).map (·.lane)
    match x.1.failShadows d lanes with
    | (s, l) => (s, x.2 ++ l)) (s, [])
  (s.placeAll 7 sh).1.close7 0 2048

/-- FAILURE_STAKE_CLOSE (R359, R366): the FMP opens set 7 for the lanes that have failed, aborting a test rotation that has
not committed; once open, it places the new failed sets and closes with a lead of 2,048 fclk. -/
def execFailureStakeClose (s : State) : Out :=
  if s.fwState = Fw.HALTED then .next s
  else
    match s.fmp.own7 with
    | none =>
      if s.fmp.laneFails.isEmpty || !s.idle7 || !s.openMode then .next s
      else
        let o : Own7 := { kind := 1, fails := s.fmp.laneFails }
        .next ({ s with fmp := { s.fmp with own7 := some o, laneFails := [] } }.open7)
    | some o =>
      let st := s.setSt 7
      if o.kind = 1 then .next (if st = SetSt.OPEN then s.closeFailure o.fails else s)
      else if (o.kind = 3 ∨ o.kind = 4) ∧ !s.fmp.laneFails.isEmpty ∧
          (st = SetSt.OPENING ∨ st = SetSt.OPEN ∨ st = SetSt.CLOSING ∨ st = SetSt.WAITING) then .next (s.abortSet 7 1)
      else .next s

/-- SBE_WINDOW_END (R359): a window of 2^24 fclk of corrected-error counts ends. -/
def execSbeWindowEnd (s : State) : Out :=
  if s.datum % 2 ^ 24 ≠ 0 then .next s
  else
    .next ((List.range 36).foldl (fun s st =>
      (List.range 6).foldl (fun s n => s.setFld (A.END_LANE st n) F.END_LANE_WORST_SBE 0)
        (s.modStn st (fun x => { x with ports := x.ports.map (fun e => (e.1, { e.2 with sbe := [] })) }))) s)

/-! ### Tests (R364 to R366) -/

/-- The tests written, with what END_STATUS shows of them (R369). -/
def State.setTests (s : State) (q : List Test) : State :=
  let a := A.END_STATUS
  let s := { s with fmp := { s.fmp with tests := q } }
  let run := q.filter (·.run)
  ((s.setFld a F.END_STATUS_QUEUED (q.filter (fun t => !t.run)).length).setFld a F.END_STATUS_LINK_TESTS
    (run.filter (fun t => t.kind < 3)).length).setFld a F.END_STATUS_STN_TEST (if run.any (fun t => t.kind = 3) then 1 else 0)

/-- A test as it now stands. -/
def State.putTest (s : State) (t : Test) : State :=
  s.setTests (s.fmp.tests.map (fun x => if x.ticket = t.ticket && x.kind = t.kind then t else x))

/-- The receive direction under test. -/
def Test.dirNow (t : Test) : Nat × Nat := if t.dir = 0 then (t.st, t.n) else (neighbour t.st t.n, oppPort t.n)

/-- R364: the lanes of a direction in the order of their test: those out of use first. -/
def State.testLanes (s : State) (d : Nat × Nat) : List Nat :=
  (List.range 22).filter (fun l => s.laneOut d.1 d.2 l) ++ s.lanesUsed d.1 d.2

/-- A test ends, with its outcome for the ticket (R366). -/
def State.endTest (s : State) (t : Test) : State :=
  let s := s.setTests (s.fmp.tests.filter (fun x => !(x.ticket = t.ticket && x.kind = t.kind)))
  if t.kind = 5 then s
  else if t.noSpare then s.tktResult t.ticket [2, t.done]
  else
    s.tktResult t.ticket [if t.bad0 = 0 ∧ t.bad1 = 0 then 0 else 1,
      t.bad0 + t.bad1 * 2 ^ 32 + (if t.kind = 2 then t.eye * 2 ^ 56 else 0)]

/-- A direction has been tested: the other one follows, or the test ends. -/
def State.nextDir (s : State) (t : Test) : State :=
  if t.dir = 0 ∧ t.kind ≠ 5 then
    let t := { t with dir := 1, moved := false }
    s.putTest { t with todo := s.testLanes t.dirNow }
  else s.endTest t

/-- R363: failed lanes of a direction that have passed two consecutive runs. -/
def State.restorable (s : State) (d : Nat × Nat) : Nat :=
  let soft := s.fld (A.END_LANE d.1 d.2) ⟨22, 22⟩
  ((List.range 22).map (fun l =>
    if soft.testBit l && (s.failedSet d).testBit l && decide (2 ≤ tget 0 ((s.stn d.1).port d.2).passes l) then 2 ^ l else 0)).sum

/-- Lanes of a direction that are out for test. -/
def State.testSet (s : State) (d : Nat × Nat) : Nat := s.fld (A.END_LANE d.1 d.2) F.END_LANE_TEST

/-- The failed set that the next rotation stake of a test gives its direction, and whether lanes are restored with it. -/
def State.rotation (s : State) (t : Test) : Nat × Bool :=
  let d := t.dirNow
  let keep := s.failedSet d &&& (2 ^ 22 - 1 - s.testSet d)
  match t.todo with
  | l :: _ => (keep ||| 2 ^ l, false)
  | [] => (keep &&& (2 ^ 22 - 1 - s.restorable d), s.restorable d ≠ 0)

/-- R364: a good lane of a direction will be idle once the lane out for test is back. -/
def State.idleLane (s : State) (d : Nat × Nat) : Bool :=
  let good := 22 - popCount 22 (s.failedSet d &&& (2 ^ 22 - 1 - s.testSet d))
  decide (20 < good) || (decide (10 < good) && decide (good < 20))

/-- A rotation stake of a test is opened, when set 7 can be. -/
def State.openRotation (s : State) (t : Test) : State :=
  if !s.mayOpen7 || !s.fmp.laneFails.isEmpty then s
  else
    let o : Own7 := { kind := if (s.rotation t).2 then 4 else 3 }
    ({ s with fmp := { s.fmp with own7 := some o } }.putTest { t with moved := true }).open7

/-- R364, R366: what the FMP next does for a running link test between two lanes. -/
def State.pumpTest (s : State) (t : Test) : State :=
  let d := t.dirNow
  if t.moved then
    match s.fmp.own7 with
    | some o =>
      if (o.kind = 3 ∨ o.kind = 4) ∧ s.setSt 7 = SetSt.OPEN then
        (s.placeAll 7 (laneShadows d (s.rotation t).1)).1.close7 0 2048
      else s
    | none =>
      match t.todo with
      | l :: rest =>
        if (s.testSet d).testBit l then s.putTest { t with moved := false, lane := some l, todo := rest, at' := s.datum }
        else s.putTest { t with moved := false }
      | [] => s.putTest { t with moved := false }
  else if (match s.fmp.replan with
      | some r => t.kind ≠ 5 && r.st = d.1
      | none => false) then s
  else
    match t.todo with
    | l :: rest =>
      if s.laneOut d.1 d.2 l then s.putTest { t with lane := some l, todo := rest, at' := s.datum }
      else if s.idleLane d then s.openRotation t
      else s.putTest { t with noSpare := true, todo := [] }
    | [] => if s.testSet d = 0 ∧ s.restorable d = 0 then s.nextDir t else s.openRotation t

/-- The FMP's work on every running link test. -/
def State.pumpTests (s : State) : State :=
  if s.fwState = Fw.HALTED then s
  else (s.fmp.tests.filter (fun t => t.run && t.kind ≠ 3 && t.lane.isNone)).foldl (fun s t => s.pumpTest t) s

/-- R366: a queued test may start now. -/
def State.mayStart (s : State) (t : Test) : Bool :=
  let run := s.fmp.tests.filter (·.run)
  let busy := fun (st : Nat) => (match s.fmp.replan with
    | some r => r.st = st
    | none => false) || s.fmp.laneFails.any (fun f => f.st = st) ||
    (match s.fmp.own7 with
     | some o => o.fails.any (fun f => f.st = st)
     | none => false)
  if t.kind = 3 then !run.any (fun x => x.kind = 3) && !busy t.st
  else
    (run.filter (fun x => x.kind < 3)).length < 4 && !busy t.st && !busy (neighbour t.st t.n) &&
      !run.any (fun x => (x.st = t.st && x.n = t.n) || (x.st = neighbour t.st t.n && x.n = oppPort t.n))

/-- A test starts. -/
def State.startTest (s : State) (t : Test) : State :=
  if t.kind = 3 then
    if s.isVacated t.st then
      let s := (s.putTest { t with run := true, at' := s.datum }).linksOff t.st
      s.setFld (A.END_STN_STATUS t.st) F.END_STN_STATUS_BIST 3
    else s.setTests (s.fmp.tests.filter (fun x => x.ticket ≠ t.ticket)) |>.tktResult t.ticket [99]
  else s.putTest { t with run := true, todo := s.testLanes (t.st, t.n) }

/-- TEST_START (R366): the FMP takes the first test of the queue that its limits let start. -/
def execTestStart (s : State) : Out :=
  if s.fwState = Fw.HALTED then .next s
  else
    match s.fmp.tests.find? (fun t => !t.run && s.mayStart t) with
    | some t => .next (s.startTest t)
    | none => .next s

/-- R359 BIST: a lane fails a test: it is failed already, or enters the failed set by a failure stake. -/
def State.bistFail (s : State) (d : Nat × Nat) (lane : Nat) : State :=
  if (s.failedSet d &&& (2 ^ 22 - 1 - s.testSet d)).testBit lane then s
  else
    let s := (s.sat (A.END_LANE_TROUBLE d.1 d.2) F.END_LANE_TROUBLE_FAILS).setFld (A.END_LANE d.1 d.2) ⟨22 + lane, 1⟩ 1
    { s with fmp := { s.fmp with laneFails := s.fmp.laneFails ++ [⟨d.1, d.2, lane⟩] } }

/-- The supply is as high as it goes (R356 step 4, R358). -/
def State.vreqMax (s : State) : Bool := s.fld A.END_VREQ F.END_VREQ_STEPS = 12 || s.fmp.vreqOut

/-- R363, R365: what the end of one lane's test leaves: its passes, or its phase and eye; whether the lane has failed. -/
def State.judgeLane (s : State) (t : Test) (lane : Nat) (pass : Bool) (eye : LaneEye) : State × Bool :=
  let d := t.dirNow
  if t.kind = 1 then
    let n := if pass then tget 0 ((s.stn d.1).port d.2).passes lane + 1 else 0
    let failed := (s.failedSet d &&& (2 ^ 22 - 1 - s.testSet d)).testBit lane
    (s.modStn d.1 (fun x => x.modPort d.2 (fun q => { q with passes := tset 0 q.passes lane (if failed then n else 0) })), !pass)
  else
    let s := s.modStn d.1 (fun x => x.modPort d.2 (fun q => { q with
      phase := tset 0 q.phase lane eye.2.val, eye := tset (0, 0) q.eye lane (eye.1.val, eye.2.val) }))
    (s, s.vreqMax && decide (eye.1.val < s.fld A.END_CFG F.END_CFG_MIN_EYE))

/-- LANE_TEST_END (R363 to R365): the pattern test or phase scan of the lane under test of receive direction `n` of station
`st` ends, 1,048,576 fclk after its start. -/
def execLaneTestEnd (st : Fin 36) (n : Fin 6) (lane : Fin 22) (pass : Bool) (eye : LaneEye) (s : State) : Out :=
  let l := lane.val
  match s.fmp.tests.find? (fun t => t.run && t.kind ≠ 3 && t.lane = some l && t.dirNow = (st.val, n.val)) with
  | none => .next s
  | some t =>
    if s.datum < t.at' + 1048576 then .next s
    else
      let (s, bad) := s.judgeLane t l pass eye
      let s := if bad then s.bistFail t.dirNow l else s
      let m := if bad then 2 ^ l else 0
      let t := { t with lane := none, done := t.done + 1, eye := if t.kind = 1 then t.eye else min t.eye eye.1.val }
      let t := if t.dir = 0 then { t with bad0 := t.bad0 + m } else { t with bad1 := t.bad1 + m }
      .next ((s.putTest t).pumpTest t)

/-! ### Station BIST and training (R367, R368) -/

/-- R367 step 3: FREE in every plat entry of a station. -/
def State.freeStation (s : State) (st : Nat) : State :=
  s.replaceMem (platAddr st 0 0 0) (platAddr (st + 1) 0 0 0) (freeCells st)

/-- STATION_BIST_END (R367): the test of a station ends; its plats are FREE, its buffers empty, and the result is kept. -/
def execStationBistEnd (st : Fin 36) (fail : Fin 7) (s : State) : Out :=
  let st := st.val
  match s.fmp.tests.find? (fun t => t.run && t.kind = 3 && t.st = st) with
  | none => .next s
  | some t =>
    let a := A.END_STN_STATUS st
    let f := fail.val
    let s := (s.freeStation st).modStn st (fun x => { x with vcs := [], outs := [] })
    let s := (s.setFld a F.END_STN_STATUS_BIST (if f = 0 then 1 else 2)).setFld a F.END_STN_STATUS_BIST_BLOCK f
    let s := s.setTests (s.fmp.tests.filter (fun x => x.ticket ≠ t.ticket))
    .next (s.tktResult t.ticket [if f = 0 then 0 else 1, f])

/-- LINK_TRAIN_DONE (R36, R368): the training of receive direction `n` of station `st` ends, with the direction up or left
DOWN. -/
def execLinkTrainDone (st : Fin 36) (n : Fin 6) (up : Bool) (s : State) : Out :=
  let d := (st.val, n.val)
  let x := s.linkState d.1 d.2
  if s.mode = Mode.OFF ∨ (x ≠ LinkSt.DOWN ∧ x ≠ LinkSt.TRAIN) ∨ !s.mayTrain d then .next s
  else .next (if up then s.dirUp d else s.dirDown d)

/-! ### Re-plans (R355 to R358) -/

def State.setReplan (s : State) (r : Option Replan) : State :=
  let a := A.END_STATUS
  let s := { s with fmp := { s.fmp with replan := r } }
  match r with
  | some r => (s.setFld a F.END_STATUS_REPLAN_STN r.st).setFld a F.END_STATUS_REPLAN_BUSY 1
  | none => s.setFld a F.END_STATUS_REPLAN_BUSY 0

/-- The direction a re-plan works on, its transmitting station and output. -/
def Replan.dir (r : Replan) : Nat × Nat := (r.st, r.dirs.headD 0)
def Replan.tx (r : Replan) : Nat × Nat := (neighbour r.st (r.dirs.headD 0), oppPort (r.dirs.headD 0))

/-- FREE entries of an output's active plat, and up to `g` of them spread evenly (R356 step 1). -/
def State.freeEntries (s : State) (tx : Nat × Nat) : List Nat :=
  let b := s.platBank tx.1 tx.2
  (List.range (s.bankLen tx.1 tx.2 b)).filter (fun t => s.platAt tx.1 tx.2 b t = 0x000F)
def spread (g : Nat) (l : List Nat) : List Nat :=
  let k := min g l.length
  (List.range k).map (fun i => l.getD (i * l.length / k) 0)

/-- Eye of a lane as last measured: width and centre. -/
def State.eyeOf (s : State) (d : Nat × Nat) (lane : Nat) : Nat × Nat := tget (0, 0) ((s.stn d.1).port d.2).eye lane

/-- In-use lanes of a direction whose eye is narrower than MIN_EYE. -/
def State.narrow (s : State) (d : Nat × Nat) : List Nat :=
  (s.lanesUsed d.1 d.2).filter (fun l => decide ((s.eyeOf d l).1 < s.fld A.END_CFG F.END_CFG_MIN_EYE))

/-- R356 step 2: steps from a lane's phase up to its eye's centre, over 64 positions. -/
def State.offCentre (s : State) (d : Nat × Nat) (lane : Nat) : Nat :=
  ((s.eyeOf d lane).2 + 64 - tget 0 ((s.stn d.1).port d.2).phase lane) % 64

/-- R356 step 2: a lane of the direction that is to be moved. -/
def State.moves (s : State) (d : Nat × Nat) (lane : Nat) : Bool :=
  (s.lanesUsed d.1 d.2).contains lane && !(s.narrow d).contains lane &&
    decide (2 ≤ s.offCentre d lane) && decide (s.offCentre d lane ≤ 62)

/-- One patch of a guard entry goes out (R105), when the transmitting station can take it; what is left to patch. -/
def State.patchGuard (s : State) (r : Replan) (entry : Nat) : State × List Nat :=
  match r.todo with
  | [] => (s, [])
  | t :: rest =>
    let w := s.tryPatch r.tx.1 (patchWord r.tx.2 t entry)
    (w.1, if w.2 then rest else r.todo)

/-- A patch of the transmitting station is pending. -/
def State.patching (s : State) (r : Replan) : Bool := s.bit (A.STN_PLAT_PATCH r.tx.1) F.STN_PLAT_PATCH_PENDING

/-- The re-plan goes on with its next direction. -/
def Replan.next (r : Replan) : Replan :=
  if r.dirs.length ≤ 1 then { r with dirs := [], step := 5 } else { r with dirs := r.dirs.tail, step := 7 }

/-- R356 step 1 and R365: lanes of the direction are measured by rotation. -/
def State.rotateLanes (s : State) (r : Replan) (lanes : List Nat) : State :=
  let t : Test := { ticket := 0, kind := 5, st := r.dir.1, n := r.dir.2, run := true, todo := lanes }
  (s.setTests (s.fmp.tests ++ [t])).setReplan (some { r with step := 4 })

/-- R356: the re-plan of a station has ended: the new baseline, END_STN_REPLAN, the REPLAN record, DRIFT_REPLAN. -/
def State.endReplan (s : State) (r : Replan) : State :=
  let s := (List.range 16).foldl (fun s j =>
    let a := A.END_BENCH r.st j
    (s.setFld a F.END_BENCH_BASE (s.fld a F.END_BENCH_READING)).setFld a F.END_BENCH_DRIFT 0) s
  let a := A.END_STN_STATUS r.st
  let s := ((s.setFld a F.END_STN_STATUS_DRIFT 0).sat a F.END_STN_STATUS_REPLANS).wr (A.END_STN_REPLAN r.st)
    (BitVec.ofNat 64 s.datum)
  let s := ((s.note 0xB (r.st + 65536 * (r.drift % 65536)) 0).raise 1374).setReplan none
  match s.fmp.tickets.find? (fun t => r.ticket ≠ 0 && t.num = r.ticket && t.st ≠ 2) with
  | none => s
  | some t =>
    let n := t.aux.headD 0 + r.links
    if s.fmp.replans.any (fun q => q.2.2 = r.ticket) then s.putTkt { t with aux := [n] } else s.tktResult t.num [n]

/-- R356 steps 3 and 4: all directions have been measured and re-centred. -/
def State.judgeEyes (s : State) (r : Replan) : State :=
  let bad := (List.range 6).filter (fun n => s.rxUp r.st n && !(s.narrow (r.st, n)).isEmpty)
  if bad.isEmpty then s.endReplan r
  else if s.vreqMax then
    (bad.foldl (fun s n => (s.narrow (r.st, n)).foldl (fun s l => s.laneFail r.st n l false) s) s).endReplan r
  else if s.fld A.END_VREQ F.END_VREQ_STEPS ≠ s.host.vreqPin then s
  else
    let s := ((s.wrap A.END_VREQ F.END_VREQ_STEPS).sat A.END_VREQ F.END_VREQ_REQUESTS).gcnt 42
    { s with fmp := { s.fmp with vreqAt := some s.datum } }.setReplan (some { r with dirs := bad, step := 6 })

/-- R356: a direction's measurement begins: guards are chosen and DEEPEST is set to ACTIVE; without a FREE entry its lanes are
rotated instead. A direction that is not up has none. -/
def State.beginDir (s : State) (r : Replan) : State :=
  if r.dirs.isEmpty then s.setReplan (some { r with step := 5 })
  else if !s.rxUp r.dir.1 r.dir.2 then s.setReplan (some r.next)
  else if s.fmp.tests.any (fun t => t.run && t.lane.isSome && t.dirNow = r.dir) then s
  else
    let r := { r with links := r.links + 1 }
    let g := spread (s.fld A.END_CFG F.END_CFG_GUARDS) (s.freeEntries r.tx)
    if g.isEmpty then s.rotateLanes r (s.lanesUsed r.dir.1 r.dir.2)
    else
      let was := s.deepest r.tx.1
      let s := s.setFld (A.STN_PWR_CTL r.tx.1) F.STN_PWR_CTL_DEEPEST 0
      s.setReplan (some { r with step := 0, guards := g, todo := g, deepest := was })

/-- R356: what the FMP next does for the re-plan in progress. -/
def State.pumpReplan (s : State) : State :=
  match s.fmp.replan with
  | none => s
  | some r =>
    if s.fwState = Fw.HALTED then s
    else
      match r.step with
      | 0 =>
        if s.patching r then s
        else if r.todo.isEmpty then s.setReplan (some { r with step := 1, at' := s.datum })
        else
          let (s, todo) := s.patchGuard r 0x000E
          s.setReplan (some { r with todo := todo })
      | 1 => s
      | 2 =>
        if s.patching r then s
        else if r.todo.isEmpty then
          (s.setFld (A.STN_PWR_CTL r.tx.1) F.STN_PWR_CTL_DEEPEST r.deepest).setReplan (some { r with step := 3 })
        else
          let (s, todo) := s.patchGuard r 0x000F
          s.setReplan (some { r with todo := todo })
      | 3 =>
        if (List.range 22).any (fun l => s.moves r.dir l) then s
        else if !(s.narrow r.dir).isEmpty then s.rotateLanes r (s.narrow r.dir)
        else s.setReplan (some r.next)
      | 4 => if s.fmp.tests.any (fun t => t.kind = 5) then s else s.setReplan (some r.next)
      | 5 => s.judgeEyes r
      | 6 => if s.fmp.vreqAt.isSome then s else s.setReplan (some { r with step := 7 })
      | _ => s.beginDir r

/-- R355: a re-plan may start without a command. -/
def State.autoReplan (s : State) : Bool := s.bit A.END_CFG F.END_CFG_AUTO && s.running

/-- fclk in an hour (R10). -/
abbrev fclkPerHour : Nat := 7200000000000

/-- R355: PERIOD hours have passed since the latest re-plan of a station. -/
def State.periodOver (s : State) (st : Nat) : Bool :=
  decide ((s.rd (A.END_STN_REPLAN st)).toNat + s.fld A.END_CFG F.END_CFG_PERIOD * fclkPerHour ≤ s.datum)

/-- R355: stations whose PERIOD has passed are triggered, those of one cycle in ascending order. -/
def State.periodTriggers (s : State) : State :=
  if s.mode = Mode.OFF || s.fwState = Fw.HALTED || !s.bit A.END_CFG F.END_CFG_AUTO then s
  else
    (List.range 36).foldl (fun s st =>
      if s.periodOver st && (s.fmp.replan.map (·.st)) ≠ some st then s.trigger st 0 else s) s

/-- REPLAN_START (R355): the FMP starts the oldest re-plan held that may run, if it is of station `st`. -/
def execReplanStart (st : Fin 36) (s : State) : Out :=
  let st := st.val
  if s.fmp.replan.isSome ∨ s.fwState = Fw.HALTED ∨ s.mode = Mode.OFF then .next s
  else
    match s.fmp.replans.find? (fun q => q.2.2 ≠ 0 || s.autoReplan) with
    | some q =>
      if q.1 ≠ st then .next s
      else
        let s := { s with fmp := { s.fmp with replans := s.fmp.replans.erase q } }
        let s := if q.2.2 = 0 then s.setFld (A.END_STN_STATUS st) F.END_STN_STATUS_TRIGGERED 0 else s
        .next (s.setReplan (some { st := st, drift := if q.2.2 = 0 then q.2.1 else 0, ticket := q.2.2 })).pumpReplan
    | none => .next s

/-- EYE_MEASURE_END (R357): after 1,048,576 fclk of guard parcels the eyes of the 22 lanes of receive direction `n` are known;
the guards go back to FREE. -/
def execEyeMeasureEnd (st : Fin 36) (n : Fin 6) (eyes : List LaneEye) (s : State) : Out :=
  match s.fmp.replan with
  | none => .next s
  | some r =>
    let d := (st.val, n.val)
    if r.step ≠ 1 ∨ r.dir ≠ d ∨ r.dirs.isEmpty ∨ s.datum < r.at' + 1048576 ∨ eyes.length ≠ 22 then .next s
    else
      let used := s.lanesUsed d.1 d.2
      let s := s.modStn d.1 (fun x => x.modPort d.2 (fun q => { q with
        eye := (eyes.zipIdx).foldl (fun m e => if used.contains e.2 then tset (0, 0) m e.2 (e.1.1.val, e.1.2.val) else m) q.eye }))
      let worst := used.foldl (fun (m : Nat × Nat) l => if (s.eyeOf d l).1 < m.1 then ((s.eyeOf d l).1, l) else m) (65, 0)
      let a := A.END_LANE d.1 d.2
      let s := if used.isEmpty then s
        else (s.setFld a F.END_LANE_WORST_EYE (min worst.1 63)).setFld a F.END_LANE_WORST_LANE worst.2
      .next (s.setReplan (some { r with step := 2, todo := r.guards })).pumpReplan

/-- RECENTRE_STEP (R356 step 2): the sample phase of an off-centre lane moves one step toward its eye's centre. -/
def execRecentreStep (st : Fin 36) (n : Fin 6) (lane : Fin 22) (s : State) : Out :=
  match s.fmp.replan with
  | none => .next s
  | some r =>
    let d := (st.val, n.val)
    let l := lane.val
    let last := tget 0 ((s.stn d.1).port d.2).stepAt l
    if r.step ≠ 3 ∨ r.dir ≠ d ∨ !s.moves d l ∨ (last ≠ 0 ∧ s.datum < last + 1024) then .next s
    else
      let p := tget 0 ((s.stn d.1).port d.2).phase l
      let p := if s.offCentre d l ≤ 32 then (p + 1) % 64 else (p + 63) % 64
      .next (s.modStn d.1 (fun x => x.modPort d.2 (fun q => { q with
        phase := tset 0 q.phase l p, stepAt := tset 0 q.stepAt l s.datum })))

/-- VREQ_STEP_ACK (R358, R426): VREQ_ACK changes to `v`; when it equals VREQ_STEPS the offset is acknowledged. -/
def execVreqStepAck (v : Fin 13) (s : State) : Out :=
  let s := { s with host := { s.host with vreqPin := v.val } }
  if v.val ≠ s.fld A.END_VREQ F.END_VREQ_STEPS then .next s
  else
    .next ({ s with fmp := { s.fmp with vreqAt := none, vreqOut := false } }.setFld A.END_VREQ F.END_VREQ_ACKED v.val)

/-- VREQ_NOACK (R358): a step has not been acknowledged within 1 ms. -/
def execVreqNoack (s : State) : Out :=
  match s.fmp.vreqAt with
  | none => .next s
  | some t =>
    if s.datum < t + 2000000 then .next s
    else .next ({ s with fmp := { s.fmp with vreqAt := none, vreqOut := true } }.sat A.END_VREQ F.END_VREQ_NOACK)

end Sys2Proof.Machine
end

