-- ==== Sys2Proof/Machine/FmpGeneral.lean ====
section
/-!
DEFINITION. Machine/FmpGeneral.lean: the general, enumeration, port and domain opcodes of the FMP (R259 to R261, R268). The
work of a SLOW opcode goes on one stage for each SLOW_COMMAND_COMPLETION of its ticket.
-/
namespace Sys2Proof.Machine

/-! ### Shared pieces -/

/-- An argument check. -/
def argIf (ok : Bool) : Option Ans := if ok then none else some .badArg

/-- A SLOW opcode whose arguments need no check of their own. -/
def noChk (_m : Msg) (_s : State) : Option Ans := none

/-- The work of a ticket reaches its next stage. -/
def State.toStage (s : State) (t : Tkt) (stage : Nat) (aux : List Nat := []) : State :=
  s.putTkt { t with stage := stage, aux := aux }

/-- A failure for which R251 lists no DETAIL: the STATUS that the rules give, the DETAIL a free value. -/
def State.endFree (s : State) (t : Tkt) (code : BitVec 4) : State :=
  let (v, s) := s.draw
  s.endTkt t ⟨code, v.toNat % 256, []⟩

/-- The word with bit `p` set for each port that satisfies `f`, from port `64 * w` on. -/
def portBits (w : Nat) (f : Nat → Bool) : Nat :=
  ((List.range 64).map (fun j => if 64 * w + j < 144 && f (64 * w + j) then 2 ^ j else 0)).sum

/-! ### General opcodes (R259) -/

/-- NOP (R259): W1 to W7 echo the arguments. -/
def execNop (k : Fin 8) (s : State) : Out :=
  .next (s.fmpFast k.val 0x00 (fun m s => (s, .ok ((List.range 7).map (fun j => msgWord m.data (j + 1))))))

/-- INFO (R259). -/
def execInfo (k : Fin 8) (s : State) : Out :=
  .next (s.fmpFast k.val 0x01 (fun _ s =>
    (s, .ok [0x0302 + s.fld A.GLB_FMP_STATUS F.GLB_FMP_STATUS_FW_VERSION * 2 ^ 32,
      s.mode + s.fmp.tickets.length * 2 ^ 8 + (s.fmp.tickets.filter (fun t => t.pair = k.val)).length * 2 ^ 16])))

/-- The ticket of pair `k` that a command names. -/
def State.ownTkt (s : State) (k : Nat) (m : Msg) : Option Tkt :=
  s.fmp.tickets.find? (fun t => t.pair = k && t.num = msgWord m.data 1 % 256)

/-- TICKET_STATUS, state of a ticket: 0 WAITING for its slot (R271) or for set 7 (R258), 1 RUNNING, 2 DONE. -/
def State.tktState (s : State) (t : Tkt) : Nat :=
  if t.st = 2 then 2
  else if s.fmp.tests.any (fun x => x.ticket = t.num && x.kind < 4 && !x.run) then 0
  else if t.op = 0x40 && (t.stage = 0 || (t.stage = 1 && msgWord t.cmd 1 % 16 = 4)) then 0
  else if t.stage = 0 && (resOf t.cmd).contains .set7 && s.setSt 7 ≠ SetSt.IDLE then 0
  else 1

/-- The answer of TICKET_STATUS; a QUIET ticket read DONE is freed (R256). -/
def State.tktReport (s : State) (t : Tkt) : State × Ans :=
  let st := s.tktState t
  let w1 := t.op + t.seq * 2 ^ 8 + st * 2 ^ 24
  let (units, s) := s.draw
  if st ≠ 2 then (s, .ok [w1, units.toNat])
  else
    let s' := if t.quiet then s.setTickets (s.fmp.tickets.erase t) else s
    (s', .ok ([w1 + t.status.toNat * 2 ^ 32 + t.detail * 2 ^ 40, units.toNat] ++ (t.words.take 5).map (·.toNat)))

/-- TICKET_STATUS (R259); the unit of "units done" is not stated: a free value. -/
def execTicketStatus (k : Fin 8) (s : State) : Out :=
  .next (s.fmpFast k.val 0x02 (fun m s => match s.ownTkt k.val m with
    | some t => s.tktReport t
    | none => (s, .unknownTicket)))

/-- R259: the ticket has not passed its last cancellable point. -/
def State.mayCancel (s : State) (t : Tkt) : Bool :=
  if t.st = 2 then false
  else
    match t.op with
    | 0x13 => t.stage = 0 || (t.stage = 1 && setArg t.cmd = 0xFF)
    | 0x19 => t.stage = 0 || (t.stage = 1 && setArg t.cmd = 0xFF)
    | 0x49 => t.stage < 2
    | 0x21 => t.stage = 0
    | 0x40 => t.stage = 0 || (t.stage = 1 && (msgWord t.cmd 1 % 16 = 4 || s.tktState t = 0))
    | 0x48 => true
    | 0x1B => true
    | 0x34 => true
    | 0x51 => true
    | 0x31 => true
    | _ => false

/-- R259: what a cancelled command has done is undone: set 7 is aborted, the bank or plat set named is unprepared. -/
def State.undo (s : State) (t : Tkt) : State :=
  let s := if t.stage = 1 ∧ (resOf t.cmd).contains .set7 then s.abortSet 7 1 else s
  if t.op = 0x13 then { s with fmp := { s.fmp with prep := none } }
  else if t.op = 0x19 then { s with fmp := { s.fmp with plats := [], entries := [] } }
  else if t.op = 0x40 then s.setTests (s.fmp.tests.filter (fun x => !(x.ticket = t.num && x.kind < 4)))
  else s

/-- TICKET_CANCEL (R259). -/
def execTicketCancel (k : Fin 8) (s : State) : Out :=
  .next (s.fmpFast k.val 0x03 (fun m s => match s.ownTkt k.val m with
    | none => (s, .unknownTicket)
    | some t => if s.mayCancel t then (((s.undo t).orphan t).endTkt t .cancelled, .ok) else (s, .noCancel)))

/-! MODE_SET (R372, R375) -/

/-- Every endpoint port but the command-pair hosts is DISABLED. -/
def State.onlyHosts (s : State) : Bool :=
  (List.range 144).all (fun p => s.niState p = 0 || s.bit (A.NI_ENUM p) F.NI_ENUM_HOST_PAIR)

/-- R375: the transition to a target is accepted. -/
def State.modeOk (s : State) (tgt : Nat) : Bool :=
  if tgt = Mode.RUN then s.running || ((s.mode = Mode.ENUMERATE || s.mode = Mode.DIAGNOSE) && s.fmp.enumOk)
  else if tgt = Mode.DIAGNOSE then s.mode = Mode.ENUMERATE || s.running || s.mode = Mode.DIAGNOSE
  else if tgt = Mode.ENUMERATE then s.mode = Mode.ENUMERATE || (s.mode = Mode.DIAGNOSE && s.onlyHosts)
  else false

/-- MODE_SET (R259, R375). -/
def execModeSet (k : Fin 8) (s : State) : Out :=
  .next (s.fmpSlow k.val 0x04 (fun m s => if s.modeOk (msgWord m.data 1) then none else some .mode))

/-- The work of MODE_SET: entry into DIAGNOSE waits for every committed set. -/
def State.workModeSet (s : State) (t : Tkt) : State :=
  let tgt := msgWord t.cmd 1
  if !s.modeOk tgt then s.endTkt t .mode
  else if tgt = Mode.RUN then
    if s.running then s.endTkt t (.ok [s.mode])
    else
      let s := s.toMode (runMode s.causes)
      s.endTkt t (.ok [s.mode])
  else if tgt = Mode.DIAGNOSE ∧
      (List.range 8).any (fun n => s.setSt n = SetSt.COMMITTED || s.setSt n = SetSt.APPLYING) then s
  else
    let s := s.toMode tgt
    s.endTkt t (.ok [s.mode])

/-! REG_SET (R260) -/

/-- Fields written in a register from the same fields of `v`. -/
def State.putFlds (s : State) (a : Nat) (fs : List Fld) (v : Word) : State := fs.foldl (fun s f => s.setFld a f (f.get v)) s

/-- The bits of some fields. -/
def fldMask (fs : List Fld) : Word := fs.foldl (fun w f => f.put w (2 ^ 64 - 1)) 0

/-- The weights W0 to W5 of STN_CLASS_WEIGHT. -/
def weightFlds : List Fld := (List.range 6).map (fun c => ⟨8 * c, 8⟩)

/-- REG_SET: a selector's write, none when a check of R260 fails. -/
def State.regSet (s : State) (sel idx : Nat) (v : Word) : Option State :=
  let only (fs : List Fld) : Bool := v &&& ~~~(fldMask fs) = 0
  let merged (a : Nat) (fs : List Fld) : Word := (s.putFlds a fs v).rd a
  let police (size : Bool) (a : Nat) (fs : List Fld) : Option State :=
    if idx < 12 && only fs then
      match s.writePolicer idx size (s.fmpReq (merged a fs)) with
      | (t, c) => if c = Code.OK then some t else none
    else none
  match sel with
  | 1 =>
    if idx = 0 && only weightFlds && weightFlds.all (fun f => f.get v ≠ 0) then
      some ((List.range 36).foldl (fun s i => s.putFlds (A.STN_CLASS_WEIGHT i) weightFlds v) s)
    else none
  | 2 => police false (A.FED_POLICE_RATE idx) [F.FED_POLICE_RATE_RATE_C, F.FED_POLICE_RATE_RATE_P]
  | 3 => police true (A.FED_POLICE_SIZE idx) [F.FED_POLICE_SIZE_SIZE_C, F.FED_POLICE_SIZE_SIZE_P]
  | 4 =>
    let fs := [F.NI_PORT_CTL_QACK_LIMIT, F.NI_PORT_CTL_TS_LIMIT]
    if idx < 144 && only fs && fs.all (fun f => f.get v ≠ 0) then some (s.putFlds (A.NI_PORT_CTL idx) fs v) else none
  | 5 => if idx = 0 && only [F.LCK_CFG_MIN_PRIV] then some (s.putFlds A.LCK_CFG [F.LCK_CFG_MIN_PRIV] v) else none
  | 6 => if idx = 0 && only [⟨0, 7⟩] then some (s.putFlds A.STK_CFG [⟨0, 7⟩] v) else none
  | 7 =>
    let fs := [F.DAT_CTL_VERIFY_EN, F.DAT_CTL_VERIFY_PERIOD]
    let n := F.DAT_CTL_VERIFY_PERIOD.get v
    if idx = 0 && only fs && decide (10 ≤ n) && decide (n ≤ 24) then some (s.putFlds A.DAT_CTL fs v) else none
  | _ => none

/-- REG_SET (R260). -/
def execRegSet (k : Fin 8) (s : State) : Out :=
  .next (s.fmpFast k.val 0x05 (fun m s =>
    let w1 := msgWord m.data 1
    match s.regSet (w1 % 256) (bitsOf w1 8 8) (BitVec.ofNat 64 (msgWord m.data 2)) with
    | some t => (t, .ok)
    | none => (s, .badArg)))

/-! MBX_CONFIG (R229, R240) -/

/-- R240: channels `a` and `b` may be declared a pair with these values; the channel refused otherwise. -/
def State.pairOk (s : State) (a b : Nat) (va vb : Word) : Option Nat :=
  let free (n : Nat) (x : Nat) : Bool := match s.pairOf n with
    | some m => m = x
    | none => true
  let names (v : Word) (x : Nat) : Bool := F.MBX_CH_CFG_PAIR_VALID.get v = 1 && F.MBX_CH_CFG_PAIR.get v = x
  if !(a ≠ b && names va b && F.MBX_CH_CFG_ANY.get va = 0 && free a b &&
      F.MBX_CH_CFG_RECEIVER.get va = F.MBX_CH_CFG_SENDER.get vb) then some a
  else if !(names vb a && F.MBX_CH_CFG_ANY.get vb = 0 && free b a &&
      F.MBX_CH_CFG_RECEIVER.get vb = F.MBX_CH_CFG_SENDER.get va) then some b
  else none

/-- MBX_CONFIG (R259): both channels are written or neither. -/
def State.mbxConfig (s : State) (m : Msg) : State × Ans :=
  let w1 := msgWord m.data 1
  let a := w1 % 128
  let b := bitsOf w1 8 7
  let both := w1.testBit 15
  let va : Word := BitVec.ofNat 64 (msgWord m.data 2)
  let vb : Word := BitVec.ofNat 64 (msgWord m.data 3)
  if a < 16 ∨ (both ∧ b < 16) ∨ (!both ∧ vb ≠ 0) then (s, .badArg)
  else if !both then
    if F.MBX_CH_CFG_PAIR_VALID.get va = 1 ∨ !s.mbxCfgOk a va then (s, .mbxCfg a) else (s.fmpMbxCfg a va, .ok)
  else if !s.mbxCfgOk a va then (s, .mbxCfg a)
  else if !s.mbxCfgOk b vb then (s, .mbxCfg b)
  else
    match s.pairOk a b va vb with
    | some x => (s, .mbxCfg x)
    | none => ((s.fmpMbxCfg a va).fmpMbxCfg b vb, .ok)

/-- MBX_CONFIG (R259). -/
def execMbxConfig (k : Fin 8) (s : State) : Out := .next (s.fmpFast k.val 0x06 (fun m s => s.mbxConfig m))

/-- LOCK_FORCE (R199, R259): the lock becomes free; W1 is the former owner, a free value when it had none. -/
def execLockForce (k : Fin 8) (s : State) : Out :=
  .next (s.fmpFast k.val 0x07 (fun m s =>
    let l := msgWord m.data 1 % 256
    if s.lockHeld l then ((s.lockFree l).sat A.LCK_STATUS F.LCK_STATUS_FORCED, .ok [s.lockOwner l])
    else
      let (v, s) := s.draw
      (s, .ok [v.toNat % 2 ^ 18])))

/-! ### Enumeration (R261, R388 to R391) -/

/-- MAP_LOAD (R261). -/
def execMapLoad (k : Fin 8) (s : State) : Out :=
  .next (s.fmpSlow k.val 0x08 (fun m _ => argIf (bufOk m.data)))

/-- The work of MAP_LOAD. -/
def State.workMapLoad (s : State) (t : Tkt) : State :=
  s.withBuf t (fun s t bs =>
    match parseMap bs with
    | none => s.endTkt t .badArg
    | some m => { s with fmp := { s.fmp with map := some m } }.endTkt t (.ok [m.recs.length]))

/-- R261: bank 0 holds a route besides those of boot step 5 (R387). -/
def State.bankFilled (s : State) : Bool :=
  let boot (sk dk : Nat) : Bool := (sk = 240 && s.fmp.bootRoutes.contains dk) || (dk = 240 && s.fmp.bootRoutes.contains sk)
  (List.range 256).any (fun sk => (List.range 256).any (fun dk => !boot sk dk && !noRoute (s.routeAt 0 sk dk)))

/-- ENUMERATE (R261). -/
def execEnumerate (k : Fin 8) (s : State) : Out :=
  .next (s.fmpSlow k.val 0x09 noChk (fun m s =>
    if (msgWord m.data 1).testBit 0 || s.bankFilled then none else some .notPrepared))

/-- The ports that the map marks PRESENT. -/
def State.presentPorts (s : State) : List Nat :=
  match s.fmp.map with
  | some m => (m.recs.filter (·.present)).map (·.port)
  | none => []

/-- The work of ENUMERATE: bank 0 is filled, every port's admission begins, and when all have ended the counts are given. -/
def State.workEnumerate (s : State) (t : Tkt) : State :=
  if t.stage = 0 then
    let s := if (msgWord t.cmd 1).testBit 0 then s.autoRoute else s
    (s.presentPorts.foldl (fun s p => s.admitStart p) s).toStage t 1
  else if !s.fmp.admissions.isEmpty then s
  else
    let on (p : Nat) : Bool := s.niState p = 1
    let held := s.presentPorts.filter (fun p => s.bit (A.NI_ENUM p) F.NI_ENUM_HELD)
    { s with fmp := { s.fmp with enumOk := true } }.endTkt t
      (.ok [((List.range 144).filter on).length, held.length, portBits 0 on, portBits 1 on, portBits 2 on])

/-! ### Ports (R261, R286) -/

/-- A command that names a port in W1 [7:0]. -/
def portArg (m : Msg) (_s : State) : Option Ans := argIf (decide (msgWord m.data 1 % 256 < 144))

/-- The port that a ticket's command names. -/
def Tkt.port (t : Tkt) : Nat := msgWord t.cmd 1 % 256

/-- PORT_ENABLE (R261). -/
def execPortEnable (k : Fin 8) (s : State) : Out := .next (s.fmpSlow k.val 0x0A portArg)

/-- DETAIL UNIT for a port as it is held (R251, R391). -/
def State.unitAns (s : State) (p : Nat) : Ans :=
  let fail := s.fld (A.NI_PORT_STATUS p) F.NI_PORT_STATUS_DESC_FAIL
  .unit fail (s.fld (A.NI_ENUM p) F.NI_ENUM_HELD = 1 && fail = 0)

/-- The work of PORT_ENABLE: steps 2 to 6 of R389 for a port whose domain is up. -/
def State.workPortEnable (s : State) (t : Tkt) : State :=
  let p := t.port
  if s.fmp.admissions.any (fun e => e.1 = p) then s
  else if s.niState p = PortStt.ENABLED then s.endTkt t (.ok [s.fld (A.NI_ENUM p) F.NI_ENUM_PRIV])
  else if t.stage ≠ 0 then s.endTkt t (s.unitAns p)
  else if s.niState p ≠ PortStt.DISABLED then s.endTkt t .badArg
  else if (s.portRec p).isNone then s.endTkt t (.unit 0 true)
  else if s.wipedBad p then (s.holdPort p 4).endTkt t (.unit 0 false)
  else if !s.pwrUp p then s.endTkt t (.unit 1 false)
  else { s with fmp := { s.fmp with admissions := s.fmp.admissions ++ [(p, 1, s.datum)] } }.toStage t 1

/-- PORT_DISABLE (R261). -/
def execPortDisable (k : Fin 8) (s : State) : Out := .next (s.fmpSlow k.val 0x0B portArg)

/-- TIMEOUT endings of a port's requests so far (R305). -/
def State.timeouts (s : State) (p : Nat) : Nat := s.fld (A.NI_TROUBLE1 p) F.NI_TROUBLE1_TIMEOUT

/-- The work of PORT_DISABLE and, with `cmd` 3, DOMAIN_DOWN: the command is given, and the ticket ends when the port has
left DISABLING, or QUIESCE has reached PWR_DOWN_OK, or on an isolation (R289). -/
def State.workPortDown (s : State) (t : Tkt) (cmd : Nat) : State :=
  let p := t.port
  if t.stage = 0 then
    match s.portCmd p cmd with
    | (s', c) => if c ≠ Code.OK then s.endTkt t .badArg else s'.toStage t 1 [s.timeouts p]
  else
    let busy := if cmd = 2 then s.niState p = PortStt.DISABLING
      else s.niState p = PortStt.QUIESCE && !s.bit (A.NI_CTL p) F.NI_CTL_PWR_DOWN_OK
    if busy then s else s.endTkt t (.ok [s.timeouts p - t.aux.headD 0])

/-- PORT_ISOLATE (R261, R289). -/
def execPortIsolate (k : Fin 8) (s : State) : Out :=
  .next (s.fmpFast k.val 0x0C (fun m s =>
    let p := msgWord m.data 1 % 256
    if 144 ≤ p then (s, .badArg)
    else
      match s.portCmd p 5 with
      | (s', c) => if c = Code.OK then (s', .ok) else (s, .badArg)))

/-- PORT_STATUS (R261): DISABLING is reported as 0 (R286). -/
def execPortStatus (k : Fin 8) (s : State) : Out :=
  .next (s.fmpFast k.val 0x0D (fun m s =>
    let p := msgWord m.data 1 % 256
    if 144 ≤ p then (s, .badArg)
    else
      (s, .ok [s.niState p % 4 + s.fld (A.NI_ENUM p) F.NI_ENUM_PRIV * 2 ^ 4 +
        s.fld (A.NI_PORT_STATUS p) F.NI_PORT_STATUS_DESC_STATE * 2 ^ 8, s.desc p 0x10 8])))

/-! ### Domains (R268, R335) -/

/-- DOMAIN_DOWN (R268). -/
def execDomainDown (k : Fin 8) (s : State) : Out := .next (s.fmpSlow k.val 0x28 portArg)

/-- DOMAIN_UP (R268). -/
def execDomainUp (k : Fin 8) (s : State) : Out := .next (s.fmpSlow k.val 0x29 portArg)

/-- The work of DOMAIN_UP: RESUME, then PWR_UP within 10 ms. -/
def State.workDomainUp (s : State) (t : Tkt) : State :=
  let p := t.port
  if t.stage = 0 then (s.portCmd p 4).1.toStage t 1
  else if s.pwrUp p then s.endTkt t .ok
  else if s.datum < t.at' + 20000000 then s
  else s.endFree t Code.TIMEOUT

/-- DOMAIN_STATUS (R268). -/
def execDomainStatus (k : Fin 8) (s : State) : Out :=
  .next (s.fmpFast k.val 0x2A (fun m s =>
    let p := msgWord m.data 1 % 256
    let b (x : Bool) (n : Nat) : Nat := if x then n else 0
    if 144 ≤ p then (s, .badArg)
    else (s, .ok [b (s.bit (A.NI_DOM p) F.NI_DOM_ACK) 1 + b (s.niState p = PortStt.QUIESCE) 2 + b (s.wakePending p) 4])))

end Sys2Proof.Machine
end

