-- ==== Sys2Proof/Machine/FmpRoutes.lean ====
section
/-!
DEFINITION. Machine/FmpRoutes.lean: stakes that carry a command's shadows (R258), and the route opcodes (R262 to R264) with
FED_MAP (R393, R395).
-/
namespace Sys2Proof.Machine

/-! ### The stake of a command (R258) -/

/-- Set 7 is free for a command: not in use, and no work of the FMP waits for it. -/
def State.set7Free (s : State) : Bool := s.idle7 && s.fmp.own7.isNone && s.fmp.laneFails.isEmpty

/-- The ticket opens set 7, or waits until it is IDLE; in a mode in which no set can open it ends ABORTED by MODE. -/
def State.startSet7 (s : State) (t : Tkt) : State :=
  if !s.openMode then s.endTkt t (.aborted 6) else if s.set7Free then s.open7.toStage t 1 else s

/-- With set 7 open, the shadows of a ticket are placed and the set is closed; a set that has aborted meanwhile ends the
ticket, and so does a shadow that its block refuses (R135). -/
def State.fillSet7 (s : State) (t : Tkt) (l : List (Nat × Word)) (t0 lead : Nat) : State :=
  if s.setSt 7 = SetSt.OPEN then
    match s.placeAll 7 l with
    | (s', true) => (s'.close7 t0 lead).toStage t 2 [granCode (s'.needGran 7)]
    | (_, false) => (s.abortSet 7 1).endFree t Code.DENY
  else
    match s.set7Result with
    | some (some a) => s.endTkt t a
    | some none => s.endTkt t (.aborted 1)
    | none => s

/-- The shadows of a ticket are placed in the host's set `n` (R258); the set is judged again. -/
def State.fillHostSet (s : State) (t : Tkt) (l : List (Nat × Word)) : State × Bool :=
  let n := setArg t.cmd
  match (if 8 ≤ n then some Ans.badArg else s.setArgChk ⟨t.src, t.priv, 0, 0, t.cmd⟩) with
  | some a => (s.endTkt t a, false)
  | none =>
    match s.placeAll n l with
    | (s', true) => (s', true)
    | (_, false) => (s.endFree t Code.DENY, false)

/-- How the host's set `n` has ended (R148, R251); none while it has not. -/
def State.hostSetResult (s : State) (n : Nat) : Option (Option Ans) :=
  if s.setSt n ≠ SetSt.IDLE then none
  else
    let r := s.fld (A.STK_SET_STATUS n) F.STK_SET_STATUS_RESULT
    if r = 1 then some none
    else if r = 3 then some (some (.aborted (s.fld (A.STK_SET_STATUS n) F.STK_SET_STATUS_REASON)))
    else some (some (.applyFault r (s.firstFault n)))

/-! ### Route records (R263) -/

/-- The route records of a buffer: source key, destination key, route; none when one breaks R263. -/
def routeRecs (bs : List Byte) : Option (List (Nat × Nat × BitVec 64)) :=
  let n := bs.length / 16
  if bs.length ≠ 16 * n ∨ (List.range n).any (fun i => decide (2 ^ 16 ≤ bufWord bs (2 * i))) then none
  else
    some ((List.range n).map (fun i =>
      let h := bufWord bs (2 * i)
      (h % 256, bitsOf h 8 8, BitVec.ofNat 64 (bufWord bs (2 * i + 1)))))

/-- R77: route records are linted and stored in order in bank `n`; the code and index of the first that fails. -/
def State.putRecs (s : State) (n i : Nat) : List (Nat × Nat × BitVec 64) → Except (Nat × Nat) State
  | [] => .ok s
  | (sk, dk, r) :: rest =>
    let c := s.recordCode n sk dk r
    if c ≠ 0 then .error (c, i) else (s.putRoute n sk dk r).putRecs n (i + 1) rest

/-- ROUTE_PREPARE (R262). -/
def execRoutePrepare (k : Fin 8) (s : State) : Out :=
  .next (s.fmpSlow k.val 0x10 (fun m _ => argIf (bufOk m.data))
    (fun _ s => if s.fmp.drain.isSome then some .draining else none))

/-- The work of ROUTE_PREPARE (R85 steps 1 and 2, R264): a bank prepared earlier is discarded at its start. -/
def State.workPrepare (s : State) (t : Tkt) : State :=
  { s with fmp := { s.fmp with prep := none } }.withBuf t (fun s t bs =>
    match routeRecs bs with
    | none => s.endTkt t .badArg
    | some rs =>
      let n := s.freeBank
      match (s.copyBank (s.curTrav 192) n (fun _ _ r => r)).putRecs n 0 rs with
      | .error (c, i) => s.endTkt t (.lint c i)
      | .ok s => { s with fmp := { s.fmp with prep := some (n, t.pair) } }.endTkt t (.ok [n, rs.length]))

/-- R262: the bank that ROUTE_WRITE names is the prepared one or in use (R69). -/
def State.writable (s : State) (n : Nat) : Bool := s.fmp.prep.map (·.1) = some n || s.bankInUse n

/-- ROUTE_WRITE (R262). -/
def execRouteWrite (k : Fin 8) (s : State) : Out :=
  .next (s.fmpSlow k.val 0x11 (fun m _ => argIf (bufOk m.data))
    (fun m s => if s.writable (msgWord m.data 1) then none else some .notPrepared))

/-- The work of ROUTE_WRITE. -/
def State.workRouteWrite (s : State) (t : Tkt) : State :=
  let n := msgWord t.cmd 1
  s.withBuf t (fun s t bs =>
    match routeRecs bs with
    | none => s.endTkt t .badArg
    | some rs =>
      match s.putRecs n 0 rs with
      | .error (c, i) => s.endTkt t (.lint c i)
      | .ok s => s.endTkt t (.ok [0, rs.length]))

/-- ROUTE_READ (R262). -/
def execRouteRead (k : Fin 8) (s : State) : Out :=
  .next (s.fmpFast k.val 0x12 (fun m s =>
    let w := msgWord m.data 1
    (s, .ok [(s.routeAt (w % 4) (bitsOf w 8 8) (bitsOf w 16 8)).toNat])))

/-! ### The switch (R79, R85) -/

/-- ROUTE_SWITCH (R262). -/
def execRouteSwitch (k : Fin 8) (s : State) : Out :=
  .next (s.fmpSlow k.val 0x13 (fun m _ => argIf (decide (2048 ≤ msgWord m.data 3) && setArgOk m))
    (fun m s =>
      (s.setArgChk m).orElse (fun _ =>
        if s.fmp.drain.isSome then some .draining
        else if s.fmp.prep.map (·.1) ≠ some (msgWord m.data 1 % 4) then some .notPrepared
        else none)))

/-- R85 step 5: the ticket follows the drain of the old traverse. -/
def State.followDrain (s : State) (t : Tkt) (w1 : Nat) : State :=
  match s.fmp.drain with
  | none => s.endTkt t (.ok [w1, s.datum])
  | some (c, _) =>
    if s.drainDone c then s.endTkt t (.ok [w1, s.datum, c])
    else if s.fmp.stalled then s.endTkt t .drainStall
    else s

/-- The stake of a ROUTE_SWITCH has ended: when it applied, the drain begins. From the instant at which the switch took effect,
in an APPLYFAULT too, the bank is no prepared one (`State.applyGlb`). -/
def State.switched (s : State) (t : Tkt) (n : Nat) : Option Ans → State
  | some a => s.endTkt t a
  | none => s.toStage t 3 [s.effT n]

/-- The work of ROUTE_SWITCH: the switch's shadows in set 7 or the host's set, the set's result, the drain. -/
def State.workSwitch (s : State) (t : Tkt) : State :=
  let bank := msgWord t.cmd 1 % 4
  let n := setArg t.cmd
  if t.stage = 3 then s.followDrain t (t.aux.headD 0)
  else if n = 0xFF then
    if t.stage = 0 then s.startSet7 t
    else if t.stage = 1 then s.fillSet7 t (s.switchShadows bank) (msgWord t.cmd 2) (msgWord t.cmd 3)
    else
      match s.set7Result with
      | none => s
      | some a => s.switched t 7 a
  else if t.stage = 0 then
    match s.fillHostSet t (s.switchShadows bank) with
    | (s, true) => s.toStage t 4
    | (s, false) => s
  else
    match s.hostSetResult n with
    | none => s
    | some a => s.switched t n a

/-- ROUTE_DRAIN (R262). -/
def execRouteDrain (k : Fin 8) (s : State) : Out := .next (s.fmpSlow k.val 0x14 noChk)

/-- The work of ROUTE_DRAIN: step 5 of R85 once more. With no traverse draining, its old traverse is a free value. -/
def State.workDrain (s : State) (t : Tkt) : State :=
  match s.fmp.drain with
  | none =>
    let (v, s) := s.draw
    s.endTkt t (.ok [0, s.datum, v.toNat % 4])
  | some (c, _) =>
    if t.stage = 0 then
      ({ s with fmp := { s.fmp with drain := some (c, s.datum), stalled := false } }.toStage t 1).followDrain
        { t with stage := 1 } 0
    else s.followDrain t 0

/-- ROUTE_FINISH (R262). -/
def execRouteFinish (k : Fin 8) (s : State) : Out :=
  .next (s.fmpSlow k.val 0x15 noChk (fun m s => match s.fmp.drain with
    | some (c, _) => if s.drainDone c || (msgWord m.data 1).testBit 0 then none else some .draining
    | none => none))

/-- The work of ROUTE_FINISH (R85 step 7): the old bank is retired, and free once every NI has invalidated it (R78). With
no traverse draining, the bank named freed is a free value. -/
def State.workFinish (s : State) (t : Tkt) : State :=
  if t.stage = 0 then
    match s.fmp.drain with
    | some (c, _) => (s.retireBank c).sweepOn.toStage t 1 [c]
    | none =>
      let (v, s) := s.draw
      s.endTkt t (.ok [v.toNat % 4])
  else
    let s := s.sweepOn
    if s.swept then s.bankFreed.endTkt t (.ok t.aux) else s

/-! ### Cache preload (R262) -/

/-- ROUTE_CACHE_LOAD (R262). -/
def execRouteCacheLoad (k : Fin 8) (s : State) : Out :=
  .next (s.fmpSlow k.val 0x16 (fun m _ => argIf (decide (msgWord m.data 1 < 144) && bufOk m.data)))

/-- One destination preloaded in the cache of NI `p`: whether its route was found and passes lint (R76). -/
def State.preload (s : State) (p : Nat) (d : Gid) : State × Bool :=
  let t := s.curTrav p
  match s.destKey d with
  | none => (s, false)
  | some dk =>
    let r := s.routeAt t p dk
    if noRoute r ∨ s.lint t r p dk ≠ 0 then (s, false) else (s.cacheFill p t d r, true)

/-- The work of ROUTE_CACHE_LOAD. -/
def State.workCacheLoad (s : State) (t : Tkt) : State :=
  s.withBuf t (fun s t bs =>
    let n := bs.length / 8
    let ds := (List.range n).map (bufWord bs)
    if ds.any (fun x => decide (2 ^ 18 ≤ x)) then s.endTkt t .badArg
    else
      let (s, got) := ds.foldl (fun (x : State × Nat) d =>
        match x.1.preload t.port (BitVec.ofNat 18 d) with
        | (s, ok) => (s, if ok then x.2 + 1 else x.2)) (s, 0)
      s.endTkt t (.ok [got, n - got]))

/-! ### The federation map (R393, R395) -/

/-- A mailbox party that named the old instance names the new one (R393). -/
def State.renameParty (s : State) (n : Nat) (f : Fld) (old new : Nat) : State :=
  let v := s.fld (A.MBX_CH_CFG n) f
  if v / 256 = old then s.setFld (A.MBX_CH_CFG n) f (new * 256 + v % 256) else s

/-- FED_MAP with f = 15 (R393): the instance takes a number. -/
def State.setInstance (s : State) (i : Nat) : State × Ans :=
  if s.mode ≠ Mode.ENUMERATE ∨ !(List.range 12).all (fun f => s.fedState f = FedState.DOWN) ∨ !s.onlyHosts then (s, .mode)
  else
    let old := s.instance'
    let s := s.setFld A.GLB_FED_ID F.GLB_FED_ID_INSTANCE i
    ((List.range 128).foldl (fun s n =>
      (s.renameParty n F.MBX_CH_CFG_SENDER old i).renameParty n F.MBX_CH_CFG_RECEIVER old i) s, .ok)

/-- FED_MAP (R262, R395). -/
def execFedMap (k : Fin 8) (s : State) : Out :=
  .next (s.fmpFast k.val 0x17 (fun m s =>
    let w := msgWord m.data 1
    let i := w % 1024
    let f := bitsOf w 10 4
    let valid := w.testBit 14
    if f = 15 then (if valid then s.setInstance i else (s, .badArg))
    else if 12 ≤ f ∨ (valid ∧ i = s.instance') then (s, .badArg)
    else
      let a := A.GLB_FED_MAP i
      ((s.setFld a F.GLB_FED_MAP_PORT f).setFld a F.GLB_FED_MAP_VALID (if valid then 1 else 0), .ok)))

end Sys2Proof.Machine
end

