-- ==== Sys2Proof/Machine/FmpPlats.lean ====
section
/-!
DEFINITION. Machine/FmpPlats.lean: the plat, chain and stake opcodes of the FMP (R265 to R267).
-/
namespace Sys2Proof.Machine

/-- DETAIL PLATCHECK of a failed check (R251); where no record names the place, the record index is a free value. -/
def State.platFail (s : State) (f : PlatFail) : State × Ans :=
  match f.idx with
  | some i => (s, .platCheck f.word i)
  | none =>
    let (v, s) := s.draw
    (s, .platCheck f.word v.toNat)

/-- The 64-bit words of a buffer. -/
def bufWords (bs : List Byte) : List Nat := (List.range (bs.length / 8)).map (bufWord bs)

/-! ### PLAT_STAGE (R265, R266) -/

/-- PLAT_STAGE (R265). -/
def execPlatStage (k : Fin 8) (s : State) : Out := .next (s.fmpSlow k.val 0x18 (fun m _ => argIf (bufOk m.data)))

/-- R126: the port of a staged destination entry whose state configuration would be out of order, with the index of its
first record. -/
def State.planState (s : State) (p : Plan) : Option (Nat × Nat) :=
  p.ents.findSome? (fun e =>
    let q := e.2.port
    if !e.2.src && s.stateBad q (fun i => s.rd (A.NI_STATE_CFG q i)) (fun k => s.planReg p false q k false) then
      some (q, e.1) else none)

/-- R266: a PLAT record is written into the staged bank of its plat. -/
def State.writeStaged (s : State) (r : PlatRec) : State :=
  let b := 1 - s.platBank r.st r.n
  let s := s.setFld (A.STN_PLAT_CTL r.st r.n) (if b = 0 then F.STN_PLAT_CTL_LEN0 else F.STN_PLAT_CTL_LEN1) r.len
  (r.ents.zipIdx).foldl (fun s e => s.wrMem (platAddr r.st r.n b e.2) e.1 2) s

/-- R266: a plat set that has passed every check is staged; it replaces the one staged before. -/
def State.stagePlan (s : State) (p : Plan) : State :=
  let names := (p.plats.map (fun r => (r.2.st, r.2.n))).eraseDups
  let recs := names.filterMap (fun e => p.platFor e.1 e.2)
  let s := recs.foldl (fun s r => s.writeStaged r) s
  let keep := (p.ents.zipIdx).filter (fun e => !(p.ents.drop (e.2 + 1)).any (fun x =>
    x.2.src = e.1.2.src && x.2.port = e.1.2.port && x.2.k = e.1.2.k))
  let plats : List StagedPlat := recs.map (fun r => ⟨r.st, r.n, r.len, (p.platIdx r.st r.n).getD 0⟩)
  { s with fmp := { s.fmp with plats := plats, entries := keep.map (fun e => { e.1.2 with idx := e.1.1 }) } }

/-- The work of PLAT_STAGE: framing (R266), the plat checks (R109, R110), the state checks (R126), LOCKED plats (R106). -/
def State.workPlatStage (s : State) (t : Tkt) : State :=
  s.withBuf t (fun s t bs =>
    let ws := bufWords bs
    match framePlan (ws.length + 1) 0 {} ws with
    | .error i => s.endTkt t (.badArg [i])
    | .ok p =>
      match s.platCheck p with
      | some f =>
        let (s, a) := s.platFail f
        s.endTkt t a
      | none =>
        match s.planState p with
        | some (q, i) => s.endTkt t (.stateCfg q i)
        | none =>
          if p.plats.any (fun r => s.bit (A.STN_PLAT_CTL r.2.st r.2.n) F.STN_PLAT_CTL_LOCKED) then s.endTkt t (.conflict 0)
          else
            let s := s.stagePlan p
            s.endTkt t (.ok [s.fmp.plats.length, s.fmp.entries.length]))

/-! ### PLAT_SWAP (R106, R107, R265) -/

/-- Something is staged. -/
def State.staged (s : State) : Bool := !s.fmp.plats.isEmpty || !s.fmp.entries.isEmpty

/-- PLAT_SWAP (R265). -/
def execPlatSwap (k : Fin 8) (s : State) : Out :=
  .next (s.fmpSlow k.val 0x19 (fun m _ => argIf (setArgOk m))
    (fun m s => (s.setArgChk m).orElse (fun _ => if s.staged then none else some .notPrepared)))

/-- The staged set as a plan: the staged banks as they stand. -/
def State.stagedPlan (s : State) : Plan where
  plats := s.fmp.plats.map (fun e => (e.idx, ⟨e.st, e.n, e.len,
    (List.range (platLen e.len)).map (fun t => s.platAt e.st e.n (1 - s.platBank e.st e.n) t)⟩))
  ents := s.fmp.entries.map (fun e => (e.idx, e))

/-- The plats a flit takes with the entries that carry it. -/
def State.pathOf (s : State) (p : Plan) (r : FlitRun) : List (Nat × Nat × Nat) :=
  r.used.map (fun u => (u.1, u.2.1, s.planEntry p u.1 u.2.1 u.2.2))

/-- R107: unchanged rewrites of the source entries, not themselves staged, of chains whose path entries differ between the
banks. -/
def State.repathed (s : State) (p : Plan) : List (Nat × Word) :=
  let paths (q : Plan) (x : PlanSrc) : List (List (Nat × Nat × Nat)) :=
    (schInstants x.sch).map (fun d => s.pathOf q (s.runFlit q x.chain runFuel (inputOf x.b).1 (inputOf x.b).2 d))
  (s.planSrcs {}).filterMap (fun x =>
    if p.ents.any (fun e => e.2.src && e.2.port = x.b && e.2.k = x.k) || paths {} x = paths p x then none
    else some (srcCfgOf x.b x.k, s.rd (srcCfgOf x.b x.k)))

/-- R266: the shadows of a plat swap. -/
def State.swapShadows (s : State) : List (Nat × Word) :=
  let banks := s.fmp.plats.map (fun e => (A.STN_PLAT_CTL e.st e.n, F.STN_PLAT_CTL_BANK.put 0 (1 - s.platBank e.st e.n)))
  let ends := s.fmp.entries.flatMap (fun e =>
    if e.src then [(srcCfgOf e.port e.k, e.cfg), (srcSchOf e.port e.k, e.sch)] else [(dstCfgOf e.port e.k, e.cfg)])
  banks ++ ends ++ s.repathed s.stagedPlan

/-- The staged set is used up. -/
def State.unstage (s : State) : State := { s with fmp := { s.fmp with plats := [], entries := [] } }

/-- The work of PLAT_SWAP. -/
def State.workPlatSwap (s : State) (t : Tkt) : State :=
  let n := setArg t.cmd
  if n = 0xFF then
    if t.stage = 0 then s.startSet7 t
    else if t.stage = 1 then
      let t0 := msgWord t.cmd 2
      let lead := if t0 = 0 then msgWord t.cmd 3 else t0 - s.datum
      match (if s.setSt 7 = SetSt.OPEN then s.wakeLate s.stagedPlan lead else none) with
      | some f =>
        let (s, a) := s.platFail f
        (s.abortSet 7 1).endTkt t a
      | none => s.fillSet7 t s.swapShadows t0 (msgWord t.cmd 3)
    else
      match s.set7Result with
      | none => s
      | some (some a) => (if a.detail = 0x1B then s.unstage else s).endTkt t a
      | some none => s.unstage.endTkt t (.ok [t.aux.headD 0, s.effT 7])
  else
    match s.fillHostSet t s.swapShadows with
    | (s, true) => s.unstage.endTkt t (.ok [granCode (s.needGran n)])
    | (s, false) => s

/-! ### PLAT_PATCH and PLAT_READ (R105, R265) -/

/-- PLAT_PATCH (R265): checks ENTRY, UTURN and LIVE; a station that cannot take the patch now gives CONFLICT. -/
def execPlatPatch (k : Fin 8) (s : State) : Out :=
  .next (s.fmpFast k.val 0x1A (fun m s =>
    let w := msgWord m.data 1
    let (st, n, c, e) := (w % 64, bitsOf w 6 4, bitsOf w 10 10, bitsOf w 20 16)
    if 36 ≤ st ∨ 11 ≤ n ∨ s.bankLen st n (s.platBank st n) ≤ c then (s, .badArg)
    else
      match s.patchCheck st n c e with
      | some f => s.platFail f
      | none =>
        let x := s.tryPatch st (patchWord n c e)
        (x.1, if x.2 then .ok [(x.1.rd (A.STN_PLAT_PATCH_TIME st)).toNat] else .conflict 0)))

/-- PLAT_READ (R265). -/
def execPlatRead (k : Fin 8) (s : State) : Out :=
  .next (s.fmpSlow k.val 0x1B (fun m _ =>
    let w := msgWord m.data 1
    argIf (decide (w % 64 < 36) && decide (bitsOf w 6 4 < 11) && bufOk m.data && decide (2048 ≤ bufLen m.data))))

/-- The work of PLAT_READ: the 2 KiB image of a bank (R104). -/
def State.workPlatRead (s : State) (t : Tkt) : State :=
  let x := msgWord t.cmd 1
  let (st, n, b) := (x % 64, bitsOf x 6 4, bitsOf x 10 1)
  let bs := (List.range 2048).map (fun i => s.rdByte (platAddr st n b 0 + i))
  s.endBuf t bs [s.fld (A.STN_PLAT_CTL st n) (if b = 0 then F.STN_PLAT_CTL_LEN0 else F.STN_PLAT_CTL_LEN1)]

/-! ### Chains (R265, R103) -/

/-- The valid source entry of a chain. -/
def State.chainSrc (s : State) (c : Nat) : Option PlanSrc := (s.planSrcs {}).find? (fun x => x.chain = c)

/-- The blocks of the valid destination entries of a chain. -/
def State.chainDsts (s : State) (c : Nat) : List Nat := ((s.planDsts {}).filter (fun d => d.2 = c)).map (·.1)

/-- The probe of chain `c` last received at NI `p`: its arrival and its injection datum. -/
def State.probeSeen (s : State) (p c : Nat) : Option (Nat × Nat) :=
  let a := A.NI_CHAIN_PROBE_RXID p
  if p < 144 ∧ s.bit a F.NI_CHAIN_PROBE_RXID_VALID ∧ s.fld a F.NI_CHAIN_PROBE_RXID_CHAIN = c then
    some ((s.rd (A.NI_CHAIN_PROBE_RX p)).toNat, s.fld a F.NI_CHAIN_PROBE_RXID_SENT) else none

/-- CHAIN_INFO (R265): the latest probe is the one that arrived last at a destination of the chain. -/
def execChainInfo (k : Fin 8) (s : State) : Out :=
  .next (s.fmpFast k.val 0x1C (fun m s =>
    let c := msgWord m.data 1
    match s.chainSrc c with
    | none => (s, .badArg)
    | some x =>
      let ds := s.chainDsts c
      let last := (ds.filterMap (fun b => s.probeSeen b c)).foldl (fun (b : Nat × Nat) e => if b.1 ≤ e.1 then e else b) (0, 0)
      (s, .ok [x.b + x.k * 2 ^ 8 + ds.length * 2 ^ 16, (last.1 + 2 ^ 48 - last.2 % 2 ^ 48) % 2 ^ 48])))

/-- CHAIN_PROBE (R265): only a chain that an NI sends has a probe (R103). -/
def execChainProbe (k : Fin 8) (s : State) : Out :=
  .next (s.fmpSlow k.val 0x1D (fun m s => argIf (match s.chainSrc (msgWord m.data 1) with
    | some x => decide (x.b < 144)
    | none => false)))

/-- The work of CHAIN_PROBE: the probe is asked for, sent, and awaited at every destination for 10 µs at most. -/
def State.workChainProbe (s : State) (t : Tkt) : State :=
  let c := msgWord t.cmd 1
  match s.chainSrc c with
  | none => s.endTkt t .badArg
  | some x =>
    if t.stage = 0 then
      let v := F.NI_CHAIN_CTL_PROBE_GO.put (F.NI_CHAIN_CTL_PROBE_IDX.put 0 x.k) 1
      match s.writeChainCtl x.b (s.fmpReq v) with
      | (s', code) => if code = Code.OK then s'.toStage t 1 else s
    else if s.bit (A.NI_CHAIN_CTL x.b) F.NI_CHAIN_CTL_PROBE_PEND then s
    else
      let a := (s.rd (A.NI_CHAIN_PROBE_TX x.b)).toNat
      let seen (b : Nat) : Option Nat := (s.probeSeen b c).bind (fun e =>
        if e.2 = a % 2 ^ 48 then some (b + (e.1 - a) * 2 ^ 16) else none)
      let ds := (s.chainDsts c).filter (· < 144)
      if ds.all (fun b => (seen b).isSome) || decide (a + 20000 ≤ s.datum) then
        s.endTkt t (.ok (a :: (ds.filterMap seen).take 6))
      else s

/-! ### Stakes (R267) -/

/-- STAKE_INFO (R267). -/
def execStakeInfo (k : Fin 8) (s : State) : Out :=
  .next (s.fmpFast k.val 0x20 (fun m s =>
    let n := msgWord m.data 1
    let b := s.firstFault n
    let code := if b = 0xFF then 0 else s.setF b n F.NI_STK_SET_FAULT_CODE
    (s, .ok [(s.rd (A.STK_SET_STATUS n)).toNat, b + code * 2 ^ 8])))

/-- STATE_CONFIG (R267): of a host's set only. -/
def execStateConfig (k : Fin 8) (s : State) : Out :=
  .next (s.fmpSlow k.val 0x21 (fun m _ => argIf (decide (setArg m.data < 8) && bufOk m.data)) (fun m s => s.setArgChk m))

/-- The records of STATE_CONFIG: port, slot, NI_STATE_CFG; none when one is out of range or holds a reserved value. -/
def stateRecs (bs : List Byte) : Option (List (Nat × Nat × Word)) :=
  let rs := (List.range (bs.length / 16)).map (fun i =>
    let h := bufWord bs (2 * i)
    (h % 256, h / 256, (BitVec.ofNat 64 (bufWord bs (2 * i + 1)) : Word)))
  let ok (r : Nat × Nat × Word) : Bool := decide (r.1 < 144) && decide (r.2.1 < 256) &&
    !reservedEnc (A.NI_STATE_CFG r.1 r.2.1) r.2.2
  if bs.length % 16 = 0 && rs.all ok then some rs else none

/-- The work of STATE_CONFIG. -/
def State.workStateConfig (s : State) (t : Tkt) : State :=
  s.withBuf t (fun s t bs =>
    match stateRecs bs with
    | none => s.endTkt t .badArg
    | some rs =>
      let slot (p i : Nat) : Word :=
        match rs.reverse.find? (fun r => r.1 = p && r.2.1 = i) with
        | some r => r.2.2
        | none => s.rd (A.NI_STATE_CFG p i)
      match (rs.zipIdx).find? (fun r => s.stateBad r.1.1 (slot r.1.1) (fun k => s.rd (dstCfgOf r.1.1 k))) with
      | some r => s.endTkt t (.stateCfg r.1.1 r.2)
      | none =>
        match s.fillHostSet t (rs.map (fun r => (A.NI_STATE_CFG r.1 r.2.1, r.2.2))) with
        | (s, true) => s.endTkt t (.ok [granCode (s.needGran (setArg t.cmd))])
        | (s, false) => s)

/-- STAKE_ABORT (R267, R132). -/
def execStakeAbort (k : Fin 8) (s : State) : Out :=
  .next (s.fmpFast k.val 0x22 (fun m s =>
    let n := msgWord m.data 1
    let st := s.setSt n
    if st = SetSt.OPEN ∨ st = SetSt.CLOSING ∨ st = SetSt.WAITING then (s.abortSet n 1, .ok) else (s, .setState)))

end Sys2Proof.Machine
end

