-- ==== Sys2Proof/Machine/View.lean ====
section
/-!
DEFINITION. Machine/View.lean: what a register reads as (R7, R439): most registers hold their value; the ones here follow
from the rest of the state and are computed when they are read or copied by a survey.
-/
namespace Sys2Proof.Machine

/-- A packet waits in a class queue of its class or on the MGT path: NI_QUEUE_DEPTH (R170). -/
def State.queueDepth (s : State) (p : Nat) : Nat :=
  ((List.range 7).map (fun c => (tget [] (s.ni p).clsQ c).length % 128 * 2 ^ (8 * c))).sum
    + min (s.ni p).mgtQ.length 15 * 2 ^ 56

/-- Tags in use (R202, NI_RESP_POOL). -/
def State.tagsUsed (s : State) (p : Nat) : Nat :=
  ((List.range 4096).filter (fun t => s.tagUsed p t)).length

/-- NI_BAR_STATUS with its live fields (R202). -/
def State.barView (s : State) (p : Nat) (x : Word) : Word :=
  let q := (s.ni p).barrs
  let st := match q with
    | b :: _ => b.st
    | [] => 0
  let n := (q.map (fun b => b.wait.length)).sum
  F.NI_BAR_STATUS_PORT_BARS.put (F.NI_BAR_STATUS_QUEUED.put (F.NI_BAR_STATUS_STATE.put x st) q.length) (min n 256)

/-- The monitors' PROTECTED bits follow their grants (R193). -/
def State.monView (s : State) (p m : Nat) (x : Word) : Word :=
  F.NI_MONITOR_OWN_PROTECTED.put x (if s.monProtected p m then 1 else 0)

/-- NI_SLUICE_STATUS.INDEX: the operating entry in force (R160, R170). -/
def State.sluiceView (s : State) (p : Nat) : Nat :=
  if s.bit (A.NI_SLUICE_STATUS p) F.NI_SLUICE_STATUS_RUNNING then s.sluiceIndex p (s.nowOf p) else 0

/-- GLB_PWR_MAPk: power states of stations, a waking one as 3 (R350). -/
def State.pwrMap (s : State) (k : Nat) : Nat :=
  ((List.range (if k = 0 then 32 else 4)).map (fun j =>
    min (s.fld (A.STN_PWR_STATUS (32 * k + j)) F.STN_PWR_STATUS_STATE) 3 * 4 ^ j)).sum

/-- NI registers that follow from the rest of the state. -/
def State.viewNi (s : State) (p off : Nat) (x : Word) : Word :=
  if off = 0x100 then BitVec.ofNat 64 (s.nowOf p)
  else if off = 0x1200 then
    F.NI_STATE_STATUS_HELD.put (F.NI_STATE_STATUS_PENDING.put x (s.pendingSlots p)) (s.heldSlots p)
  else if off = 0x2418 then BitVec.ofNat 64 (s.queueDepth p)
  else if off = 0x2608 then F.NI_SLUICE_STATUS_INDEX.put x (s.sluiceView p)
  else if off = 0x2A10 then s.barView p x
  else if off = 0x2A18 then
    F.NI_RESP_POOL_RESERVED.put (F.NI_RESP_POOL_TAGS.put x (s.tagsUsed p)) (s.reserved p)
  else if 0x3600 ≤ off ∧ off < 0x3800 then s.monView p ((off - 0x3600) / 8) x
  else if off = 0x3908 then F.NI_PORT_STATUS_TS_OUT.put x (s.tsOut p)
  else x

/-- Station registers that follow from the rest of the state. -/
def State.viewStn (s : State) (st off : Nat) (x : Word) : Word :=
  if off = 0x100 then BitVec.ofNat 64 (s.nowOf (stnBlk st))
  else if 0x400 ≤ off ∧ off < 0x460 then
    let i := (off - 0x400) / 8
    BitVec.ofNat 64 (((List.range 7).map (fun v => min ((s.stn st).vc i v).buf.length 15 * 16 ^ v)).sum)
  else if 0x700 ≤ off ∧ off < 0x758 then
    let n := (off - 0x700) / 8
    F.STN_PLAT_CTL_RESV_COUNT.put x (s.resvCount st n)
  else if off = 0x778 then F.STN_HORIZON_NEXT.put 0 (s.horizon st)
  else x

/-- Global registers that follow from the rest of the state. -/
def State.viewGlb (s : State) (off : Nat) (x : Word) : Word :=
  if off = A.DAT_NOW then BitVec.ofNat 64 s.datum
  else if off = A.DAT_MER_STATUS then
    F.DAT_MER_STATUS_PENDING.put x (s.glb.merPend.filter (fun m => decide (m.req < s.datum))).length
  else if off = A.EVT_STATUS then F.EVT_STATUS_IRQ.put x s.irqOut
  else if off = A.GLB_PWR_MAP 0 then BitVec.ofNat 64 (s.pwrMap 0)
  else if off = A.GLB_PWR_MAP 1 then BitVec.ofNat 64 (s.pwrMap 1)
  else x

/-- The value a live register reads as: what it held at the start of the cycle (R440, R319). -/
def State.view (s : State) (a : Nat) : Word :=
  let x := (s.seenOf a).1
  match blkOf a with
  | some (.ni p, off) => s.viewNi p off x
  | some (.stn st, off) => s.viewStn st off x
  | some (.glb, off) => s.viewGlb off x
  | some (.fed f, 0x100) => BitVec.ofNat 64 (s.nowOf (fedBlk f))
  | _ => x

end Sys2Proof.Machine
end

