-- ==== Sys2Proof/Machine/Survey.lean ====
section
/-!
DEFINITION. Machine/Survey.lean: the survey (R315 to R317), the trace store (R324 to R326) and the configuration of
probes and tagging (R320 to R322).
-/
namespace Sys2Proof.Machine

/-! ### Requesting a survey (R315) -/

/-- R315: a write of SRV_CTL. -/
def State.writeSrvCtl (s : State) (r : Req) : State × BitVec 4 :=
  let pend := s.bit A.SRV_STATUS F.SRV_STATUS_PENDING
  let go := reqFld r F.SRV_CTL_GO = 1
  if go ∧ (pend ∨ s.bit A.SRV_STATUS F.SRV_STATUS_ARMED) then (s, Code.DENY)
  else
    let s := if reqFld r F.SRV_CTL_CANCEL = 1 ∧ pend then
        (s.setMer (s.glb.merPend.filter (fun m => match m.kind with | .surveyTick _ => false | _ => true))).setFld
          A.SRV_STATUS F.SRV_STATUS_PENDING 0
      else s
    if go then
      let s := (s.setFld A.SRV_STATUS F.SRV_STATUS_PENDING 1).setFld A.SRV_STATUS F.SRV_STATUS_LATE 0
      (s.merReq (.surveyTick s.glb.srvSeq) (s.rd A.SRV_NEXT).toNat, Code.OK)
    else (s, Code.OK)

/-- SURVEY_GO (R315): a write of SRV_CTL is served. -/
def execSurveyGo (r : Req) (s : State) : Out := .next (s.serve A.SRV_CTL r (·.writeSrvCtl r))
/-- SURVEY_CANCEL (R315): a write of SRV_CTL is served. -/
def execSurveyCancel (r : Req) (s : State) : Out := .next (s.serve A.SRV_CTL r (·.writeSrvCtl r))

/-- The sequence number a message carries, for a survey tick. -/
def tickSeq : MerKind → Option Nat
  | .surveyTick q => some q
  | _ => none

/-- SURVEY_TICK_ARRIVAL (R316): receiver `b` learns the instant and sequence number of the survey. -/
def execSurveyTickArrival (b : Fin 192) (sbe : Bool) (s : State) : Out :=
  match s.arriving b.val (fun k => (tickSeq k).isSome) with
  | none => .next s
  | some m =>
    let s := (s.meet m b.val).merSbe (if sbe then 1 else 0)
    .next { s with glb := { s.glb with tick := tset none s.glb.tick b.val (some (m.instant, (tickSeq m.kind).getD 0)) } }

/-! ### The snapshot (R316, R317) -/

/-- R317: offsets within an NI of its counters and its status set. -/
def niSurveyed : List Nat :=
  (List.range 24).map (fun j => 0x4000 + 8 * j) ++ [0x608] ++ (List.range 64).map (fun k => 0xC00 + 8 * k) ++
  (List.range 64).map (fun k => 0x1000 + 8 * k) ++ [0x1200, 0x1208, 0x1210] ++ (List.range 256).map (fun k => 0x1C00 + 8 * k)
  ++ [0x2418, 0x3A10, 0x3A18, 0x3A20]

/-- R317: offsets within a station of its counters and its status set. -/
def stnSurveyed : List Nat :=
  (List.range 40).map (fun j => 0x4000 + 8 * j) ++ (List.range 6).map (fun n => 0x300 + 8 * n) ++
  (List.range 6).map (fun n => 0x3A0 + 8 * n) ++ (List.range 12).map (fun i => 0x400 + 8 * i) ++
  (List.range 12).map (fun i => 0x480 + 8 * i) ++ [0x500, 0x608, 0x770, 0x778, 0x910]

/-- Whether a live register has a shadow in the shadow view of its block (R317). -/
def surveyed (a : Nat) : Bool :=
  match blkOf a with
  | some (.ni _, off) => niSurveyed.contains off
  | some (.stn _, off) => stnSurveyed.contains off
  | _ => false

/-- A shadow's value. -/
def State.shadowOf (s : State) (a : Nat) : Word := Store.get (fun _ => 0) s.shadow a

/-- R316 step 4: counters with their CLEAR bit set are cleared, and the bits. A live read served in the same cycle still
returns the value before the clearing. -/
def State.clearCounters (s : State) (clr : Nat) (cnt : Nat → Nat) (n : Nat) : State :=
  let x := s.rd clr
  ((List.range n).foldl (fun s j => if x.getLsbD j then s.wr (cnt j) 0 else s) s).wr clr 0

/-- R316: the registers of block `b` that a survey copies. -/
def surveySet (b : Nat) : List Nat :=
  if b < 144 then niSurveyed.map (A.niBase b + ·)
  else if b < 156 then []
  else if b < 192 then stnSurveyed.map (A.stnBase (b - 156) + ·)
  else (List.range 64).map A.GLB_CNT

/-- R316 step 4 at block `b`. -/
def State.clearSurveyed (s : State) (b : Nat) : State :=
  if b < 144 then s.clearCounters (A.NI_CNT_CLEAR b) (A.NI_CNT b) 24
  else if b < 156 then s
  else if b < 192 then s.clearCounters (A.STN_CNT_CLEAR (b - 156)) (A.STN_CNT (b - 156)) 40
  else s.clearCounters A.GLB_CNT_CLEAR A.GLB_CNT 64

/-- R17, R316: at the beginning of the cycle of its survey instant block `b` records its registers, and the counters to be
cleared start again, before anything of that cycle takes effect. -/
def State.capture (s : State) (b : Nat) : State :=
  match tget none s.glb.tick b with
  | none => s
  | some (t, q) =>
    if s.nowOf b < t then s
    else
      let c : Capture := { at' := t, seq := q, vals := (surveySet b).map (fun a => (a, s.view a)) }
      { s with glb := { s.glb with tick := tset none s.glb.tick b none, capt := tset none s.glb.capt b (some c) } }.clearSurveyed b

/-- R17: what blocks record at the beginning of a cycle. -/
def State.captures (s : State) : State := (s.glb.tick.map (·.1)).foldl (fun s b => s.capture b) s

/-- R316, R317: block `b` copies what it recorded into its shadows and shows the survey's number. -/
def State.snapshot (s : State) (b : Nat) (c : Capture) : State :=
  if b < 144 then
    let s := { s with shadow := c.vals.foldl (fun (m : List (Nat × Word)) (e : Nat × Word) => Store.set (fun _ => (0 : Word)) m e.1 e.2) s.shadow }
    (s.setFld (A.NI_SRV_SEQ b) F.NI_SRV_SEQ_SEQ c.seq).setFld (A.NI_SRV_SEQ b) F.NI_SRV_SEQ_VALID 1
  else if b < 156 then s
  else if b < 192 then
    let i := b - 156
    let s := { s with shadow := c.vals.foldl (fun (m : List (Nat × Word)) (e : Nat × Word) => Store.set (fun _ => (0 : Word)) m e.1 e.2) s.shadow }
    (s.setFld (A.STN_SRV_SEQ i) F.STN_SRV_SEQ_SEQ c.seq).setFld (A.STN_SRV_SEQ i) F.STN_SRV_SEQ_VALID 1
  else
    let s := c.vals.foldl (fun s e => s.wr (A.GLB_CNT_SHD ((e.1 - A.GLB_CNT 0) / 8)) e.2) s
    ((s.setFld A.SRV_STATUS F.SRV_STATUS_ARMED 0).sat A.SRV_STATUS F.SRV_STATUS_SURVEYS).wr A.SRV_LAST
      (BitVec.ofNat 64 c.at')

/-- SURVEY_SNAPSHOT (R316, R317): a block that received the tick and has reached its instant takes its snapshot: the
values are those of the beginning of the instant's cycle (R17, `State.captures`). -/
def execSurveySnapshot (b : Fin 193) (s : State) : Out :=
  match tget none s.glb.capt b.val with
  | none => .next s
  | some c => .next ({ s with glb := { s.glb with capt := tset none s.glb.capt b.val none } }.snapshot b.val c)

/-! ### The trace store (R324 to R326) -/

/-- Bytes of a trace record. -/
def TraceRec.nat (r : TraceRec) : Nat :=
  r.w0.toNat + r.w1.toNat * 2 ^ 64 + r.w2.toNat * 2 ^ 128 + r.w3.toNat * 2 ^ 192

/-- R326: a record reaches the store. -/
def State.storeTrace (s : State) (r : TraceRec) : State :=
  let a := A.SRV_TRACE_STATUS
  let stop := s.bit A.SRV_TRACE_CTL F.SRV_TRACE_CTL_STOP
  if (s.bit a F.SRV_TRACE_STATUS_FROZEN && !r.keep) || (s.bit a F.SRV_TRACE_STATUS_FULL && stop) then s.traceDrop
  else
    let k := s.fld a F.SRV_TRACE_STATUS_WPTR
    let s := ((s.wrMem (0x1800000 + 32 * k) r.nat 32).setFld a F.SRV_TRACE_STATUS_WPTR (k + 1)).gcnt 48
    if k = 131071 then
      (if stop then s.setFld a F.SRV_TRACE_STATUS_FULL 1 else s.setFld a F.SRV_TRACE_STATUS_WRAPPED 1)
    else s

/-- TRACE_FORWARD (R326): a station's trace queue forwards its oldest record, one per 16 fclk. -/
def execTraceForward (i : Fin 36) (s : State) : Out :=
  let x := s.stn i.val
  match x.traceQ with
  | [] => .next s
  | r :: q =>
    let ok := match x.traceAt with
      | some t => decide (t + 16 ≤ s.datum)
      | none => true
    if ok then .next ((s.setStn i.val { x with traceQ := q, traceAt := some s.datum }).storeTrace r) else .next s

/-- R326, R383: a write of SRV_TRACE_CTL. -/
def State.writeTraceCtl (s : State) (r : Req) : State × BitVec 4 :=
  if reqFld r F.SRV_TRACE_CTL_EN = 1 && s.bit A.GLB_WIPE_STATUS F.GLB_WIPE_STATUS_TRACE_FAIL then (s, Code.DENY) else
  match s.plainWrite A.SRV_TRACE_CTL r with
  | (s, c) =>
    if c = Code.OK ∧ reqFld r F.SRV_TRACE_CTL_CLEAR = 1 then
      let a := A.SRV_TRACE_STATUS
      ((((s.setFld a F.SRV_TRACE_STATUS_WPTR 0).setFld a F.SRV_TRACE_STATUS_WRAPPED 0).setFld a
        F.SRV_TRACE_STATUS_FULL 0).setFld a F.SRV_TRACE_STATUS_FROZEN 0, c)
    else (s, c)

/-- TRACE_CLEAR (R326): a write of SRV_TRACE_CTL is served. -/
def execTraceClear (r : Req) (s : State) : Out := .next (s.serve A.SRV_TRACE_CTL r (·.writeTraceCtl r))

/-! ### Probes and tagging (R320 to R322) -/

/-- The filter, action and status registers of probe `k` (R320). -/
def probeRegs (k : Nat) : Nat × Nat × Nat :=
  if k < 144 then (A.NI_PROBE_FILTER k, A.NI_PROBE_ACTION k, A.NI_PROBE_STATUS k)
  else (A.STN_PROBE_FILTER (k - 144), A.STN_PROBE_ACTION (k - 144), A.STN_PROBE_STATUS (k - 144))

/-- R320, R321: whether probe `k` allows a filter and an action together: no reserved POINT, and TAG at an NI build
point only. -/
def probeOk (k : Nat) (flt act : Word) : Bool :=
  let pt := F.NI_PROBE_FILTER_POINT.get flt
  (if k < 144 then decide (pt < 3) else decide (pt < 12) || pt = 15) &&
  (F.NI_PROBE_ACTION_TAG.get act = 0 || (decide (k < 144) && pt = 0))

/-- R320: counts of probe `k` restart. -/
def State.probeRestart (s : State) (k : Nat) : State :=
  let s := s.wr (probeRegs k).2.2 0
  if k < 144 then s.modNi k (fun n => { n with probeN := 0 }) else s.modStn (k - 144) (fun x => { x with probeN := 0 })

/-- R320: a write of a probe's filter or, with `act`, action register. -/
def State.writeProbe (s : State) (k : Nat) (act : Bool) (r : Req) : State × BitVec 4 :=
  let (fa, aa, _) := probeRegs k
  let ok := if act then probeOk k (s.rd fa) r.data else probeOk k r.data (s.rd aa)
  if !ok then (s, Code.DENY)
  else
    match s.plainWrite (if act then aa else fa) r with
    | (t, c) => if c = Code.OK then (t.probeRestart k, c) else (s, c)

/-- PROBE_CONFIG_WRITE (R320): a write of a probe's filter or action register is served. -/
def execProbeConfigWrite (k : Fin 180) (act : Bool) (r : Req) (s : State) : Out :=
  .next (s.serve (if act then (probeRegs k.val).2.1 else (probeRegs k.val).1) r (·.writeProbe k.val act r))

/-- R322: a write of NI_TAG_CTL loads the LFSR; SEED 0 is reserved (R6). -/
def State.writeTagCtl (s : State) (p : Nat) (r : Req) : State × BitVec 4 :=
  let seed := reqFld r F.NI_TAG_CTL_SEED
  if seed = 0 then (s, Code.DENY)
  else
    match s.plainWrite (A.NI_TAG_CTL p) r with
    | (t, c) => if c = Code.OK then (t.modNi p (fun n => { n with lfsr := BitVec.ofNat 16 seed }), c) else (s, c)

/-- TAG_CTL_WRITE (R322): a write of NI_TAG_CTL is served. -/
def execTagCtlWrite (p : Fin 144) (r : Req) (s : State) : Out :=
  .next (s.serve (A.NI_TAG_CTL p.val) r (·.writeTagCtl p.val r))

end Sys2Proof.Machine
end

