-- ==== Sys2Proof/Machine/FmpUpkeep.lean ====
section
/-!
DEFINITION. Machine/FmpUpkeep.lean: the observation, thermal, power, maintenance, firmware and journal opcodes of the FMP
(R269 to R273).
-/
namespace Sys2Proof.Machine

/-! ### Observation (R269) -/

/-- SURVEY_TAKE (R269). -/
def execSurveyTake (k : Fin 8) (s : State) : Out := .next (s.fmpSlow k.val 0x30 noChk)

/-- The work of SURVEY_TAKE (R315): the survey is asked for, and awaited. A refused tick gives LATE. -/
def State.workSurveyTake (s : State) (t : Tkt) : State :=
  let a := A.SRV_STATUS
  if t.stage = 0 then
    let w1 := msgWord t.cmd 1
    let i := if w1 = 0 then roundUp (t.at' + 4096) 1024 else w1
    match (s.wr A.SRV_NEXT (BitVec.ofNat 64 i)).writeSrvCtl (s.fmpReq 1) with
    | (s', c) => if c = Code.OK then s'.toStage t 1 [i] else s
  else if s.bit a F.SRV_STATUS_LATE then s.endFree t Code.LATE
  else if s.bit a F.SRV_STATUS_PENDING || s.bit a F.SRV_STATUS_ARMED then s
  else s.endTkt t (.ok [s.fld a F.SRV_STATUS_SEQ, t.aux.headD 0])

/-- SURVEY_READ (R269): the counters named exist (R308). -/
def execSurveyRead (k : Fin 8) (s : State) : Out :=
  .next (s.fmpSlow k.val 0x31 (fun m _ =>
    let n := msgWord m.data 2
    argIf (bufOk m.data && decide (1 ≤ n) && decide (msgWord m.data 1 + n ≤ 4960))))

/-- R308: the shadow of counter `i` and the sequence number of its block. -/
def State.counterShadow (s : State) (i : Nat) : Nat × Nat :=
  if i < 3456 then
    ((s.shadowOf (A.NI_CNT (i / 24) (i % 24))).toNat, s.fld (A.NI_SRV_SEQ (i / 24)) F.NI_SRV_SEQ_SEQ)
  else if i < 4896 then
    let j := i - 3456
    ((s.shadowOf (A.STN_CNT (j / 40) (j % 40))).toNat, s.fld (A.STN_SRV_SEQ (j / 40)) F.STN_SRV_SEQ_SEQ)
  else ((s.rd (A.GLB_CNT_SHD (i - 4896))).toNat, s.fld A.SRV_STATUS F.SRV_STATUS_SEQ)

/-- R318: what SURVEY_READ copies for counter `i`: its shadow count, its block's sequence number, its SAT. -/
def State.surveyWord (s : State) (i : Nat) : Nat :=
  match s.counterShadow i with
  | (v, q) => v % 2 ^ 48 + q * 2 ^ 48 + v / 2 ^ 63 * 2 ^ 63

/-- The work of SURVEY_READ (R318). -/
def State.workSurveyRead (s : State) (t : Tkt) : State :=
  let bs := (List.range (msgWord t.cmd 2)).flatMap (fun j => leBytes 8 (s.surveyWord (msgWord t.cmd 1 + j)))
  s.endBuf t bs [s.fld A.SRV_STATUS F.SRV_STATUS_SEQ]

/-- A value carries bits in the fields of register `a` only, and no reserved value. -/
def valueOk (a : Nat) (v : Word) : Bool :=
  match rowAt a with
  | none => false
  | some row => v &&& ~~~(fldMask (row.flds.map (·.1))) = 0 && !reservedEnc a v

/-- PROBE_SET (R269, R320): filter and action are written together. -/
def execProbeSet (k : Fin 8) (s : State) : Out :=
  .next (s.fmpFast k.val 0x32 (fun m s =>
    let p := msgWord m.data 1
    let flt : Word := BitVec.ofNat 64 (msgWord m.data 2)
    let act : Word := BitVec.ofNat 64 (msgWord m.data 3)
    let (fa, aa, _) := probeRegs p
    if 180 ≤ p ∨ !probeOk p flt act ∨ !valueOk fa flt ∨ !valueOk aa act then (s, .badArg)
    else (((s.wr fa flt).wr aa act).probeRestart p, .ok)))

/-- TAG_SET (R269, R322): W2 is the value of NI_TAG_CTL. -/
def execTagSet (k : Fin 8) (s : State) : Out :=
  .next (s.fmpFast k.val 0x33 (fun m s =>
    let p := msgWord m.data 1
    let v : Word := BitVec.ofNat 64 (msgWord m.data 2)
    if 144 ≤ p ∨ !valueOk (A.NI_TAG_CTL p) v then (s, .badArg)
    else
      match s.writeTagCtl p (s.fmpReq v) with
      | (s', c) => if c = Code.OK then (s', .ok) else (s, .badArg)))

/-- TRACE_READ (R269): the offset is aligned and within the store (R324). -/
def execTraceRead (k : Fin 8) (s : State) : Out :=
  .next (s.fmpSlow k.val 0x34 (fun m _ =>
    let off := msgWord m.data 1
    argIf (bufOk m.data && off % 64 = 0 && decide (off < 0x400000))))

/-- The work of TRACE_READ. -/
def State.workTraceRead (s : State) (t : Tkt) : State :=
  let off := msgWord t.cmd 1
  let n := min (bufLen t.cmd) (0x400000 - off)
  s.endBuf t ((List.range n).map (fun i => s.rdByte (0x1800000 + off + i))) [n]

/-- The CNT_PERM register of a block and its number of counters; none for a block that holds no counters (R308). -/
def permOf (b : Nat) : Option (Nat × Nat) :=
  if b < 144 then some (A.NI_CNT_PERM b, 24)
  else if b < 156 then none
  else if b < 192 then some (A.STN_CNT_PERM (b - 156), 40)
  else if b = 192 then some (A.GLB_CNT_PERM, 64)
  else none

/-- COUNTER_PERM (R269). -/
def execCounterPerm (k : Fin 8) (s : State) : Out :=
  .next (s.fmpFast k.val 0x35 (fun m s =>
    let v := msgWord m.data 2
    match permOf (msgWord m.data 1) with
    | none => (s, .badArg)
    | some (a, n) => if 2 ^ n ≤ v then (s, .badArg) else (s.wr a (BitVec.ofNat 64 v), .ok)))

/-! ### Thermal and power (R270, R342) -/

/-- R342: a value that THM_CFG takes. -/
def thmCfgOk (v : Word) : Bool :=
  let w := F.THM_CFG_WARN.get v
  let h := F.THM_CFG_THROTTLE.get v
  let p := F.THM_CFG_TRIP.get v
  let r := F.THM_CFG_RATE.get v
  decide (50 ≤ w) && decide (w < h) && decide (h < p) && decide (p ≤ 125) && decide (1 ≤ r) && decide (r ≤ 40)

/-- R342: an accepted write of THM_CFG: every count of R341 restarts. -/
def State.setThmCfg (s : State) (v : Word) : State :=
  let s := s.putFlds A.THM_CFG [F.THM_CFG_WARN, F.THM_CFG_THROTTLE, F.THM_CFG_TRIP, F.THM_CFG_RATE] v
  { s with thm := { s.thm with up := s.thm.up.filter (fun e => decide (512 ≤ e.1)), dn := [] } }

/-- THERMAL_POLICY (R270). -/
def execThermalPolicy (k : Fin 8) (s : State) : Out :=
  .next (s.fmpFast k.val 0x38 (fun m s =>
    let v : Word := BitVec.ofNat 64 (msgWord m.data 1)
    if thmCfgOk v then (s.setThmCfg v, .ok) else (s, .badArg)))

/-- THERMAL_READ (R270). -/
def execThermalRead (k : Fin 8) (s : State) : Out :=
  .next (s.fmpFast k.val 0x39 (fun _ s =>
    let a := A.THM_STATUS
    (s, .ok [s.fld a F.THM_STATUS_HOTTEST + degC (signed12 (s.fld a F.THM_STATUS_HOT_READING)) * 2 ^ 8, s.suspects,
      s.fld a F.THM_STATUS_LEVEL])))

/-- POWER_POLICY of one station (R270, R333): the FMP withdraws its SLEEP request from a station that may no longer
sleep. -/
def State.powerPolicy (s : State) (st deepest : Nat) : State :=
  let s := s.setFld (A.STN_PWR_CTL st) F.STN_PWR_CTL_DEEPEST deepest
  if deepest = 3 then s.askSleep st else s.setFld (A.STN_PWR_CTL st) F.STN_PWR_CTL_SLEEP_REQ 0

/-- POWER_POLICY (R270). -/
def execPowerPolicy (k : Fin 8) (s : State) : Out :=
  .next (s.fmpFast k.val 0x3A (fun m s =>
    let w := msgWord m.data 1
    let st := w % 64
    let d := bitsOf w 8 2
    if st = 63 then ((List.range 36).foldl (fun s i => s.powerPolicy i d) s, .ok)
    else if 36 ≤ st then (s, .badArg)
    else (s.powerPolicy st d, .ok)))

/-! ### Maintenance (R271, R364 to R368) -/

/-- Tests accepted and not started (R366). -/
def State.queuedTests (s : State) : Nat :=
  (s.fmp.tests.filter (fun t => !t.run && t.kind < 4)).length +
    (s.working.filter (fun t => t.op = 0x40 && (t.stage = 0 || (t.stage = 1 && msgWord t.cmd 1 % 16 = 4)))).length

/-- TEST_REQUEST (R271): the queue of R366 holds 16. -/
def execTestRequest (k : Fin 8) (s : State) : Out :=
  .next (s.fmpSlow k.val 0x40 (fun m s =>
    let w := msgWord m.data 1
    let kind := w % 16
    if kind = 0 ∨ 4 < kind ∨ (kind ≠ 4 ∧ 36 ≤ bitsOf w 4 6) ∨ (kind ≤ 2 ∧ 5 < bitsOf w 10 3) then some .badArg
    else if 16 ≤ s.queuedTests then some .noTicket
    else none))

/-- The work of TEST_REQUEST: the test is queued; its end gives the ticket's results. -/
def State.workTest (s : State) (t : Tkt) : State :=
  let w := msgWord t.cmd 1
  let kind := w % 16
  if t.stage ≠ 0 then s
  else if kind = 4 then s.toStage t 1
  else
    let x : Test := { ticket := t.num, kind := kind, st := bitsOf w 4 6, n := bitsOf w 10 3 }
    (s.setTests (s.fmp.tests ++ [x])).toStage t 1

/-- A command that names a station in W1 [5:0]. -/
def stnArg (m : Msg) (_s : State) : Option Ans := argIf (decide (msgWord m.data 1 < 36))

/-- STATION_VACATE (R271). -/
def execStationVacate (k : Fin 8) (s : State) : Out := .next (s.fmpSlow k.val 0x41 stnArg)

/-- The work of STATION_VACATE: the station is marked avoided, which starts a route change (R86), and RECONF set. -/
def State.workVacate (s : State) (t : Tkt) : State :=
  let st := msgWord t.cmd 1
  if s.travEnters (s.curTrav 192) st ∨ (List.range 11).any (fun n => decide (0 < s.resvCount st n)) then s.endTkt t .inUse
  else
    let add (l : List Nat) : List Nat := if l.contains st then l else l ++ [st]
    let s := s.markAvoid st
    let s := { s with fmp := { s.fmp with vacated := add s.fmp.vacated } }
    (s.setFld (A.STN_TRAV_CTL st) F.STN_TRAV_CTL_RECONF 1).endTkt t .ok

/-- STATION_RETURN (R271). -/
def execStationReturn (k : Fin 8) (s : State) : Out := .next (s.fmpSlow k.val 0x42 stnArg)

/-- The work of STATION_RETURN (R368): unless its latest test failed, the station's links are trained; when none trains any
more RECONF clears. -/
def State.workReturn (s : State) (t : Tkt) : State :=
  let st := msgWord t.cmd 1
  if t.stage = 0 then
    if s.fld (A.END_STN_STATUS st) F.END_STN_STATUS_BIST = 2 then s.endTkt t ⟨Code.DENY, 0x02, []⟩
    else
      (s.linksTrain st).toStage t 1
  else if (dirsOf st).any (fun d => s.linkState d.1 d.2 = LinkSt.TRAIN) then s
  else
    let s := s.unmark st
    let s := { s with fmp := { s.fmp with avoid := s.fmp.avoid.filter (· ≠ st), vacated := s.fmp.vacated.filter (· ≠ st) } }
    ((s.setFld (A.STN_TRAV_CTL st) F.STN_TRAV_CTL_RECONF 0).releaseAll st).endTkt t .ok

/-- LINK_INFO (R271). -/
def execLinkInfo (k : Fin 8) (s : State) : Out :=
  .next (s.fmpFast k.val 0x43 (fun m s =>
    let w := msgWord m.data 1
    if 36 ≤ w % 64 ∨ 5 < bitsOf w 6 3 then (s, .badArg)
    else (s, .ok [(s.rd (A.STN_LINK (w % 64) (bitsOf w 6 3))).toNat])))

/-- MARGIN_REPLAN (R271). -/
def execMarginReplan (k : Fin 8) (s : State) : Out :=
  .next (s.fmpSlow k.val 0x44 (fun m _ => argIf (decide (msgWord m.data 1 < 36) || msgWord m.data 1 = 63)))

/-- The work of MARGIN_REPLAN: its re-plans are queued (R355); their end gives the ticket's result. -/
def State.workReplan (s : State) (t : Tkt) : State :=
  if t.stage ≠ 0 then s
  else
    let st := msgWord t.cmd 1
    let l := (if st = 63 then List.range 36 else [st]).map (fun i => (i, 0, t.num))
    { s with fmp := { s.fmp with replans := s.fmp.replans ++ l } }.toStage t 1

/-! ### Firmware (R272, R277, R385) -/

/-- The slot that does not run. -/
def State.otherSlot (s : State) : Nat := 1 - s.fld A.GLB_FMP_STATUS F.GLB_FMP_STATUS_SLOT_RUN

/-- FW_LOAD (R272). -/
def execFwLoad (k : Fin 8) (s : State) : Out :=
  .next (s.fmpSlow k.val 0x48 (fun m _ => argIf (bufOk m.data && decide (bufLen m.data ≤ 524288))))

/-- The work of FW_LOAD: the image is checked (R386) and staged in the slot that does not run. -/
def State.workFwLoad (s : State) (t : Tkt) (w : SlowEnd) : State :=
  s.withBuf t (fun s t _ =>
    let run := ((tget none s.fmp.images (1 - s.otherSlot)).map (·.secver)).getD 0
    let r := imgReason w.image (if s.deployed then some run else none) s.deployed
    if r = 7 then s.endTkt t .rollback
    else if r ≠ 0 then s.endTkt t .auth
    else
      let img := imageOf w.image
      { s with fmp := { s.fmp with images := tset none s.fmp.images s.otherSlot (some img) } }.endTkt t (.ok [img.version]))

/-- FW_HANDOVER (R272, R277). -/
def execFwHandover (k : Fin 8) (s : State) : Out :=
  .next (s.fmpSlow k.val 0x49 (fun m _ =>
    let lead := msgWord m.data 3
    argIf (lead = 0 || decide (2048 ≤ lead)))
    (fun _ s => if ((tget none s.fmp.images s.otherSlot).map (·.verified)).getD false then none else some .notPrepared))

/-- The work of FW_HANDOVER (R277) up to T; from there HANDOVER_SERVING or HANDOVER_REVERT ends the ticket. A set that ends
without a change of SLOT leaves the running image serving. -/
def State.workHandover (s : State) (t : Tkt) : State :=
  if t.stage = 0 then s.startSet7 t
  else if t.stage = 1 then
    let lead := msgWord t.cmd 3
    s.fillSet7 t [(A.GLB_FMP_IMAGE, BitVec.ofNat 64 s.otherSlot)] 0 (if lead = 0 then 16384 else lead)
  else
    match s.set7Result with
    | some (some a) =>
      if s.fmp.hand.isSome then s
      else (s.setFld A.GLB_FMP_STATUS F.GLB_FMP_STATUS_STATE Fw.SERVING).beat.endTkt t a
    | _ => s

/-- FW_INFO (R272). -/
def execFwInfo (k : Fin 8) (s : State) : Out :=
  .next (s.fmpFast k.val 0x4A (fun _ s =>
    let a := A.GLB_FMP_STATUS
    (s, .ok [s.fld a F.GLB_FMP_STATUS_FW_VERSION, s.imgVersion s.otherSlot, s.fld a F.GLB_FMP_STATUS_SLOT_RUN])))

/-! ### Journal (R273) -/

/-- JOURNAL_INFO (R273); with no record its oldest and newest indexes are free values. -/
def execJournalInfo (k : Fin 8) (s : State) : Out :=
  .next (s.fmpFast k.val 0x50 (fun _ s =>
    match s.fmp.jrecs.head?, s.fmp.jrecs.getLast? with
    | some a, some b => (s, .ok [a.2, b.2, s.fmp.jover])
    | _, _ =>
      let (x, s) := s.draw
      let (y, s) := s.draw
      (s, .ok [x.toNat % 2 ^ 22, y.toNat % 2 ^ 22, s.fmp.jover])))

/-- The records from index `q` on. -/
def State.recsFrom (s : State) (q : Nat) : List (Nat × Nat) := s.fmp.jrecs.dropWhile (fun r => r.2 ≠ q)

/-- JOURNAL_READ (R273): every index named lies from the oldest to the newest. -/
def execJournalRead (k : Fin 8) (s : State) : Out :=
  .next (s.fmpSlow k.val 0x51 (fun m s =>
    let l := (s.recsFrom (msgWord m.data 1)).length
    argIf (bufOk m.data && decide (1 ≤ l) && decide (msgWord m.data 2 ≤ l))))

/-- The work of JOURNAL_READ: the records' slots, four words each (R300), as the NVM gives them. -/
def State.workJournalRead (s : State) (t : Tkt) (w : SlowEnd) : State :=
  let n := msgWord t.cmd 2
  if w.words.length ≠ 4 * n then s
  else s.endBuf t (w.words.flatMap (fun x => leBytes 8 x.toNat)) [n]

/-! ### The end of SLOW commands (R255) -/

/-- What the work of a ticket does next; an output command whose bytes are ready goes on with its buffer (R250). -/
def State.work (s : State) (t : Tkt) (w : SlowEnd) : State :=
  if t.out then s.writeOn t else
  match t.op with
  | 0x04 => s.workModeSet t
  | 0x08 => s.workMapLoad t
  | 0x09 => s.workEnumerate t
  | 0x0A => s.workPortEnable t
  | 0x0B => s.workPortDown t 2
  | 0x10 => s.workPrepare t
  | 0x11 => s.workRouteWrite t
  | 0x13 => s.workSwitch t
  | 0x14 => s.workDrain t
  | 0x15 => s.workFinish t
  | 0x16 => s.workCacheLoad t
  | 0x18 => s.workPlatStage t
  | 0x19 => s.workPlatSwap t
  | 0x1B => s.workPlatRead t
  | 0x1D => s.workChainProbe t
  | 0x21 => s.workStateConfig t
  | 0x28 => s.workPortDown t 3
  | 0x29 => s.workDomainUp t
  | 0x30 => s.workSurveyTake t
  | 0x31 => s.workSurveyRead t
  | 0x34 => s.workTraceRead t
  | 0x40 => s.workTest t
  | 0x41 => s.workVacate t
  | 0x42 => s.workReturn t
  | 0x44 => s.workReplan t
  | 0x48 => s.workFwLoad t w
  | 0x49 => s.workHandover t
  | _ => s.workJournalRead t w

/-- R366, R367: the outcome that the end of a test or re-plan has left for its ticket. -/
def testAns (ws : List Nat) : Ans := if ws = [99] then .inUse else .ok ws

/-- SLOW_COMMAND_COMPLETION (R255): the work of the ticket goes on by one stage, if what it waits for has come; with the last
one it ends, and its COMPLETION is produced. -/
def execSlowCommandCompletion (t : Fin 256) (w : SlowEnd) (s : State) : Out :=
  match s.working.find? (fun x => x.num = t.val) with
  | none => .next s
  | some x =>
    if s.fwState ≠ Fw.SERVING ∧ ¬(x.op = 0x49 ∧ s.fwState = Fw.PAUSED) then .next s
    else if x.stage = 9 then .next (s.endTkt x (testAns x.aux)).beat
    else .next (s.work x w).beat

end Sys2Proof.Machine
end

