-- ==== Sys2Proof/Machine/ConfigSpace.lean ====
section
/-!
DEFINITION. Machine/ConfigSpace.lean: the configuration window as a whole (R437 to R442): every register's own rule for a
write, what a read returns and clears, the shadow view, and the bulk table windows.
-/
namespace Sys2Proof.Machine

/-! ### Registers with a rule that no other family owns -/

/-- R298: a value that EVT_SRC_CFGi does not take. -/
def State.evtCfgBad (s : State) (i : Nat) (v : Word) : Bool :=
  let act := F.EVT_SRC_CFG_ACTION.get v
  let g := F.EVT_SRC_CFG_TARGET.get v
  (act = 2 && (decide (3 < F.EVT_SRC_CFG_LINE.get v) || g / 256 ≠ s.instance' || decide (144 ≤ g % 256))) ||
    (act = 3 && i = 1378)

/-- R297, R298: a write of EVT_SRC_CFGi; a source that is disabled leaves its pending bit clear. -/
def State.writeEvtCfg (s : State) (i : Nat) (r : Req) : State × BitVec 4 :=
  let a := A.EVT_SRC_CFG i
  if s.evtCfgBad i r.data then (s, Code.DENY)
  else
    match s.plainWrite a r with
    | (t, c) => if c ≠ Code.OK then (s, c) else (if t.srcEn i then t.holdLevel i else t.setPend i false, c)

/-- R297, R440: a write of EVT_PENDr clears the bits written 1, except those of LEVEL sources that are 1 and those that
were set in this cycle. -/
def State.writePend (s : State) (k : Nat) (r : Req) : State × BitVec 4 :=
  ((List.range 64).foldl (fun s j =>
    let i := 64 * k + j
    if r.data.getLsbD j && (s.seenOf (A.EVT_PEND k)).1.getLsbD j && !(s.fld (A.EVT_SRC_CFG i) F.EVT_SRC_CFG_MODE = 0 && s.srcLevel i) then s.setPend i false else s) s,
   Code.OK)

/-- R296: a write of a cause or enable register of a block; its two sources follow. -/
def State.writeCause (s : State) (a src : Nat) (r : Req) : State × BitVec 4 :=
  match s.plainWrite a r with
  | (t, c) => if c ≠ Code.OK then (s, c) else (s.seeRise (s.seeRise t src) (src + 1), c)

/-- R342: a write of THM_CFG. -/
def State.writeThmCfg (s : State) (r : Req) : State × BitVec 4 :=
  if thmCfgOk r.data then (s.setThmCfg r.data, Code.OK) else (s, Code.DENY)

/-- R340: a write of THM_SENSORn; a SUSPECT bit that is cleared starts a new count of deviations. -/
def State.writeSensor (s : State) (n : Nat) (r : Req) : State × BitVec 4 :=
  match s.plainWrite (A.THM_SENSOR n) r with
  | (t, c) =>
    if c = Code.OK ∧ reqFld r F.THM_SENSOR_SUSPECT = 1 ∧ s.bit (A.THM_SENSOR n) F.THM_SENSOR_SUSPECT then
      let st := A.THM_STATUS
      let t := { t with thm := { t.thm with up := tset 0 t.thm.up (128 * 4 + n) 0 } }
      (t.setFld st F.THM_STATUS_SUSPECTS t.suspects, c)
    else (t, c)

/-- R335: a write of NI_DOM; the request to the power controller follows DOM_ON. -/
def State.writeDom (s : State) (p : Nat) (r : Req) : State × BitVec 4 :=
  match s.plainWrite (A.NI_DOM p) r with
  | (t, c) => (t.domRefresh p, c)

/-- R393: a write of GLB_FED_ID; a new INSTANCE is taken under the conditions of FED_MAP only. -/
def State.writeFedId (s : State) (r : Req) : State × BitVec 4 :=
  let i := reqFld r F.GLB_FED_ID_INSTANCE
  if i = s.instance' then s.plainWrite A.GLB_FED_ID r
  else
    match s.setInstance i with
    | (t, x) => if x.status = Code.OK then t.plainWrite A.GLB_FED_ID r else (s, Code.DENY)

/-! ### A write of any register (R439) -/

/-- Registers of the global block. -/
def State.actGlb (s : State) (a : Nat) (r : Req) : State × BitVec 4 :=
  if a = A.GLB_SOFT_RESET then s.writeSoftReset r
  else if a = A.GLB_FED_ID then s.writeFedId r
  else if a = A.DAT_CTL then s.writeDatCtl r
  else if a = A.DAT_ALARM_CTL then s.writeAlarmCtl r
  else if A.DAT_ALARM 0 ≤ a ∧ a < A.DAT_ALARM 4 then s.writeAlarm ((a - A.DAT_ALARM 0) / 8) r
  else if A.STK_SET_CTL 0 ≤ a ∧ a < A.STK_SET_CTL 8 then
    let n := (a - A.STK_SET_CTL 0) / 0x40
    if a = A.STK_SET_CTL n then s.writeSetCtl n r else s.writeContent a n r
  else if A.GLB_STK_EXP 0 ≤ a ∧ a < A.GLB_STK_EXP 8 then s.writeExp 192 ((a - A.GLB_STK_EXP 0) / 8) r
  else if A.LCK_ACQ 0 ≤ a ∧ a < A.LCK_ACQ 256 then s.writeLock ((a - A.LCK_ACQ 0) / 8) r
  else if A.STK_PART 0 0 ≤ a ∧ a < A.STK_PART 8 0 then
    let n := (a - A.STK_PART 0 0) / 0x1000
    let o := (a - A.STK_PART 0 0) % 0x1000
    if o < 0x800 then s.writePart n (o / 8) r else s.writeContent a n r
  else if A.MBX_CH_CFG 0 ≤ a ∧ a < A.MBX_CH_CFG 128 then
    let n := (a - A.MBX_CH_CFG 0) / 0x100
    if a = A.MBX_CH_CFG n then s.writeMbxCfg n r
    else if a = A.MBX_CH_CTL n then s.writeMbxCtl n r
    else s.plainWrite a r
  else if A.EVT_PEND 0 ≤ a ∧ a < A.EVT_PEND 24 then s.writePend ((a - A.EVT_PEND 0) / 8) r
  else if A.EVT_SRC_CFG 0 ≤ a ∧ a < A.EVT_SRC_CFG 1536 then s.writeEvtCfg ((a - A.EVT_SRC_CFG 0) / 8) r
  else if a = A.SRV_CTL then s.writeSrvCtl r
  else if a = A.SRV_TRACE_CTL then s.writeTraceCtl r
  else if a = A.THM_CFG then s.writeThmCfg r
  else if A.THM_SENSOR 0 ≤ a ∧ a < A.THM_SENSOR 72 then s.writeSensor ((a - A.THM_SENSOR 0) / 8) r
  else s.plainWrite a r

/-- Registers of station `st`. -/
def State.actStn (s : State) (st a : Nat) (r : Req) : State × BitVec 4 :=
  if a = A.STN_TRAV_CTL st then s.writeStnTrav st r
  else if A.STN_PLAT_CTL st 0 ≤ a ∧ a < A.STN_PLAT_CTL st 11 then s.writePlatCtl st ((a - A.STN_PLAT_CTL st 0) / 8) r
  else if a = A.STN_PLAT_PATCH st then s.writePatch st r
  else if A.STN_STK_EXP st 0 ≤ a ∧ a < A.STN_STK_EXP st 8 then s.writeExp (stnBlk st) ((a - A.STN_STK_EXP st 0) / 8) r
  else if a = A.STN_EVT_CAUSE st ∨ a = A.STN_EVT_EN st then s.writeCause a (1248 + 2 * st) r
  else if a = A.STN_PROBE_FILTER st then s.writeProbe (144 + st) false r
  else if a = A.STN_PROBE_ACTION st then s.writeProbe (144 + st) true r
  else s.plainWrite a r

/-- Registers of the NI of port `p` that concern traverses, chains, classes, shapers and sluices. -/
def State.actNiLow (s : State) (p a : Nat) (r : Req) : State × BitVec 4 :=
  if a = A.NI_ROUTE_CTL p then s.writeRouteCtl p r
  else if a = A.NI_CHAIN_CTL p then s.writeChainCtl p r
  else if a = A.NI_SHAPE_CTL p then s.writeShaper p .ctl r
  else
    match idxIn a (A.NI_SHAPE_RATE p 0) 7, idxIn a (A.NI_SHAPE_SIZE p 0) 7 with
    | some c, _ => s.writeShaper p (.rate (Fin.ofNat 7 c)) r
    | _, some c => s.writeShaper p (.size (Fin.ofNat 7 c)) r
    | none, none =>
      if a = A.NI_SLUICE_CTL p then s.writeSluiceCtl p r
      else if a = A.NI_SLUICE_BASE p ∨ (A.NI_SLUICE_ADMIN p 0 ≤ a ∧ a < A.NI_SLUICE_ADMIN p 32) then s.writeSluiceAdmin a p r
      else if a = A.NI_HIST_CTL p then s.writeHistCtl p r
      else if a = A.NI_MERGE_CTL p then s.writeMergeCtl p r
      else s.plainWrite a r

/-- Registers of the NI of port `p`. -/
def State.actNi (s : State) (p a : Nat) (r : Req) : State × BitVec 4 :=
  if a < A.NI_STK_BIND p then s.actNiLow p a r
  else if A.NI_STK_EXP p 0 ≤ a ∧ a < A.NI_STK_EXP p 8 then s.writeExp p ((a - A.NI_STK_EXP p 0) / 8) r
  else if A.NI_REGION_BASE p 0 ≤ a ∧ a < A.NI_REGION_BASE p 32 then
    let n := (a - A.NI_REGION_BASE p 0) / 0x20
    if a = A.NI_REGION_CFG p n then s.writeRegionCfg p n r else s.writeRegion p n a r
  else if a = A.NI_PORT_CTL p then s.writePortCtl p r
  else if a = A.NI_CTL p then s.writeNiCtl p r
  else if a = A.NI_EVT_CAUSE p ∨ a = A.NI_EVT_EN p then s.writeCause a (960 + 2 * p) r
  else if a = A.NI_PROBE_FILTER p then s.writeProbe p false r
  else if a = A.NI_PROBE_ACTION p then s.writeProbe p true r
  else if a = A.NI_TAG_CTL p then s.writeTagCtl p r
  else if a = A.NI_DOM p then s.writeDom p r
  else s.plainWrite a r

/-- Registers of federation port `f`. -/
def State.actFed (s : State) (f a : Nat) (r : Req) : State × BitVec 4 :=
  if a = A.FED_CTL f then s.writeFedCtl f r
  else if a = A.FED_POLICE_RATE f then s.writePolicer f false r
  else if a = A.FED_POLICE_SIZE f then s.writePolicer f true r
  else if a = A.FED_EVT_CAUSE f ∨ a = A.FED_EVT_EN f then s.writeCause a (1320 + 2 * f) r
  else if A.FED_STK_EXP f 0 ≤ a ∧ a < A.FED_STK_EXP f 8 then s.writeExp (fedBlk f) ((a - A.FED_STK_EXP f 0) / 8) r
  else s.plainWrite a r

/-- The rule of the register at offset `a`. -/
def State.regAct (s : State) (a : Nat) (r : Req) : State × BitVec 4 :=
  match rowAt a, blkOf a with
  | some row, some (b, _) =>
    match b with
    | .glb => if row.rwsFlds.isEmpty then s.actGlb a r else s.writeRws a r
    | .stn st =>
      if row.rwsFlds.isEmpty || a = A.STN_TRAV_CTL st || (idxIn a (A.STN_PLAT_CTL st 0) 11).isSome then s.actStn st a r
      else s.writeRws a r
    | .ni p => if row.rwsFlds.isEmpty then s.actNi p a r else s.writeRws a r
    | .fed f => if row.rwsFlds.isEmpty then s.actFed f a r else s.writeRws a r
  | _, _ => (s, Code.TGTERR)

/-! ### The bulk table windows (R442, R104) -/

/-- What a bulk offset names. -/
inductive Bulk where
  | route | plat (st n b : Nat) | trace | reserved
  deriving DecidableEq, Repr

/-- R442: the table an offset of the bulk windows lies in. -/
def bulkOf (a : Nat) : Bulk :=
  if 0x1000000 ≤ a ∧ a < 0x1200000 then .route
  else if 0x1200000 ≤ a ∧ a < 0x1440000 then
    let o := a - 0x1200000
    if 0xB000 ≤ o % 0x10000 then .reserved else .plat (o / 0x10000) (o % 0x10000 / 0x1000) (o % 0x1000 / 0x800)
  else if 0x1800000 ≤ a ∧ a < 0x1C00000 then .trace
  else .reserved

/-- R442, R104, R5: the judgement of a bulk write. -/
def State.bulkWriteCode (s : State) (a : Nat) (r : Req) : BitVec 4 :=
  if a % 8 ≠ 0 then Code.TGTERR
  else if !isFmp r then Code.DENY
  else
    match bulkOf a with
    | .reserved => Code.TGTERR
    | .trace => Code.TGTERR
    | .route => Code.OK
    | .plat st n b =>
      if s.platBank st n = b ∨ s.bit (A.STN_PLAT_CTL st n) F.STN_PLAT_CTL_LOCKED then Code.DENY else Code.OK

/-- R442: a bulk write is served; in mode OFF nothing is. -/
def State.bulkWrite (s : State) (a : Nat) (r : Req) : State :=
  if s.mode = Mode.OFF then s
  else
    let c := s.bulkWriteCode a r
    let t := if c = Code.OK then s.wrMem a r.data.toNat 8 else s
    t.ans a r c

/-- R442, R5: a bulk read. -/
def State.bulkRead (s : State) (a : Nat) (r : Req) : State :=
  if a % 8 ≠ 0 then s.answer a r true Code.TGTERR 0
  else if !isFmp r then s.answer a r true Code.DENY 0
  else if bulkOf a = .reserved then s.answer a r true Code.TGTERR 0
  else s.answer a r true Code.OK (BitVec.ofNat 64 (s.rdMem a 8))

/-- BULK_TABLE_WRITE (R442): a write of 8 bytes in a bulk window is served; the row says nothing of other offsets. -/
def execBulkTableWrite (off : Fin 33554432) (r : Req) (s : State) : Out :=
  .next (if off.val < 0x1000000 then s else s.bulkWrite off.val r)

/-! ### The two rows of the window -/

/-- REGISTER_WRITE (R439, R5 to R9, R449, R450): a configuration write of `sz` bytes is served. The shadow view takes no
write (R317); it names no register of the indexes. -/
def execRegisterWrite (off : Fin 33554432) (sz : Fin 9) (r : Req) (s : State) : Out :=
  let a := off.val
  .next (if s.mode = Mode.OFF then s
    else if !accessOk a sz.val then s.ans a r Code.TGTERR
    else if 0x1000000 ≤ a then s.bulkWrite a r
    else if inLocks a then s.lockAccess ⟨a, false, r⟩
    else if inMbx a then s.mbxAccess (·.serve a r (·.regAct a r))
    else s.serve a r (·.regAct a r))

/-- The live register that an offset of a shadow view stands for (R317). -/
def shadowView (a : Nat) : Option Nat :=
  match blkOf a with
  | some (.ni _, off) => if 0x8000 ≤ off then some (a - 0x8000) else none
  | some (.stn _, off) => if 0x8000 ≤ off then some (a - 0x8000) else none
  | _ => none

/-- What a register reads as to software: END_STN_STATUS.VACATED follows from the state (R367). -/
def State.readView (s : State) (a : Nat) : Word :=
  match blkOf a with
  | some (.stn st, off) =>
    if A.stnBase st + off = A.END_STN_STATUS st then
      F.END_STN_STATUS_VACATED.put (s.view a) (if s.isVacated st then 1 else 0)
    else s.view a
  | _ => s.view a

/-- R7, R440: the fields of type RC that a read clears; a maximum that the cycle itself has raised stays, since it counts
after the read. -/
def State.readClear (s : State) (a : Nat) : State :=
  match rowAt a with
  | none => s
  | some row =>
    let fs := row.flds.filter (fun e => e.2 = .rc)
    if fs.isEmpty then s
    else
      let v := fs.foldl (fun x e => e.1.put x 0) (s.seenOf a).2
      s.wrServed a v (s.joined a row v)

/-- A read of a live register (R7, R9, R439, R449), LCK_ACQn apart. -/
def State.regRead (s : State) (a : Nat) (r : Req) : State :=
  match rowAt a with
  | none => s.answer a r true Code.TGTERR 0
  | some row =>
    if row.rd = .closed then s.answer a r true Code.OK 0
    else if !s.aclOk row.rd a r then s.answer a r true Code.DENY 0
    else
      let v := s.readView a
      (s.readClear a).answer a r true Code.OK v

/-- A read of the shadow view (R317), at the privilege of the live register. -/
def State.shadowRead (s : State) (live a : Nat) (r : Req) : State :=
  match rowAt live with
  | none => s.answer a r true Code.TGTERR 0
  | some row =>
    if !surveyed live then s.answer a r true Code.TGTERR 0
    else if !s.aclOk row.rd live r then s.answer a r true Code.DENY 0
    else s.answer a r true Code.OK (s.shadowOf live)

/-- RC_FIELD_READ (R7, R440): a configuration read of `sz` bytes is served; a register with fields of type RC returns them
and then clears them. -/
def execRcFieldRead (off : Fin 33554432) (sz : Fin 9) (r : Req) (s : State) : Out :=
  let a := off.val
  .next (if s.mode = Mode.OFF then s
    else if !accessOk a sz.val then s.answer a r true Code.TGTERR 0
    else if 0x1000000 ≤ a then s.bulkRead a r
    else
      match shadowView a with
      | some live => s.shadowRead live a r
      | none =>
        if inLocks a then s.lockAccess ⟨a, true, r⟩
        else if inMbx a then s.mbxAccess (·.regRead a r)
        else s.regRead a r)

end Sys2Proof.Machine
end

