-- ==== Sys2Proof/Machine/Fills.lean ====
section
/-!
DEFINITION. Machine/Fills.lean: route fills as builders issue them and end them (R71 to R73, R82, R403): the two builders of
an NI, the management agents and the federation agents.
-/
namespace Sys2Proof.Machine

/-! ### The builders of an NI -/

/-- R72: the waiting builder's fill joins the MGT path when it has a place. Without a home route no packet can leave,
and the fill only starts its timeout (R88). -/
def State.niFillIssue (s : State) (p : Nat) (rsp : Bool) : State :=
  match (s.ni p).wait rsp with
  | none => s
  | some w =>
    if w.queued || 8 ≤ (s.ni p).mgtQ.length then s
    else if noRoute w.fill.pkt.h.route then (s.setWait p rsp (some { w with queued := true, issued := some s.datum })).ncnt p 14
    else (s.modNi p (fun n => { n with mgtQ := n.mgtQ ++ [w.fill] })).setWait p rsp (some { w with queued := true })

/-- R73: the fill of a builder has ended with a route or without one: its count goes (R81), the waiting packet, if it has not
been discarded, may start or ends, and the builder goes on. -/
def State.niFillEnd (s : State) (p : Nat) (rsp : Bool) (w : FillWait) (r : Option (BitVec 64)) : State :=
  let s := (s.setWait p rsp none).outDone p w.fill.pkt.h.trav.toNat
  let h := w.out.pkt.h
  let waiting (o : OutPkt) : Bool := o.seq = w.out.seq && !o.ready
  match r with
  | some r =>
    ((s.cacheFill p h.trav.toNat h.dest r).mapPaths p (fun o =>
      if waiting o then { o with ready := true, pkt := Pkt.seal { o.pkt.h with route := r } o.pkt.units } else o)).pump p
  | none => (if s.inPath p waiting then (s.leavePath p waiting).noRouteEnd p w.out else s).pump p

/-- R73: the oldest fill answer for the builder that has reached its NI ends the fill that it names; an answer to a fill
that has timed out is discarded. -/
def State.niFillReturn (s : State) (p : Nat) (rsp : Bool) : State :=
  match (s.ni p).rxMgt.find? (fillAnswer rsp) with
  | none => s
  | some q =>
    let s := s.modNi p (fun n => { n with rxMgt := n.rxMgt.erase q })
    match (s.ni p).wait rsp with
    | none => s
    | some w => if w.issued.isNone ∨ q.h.tag ≠ w.fill.pkt.h.tag then s else s.niFillEnd p rsp w (fillRoute q)

/-- R73: no answer within 8,192 fclk of the issue. -/
def State.niFillTimeout (s : State) (p : Nat) (rsp : Bool) : State :=
  match (s.ni p).wait rsp with
  | none => s
  | some w =>
    match w.issued with
    | none => s
    | some t =>
      if s.datum < t + 8192 then s
      else (s.sat (A.NI_ROUTE_STATUS p) F.NI_ROUTE_STATUS_FILL_TIMEOUTS).niFillEnd p rsp w none

/-! ### Agents -/

/-- R72: the agent's fill joins the packets it drives. -/
def State.agentFillIssue (s : State) (b : Nat) : State :=
  match (s.agent b).fill with
  | none => s
  | some q => (s.modAgent b (fun x => { x with fill := none })).agentQueue b q .answer 0 true

/-- R73, R82, R403, R406: a packet of the agent of block `b` has no route: an answer is given up, a drain barrier ends
non-OK, a packet from the link is answered NOROUTE over the link, a barrier of the inbound engine ends NOROUTE. -/
def State.agentNoRoute (s : State) (b : Nat) (o : AgentPkt) : State :=
  let f := b - 144
  let s := if b < 156 then s.outDone b o.pkt.h.trav.toNat else s
  match o.use with
  | .answer => s
  | .dropped => s
  | .drain tag _ => (s.modFed f (fun x => { x with drains := x.drains.filter (fun e => e.1 ≠ tag) })).sat (travDrainOf b)
      F.NI_TRAV_DRAIN_DRAIN_ERR
  | .forward => (s.ingNext f (ingKey o.pkt.h.cmd)).fedNoRoute f o.pkt.h
  | .bar _ => s.inBarEnd f o.pkt.h.tag.toNat Code.NOROUTE

/-- R73, R403: the agent's fill has ended: the packet that waited is built whole and queued, or given up, and the agent
goes on. -/
def State.agentRouted (s : State) (b : Nat) (r : Option (BitVec 64)) : State :=
  let x := s.agent b
  let s := s.agentFillEnd b
  let s := match x.cur with
    | none => s
    | some o =>
      if o.use = AgentUse.dropped then (if b < 156 then s.outDone b o.pkt.h.trav.toNat else s)
      else
        match r with
        | none => s.agentNoRoute b o
        | some r =>
          let s := match o.use with
            | .drain _ _ => s.sat (travDrainOf b) F.NI_TRAV_DRAIN_DRAIN_BARS
            | _ => s
          s.agentQueue b (Pkt.seal { o.pkt.h with route := r } o.pkt.units) o.use ((s.destKey o.pkt.h.dest).getD 0)
  s.agentPump b (s.agent b).todo.length

/-- R73: the answer to the agent's fill has arrived. -/
def State.agentFillReturn (s : State) (b : Nat) : State :=
  match (s.agent b).rsp with
  | none => s
  | some q => s.agentRouted b (fillRoute q)

/-- R73: no answer within 8,192 fclk of the issue. -/
def State.agentFillTimeout (s : State) (b : Nat) : State :=
  match (s.agent b).issued with
  | none => s
  | some t => if s.datum < t + 8192 then s else s.agentRouted b none

/-! ### The commands -/

/-- ROUTE_FILL_ISSUE (R72): the fill of a builder is sent towards the global block. -/
def execRouteFillIssue (b : Builder) (s : State) : Out :=
  .next (match b with
    | .request p => s.niFillIssue p.val false
    | .response p => s.niFillIssue p.val true
    | .agent st => s.agentFillIssue (stnBlk st.val)
    | .fedAgent f => s.agentFillIssue (fedBlk f.val))

/-- ROUTE_FILL_RETURN (R73): the answer to the fill of a builder ends it. -/
def execRouteFillReturn (b : Builder) (s : State) : Out :=
  .next (match b with
    | .request p => s.niFillReturn p.val false
    | .response p => s.niFillReturn p.val true
    | .agent st => s.agentFillReturn (stnBlk st.val)
    | .fedAgent f => s.agentFillReturn (fedBlk f.val))

/-- ROUTE_FILL_TIMEOUT (R73): no answer within 8,192 fclk of the issue. -/
def execRouteFillTimeout (b : Builder) (s : State) : Out :=
  .next (match b with
    | .request p => s.niFillTimeout p.val false
    | .response p => s.niFillTimeout p.val true
    | .agent st => s.agentFillTimeout (stnBlk st.val)
    | .fedAgent f => s.agentFillTimeout (fedBlk f.val))

end Sys2Proof.Machine
end

