-- ==== Sys2Proof/Machine/Dispatch.lean ====
section
/-!
DEFINITION. Machine/Dispatch.lean: one arm per command: the meaning that its family's file gives it.
-/
namespace Sys2Proof.Machine

/-- The effect of a command on everything but the queue. -/
def exec (i : Instr) (s : State) : Host.Outcome State Fault Refusal :=
  match i with
  | .coldReset => Sys2Proof.Machine.execColdReset s
  | .warmReset => Sys2Proof.Machine.execWarmReset s
  | .softResetWrite x0 => Sys2Proof.Machine.execSoftResetWrite x0 s
  | .softResetBegin => Sys2Proof.Machine.execSoftResetBegin s
  | .lcStateChange x0 => Sys2Proof.Machine.execLcStateChange x0 s
  | .powerRemove => Sys2Proof.Machine.execPowerRemove s
  | .scanModeChange x0 => Sys2Proof.Machine.execScanModeChange x0 s
  | .tapIdcode => Sys2Proof.Machine.execTapIdcode s
  | .tapIjtag => Sys2Proof.Machine.execTapIjtag s
  | .tapBypass x0 => Sys2Proof.Machine.execTapBypass x0 s
  | .wipeDone x0 => Sys2Proof.Machine.execWipeDone x0 s
  | .bootRomRead x0 => Sys2Proof.Machine.execBootRomRead x0 s
  | .imageVerify x0 => Sys2Proof.Machine.execImageVerify x0 s
  | .bootInit x0 => Sys2Proof.Machine.execBootInit x0 s
  | .bootServing => Sys2Proof.Machine.execBootServing s
  | .journalScanEnd x0 => Sys2Proof.Machine.execJournalScanEnd x0 s
  | .voteFix x0 x1 => Sys2Proof.Machine.execVoteFix x0 x1 s
  | .alignGo x0 => Sys2Proof.Machine.execAlignGo x0 s
  | .verifyTimer => Sys2Proof.Machine.execVerifyTimer s
  | .meridianLaunch => Sys2Proof.Machine.execMeridianLaunch s
  | .alignLoadArrival x0 => Sys2Proof.Machine.execAlignLoadArrival x0 s
  | .alignVerifyArrival x0 x1 => Sys2Proof.Machine.execAlignVerifyArrival x0 x1 s
  | .stakeCallArrival x0 x1 => Sys2Proof.Machine.execStakeCallArrival x0 x1 s
  | .surveyTickArrival x0 x1 => Sys2Proof.Machine.execSurveyTickArrival x0 x1 s
  | .meridianDueDiscard x0 => Sys2Proof.Machine.execMeridianDueDiscard x0 s
  | .meridianReservedType x0 x1 => Sys2Proof.Machine.execMeridianReservedType x0 x1 s
  | .datumAlarmFire x0 => Sys2Proof.Machine.execDatumAlarmFire x0 s
  | .linkFlitReceive x0 x1 x2 => Sys2Proof.Machine.execLinkFlitReceive x0 x1 x2 s
  | .resyncSend x0 x1 => Sys2Proof.Machine.execResyncSend x0 x1 s
  | .resyncReceive x0 x1 => Sys2Proof.Machine.execResyncReceive x0 x1 s
  | .resyncEnd x0 x1 => Sys2Proof.Machine.execResyncEnd x0 x1 s
  | .vcAllocate x0 x1 => Sys2Proof.Machine.execVcAllocate x0 x1 s
  | .switchAllocate x0 x1 => Sys2Proof.Machine.execSwitchAllocate x0 x1 s
  | .gFlitArrive x0 x1 x2 => Sys2Proof.Machine.execGFlitArrive x0 x1 x2 s
  | .heldHeadTimeout x0 x1 x2 => Sys2Proof.Machine.execHeldHeadTimeout x0 x1 x2 s
  | .agentNorouteSend x0 => Sys2Proof.Machine.execAgentNorouteSend x0 s
  | .reconfWrite x0 x1 => Sys2Proof.Machine.execReconfWrite x0 x1 s
  | .retireOld x0 x1 => Sys2Proof.Machine.execRetireOld x0 x1 s
  | .routeFillIssue x0 => Sys2Proof.Machine.execRouteFillIssue x0 s
  | .fillServe => Sys2Proof.Machine.execFillServe s
  | .routeFillReturn x0 => Sys2Proof.Machine.execRouteFillReturn x0 s
  | .routeFillTimeout x0 => Sys2Proof.Machine.execRouteFillTimeout x0 s
  | .invGo x0 x1 => Sys2Proof.Machine.execInvGo x0 x1 s
  | .invSweepDone x0 => Sys2Proof.Machine.execInvSweepDone x0 s
  | .routeAround => Sys2Proof.Machine.execRouteAround s
  | .drainStall => Sys2Proof.Machine.execDrainStall s
  | .isolateNoRoute x0 => Sys2Proof.Machine.execIsolateNoRoute x0 s
  | .chainInject x0 => Sys2Proof.Machine.execChainInject x0 s
  | .chainProbeGo x0 x1 => Sys2Proof.Machine.execChainProbeGo x0 x1 s
  | .chainFlitReceive x0 => Sys2Proof.Machine.execChainFlitReceive x0 s
  | .platPatchGo x0 x1 => Sys2Proof.Machine.execPlatPatchGo x0 x1 s
  | .platPatchApply x0 => Sys2Proof.Machine.execPlatPatchApply x0 s
  | .stateSlotWrite x0 => Sys2Proof.Machine.execStateSlotWrite x0 s
  | .sputReceive x0 => Sys2Proof.Machine.execSputReceive x0 s
  | .tqOffer x0 x1 => Sys2Proof.Machine.execTqOffer x0 x1 s
  | .tsAnswer x0 x1 => Sys2Proof.Machine.execTsAnswer x0 x1 s
  | .isPresent x0 x1 => Sys2Proof.Machine.execIsPresent x0 x1 s
  | .setOpen x0 x1 => Sys2Proof.Machine.execSetOpen x0 x1 s
  | .setClose x0 x1 => Sys2Proof.Machine.execSetClose x0 x1 s
  | .setAbort x0 x1 => Sys2Proof.Machine.execSetAbort x0 x1 s
  | .seqPassStart => Sys2Proof.Machine.execSeqPassStart s
  | .seqPassWrite => Sys2Proof.Machine.execSeqPassWrite s
  | .seqPassEnd => Sys2Proof.Machine.execSeqPassEnd s
  | .expCollect x0 x1 x2 => Sys2Proof.Machine.execExpCollect x0 x1 x2 s
  | .expExpect x0 x1 x2 => Sys2Proof.Machine.execExpExpect x0 x1 x2 s
  | .expAbort x0 x1 x2 => Sys2Proof.Machine.execExpAbort x0 x1 x2 s
  | .expRelease x0 x1 x2 => Sys2Proof.Machine.execExpRelease x0 x1 x2 s
  | .stwReceive x0 => Sys2Proof.Machine.execStwReceive x0 s
  | .rwsShadowWrite x0 x1 => Sys2Proof.Machine.execRwsShadowWrite x0 x1 s
  | .stakeCommit x0 => Sys2Proof.Machine.execStakeCommit x0 s
  | .stakeFaultAbort x0 => Sys2Proof.Machine.execStakeFaultAbort x0 s
  | .stakeNotready x0 => Sys2Proof.Machine.execStakeNotready x0 s
  | .stakeAbortDone x0 => Sys2Proof.Machine.execStakeAbortDone x0 s
  | .stakeApply x0 x1 => Sys2Proof.Machine.execStakeApply x0 x1 s
  | .stakeMissed x0 x1 => Sys2Proof.Machine.execStakeMissed x0 x1 s
  | .stakeControllerT x0 => Sys2Proof.Machine.execStakeControllerT x0 s
  | .stakeResult x0 => Sys2Proof.Machine.execStakeResult x0 s
  | .stakeStuck x0 => Sys2Proof.Machine.execStakeStuck x0 s
  | .niInject x0 => Sys2Proof.Machine.execNiInject x0 s
  | .shaperResetWrite x0 x1 x2 => Sys2Proof.Machine.execShaperResetWrite x0 x1 x2 s
  | .policeResetWrite x0 x1 x2 => Sys2Proof.Machine.execPoliceResetWrite x0 x1 x2 s
  | .sluiceGo x0 x1 => Sys2Proof.Machine.execSluiceGo x0 x1 s
  | .sluiceCancel x0 x1 => Sys2Proof.Machine.execSluiceCancel x0 x1 s
  | .sluiceStart x0 => Sys2Proof.Machine.execSluiceStart x0 s
  | .histDepthSample x0 => Sys2Proof.Machine.execHistDepthSample x0 s
  | .histClear x0 x1 => Sys2Proof.Machine.execHistClear x0 x1 s
  | .load x0 x1 => Sys2Proof.Machine.execLoad x0 x1 s
  | .store x0 x1 => Sys2Proof.Machine.execStore x0 x1 s
  | .storeNp x0 x1 => Sys2Proof.Machine.execStoreNp x0 x1 s
  | .loadRsv x0 x1 => Sys2Proof.Machine.execLoadRsv x0 x1 s
  | .storeCond x0 x1 => Sys2Proof.Machine.execStoreCond x0 x1 s
  | .barrier x0 x1 => Sys2Proof.Machine.execBarrier x0 x1 s
  | .chainPut x0 x1 => Sys2Proof.Machine.execChainPut x0 x1 s
  | .message x0 x1 => Sys2Proof.Machine.execMessage x0 x1 s
  | .mergeWindowExpire x0 => Sys2Proof.Machine.execMergeWindowExpire x0 s
  | .mergeFlush x0 x1 => Sys2Proof.Machine.execMergeFlush x0 x1 s
  | .barrierAdvance x0 => Sys2Proof.Machine.execBarrierAdvance x0 s
  | .targetRequestEntry x0 => Sys2Proof.Machine.execTargetRequestEntry x0 s
  | .monitorExpire x0 x1 => Sys2Proof.Machine.execMonitorExpire x0 x1 s
  | .handoffExpire x0 x1 => Sys2Proof.Machine.execHandoffExpire x0 x1 s
  | .rdxRetry x0 x1 => Sys2Proof.Machine.execRdxRetry x0 x1 s
  | .lockAcquire x0 x1 => Sys2Proof.Machine.execLockAcquire x0 x1 s
  | .lockRelease x0 x1 => Sys2Proof.Machine.execLockRelease x0 x1 s
  | .responseReceive x0 => Sys2Proof.Machine.execResponseReceive x0 s
  | .requestTimeout x0 x1 => Sys2Proof.Machine.execRequestTimeout x0 x1 s
  | .tagQuarantineEnd x0 x1 => Sys2Proof.Machine.execTagQuarantineEnd x0 x1 s
  | .descGo x0 x1 => Sys2Proof.Machine.execDescGo x0 x1 s
  | .descBeat x0 x1 x2 => Sys2Proof.Machine.execDescBeat x0 x1 x2 s
  | .descTimeout x0 => Sys2Proof.Machine.execDescTimeout x0 s
  | .pwrUpRaise x0 => Sys2Proof.Machine.execPwrUpRaise x0 s
  | .pwrQack x0 => Sys2Proof.Machine.execPwrQack x0 s
  | .portDown x0 => Sys2Proof.Machine.execPortDown x0 s
  | .qackLate x0 => Sys2Proof.Machine.execQackLate x0 s
  | .unitHang x0 x1 => Sys2Proof.Machine.execUnitHang x0 x1 s
  | .evtRaiseChange x0 x1 => Sys2Proof.Machine.execEvtRaiseChange x0 x1 s
  | .evmBuild => Sys2Proof.Machine.execEvmBuild s
  | .msgReceive => Sys2Proof.Machine.execMsgReceive s
  | .mailboxPop x0 x1 => Sys2Proof.Machine.execMailboxPop x0 x1 s
  | .mailboxWake x0 => Sys2Proof.Machine.execMailboxWake x0 s
  | .mailboxCross x0 => Sys2Proof.Machine.execMailboxCross x0 s
  | .mbxCfgWrite x0 x1 => Sys2Proof.Machine.execMbxCfgWrite x0 x1 s
  | .nop x0 => Sys2Proof.Machine.execNop x0 s
  | .info x0 => Sys2Proof.Machine.execInfo x0 s
  | .ticketStatus x0 => Sys2Proof.Machine.execTicketStatus x0 s
  | .ticketCancel x0 => Sys2Proof.Machine.execTicketCancel x0 s
  | .modeSet x0 => Sys2Proof.Machine.execModeSet x0 s
  | .regSet x0 => Sys2Proof.Machine.execRegSet x0 s
  | .mbxConfig x0 => Sys2Proof.Machine.execMbxConfig x0 s
  | .lockForce x0 => Sys2Proof.Machine.execLockForce x0 s
  | .mapLoad x0 => Sys2Proof.Machine.execMapLoad x0 s
  | .enumerate x0 => Sys2Proof.Machine.execEnumerate x0 s
  | .portEnable x0 => Sys2Proof.Machine.execPortEnable x0 s
  | .portDisable x0 => Sys2Proof.Machine.execPortDisable x0 s
  | .portIsolate x0 => Sys2Proof.Machine.execPortIsolate x0 s
  | .portStatus x0 => Sys2Proof.Machine.execPortStatus x0 s
  | .routePrepare x0 => Sys2Proof.Machine.execRoutePrepare x0 s
  | .routeWrite x0 => Sys2Proof.Machine.execRouteWrite x0 s
  | .routeRead x0 => Sys2Proof.Machine.execRouteRead x0 s
  | .routeSwitch x0 => Sys2Proof.Machine.execRouteSwitch x0 s
  | .routeDrain x0 => Sys2Proof.Machine.execRouteDrain x0 s
  | .routeFinish x0 => Sys2Proof.Machine.execRouteFinish x0 s
  | .routeCacheLoad x0 => Sys2Proof.Machine.execRouteCacheLoad x0 s
  | .fedMap x0 => Sys2Proof.Machine.execFedMap x0 s
  | .platStage x0 => Sys2Proof.Machine.execPlatStage x0 s
  | .platSwap x0 => Sys2Proof.Machine.execPlatSwap x0 s
  | .platPatch x0 => Sys2Proof.Machine.execPlatPatch x0 s
  | .platRead x0 => Sys2Proof.Machine.execPlatRead x0 s
  | .chainInfo x0 => Sys2Proof.Machine.execChainInfo x0 s
  | .chainProbe x0 => Sys2Proof.Machine.execChainProbe x0 s
  | .stakeInfo x0 => Sys2Proof.Machine.execStakeInfo x0 s
  | .stateConfig x0 => Sys2Proof.Machine.execStateConfig x0 s
  | .stakeAbort x0 => Sys2Proof.Machine.execStakeAbort x0 s
  | .domainDown x0 => Sys2Proof.Machine.execDomainDown x0 s
  | .domainUp x0 => Sys2Proof.Machine.execDomainUp x0 s
  | .domainStatus x0 => Sys2Proof.Machine.execDomainStatus x0 s
  | .surveyTake x0 => Sys2Proof.Machine.execSurveyTake x0 s
  | .surveyRead x0 => Sys2Proof.Machine.execSurveyRead x0 s
  | .probeSet x0 => Sys2Proof.Machine.execProbeSet x0 s
  | .tagSet x0 => Sys2Proof.Machine.execTagSet x0 s
  | .traceRead x0 => Sys2Proof.Machine.execTraceRead x0 s
  | .counterPerm x0 => Sys2Proof.Machine.execCounterPerm x0 s
  | .thermalPolicy x0 => Sys2Proof.Machine.execThermalPolicy x0 s
  | .thermalRead x0 => Sys2Proof.Machine.execThermalRead x0 s
  | .powerPolicy x0 => Sys2Proof.Machine.execPowerPolicy x0 s
  | .testRequest x0 => Sys2Proof.Machine.execTestRequest x0 s
  | .stationVacate x0 => Sys2Proof.Machine.execStationVacate x0 s
  | .stationReturn x0 => Sys2Proof.Machine.execStationReturn x0 s
  | .linkInfo x0 => Sys2Proof.Machine.execLinkInfo x0 s
  | .marginReplan x0 => Sys2Proof.Machine.execMarginReplan x0 s
  | .fwLoad x0 => Sys2Proof.Machine.execFwLoad x0 s
  | .fwHandover x0 => Sys2Proof.Machine.execFwHandover x0 s
  | .fwInfo x0 => Sys2Proof.Machine.execFwInfo x0 s
  | .journalInfo x0 => Sys2Proof.Machine.execJournalInfo x0 s
  | .journalRead x0 => Sys2Proof.Machine.execJournalRead x0 s
  | .slowCommandCompletion x0 x1 => Sys2Proof.Machine.execSlowCommandCompletion x0 x1 s
  | .replyRetry x0 => Sys2Proof.Machine.execReplyRetry x0 s
  | .fmpHang => Sys2Proof.Machine.execFmpHang s
  | .handoverServing => Sys2Proof.Machine.execHandoverServing s
  | .handoverRevert => Sys2Proof.Machine.execHandoverRevert s
  | .niEnable x0 x1 => Sys2Proof.Machine.execNiEnable x0 x1 s
  | .niDisable x0 x1 => Sys2Proof.Machine.execNiDisable x0 x1 s
  | .niQuiesce x0 x1 => Sys2Proof.Machine.execNiQuiesce x0 x1 s
  | .niResume x0 x1 => Sys2Proof.Machine.execNiResume x0 x1 s
  | .niIsolate x0 x1 => Sys2Proof.Machine.execNiIsolate x0 x1 s
  | .domainReturn x0 => Sys2Proof.Machine.execDomainReturn x0 s
  | .pdAckRise x0 => Sys2Proof.Machine.execPdAckRise x0 s
  | .pdAckFall x0 => Sys2Proof.Machine.execPdAckFall x0 s
  | .reapplyShadows x0 => Sys2Proof.Machine.execReapplyShadows x0 s
  | .slipResponse => Sys2Proof.Machine.execSlipResponse s
  | .journalRecordWrite => Sys2Proof.Machine.execJournalRecordWrite s
  | .nvmResponse x0 x1 => Sys2Proof.Machine.execNvmResponse x0 x1 s
  | .nvmTimeout => Sys2Proof.Machine.execNvmTimeout s
  | .surveyGo x0 => Sys2Proof.Machine.execSurveyGo x0 s
  | .surveyCancel x0 => Sys2Proof.Machine.execSurveyCancel x0 s
  | .surveySnapshot x0 => Sys2Proof.Machine.execSurveySnapshot x0 s
  | .traceForward x0 => Sys2Proof.Machine.execTraceForward x0 s
  | .traceClear x0 => Sys2Proof.Machine.execTraceClear x0 s
  | .probeConfigWrite x0 x1 x2 => Sys2Proof.Machine.execProbeConfigWrite x0 x1 x2 s
  | .tagCtlWrite x0 x1 => Sys2Proof.Machine.execTagCtlWrite x0 x1 s
  | .powerStateEnter x0 => Sys2Proof.Machine.execPowerStateEnter x0 s
  | .powerStateExit x0 => Sys2Proof.Machine.execPowerStateExit x0 s
  | .sleepEnter x0 => Sys2Proof.Machine.execSleepEnter x0 s
  | .sleepExit x0 => Sys2Proof.Machine.execSleepExit x0 s
  | .thermalSample => Sys2Proof.Machine.execThermalSample s
  | .thermalEvaluation x0 => Sys2Proof.Machine.execThermalEvaluation x0 s
  | .hostTrip => Sys2Proof.Machine.execHostTrip s
  | .throttleApply => Sys2Proof.Machine.execThrottleApply s
  | .tripArm => Sys2Proof.Machine.execTripArm s
  | .tripCommitProgram => Sys2Proof.Machine.execTripCommitProgram s
  | .shutdownReady => Sys2Proof.Machine.execShutdownReady s
  | .benchmarkScanStart => Sys2Proof.Machine.execBenchmarkScanStart s
  | .benchmarkScanEnd x0 => Sys2Proof.Machine.execBenchmarkScanEnd x0 s
  | .replanStart x0 => Sys2Proof.Machine.execReplanStart x0 s
  | .eyeMeasureEnd x0 x1 x2 => Sys2Proof.Machine.execEyeMeasureEnd x0 x1 x2 s
  | .recentreStep x0 x1 x2 => Sys2Proof.Machine.execRecentreStep x0 x1 x2 s
  | .vreqStepAck x0 => Sys2Proof.Machine.execVreqStepAck x0 s
  | .vreqNoack => Sys2Proof.Machine.execVreqNoack s
  | .laneFailHard x0 x1 x2 => Sys2Proof.Machine.execLaneFailHard x0 x1 x2 s
  | .failureStakeClose => Sys2Proof.Machine.execFailureStakeClose s
  | .sbeWindowEnd => Sys2Proof.Machine.execSbeWindowEnd s
  | .testStart => Sys2Proof.Machine.execTestStart s
  | .laneTestEnd x0 x1 x2 x3 x4 => Sys2Proof.Machine.execLaneTestEnd x0 x1 x2 x3 x4 s
  | .stationBistEnd x0 x1 => Sys2Proof.Machine.execStationBistEnd x0 x1 s
  | .linkTrainDone x0 x1 x2 => Sys2Proof.Machine.execLinkTrainDone x0 x1 x2 s
  | .modeCauseUpdate => Sys2Proof.Machine.execModeCauseUpdate s
  | .portAdmit x0 => Sys2Proof.Machine.execPortAdmit x0 s
  | .ttSyncSend x0 => Sys2Proof.Machine.execTtSyncSend x0 s
  | .ttSyncReceive x0 x1 => Sys2Proof.Machine.execTtSyncReceive x0 x1 s
  | .ttSyncTimeout x0 => Sys2Proof.Machine.execTtSyncTimeout x0 s
  | .rootOfsUpdate => Sys2Proof.Machine.execRootOfsUpdate s
  | .fedPacketReceive x0 x1 => Sys2Proof.Machine.execFedPacketReceive x0 x1 s
  | .fedChainFlitReceive x0 x1 => Sys2Proof.Machine.execFedChainFlitReceive x0 x1 s
  | .linkBarrierReceive x0 x1 => Sys2Proof.Machine.execLinkBarrierReceive x0 x1 s
  | .fwdEntryExpire x0 x1 => Sys2Proof.Machine.execFwdEntryExpire x0 x1 s
  | .fedIngressHoldExpire x0 => Sys2Proof.Machine.execFedIngressHoldExpire x0 s
  | .fedLinkDown x0 => Sys2Proof.Machine.execFedLinkDown x0 s
  | .fedRestart x0 x1 => Sys2Proof.Machine.execFedRestart x0 x1 s
  | .bulkTableWrite x0 x1 => Sys2Proof.Machine.execBulkTableWrite x0 x1 s
  | .registerWrite x0 x1 x2 => Sys2Proof.Machine.execRegisterWrite x0 x1 x2 s
  | .rcFieldRead x0 x1 x2 => Sys2Proof.Machine.execRcFieldRead x0 x1 x2 s
  | .fedOutboundPacket x0 => Sys2Proof.Machine.execFedOutboundPacket x0 s

end Sys2Proof.Machine
end

