-- ==== Sys2Proof/Machine/Tick.lean ====
section
/-!
DEFINITION. Machine/Tick.lean: one cycle of fclk, what the block does at a step in which no command waits: the counts of the
cycle that ends (R309, R312 to R314), the
event lines that outputs follow (R298), writes that act at its end (R165, R167), the buckets' refill (R163), the datum (R12,
R13), and what follows from the new datum without any event of its own.
-/
namespace Sys2Proof.Machine

/-! ### The counts of a cycle (R309) -/

/-- NI counter 17: non-posted requests started and not ended (R312). -/
def State.niOutstanding (s : State) (p : Nat) : Nat :=
  (((s.ni p).reqs ++ (s.ni p).bars).filter (fun e => match e.2 with
    | some r => r.start.isSome
    | none => false)).length

/-- Active entries, in this cycle, of the outputs that station `st` has a plat for. -/
def State.activeEntries (s : State) (st : Nat) : List (Nat × Nat) :=
  (platOutputs.filter (fun o => o ≠ 11 || (fedOfStation st).isSome)).map
    (fun o => (o, s.entryAt st o (s.nowOf (stnBlk st))))

/-- An entry that names an input, that is, a chain (R91). -/
def namesChain (e : Nat) : Bool := entryIn e < 0xA || entryIn e = 0xB

/-- Counters of a station that count states (R313): LENT, GUARD, CREDIT_STALL, OCCUPANCY, the power state. A waking station counts as
SLEEP, the state it leaves. -/
def State.countStn (s : State) (st : Nat) : State :=
  let x := s.stn st
  let es := s.activeEntries st
  let lent := (es.filter (fun e => namesChain e.2 && !x.gout.any (fun g => g.1 = e.1 && g.2 = s.datum))).length
  let guards := (es.filter (fun e => entryIn e.2 = 0xE)).length
  let held := (x.vcs.map (fun e => e.2.buf.length)).sum
  let stalls := ((List.range 12).filter (fun o => s.creditStall st o)).length
  ((((s.scnt st 23 lent).scnt st 24 guards).scnt st 27 stalls).scnt st 28 held).scnt st (36 + min (s.pwrState st) 3)

/-- Global counters that count states (R314). -/
def State.countGlb (s : State) : State :=
  let fills := (s.glb.rx.filter isFill).length
  let s := (s.gcnt 4 fills).gcnt 15 s.fmp.tickets.length
  let irq := s.irqOut
  let s := (List.range 16).foldl (fun s l => if irq.testBit l then s.gcnt (16 + l) else s) s
  let s := (List.range 8).foldl (fun s n => if s.setSt n = SetSt.IDLE then s else s.gcnt (32 + n)) s
  let s := if s.fmp.nvm.any (fun q => q.op = 1) then s.gcnt 41 else s
  if s.bit A.THM_STATUS F.THM_STATUS_FAST then s.gcnt 44 else s

/-- R309: the counts of states in the cycle that ends. -/
def State.countCycle (s : State) : State :=
  let s := (List.range 144).foldl (fun s p => (s.waitCounts p).ncnt p 17 (s.niOutstanding p)) s
  let s := (List.range 36).foldl (fun s st => s.countStn st) s
  s.countGlb

/-- R163: every shaped class and every policer is refilled. -/
def State.refillAll (s : State) : State :=
  let s := (List.range 144).foldl (fun s p => (List.range 7).foldl (fun s c => s.refillShaper p c) s) s
  (List.range 12).foldl (fun s f => s.refillPolicer f) s

/-! ### The next cycle -/

/-- What port `p` does by itself in the cycle that begins: the selection of slots (R121), a beat dropped on IQ (R226), an
acknowledgement that still stands (R224). -/
def State.portCycle (s : State) (p : Nat) : State :=
  let s := (s.selectCycle p).iqDrop p
  if pclkEdge s.datum then s.qackTake p else s

/-- A block's chain end drives a G flit in this cycle, so that its agent drives no other (R98). -/
def State.gHold (s : State) (b : Nat) : Bool := decide (b < 156) && (s.injects b).isSome

/-- What follows from the new datum alone: the ports of NIs, the local links and credit returns (R52, R53), receive lane
maps (R36), power states (R329, R333), faults seen by the controller (R148), what agents hold for the link (R407, R410), the
FMP's requests that expire (R281), re-plans whose period is over (R355) and its own pace (R356, R364), levels of event sources (R297). -/
def State.newCycle (s : State) : State :=
  let s := (s.nis.map (·.1)).foldl (fun s p => s.portCycle p) s
  let s := (s.linkCycle State.gHold).lanesDue
  let s := (List.range 36).foldl (fun s st => s.pwrTick st) s
  let s := (List.range 8).foldl (fun s n => s.seeFault n) s
  let s := (List.range 12).foldl (fun s f => ((s.fedRelay f).fedDrive f).fedPump f) s
  let s := s.ownExpire.periodTriggers.pumpTests.pumpReplan
  s.cfgSources.foldl (fun s i => s.holdLevel i) s

/-- The datum and with it every other datum counter advances by 1 (R12, R13). -/
def State.nextDatum (s : State) : State := { s with datum := (s.datum + 1) % 2 ^ 64 }

/-- One cycle of fclk; in mode OFF the block has no clock (R371). -/
def State.tick (s : State) : State :=
  if s.mode = Mode.OFF then s
  else s.countCycle.keepLines.settle.refillAll.nextDatum.leaveAll.voteFixes.cycleStart.captures.newCycle

end Sys2Proof.Machine
end

