-- ==== Sys2Proof/Safety.lean ====
section
/-!
DEFINITION. Safety.lean: the terms in which claims about the block speak: the invariant that every step keeps, which commands
are writes of one register, opcodes of the FMP or requests of a unit, and when such a command is taken and not refused.
-/
namespace Sys2Proof.Machine

/-- What holds of the state after every step: the bulk memory has its canonical form and the global datum is a value of
its 64-bit counter (R12). -/
def State.Inv (s : State) : Prop := Memory.wf s.mem = true ∧ s.datum < 2 ^ 64

/-- No command of the block can end in a fault; a run is safe as long as no command is refused. -/
def SafeStep (s : State) : Prop := ∃ t, step s = .next t

/-- The commands that can write the bulk memory; the resets among them leave it empty (R377, R382). -/
def writesMemory (c : Instr) : Bool :=
  match c with
  | .platPatchApply _ | .routeAround | .bootInit _ | .bootServing | .stationBistEnd _ _ | .failureStakeClose
  | .traceForward _ | .slowCommandCompletion _ _ | .bulkTableWrite _ _ | .registerWrite _ _ _ => true
  | .coldReset | .warmReset | .softResetBegin | .lcStateChange _ | .powerRemove | .scanModeChange _ | .shutdownReady => true
  | _ => false

/-- The commands that can end in a reset, or in the removal of power (R376, R378, R380, R414, R431). -/
def mayReset (c : Instr) : Bool :=
  match c with
  | .coldReset | .warmReset | .softResetBegin | .lcStateChange _ | .powerRemove | .scanModeChange _ | .shutdownReady => true
  | _ => false

/-! ### Register writes (R5 to R9, R439, R449) -/

/-- The offset and the request of a command that is a write of one register; none for any other command. -/
def regWrite (c : Instr) : Option (Nat × Req) :=
  match c with
  | .softResetWrite r => some (A.GLB_SOFT_RESET, r)
  | .alignGo r => some (A.DAT_CTL, r)
  | .reconfWrite i r => some (A.STN_TRAV_CTL i.val, r)
  | .retireOld i r => some (A.STN_TRAV_CTL i.val, r)
  | .invGo p r => some (A.NI_ROUTE_CTL p.val, r)
  | .chainProbeGo p r => some (A.NI_CHAIN_CTL p.val, r)
  | .platPatchGo i r => some (A.STN_PLAT_PATCH i.val, r)
  | .setOpen n r => some (A.STK_SET_CTL n.val, r)
  | .setClose n r => some (A.STK_SET_CTL n.val, r)
  | .setAbort n r => some (A.STK_SET_CTL n.val, r)
  | .expCollect b n r => some (expOf b.val n.val, r)
  | .expExpect b n r => some (expOf b.val n.val, r)
  | .expAbort b n r => some (expOf b.val n.val, r)
  | .expRelease b n r => some (expOf b.val n.val, r)
  | .shaperResetWrite p g r => some (shaperAddr p.val g, r)
  | .policeResetWrite f z r => some (if z then A.FED_POLICE_SIZE f.val else A.FED_POLICE_RATE f.val, r)
  | .sluiceGo p r => some (A.NI_SLUICE_CTL p.val, r)
  | .sluiceCancel p r => some (A.NI_SLUICE_CTL p.val, r)
  | .histClear p r => some (A.NI_HIST_CTL p.val, r)
  | .mergeFlush p r => some (A.NI_MERGE_CTL p.val, r)
  | .lockRelease l r => some (A.LCK_ACQ l.val, r)
  | .descGo p r => some (A.NI_PORT_CTL p.val, r)
  | .mailboxPop n r => some (A.MBX_CH_CTL n.val, r)
  | .mbxCfgWrite n r => some (A.MBX_CH_CFG n.val, r)
  | .niEnable p r => some (A.NI_CTL p.val, r)
  | .niDisable p r => some (A.NI_CTL p.val, r)
  | .niQuiesce p r => some (A.NI_CTL p.val, r)
  | .niResume p r => some (A.NI_CTL p.val, r)
  | .niIsolate p r => some (A.NI_CTL p.val, r)
  | .surveyGo r => some (A.SRV_CTL, r)
  | .surveyCancel r => some (A.SRV_CTL, r)
  | .traceClear r => some (A.SRV_TRACE_CTL, r)
  | .probeConfigWrite k act r => some (if act then (probeRegs k.val).2.1 else (probeRegs k.val).1, r)
  | .tagCtlWrite p r => some (A.NI_TAG_CTL p.val, r)
  | .fedRestart f r => some (A.FED_CTL f.val, r)
  | .registerWrite off sz r =>
    if sz.val = 8 ∧ off.val % 8 = 0 ∧ off.val < 0x1000000 then some (off.val, r) else none
  | _ => none

/-- The write is served: the block has power (R371), the register exists (R439), the writer meets its privilege (R9) and
no field carries a reserved encoding (R6). -/
abbrev State.admits (s : State) (a : Nat) (r : Req) : Prop :=
  s.mode ≠ Mode.OFF ∧ s.writeGate a r = .go ∧ reservedEnc a r.data = false

/-- No access of this cycle to the lock bank waits, or was served, with another one (R200). -/
abbrev State.lockTurn (s : State) : Prop := s.glb.lckSkip = 0 ∧ s.pending.filterMap lockAccOf = []

/-- The mailbox unit can serve an access in this mclk (R228). -/
abbrev State.mbxTurn (s : State) : Prop := s.glb.mbxSkip = 0 ∧ s.accFree = true

/-- The unit that serves offset `a` serves the access now: the lock bank and the mailbox unit have turns. -/
abbrev State.inTurn (s : State) (a : Nat) : Prop :=
  (inLocks a = true → s.lockTurn) ∧ (inMbx a = true → s.mbxTurn)

/-- The state in which that unit serves the access: an access to the mailbox unit uses its mclk (R228). -/
def State.atUnit (s : State) (a : Nat) : State := if inMbx a then s.accUsed else s

/-! ### Commands to the FMP (R246, R252 to R255) -/

/-- The command pair and the opcode of a command that is an opcode of the FMP; none for any other command. -/
def fmpOpcode (c : Instr) : Option (Nat × Nat) :=
  match c with
  | .nop k => some (k.val, 0x00) | .info k => some (k.val, 0x01) | .ticketStatus k => some (k.val, 0x02)
  | .ticketCancel k => some (k.val, 0x03) | .modeSet k => some (k.val, 0x04) | .regSet k => some (k.val, 0x05)
  | .mbxConfig k => some (k.val, 0x06) | .lockForce k => some (k.val, 0x07) | .mapLoad k => some (k.val, 0x08)
  | .enumerate k => some (k.val, 0x09) | .portEnable k => some (k.val, 0x0A) | .portDisable k => some (k.val, 0x0B)
  | .portIsolate k => some (k.val, 0x0C) | .portStatus k => some (k.val, 0x0D) | .routePrepare k => some (k.val, 0x10)
  | .routeWrite k => some (k.val, 0x11) | .routeRead k => some (k.val, 0x12) | .routeSwitch k => some (k.val, 0x13)
  | .routeDrain k => some (k.val, 0x14) | .routeFinish k => some (k.val, 0x15) | .routeCacheLoad k => some (k.val, 0x16)
  | .fedMap k => some (k.val, 0x17) | .platStage k => some (k.val, 0x18) | .platSwap k => some (k.val, 0x19)
  | .platPatch k => some (k.val, 0x1A) | .platRead k => some (k.val, 0x1B) | .chainInfo k => some (k.val, 0x1C)
  | .chainProbe k => some (k.val, 0x1D) | .stakeInfo k => some (k.val, 0x20) | .stateConfig k => some (k.val, 0x21)
  | .stakeAbort k => some (k.val, 0x22) | .domainDown k => some (k.val, 0x28) | .domainUp k => some (k.val, 0x29)
  | .domainStatus k => some (k.val, 0x2A) | .surveyTake k => some (k.val, 0x30) | .surveyRead k => some (k.val, 0x31)
  | .probeSet k => some (k.val, 0x32) | .tagSet k => some (k.val, 0x33) | .traceRead k => some (k.val, 0x34)
  | .counterPerm k => some (k.val, 0x35) | .thermalPolicy k => some (k.val, 0x38) | .thermalRead k => some (k.val, 0x39)
  | .powerPolicy k => some (k.val, 0x3A) | .testRequest k => some (k.val, 0x40) | .stationVacate k => some (k.val, 0x41)
  | .stationReturn k => some (k.val, 0x42) | .linkInfo k => some (k.val, 0x43) | .marginReplan k => some (k.val, 0x44)
  | .fwLoad k => some (k.val, 0x48) | .fwHandover k => some (k.val, 0x49) | .fwInfo k => some (k.val, 0x4A)
  | .journalInfo k => some (k.val, 0x50) | .journalRead k => some (k.val, 0x51)
  | _ => none

/-- The FMP takes message `m`, a command of opcode `op`, from pair `k`: the pair has its turn (R246), the command is at its head,
its SEQ is not the kept
command's (R253), and it passes the checks of reserved bits, privilege and mode (R252, R257). -/
def State.takes (s : State) (k op : Nat) (m : Msg) : Prop :=
  s.fmpNext = some k ∧ s.fmpHead k = some m ∧ opcodeOf m.data = op ∧ (s.fmpPop k).resend k m.data = none ∧
    ∃ i, opInfo op = some i ∧ (s.fmpPop k).fmpJudge i m = none

/-- A SLOW command that passes its own checks gets a ticket: a place is left for one (R256) and no ticket holds what it
needs (R274). -/
def State.grants (s : State) (k : Nat) (m : Msg) : Prop :=
  (∃ u, s.ticketRoom k = some u) ∧ s.conflict m.data = none

/-- The ticket that a SLOW command takes (R255, R256). -/
def State.newTicket (s : State) (k op : Nat) (m : Msg) : Tkt :=
  { num := s.nextTicket, pair := k, op := op, seq := seqOf m.data, quiet := (msgWord m.data 0).testBit 8, priv := m.priv
    src := m.src, cmd := m.data, at' := s.datum }

/-- The state in which a SLOW command has its ticket and its REPLY OK has been produced (R255). -/
def State.ticketed (s : State) (k op : Nat) (m : Msg) : State :=
  match s.ticketRoom k with
  | none => s
  | some u =>
    let t := { u.newTicket k op m with at' := s.datum }
    let v := { u with fmp := { u.fmp with lastTicket := t.num } }.setTickets (u.fmp.tickets ++ [t])
    v.reply k m.data t.num .ok

/-! ### Requests of a unit on IQ (R209) -/

/-- The port, the operation and the beat of a command that offers a beat on IQ; none for any other command. -/
def iqRequest (c : Instr) : Option (Nat × Nat × IqBeat) :=
  match c with
  | .load p b => some (p.val, 0, b)
  | .store p b => some (p.val, 1, b)
  | .storeNp p b => some (p.val, 2, b)
  | .loadRsv p b => some (p.val, 3, b)
  | .storeCond p b => some (p.val, 4, b)
  | .barrier p b => some (p.val, 5, b)
  | .chainPut p b => some (p.val, 6, b)
  | .message p b => some (p.val, 7, b)
  | _ => none

/-- The beat is offered at this edge: the check that it is held steady (R226), and the edge noted. -/
def State.iqSeen (s : State) (p op : Nat) (b : IqBeat) : State :=
  (s.iqSteady p op b).modNi p (fun n => { n with iqAt := s.datum + 1 })

/-- The operation of the request that the beat belongs to. -/
abbrev State.iqOp (s : State) (p op : Nat) (b : IqBeat) : Nat := ((s.iqSeen p op b).iqWhole p op b).1
/-- The request up to and with the beat (R210). -/
abbrev State.iqReq (s : State) (p op : Nat) (b : IqBeat) : IqReq := ((s.iqSeen p op b).iqWhole p op b).2

/-- With room made for a store that needs a new line (R179). -/
def State.iqRoomed (s : State) (p op : Nat) (b : IqBeat) : State :=
  (s.iqSeen p op b).makeRoom p (s.iqOp p op b) (s.iqReq p op b)

/-- The beat transfers in this cycle (R204, R207, R211). -/
abbrev State.accepts (s : State) (p op : Nat) (b : IqBeat) : Prop :=
  s.iqEdge p = true ∧ (s.iqRoomed p op b).iqReady p (s.iqOp p op b) (s.iqReq p op b) = true

/-- The state in which it has transferred. -/
def State.iqMoved (s : State) (p op : Nat) (b : IqBeat) : State :=
  (s.iqRoomed p op b).modNi p (fun n => { n with iqHeld := none })

/-- Nothing is wrong with the way a request is driven (R205, R209, R226). -/
abbrev IqReq.good (q : IqReq) (op : Nat) : Prop := q.badPar = false ∧ iqLegal q op = true

/-- The acceptance number of a request. -/
abbrev State.iqAcc (s : State) (p op : Nat) : Nat := (s.iqTake p op).1
/-- Its tag, or for a posted store its key in the NI. -/
abbrev State.iqKey (s : State) (p op : Nat) : Nat := (s.iqTake p op).2.1
/-- The state in which it has been accepted and counted. -/
abbrev State.iqTaken (s : State) (p op : Nat) : State := (s.iqTake p op).2.2

end Sys2Proof.Machine
end

