-- ==== Sys2Proof/Certificates/Slice0/Obligations.lean ====
section
/-!
DEFINITION. Certificates/Slice0/Obligations.lean: the statements about the block that the provers settle.
-/
open Sys2Proof Sys2Proof.Machine

/-! ### The block as a machine -/

/-- With a command at the front of the queue a step is that command's effect on the state with the queue's rest. -/
def Obligations.StepRunsTheFrontCommand : Prop :=
  ∀ (s : State) (c : Instr) (rest : List Instr),
    step { s with pending := c :: rest } = exec c { s with pending := rest }

/-- On an empty queue a step is one cycle of fclk (the model's choice, log entry 1): the datum advances by 1 and wraps at
2^64 (R12), memory keeps its bytes and no command appears; in mode OFF the block has no power and stands still. -/
def Obligations.EmptyQueueIsOneCycle : Prop :=
  ∀ s : State, s.pending = [] →
    step s = .next s.tick ∧
    (s.mode = Mode.OFF → s.tick = s) ∧
    (s.mode ≠ Mode.OFF → s.tick.datum = (s.datum + 1) % 2 ^ 64 ∧ s.tick.mem = s.mem ∧ s.tick.pending = [])

/-- At reset the datum is 0, the mode is WIPE, every register reads its reset value, every byte of the bulk memory reads 0
and no command, message, ticket, stake set, link content or access is waiting (the registers' values of the rules whose
reset value the spec does not give are the model's choice, log entry 2). -/
def Obligations.ResetState : Prop :=
  State.reset.datum = 0 ∧ State.reset.mode = Mode.WIPE ∧ (∀ a, State.reset.rd a = resetOf a) ∧
  (∀ a, State.reset.rdByte a = 0) ∧ State.reset.pending = [] ∧ (∀ n, State.reset.msgs n = []) ∧
  State.reset.fmp.tickets = [] ∧ (∀ n, n < 8 → State.reset.setSt n = SetSt.IDLE) ∧
  (∀ l, l < 256 → State.reset.lockHeld l = false) ∧ (∀ p, p < 144 → State.reset.niState p = PortStt.DISABLED) ∧
  (∀ i k, ((State.reset.stn i).port k).wire = []) ∧ (∀ p t, State.reset.req p t = none)

/-- The state after reset meets the invariant. -/
def Obligations.ResetMeetsTheInvariant : Prop := State.reset.Inv

/-- From every state that meets the invariant every step, a command's or a cycle's, leads to one that meets it: the memory
keeps its canonical form and the datum stays a 64-bit count (R12). -/
def Obligations.EveryStepKeepsTheInvariant : Prop := ∀ s t : State, s.Inv → step s = .next t → t.Inv

/-- Every command, in every state, answers a next state, and leaves the queue of commands as it was. -/
def Obligations.EveryCommandCompletes : Prop :=
  ∀ (c : Instr) (s : State), ∃ t : State, exec c s = .next t ∧ t.pending = s.pending

/-- Memory frame: every command but the seventeen of `writesMemory` leaves every byte of the bulk memory as it was.
The commands that write memory leave alone what lies outside the bytes they store: the entry of the active bank of the
patched plat (R105); the 8 bytes at the offset of a bulk write (R442); the 32 bytes of the trace record at the write pointer
(R326); the 64 KiB of the tested station's plat banks (R367); a SLOW command's work writes memory only for ENUMERATE,
ROUTE_PREPARE, ROUTE_WRITE and PLAT_STAGE. -/
def Obligations.MemoryFrame : Prop :=
  (∀ (c : Instr) (s t : State), writesMemory c = false → exec c s = .next t → ∀ a, t.rdByte a = s.rdByte a) ∧
  ((∀ (i : Fin 36) (s t : State) (n k e : Nat), exec (.platPatchApply i) s = .next t → (s.stn i.val).patch = some (n, k, e) →
     ∀ a, a < platAddr i.val n (s.platBank i.val n) k ∨ platAddr i.val n (s.platBank i.val n) k + 2 ≤ a →
       t.rdByte a = s.rdByte a) ∧
   (∀ (off : Fin 33554432) (r : Req) (s t : State), exec (.bulkTableWrite off r) s = .next t →
     ∀ a, a < off.val ∨ off.val + 8 ≤ a → t.rdByte a = s.rdByte a) ∧
   (∀ (off : Fin 33554432) (sz : Fin 9) (r : Req) (s t : State), exec (.registerWrite off sz r) s = .next t →
     (∀ a, a < off.val ∨ off.val + 8 ≤ a → t.rdByte a = s.rdByte a) ∧
     (off.val < 0x1000000 → ∀ a, t.rdByte a = s.rdByte a)) ∧
   (∀ (i : Fin 36) (s t : State), exec (.traceForward i) s = .next t →
     ∀ a, a < 0x1800000 + 32 * s.fld A.SRV_TRACE_STATUS F.SRV_TRACE_STATUS_WPTR ∨
       0x1800000 + 32 * s.fld A.SRV_TRACE_STATUS F.SRV_TRACE_STATUS_WPTR + 32 ≤ a → t.rdByte a = s.rdByte a) ∧
   (∀ (i : Fin 36) (f : Fin 7) (s t : State), exec (.stationBistEnd i f) s = .next t →
     ∀ a, a < platAddr i.val 0 0 0 ∨ platAddr (i.val + 1) 0 0 0 ≤ a → t.rdByte a = s.rdByte a) ∧
   (∀ (n : Fin 256) (w : SlowEnd) (s t : State), exec (.slowCommandCompletion n w) s = .next t →
     (∀ x ∈ s.working, x.num = n.val → x.op ≠ 0x09 ∧ x.op ≠ 0x10 ∧ x.op ≠ 0x11 ∧ x.op ≠ 0x18) →
     ∀ a, t.rdByte a = s.rdByte a))

/-- Every command but those that can reset the block leaves the datum as it was; a reset leaves it or sets it to 0. -/
def Obligations.OnlyResetsMoveTheDatum : Prop :=
  ∀ (c : Instr) (s t : State), exec c s = .next t →
    (mayReset c = false → t.datum = s.datum) ∧ (t.datum = s.datum ∨ t.datum = 0)

/-- Bytes written to the bulk memory, least significant first (R4), read back as the number written, every other byte is
kept, and the memory keeps its canonical form.
R16 in the part of the datum's range where the interval lies inside it: the value a truncated stamp stands for has the
stamp as its low bits and lies in (now - 2^(n-1), now + 2^(n-1)], and no other value does. -/
def Obligations.BytesAndStampsReadBack : Prop :=
  (∀ (s : State) (a v n : Nat),
     (s.wrMem a v n).rdMem a n = v % 256 ^ n ∧
     (∀ b, b < a ∨ a + n ≤ b → (s.wrMem a v n).rdByte b = s.rdByte b) ∧
     (Memory.wf s.mem = true → Memory.wf (s.wrMem a v n).mem = true)) ∧
  (∀ n now stamp : Nat, 1 ≤ n → 2 ^ (n - 1) ≤ now + 1 →
     let x := expandStamp n now stamp
     x % 2 ^ n = stamp % 2 ^ n ∧ now < x + 2 ^ (n - 1) ∧ x ≤ now + 2 ^ (n - 1) ∧
     (∀ y : Nat, y % 2 ^ n = stamp % 2 ^ n → now < y + 2 ^ (n - 1) → y ≤ now + 2 ^ (n - 1) → y = x))

/-! ### Packets -/

/-- Decoding and encoding of the header unit agree (R43): the header read from a header's 256 bits is the header, with every
field at every value, and the 256 bits of the header read from any 256 bits are those bits. -/
def Obligations.HeaderRoundTrip : Prop :=
  (∀ h : Hdr, Hdr.ofBits h.bits = h) ∧ (∀ x : BitVec 256, (Hdr.ofBits x).bits = x)

/-- A packet sent as flits on any virtual channel is put together again from them: its header, its data units, its CRC and
its poison mark (R38, R43, R49). The first flit, and no other, begins a packet and the last, and no other, ends one. -/
def Obligations.PacketRoundTrip : Prop :=
  ∀ (p : Pkt) (vc : Nat),
    Pkt.ofFlits (p.flits vc) = p ∧
    (p.flits vc).length = 1 + p.units.length ∧
    (∀ f ∈ p.flits vc, f.vc = vc ∧ f.poison = p.poison) ∧
    (∀ f, (p.flits vc).head? = some f → f.isHead = true) ∧ (∀ f ∈ (p.flits vc).tail, f.isHead = false) ∧
    (∀ f, (p.flits vc).getLast? = some f → f.isTail = true) ∧ (∀ f ∈ (p.flits vc).dropLast, f.isTail = false)

/-- A packet as its builder seals it passes the consumer's check (R49, R50), whatever HOPPTR the stations have left in its
header; with a poisoned flit, a data unit missing or added, or another CRC it fails. -/
def Obligations.EndToEndCheck : Prop :=
  ∀ (h : Hdr) (us : List (BitVec 256)) (hop : BitVec 4), us.length ≤ 31 →
    { Pkt.seal h us with h := { (Pkt.seal h us).h with hopptr := hop } }.fails = false ∧
    ({ Pkt.seal h us with poison := true }).fails = true ∧
    (∀ vs : List (BitVec 256), vs.length ≠ us.length → ({ Pkt.seal h us with units := vs }).fails = true) ∧
    (∀ c : BitVec 32, c ≠ (Pkt.seal h us).crc → ({ Pkt.seal h us with crc := c }).fails = true)

/-! ### Instants -/

/-- R26: rounding an instant up to a granule gives the smallest multiple of the granule that is not below it; an instant
that is a multiple is unchanged. -/
def Obligations.RoundUpToAGranule : Prop :=
  ∀ t g : Nat, 0 < g →
    g ∣ roundUp t g ∧ t ≤ roundUp t g ∧ (∀ y, g ∣ y → t ≤ y → roundUp t g ≤ y) ∧ (g ∣ t → roundUp t g = t)

/-! ### Configuration accesses -/

/-- What every command that is a write of one register does before the register's own rule: in mode OFF nothing (R371); an
offset that names no register answers TGTERR (R439); a writer below the register's privilege gets DENY (R9); a register
without a write column answers OK unchanged (R449); a reserved encoding gets DENY and leaves the register (R6). An access to
the lock bank is judged in its turn among those of its cycle (R200), one to the mailbox unit as the one of its mclk (R228).
R5: a configuration access, read or write, that is not 64 bits wide and naturally aligned answers TGTERR and has no
effect: no register changes (but the global block's counts of the accesses it serves and of the packets it has under way), no
memory, no other part of the state that an access could reach. -/
def Obligations.ConfigurationAccessesAreJudgedFirst : Prop :=
  (∀ (c : Instr) (a : Nat) (r : Req) (s : State), regWrite c = some (a, r) →
     (s.mode = Mode.OFF → exec c s = .next s) ∧
     (s.mode ≠ Mode.OFF → s.inTurn a →
       (s.writeGate a r = .bad → exec c s = .next ((s.atUnit a).ans a r Code.TGTERR)) ∧
       (s.writeGate a r = .deny → exec c s = .next ((s.atUnit a).ans a r Code.DENY)) ∧
       (s.writeGate a r = .silent → exec c s = .next ((s.atUnit a).ans a r Code.OK)) ∧
       (s.writeGate a r = .go → reservedEnc a r.data = true → exec c s = .next ((s.atUnit a).ans a r Code.DENY)))) ∧
  (∀ (off : Fin 33554432) (sz : Fin 9) (r : Req) (s : State), s.mode ≠ Mode.OFF → sz.val ≠ 8 ∨ off.val % 8 ≠ 0 →
     ∀ rd : Bool, ∃ t : State,
       exec (if rd then .rcFieldRead off sz r else .registerWrite off sz r) s = .next t ∧
       t = s.answer off.val r rd Code.TGTERR 0 ∧
       (∀ b, b ≠ A.GLB_CNT 5 → b ≠ A.GLB_CNT 6 → (∀ f, b ≠ travStatOf f) → t.rd b = s.rd b) ∧ t.mem = s.mem ∧
       t.shadow = s.shadow ∧ t.nis = s.nis ∧ t.feds = s.feds ∧ t.chains = s.chains ∧ t.stk = s.stk ∧ t.mbx = s.mbx ∧
       t.fmp = s.fmp ∧ t.thm = s.thm ∧ t.host = s.host ∧ t.skew = s.skew ∧ t.datum = s.datum)

/-- A served access has its effect: a register write is judged and carried out by the register's own rule and answered with
that rule's code; SRV_NEXT, which no rule but its table governs and which nothing else changes in the cycle, then holds the
data; a read of a register returns its value
and clears its fields of type RC and no other (R7); DAT_MER_STATUS shows it: MAX_WAIT reads once and is then 0, or what the
cycle itself has raised it to (R440), PENDING and LATE_COUNT stay; a write of the bulk window by the FMP stores its 8 bytes
where R442 and R104 allow it. An access to the lock bank (R200) or the mailbox unit (R228) is served in its turn.
The bulk windows (R442): a misaligned offset answers TGTERR (R5); a writer that is not the FMP gets DENY; the FMP gets TGTERR
for a reserved part of the windows and the trace store, DENY for the active bank of a plat and for a locked plat (R104,
R106); none of these stores a byte. -/
def Obligations.ConfigurationAccessesComplete : Prop :=
  ((∀ (off : Fin 33554432) (sz : Fin 9) (r : Req) (s : State), sz.val = 8 → off.val % 8 = 0 → off.val < 0x1000000 →
     s.admits off.val r → s.inTurn off.val →
       ∃ u : State, u = s.atUnit off.val ∧
         exec (.registerWrite off sz r) s = .next ((u.regAct off.val r).1.ans off.val r (u.regAct off.val r).2)) ∧
   (∀ (off : Fin 33554432) (sz : Fin 9) (r : Req) (s : State), sz.val = 8 → off.val = A.SRV_NEXT → s.admits off.val r →
     (s.seenOf A.SRV_NEXT).2 = s.rd A.SRV_NEXT →
     ∃ t : State, exec (.registerWrite off sz r) s = .next (t.ans off.val r Code.OK) ∧ t.rd A.SRV_NEXT = r.data ∧
       ∀ b, b ≠ A.SRV_NEXT → t.rd b = s.rd b) ∧
   (∀ (off : Fin 33554432) (sz : Fin 9) (r : Req) (s : State) (row : RegRow), s.mode ≠ Mode.OFF → sz.val = 8 →
     off.val % 8 = 0 → off.val < 0x1000000 → shadowView off.val = none → rowAt off.val = some row → row.rd ≠ .closed →
     s.aclOk row.rd off.val r = true → inLocks off.val = false → s.inTurn off.val →
       ∃ u : State, u = s.atUnit off.val ∧
         exec (.rcFieldRead off sz r) s = .next ((u.readClear off.val).answer off.val r true Code.OK (u.readView off.val)) ∧
         (∀ b, b ≠ off.val → (u.readClear off.val).rd b = s.rd b)) ∧
   (∀ (off : Fin 33554432) (sz : Fin 9) (r : Req) (s : State), s.mode ≠ Mode.OFF → sz.val = 8 →
     off.val = A.DAT_MER_STATUS → 1 ≤ effPriv r.src r.priv →
       ∃ t : State, exec (.rcFieldRead off sz r) s = .next (t.answer off.val r true Code.OK (s.view A.DAT_MER_STATUS)) ∧
         F.DAT_MER_STATUS_MAX_WAIT.get (s.view A.DAT_MER_STATUS) =
           F.DAT_MER_STATUS_MAX_WAIT.get (s.seenOf A.DAT_MER_STATUS).1 ∧
         t.fld A.DAT_MER_STATUS F.DAT_MER_STATUS_MAX_WAIT =
           (if F.DAT_MER_STATUS_MAX_WAIT.get (s.seenOf A.DAT_MER_STATUS).2 =
               s.fld A.DAT_MER_STATUS F.DAT_MER_STATUS_MAX_WAIT then 0
            else s.fld A.DAT_MER_STATUS F.DAT_MER_STATUS_MAX_WAIT) ∧
         t.fld A.DAT_MER_STATUS F.DAT_MER_STATUS_PENDING = s.fld A.DAT_MER_STATUS F.DAT_MER_STATUS_PENDING ∧
         t.fld A.DAT_MER_STATUS F.DAT_MER_STATUS_LATE_COUNT = s.fld A.DAT_MER_STATUS F.DAT_MER_STATUS_LATE_COUNT) ∧
   (∀ (off : Fin 33554432) (r : Req) (s : State), s.mode ≠ Mode.OFF → isFmp r = true → off.val % 8 = 0 →
     (bulkOf off.val = .route ∨ ∃ st n b, bulkOf off.val = .plat st n b ∧ s.platBank st n ≠ b ∧
       s.fld (A.STN_PLAT_CTL st n) F.STN_PLAT_CTL_LOCKED = 0) →
       exec (.bulkTableWrite off r) s = .next ((s.wrMem off.val r.data.toNat 8).ans off.val r Code.OK))) ∧
  (∀ (off : Fin 33554432) (r : Req) (s : State), s.mode ≠ Mode.OFF → 0x1000000 ≤ off.val →
     (off.val % 8 ≠ 0 → exec (.bulkTableWrite off r) s = .next (s.ans off.val r Code.TGTERR)) ∧
     (off.val % 8 = 0 → isFmp r = false → exec (.bulkTableWrite off r) s = .next (s.ans off.val r Code.DENY)) ∧
     (isFmp r = true →
       (bulkOf off.val = .reserved ∨ bulkOf off.val = .trace →
         exec (.bulkTableWrite off r) s = .next (s.ans off.val r Code.TGTERR)) ∧
       (∀ st n b, off.val % 8 = 0 → bulkOf off.val = .plat st n b →
         s.platBank st n = b ∨ s.fld (A.STN_PLAT_CTL st n) F.STN_PLAT_CTL_LOCKED = 1 →
         exec (.bulkTableWrite off r) s = .next (s.ans off.val r Code.DENY))))

/-! ### Locks -/

/-- R199: a read of LCK_ACQn by a reader of the required privilege. A free lock becomes the reader's and answers ACQUIRED; the
reader's own lock answers OWNED and no lock changes; another's answers BUSY with the owner and 16 * 2^min(b, 10) fclk, b being
the BUSY answers given since it was acquired. A write of RELEASE = 1 by the owner frees it; by the FMP it frees it and counts
it in FORCED; by any other writer it answers DENY. A read of LCK_PEEKn returns the lock and changes none.
A read of LCK_ACQn below LCK_CFG.MIN_PRIV answers DENY, returns 0 and acquires nothing (R9, R203); in mode OFF nothing is
served.
R200: the accesses of one cycle, here those whose commands wait in the queue (the model's reading, log entry 76), are served
one after another in the order of their source ports from the rotating pointer on; the waiting commands then have nothing
left to do. -/
def Obligations.LockBank : Prop :=
  ((∀ (l : Fin 256) (r : Req) (s : State), s.mode ≠ Mode.OFF → s.lockTurn → s.aclOk .lck (A.LCK_ACQ l.val) r = true →
     (s.lockHeld l.val = false →
       ∃ t : State, exec (.lockAcquire l r) s =
           .next (t.answer (A.LCK_ACQ l.val) r true Code.OK (lockWord Lck.ACQUIRED r.src.toNat 0)) ∧
         t.lockHeld l.val = true ∧ t.lockOwner l.val = r.src.toNat ∧
         ∀ m : Fin 256, m ≠ l → t.rd (A.LCK_PEEK m.val) = s.rd (A.LCK_PEEK m.val)) ∧
     (s.lockHeld l.val = true → s.lockOwner l.val = r.src.toNat →
       ∃ t : State, exec (.lockAcquire l r) s =
           .next (t.answer (A.LCK_ACQ l.val) r true Code.OK (lockWord Lck.OWNED r.src.toNat 0)) ∧ t.regs = s.regs) ∧
     (s.lockHeld l.val = true → s.lockOwner l.val ≠ r.src.toNat →
       ∃ t : State, exec (.lockAcquire l r) s = .next (t.answer (A.LCK_ACQ l.val) r true Code.OK
           (lockWord Lck.BUSY (s.lockOwner l.val) (16 * 2 ^ min (tget 0 s.glb.lckBusy l.val) 10))) ∧
         tget 0 t.glb.lckBusy l.val = tget 0 s.glb.lckBusy l.val + 1 ∧
         ∀ m : Fin 256, t.rd (A.LCK_PEEK m.val) = s.rd (A.LCK_PEEK m.val))) ∧
   (∀ (l : Fin 256) (r : Req) (s : State), s.admits (A.LCK_ACQ l.val) r → s.lockTurn → reqFld r F.LCK_ACQ_RELEASE = 1 →
     (s.lockHeld l.val = true → s.lockOwner l.val = r.src.toNat →
       exec (.lockRelease l r) s = .next (((s.lockServed r.src).lockFree l.val).ans (A.LCK_ACQ l.val) r Code.OK)) ∧
     (s.lockHeld l.val = true → s.lockOwner l.val ≠ r.src.toNat → isFmp r = true →
       exec (.lockRelease l r) s = .next ((((s.lockServed r.src).lockFree l.val).sat A.LCK_STATUS F.LCK_STATUS_FORCED).ans
         (A.LCK_ACQ l.val) r Code.OK)) ∧
     (¬(s.lockHeld l.val = true ∧ s.lockOwner l.val = r.src.toNat) → isFmp r = false →
       exec (.lockRelease l r) s = .next ((s.lockServed r.src).ans (A.LCK_ACQ l.val) r Code.DENY))) ∧
   (∀ (l : Fin 256) (s : State), (s.lockFree l.val).lockHeld l.val = false ∧
     tget 0 (s.lockFree l.val).glb.lckBusy l.val = 0 ∧
     ∀ m : Fin 256, m ≠ l → (s.lockFree l.val).rd (A.LCK_PEEK m.val) = s.rd (A.LCK_PEEK m.val)) ∧
   (∀ (l : Fin 256) (off : Fin 33554432) (sz : Fin 9) (r : Req) (s : State), s.mode ≠ Mode.OFF → sz.val = 8 →
     off.val = A.LCK_PEEK l.val →
       exec (.rcFieldRead off sz r) s =
         .next (s.answer (A.LCK_PEEK l.val) r true Code.OK (s.seenOf (A.LCK_PEEK l.val)).1))) ∧
  (∀ (l : Fin 256) (r : Req) (s : State),
     (s.mode = Mode.OFF → exec (.lockAcquire l r) s = .next s) ∧
     (s.mode ≠ Mode.OFF → s.lockTurn → effPriv r.src r.priv < s.fld A.LCK_CFG F.LCK_CFG_MIN_PRIV →
       exec (.lockAcquire l r) s = .next (s.answer (A.LCK_ACQ l.val) r true Code.DENY 0))) ∧
  ((∀ (ptr : Nat) (xs : List LockAcc),
     (lockOrder ptr xs).Perm xs ∧ (lockOrder ptr xs).Pairwise (fun x y => lockRank ptr x ≤ lockRank ptr y)) ∧
   (∀ (c : Instr) (l : Fin 256) (r : Req) (read : Bool) (s : State),
     c = (if read then .lockAcquire l r else .lockRelease l r) → s.mode ≠ Mode.OFF →
     (0 < s.glb.lckSkip → exec c s = .next { s with glb := { s.glb with lckSkip := s.glb.lckSkip - 1 } }) ∧
     (∀ xs, s.glb.lckSkip = 0 → s.pending.filterMap lockAccOf = xs → xs ≠ [] →
       ∃ t : State, t = (lockOrder s.glb.lckPtr (⟨A.LCK_ACQ l.val, read, r⟩ :: xs)).foldl State.lockServe s ∧
         exec c s = .next { t with glb := { t.glb with lckSkip := xs.length } })))

/-! ### Commands to the FMP and requests of a unit in general -/

/-- What holds of every opcode of the FMP (R246, R252, R253, R257): out of the pair's turn and without a command at its head
nothing happens; a
reserved opcode is answered BADOP; a command of another opcode waits; a command whose SEQ is the kept one's is answered from
what is kept; one that sets a bit that must be 0, comes from too low a privilege or in a mode that does not accept it is
answered BADARG, PRIV or MODE, in that order. -/
def Obligations.FmpCommandsAreJudgedFirst : Prop :=
  ∀ (c : Instr) (k op : Nat) (s : State), fmpOpcode c = some (k, op) →
    (s.fmpNext ≠ some k ∨ s.fmpHead k = none → exec c s = .next s) ∧
    (∀ m, s.fmpNext = some k → s.fmpHead k = some m →
      (opInfo (opcodeOf m.data) = none →
        exec c s = .next (((s.fmpPop k).resend k m.data).getD ((s.fmpPop k).reply k m.data 0 .badOp))) ∧
      (opInfo (opcodeOf m.data) ≠ none → opcodeOf m.data ≠ op → exec c s = .next s) ∧
      (opcodeOf m.data = op →
        (∀ u, (s.fmpPop k).resend k m.data = some u → exec c s = .next u) ∧
        (∀ i, (s.fmpPop k).resend k m.data = none → opInfo op = some i →
          (i.bitsOk m.data = false → exec c s = .next ((s.fmpPop k).reply k m.data 0 (.badArg))) ∧
          (i.bitsOk m.data = true → m.priv < (if i.r then 1 else 2) →
            exec c s = .next ((s.fmpPop k).reply k m.data 0 .priv)) ∧
          (i.bitsOk m.data = true → (if i.r then 1 else 2) ≤ m.priv → i.grp.accepts (s.fmpPop k).mode = false →
            exec c s = .next ((s.fmpPop k).reply k m.data 0 .mode)))))

/-- What holds of every beat offered on IQ (R204, R206, R207, R210, R211, R226): outside an edge at which a beat can be
offered nothing happens; while the unit is shut off, the builder is busy or no tag is free, whatever the operation (R178,
R211), IQ_READY is 0: the beat waits, is held for the next edge to be compared with, and the cycle is counted; a beat that
transfers and is not the LAST joins the request under way, and one with wrong parity counts. -/
def Obligations.IqRequestsWait : Prop :=
  ∀ (c : Instr) (p op : Nat) (b : IqBeat) (s : State), iqRequest c = some (p, op, b) →
    (s.iqEdge p = false → exec c s = .next s) ∧
    (s.iqEdge p = true →
      (((s.iqRoomed p op b).ni p).iqShut = true ∨ (s.iqRoomed p op b).builderIdle p = false ∨
        (s.iqRoomed p op b).freeTag p = none → ¬ s.accepts p op b) ∧
      (¬ s.accepts p op b → exec c s = .next
        (((s.iqRoomed p op b).modNi p (fun n => { n with iqHeld := some (op, b, s.datum) })).ncnt p 1)) ∧
      (s.accepts p op b → b.last = false → ∃ t : State,
        t = (s.iqMoved p op b).modNi p (fun n => { n with iqPart := some (s.iqOp p op b, s.iqReq p op b) }) ∧
        exec c s = .next (if iqBad op b then t.portErr p 1 0 else t)))

/-! ### Resets, life cycle, test access -/

/-- What a reset does (R376, R377, R382): the datum is set to 0 by a cold one and kept by the others; the mode is WIPE, every
memory byte reads 0, mailboxes, tickets, the FMP's queues and what it remembers are empty, the latches of R348 and the trip
time stay, the kind is recorded, the commands waiting stay; and with no lane failed HARD every register that is not one of
the five that keep or record something reads its reset value. -/
def Obligations.WhatAResetLeaves : Prop :=
  ∀ (s : State) (kind : Nat), kind ≤ 2 →
    let t := s.restart kind
    t.datum = (if kind = 0 then 0 else s.datum) ∧ t.mode = Mode.WIPE ∧ (∀ a, t.rdByte a = 0) ∧ t.mbx = [] ∧
    t.fmp.tickets = [] ∧ t.fmp.jq = [] ∧ t.fmp.pairs = [] ∧ t.pending = s.pending ∧
    (∀ f ∈ [F.THM_STATUS_SAFE, F.THM_STATUS_SHUTDOWN_READY, F.THM_STATUS_COMMIT_FAIL, F.THM_STATUS_TRIP_SRC],
      t.fld A.THM_STATUS f = s.fld A.THM_STATUS f) ∧
    t.rd A.THM_TRIP_TIME = s.rd A.THM_TRIP_TIME ∧ t.fld A.GLB_BOOT_STATUS F.GLB_BOOT_STATUS_KIND = kind ∧
    (∀ f ∈ [F.DAT_STATUS_SLIP_COUNT, F.DAT_STATUS_MER_DUE_COUNT, F.DAT_STATUS_MER_SBE_COUNT, F.DAT_STATUS_VOTE_FIX_COUNT],
      t.fld A.DAT_STATUS f = if kind = 0 then 0 else s.fld A.DAT_STATUS f) ∧
    ((∀ st n, st < 36 → n < 6 → ((s.stn st).port n).hard = []) →
      ∀ a, a ∉ [A.GLB_LC, A.THM_STATUS, A.THM_TRIP_TIME, A.DAT_STATUS, A.GLB_BOOT_STATUS] → t.rd a = resetOf a)

/-- The commands that reset the block: the cold reset input, and from mode OFF the coming up of power, at once and whatever
is under way; the warm reset input at an ACLK edge (R11), a soft reset whose 2,048 fclk have passed, a higher life-cycle code at
an ACLK edge and a change of scan mode outside DEPLOYED, unless a trip is under way (R376, R378, R380, R431).
Where no reset begins: in mode OFF, off the ACLK edges, before the 2,048 fclk have passed, for a life-cycle code that is not higher (a lower
one sets BACKWARD), for a scan mode change in DEPLOYED; and while a trip is under way a warm reset is held until the trip
sequence has ended, the first one held counting (R378). -/
def Obligations.WhichCommandsReset : Prop :=
  ((∀ s : State, s.mode ≠ Mode.OFF → exec .coldReset s = .next (s.restart 0)) ∧
   (∀ s : State, s.mode = Mode.OFF → ∃ t : State, exec .coldReset s = .next t ∧ t.mode = Mode.WIPE ∧ t.datum = 0 ∧
     t.fld A.GLB_LC F.GLB_LC_EFFECTIVE = s.fld A.GLB_LC F.GLB_LC_INPUT ∧ t.fld A.THM_STATUS F.THM_STATUS_SAFE = 0 ∧
     t.fld A.THM_STATUS F.THM_STATUS_SHUTDOWN_READY = 0) ∧
   (∀ s : State, s.mode ≠ Mode.OFF → s.tripping = false → aclkEdge s.datum = true → exec .warmReset s = .next (s.restart 1)) ∧
   (∀ (s : State) (t0 : Nat), s.mode ≠ Mode.OFF → s.tripping = false → s.host.softAt = some t0 → t0 ≤ s.datum →
     exec .softResetBegin s = .next ({ s with host := { s.host with softAt := none } }.restart 2)) ∧
   (∀ (s : State) (v : LcState), s.mode ≠ Mode.OFF → s.tripping = false → aclkEdge s.datum = true →
     s.fld A.GLB_LC F.GLB_LC_EFFECTIVE < v.toNat →
       ∃ t : State, exec (.lcStateChange v) s = .next t ∧ t = (s.setFld A.GLB_LC F.GLB_LC_INPUT v.toNat).restart 1 ∧
         t.fld A.GLB_LC F.GLB_LC_EFFECTIVE = v.toNat) ∧
   (∀ (s : State) (enter : Bool), s.mode ≠ Mode.OFF → s.tripping = false →
     s.fld A.GLB_LC F.GLB_LC_EFFECTIVE ≠ 2 → s.host.scan ≠ enter →
       exec (.scanModeChange enter) s = .next ({ s with host := { s.host with scan := enter } }.restart 1))) ∧
  ((∀ s : State, s.mode = Mode.OFF → exec .warmReset s = .next s) ∧
   (∀ s : State, aclkEdge s.datum = false → exec .warmReset s = .next s) ∧
   (∀ s : State, s.mode ≠ Mode.OFF → s.tripping = true → aclkEdge s.datum = true → exec .warmReset s =
     .next { s with host := { s.host with heldReset := s.host.heldReset.orElse (fun _ => some 1) } }) ∧
   (∀ s : State, (∀ t0, s.host.softAt = some t0 → s.datum < t0) → exec .softResetBegin s = .next s) ∧
   (∀ (s : State) (v : LcState), s.mode ≠ Mode.OFF → aclkEdge s.datum = false → exec (.lcStateChange v) s = .next s) ∧
   (∀ (s : State) (v : LcState), s.mode ≠ Mode.OFF → aclkEdge s.datum = true → v.toNat < s.fld A.GLB_LC F.GLB_LC_EFFECTIVE →
     exec (.lcStateChange v) s =
       .next ((s.setFld A.GLB_LC F.GLB_LC_INPUT v.toNat).setFld A.GLB_LC F.GLB_LC_BACKWARD 1)) ∧
   (∀ (s : State) (enter : Bool), s.fld A.GLB_LC F.GLB_LC_EFFECTIVE = 2 → exec (.scanModeChange enter) s = .next s))

/-- A write of GLB_SOFT_RESET with the right KEY is answered OK and schedules a soft reset 2,048 fclk later; with a wrong KEY
it answers DENY and changes nothing (R376). Removing block power leaves mode OFF, the datum 0, no memory byte and no
register but the latest sampled life-cycle code (R348, R414). The TAP instructions select the identification register, the
instrument network or, for any other code, the bypass register, and change nothing else (R430).
R381, R430: the identification register ends in a 1 and carries the part number and the strapped manufacturer; in
DEPLOYED the instrument network reaches the thermal and benchmark readouts only, in every other state every instrument. -/
def Obligations.SoftResetPowerAndTestAccess : Prop :=
  ((∀ (r : Req) (s : State), s.admits A.GLB_SOFT_RESET r →
     (reqFld r F.GLB_SOFT_RESET_KEY = 0xC0DE → s.host.softAt = none →
       exec (.softResetWrite r) s = .next ({ s with host := { s.host with softAt := some (s.datum + 2048) } }.ans
         A.GLB_SOFT_RESET r Code.OK)) ∧
     (reqFld r F.GLB_SOFT_RESET_KEY = 0xC0DE → s.host.softAt ≠ none →
       exec (.softResetWrite r) s = .next (s.ans A.GLB_SOFT_RESET r Code.OK)) ∧
     (reqFld r F.GLB_SOFT_RESET_KEY ≠ 0xC0DE → exec (.softResetWrite r) s = .next (s.ans A.GLB_SOFT_RESET r Code.DENY))) ∧
   (∀ s : State, ∃ t : State, exec .powerRemove s = .next t ∧ t.mode = Mode.OFF ∧ t.datum = 0 ∧ (∀ a, t.rdByte a = 0) ∧
     t.pending = s.pending ∧ t.fld A.GLB_LC F.GLB_LC_INPUT = s.fld A.GLB_LC F.GLB_LC_INPUT ∧
     (∀ a, a ≠ A.GLB_LC → a ≠ A.GLB_MODE → t.rd a = resetOf a)) ∧
   (∀ s : State, ∃ t : State, exec .tapIdcode s = .next t ∧ t.tapReg = .idcode ∧
     t = { s with host := { s.host with tapIr := 1 } }) ∧
   (∀ s : State, ∃ t : State, exec .tapIjtag s = .next t ∧ t.tapReg = .ijtag ∧
     t = { s with host := { s.host with tapIr := 8 } }) ∧
   (∀ (s : State) (ir : BitVec 4), ir ≠ 1 → ir ≠ 8 → ∃ t : State, exec (.tapBypass ir) s = .next t ∧ t.tapReg = .bypass ∧
     t = { s with host := { s.host with tapIr := ir.toNat } })) ∧
  (idcode.getLsbD 0 = true ∧ idcode.toNat / 2 ^ 12 = 0x2B144 ∧ idcode.toNat / 2 % 2 ^ 11 = Config.tapMfr.toNat ∧
   (∀ (s : State) (i : Instrument), s.reaches i = true ↔
     s.host.tapIr = 8 ∧ (s.fld A.GLB_LC F.GLB_LC_EFFECTIVE = 2 → i = .thermal ∨ i = .benchmark)))

/-! ### Wipe, boot, modes -/

/-- The steps of the boot in their order, each from the stage that the one before has reached: the wipe's end records what
failed the read-back (R382, R383) and stops the boot on a core failure; the directory is taken (R384); an image that passes
starts the FMP in ENUMERATE, with the stations that failed the wipe avoided (R383), one that fails falls back to slot 1 once or fails the boot (R386); boot step 4 asks for the
ALIGN LOAD, frees every plat entry and takes the map (R387); boot step 5 writes the host routes, and when the hosts'
admission has ended the FMP serves (R387).
Where the boot fails or falls back (R383, R386): an NVM error has reason 3, a bad directory reason 2; an image that fails
goes on with slot 1 once, and fails the boot with its own reason when there is no slot 1 or it is the second; a failed boot
is in stage 7 with its reason. Outside its stage a boot step changes nothing. -/
def Obligations.BootStepsAndFailures : Prop :=
  ((∀ (w : WipeResult) (s : State), s.mode = Mode.WIPE → s.bit A.GLB_WIPE_STATUS F.GLB_WIPE_STATUS_DONE = false →
     ∃ t : State, exec (.wipeDone w) s = .next t ∧ t.fld A.GLB_WIPE_STATUS F.GLB_WIPE_STATUS_DONE = 1 ∧
       t.fld A.GLB_WIPE_STATUS F.GLB_WIPE_STATUS_CORE_FAIL = (if w.core then 1 else 0) ∧
       t.fld A.GLB_WIPE_STATUS F.GLB_WIPE_STATUS_TRACE_FAIL = (if w.trace then 1 else 0) ∧
       t.fmp.badNis = w.nis.map Fin.val ∧ t.fmp.badStns = w.stns.map Fin.val ∧
       t.bootStage = (if w.core then 7 else 1) ∧
       (w.core = true → t.fld A.GLB_BOOT_STATUS F.GLB_BOOT_STATUS_REASON = 1) ∧
       (∀ st o, st < 36 → 6 ≤ o → o < 11 ∨ (o = 11 ∧ fedOfStation st ≠ none) →
         t.rd (A.STN_VC_CRED st o) = BitVec.ofNat 64 (fullCreds o)) ∧
       (∀ a, a ≠ A.GLB_WIPE_STATUS → a ≠ A.GLB_BOOT_STATUS →
         (∀ st o, st < 36 → 6 ≤ o → o < 11 ∨ (o = 11 ∧ fedOfStation st ≠ none) → a ≠ A.STN_VC_CRED st o) →
         t.rd a = s.rd a)) ∧
   (∀ (b : RomRead) (s : State), s.mode = Mode.WIPE → s.bootStage = 1 → b.nvmErr = false → dirOk b.dir = true →
     ∃ t : State, exec (.bootRomRead b) s = .next t ∧ t.bootStage = 2 ∧ t.fmp.minSec = b.minSec.toNat ∧
       t.fmp.img1 = (b.dir.getD 1 0).toNat / 2 ^ 32 ∧ t.fmp.mapAt = (b.dir.getD 2 0).toNat % 2 ^ 32 ∧
       t.fmp.mapLen = (b.dir.getD 2 0).toNat / 2 ^ 32) ∧
   (∀ (v : ImageCheck) (s : State), s.mode = Mode.WIPE → s.bootStage = 2 → v.nvmErr = false →
     imgReason v (if s.deployed then some s.fmp.minSec else none) s.deployed = 0 →
     ∃ u : State, u = s.fmp.badStns.foldl State.mark { s with fmp := { s.fmp with
         images := tset none s.fmp.images 0 (some (imageOf v)), avoid := s.fmp.avoid ++ s.fmp.badStns } } ∧
       exec (.imageVerify v) s = .next ((((u.setFld A.GLB_BOOT_STATUS F.GLB_BOOT_STATUS_SLOT
         (if s.bit A.GLB_BOOT_STATUS F.GLB_BOOT_STATUS_FALLBACK then 1 else 0)).setStage 4).setFld A.GLB_FMP_STATUS
         F.GLB_FMP_STATUS_FW_VERSION (imageOf v).version).toMode Mode.ENUMERATE)) ∧
   (∀ (b : BootMap) (s : State) (m : ExpMap), s.mode = Mode.ENUMERATE → s.bootStage = 4 → b.nvmErr = false →
     s.fmp.mapAt ≠ 0xFFFFFFFF → b.bytes.length = s.fmp.mapLen → parseMap b.bytes = some m →
     s.fld A.THM_STATUS F.THM_STATUS_SAFE = 0 →
     exec (.bootInit b) s = .next ((((s.merReq .alignLoad 0).freeAllPlats).takeBootMap m).setStage 5)) ∧
   (∀ s : State, s.bootStage = 5 → s.bit A.DAT_STATUS F.DAT_STATUS_ALIGNED = true →
     (s.fmp.bootRoutes.length < s.fmp.bootPairs.length → ∃ t : State, exec .bootServing s = .next t ∧
       t = s.fmp.bootPairs.foldl (fun s e => s.admitStart e.2)
         (let u := s.fmp.bootPairs.foldl (fun s e => (s.bootRoute e.2).setHostPair e.1 e.2) s
          { u with fmp := { u.fmp with bootRoutes := s.fmp.bootPairs.map (·.2) } })) ∧
     (s.fmp.bootPairs.length ≤ s.fmp.bootRoutes.length → s.fmp.admissions = [] → ∃ t : State, exec .bootServing s = .next t ∧
       t.bootStage = 6 ∧ t.fwState = Fw.SERVING))) ∧
  ((∀ (b : RomRead) (s : State), s.mode = Mode.WIPE → s.bootStage = 1 →
     (b.nvmErr = true → exec (.bootRomRead b) s = .next (s.bootFail 3)) ∧
     (b.nvmErr = false → dirOk b.dir = false → exec (.bootRomRead b) s = .next (s.bootFail 2))) ∧
   (∀ (v : ImageCheck) (s : State) (n : Nat), s.mode = Mode.WIPE → s.bootStage = 2 → v.nvmErr = false → n ≠ 0 →
     imgReason v (if s.deployed then some s.fmp.minSec else none) s.deployed = n →
     (s.bit A.GLB_BOOT_STATUS F.GLB_BOOT_STATUS_FALLBACK = true ∨ s.fmp.img1 = 0xFFFFFFFF →
       exec (.imageVerify v) s = .next (s.bootFail n)) ∧
     (s.bit A.GLB_BOOT_STATUS F.GLB_BOOT_STATUS_FALLBACK = false → s.fmp.img1 ≠ 0xFFFFFFFF →
       exec (.imageVerify v) s = .next ((s.setFld A.GLB_BOOT_STATUS F.GLB_BOOT_STATUS_REASON n).setFld A.GLB_BOOT_STATUS
         F.GLB_BOOT_STATUS_FALLBACK 1))) ∧
   (∀ (s : State) (n : Nat), n < 16 → (s.bootFail n).bootStage = 7 ∧
     (s.bootFail n).fld A.GLB_BOOT_STATUS F.GLB_BOOT_STATUS_REASON = n) ∧
   (∀ (s : State), (∀ w, s.mode ≠ Mode.WIPE → exec (.wipeDone w) s = .next s) ∧
     (∀ b, s.bootStage ≠ 1 → exec (.bootRomRead b) s = .next s) ∧ (∀ v, s.bootStage ≠ 2 → exec (.imageVerify v) s = .next s) ∧
     (∀ b, s.bootStage ≠ 4 → exec (.bootInit b) s = .next s) ∧ (s.bootStage ≠ 5 → exec .bootServing s = .next s)))

/-- R372, R373: MODE_CAUSE_UPDATE writes the causes that hold into CAUSE, and in the running modes the mode becomes the one
they ask for: RECONFIGURE with a cause of bits 0 to 7, else DEGRADED with any cause, else RUN. A change of mode records the
old mode in PREV, the new one in MODE and the datum in GLB_MODE_TIME, and counts.
The admission of a port (R389 to R391): when its domain is up the descriptor is read; when it does not come up within
4,000,000 fclk the port is held with reason DOMAIN; when the descriptor has been read and matches the map, and the port can
be reached, the port takes its home route, its privilege and the state ENABLED; when it does not match it is held with
reason MISMATCH. -/
def Obligations.ModesAndPortAdmission : Prop :=
  ((∀ s : State, s.running = true → s.fwState ≠ Fw.HALTED → ∃ t : State, exec .modeCauseUpdate s = .next t ∧
     t.mode = (if s.causes % 256 ≠ 0 then Mode.RECONFIGURE else if s.causes ≠ 0 then Mode.DEGRADED else Mode.RUN) ∧
     t.fld A.GLB_MODE F.GLB_MODE_CAUSE = s.causes) ∧
   (∀ s : State, 2 ≤ s.mode → s.running = false → s.fwState ≠ Fw.HALTED →
     exec .modeCauseUpdate s = .next (s.setFld A.GLB_MODE F.GLB_MODE_CAUSE s.causes)) ∧
   (∀ (s : State) (m : Nat), m < 16 → s.mode ≠ m →
     (s.toMode m).mode = m ∧ (s.toMode m).fld A.GLB_MODE F.GLB_MODE_PREV = s.mode ∧
     (s.toMode m).rd A.GLB_MODE_TIME = BitVec.ofNat 64 s.datum ∧
     (s.toMode m).fld A.GLB_MODE F.GLB_MODE_CHANGES = min (s.fld A.GLB_MODE F.GLB_MODE_CHANGES + 1) 65535)) ∧
  ((∀ (p : Fin 144) (s : State) (t0 : Nat), s.fwState ≠ Fw.HALTED → s.fmp.admissions.find? (fun e => e.1 = p.val) = some (p.val, 1, t0) →
     (s.pwrUp p.val = true → exec (.portAdmit p) s = .next (s.admitDesc p.val)) ∧
     (s.pwrUp p.val = false → t0 + 4000000 ≤ s.datum → exec (.portAdmit p) s = .next (((s.setFld (A.NI_PORT_STATUS p.val)
       F.NI_PORT_STATUS_DESC_STATE 3).setFld (A.NI_PORT_STATUS p.val) F.NI_PORT_STATUS_DESC_FAIL 1).holdPort p.val 2))) ∧
   (∀ (p : Fin 144) (s : State) (t0 : Nat) (r : PortRec), s.fwState ≠ Fw.HALTED →
     s.fmp.admissions.find? (fun e => e.1 = p.val) = some (p.val, 2, t0) →
     s.fld (A.NI_PORT_STATUS p.val) F.NI_PORT_STATUS_DESC_STATE = 2 → s.portRec p.val = some r →
     (s.descMatches p.val r = false → exec (.portAdmit p) s = .next (s.holdPort p.val 1)) ∧
     (s.descMatches p.val r = true → s.reachable p.val = true → s.niState p.val = PortStt.DISABLED →
       ∃ t : State, exec (.portAdmit p) s = .next t ∧ t.niState p.val = PortStt.ENABLED ∧
         t.rd (A.NI_ROUTE_HOME p.val) = s.routeAt (s.curTrav 192) p.val 240 ∧
         t.fld (A.NI_ENUM p.val) F.NI_ENUM_PRIV = min r.priv (s.desc p.val 0x1A 1) % 4 ∧
         t.fld (A.NI_ENUM p.val) F.NI_ENUM_HELD = 0)))

/-! ### Datum and meridian -/

/-- R20: a launch slot begins at each datum that is a multiple of 4, and one message starts in each: of the messages asked
for before this cycle (R451) and not too late (R22) an ALIGN_LOAD or ALIGN_VERIFY goes first, then the STAKE_CALL asked for
first, the lower set first among those of one cycle, then a SURVEY_TICK. A slot for which none is pending carries IDLE; a
message that is too late is not launched and no longer waits. -/
def Obligations.MeridianLaunchOrder : Prop :=
  ∀ s : State,
    (s.datum % 4 ≠ 0 ∨ s.glb.merSlot = some s.datum → exec .meridianLaunch s = .next s) ∧
    (s.datum % 4 = 0 → s.glb.merSlot ≠ some s.datum →
      let el := s.glb.merPend.filter (fun m => decide (m.req < s.datum) && !merLate s.datum m)
      let fly := s.glb.merFly.filter (fun x => decide (s.datum ≤ x.launch + 24))
      ∃ t : State, exec .meridianLaunch s = .next t ∧ t.glb.merSlot = some s.datum ∧
        (∀ m ∈ t.glb.merPend, m ∈ s.glb.merPend ∧ (m.req < s.datum → merLate s.datum m = false)) ∧
        (el = [] → t.glb.merFly = fly ++ [⟨.idle, 0, s.datum, []⟩]) ∧
        (el ≠ [] → ∃ m ∈ el,
          (∃ inst : Nat, t.glb.merFly = fly ++ [⟨m.kind, inst, s.datum, []⟩] ∧
            (m.kind = .alignLoad ∨ m.kind = .alignVerify → inst = s.datum + 24) ∧
            (m.kind ≠ .alignLoad → m.kind ≠ .alignVerify → inst = m.instant)) ∧
          (∀ x ∈ el, x.kind = .alignLoad ∨ x.kind = .alignVerify → m.kind = .alignLoad ∨ m.kind = .alignVerify) ∧
          (∀ x ∈ el, ∀ n, x.kind = .stakeCall n → m.kind = .alignLoad ∨ m.kind = .alignVerify ∨
            ∃ k, m.kind = .stakeCall k ∧ (m.req < x.req ∨ m.req = x.req ∧ k ≤ n))))

/-- R24: a served write of ALIGN_GO asks for an ALIGN_LOAD in ENUMERATE and DIAGNOSE with no set open and no survey tick
pending, and answers DENY otherwise; 24 fclk after its launch every block that has not discarded the message holds the global
datum, the others keep their counters, the instant stands in DAT_ALIGN_TIME and ALIGNED is set. -/
def Obligations.AlignLoad : Prop :=
  (∀ (r : Req) (s : State), s.admits A.DAT_CTL r → reqFld r F.DAT_CTL_ALIGN_GO = 1 →
    10 ≤ reqFld r F.DAT_CTL_VERIFY_PERIOD → reqFld r F.DAT_CTL_VERIFY_PERIOD ≤ 24 →
    (s.alignOk = true → exec (.alignGo r) s = .next ((((s.setFld A.DAT_CTL F.DAT_CTL_VERIFY_EN (reqFld r
      F.DAT_CTL_VERIFY_EN)).setFld A.DAT_CTL F.DAT_CTL_VERIFY_PERIOD (reqFld r F.DAT_CTL_VERIFY_PERIOD)).merReq
      .alignLoad 0).ans A.DAT_CTL r Code.OK)) ∧
    (s.alignOk = false → exec (.alignGo r) s = .next (s.ans A.DAT_CTL r Code.DENY))) ∧
  (∀ (n : Fin 193) (s : State) (m : MerMsg), s.datum < 2 ^ 64 →
    s.glb.merFly.find? (fun m => m.kind = .alignLoad && m.launch + 24 = s.datum) = some m →
    ∃ t : State, exec (.alignLoadArrival n) s = .next t ∧ t.fld A.DAT_STATUS F.DAT_STATUS_ALIGNED = 1 ∧
      t.rd A.DAT_ALIGN_TIME = BitVec.ofNat 64 m.instant ∧ t.datum = s.datum ∧
      (∀ b, b < 193 → b ∉ m.seen → t.nowOf b = s.datum) ∧
      (∀ b, b < 192 → b ∈ m.seen → t.nowOf b = s.nowOf b))

/-- R25: every 2^VERIFY_PERIOD fclk with VERIFY_EN an ALIGN_VERIFY is asked for, once, and at no other time (that these are
the multiples of 2^VERIFY_PERIOD is the model's choice, log entry 68). R14: the copy of a counter that differs from the other
two changes no counter's visible value; in the next cycle it is rewritten and counted (that a second one of the same counter
in one cycle is no such event is the model's choice, log entry 68). R23, R19: a receiver that discards a message, an IDLE
among them, or meets a reserved TYPE, has met it, sets MER_DUE, counts it, and records its station; a single-bit error of an
IDLE is counted.
R25: a receiver whose counter holds the instant is left as it is; one that differs loads the global datum in that cycle,
SLIP is set, counted and its station recorded, and no other block's counter changes. -/
def Obligations.AlignVerifyVoteAndDiscard : Prop :=
  ((∀ s : State, s.bit A.DAT_CTL F.DAT_CTL_VERIFY_EN = true → s.datum % 2 ^ s.fld A.DAT_CTL F.DAT_CTL_VERIFY_PERIOD = 0 →
     s.glb.verAt ≤ s.datum →
     ∃ t : State, exec .verifyTimer s = .next t ∧ t.glb.merPend = s.glb.merPend ++ [⟨.alignVerify, 0, s.datum⟩] ∧
       t.glb.merFly = s.glb.merFly ∧ exec .verifyTimer t = .next t) ∧
   (∀ s : State, s.bit A.DAT_CTL F.DAT_CTL_VERIFY_EN = false ∨
     s.datum % 2 ^ s.fld A.DAT_CTL F.DAT_CTL_VERIFY_PERIOD ≠ 0 ∨ s.datum < s.glb.verAt → exec .verifyTimer s = .next s) ∧
   (∀ (b : Fin 193) (i : Fin 3) (v : Word) (s : State),
     (v.toNat = s.nowOf b.val ∨ s.split b.val = true → exec (.voteFix b ⟨i, v⟩) s = .next s) ∧
     (v.toNat ≠ s.nowOf b.val → s.split b.val = false → ∃ t : State, exec (.voteFix b ⟨i, v⟩) s = .next t ∧
       t.copyOf b.val i.val = v.toNat ∧ t.voted b.val = s.nowOf b.val ∧ (∀ c, t.nowOf c = s.nowOf c) ∧ t.regs = s.regs ∧
       (∀ c k, t.voteFixes.copyOf c k = s.nowOf c) ∧
       (s.glb.votes = [] → t.voteFixes.fld A.DAT_STATUS F.DAT_STATUS_VOTE_FIX_COUNT =
         min (s.fld A.DAT_STATUS F.DAT_STATUS_VOTE_FIX_COUNT + 1) (2 ^ F.DAT_STATUS_VOTE_FIX_COUNT.w - 1)))) ∧
   (∀ (b : Fin 192) (s : State) (m : MerMsg),
     (s.arriving b.val (fun _ => true) = some m →
       ∃ t : State, exec (.meridianDueDiscard ⟨b, false⟩) s = .next t ∧ t = (s.meet m b.val).merDue b.val ∧
         t.arriving b.val (· = m.kind) ≠ some m) ∧
     (s.arriving b.val (fun k => k = .idle) = some m →
       exec (.meridianDueDiscard ⟨b, true⟩) s = .next ((s.meet m b.val).merSbe 1))) ∧
   (∀ (b : Fin 192) (typ : BitVec 4) (s : State) (m : MerMsg), 5 ≤ typ.toNat → s.arriving b.val (fun _ => true) = some m →
     exec (.meridianReservedType b typ) s = .next ((s.meet m b.val).merDue b.val)) ∧
   (∀ (s : State) (b : Nat), b < 192 → (s.merDue b).fld A.DAT_STATUS F.DAT_STATUS_MER_DUE = 1 ∧
     (s.merDue b).fld A.DAT_STATUS F.DAT_STATUS_LAST_SITE = stationOfBlk b ∧
     (s.merDue b).fld A.DAT_STATUS F.DAT_STATUS_MER_DUE_COUNT =
       min (s.fld A.DAT_STATUS F.DAT_STATUS_MER_DUE_COUNT + 1) (2 ^ F.DAT_STATUS_MER_DUE_COUNT.w - 1))) ∧
  (∀ (b : Fin 192) (sbe : Bool) (s : State) (m : MerMsg), s.datum < 2 ^ 64 → s.arriving b.val (· = .alignVerify) = some m →
     (s.nowOf b.val = m.instant → exec (.alignVerifyArrival b sbe) s =
       .next ((s.meet m b.val).merSbe (if sbe then 1 else 0))) ∧
     (s.nowOf b.val ≠ m.instant → ∃ t : State, exec (.alignVerifyArrival b sbe) s = .next t ∧ t.nowOf b.val = s.datum ∧
       (∀ c, c ≠ b.val → t.nowOf c = s.nowOf c) ∧ t.fld A.DAT_STATUS F.DAT_STATUS_SLIP = 1 ∧
       t.fld A.DAT_STATUS F.DAT_STATUS_LAST_SITE = stationOfBlk b.val ∧
       t.fld A.DAT_STATUS F.DAT_STATUS_SLIP_COUNT =
         min (s.fld A.DAT_STATUS F.DAT_STATUS_SLIP_COUNT + 1) (2 ^ F.DAT_STATUS_SLIP_COUNT.w - 1)))

/-- R30: an armed alarm whose value the datum has reached fires: ARM clears, FIRED sets, its source is raised; LATE sets when
and only when it was armed beyond its value, in which case it fires from the next cycle on. An alarm that is not armed, or
whose value lies ahead, does nothing. -/
def Obligations.DatumAlarms : Prop :=
  ∀ (n : Fin 4) (s : State),
    let at' := (s.rd (A.DAT_ALARM n.val)).toNat
    let armed := tget 0 s.glb.armAt n.val
    (s.fld A.DAT_ALARM_CTL ⟨n.val, 1⟩ = 1 → at' ≤ s.datum → (armed ≤ at' ∨ armed < s.datum) →
      ∃ u : State, exec (.datumAlarmFire n) s = .next (u.raise (1346 + n.val)) ∧
        u.fld A.DAT_ALARM_CTL ⟨n.val, 1⟩ = 0 ∧ u.fld A.DAT_ALARM_CTL ⟨8 + n.val, 1⟩ = 1 ∧
        u.fld A.DAT_ALARM_CTL ⟨16 + n.val, 1⟩ = (if at' < armed then 1 else s.fld A.DAT_ALARM_CTL ⟨16 + n.val, 1⟩) ∧
        (∀ a, a ≠ A.DAT_ALARM_CTL → u.rd a = s.rd a)) ∧
    (s.fld A.DAT_ALARM_CTL ⟨n.val, 1⟩ = 0 ∨ s.datum < at' ∨ (at' < armed ∧ s.datum ≤ armed) →
      exec (.datumAlarmFire n) s = .next s)

/-! ### Stations -/

/-- R40 to R42, R53, R55, R56: what a station that receives does with the front of a link that is up, one flit in a cycle. An
idle flit gives its credit back; a best-effort flit with room is written by BW, one without room stays on the link; a sideband
error that cannot be corrected discards the flit, is counted and asks for a RESYNC; a G flit passes to its launch unbuffered,
with the payload as received and every error counted. Where nothing else has arrived the errors of an IDLE are counted. In a
HARD window every best-effort flit counts as uncorrectable (R361).
R55, R84, R62, R41: BW. A flit of a packet being absorbed goes to the sink; a body or tail flit joins the buffer of its
VC, nothing else of which changes, where a packet is open on it, and passes into the sink where none is; a head of the current
traverse joins it with the output its route names and its output VC,
unless a case of R62 absorbs it, a packet that a lost TAIL left open being ended by a poisoned TAIL before it (R42); a head
whose payload is lost is absorbed without an answer, a later flit goes on POISONed. -/
def Obligations.StationReceivesAndWritesBuffers : Prop :=
  ((∀ (st : Fin 36) (i : Fin 12) (e : LinkErr) (s : State), s.receives st.val = true → s.rxUp st.val i.val = true →
     s.rxFree st.val i.val = true →
     (s.front st.val i.val = none → exec (.linkFlitReceive st i e) s = .next (if e = .none then s else
       (s.modStn st.val (fun x => x.modPort i.val (fun q => { q with rxAt := s.datum + 1 }))).idleErr st.val i.val e)) ∧
     (∀ w, s.front st.val i.val = some w →
       (w.content = .idle → e ≠ .ceccDue → ∃ t : State, exec (.linkFlitReceive st i e) s = .next t ∧
         t = ((s.popWire st.val i.val).takeCret st.val i.val w).idleErr st.val i.val e ∧
         ∀ v, v < 7 → w.cret = some v → t.creds st.val i.val v = min (s.creds st.val i.val v + 1) (credDepth i.val v)) ∧
       ((w.content = .idle ∨ ∃ f, w.content = .be f) → e = .ceccDue → ∃ t : State,
         exec (.linkFlitReceive st i e) s = .next t ∧ t = (s.popWire st.val i.val).ceccDue st.val i.val ∧
         (i.val < 6 → ((t.stn st.val).port i.val).syncWanted = true)) ∧
       (∀ f, w.content = .be f → e ≠ .ceccDue →
         (s.room st.val i.val f = false → exec (.linkFlitReceive st i e) s = .next s) ∧
         (s.room st.val i.val f = true →
           let u := (s.popWire st.val i.val).takeCret st.val i.val w
           (6 ≤ i.val ∨ ((s.stn st.val).port i.val).hardWin = false →
             (e = .none → exec (.linkFlitReceive st i e) s = .next (u.bwFlit st.val i.val f)) ∧
             (∀ n, e = .sbe n → exec (.linkFlitReceive st i e) s =
               .next ((u.corrected st.val i.val n.val).bwFlit st.val i.val f)) ∧
             (∀ p x, e = .deccDue p x → exec (.linkFlitReceive st i e) s = .next (u.dueFlit st.val i.val f p x))) ∧
           (i.val < 6 → ((s.stn st.val).port i.val).hardWin = true → exec (.linkFlitReceive st i e) s =
             .next ((u.sat (A.END_LANE_TROUBLE st.val i.val) F.END_LANE_TROUBLE_FORCED).dueFlit st.val i.val f f.payload
               (f.rsv ++ f.e2e))))))) ∧
   (∀ (st : Fin 36) (i : Fin 12) (e : LinkErr) (s : State) (g : GFlit) (c : Option Nat),
     s.front st.val i.val = some ⟨.g g, c⟩ → s.rxFree st.val i.val = true →
     (e = .ceccDue → exec (.gFlitArrive st i e) s = .next ((s.popWire st.val i.val).ceccDue st.val i.val)) ∧
     (e ≠ .ceccDue → 6 ≤ i.val ∨ ((s.stn st.val).port i.val).hardWin = false → ∃ u : State,
       u = (s.popWire st.val i.val).takeCret st.val i.val ⟨.g g, c⟩ ∧
       exec (.gFlitArrive st i e) s =
         .next ((u.gChecked st.val i.val (g.after e) e).gLaunch st.val i.val (g.after e))))) ∧
  (∀ (st : Fin 36) (i : Fin 12) (f : Flit) (s : State),
     (f.isHead = false →
       (∀ h, ((s.stn st.val).vc i.val f.vc).absorb = some h →
         s.bwFlit st.val i.val f = s.sinkFlit st.val i.val f.vc h f.isTail) ∧
       (((s.stn st.val).vc i.val f.vc).absorb = none → ((s.stn st.val).vc i.val f.vc).opened = true →
         (((s.bwFlit st.val i.val f).stn st.val).vc i.val f.vc).buf =
           ((s.stn st.val).vc i.val f.vc).buf ++ [{ f := f, bw := s.datum }] ∧
         (s.bwFlit st.val i.val f).regs = s.regs ∧
         ∀ j, j ≠ st.val → (s.bwFlit st.val i.val f).stn j = s.stn j) ∧
       (((s.stn st.val).vc i.val f.vc).absorb = none → ((s.stn st.val).vc i.val f.vc).opened = false →
         s.bwFlit st.val i.val f = s.oweCredit st.val i.val f.vc)) ∧
     (f.isHead = true →
       let y := s.modStn st.val (fun x => x.endCut i.val f.vc s.datum)
       (((s.stn st.val).vc i.val f.vc).opened = true → ((s.stn st.val).vc i.val f.vc).absorb = none →
         ((y.stn st.val).vc i.val f.vc).buf = ((s.stn st.val).vc i.val f.vc).buf ++
           [{ f := { ft := .tail, vc := f.vc, poison := true, payload := 0 }, bw := s.datum }]) ∧
       (((y.stn st.val).vc i.val f.vc).absorb = none →
         let h := Hdr.ofBits f.payload
         let u := (y.probeStn st.val i.val f.vc h).scnt st.val 29
         h.trav.toNat = u.fld (A.STN_TRAV_CTL st.val) F.STN_TRAV_CTL_CUR →
         (u.routeCase st.val i.val f.vc h = 0 → s.bwFlit st.val i.val f = u.bufWrite st.val i.val f.vc
           { f := f
             bw := u.datum
             out := hopOf h.route h.hopptr.toNat
             ovc := outVcOf st.val i.val f.vc (hopOf h.route h.hopptr.toNat) }) ∧
         (∀ c, u.routeCase st.val i.val f.vc h = c + 1 → s.bwFlit st.val i.val f =
           ((u.absorbCount st.val (.bad (c + 1))).hopRecord st.val i.val f.vc 15 0
             ((u.absorbCount st.val (.bad (c + 1))).nowOf (stnBlk st.val)) h).sinkFlit st.val i.val f.vc (some h)
             f.isTail))) ∧
     (∀ p x, f.isHead = false → ∃ u : State, u.stns = s.stns ∧ s.dueFlit st.val i.val f p x = u.bwFlit st.val i.val
       { f with poison := true, payload := p, e2e := x.extractLsb' 0 32, rsv := x.extractLsb' 32 4 }) ∧
     (∀ p x, f.isHead = true → ((s.stn st.val).vc i.val f.vc).absorb = none →
       ∃ u : State, u = ((s.deccDueCount st.val i.val).stnCause st.val 2).modStn st.val (fun z => z.endCut i.val f.vc
           ((s.deccDueCount st.val i.val).stnCause st.val 2).datum) ∧
         s.dueFlit st.val i.val f p x = (((u.sat (A.STN_ROUTE_ERR st.val) F.STN_ROUTE_ERR_HDR_DUE).stnCause st.val 3).scnt
           st.val 31).sinkFlit st.val i.val f.vc none f.isTail))

/-- R54, R57, R58, R61: VA, once a cycle for each output. Without a candidate nothing is granted; otherwise the winner's packet
holds the output VC it asked for, and if the grant is parked its head stands in the switch allocation of the same cycle. The
winner is a candidate of the best class level and, among those, the first in round robin after the last winner's input.
R55, R56, R59, R93: SA. While output `o` is not free nothing is sent; otherwise the winner's
front flit leaves; with no flit ready the turn of the deficit round robin ends. The winner is a candidate; the turn of a class
that has no flit ready ends; a class 7 packet goes before any other and a class 6 packet before the classes 0 to 5.
R53: the oldest credit return due for a network input goes, in the cycle, on the flit that the output of the same number
launches, or on an idle flit where it launches none. -/
def Obligations.VcAndSwitchAllocation : Prop :=
  ((∀ (st : Fin 36) (o : Fin 12) (s : State), s.awake st.val = true →
     (s.datum < ((s.stn st.val).port o.val).vaAt → exec (.vcAllocate st o) s = .next s) ∧
     (((s.stn st.val).port o.val).vaAt ≤ s.datum →
       let last := ((s.stn st.val).port o.val).lastVa
       let wants := s.vaWants st.val o.val
       let x := s.modStn st.val (fun x => x.modPort o.val (fun q => { q with vaAt := s.datum + 1 }))
       (vaPick last (s.vaCands st.val o.val) = none →
         exec (.vcAllocate st o) s = .next (x.scnt st.val 25 wants.length)) ∧
       (∀ i v c w, vaPick last (s.vaCands st.val o.val) = some (i, v, c, w) →
         let u (parked : Bool) : State := (x.grantVc st.val o.val i v c w parked).scnt st.val 25 (wants.length - 1)
         (∀ parked, (((u parked).stn st.val).vc i v).grant = some (o.val, w) ∧
           (((u parked).stn st.val).ovc o.val w).holder = some (i, v) ∧
           (((u parked).stn st.val).port o.val).lastVa = i ∧
           (((u parked).stn st.val).port o.val).vaAt = s.datum + 1) ∧
         (i ≠ last ∨ (∃ y ∈ wants, y.1 ≠ i) → exec (.vcAllocate st o) s = .next (u false)) ∧
         (i = last → (∀ y ∈ wants, y.1 = i) →
           exec (.vcAllocate st o) s = .next (((u true).scnt st.val 26).saRun st.val o.val))))) ∧
   (∀ (last : Nat) (cs : List (Nat × Nat × Nat × Nat)) (x : Nat × Nat × Nat × Nat), vaPick last cs = some x → x ∈ cs ∧
     (∀ y ∈ cs, classLevel x.2.2.1 ≤ classLevel y.2.2.1) ∧
     (∀ y ∈ cs, classLevel y.2.2.1 = classLevel x.2.2.1 → (x.1 + 11 - last) % 12 ≤ (y.1 + 11 - last) % 12))) ∧
  ((∀ (st : Fin 36) (o : Fin 12) (s : State), s.awake st.val = true →
     let u := (List.range 7).foldl (fun s v => s.dropCut st.val o.val v) s
     (u.beFree st.val o.val = false → exec (.switchAllocate st o) s = .next u) ∧
     (u.beFree st.val o.val = true →
       let pick := saPick (fun c => u.fld (A.STN_CLASS_WEIGHT st.val) ⟨8 * c, 8⟩) ((u.stn st.val).port o.val)
         (u.readyClasses st.val o.val) (u.saCands st.val o.val)
       (∀ w c i v q, pick = some ((w, c, i, v), q) → exec (.switchAllocate st o) s =
         .next ((u.modStn st.val (fun y => y.setPort o.val { q with saAt := u.datum + 1 })).sendFront st.val i v o.val w)) ∧
       (pick = none → u.readyClasses st.val o.val ≠ [] → exec (.switchAllocate st o) s = .next u) ∧
       (pick = none → u.readyClasses st.val o.val = [] → exec (.switchAllocate st o) s =
         .next (u.modStn st.val (fun y => y.modPort o.val (fun q => { q with drrDef := 0 })))))) ∧
   (∀ (wgt : Nat → Nat) (q q' : PortSt) (ready : List Nat) (cs : List (Nat × Nat × Nat × Nat)) (x : Nat × Nat × Nat × Nat),
     saPick wgt q ready cs = some (x, q') → x ∈ cs ∧ ((∃ y ∈ cs, y.2.1 = 7) → x.2.1 = 7) ∧
     (q.drrCls ∉ ready → 6 ≤ x.2.1 → q'.drrDef = 0) ∧
     ((∀ y ∈ cs, y.2.1 ≠ 7) → (∃ y ∈ cs, y.2.1 = 6) → x.2.1 = 6))) ∧
  (∀ (st : Fin 36) (o : Fin 6) (s : State) (v t : Nat) (rest : List (Nat × Nat)), s.awake st.val = true →
     ((s.stn st.val).port o.val).credQ = (v, t) :: rest →
     (s.datum < t ∨ s.cretHeld st.val o.val = true → s.sendCret st.val o.val = s) ∧
     (t ≤ s.datum → s.cretHeld st.val o.val = false →
       let y := s.modStn st.val (fun x => x.modPort o.val (fun q => { q with credQ := rest }))
       (∀ f, (s.linkOf st.val o.val).find? (fun f => f.lau = s.datum) = some f → f.w.cret = none →
         s.sendCret st.val o.val = y.modStn (neighbour st.val o.val) (fun x => x.modPort (oppPort o.val) (fun q =>
           { q with wire := q.wire.map (fun g => if g = f then { g with w := { g.w with cret := some v } } else g) }))) ∧
       ((s.linkOf st.val o.val).find? (fun f => f.lau = s.datum) = none → s.slotFree st.val o.val s.datum = true →
         s.sendCret st.val o.val = y.launch st.val o.val ⟨.idle, some v⟩ s.datum)))

/-- R42: the receiver sends RESYNC in the first cycle in which no G flit takes its output, and the direction then reads RESYNC;
the transmitter takes it off the link and starts no best-effort flit for 64 fclk; 64 fclk after it was received the
transmitter holds full credits, less those of the flits that it sends from then on, and the direction reads the state its
good lanes give. R84: a head held for 8,192 fclk is absorbed as a
stray. R285: the agent answers the oldest absorbed request with NOROUTE. -/
def Obligations.ResyncHeldHeadsAndNoroute : Prop :=
  (∀ (st : Fin 36) (n : Fin 6) (s : State), ((s.stn st.val).port n.val).syncWanted = true →
    ((∃ k, k < s.span st.val n.val ∧ s.gBusy st.val n.val (s.datum + k) = true) → exec (.resyncSend st n) s = .next s) ∧
    ((∀ k, k < s.span st.val n.val → s.gBusy st.val n.val (s.datum + k) = false) →
      let due := s.datum + wireDelay n.val + (s.span st.val n.val - 1)
      ∃ t : State, exec (.resyncSend st n) s = .next t ∧ t.linkState st.val n.val = LinkSt.RESYNC ∧
        ((t.stn st.val).port n.val).syncWanted = false ∧ ((t.stn st.val).port n.val).rxSync = some (due + 64) ∧
        ∃ x ∈ t.linkOf st.val n.val, x.w = ⟨.resync, none⟩ ∧ x.lau = s.datum ∧ s.datum + wireDelay n.val ≤ x.due)) ∧
  (∀ (st : Fin 36) (n : Fin 6) (s : State) (c : Option Nat), s.front st.val n.val = some ⟨.resync, c⟩ →
    ∃ t : State, exec (.resyncReceive st n) s = .next t ∧ ((t.stn st.val).port n.val).txSync = some (s.datum + 64) ∧
      ((t.stn st.val).port n.val).wire = ((s.stn st.val).port n.val).wire.tail ∧ t.regs = s.regs ∧
      ∀ x ∈ t.linkOf st.val n.val, isBe x.w.content = true → x.lau < s.datum ∨ s.datum + 64 ≤ x.lau) ∧
  (∀ (st : Fin 36) (n : Fin 6) (s : State) (d : Nat), ((s.stn st.val).port n.val).rxSync = some d →
    (s.datum < d → exec (.resyncEnd st n) s = .next s) ∧
    (d ≤ s.datum → ∃ t : State, exec (.resyncEnd st n) s = .next t ∧
      ((∀ x ∈ s.linkOf (neighbour st.val n.val) (oppPort n.val), ∀ f, x.w.content ≠ .be f) →
        t.rd (A.STN_VC_CRED (neighbour st.val n.val) (oppPort n.val)) = BitVec.ofNat 64 (fullCreds (oppPort n.val))) ∧
      t.linkState st.val n.val = stateOfGood (s.goodRx st.val n.val) ∧
      ((t.stn st.val).port n.val).rxSync = none ∧ ((t.stn st.val).port n.val).credQ = [] ∧
      ((t.stn (neighbour st.val n.val)).port (oppPort n.val)).txSync = none)) ∧
  (∀ (st : Fin 36) (i : Fin 12) (v : Fin 7) (s : State) (b : List BFlit) (f : BFlit) (fs : List BFlit),
    splitHeld ((s.stn st.val).vc i.val v.val).buf = (b, f :: fs) →
    (f.bw + 8192 ≤ s.datum → exec (.heldHeadTimeout st i v) s =
      .next ((s.absorbCount st.val .stray).absorbHeld st.val i.val v.val)) ∧
    (s.datum < f.bw + 8192 → exec (.heldHeadTimeout st i v) s = .next s)) ∧
  (∀ (st : Fin 36) (s : State) (h : Hdr) (q : List Hdr) (c : BitVec 6), (s.stn st.val).nrq = h :: q →
    Cmd.response h.cmd = some c →
    exec (.agentNorouteSend st) s = .next (((((s.modStn st.val (fun x => { x with nrq := q })).setFld (A.STN_SINK st.val)
      F.STN_SINK_NR_QUEUE q.length).sat (A.STN_SINK st.val) F.STN_SINK_NR_SENT).agentSend st.val
        { dest := h.src, cmd := c, cls := h.cls, tag := h.tag, region := h.region,
          status := Code.NOROUTE, bcount := h.bcount, address := h.address } [])))

/-! ### Routes -/

/-- R72, R73: the fill of an NI's builder joins the MGT path when it has a place, or starts only the
timeout without a home route; that of an agent joins the packets it drives; the global block answers the oldest fill, in a
cycle in which an mclk begins, at most once in 4 mclk, with the table's entry; the
answer that carries the number of the fill ends it with its route, or without one where it reports an error or no route; an
answer that nobody waits for, or to an earlier fill, is
discarded; 8,192 fclk after the issue the fill ends without a route and is counted. -/
def Obligations.RouteFills : Prop :=
  (∀ (p : Fin 144) (rsp : Bool) (s : State), ∃ b : Builder, b = (if rsp then .response p else .request p) ∧
    (∀ w, (s.ni p.val).wait rsp = some w →
      (w.queued = true ∨ 8 ≤ (s.ni p.val).mgtQ.length → exec (.routeFillIssue b) s = .next s) ∧
      (w.queued = false → (s.ni p.val).mgtQ.length < 8 →
        (noRoute w.fill.pkt.h.route = true → exec (.routeFillIssue b) s =
          .next ((s.setWait p.val rsp (some { w with queued := true, issued := some s.datum })).ncnt p.val 14)) ∧
        (noRoute w.fill.pkt.h.route = false → ∃ t : State, exec (.routeFillIssue b) s = .next t ∧
          (t.ni p.val).mgtQ = (s.ni p.val).mgtQ ++ [w.fill] ∧
          (t.ni p.val).wait rsp = some { w with queued := true } ∧
          (∀ q, q ≠ p.val → t.ni q = s.ni q)))) ∧
    (∀ q, ((s.ni p.val).rxMgt).find? (fillAnswer rsp) = some q → ∃ u : State,
      u = s.modNi p.val (fun n => { n with rxMgt := n.rxMgt.erase q }) ∧
      ((s.ni p.val).wait rsp = none → exec (.routeFillReturn b) s = .next u) ∧
      (∀ w, (s.ni p.val).wait rsp = some w →
        (w.issued = none ∨ q.h.tag ≠ w.fill.pkt.h.tag → exec (.routeFillReturn b) s = .next u) ∧
        (w.issued ≠ none → q.h.tag = w.fill.pkt.h.tag →
          exec (.routeFillReturn b) s = .next (u.niFillEnd p.val rsp w (fillRoute q))))) ∧
    (∀ w d, (s.ni p.val).wait rsp = some w → w.issued = some d →
      (s.datum < d + 8192 → exec (.routeFillTimeout b) s = .next s) ∧
      (d + 8192 ≤ s.datum → exec (.routeFillTimeout b) s = .next ((s.sat (A.NI_ROUTE_STATUS p.val)
        F.NI_ROUTE_STATUS_FILL_TIMEOUTS).niFillEnd p.val rsp w none)))) ∧
  (∀ q : Pkt, let v : BitVec 64 := BitVec.ofNat 64 ((q.units.headD 0).toNat / 2 ^ (8 * (q.h.address.toNat % 32)))
    (q.h.status = 0 → q.fails = false → noRoute v = false → fillRoute q = some v) ∧
    (q.h.status ≠ 0 ∨ q.fails = true ∨ noRoute v = true → fillRoute q = none)) ∧
  (∀ (b : Builder) (k : Nat) (s : State), (∃ st : Fin 36, b = .agent st ∧ k = stnBlk st.val) ∨
      (∃ f : Fin 12, b = .fedAgent f ∧ k = fedBlk f.val) →
    ((s.agent k).fill = none → exec (.routeFillIssue b) s = .next s) ∧
    (∀ q, (s.agent k).fill = some q → exec (.routeFillIssue b) s =
      .next ((s.modAgent k (fun x => { x with fill := none })).agentQueue k q .answer 0 true)) ∧
    (∀ q, (s.agent k).rsp = some q → exec (.routeFillReturn b) s = .next (s.agentRouted k (fillRoute q))) ∧
    (∀ d, (s.agent k).issued = some d →
      (s.datum < d + 8192 → exec (.routeFillTimeout b) s = .next s) ∧
      (d + 8192 ≤ s.datum → exec (.routeFillTimeout b) s = .next (s.agentRouted k none)))) ∧
  (∀ (s : State) (q : Pkt), s.glb.rx.find? isFill = some q →
    (mclkEdge s.datum = false ∨ (∃ d, s.glb.fillAt = some d ∧ mclkNo s.datum < mclkNo d + 4) →
      exec .fillServe s = .next s) ∧
    (mclkEdge s.datum = true → (∀ d, s.glb.fillAt = some d → mclkNo d + 4 ≤ mclkNo s.datum) →
      let u := { s with glb := { s.glb with
        rx := s.glb.rx.erase q
        fillAt := some s.datum } }
      exec .fillServe s = .next ((u.gcnt 3).glbSend
        { dest := q.h.src, cmd := Cmd.CRR, cls := 7, tag := q.h.tag, region := q.h.region, bcount := 8, address := q.h.address }
        [BitVec.ofNat 256 ((BitVec.ofNat 64 (s.rdMem (q.h.address.toNat / 8 * 8) 8)).toNat *
          2 ^ (8 * (q.h.address.toNat % 32)))]).glbBars))

/-- R84, R88, R135: a served write of STN_TRAV_CTL writes RECONF, and the clearing of RECONF releases every held head;
RETIRE_OLD = 1 clears OLD_VALID. R74: INV_GO starts an invalidation, is refused while one runs, and 1,024 fclk later it is over
and INV_BUSY reads 0. -/
def Obligations.TraverseControlAndInvalidation : Prop :=
  (∀ (st : Fin 36) (r : Req) (s t : State) (row : RegRow), s.admits (A.STN_TRAV_CTL st.val) r →
    rowAt (A.STN_TRAV_CTL st.val) = some row → s.rwsWrite (A.STN_TRAV_CTL st.val) row r.data = some t →
    let u := t.setFld (A.STN_TRAV_CTL st.val) F.STN_TRAV_CTL_RECONF (reqFld r F.STN_TRAV_CTL_RECONF)
    (reqFld r F.STN_TRAV_CTL_RETIRE_OLD ≠ 1 →
      (s.bit (A.STN_TRAV_CTL st.val) F.STN_TRAV_CTL_RECONF = false ∨ reqFld r F.STN_TRAV_CTL_RECONF = 1 →
        exec (.reconfWrite st r) s = .next (u.ans (A.STN_TRAV_CTL st.val) r Code.OK) ∧
        u.fld (A.STN_TRAV_CTL st.val) F.STN_TRAV_CTL_RECONF = reqFld r F.STN_TRAV_CTL_RECONF ∧
        (∀ a, a ≠ A.STN_TRAV_CTL st.val → u.rd a = t.rd a)) ∧
      (s.bit (A.STN_TRAV_CTL st.val) F.STN_TRAV_CTL_RECONF = true → reqFld r F.STN_TRAV_CTL_RECONF = 0 →
        exec (.reconfWrite st r) s = .next ((u.releaseAll st.val).ans (A.STN_TRAV_CTL st.val) r Code.OK))) ∧
    (reqFld r F.STN_TRAV_CTL_RETIRE_OLD = 1 → s.bit (A.STN_TRAV_CTL st.val) F.STN_TRAV_CTL_RECONF = false →
      exec (.retireOld st r) s = .next ((u.setFld (A.STN_TRAV_CTL st.val) F.STN_TRAV_CTL_OLD_VALID 0).ans
        (A.STN_TRAV_CTL st.val) r Code.OK))) ∧
  (∀ (p : Fin 144) (r : Req) (s : State), s.admits (A.NI_ROUTE_CTL p.val) r → reqFld r F.NI_ROUTE_CTL_INV_GO = 1 →
    ((s.ni p.val).inv.isSome = true → exec (.invGo p r) s = .next (s.ans (A.NI_ROUTE_CTL p.val) r Code.DENY)) ∧
    ((s.ni p.val).inv = none → ∃ t : State, exec (.invGo p r) s = .next (t.ans (A.NI_ROUTE_CTL p.val) r Code.OK) ∧
      (t.ni p.val).inv = some (if reqFld r F.NI_ROUTE_CTL_INV_ALL = 1 then none
        else some (BitVec.ofNat 2 (reqFld r F.NI_ROUTE_CTL_INV_TRAV)), s.datum) ∧
      t.fld (A.NI_ROUTE_STATUS p.val) F.NI_ROUTE_STATUS_INV_BUSY = 1 ∧
      (∀ a, a ≠ A.NI_ROUTE_STATUS p.val → t.rd a = s.rd a))) ∧
  (∀ (p : Fin 144) (s : State) (x : Option (BitVec 2)) (d : Nat), (s.ni p.val).inv = some (x, d) →
    (s.datum < d + 1024 → exec (.invSweepDone p) s = .next s) ∧
    (d + 1024 ≤ s.datum → ∃ t : State, exec (.invSweepDone p) s = .next t ∧ (t.ni p.val).inv = none ∧
      t.fld (A.NI_ROUTE_STATUS p.val) F.NI_ROUTE_STATUS_INV_BUSY = 0 ∧
      (∀ a, a ≠ A.NI_ROUTE_STATUS p.val → t.rd a = s.rd a) ∧ ∀ q, q ≠ p.val → t.ni q = s.ni q))

/-- R86: with something to route around and nothing in the way the FMP builds a bank and opens set 7; it places the switch and
closes the set with a lead of 2,048 fclk; it ends the route-around after the stake: where that did not apply the bank stays prepared and the causes wait, where it did
and nothing drains any more the change is complete. R85 step 5: a drain that is not complete
10 ms after T is left, with an event. R290 cause 2: a port that the current traverse does not join to key 240 is isolated. -/
def Obligations.RouteAround : Prop :=
  (∀ s : State, s.fwState = Fw.SERVING →
    (s.fmp.aroundRun = none → s.fmp.around.isEmpty = false → s.fmp.drain = none → s.fmp.own7 = none → s.idle7 = true →
      s.openMode = true → s.anyTkt (fun t => (resOf t.cmd).contains .routes) = false →
      exec .routeAround s = .next s.startAround) ∧
    (∀ n b o, s.fmp.aroundRun = some (n, b) → s.fmp.own7 = some o → o.kind = 5 → s.setSt 7 = SetSt.OPEN →
      exec .routeAround s = .next ((s.placeAll 7 (s.switchShadows n)).1.close7 0 2048)) ∧
    (∀ n b, s.fmp.aroundRun = some (n, b) → s.fmp.own7 = none → exec .routeAround s = .next (s.endAround n b) ∧
      (s.curTrav 192 ≠ n → (s.endAround n b).fmp.prep = some (n, 8) ∧ (s.endAround n b).fmp.around = s.fmp.around) ∧
      (s.curTrav 192 = n → s.fmp.drain = none → s.endAround n b = s.aroundDone))) ∧
  (∀ (s : State) (c d : Nat), s.fmp.drain = some (c, d) → s.fmp.stalled = false → s.drainDone c = false →
    d + 20000000 ≤ s.datum → s.fwState ≠ Fw.HALTED → s.fmp.retire = none → ∃ u : State, exec .drainStall s = .next (u.raise 1362) ∧
      u.fmp.stalled = true ∧ u.fmp.drain = some (c, d) ∧ u.regs = s.regs ∧
      u.fmp.aroundRun = s.fmp.aroundRun.map (fun e => (e.1, true))) ∧
  (∀ (p : Fin 144) (s : State), s.reachable p.val = false →
    s.niState p.val = PortStt.ENABLED ∨ s.niState p.val = PortStt.QUIESCE ∨ s.niState p.val = PortStt.DISABLING →
    exec (.isolateNoRoute p) s = .next (s.isolate p.val 2)) ∧
  (∀ (p : Fin 144) (s : State), s.reachable p.val = true → exec (.isolateNoRoute p) s = .next s)

/-! ### Chains, patches, state channels, the unit's target channels -/

/-- R96, R98, R103: at an injection instant of a valid entry, where the chain end has driven nothing yet in the cycle, the oldest ready flit of its queue is driven and leaves the queue;
with an empty queue a pending probe of the entry goes out and PROBE_TX holds the datum. R101: the oldest arrived flit is
taken with what its last hop did to it; one with an error beyond correction is counted in DUE; in PORT mode one with the expected SEQ moves SEQ_EXP on and joins the receive queue; a flit for a port that is not
ENABLED is dropped. R103: PROBE_GO makes a probe pending and is refused while one is. -/
def Obligations.Chains : Prop :=
  (∀ (b : Fin 156) (s : State) (k : Nat) (x : Option SrcFlit), s.injects b.val = some (k, x) →
    s.srcValid b.val k = true ∧ s.instant b.val k (s.nowOf b.val) = true ∧ s.tripped = false ∧
    (∀ f, x = some f → (s.srcQueue b.val k).head? = some f ∧ f.ready ≤ s.nowOf b.val ∧
      (s.driveFree b.val = true → exec (.chainInject b) s = .next ((s.setSrcQueue b.val k (s.srcQueue b.val k).tail).drive b.val
        { flags := f.flags
          chain := BitVec.ofNat 14 (s.fld (srcCfgOf b.val k) F.NI_CHAIN_SRC_CFG_CHAIN)
          seq := f.seq
          stamp := f.stamp
          payload := f.payload }))) ∧
    (x = none → s.srcQueue b.val k = [] ∧ (s.driveFree b.val = true → ∃ t : State, exec (.chainInject b) s = .next t ∧
      t.rd (A.NI_CHAIN_PROBE_TX b.val) = BitVec.ofNat 64 (s.nowOf b.val) ∧
      t.fld (A.NI_CHAIN_CTL b.val) F.NI_CHAIN_CTL_PROBE_PEND = 0))) ∧
  (∀ (b : Fin 156) (s : State), s.injects b.val = none ∨ s.driveFree b.val = false → exec (.chainInject b) s = .next s) ∧
  (∀ (b : Fin 156) (e : LinkErr) (s : State) (x : GArrival) (rest : List GArrival), (s.chain b.val).rx = x :: rest →
    (s.datum < x.at' → exec (.chainFlitReceive ⟨b, e⟩) s = .next s) ∧
    (x.at' ≤ s.datum →
      let u := s.modChain b.val (fun c => { c with rx := rest })
      exec (.chainFlitReceive ⟨b, e⟩) s = .next ((if b.val < 144 then u.ncnt b.val 9 else u).takeG b.val
        { x with g := x.g.lastHop e }))) ∧
  (∀ (p : Fin 144) (s : State) (x : GArrival), s.enabled p.val = true → x.g.err = .due → s.takeG p.val x =
    (match s.dstEntry p.val x.g.chain with
     | some k => s.dstLoss p.val k F.NI_CHAIN_DST_STAT_DUE 1
     | none => s.unknownFlit p.val)) ∧
  (∀ (p : Fin 144) (s : State) (x : GArrival), s.enabled p.val = false → s.takeG p.val x = s.gDropped p.val x.g) ∧
  (∀ (p : Fin 144) (k : Nat) (s : State) (x : GArrival), s.enabled p.val = true → x.g.err ≠ .due → k < 64 →
    s.dstEntry p.val x.g.chain = some k → x.g.flags.getLsbD 2 = false →
    s.bit (dstCfgOf p.val k) F.NI_CHAIN_DST_CFG_MODE = false →
    x.g.seq.toNat = s.fld (dstStatOf p.val k) F.NI_CHAIN_DST_STAT_SEQ_EXP → (s.dstQueue p.val k).length < 8 →
      s.takeG p.val x = (s.setFld (dstStatOf p.val k) F.NI_CHAIN_DST_STAT_SEQ_EXP (x.g.seq.toNat + 1)).setDstQueue p.val k
        (s.dstQueue p.val k ++ [x])) ∧
  (∀ (p : Fin 144) (r : Req) (s : State), s.admits (A.NI_CHAIN_CTL p.val) r → reqFld r F.NI_CHAIN_CTL_PROBE_GO = 1 →
    isFmp r = true ∨ reqFld r F.NI_CHAIN_CTL_PROBE_IDX = s.fld (A.NI_CHAIN_CTL p.val) F.NI_CHAIN_CTL_PROBE_IDX →
    (s.bit (A.NI_CHAIN_CTL p.val) F.NI_CHAIN_CTL_PROBE_PEND = true →
      exec (.chainProbeGo p r) s = .next (s.ans (A.NI_CHAIN_CTL p.val) r Code.DENY)) ∧
    (s.bit (A.NI_CHAIN_CTL p.val) F.NI_CHAIN_CTL_PROBE_PEND = false → ∃ t : State,
      exec (.chainProbeGo p r) s = .next (t.ans (A.NI_CHAIN_CTL p.val) r Code.OK) ∧
      t.fld (A.NI_CHAIN_CTL p.val) F.NI_CHAIN_CTL_PROBE_PEND = 1 ∧
      t.fld (A.NI_CHAIN_CTL p.val) F.NI_CHAIN_CTL_PROBE_IDX = reqFld r F.NI_CHAIN_CTL_PROBE_IDX ∧
      ∀ a, a ≠ A.NI_CHAIN_CTL p.val → t.rd a = s.rd a))

/-- R105, R106: GO with a plat and a parcel in range, nothing pending and no plat locked makes the patch pending for the first
multiple of the length that is at least 4 fclk ahead; at that datum the entry of the active bank, and no byte outside it, holds
the new value and PENDING clears. -/
def Obligations.PlatPatches : Prop :=
  (∀ (st : Fin 36) (r : Req) (s : State), s.admits (A.STN_PLAT_PATCH st.val) r →
    let n := reqFld r F.STN_PLAT_PATCH_PLAT
    let k := reqFld r F.STN_PLAT_PATCH_PARCEL
    let len := s.bankLen st.val n (s.platBank st.val n)
    (11 ≤ n ∨ len ≤ k → exec (.platPatchGo st r) s = .next (s.ans (A.STN_PLAT_PATCH st.val) r Code.DENY)) ∧
    (n < 11 → k < len → reqFld r F.STN_PLAT_PATCH_GO = 1 →
      (s.bit (A.STN_PLAT_PATCH st.val) F.STN_PLAT_PATCH_PENDING = true ∨ s.anyLocked st.val = true →
        exec (.platPatchGo st r) s = .next (s.ans (A.STN_PLAT_PATCH st.val) r Code.DENY)) ∧
      (s.bit (A.STN_PLAT_PATCH st.val) F.STN_PLAT_PATCH_PENDING = false → s.anyLocked st.val = false → ∃ t : State,
        exec (.platPatchGo st r) s = .next (t.ans (A.STN_PLAT_PATCH st.val) r Code.OK) ∧
        (t.stn st.val).patch = some (n, k, reqFld r F.STN_PLAT_PATCH_ENTRY) ∧
        t.rd (A.STN_PLAT_PATCH_TIME st.val) = BitVec.ofNat 64 (roundUp (s.nowOf (stnBlk st.val) + 4) len) ∧
        t.fld (A.STN_PLAT_PATCH st.val) F.STN_PLAT_PATCH_PENDING = 1 ∧ t.mem = s.mem))) ∧
  (∀ (st : Fin 36) (s : State) (n k e : Nat), (s.stn st.val).patch = some (n, k, e) →
    (s.nowOf (stnBlk st.val) < (s.rd (A.STN_PLAT_PATCH_TIME st.val)).toNat →
      exec (.platPatchApply st) s = .next s) ∧
    ((s.rd (A.STN_PLAT_PATCH_TIME st.val)).toNat ≤ s.nowOf (stnBlk st.val) → ∃ t : State,
      exec (.platPatchApply st) s = .next t ∧ t.platAt st.val n (s.platBank st.val n) k = e % 65536 ∧
      (t.stn st.val).patch = none ∧ t.fld (A.STN_PLAT_PATCH st.val) F.STN_PLAT_PATCH_PENDING = 0 ∧
      (∀ a, a ≠ A.STN_PLAT_PATCH st.val → t.rd a = s.rd a) ∧
      ∀ a, a ≠ platAddr st.val n (s.platBank st.val n) k → a ≠ platAddr st.val n (s.platBank st.val n) k + 1 →
        t.rdMem a 1 = s.rdMem a 1))

/-- R116 to R120, R125: one waiting write meets its slot per fclk; it is discarded and counted where the port or the slot is
off, turned away where a newer value stands, and otherwise the slot is PENDING and holds it. R117: a flit of a span finds its slot by
its index in the scan; only a written one is the last of its entry. A SPUT of enough privilege
that lies in the slots waits 5 fclk for its write; one of too little is refused. -/
def Obligations.StateChannels : Prop :=
  (∀ (p : Fin 144) (s : State) (w : SlotW), (s.ni p.val).slotAt ≤ s.datum → nextSlotW s.datum (s.ni p.val).slotW = some w →
    exec (.stateSlotWrite p) s = .next ((s.modNi p.val (fun n => { n with
      slotW := n.slotW.erase w
      slotAt := s.datum + 1 })).slotWrite p.val w)) ∧
  (∀ (p : Fin 144) (s : State), s.datum < (s.ni p.val).slotAt ∨ nextSlotW s.datum (s.ni p.val).slotW = none →
    exec (.stateSlotWrite p) s = .next s) ∧
  (∀ (p : Fin 144) (s : State) (w : SlotW) (x : ScanRef), w.scan = some x →
    (s.scanIndex p.val x = none → s.slotWrite p.val w = s.sat (A.NI_STATE_COUNT_B p.val) F.NI_STATE_COUNT_B_UNSYNC) ∧
    (∀ i, s.scanIndex p.val x = some i →
      (x.first = true → i = 0) ∧
      (x.first = false → ∃ l, tget none (s.chain p.val).scan x.entry = some l ∧ i = l + 1 + x.gap) ∧
      (x.span ≤ i → s.slotWrite p.val w = s.sat (A.NI_STATE_COUNT_B p.val) F.NI_STATE_COUNT_B_SPAN_ERR) ∧
      (i < x.span → ∃ y : SlotW, y = { w with slot := (w.slot + i) % 256 } ∧
        ((s.slotPut p.val y).2 = false → s.slotWrite p.val w = (s.slotPut p.val y).1) ∧
        ((s.slotPut p.val y).2 = true → s.slotWrite p.val w = (s.slotPut p.val y).1.modChain p.val (fun c =>
          { c with scan := tset none c.scan x.entry (some i) }))))) ∧
  (∀ (p : Fin 144) (s : State) (w : SlotW), w.slot < 256 → w.scan = none →
    (s.enabled p.val = false ∨ s.bit (A.NI_STATE_CFG p.val w.slot) F.NI_STATE_CFG_EN = false →
      s.slotWrite p.val w = s.sat (A.NI_STATE_COUNT_A p.val) F.NI_STATE_COUNT_A_DISCARD) ∧
    (s.enabled p.val = true → s.bit (A.NI_STATE_CFG p.val w.slot) F.NI_STATE_CFG_EN = true →
      let x := expandStamp w.bits (s.nowOf p.val) w.stamp
      x ≤ s.nowOf p.val →
      (s.slotSt p.val w.slot ≠ SlotSt.EMPTY → x < s.slotStamp p.val w.slot →
        s.slotWrite p.val w = s.sat (A.NI_STATE_COUNT_A p.val) F.NI_STATE_COUNT_A_BEHIND) ∧
      (s.slotSt p.val w.slot = SlotSt.EMPTY ∨ s.slotStamp p.val w.slot ≤ x →
        (s.slotWrite p.val w).slotSt p.val w.slot = SlotSt.PENDING ∧
        tget none ((s.slotWrite p.val w).ni p.val).slots w.slot = some ⟨w.value, w.mark, x, s.datum⟩ ∧
        w.slot ∈ ((s.slotWrite p.val w).ni p.val).order ∧
        ∀ k, k < 256 → k ≠ w.slot → (s.slotWrite p.val w).rd (A.NI_STATE_STAMP p.val k) = s.rd (A.NI_STATE_STAMP p.val k)))) ∧
  (∀ (p : Fin 144) (s : State) (q : Pkt) (rest : List Pkt), (s.ni p.val).rxReq = q :: rest → q.h.cmd = Cmd.SPUT →
    exec (.sputReceive p) s = .next ((s.modNi p.val (fun n => { n with rxReq := rest })).takeSput p.val q)) ∧
  (∀ (p : Fin 144) (s : State) (q : Pkt),
    let a := q.h.address.toNat
    let n := q.h.bcount.toNat
    let cfg := A.NI_STATE_CFG p.val (a / 64 % 256)
    q.h.dest = s.gid p.val → s.enabled p.val = true → q.fails = false → q.h.clean = true → a < 2 ^ 14 → 0 < n →
    a % 64 + n ≤ 64 → q.h.len.toNat = lenFor a n → s.bit cfg F.NI_STATE_CFG_EN = true → s.bit cfg F.NI_STATE_CFG_SPUT_EN = true →
    (s.fld cfg F.NI_STATE_CFG_MIN_PRIV ≤ effPriv q.h.src q.h.priv → s.takeSput p.val q = s.queueSlot p.val
      { slot := a / 64
        value := BitVec.ofNat 512 (q.dataNat * 256 ^ (a % 64))
        mark := false
        stamp := q.h.stamp.toNat
        bits := 32
        chain := false
        due := s.datum + 5 }) ∧
    (effPriv q.h.src q.h.priv < s.fld cfg F.NI_STATE_CFG_MIN_PRIV → s.takeSput p.val q =
      (s.sat (A.NI_STATE_COUNT_B p.val) F.NI_STATE_COUNT_B_DENIED).tcapPkt p.val Code.DENY q.h))

/-- R144, R207, R208, R212, R213, R216: at an edge the NI offers the beat it chooses on TQ, which transfers when the unit is
ready; a beat of the unit on TS is checked and taken by the item it answers; on IS the NI drives the next beat of the oldest
answer, which leaves when the unit is ready, and the tag with its last. -/
def Obligations.UnitChannels : Prop :=
  (∀ (p : Fin 144) (ready : Bool) (s : State), s.datum % 2 = 0 → s.pwrUp p.val = true → s.enabled p.val = true →
    s.bit (A.NI_PORT_STATUS p.val) F.NI_PORT_STATUS_QREQ = false → (s.ni p.val).tqAt ≤ s.datum →
    let u := s.modNi p.val (fun n => { n with tqAt := s.datum + 1 })
    ((u.choose p.val).2 = none → exec (.tqOffer p ready) s =
      .next ((u.choose p.val).1.modNi p.val (fun n => { n with tqOut := none }))) ∧
    (∀ o, (u.choose p.val).2 = some o →
      let x := (u.choose p.val).1
      let b := x.offerBeat p.val o
      let y := x.modNi p.val (fun n => { n with tqOut := some b })
      exec (.tqOffer p ready) s = .next (if ready = false then y.ncnt p.val 4
        else if b.last = true then (y.transfer p.val o).ncnt p.val 3 else y.transfer p.val o))) ∧
  (∀ (p : Fin 144) (b : TsBeat) (s : State), s.datum % 2 = 0 → s.pwrUp p.val = true → (s.ni p.val).rsWait = none →
    (s.ni p.val).tsAt ≤ s.datum →
    let u := (s.modNi p.val (fun n => { n with tsAt := s.datum + 1 })).ncnt p.val 5
    (tsBad b = true → exec (.tsAnswer p b) s = .next (u.portErr p.val 5 b.tag.toNat)) ∧
    (tsBad b = false → ((u.interrupt p.val b.tag.toNat).ni p.val).tsDrop.contains b.tag.toNat = false →
      (tget none ((u.interrupt p.val b.tag.toNat).ni p.val).tout b.tag.toNat = none → exec (.tsAnswer p b) s =
        .next ((u.interrupt p.val b.tag.toNat).portErr p.val 6 b.tag.toNat)) ∧
      (∀ x, tget none ((u.interrupt p.val b.tag.toNat).ni p.val).tout b.tag.toNat = some x → exec (.tsAnswer p b) s =
        .next ((u.interrupt p.val b.tag.toNat).tsBeat p.val x b)))) ∧
  (∀ (p : Fin 144) (ready : Bool) (s : State) (a : IsAns) (rest : List IsAns) (be : BitVec 64) (data : BitVec 512)
    (more : List (BitVec 64 × BitVec 512 × Nat)), s.datum % 2 = 0 → s.pwrUp p.val = true → (s.ni p.val).isAt ≤ s.datum →
    (s.ni p.val).isQ = a :: rest → ∀ c, a.beats = (be, data, c) :: more →
    ∃ t : State, exec (.isPresent p ready) s = .next t ∧ (t.ni p.val).isOut = some
      { kind := a.kind, tag := a.tag, status := a.status, last := more.isEmpty, be := be, data := data } ∧
      (ready = false → (t.ni p.val).isQ = a :: rest ∧ t.regs = s.regs) ∧
      (ready = true → more = [] → (t.ni p.val).isQ = rest ∧ t.acc p.val a.tag = none) ∧
      (ready = true → more ≠ [] → (t.ni p.val).isQ = { a with beats := more } :: rest ∧ t.acc p.val a.tag = s.acc p.val a.tag))

/-! ### Stakes -/

/-- R132: OPEN of an idle set in a mode that opens sets, by any writer or for a reserved set by the FMP, makes its writer the
owner, enters OPENING and asks for a COLLECT pass. R136: CLOSE of an open set by its owner. R141: ABORT by its owner before the
commit enters ABORTING and asks for an ABORT pass. Another writer, or another state, gets DENY and changes nothing.
R136: a CLOSE at datum C records C and the effective T, the T asked for rounded up to the granule (2 at least for a PRELOAD
set); one that lies less than 2,048 ahead is LATE, and under policy 0 aborts the set; otherwise the set enters CLOSING and an
EXPECT pass is asked for. -/
def Obligations.SetOpenCloseAndAbort : Prop :=
  (∀ (n : Fin 8) (r : Req) (s : State), s.admits (A.STK_SET_CTL n.val) r →
     let a := A.STK_SET_CTL n.val
     let fs := [F.STK_SET_CTL_MODE, F.STK_SET_CTL_LATE_POLICY, F.STK_SET_CTL_GRAN]
     (reqFld r F.STK_SET_CTL_OP = 1 →
       (s.setSt n.val = SetSt.IDLE → s.openMode = true →
         (s.fld A.STK_CFG F.STK_CFG_RESERVE).testBit n.val = false ∨ isFmp r = true →
         ∃ t : State, exec (.setOpen n r) s = .next (t.ans a r Code.OK) ∧ t = (s.openSet n.val r).wakeSleepers ∧
           t.setSt n.val = SetSt.OPENING ∧ t.fld (A.STK_SET_STATUS n.val) F.STK_SET_STATUS_OWNER = r.src.toNat ∧
           t.stk.reqs = s.stk.reqs ++ [⟨n.val, PassCmd.COLLECT, s.datum⟩]) ∧
       (s.setSt n.val ≠ SetSt.IDLE ∨ s.openMode = false ∨
         ((s.fld A.STK_CFG F.STK_CFG_RESERVE).testBit n.val = true ∧ isFmp r = false) →
         exec (.setOpen n r) s = .next (s.ans a r Code.DENY))) ∧
     (reqFld r F.STK_SET_CTL_OP = 2 →
       (s.setSt n.val = SetSt.OPEN → s.ownsSet n.val r = true → reqFld r F.STK_SET_CTL_GRAN ≠ 7 →
         exec (.setClose n r) s = .next (((fs.foldl (fun s f => s.setFld a f (reqFld r f)) s).closeSet n.val).ans a r
           Code.OK)) ∧
       (s.setSt n.val ≠ SetSt.OPEN ∨ s.ownsSet n.val r = false →
         exec (.setClose n r) s = .next (s.ans a r Code.DENY))) ∧
     (reqFld r F.STK_SET_CTL_OP = 3 →
       (s.setSt n.val = SetSt.OPEN ∨ s.setSt n.val = SetSt.CLOSING ∨ s.setSt n.val = SetSt.WAITING →
         s.ownsSet n.val r = true → (∀ f ∈ fs, reqFld r f = s.fld a f) →
         ∃ t : State, exec (.setAbort n r) s = .next (t.ans a r Code.OK) ∧ t.setSt n.val = SetSt.ABORTING ∧
           (t.sset n.val).reason = 1 ∧ t.stk.reqs = s.stk.reqs ++ [⟨n.val, PassCmd.ABORT, s.datum⟩]) ∧
       (s.setSt n.val = SetSt.IDLE ∨ s.setSt n.val = SetSt.OPENING ∨ SetSt.COMMITTED ≤ s.setSt n.val ∨
         s.ownsSet n.val r = false → exec (.setAbort n r) s = .next (s.ans a r Code.DENY)))) ∧
  (∀ (n : Fin 8) (s : State),
     let ctl := A.STK_SET_CTL n.val
     let g := granOf (s.fld ctl F.STK_SET_CTL_GRAN)
     let t := roundUp (s.rd (A.STK_SET_T n.val)).toNat (if s.fld ctl F.STK_SET_CTL_MODE = 1 then max g 2 else g)
     let u := s.closeSet n.val
     (u.rd (A.STK_SET_CLOSE_TIME n.val) = BitVec.ofNat 64 s.datum ∧ u.rd (A.STK_SET_EFF_T n.val) = BitVec.ofNat 64 t) ∧
     (s.datum + 2048 ≤ t → u.setSt n.val = SetSt.CLOSING ∧ u.fld (A.STK_SET_STATUS n.val) F.STK_SET_STATUS_LATE = 0 ∧
       u.stk.reqs = s.stk.reqs ++ [⟨n.val, PassCmd.EXPECT, s.datum⟩]) ∧
     (t < s.datum + 2048 → u.fld (A.STK_SET_STATUS n.val) F.STK_SET_STATUS_LATE = 1 ∧
       (s.fld ctl F.STK_SET_CTL_LATE_POLICY = 0 → u.setSt n.val = SetSt.ABORTING ∧ (u.sset n.val).reason = 4) ∧
       (s.fld ctl F.STK_SET_CTL_LATE_POLICY ≠ 0 → u.setSt n.val = SetSt.CLOSING ∧ (u.sset n.val).asap = true)))

/-- R131: the sequencer takes the oldest pass (a COLLECT pass once no station sleeps, R334), writes the next block every
4 fclk, and ends a pass of which all 193 writes are issued and none is open; while one is open and has not expired it waits. The
end of a COLLECT or EXPECT pass moves its set on (R132, R136); a write of one that fails aborts the set at once, one of another
pass sets SEQ_ERR.
R137: COLLECT of an idle block enters COLLECT; EXPECT of a collecting block keeps the record and enters EXPECT; ABORT of a
collecting or expecting block discards what it holds, and of an idle one changes nothing; RELEASE discards in every state, and counts what it
discards after commit. Any other gets DENY. -/
def Obligations.SequencerAndBlockCommands : Prop :=
  ((∀ (s : State) (q : PassReq) (rest : List PassReq), s.stk.pass = none → s.stk.reqs = q :: rest →
     q.cmd ≠ PassCmd.COLLECT ∨ s.noneAsleep = true → exec .seqPassStart s = .next { s with stk := { s.stk with
       reqs := rest
       pass := some { set := q.set, cmd := q.cmd, at' := max (max q.req s.stk.passEnd + 4) s.datum } } }) ∧
   (∀ (s : State) (q : Pass), s.stk.pass = some q →
     (193 ≤ q.idx ∨ s.datum < q.at' → exec .seqPassWrite s = .next s) ∧
     (q.idx < 193 → q.at' ≤ s.datum → ∃ t : State, exec .seqPassWrite s = .next t ∧
       t = { (s.seqWrite q q.idx).1 with stk := { (s.seqWrite q q.idx).1.stk with
         pass := some { (s.seqWrite q q.idx).2 with
           idx := q.idx + 1
           at' := s.datum + 4 } } })) ∧
   (∀ (s : State) (q : Pass), s.stk.pass = some q →
     (193 ≤ q.idx → q.waits = [] → exec .seqPassEnd s = .next ({ s with stk := { s.stk with
       pass := none
       passEnd := s.datum } }.passDone q)) ∧
     ((∀ w ∈ q.waits, s.datum < w.at' + 131072) → q.idx < 193 ∨ q.waits ≠ [] → exec .seqPassEnd s = .next s)) ∧
   (∀ (s : State) (q : Pass),
     (q.cmd = PassCmd.COLLECT → s.setSt q.set = SetSt.OPENING →
       s.passDone q = s.toSet q.set SetSt.OPEN) ∧
     (q.cmd = PassCmd.EXPECT → s.setSt q.set = SetSt.CLOSING →
       s.passDone q = s.toSet q.set SetSt.WAITING)) ∧
   (∀ (s : State) (n cmd : Nat),
     (cmd = PassCmd.COLLECT → s.setSt n = SetSt.OPENING → s.seqFail n cmd = s.abortSet n 5) ∧
     (cmd = PassCmd.EXPECT → s.setSt n = SetSt.CLOSING → s.seqFail n cmd = s.abortSet n 5) ∧
     (cmd ≠ PassCmd.COLLECT → cmd ≠ PassCmd.EXPECT →
       s.seqFail n cmd = s.setFld (A.STK_SET_STATUS n) F.STK_SET_STATUS_SEQ_ERR 1))) ∧
  (∀ (b : Fin 193) (n : Fin 8) (r : Req) (s : State), s.admits (expOf b.val n.val) r →
     let a := expOf b.val n.val
     let st := s.blkSt b.val n.val
     (reqFld r F.NI_STK_EXP_CMD = PassCmd.COLLECT →
       (st = BlkSt.IDLE → ∃ t : State, exec (.expCollect b n r) s = .next (t.ans a r Code.OK) ∧
         t.blkSt b.val n.val = BlkSt.COLLECT ∧ t.setF b.val n.val F.NI_STK_SET_READY = 0 ∧ t.stk.ents = s.stk.ents ∧
         (∀ x, x ≠ setRegOf b.val n.val → t.rd x = s.rd x)) ∧
       (st ≠ BlkSt.IDLE → exec (.expCollect b n r) s = .next (s.ans a r Code.DENY))) ∧
     (reqFld r F.NI_STK_EXP_CMD = PassCmd.EXPECT →
       (st = BlkSt.COLLECT → ∃ t : State, exec (.expExpect b n r) s = .next (t.ans a r Code.OK) ∧
         t.blkSt b.val n.val = BlkSt.EXPECT ∧ t.fld a F.NI_STK_EXP_CMD = 0 ∧
         (∀ f ∈ [F.NI_STK_EXP_PART, F.NI_STK_EXP_PRELOAD, F.NI_STK_EXP_ASAP, F.NI_STK_EXP_STAGED, F.NI_STK_EXP_SHADOWS,
           F.NI_STK_EXP_T_LOW], t.fld a f = reqFld r f) ∧
         (∀ x, x ≠ setRegOf b.val n.val → x ≠ a → t.rd x = s.rd x)) ∧
       (st ≠ BlkSt.COLLECT → exec (.expExpect b n r) s = .next (s.ans a r Code.DENY))) ∧
     (reqFld r F.NI_STK_EXP_CMD = PassCmd.ABORT →
       (st = BlkSt.COLLECT ∨ st = BlkSt.EXPECT → ∃ t : State, exec (.expAbort b n r) s = .next (t.ans a r Code.OK) ∧
         t = s.blkDiscard b.val n.val ∧ t.shadowsOf b.val n.val = [] ∧ t.entriesOf b.val n.val = []) ∧
       (st = BlkSt.IDLE → exec (.expAbort b n r) s = .next (s.ans a r Code.OK)) ∧
       (st = BlkSt.CALLED ∨ st = BlkSt.APPLYING → exec (.expAbort b n r) s = .next (s.ans a r Code.DENY))) ∧
     (reqFld r F.NI_STK_EXP_CMD = PassCmd.RELEASE →
       exec (.expRelease b n r) s = .next (((s.blkDiscard b.val n.val).stkLost b.val
         (if st = BlkSt.CALLED ∨ st = BlkSt.APPLYING ∨ s.committed n.val = true then (s.entriesOf b.val n.val).length + (s.shadowsOf b.val n.val).length
           else 0)).ans a r Code.OK)))

/-- R138, R139, R141, R148: a set in WAITING with every block ready and none faulty commits while its T is at least 256 ahead,
an ASAP set at the first multiple of 1,024 not less than 256 ahead; a fault aborts it, and so does the limit; an abort ends when
its pass is done and no block is open; at T a committed set applies; 24 fclk later, with no block open, it ends APPLIED or
APPLIED_ERR; one still open 65,536 fclk after T is released.
R142, R143, R146: a call takes a block in EXPECT to CALLED with its T, and elsewhere is counted in LOST; in cycle T a called
block makes its shadows visible, a PRELOAD NI strobes, an NI with entries enters APPLYING and any other block leaves; a
participant that reaches T in EXPECT discards what it holds, sets MISSED and faults. -/
def Obligations.SetProgressCallsAndApply : Prop :=
  (∀ (n : Fin 8) (s : State),
     (s.setSt n.val = SetSt.WAITING → s.gFault n.val = false → s.gReady n.val = true →
       s.stk.shadows.any (fun h => h.set = n.val && h.addr = A.GLB_FMP_IMAGE) = false →
       ((s.sset n.val).asap = false → s.datum + 256 ≤ s.effT n.val → ∃ t : State, exec (.stakeCommit n) s = .next t ∧
         t.setSt n.val = SetSt.COMMITTED ∧ t.rd (A.STK_SET_COMMIT_TIME n.val) = BitVec.ofNat 64 s.datum ∧
         t.glb.merPend = s.glb.merPend ++ [⟨.stakeCall n.val, s.effT n.val, s.datum⟩]) ∧
       ((s.sset n.val).asap = true → s.datum ≤ s.closeT n.val + 65536 → ∃ t : State, exec (.stakeCommit n) s = .next t ∧
         t.setSt n.val = SetSt.COMMITTED ∧ t.rd (A.STK_SET_EFF_T n.val) = BitVec.ofNat 64 (roundUp (s.datum + 256) 1024) ∧
         t.glb.merPend = s.glb.merPend ++ [⟨.stakeCall n.val, roundUp (s.datum + 256) 1024, s.datum⟩])) ∧
     (s.setSt n.val ≠ SetSt.WAITING ∨ s.gFault n.val = true ∨ s.gReady n.val = false → exec (.stakeCommit n) s = .next s) ∧
     (s.setSt n.val = SetSt.WAITING → s.gFault n.val = true →
       exec (.stakeFaultAbort n) s = .next ((s.seeFault n.val).abortSet n.val 2)) ∧
     (s.setSt n.val = SetSt.CLOSING ∨ (s.setSt n.val = SetSt.WAITING ∧ s.gFault n.val = false ∧ s.gReady n.val = false) →
       (if (s.sset n.val).asap then s.closeT n.val + 65536 else s.effT n.val - 256) ≤ s.datum →
       exec (.stakeNotready n) s = .next (s.abortSet n.val 3)) ∧
     (s.setSt n.val = SetSt.ABORTING → (s.sset n.val).passed = true → s.gOpen n.val = false →
       exec (.stakeAbortDone n) s = .next ((s.endSet n.val 3 (s.sset n.val).reason).sat A.STK_TOTALS F.STK_TOTALS_ABORTED)) ∧
     (s.setSt n.val = SetSt.COMMITTED → s.effT n.val ≤ s.datum → ∃ t : State, exec (.stakeControllerT n) s = .next t ∧
       t.setSt n.val = SetSt.APPLYING ∧
       (∀ a, a ≠ A.STK_SET_STATUS n.val → a ≠ A.STK_SUMMARY → t.rd a = s.rd a)) ∧
     (s.setSt n.val = SetSt.APPLYING → s.effT n.val + 24 ≤ s.datum → (s.sset n.val).stuck = false → s.gOpen n.val = false →
       ((s.sset n.val).faulted = false → s.gFault n.val = false →
         exec (.stakeResult n) s = .next ((s.endSet n.val 1 0).sat A.STK_TOTALS F.STK_TOTALS_APPLIED)) ∧
       (((s.seeFault n.val).sset n.val).faulted = true →
         exec (.stakeResult n) s = .next ((((s.seeFault n.val).endSet n.val 2 0).sat A.STK_TOTALS
           F.STK_TOTALS_APPLIED).raise 1358))) ∧
     (s.setSt n.val = SetSt.APPLYING → s.effT n.val + 65536 ≤ s.datum → (s.sset n.val).stuck = false →
       s.gOpen n.val = true → exec (.stakeStuck n) s =
         .next (((s.modSet n.val (fun x => { x with stuck := true })).raise 1359).reqPass n.val PassCmd.RELEASE))) ∧
  ((∀ (b : Fin 192) (sbe : Bool) (s : State) (m : MerMsg) (n : Nat),
     s.arriving b.val (fun k => (callSet k).isSome) = some m → m.kind = .stakeCall n →
     let u := if m.seen.contains 192 then s.meet m b.val
       else ((s.meet m 192).meet { m with seen := m.seen ++ [192] } b.val).callAt 192 n m.instant
     exec (.stakeCallArrival b sbe) s = .next ((u.merSbe (if sbe then 1 else 0)).callAt b.val n m.instant)) ∧
   (∀ (b : Fin 193) (n : Fin 8) (s : State) (t : Nat),
     (s.blkSt b.val n.val = BlkSt.EXPECT → (s.callAt b.val n.val t).blkSt b.val n.val = BlkSt.CALLED ∧
       ((s.callAt b.val n.val t).blk b.val n.val).t = t) ∧
     (s.blkSt b.val n.val ≠ BlkSt.EXPECT → s.callAt b.val n.val t = s.sat (stkStatOf b.val) F.NI_STK_STATUS_LOST 1)) ∧
   (∀ (b : Fin 193) (n : Fin 8) (s : State), s.blkSt b.val n.val = BlkSt.CALLED → (s.blk b.val n.val).t ≤ s.nowOf b.val →
     let v := s.noteApply b.val n.val
     let u := ((v.shadowsOf b.val n.val).foldl (fun s h => s.applyShadow n.val h) v).dropShadows b.val n.val
     u.shadowsOf b.val n.val = [] ∧
     (144 ≤ b.val → exec (.stakeApply b n) s = .next (u.leave b.val n.val)) ∧
     (b.val < 144 → u.expF b.val n.val F.NI_STK_EXP_PRELOAD = 1 → u.expF b.val n.val F.NI_STK_EXP_PART = 1 →
       exec (.stakeApply b n) s = .next (((u.strobe b.val n.val).dropEntries b.val n.val).leave b.val n.val)) ∧
     (u.expF b.val n.val F.NI_STK_EXP_PRELOAD = 0 ∨ u.expF b.val n.val F.NI_STK_EXP_PART = 0 →
       (b.val < 144 → u.entriesOf b.val n.val ≠ [] → exec (.stakeApply b n) s =
         .next ((u.setFld (setRegOf b.val n.val) F.NI_STK_SET_STATE BlkSt.APPLYING).driveTree b.val n.val)) ∧
       (u.entriesOf b.val n.val = [] → exec (.stakeApply b n) s = .next (u.leave b.val n.val)))) ∧
   (∀ (b : Fin 193) (n : Fin 8) (s : State), s.blkSt b.val n.val ≠ BlkSt.CALLED ∨ s.nowOf b.val < (s.blk b.val n.val).t →
     exec (.stakeApply b n) s = .next s) ∧
   (∀ (b : Fin 193) (n : Fin 8) (s : State), s.blkSt b.val n.val = BlkSt.EXPECT →
     s.expF b.val n.val F.NI_STK_EXP_PART = 1 → s.expF b.val n.val F.NI_STK_EXP_ASAP = 0 →
     (s.blk b.val n.val).t ≤ s.nowOf b.val → s.setF b.val n.val F.NI_STK_SET_MISSED = 0 →
     ∃ t : State, exec (.stakeMissed b n) s = .next t ∧ t.shadowsOf b.val n.val = [] ∧ t.entriesOf b.val n.val = [] ∧
       t.setF b.val n.val F.NI_STK_SET_SHADOWS = 0 ∧
       t.setF b.val n.val F.NI_STK_SET_MISSED = 1 ∧ t.setF b.val n.val F.NI_STK_SET_FAULT = 1))

/-- R133, R134: an STW of a collecting block, well formed and of enough privilege, joins the staging entries and is answered OK;
in IDLE it is answered DENY, once called LATE; one that is not well formed, or finds 512 entries in use, is answered TGTERR and
one of too little privilege DENY, and REFUSED sets; one beyond what the set expects is answered TGTERR and counted in EXTRA.
R135: a write of a register of RWS fields is placed as a shadow where the bound
set takes it and DENIED where it does not; STN_TRAV_CTL and STN_PLAT_CTLn have rules of their own beside it. R291: of a set that ended with a lost call the FMP opens set 7 and places the
discarded shadows again. -/
def Obligations.StagedWritesAndShadows : Prop :=
  (∀ (p : Fin 144) (s : State) (q : Pkt) (rest : List Pkt), (s.ni p.val).rxReq = q :: rest → q.h.cmd = Cmd.STW →
    exec (.stwReceive p) s = .next ((s.modNi p.val (fun n => { n with rxReq := rest })).takeStw p.val q)) ∧
  (∀ (p : Fin 144) (s : State) (q : Pkt), q.h.dest = s.gid p.val → q.fails = false → s.enabled p.val = true →
    (s.judgeStw p.val q = (Code.OK, false, false, true) → ∃ t : State, s.takeStw p.val q = t.respond p.val q.h Cmd.STR Code.OK [] ∧
      tget [] t.stk.ents p.val = tget [] s.stk.ents p.val ++ [{
        set := q.h.stake.toNat
        hdr := q.h
        mask := lineMask (q.h.address.toNat % 64) q.h.bcount.toNat
        data := BitVec.ofNat 512 (q.dataNat * 256 ^ (q.h.address.toNat % 64)) }]) ∧
    (s.blkSt p.val q.h.stake.toNat = BlkSt.IDLE → s.takeStw p.val q =
      (s.tcapPkt p.val Code.DENY q.h).respond p.val q.h Cmd.STR Code.DENY []) ∧
    (s.blkSt p.val q.h.stake.toNat = BlkSt.CALLED ∨ s.blkSt p.val q.h.stake.toNat = BlkSt.APPLYING → s.takeStw p.val q =
      ((s.sat (A.NI_STK_STATUS p.val) F.NI_STK_STATUS_EXTRA).tcapPkt p.val Code.LATE q.h).respond p.val q.h Cmd.STR Code.LATE
        []) ∧
    (∀ c, s.judgeStw p.val q = (c, true, false, false) → s.takeStw p.val q =
      (((s.setFld (setRegOf p.val q.h.stake.toNat) F.NI_STK_SET_REFUSED 1).refresh p.val q.h.stake.toNat).tcapPkt p.val c
        q.h).respond p.val q.h Cmd.STR c []) ∧
    (s.judgeStw p.val q = (Code.TGTERR, false, true, false) → s.takeStw p.val q =
      ((s.sat (A.NI_STK_STATUS p.val) F.NI_STK_STATUS_EXTRA).tcapPkt p.val Code.TGTERR q.h).respond p.val q.h Cmd.STR
        Code.TGTERR [])) ∧
  (∀ (p : Fin 144) (s : State) (q : Pkt),
    let st := s.blkSt p.val q.h.stake.toNat
    let a := q.h.address.toNat
    let k := q.h.bcount.toNat
    let good := 1 ≤ k ∧ a % 64 + k ≤ 64 ∧ q.h.len.toNat = lenFor a k ∧ q.h.clean = true
    let allowed := s.fld (A.NI_STK_CTL p.val) F.NI_STK_CTL_MIN_PRIV ≤ effPriv q.h.src q.h.priv
    let extra := s.expF p.val q.h.stake.toNat F.NI_STK_EXP_PART = 0 ∨ s.expF p.val q.h.stake.toNat F.NI_STK_EXP_STAGED ≤
      s.setF p.val q.h.stake.toNat F.NI_STK_SET_ACC
    st = BlkSt.COLLECT ∨ st = BlkSt.EXPECT →
      (¬ good → s.judgeStw p.val q = (Code.TGTERR, true, false, false)) ∧
      (good → ¬ allowed → s.judgeStw p.val q = (Code.DENY, true, false, false)) ∧
      (good → allowed → st = BlkSt.EXPECT → extra → s.judgeStw p.val q = (Code.TGTERR, false, true, false)) ∧
      (good → allowed → (st = BlkSt.EXPECT → ¬ extra) →
        s.judgeStw p.val q = if 512 ≤ s.entsUsed p.val then (Code.TGTERR, true, false, false)
          else (Code.OK, false, false, true))) ∧
  (∀ (off : Fin 33554432) (r : Req) (s : State) (row : RegRow) (b : Blk) (o : Nat), s.admits off.val r →
    rowAt off.val = some row → blkOf off.val = some (b, o) → row.rwsFlds ≠ [] →
    (∀ i, b = .stn i → off.val = A.STN_TRAV_CTL i → exec (.rwsShadowWrite off r) s =
      .next ((s.writeStnTrav i r).1.ans off.val r (s.writeStnTrav i r).2)) ∧
    (∀ i n, b = .stn i → n < 11 → off.val = A.STN_PLAT_CTL i n → exec (.rwsShadowWrite off r) s =
      .next ((s.writePlatCtl i n r).1.ans off.val r (s.writePlatCtl i n r).2)) ∧
    ((∀ i, b = .stn i → off.val ≠ A.STN_TRAV_CTL i ∧ ∀ n, n < 11 → off.val ≠ A.STN_PLAT_CTL i n) →
    (∀ t, s.rwsWrite off.val row r.data = some t → exec (.rwsShadowWrite off r) s = .next ((t.refresh (blkIndexOf off.val)
      (s.fld (bindOf (blkIndexOf off.val)) F.NI_STK_BIND_SET)).ans off.val r Code.OK)) ∧
    (s.rwsWrite off.val row r.data = none → exec (.rwsShadowWrite off r) s = .next (s.ans off.val r Code.DENY)))) ∧
  (∀ (n : Fin 8) (s : State) (h : Shadow) (hs : List Shadow), s.stk.missed.filter (fun h => h.set = n.val) = h :: hs →
    s.setSt n.val = SetSt.IDLE → s.fld (A.STK_SET_STATUS n.val) F.STK_SET_STATUS_RESULT = 2 →
    (s.fmp.own7 = none → s.idle7 = true → exec (.reapplyShadows n) s =
      .next ({ s with fmp := { s.fmp with own7 := some { kind := 2 } } }.open7)) ∧
    (∀ o, s.fmp.own7 = some o → o.kind = 2 → s.setSt 7 = SetSt.OPEN →
      let u := { s with stk := { s.stk with missed := s.stk.missed.filter (fun h => h.set ≠ n.val) } }
      exec (.reapplyShadows n) s = .next (((u.placeAll 7 ((h :: hs).map (fun h => (h.addr, h.val)))).1.close7 0 2048).note 0xF
        (n.val + 16 * 2 + 256 * 8 + 4096 * h.blk) 0)))

/-! ### Injection, shapers, the sluice, the histograms -/

/-- R153: in a free cycle the NI drives a flit of the MGT path, else of the response path, else of the class path, else an idle
flit with the oldest credit return owed. R98: a G flit of a chain takes the cycle. R154: a class whose head starts has an
eligible head: its route known, not held, with its gate open to its end, its shaper willing (a drain barrier needs neither) and a credit. -/
def Obligations.NiInjection : Prop :=
  (∀ (p : Fin 144) (s : State),
    (s.datum < (s.ni p.val).drove ∨ (s.injects p.val).isSome = true → exec (.niInject p) s = .next s) ∧
    ((s.ni p.val).drove ≤ s.datum → s.injects p.val = none →
      (∀ t, s.injMgt p.val = some t → exec (.niInject p) s = .next t) ∧
      (s.injMgt p.val = none →
        (∀ t, s.injRsp p.val = some t → exec (.niInject p) s = .next t) ∧
        (s.injRsp p.val = none →
          ((s.injCls p.val).2 = true → exec (.niInject p) s = .next (s.injCls p.val).1) ∧
          ((s.injCls p.val).2 = false → ((s.injCls p.val).1.ni p.val).lrx.ret = [] → exec (.niInject p) s =
            .next (s.injCls p.val).1) ∧
          (∀ v vs, (s.injCls p.val).2 = false → ((s.injCls p.val).1.ni p.val).lrx.ret = v :: vs → exec (.niInject p) s =
            .next (((s.injCls p.val).1.modNi p.val (fun n => { n with
              lrx := { n.lrx with ret := vs }
              drove := (s.injCls p.val).1.datum + 1 })).sendWire (p.val / 4) (6 + p.val % 4) ⟨.idle, some v⟩
                (s.injCls p.val).1.datum)))))) ∧
  (∀ (p : Fin 144) (s : State), (s.niCred p.val 6 = false → s.injMgt p.val = none) ∧
    (s.niCred p.val 2 = false → s.injRsp p.val = none)) ∧
  (∀ (p : Fin 144) (c : Nat) (s : State), s.classPick p.val = some c → ∃ (o : OutPkt) (q : List OutPkt),
    s.clsq p.val c = o :: q ∧ o.ready = true ∧ s.held p.val o = false ∧ s.niCred p.val (outVc o.pkt.h) = true ∧
    (isDrainBar o.kind = false → s.fits p.val c (s.nowOf p.val) o.pkt.cost = true ∧ s.shapeOk p.val c = true) ∧
    (c ≠ 6 → ∀ x ∈ (s.clsq p.val 6).head?, s.eligible p.val 6 x = false))

/-- R165, R167: an accepted write of a rate or a size resets the levels it governs when the serving cycle ends, and until then
they stand; reserved values get DENY. R161: GO with no
list pending and no entry of duration 0 makes the list pending, to start at BASE or, when BASE is less than 256 ahead, at a
later multiple of the cycle; CANCEL clears PENDING; at the start the operating list is the administrative one.
R168, R169: at a multiple of 2^DEPTH_EXP the depth of the measured queue is counted once in its bin, or in SKIPPED while frozen;
at no other datum; an accepted CLEAR sets every bin to 0, and a depth exponent outside 4 to 20 gets DENY. -/
def Obligations.ShapersSluiceAndHistograms : Prop :=
  ((∀ (p : Fin 144) (k : Fin 7) (r : Req) (s : State), s.admits (A.NI_SHAPE_RATE p.val k.val) r →
     (65536 < reqFld r F.NI_SHAPE_RATE_RATE_C ∨ 65536 < reqFld r F.NI_SHAPE_RATE_RATE_P →
       exec (.shaperResetWrite p (.rate k) r) s = .next (s.ans (A.NI_SHAPE_RATE p.val k.val) r Code.DENY)) ∧
     (reqFld r F.NI_SHAPE_RATE_RATE_C ≤ 65536 → reqFld r F.NI_SHAPE_RATE_RATE_P ≤ 65536 →
       (s.plainWrite (A.NI_SHAPE_RATE p.val k.val) r).2 = Code.OK → exec (.shaperResetWrite p (.rate k) r) s =
         .next (((s.plainWrite (A.NI_SHAPE_RATE p.val k.val) r).1.resetShaper p.val k.val).ans
           (A.NI_SHAPE_RATE p.val k.val) r Code.OK))) ∧
   (∀ (p : Fin 144) (k : Fin 7) (s : State), (s.fld (A.NI_SHAPE_CTL p.val) F.NI_SHAPE_CTL_RELOAD).testBit k.val = false →
     (s.resetShaper p.val k.val).settle.rd (A.NI_SHAPE_LEVEL p.val k.val) = 0 ∧
     (s.resetShaper p.val k.val).rd (A.NI_SHAPE_LEVEL p.val k.val) = s.rd (A.NI_SHAPE_LEVEL p.val k.val)) ∧
   (∀ (f : Fin 12) (r : Req) (s : State), s.admits (A.FED_POLICE_SIZE f.val) r →
     (reqFld r F.FED_POLICE_SIZE_SIZE_C < 3 ∨ reqFld r F.FED_POLICE_SIZE_SIZE_P < 3 →
       exec (.policeResetWrite f true r) s = .next (s.ans (A.FED_POLICE_SIZE f.val) r Code.DENY)) ∧
     (3 ≤ reqFld r F.FED_POLICE_SIZE_SIZE_C → 3 ≤ reqFld r F.FED_POLICE_SIZE_SIZE_P →
       (s.plainWrite (A.FED_POLICE_SIZE f.val) r).2 = Code.OK →
       let t := (s.plainWrite (A.FED_POLICE_SIZE f.val) r).1
       exec (.policeResetWrite f true r) s = .next ((t.wrLate (A.FED_POLICE_LEVEL f.val) (levels 0
         (fun _ => t.fld (A.FED_POLICE_SIZE f.val) F.FED_POLICE_SIZE_SIZE_C * 65536)
         (fun _ => t.fld (A.FED_POLICE_SIZE f.val) F.FED_POLICE_SIZE_SIZE_P * 65536))).ans (A.FED_POLICE_SIZE f.val) r
           Code.OK))) ∧
   (∀ (p : Fin 144) (r : Req) (s : State), s.admits (A.NI_SLUICE_CTL p.val) r →
     let len := reqFld r F.NI_SLUICE_CTL_ADMIN_LEN
     let u := (s.setFld (A.NI_SLUICE_CTL p.val) F.NI_SLUICE_CTL_EN (reqFld r F.NI_SLUICE_CTL_EN)).setFld
       (A.NI_SLUICE_CTL p.val) F.NI_SLUICE_CTL_ADMIN_LEN len
     1 ≤ len → len ≤ 32 →
     (s.bit (A.NI_SLUICE_STATUS p.val) F.NI_SLUICE_STATUS_PENDING = true → reqFld r F.NI_SLUICE_CTL_GO = 1 →
       exec (.sluiceGo p r) s = .next (s.ans (A.NI_SLUICE_CTL p.val) r Code.DENY)) ∧
     (s.bit (A.NI_SLUICE_STATUS p.val) F.NI_SLUICE_STATUS_PENDING = false → reqFld r F.NI_SLUICE_CTL_GO = 1 →
       reqFld r F.NI_SLUICE_CTL_CANCEL = 0 → (∀ k, k < len → s.duration p.val false k ≠ 0) →
       exec (.sluiceGo p r) s = .next ((u.sluiceGo p.val).ans (A.NI_SLUICE_CTL p.val) r Code.OK) ∧
       (u.sluiceGo p.val).fld (A.NI_SLUICE_STATUS p.val) F.NI_SLUICE_STATUS_PENDING = 1 ∧
       ∃ n, (u.sluiceGo p.val).rd (A.NI_SLUICE_START p.val) =
           BitVec.ofNat 64 ((s.rd (A.NI_SLUICE_BASE p.val)).toNat + n * u.adminCycle p.val) ∧
         s.nowOf p.val + 256 ≤ (s.rd (A.NI_SLUICE_BASE p.val)).toNat + n * u.adminCycle p.val ∧
         (n ≠ 0 → (s.rd (A.NI_SLUICE_BASE p.val)).toNat + (n - 1) * u.adminCycle p.val < s.nowOf p.val + 256)) ∧
     (reqFld r F.NI_SLUICE_CTL_GO = 0 → reqFld r F.NI_SLUICE_CTL_CANCEL = 1 →
       len = s.fld (A.NI_SLUICE_CTL p.val) F.NI_SLUICE_CTL_ADMIN_LEN →
       ∃ t : State, exec (.sluiceCancel p r) s = .next (t.ans (A.NI_SLUICE_CTL p.val) r Code.OK) ∧
         t.fld (A.NI_SLUICE_STATUS p.val) F.NI_SLUICE_STATUS_PENDING = 0 ∧
         (∀ k, k < 32 → t.rd (A.NI_SLUICE_OPER p.val k) = s.rd (A.NI_SLUICE_OPER p.val k)))) ∧
   (∀ (p : Fin 144) (s : State),
     (s.bit (A.NI_SLUICE_STATUS p.val) F.NI_SLUICE_STATUS_PENDING = false ∨
       s.nowOf p.val < (s.rd (A.NI_SLUICE_START p.val)).toNat → exec (.sluiceStart p) s = .next s) ∧
     (s.bit (A.NI_SLUICE_STATUS p.val) F.NI_SLUICE_STATUS_PENDING = true →
       (s.rd (A.NI_SLUICE_START p.val)).toNat ≤ s.nowOf p.val → ∃ t : State, exec (.sluiceStart p) s = .next t ∧
         (∀ k, k < 32 → k < s.fld (A.NI_SLUICE_CTL p.val) F.NI_SLUICE_CTL_ADMIN_LEN →
           t.rd (A.NI_SLUICE_OPER p.val k) = s.rd (A.NI_SLUICE_ADMIN p.val k)) ∧
         t.fld (A.NI_SLUICE_STATUS p.val) F.NI_SLUICE_STATUS_PENDING = 0 ∧
         t.fld (A.NI_SLUICE_STATUS p.val) F.NI_SLUICE_STATUS_RUNNING = 1))) ∧
  ((∀ (p : Fin 144) (s : State),
     (s.nowOf p.val % 2 ^ s.fld (A.NI_HIST_CTL p.val) F.NI_HIST_CTL_DEPTH_EXP ≠ 0 ∨ s.datum < (s.ni p.val).histAt →
       exec (.histDepthSample p) s = .next s) ∧
     (s.nowOf p.val % 2 ^ s.fld (A.NI_HIST_CTL p.val) F.NI_HIST_CTL_DEPTH_EXP = 0 → (s.ni p.val).histAt ≤ s.datum →
       let u := s.modNi p.val (fun n => { n with histAt := s.datum + 1 })
       (s.bit (A.NI_HIST_CTL p.val) F.NI_HIST_CTL_FREEZE = true → exec (.histDepthSample p) s =
         .next (u.sat (A.NI_HIST_STATUS p.val) F.NI_HIST_STATUS_SKIPPED)) ∧
       (s.bit (A.NI_HIST_CTL p.val) F.NI_HIST_CTL_FREEZE = false → exec (.histDepthSample p) s =
         .next (u.sat (A.NI_HIST_DEPTH p.val (depthBin (s.measured p.val))) F.NI_HIST_DEPTH_COUNT)))) ∧
   (∀ (p : Fin 144) (r : Req) (s : State), s.admits (A.NI_HIST_CTL p.val) r →
     (reqFld r F.NI_HIST_CTL_DEPTH_EXP < 4 ∨ 20 < reqFld r F.NI_HIST_CTL_DEPTH_EXP →
       exec (.histClear p r) s = .next (s.ans (A.NI_HIST_CTL p.val) r Code.DENY)) ∧
     (4 ≤ reqFld r F.NI_HIST_CTL_DEPTH_EXP → reqFld r F.NI_HIST_CTL_DEPTH_EXP ≤ 20 → reqFld r F.NI_HIST_CTL_CLEAR = 1 →
       (s.plainWrite (A.NI_HIST_CTL p.val) r).2 = Code.OK → ∃ t : State,
         exec (.histClear p r) s = .next (t.ans (A.NI_HIST_CTL p.val) r Code.OK) ∧
         (∀ b, b < 8 → t.rd (A.NI_HIST_DEPTH p.val b) = 0 ∧ t.rd (A.NI_HIST_DELAY p.val b) = 0) ∧
         t.fld (A.NI_HIST_STATUS p.val) F.NI_HIST_STATUS_SKIPPED = 0)) ∧
   (∀ n : Nat, (depthBin n = 0 ↔ n = 0) ∧ (∀ k, 1 ≤ k → k ≤ 6 → (depthBin n = k ↔ 2 ^ (k - 1) ≤ n ∧ n < 2 ^ k)) ∧
     (depthBin n = 7 ↔ 64 ≤ n)))

/-! ### Requests of a unit -/

/-- R174 to R176, R179, R192, R374, R438: the LAST beat of an access that is well driven accepts it. An accepted access whose
address no region holds, or one by a restricted port outside the configuration space, is completed DENY; an aligned 8-byte load
or store of a CONFIG region becomes a CRD or CWR; a store of a NORMAL line merges; the posted lines that share a line are
flushed before any other access; a load, an unmerged store, a non-posted store and the two exclusive accesses become RD, WRP
or WR, STW or SPUT in a STAKED or STATE region, RDX and WRX of the translated address. -/
def Obligations.UnitAccesses : Prop :=
  ∀ (c : Instr) (p o : Nat) (b : IqBeat) (s : State), iqRequest c = some (p, o, b) → s.accepts p o b → b.last = true →
    let op := s.iqOp p o b
    let q := s.iqReq p o b
    let w := s.iqMoved p o b
    let u := w.iqTaken p op
    let acc := w.iqAcc p op
    let key := w.iqKey p op
    let a := q.addr.toNat
    let n := q.size.toNat
    op ≤ 4 → iqBad o b = false → q.good op →
    (u.translate p a n = none → exec c s = .next (u.refuse p op q acc key 0x3FFFF Code.DENY)) ∧
    (∀ x, u.translate p a n = some x →
      (u.restricted p = true → x.kind ≠ 2 → exec c s = .next (u.refuse p op q acc key x.dest Code.DENY)) ∧
      (u.restricted p = false → x.kind = 0 →
        let v := u.flush p (sharesLine x.dest x.addr n)
        (op = 0 → exec c s = .next (v.issue p op q x Cmd.RD acc key false (splitRange a n))) ∧
        (op = 1 → mergeable q x = true → exec c s = .next (u.mergeStore p q x acc)) ∧
        (op = 1 → mergeable q x = false → x.ty = 0 ∨ x.ty = 1 → exec c s =
          .next (v.issuePosted p op q x Cmd.WRP acc none (splitRange a n))) ∧
        (op = 1 ∧ x.ty = 2 ∨ op = 2 ∧ x.ty ≠ 3 → exec c s =
          .next (v.issue p op q x Cmd.WR acc key true (splitRange a n))) ∧
        (op = 1 ∨ op = 2 → x.ty = 3 → exec c s = .next (v.issue p op q x Cmd.STW acc key true (splitLines a n))) ∧
        (op = 3 → x.ty ≠ 3 → exec c s = .next (v.issue p op q x Cmd.RDX acc key false [(a, n)])) ∧
        (op = 4 → x.ty ≠ 3 → exec c s = .next (v.issue p op q x Cmd.WRX acc key true [(a, n)])) ∧
        (op = 3 ∨ op = 4 → x.ty = 3 → exec c s = .next (v.refuse p op q acc key x.dest Code.TGTERR))) ∧
      (u.restricted p = false → x.kind = 1 →
        let v := u.flush p (sharesLine x.dest x.addr n)
        (op = 1 ∨ op = 2 → exec c s = .next (v.issuePosted p op q x Cmd.SPUT acc (if op = 2 then some key else none)
          (splitLines a n))) ∧
        (op = 0 ∨ op = 3 ∨ op = 4 → exec c s = .next (v.refuse p op q acc key x.dest Code.TGTERR))) ∧
      (x.kind = 2 → op ≤ 2 → n = 8 → a % 8 = 0 → ∀ port, cfgPort x.addr = .inr port → exec c s =
        .next (u.issue p op q { x with dest := BitVec.ofNat 18 (gidInst x.dest * 256 + port) }
          (if op = 0 then Cmd.CRD else Cmd.CWR) acc key (decide (op ≠ 0)) [(a, 8)])) ∧
      (x.kind = 2 → 3 ≤ op ∨ n ≠ 8 ∨ a % 8 ≠ 0 → exec c s = .next (u.refuse p op q acc key x.dest Code.TGTERR)))

/-- R99, R100: a flit put to a valid source entry with room joins its queue with the NI's datum as stamp and the entry's SEQ,
which moves on; to an entry that is not valid it is an illegal request (R226). R232: a message of 64 aligned bytes to a channel
window becomes an MSG to the instance's mailbox unit; any other address is answered TGTERR. R183: a barrier whose address a
region holds joins the barriers of the NI, and the lines it covers are flushed (R179); one that no region holds is answered DENY.
R179: a line is flushed once it has been idle for WINDOW; an accepted FLUSH flushes every line; WINDOW 0 is reserved. R185:
the oldest barrier flushes the lines it covers, then waits for the class-path packets before it, then sends a port barrier to
every covered key with its fence bit set, and completes when all are answered, or at once when no key is fenced. -/
def Obligations.PutsMessagesMergingAndBarriers : Prop :=
  (∀ (c : Instr) (p o : Nat) (b : IqBeat) (s : State), iqRequest c = some (p, o, b) → s.accepts p o b → b.last = true →
    let op := s.iqOp p o b
    let q := s.iqReq p o b
    let w := s.iqMoved p o b
    let u := w.iqTaken p op
    let acc := w.iqAcc p op
    let key := w.iqKey p op
    let a := q.addr.toNat
    iqBad o b = false → q.good op →
    (op = 6 →
      let k := q.chain.toNat
      (u.srcValid p k = false → exec c s = .next (u.portErr p 4 0)) ∧
      (u.srcValid p k = true → u.restricted p = true → exec c s = .next (u.srcDrops p k 1)) ∧
      (u.srcValid p k = true → u.restricted p = false → u.putFull p k = false → ∃ t : State, exec c s = .next t ∧
        t.srcQueue p k = u.srcQueue p k ++ [{
          payload := ((q.beats.map Prod.snd).headD 0).setWidth 256
          flags := q.mark.setWidth 4
          stamp := BitVec.ofNat 16 (u.nowOf p)
          seq := BitVec.ofNat 6 (u.fld (srcStatOf p k) F.NI_CHAIN_SRC_STAT_SEQ)
          ready := u.nowOf p + 8 }] ∧
        t.fld (srcStatOf p k) F.NI_CHAIN_SRC_STAT_SEQ =
          (u.fld (srcStatOf p k) F.NI_CHAIN_SRC_STAT_SEQ + 1) % 64)) ∧
    (op = 7 →
      (a % 64 = 0 → a / 2 ^ 13 % 8 = 0 → a < 2 ^ 26 → exec c s = .next (u.issue p 7 q
        { dest := BitVec.ofNat 18 (a / 2 ^ 16 % 1024 * 256 + 240), addr := a % 2 ^ 13, ty := 0, kind := 0, stake := 0 }
        Cmd.MSG acc key true [(a, 64)])) ∧
      (a % 64 ≠ 0 ∨ a / 2 ^ 13 % 8 ≠ 0 ∨ 2 ^ 26 ≤ a → exec c s =
        .next (u.refuse p 7 q acc key 0x3FFFF Code.TGTERR))) ∧
    (op = 5 → u.restricted p = false →
      (u.translate p a 0 = none → exec c s = .next (u.refuse p 5 q acc key 0x3FFFF Code.DENY)) ∧
      (∀ x, u.translate p a 0 = some x → q.bscope = 0 ∨ q.bscope = 3 →
        let bar : Bar := { tag := key, kind := q.bkind, scope := q.bscope, qos := q.qos, addr := q.addr, d := x.dest, seq := acc }
        exec c s = .next ((u.modNi p (fun n => { n with barrs := n.barrs ++ [bar] })).flush p
          (fun l => u.barCovers bar (u.keyOf l.dest)) (some acc))) ∧
      (∀ x, u.translate p a 0 = some x → q.bscope = 1 ∨ q.bscope = 2 → gidInst x.dest ≠ u.instance' →
        exec c s = .next (u.refuse p 5 q acc key x.dest Code.TGTERR)))) ∧
  ((∀ (p : Fin 144) (s : State), exec (.mergeWindowExpire p) s = .next (s.flush p.val (fun l =>
     decide (l.last + s.fld (A.NI_MERGE_CTL p.val) F.NI_MERGE_CTL_WINDOW ≤ s.datum)))) ∧
   (∀ (p : Nat) (s : State) (f : MLine → Bool), (∀ l ∈ (s.ni p).merge, f l = false) → s.flush p f = s) ∧
   (∀ (p : Fin 144) (r : Req) (s : State), s.admits (A.NI_MERGE_CTL p.val) r →
     (reqFld r F.NI_MERGE_CTL_WINDOW = 0 → exec (.mergeFlush p r) s = .next (s.ans (A.NI_MERGE_CTL p.val) r Code.DENY)) ∧
     (reqFld r F.NI_MERGE_CTL_WINDOW ≠ 0 → reqFld r F.NI_MERGE_CTL_FLUSH = 1 →
       (s.plainWrite (A.NI_MERGE_CTL p.val) r).2 = Code.OK → exec (.mergeFlush p r) s =
         .next (((s.plainWrite (A.NI_MERGE_CTL p.val) r).1.flush p.val (fun _ => true)).ans (A.NI_MERGE_CTL p.val) r
           Code.OK))) ∧
   (∀ (p : Fin 144) (s : State) (b : Bar) (bs : List Bar), (s.ni p.val).barrs = b :: bs →
     (b.st = 0 → exec (.barrierAdvance p) s = .next ((s.setBarr p.val { b with st := 1 }).flush p.val
       (fun l => s.barCovers b (s.keyOf l.dest)))) ∧
     (b.st = 1 → s.flushDone p.val b = false → exec (.barrierAdvance p) s = .next s) ∧
     (b.st = 1 → s.flushDone p.val b = true →
       let keys := (List.range 256).filter (fun d => s.barCovers b d && s.fence p.val d)
       (keys = [] → exec (.barrierAdvance p) s = .next (s.barDone p.val b)) ∧
       (keys ≠ [] → exec (.barrierAdvance p) s = .next (s.setBarr p.val { b with
         st := 2
         todo := keys }))) ∧
     (2 ≤ b.st →
       (∀ d ds, b.todo = d :: ds → (s.ni p.val).rqWait = none → (s.ni p.val).barQ = [] →
         exec (.barrierAdvance p) s = .next (s.buildPortBar p.val b d ds)) ∧
       (b.todo ≠ [] → (s.ni p.val).rqWait ≠ none ∨ (s.ni p.val).barQ ≠ [] → exec (.barrierAdvance p) s = .next s) ∧
       (b.todo = [] → b.wait = [] → exec (.barrierAdvance p) s = .next (s.barDone p.val b)) ∧
       (b.todo = [] → b.wait ≠ [] → exec (.barrierAdvance p) s = .next s))))

/-! ### The target side, monitors, responses -/

/-- R173, R283, R287, R452: the oldest arrived request, of REQ or MSG type, is checked once per fclk, and a configuration access
that has strayed to an NI when none waits; one that is misdelivered, not served, damaged,
for a port that is not ENABLED or ill made is turned away with NOROUTE, TGTERR, CRC, the port's code or TGTERR, in that order;
one that passes takes its place: a read, write or posted write in the target-request queue, a barrier of kind 0 its answer at
once. R192, R194: a WRX succeeds exactly with a monitor of its source and bytes, which it frees; else it is answered WRXF. -/
def Obligations.TargetRequests : Prop :=
  (∀ (p : Fin 144) (s : State), (s.ni p.val).entryAt ≤ s.datum →
    let u := s.modNi p.val (fun n => { n with entryAt := s.datum + 1 })
    (∀ q rest, (s.ni p.val).rxReq = q :: rest → q.h.cmd ≠ Cmd.STW → q.h.cmd ≠ Cmd.SPUT →
      exec (.targetRequestEntry p) s = .next ((u.modNi p.val (fun n => { n with rxReq := rest })).takeReq p.val q)) ∧
    (∀ q rest, (s.ni p.val).rxReq = q :: rest → q.h.cmd = Cmd.STW ∨ q.h.cmd = Cmd.SPUT →
      exec (.targetRequestEntry p) s = .next s) ∧
    (∀ q, (s.ni p.val).rxReq = [] → (s.ni p.val).rxMgt.find? mgtMisfit = some q →
      exec (.targetRequestEntry p) s =
        .next ((u.modNi p.val (fun n => { n with rxMgt := n.rxMgt.erase q })).takeReq p.val q))) ∧
  (∀ (p : Fin 144) (s : State), s.datum < (s.ni p.val).entryAt → exec (.targetRequestEntry p) s = .next s) ∧
  (∀ (p : Nat) (s : State) (q : Pkt),
    (q.h.dest ≠ s.gid p → s.takeReq p q = s.turnAway p Code.NOROUTE q) ∧
    (q.h.dest = s.gid p →
      (served q.h.cmd = false → s.takeReq p q = s.turnAway p Code.TGTERR q) ∧
      (served q.h.cmd = true →
        (q.fails = true → s.takeReq p q = s.turnAway p Code.CRC q) ∧
        (q.fails = false →
          (s.enabled p = false → s.takeReq p q = s.turnAway p (s.stateCode p) q) ∧
          (s.enabled p = true →
            (wellMade q = false → s.takeReq p q = s.turnAway p Code.TGTERR q) ∧
            (wellMade q = true → s.takeReq p q = s.order p q)))))) ∧
  (∀ (p : Nat) (s : State) (q : Pkt),
    (q.h.cmd = Cmd.RD → ((s.order p q).ni p).tq = (s.ni p).tq ++ [{ kind := 0, hdr := q.h, data := q.units }] ∧
      (s.order p q).regs = s.regs) ∧
    (q.h.cmd = Cmd.BAR → q.h.bkind = 0 → s.order p q = s.respond p q.h Cmd.BRR Code.OK []) ∧
    (q.h.cmd = Cmd.WRX → s.exclRefused p q = false →
      (∀ m, s.wrxMon p q.h.address.toNat q.h.bcount.toNat q.h.src.toNat = some m → s.order p q = (s.freeMon p m).enter p 2 q) ∧
      (s.wrxMon p q.h.address.toNat q.h.bcount.toNat q.h.src.toNat = none → s.order p q =
        (s.sat (A.NI_EXCL_STATUS p) F.NI_EXCL_STATUS_WRXF_SENT).respond p q.h Cmd.WRXF Code.OK [])) ∧
    (q.h.cmd = Cmd.RDX → s.exclRefused p q = true → s.order p q =
      (s.tcapPkt p Code.TGTERR q.h).answerReq p q Code.TGTERR))

/-- R194, R197: a monitor ends LIFE after its grant, and its hand-off when its time is over; before, nothing changes. R195,
R280, R281: a request that was answered EXNACK is sent again when its delay is over; a response is taken when it has arrived; a
request without one ends TIMEOUT when its timer expires, unless its response has come and is still to be taken, and its tag is
quarantined until its time is over. -/
def Obligations.MonitorsResponsesAndTimers : Prop :=
  (∀ (p : Fin 144) (m : Fin 64) (s : State),
    let late := (s.mon p.val m.val).granted + 256 * s.fld (A.NI_EXCL_CTL p.val) F.NI_EXCL_CTL_LIFE ≤ s.nowOf p.val
    (s.monValid p.val m.val = true → late → exec (.monitorExpire p m) s = .next (s.freeMon p.val m.val)) ∧
    (s.monValid p.val m.val = false ∨ ¬late → exec (.monitorExpire p m) s = .next s) ∧
    (s.monHand p.val m.val = true → (s.mon p.val m.val).handEnd ≤ s.nowOf p.val → ∃ t : State,
      exec (.handoffExpire p m) s = .next t ∧
      t.rd (A.NI_MONITOR_OWN p.val m.val) = resetOf (A.NI_MONITOR_OWN p.val m.val) ∧
      ∀ a, a ≠ A.NI_MONITOR_OWN p.val m.val → a ≠ A.NI_MONITOR_LINE p.val m.val → t.rd a = s.rd a) ∧
    (s.monHand p.val m.val = false ∨ s.nowOf p.val < (s.mon p.val m.val).handEnd →
      exec (.handoffExpire p m) s = .next s) ∧
    (s.monValid p.val m.val = true → s.monNext p.val m.val ≠ noGid → (s.freeMon p.val m.val).monHand p.val m.val = true ∧
      (s.freeMon p.val m.val).monValid p.val m.val = false ∧
      (s.freeMon p.val m.val).monNext p.val m.val = s.monNext p.val m.val ∧
      ((s.freeMon p.val m.val).mon p.val m.val).handEnd = s.nowOf p.val + 20480)) ∧
  (∀ (p : Fin 144) (t : BitVec 12) (s : State) (r : NiReq) (d : Nat), s.req p.val t.toNat = some r → r.retryAt = some d →
    (s.datum < d → exec (.rdxRetry p t) s = .next s) ∧
    (d ≤ s.datum → exec (.rdxRetry p t) s = .next ((s.setReq p.val t.toNat (some { r with retryAt := none })).buildReqs p.val
      [{ pkt := { h := r.hdr }, kind := r.kind, acc := r.acc, qos := r.qos }]))) ∧
  (∀ (p : Fin 144) (s : State),
    (∀ q rest, (s.ni p.val).rxRsp = q :: rest → exec (.responseReceive p) s =
      .next (((s.modNi p.val (fun n => { n with rxRsp := rest })).takeRsp p.val q).pump p.val)) ∧
    (∀ q, (s.ni p.val).rxRsp = [] → ((s.ni p.val).rxMgt).find? mgtResponse = some q → exec (.responseReceive p) s =
      .next (((s.modNi p.val (fun n => { n with rxMgt := n.rxMgt.erase q })).takeRsp p.val q).pump p.val)) ∧
    ((s.ni p.val).rxRsp = [] → ((s.ni p.val).rxMgt).find? mgtResponse = none → exec (.responseReceive p) s = .next s)) ∧
  (∀ (p : Fin 144) (t : Fin 8192) (s : State) (r : NiReq),
    (if t.val < 4096 then s.req p.val t.val else s.bar p.val (t.val - 4096)) = some r →
    (r.start = none ∨ s.datum < r.expire ∨ s.rspHere p.val t.val r = true → exec (.requestTimeout p t) s = .next s) ∧
    (r.start.isSome = true → r.expire ≤ s.datum → s.rspHere p.val t.val r = false → exec (.requestTimeout p t) s =
      .next (((s.quarantine p.val t.val).reqFail p.val r.kind r.hdr Code.TIMEOUT 0).pump p.val))) ∧
  (∀ (p : Fin 144) (t : Fin 8192) (s : State) (d : Nat), tget none (s.ni p.val).quar t.val = some d →
    (s.datum < d → exec (.tagQuarantineEnd p t) s = .next s) ∧
    (d ≤ s.datum → exec (.tagQuarantineEnd p t) s =
      .next ((s.modNi p.val (fun n => { n with quar := tset none n.quar t.val none })).pump p.val))) ∧
  (∀ (p t : Nat) (s : State), tget none ((s.quarantine p t).ni p).quar t =
    some (s.datum + s.fld (A.NI_TIMEOUT p) F.NI_TIMEOUT_QUAR * 1024))

/-! ### Ports, power handshake, descriptor, event lines -/

/-- R286, R288, R289: a command of NI_CTL by anyone but the FMP gets DENY; of the FMP's, every move of the table: ENABLE of a
disabled port with a good descriptor, DISABLE and QUIESCE of an enabled one, DISABLE of a quiesced or isolated one, ISOLATE of one
that is not disabled; RESUME turns DOM_ON on in every state; the command of the present state, and no command, changes nothing
but AUTO_ISO_HANG, which every served write sets; any other move gets TGTERR. -/
def Obligations.PortCommands : Prop :=
  (∀ (p : Fin 144) (r : Req) (s : State), s.mode ≠ Mode.OFF → isFmp r = false →
    exec (.niEnable p r) s = .next (s.ans (A.NI_CTL p.val) r Code.DENY) ∧
    exec (.niDisable p r) s = .next (s.ans (A.NI_CTL p.val) r Code.DENY) ∧
    exec (.niQuiesce p r) s = .next (s.ans (A.NI_CTL p.val) r Code.DENY) ∧
    exec (.niResume p r) s = .next (s.ans (A.NI_CTL p.val) r Code.DENY) ∧
    exec (.niIsolate p r) s = .next (s.ans (A.NI_CTL p.val) r Code.DENY)) ∧
  ∀ (p : Fin 144) (r : Req) (s : State), s.admits (A.NI_CTL p.val) r →
    let a := A.NI_CTL p.val
    let st := s.niState p.val
    let cmd := reqFld r F.NI_CTL_CMD
    let good := s.fld (A.NI_PORT_STATUS p.val) F.NI_PORT_STATUS_DESC_STATE = 2
    let fin := fun (t : State) => (t.setFld a F.NI_CTL_AUTO_ISO_HANG (reqFld r F.NI_CTL_AUTO_ISO_HANG)).ans a r Code.OK
    let no := s.ans a r Code.TGTERR
    (cmd = 0 → exec (.niEnable p r) s = .next (fin s) ∧ exec (.niDisable p r) s = .next (fin s) ∧
      exec (.niQuiesce p r) s = .next (fin s) ∧ exec (.niResume p r) s = .next (fin s) ∧
      exec (.niIsolate p r) s = .next (fin s)) ∧
    (cmd = 1 →
      (st = PortStt.ENABLED → exec (.niEnable p r) s = .next (fin s)) ∧
      (st = PortStt.DISABLED → good → ∃ t : State, exec (.niEnable p r) s = .next (fin t) ∧
        t.niState p.val = PortStt.ENABLED ∧ t.fld a F.NI_CTL_DISABLE_DONE = 0 ∧
        (∀ b, b ≠ a → b ≠ A.NI_DOM p.val → t.rd b = s.rd b) ∧ t.nis = s.nis) ∧
      (st ≠ PortStt.ENABLED → st ≠ PortStt.DISABLED ∨ ¬good → exec (.niEnable p r) s = .next no)) ∧
    (cmd = 2 →
      (st = PortStt.ENABLED → exec (.niDisable p r) s = .next (fin (s.goingDown p.val PortStt.DISABLING))) ∧
      (st = PortStt.DISABLED ∨ st = PortStt.DISABLING → exec (.niDisable p r) s = .next (fin s)) ∧
      (st = PortStt.QUIESCE ∨ st = PortStt.ISOLATED → exec (.niDisable p r) s = .next (fin (s.disabled p.val)))) ∧
    (cmd = 3 →
      (st = PortStt.ENABLED → exec (.niQuiesce p r) s = .next (fin (s.goingDown p.val PortStt.QUIESCE))) ∧
      (st = PortStt.QUIESCE → exec (.niQuiesce p r) s = .next (fin s)) ∧
      (st ≠ PortStt.ENABLED → st ≠ PortStt.QUIESCE → exec (.niQuiesce p r) s = .next no)) ∧
    (cmd = 4 → ∃ t : State, exec (.niResume p r) s = .next (fin t) ∧ t.fld (A.NI_DOM p.val) F.NI_DOM_DOM_ON = 1 ∧
      t.fld (A.NI_DOM p.val) F.NI_DOM_REQ = 1 ∧ ∀ b, b ≠ A.NI_DOM p.val → t.rd b = s.rd b) ∧
    (cmd = 5 →
      (st = PortStt.ENABLED ∨ st = PortStt.QUIESCE ∨ st = PortStt.DISABLING →
        exec (.niIsolate p r) s = .next (fin (s.isolate p.val 1))) ∧
      (st = PortStt.ISOLATED → exec (.niIsolate p r) s = .next (fin s)) ∧
      (st = PortStt.DISABLED → exec (.niIsolate p r) s = .next no)) ∧
    (6 ≤ cmd → exec (.niEnable p r) s = .next (s.ans a r Code.DENY))

/-- R223 to R226, R288, R335, R336: PWR_UP rises at an edge for a DISABLED or ENABLED port whose domain is acknowledged; QACK is
sampled at an edge: with QREQ up and nothing outstanding it shuts the unit's requests off, and a rise that comes otherwise is an
error; the port goes down when the unit has been answered; a late
QACK and a unit that hangs are errors, and the handshake goes on or the item ends; a quiesced port whose domain is asked for and
acknowledged again is ENABLED; the domain's loss isolates an enabled port.
R220 to R222, R219, R297, R299: DESC_GO with the unit up and idle starts a read; beats 0 to 2 are kept, beat 3 writes the
descriptor registers and ends the read; 1,024 pclk without one end it. A change of EVT_RAISE is sampled at an edge. An event
message queued is built once in 16 fclk and leaves for the target of its source. -/
def Obligations.PowerHandshakeDescriptorAndEvents : Prop :=
  (∀ (p : Fin 144) (s : State),
     let a := A.NI_PORT_STATUS p.val
     let st := s.niState p.val
     (s.datum % 2 = 0 → s.pwrUp p.val = false → s.bit (A.NI_DOM p.val) F.NI_DOM_ACK = true →
       st = PortStt.DISABLED ∨ st = PortStt.ENABLED → ∃ t : State, exec (.pwrUpRaise p) s = .next t ∧ t.pwrUp p.val = true ∧
         (t.ni p.val).iqShut = false ∧ ∀ b, b ≠ a → t.rd b = s.rd b) ∧
     (s.pwrUp p.val = true → exec (.pwrUpRaise p) s = .next s) ∧
     (s.datum % 2 ≠ 0 → ∀ level, exec (.pwrQack ⟨p, level⟩) s = .next s) ∧
     (s.datum % 2 = 0 →
       (s.bit a F.NI_PORT_STATUS_QREQ = true → s.tsOut p.val = 0 → exec (.pwrQack ⟨p, true⟩) s =
         .next ((s.setFld a F.NI_PORT_STATUS_QACK 1).modNi p.val (fun n => { n with iqShut := true }))) ∧
       (s.bit a F.NI_PORT_STATUS_QREQ = false → s.bit a F.NI_PORT_STATUS_QACK = false → exec (.pwrQack ⟨p, true⟩) s =
         .next ((s.setFld a F.NI_PORT_STATUS_QACK 1).portErr p.val 10 0)) ∧
       exec (.pwrQack ⟨p, false⟩) s = .next (s.setFld a F.NI_PORT_STATUS_QACK 0)) ∧
     (s.datum % 2 = 0 → s.bit a F.NI_PORT_STATUS_QREQ = true → (s.ni p.val).iqShut = true → s.unitDone p.val = true →
       let u := s.powerOff p.val
       u.pwrUp p.val = false ∧
       (st = PortStt.QUIESCE → exec (.portDown p) s = .next (u.downOk p.val)) ∧
       (st = PortStt.DISABLING → exec (.portDown p) s = .next (u.disabled p.val))) ∧
     (∀ d, (s.ni p.val).qreqAt = some d → (s.ni p.val).iqShut = false →
       d + 2048 * s.fld (A.NI_PORT_CTL p.val) F.NI_PORT_CTL_QACK_LIMIT ≤ s.datum → s.datum % 2 = 0 →
       exec (.qackLate p) s = .next (((s.portErr p.val 11 0).niCause p.val 2).proceedLate p.val)) ∧
     (∀ (t : BitVec 8) (x : TOut), tget none (s.ni p.val).tout t.toNat = some x →
       (s.datum < x.at' + 128 * s.fld (A.NI_PORT_CTL p.val) F.NI_PORT_CTL_TS_LIMIT → exec (.unitHang p t) s = .next s) ∧
       (x.at' + 128 * s.fld (A.NI_PORT_CTL p.val) F.NI_PORT_CTL_TS_LIMIT ≤ s.datum →
         let u := (s.portErr p.val 9 t.toNat).niCause p.val 1
         (u.bit (A.NI_CTL p.val) F.NI_CTL_AUTO_ISO_HANG = true → u.niState p.val = PortStt.ENABLED →
           exec (.unitHang p t) s = .next (u.isolate p.val 3)) ∧
         (u.bit (A.NI_CTL p.val) F.NI_CTL_AUTO_ISO_HANG = false → x.item.kind = 4 ∨ x.item.kind = 5 →
           exec (.unitHang p t) s = .next (u.endItem p.val t.toNat x.item Code.TIMEOUT 0)))) ∧
     (st = PortStt.QUIESCE → s.bit (A.NI_CTL p.val) F.NI_CTL_PWR_DOWN_OK = true →
       s.bit (A.NI_DOM p.val) F.NI_DOM_REQ = true → s.bit (A.NI_DOM p.val) F.NI_DOM_ACK = true → ∃ t : State,
       exec (.domainReturn p) s = .next t ∧ t.niState p.val = PortStt.ENABLED ∧
       t.fld (A.NI_CTL p.val) F.NI_CTL_PWR_DOWN_OK = 0) ∧
     (∃ t : State, exec (.pdAckRise p) s = .next t ∧ t.fld (A.NI_DOM p.val) F.NI_DOM_ACK = 1 ∧
       ∀ b, b ≠ A.NI_DOM p.val → t.rd b = s.rd b) ∧
     (s.bit (A.NI_DOM p.val) F.NI_DOM_ACK = true → s.bit (A.NI_DOM p.val) F.NI_DOM_REQ = false →
       exec (.pdAckFall p) s = .next (s.setFld (A.NI_DOM p.val) F.NI_DOM_ACK 0)) ∧
     (s.bit (A.NI_DOM p.val) F.NI_DOM_ACK = true → s.bit (A.NI_DOM p.val) F.NI_DOM_REQ = true →
       st = PortStt.ENABLED ∨ st = PortStt.DISABLING → exec (.pdAckFall p) s =
         .next ((((s.setFld (A.NI_DOM p.val) F.NI_DOM_ACK 0).sat (A.NI_DOM p.val) F.NI_DOM_LOSSES).isolate p.val 4).niCause
           p.val 7))) ∧
  ((∀ (p : Fin 144) (r : Req) (s : State), s.admits (A.NI_PORT_CTL p.val) r → reqFld r F.NI_PORT_CTL_DESC_GO = 1 →
     reqFld r F.NI_PORT_CTL_QACK_LIMIT ≠ 0 → reqFld r F.NI_PORT_CTL_TS_LIMIT ≠ 0 → 1 ≤ reqFld r F.NI_PORT_CTL_MAX_OUT →
     reqFld r F.NI_PORT_CTL_MAX_OUT ≤ 256 →
     let w := s.plainWrite (A.NI_PORT_CTL p.val) { r with data := F.NI_PORT_CTL_DESC_GO.put r.data 0 }
     w.2 = Code.OK →
     (isFmp r = true → s.pwrUp p.val = true → (s.ni p.val).desc = none → s.tsOut p.val = 0 → (s.ni p.val).tqBeat = 0 →
       ∃ t : State, exec (.descGo p r) s = .next (t.ans (A.NI_PORT_CTL p.val) r Code.OK) ∧
         (t.ni p.val).desc = some (0, roundUp (s.datum + 1) 2) ∧ (t.ni p.val).descBuf = [] ∧
         t.fld (A.NI_PORT_STATUS p.val) F.NI_PORT_STATUS_DESC_STATE = 1) ∧
     (isFmp r = false ∨ s.pwrUp p.val = false ∨ (s.ni p.val).desc.isSome = true →
       exec (.descGo p r) s = .next (s.ans (A.NI_PORT_CTL p.val) r Code.DENY))) ∧
   (∀ (p : Fin 144) (d : BitVec 512) (s : State) (j at' : Nat), s.datum % 2 = 0 → s.pwrUp p.val = true →
     (s.ni p.val).desc = some (j, at') → at' < s.datum →
     (j < 3 → ∃ t : State, exec (.descBeat p d false) s = .next t ∧ (t.ni p.val).desc = some (j + 1, s.datum + 4) ∧
       (t.ni p.val).descBuf = (s.ni p.val).descBuf ++ [d] ∧ t.regs = s.regs) ∧
     (3 ≤ j →
       let b := descBytes ((s.ni p.val).descBuf ++ [d])
       exec (.descBeat p d false) s = .next (((List.range 32).foldl (fun s k => s.wr (A.NI_DESC p.val k)
         (BitVec.ofNat 64 (bytesNat ((b.drop (8 * k)).take 8)))) s).descEnd p.val (descFail b)))) ∧
   (∀ (p : Fin 144) (s : State) (j at' : Nat), (s.ni p.val).desc = some (j, at') →
     (s.datum < at' + 2048 → exec (.descTimeout p) s = .next s) ∧
     (at' + 2048 ≤ s.datum → exec (.descTimeout p) s = .next (s.descEnd p.val 1))) ∧
   (∀ (p : Fin 144) (v : BitVec 4) (s : State),
     (s.datum % 2 ≠ 0 ∨ s.pwrUp p.val = false → exec (.evtRaiseChange p v) s = .next s) ∧
     (s.datum % 2 = 0 → s.pwrUp p.val = true → ∃ t : State, exec (.evtRaiseChange p v) s = .next t ∧ (t.ni p.val).evtRaise = v ∧
       ∀ q, q ≠ p.val → t.ni q = s.ni q)) ∧
   (∀ (s : State) (i at' : Nat) (rest : List (Nat × Nat)), s.glb.evmQ = (i, at') :: rest →
     ((∃ d, s.glb.evmAt = some d ∧ s.datum < d + 16) → exec .evmBuild s = .next s) ∧
     ((∀ d, s.glb.evmAt = some d → d + 16 ≤ s.datum) →
       let seq := s.fld A.EVT_STATUS F.EVT_STATUS_EVM_SEQ
       let u := ({ s with glb := { s.glb with
         evmQ := rest
         evmAt := some s.datum } }.setFld A.EVT_STATUS F.EVT_STATUS_EVM_QUEUE rest.length).wrap A.EVT_STATUS
           F.EVT_STATUS_EVM_SEQ
       let v := if u.fld (A.EVT_SRC_CFG i) F.EVT_SRC_CFG_MODE = 1 ∨ u.srcLevel i = false then u.setPend i false else u
       exec .evmBuild s = .next ((v.gcnt 12).glbSend
         { dest := BitVec.ofNat 18 (v.fld (A.EVT_SRC_CFG i) F.EVT_SRC_CFG_TARGET), cmd := Cmd.EVM, cls := 6, bcount := 32
           address := BitVec.ofNat 64 i }
         [BitVec.ofNat 256 (i + seq * 2 ^ 16 + at' % 2 ^ 64 * 2 ^ 64 + (v.causeWord i).toNat * 2 ^ 128)]))))

/-! ### Mailboxes -/

/-- R233, R234, R236, R238: a message that its channel takes stands last in it, with its sender, privilege, sequence number and
datum; one that is refused leaves the channel as it was. A disabled channel, a wrong sender or too low a privilege gives DENY, a
full one TGTERR. A POP removes the first message; one that comes with a message in the same mclk acts before it. R228: one message
and one access are served in an mclk, and what finds its mclk used waits.
R229, R238, R241: an acceptable configuration is written, and a channel it disables is empty; one that is not acceptable
gets DENY; the arrival of a landed message is raised when its receiver is up; a declared pair that stays full for 4,096 mclk
is marked crossing at both channels, unless a POP is served in that mclk. -/
def Obligations.MailboxFifoAndConfiguration : Prop :=
  ((∀ (s : State) (q : Pkt), s.glb.rx.find? (fun q => q.h.cmd = Cmd.MSG) = some q →
     let u := { s with glb := { s.glb with rx := s.glb.rx.erase q, mbxMsgAt := some (mclkNo s.datum) } }
     let x := q.h.address.toNat
     let bad := x % 64 ≠ 0 ∨ 2 ^ 13 ≤ x ∨ q.h.bcount ≠ 64 ∨ q.h.len ≠ 2 ∨ q.h.clean = false
     let ans := fun (t : State) (c : BitVec 4) => (t.glbSend { dest := q.h.src, cmd := Cmd.MSR, cls := q.h.cls, tag := q.h.tag,
                                                               region := q.h.region, status := c, bcount := q.h.bcount,
                                                               address := q.h.address } []).glbBars
     (s.msgFree = false → exec .msgReceive s = .next s) ∧
     (s.msgFree = true →
       (bad → exec .msgReceive s = .next (ans (u.gcnt 8) Code.TGTERR)) ∧
       (¬bad →
         let w := (u.popFirst (x / 64)).mbxLand (x / 64) q.h.src (effPriv q.h.src q.h.priv) (BitVec.ofNat 512 (bytesNat q.bytes))
         exec .msgReceive s = .next (ans w.1 w.2)))) ∧
   (∀ (n : Nat) (src : Gid) (priv : Nat) (data : BitVec 512) (s : State),
     (16 ≤ n ∨ n % 2 = 1 → s.mbxLand n src priv data = s.mbxPut n src priv data) ∧
     ((s.mbxLand n src priv data).2 = (s.mbxPut n src priv data).2)) ∧
   (∀ (n : Fin 128) (src : Gid) (priv : Nat) (data : BitVec 512) (s : State),
     let w := s.mbxPut n.val src priv data
     w.2 = (s.mbxJudge n.val src priv).1 ∧
     (w.2 = Code.OK → w.1.msgs n.val = s.msgs n.val ++ [{
       src := src
       priv := priv
       arrival := s.datum
       seq := s.fld (A.MBX_CH_STATUS n.val) F.MBX_CH_STATUS_SEQ_IN
       data := data }]) ∧
     (w.2 ≠ Code.OK → w.1.mbx = s.mbx) ∧
     (∀ m, m ≠ n.val → w.1.msgs m = s.msgs m) ∧
     (s.chBit n.val F.MBX_CH_CFG_ENABLE = false → w.2 = Code.DENY) ∧
     (s.chBit n.val F.MBX_CH_CFG_ENABLE = true → priv < s.fld (A.MBX_CH_CFG n.val) F.MBX_CH_CFG_MIN_PRIV →
       w.2 = Code.DENY) ∧
     (s.chBit n.val F.MBX_CH_CFG_ENABLE = true → s.chBit n.val F.MBX_CH_CFG_ANY = true →
       s.fld (A.MBX_CH_CFG n.val) F.MBX_CH_CFG_MIN_PRIV ≤ priv → s.rcvPort n.val = 240 →
       w.2 = if 4 ≤ (s.msgs n.val).length then Code.TGTERR else Code.OK)) ∧
   (∀ (n : Fin 128) (r : Req) (s : State), s.admits (A.MBX_CH_CTL n.val) r → s.mbxTurn →
     (reqFld r F.MBX_CH_CTL_POP = 1 → ∃ t : State, exec (.mailboxPop n r) s = .next (t.ans (A.MBX_CH_CTL n.val) r Code.OK) ∧
       t.msgs n.val = (s.msgs n.val).tail ∧ ∀ m, m ≠ n.val → t.msgs m = s.msgs m) ∧
     (reqFld r F.MBX_CH_CTL_POP = 0 → exec (.mailboxPop n r) s =
       .next (s.accUsed.ans (A.MBX_CH_CTL n.val) r Code.OK))) ∧
   (∀ (n : Fin 128) (r : Req) (s : State), s.glb.mbxSkip = 0 → s.accFree = false →
     exec (.mailboxPop n r) s = .next s ∧ exec (.mbxCfgWrite n r) s = .next s)) ∧
  ((∀ (n : Fin 128) (r : Req) (s : State), s.admits (A.MBX_CH_CFG n.val) r → s.mbxTurn →
     (s.mbxCfgOk n.val r.data = false → exec (.mbxCfgWrite n r) s =
       .next (s.accUsed.ans (A.MBX_CH_CFG n.val) r Code.DENY)) ∧
     (s.mbxCfgOk n.val r.data = true → ∃ t : State, exec (.mbxCfgWrite n r) s = .next (t.ans (A.MBX_CH_CFG n.val) r Code.OK) ∧
       (s.chBit n.val F.MBX_CH_CFG_ENABLE = true → reqFld r F.MBX_CH_CFG_ENABLE = 0 → t.msgs n.val = []) ∧
       (s.chBit n.val F.MBX_CH_CFG_ENABLE = false ∨ reqFld r F.MBX_CH_CFG_ENABLE = 1 → t.msgs n.val = s.msgs n.val))) ∧
   (∀ (n : Fin 128) (s : State), s.chBit n.val F.MBX_CH_CFG_ENABLE = true →
     (∀ v, F.MBX_CH_CFG_ENABLE.get v = 1 → F.MBX_CH_CFG_SENDER.get v ≠ s.fld (A.MBX_CH_CFG n.val) F.MBX_CH_CFG_SENDER →
       s.mbxCfgOk n.val v = false)) ∧
   (∀ (n : Fin 128) (s : State),
     (s.bit (A.MBX_CH_STATUS n.val) F.MBX_CH_STATUS_LANDED = true → s.rcvDown n.val = false → exec (.mailboxWake n) s =
       .next ((((s.setFld (A.MBX_CH_STATUS n.val) F.MBX_CH_STATUS_LANDED 0).setFld (A.MBX_CH_STATUS n.val)
         F.MBX_CH_STATUS_WAKE_PEND 0).domRefresh (s.rcvPort n.val)).raise (576 + n.val))) ∧
     (s.bit (A.MBX_CH_STATUS n.val) F.MBX_CH_STATUS_LANDED = false ∨ s.rcvDown n.val = true →
       exec (.mailboxWake n) s = .next s)) ∧
   (∀ (n : Fin 128) (s : State) (m d : Nat), s.pairOf n.val = some m → tget none s.glb.cross (min n.val m) = some d →
     (mclkNo s.datum < mclkNo d + 4096 ∨ s.popCounts n.val = true ∨ s.popCounts m = true →
       exec (.mailboxCross n) s = .next s) ∧
     (mclkNo d + 4096 ≤ mclkNo s.datum → s.popCounts n.val = false → s.popCounts m = false → ∃ t : State, exec (.mailboxCross n) s = .next t ∧
       t.bit (A.MBX_CH_STATUS n.val) F.MBX_CH_STATUS_CROSS = true ∧ t.bit (A.MBX_CH_STATUS m) F.MBX_CH_STATUS_CROSS = true ∧
       t.mbx = s.mbx ∧ tget none t.glb.cross (min n.val m) = some s.datum)))

/-! ### FAST commands to the FMP -/

/-- R254, R256, R257 to R261, R269 to R271, R273: the FAST commands that report: taken by the FMP, each is answered in the same
step with the words its row names, read from the state in which it was taken.
R254, R256, R259, R260, R264, R269, R270: the FAST commands that act: taken by the FMP with arguments that pass their checks,
each has its effect and is answered OK in the same step; arguments that fail them are answered BADARG, or with the detail the
command's row names, and change nothing else. -/
def Obligations.FastCommandsReportAndAct : Prop :=
  (∀ (k : Fin 8) (m : Msg) (s : State),
     let u := s.fmpPop k.val
     let w := msgWord m.data 1
     let ans := fun (t : State) (ws : List Nat) => t.reply k.val m.data 0 (.ok ws)
     let bad := fun (t : State) => t.reply k.val m.data 0 (.badArg)
     (s.takes k.val 0x00 m → exec (.nop k) s = .next (ans u ((List.range 7).map (fun j => msgWord m.data (j + 1))))) ∧
     (s.takes k.val 0x01 m → exec (.info k) s = .next (ans u [0x0302 + u.fld A.GLB_FMP_STATUS F.GLB_FMP_STATUS_FW_VERSION *
       2 ^ 32, u.mode + u.fmp.tickets.length * 2 ^ 8 + (u.fmp.tickets.filter (fun t => t.pair = k.val)).length * 2 ^ 16])) ∧
     (s.takes k.val 0x02 m →
       (u.ownTkt k.val m = none → exec (.ticketStatus k) s = .next (u.reply k.val m.data 0 .unknownTicket)) ∧
       (∀ t, u.ownTkt k.val m = some t →
         exec (.ticketStatus k) s = .next ((u.tktReport t).1.reply k.val m.data 0 (u.tktReport t).2))) ∧
     (s.takes k.val 0x0D m →
       (144 ≤ w % 256 → exec (.portStatus k) s = .next (bad u)) ∧
       (w % 256 < 144 → exec (.portStatus k) s = .next (ans u [u.niState (w % 256) % 4 + u.fld (A.NI_ENUM (w % 256))
         F.NI_ENUM_PRIV * 2 ^ 4 + u.fld (A.NI_PORT_STATUS (w % 256)) F.NI_PORT_STATUS_DESC_STATE * 2 ^ 8,
         u.desc (w % 256) 0x10 8]))) ∧
     (s.takes k.val 0x12 m →
       exec (.routeRead k) s = .next (ans u [(u.routeAt (w % 4) (bitsOf w 8 8) (bitsOf w 16 8)).toNat])) ∧
     (s.takes k.val 0x1C m →
       (u.chainSrc w = none → exec (.chainInfo k) s = .next (bad u)) ∧
       (∀ x, u.chainSrc w = some x → u.chainDsts w = [] →
         exec (.chainInfo k) s = .next (ans u [x.b + x.k * 2 ^ 8, 0]))) ∧
     (s.takes k.val 0x20 m → exec (.stakeInfo k) s = .next (ans u [(u.rd (A.STK_SET_STATUS w)).toNat, u.firstFault w +
       (if u.firstFault w = 0xFF then 0 else u.setF (u.firstFault w) w F.NI_STK_SET_FAULT_CODE) * 2 ^ 8])) ∧
     (s.takes k.val 0x2A m →
       (144 ≤ w % 256 → exec (.domainStatus k) s = .next (bad u)) ∧
       (w % 256 < 144 → exec (.domainStatus k) s = .next (ans u [
         (if u.bit (A.NI_DOM (w % 256)) F.NI_DOM_ACK then 1 else 0) + (if u.niState (w % 256) = PortStt.QUIESCE then 2 else 0) +
         (if u.wakePending (w % 256) then 4 else 0)]))) ∧
     (s.takes k.val 0x39 m → exec (.thermalRead k) s = .next (ans u [u.fld A.THM_STATUS F.THM_STATUS_HOTTEST +
       degC (signed12 (u.fld A.THM_STATUS F.THM_STATUS_HOT_READING)) * 2 ^ 8, u.suspects,
       u.fld A.THM_STATUS F.THM_STATUS_LEVEL])) ∧
     (s.takes k.val 0x43 m →
       (36 ≤ w % 64 ∨ 5 < bitsOf w 6 3 → exec (.linkInfo k) s = .next (bad u)) ∧
       (w % 64 < 36 → bitsOf w 6 3 ≤ 5 →
         exec (.linkInfo k) s = .next (ans u [(u.rd (A.STN_LINK (w % 64) (bitsOf w 6 3))).toNat]))) ∧
     (s.takes k.val 0x4A m → exec (.fwInfo k) s = .next (ans u [u.fld A.GLB_FMP_STATUS F.GLB_FMP_STATUS_FW_VERSION,
       u.imgVersion u.otherSlot, u.fld A.GLB_FMP_STATUS F.GLB_FMP_STATUS_SLOT_RUN])) ∧
     (s.takes k.val 0x50 m → ∀ a b, u.fmp.jrecs.head? = some a → u.fmp.jrecs.getLast? = some b →
       exec (.journalInfo k) s = .next (ans u [a.2, b.2, u.fmp.jover]))) ∧
  (∀ (k : Fin 8) (m : Msg) (s : State),
     let u := s.fmpPop k.val
     let w := msgWord m.data 1
     let ok := fun (t : State) (ws : List Nat) => t.reply k.val m.data 0 (.ok ws)
     let no := fun (a : Ans) => u.reply k.val m.data 0 a
     (s.takes k.val 0x03 m →
       (u.ownTkt k.val m = none → exec (.ticketCancel k) s = .next (no .unknownTicket)) ∧
       (∀ t, u.ownTkt k.val m = some t →
         (u.mayCancel t = true → exec (.ticketCancel k) s =
           .next (ok (((u.undo t).orphan t).endTkt t .cancelled) [])) ∧
         (u.mayCancel t = false → exec (.ticketCancel k) s = .next (no .noCancel)))) ∧
     (s.takes k.val 0x05 m →
       (∀ t, u.regSet (w % 256) (bitsOf w 8 8) (BitVec.ofNat 64 (msgWord m.data 2)) = some t →
         exec (.regSet k) s = .next (ok t [])) ∧
       (u.regSet (w % 256) (bitsOf w 8 8) (BitVec.ofNat 64 (msgWord m.data 2)) = none →
         exec (.regSet k) s = .next (no (.badArg)))) ∧
     (s.takes k.val 0x06 m →
       (16 ≤ w % 128 → w.testBit 15 = false → msgWord m.data 3 = 0 →
         F.MBX_CH_CFG_PAIR_VALID.get (BitVec.ofNat 64 (msgWord m.data 2)) ≠ 1 →
         u.mbxCfgOk (w % 128) (BitVec.ofNat 64 (msgWord m.data 2)) = true →
         exec (.mbxConfig k) s = .next (ok (u.fmpMbxCfg (w % 128) (BitVec.ofNat 64 (msgWord m.data 2))) [])) ∧
       (w % 128 < 16 → exec (.mbxConfig k) s = .next (no (.badArg)))) ∧
     (s.takes k.val 0x07 m → u.lockHeld (w % 256) = true → exec (.lockForce k) s =
       .next (ok ((u.lockFree (w % 256)).sat A.LCK_STATUS F.LCK_STATUS_FORCED) [u.lockOwner (w % 256)])) ∧
     (s.takes k.val 0x0C m →
       (w % 256 < 144 → u.niState (w % 256) = PortStt.ENABLED →
         exec (.portIsolate k) s = .next (ok (u.isolate (w % 256) 1) [])) ∧
       (144 ≤ w % 256 ∨ u.niState (w % 256) = PortStt.DISABLED → exec (.portIsolate k) s = .next (no (.badArg)))) ∧
     (s.takes k.val 0x17 m →
       (bitsOf w 10 4 < 12 → w.testBit 14 = false ∨ w % 1024 ≠ u.instance' → exec (.fedMap k) s =
         .next (ok ((u.setFld (A.GLB_FED_MAP (w % 1024)) F.GLB_FED_MAP_PORT (bitsOf w 10 4)).setFld (A.GLB_FED_MAP (w % 1024))
           F.GLB_FED_MAP_VALID (if w.testBit 14 then 1 else 0)) [])) ∧
       (bitsOf w 10 4 = 12 → exec (.fedMap k) s = .next (no (.badArg)))) ∧
     (s.takes k.val 0x1A m → w % 64 < 36 → bitsOf w 6 4 < 11 →
       bitsOf w 10 10 < u.bankLen (w % 64) (bitsOf w 6 4) (u.platBank (w % 64) (bitsOf w 6 4)) →
       u.patchCheck (w % 64) (bitsOf w 6 4) (bitsOf w 10 10) (bitsOf w 20 16) = none →
       let x := u.tryPatch (w % 64) (patchWord (bitsOf w 6 4) (bitsOf w 10 10) (bitsOf w 20 16))
       (x.2 = true → exec (.platPatch k) s = .next (ok x.1 [(x.1.rd (A.STN_PLAT_PATCH_TIME (w % 64))).toNat])) ∧
       (x.2 = false → x.1 = u ∧ exec (.platPatch k) s = .next (no (.conflict 0)))) ∧
     (s.takes k.val 0x22 m →
       (u.setSt w = SetSt.OPEN ∨ u.setSt w = SetSt.CLOSING ∨ u.setSt w = SetSt.WAITING →
         exec (.stakeAbort k) s = .next (ok (u.abortSet w 1) [])) ∧
       (u.setSt w = SetSt.IDLE ∨ SetSt.COMMITTED ≤ u.setSt w → exec (.stakeAbort k) s = .next (no .setState))) ∧
     (s.takes k.val 0x32 m → w < 180 → probeOk w (BitVec.ofNat 64 (msgWord m.data 2)) (BitVec.ofNat 64 (msgWord m.data 3)) =
         true → valueOk (probeRegs w).1 (BitVec.ofNat 64 (msgWord m.data 2)) = true →
       valueOk (probeRegs w).2.1 (BitVec.ofNat 64 (msgWord m.data 3)) = true →
       exec (.probeSet k) s = .next (ok (((u.wr (probeRegs w).1 (BitVec.ofNat 64 (msgWord m.data 2))).wr (probeRegs w).2.1
         (BitVec.ofNat 64 (msgWord m.data 3))).probeRestart w) [])) ∧
     (s.takes k.val 0x33 m → w < 144 → valueOk (A.NI_TAG_CTL w) (BitVec.ofNat 64 (msgWord m.data 2)) = true →
       (u.writeTagCtl w (u.fmpReq (BitVec.ofNat 64 (msgWord m.data 2)))).2 = Code.OK →
       exec (.tagSet k) s = .next (ok (u.writeTagCtl w (u.fmpReq (BitVec.ofNat 64 (msgWord m.data 2)))).1 [])) ∧
     (s.takes k.val 0x35 m →
       (permOf w = none → exec (.counterPerm k) s = .next (no (.badArg))) ∧
       (∀ a n, permOf w = some (a, n) → msgWord m.data 2 < 2 ^ n →
         exec (.counterPerm k) s = .next (ok (u.wr a (BitVec.ofNat 64 (msgWord m.data 2))) []))) ∧
     (s.takes k.val 0x38 m →
       (thmCfgOk (BitVec.ofNat 64 w) = true → exec (.thermalPolicy k) s = .next (ok (u.setThmCfg (BitVec.ofNat 64 w)) [])) ∧
       (thmCfgOk (BitVec.ofNat 64 w) = false → exec (.thermalPolicy k) s = .next (no (.badArg)))) ∧
     (s.takes k.val 0x3A m →
       (w % 64 < 36 → exec (.powerPolicy k) s = .next (ok (u.powerPolicy (w % 64) (bitsOf w 8 2)) [])) ∧
       (36 ≤ w % 64 → w % 64 ≠ 63 → exec (.powerPolicy k) s = .next (no (.badArg)))))

/-! ### SLOW commands to the FMP -/

/-- R255, R274: a SLOW command that is taken, whose arguments pass its checks (BADARG, NOTPREPARED, DRAINING, MODE or NOTICKET
otherwise, as its row says) and that meets no limit and no conflict, gets a ticket and its REPLY OK.
R256: with at most 64 tickets held, 16 of a pair, a place for one more leaves at most 63 and 15; the new ticket's number is
1 to 255 and no held ticket has it; the ticket then stands last among the tickets. With no place for it the command is answered
NOTICKET; a conflict is answered with the number of the ticket that holds what it needs. -/
def Obligations.SlowCommandsAndTicketLimits : Prop :=
  (∀ (k : Fin 8) (m : Msg) (s : State),
     let u := s.fmpPop k.val
     let w := msgWord m.data 1
     let go := fun (c : Instr) (op : Nat) => exec c s = .next (u.ticketed k.val op m)
     let no := fun (c : Instr) (a : Ans) => exec c s = .next (u.reply k.val m.data 0 a)
     u.grants k.val m →
     (s.takes k.val 0x04 m → (u.modeOk w = true → go (.modeSet k) 0x04) ∧ (u.modeOk w = false → no (.modeSet k) .mode)) ∧
     (s.takes k.val 0x08 m → (bufOk m.data = true → go (.mapLoad k) 0x08) ∧
       (bufOk m.data = false → no (.mapLoad k) (.badArg))) ∧
     (s.takes k.val 0x09 m → (w.testBit 0 = true ∨ u.bankFilled = true → go (.enumerate k) 0x09) ∧
       (w.testBit 0 = false → u.bankFilled = false → no (.enumerate k) .notPrepared)) ∧
     (s.takes k.val 0x0A m → (w % 256 < 144 → go (.portEnable k) 0x0A) ∧ (144 ≤ w % 256 → no (.portEnable k) (.badArg))) ∧
     (s.takes k.val 0x0B m → (w % 256 < 144 → go (.portDisable k) 0x0B) ∧ (144 ≤ w % 256 → no (.portDisable k) (.badArg))) ∧
     (s.takes k.val 0x10 m → bufOk m.data = true → (u.fmp.drain = none → go (.routePrepare k) 0x10) ∧
       (u.fmp.drain.isSome = true → no (.routePrepare k) .draining)) ∧
     (s.takes k.val 0x11 m → bufOk m.data = true → (u.writable w = true → go (.routeWrite k) 0x11) ∧
       (u.writable w = false → no (.routeWrite k) .notPrepared)) ∧
     (s.takes k.val 0x13 m → (msgWord m.data 3 < 2048 ∨ setArgOk m = false → no (.routeSwitch k) (.badArg)) ∧
       (2048 ≤ msgWord m.data 3 → setArgOk m = true → u.setArgChk m = none →
         (u.fmp.drain.isSome = true → no (.routeSwitch k) .draining) ∧
         (u.fmp.drain = none → u.fmp.prep.map (·.1) = some (w % 4) → go (.routeSwitch k) 0x13) ∧
         (u.fmp.drain = none → u.fmp.prep.map (·.1) ≠ some (w % 4) → no (.routeSwitch k) .notPrepared))) ∧
     (s.takes k.val 0x14 m → go (.routeDrain k) 0x14) ∧
     (s.takes k.val 0x15 m → (u.fmp.drain = none → go (.routeFinish k) 0x15) ∧
       (∀ c d, u.fmp.drain = some (c, d) → (u.drainDone c = true ∨ w.testBit 0 = true → go (.routeFinish k) 0x15) ∧
         (u.drainDone c = false → w.testBit 0 = false → no (.routeFinish k) .draining))) ∧
     (s.takes k.val 0x16 m → (w < 144 → bufOk m.data = true → go (.routeCacheLoad k) 0x16) ∧
       (144 ≤ w → no (.routeCacheLoad k) (.badArg))) ∧
     (s.takes k.val 0x18 m → bufOk m.data = true → go (.platStage k) 0x18) ∧
     (s.takes k.val 0x19 m → setArgOk m = true → u.setArgChk m = none → (u.staged = true → go (.platSwap k) 0x19) ∧
       (u.staged = false → no (.platSwap k) .notPrepared)) ∧
     (s.takes k.val 0x1B m → w % 64 < 36 → bitsOf w 6 4 < 11 → bufOk m.data = true → 2048 ≤ bufLen m.data →
       go (.platRead k) 0x1B) ∧
     (s.takes k.val 0x1D m → (u.chainSrc w = none → no (.chainProbe k) (.badArg)) ∧
       (∀ x, u.chainSrc w = some x → x.b < 144 → go (.chainProbe k) 0x1D)) ∧
     (s.takes k.val 0x21 m → setArg m.data < 8 → bufOk m.data = true → u.setArgChk m = none → go (.stateConfig k) 0x21) ∧
     (s.takes k.val 0x28 m → w % 256 < 144 → go (.domainDown k) 0x28) ∧
     (s.takes k.val 0x29 m → w % 256 < 144 → go (.domainUp k) 0x29) ∧
     (s.takes k.val 0x30 m → go (.surveyTake k) 0x30) ∧
     (s.takes k.val 0x31 m → bufOk m.data = true → 1 ≤ msgWord m.data 2 → w + msgWord m.data 2 ≤ 4960 →
       go (.surveyRead k) 0x31) ∧
     (s.takes k.val 0x34 m → bufOk m.data = true → w % 64 = 0 → w < 0x400000 → go (.traceRead k) 0x34) ∧
     (s.takes k.val 0x40 m → 1 ≤ w % 16 → w % 16 ≤ 4 → bitsOf w 4 6 < 36 → bitsOf w 10 3 ≤ 5 →
       (u.queuedTests < 16 → go (.testRequest k) 0x40) ∧ (16 ≤ u.queuedTests → no (.testRequest k) .noTicket)) ∧
     (s.takes k.val 0x41 m → stnArg m u = none → go (.stationVacate k) 0x41) ∧
     (s.takes k.val 0x42 m → stnArg m u = none → go (.stationReturn k) 0x42) ∧
     (s.takes k.val 0x44 m → (w < 36 ∨ w = 63 → go (.marginReplan k) 0x44) ∧
       (36 ≤ w → w ≠ 63 → no (.marginReplan k) (.badArg))) ∧
     (s.takes k.val 0x48 m → bufOk m.data = true → bufLen m.data ≤ 524288 → go (.fwLoad k) 0x48) ∧
     (s.takes k.val 0x49 m → msgWord m.data 3 = 0 ∨ 2048 ≤ msgWord m.data 3 →
       (∀ i, tget none u.fmp.images u.otherSlot = some i → i.verified = true → go (.fwHandover k) 0x49) ∧
       (tget none u.fmp.images u.otherSlot = none → no (.fwHandover k) .notPrepared)) ∧
     (s.takes k.val 0x51 m → bufOk m.data = true → u.recsFrom w ≠ [] → msgWord m.data 2 ≤ (u.recsFrom w).length →
       go (.journalRead k) 0x51)) ∧
  ((∀ (s u : State) (k : Nat), s.ticketRoom k = some u → s.fmp.tickets.length ≤ 64 →
     (s.fmp.tickets.filter (fun t => t.pair = k)).length ≤ 16 →
     u.fmp.tickets.length ≤ 63 ∧ (u.fmp.tickets.filter (fun t => t.pair = k)).length ≤ 15 ∧
     (∀ t ∈ s.fmp.tickets, t.quiet = false ∨ t.st ≠ 2 → t ∈ u.fmp.tickets)) ∧
   (∀ s : State, s.fmp.tickets.length ≤ 64 → 1 ≤ s.nextTicket ∧ s.nextTicket ≤ 255 ∧
     ∀ t ∈ s.fmp.tickets, t.num ≠ s.nextTicket) ∧
   (∀ (s u : State) (k op : Nat) (m : Msg), s.ticketRoom k = some u →
     (s.ticketed k op m).fmp.tickets = u.fmp.tickets ++ [{ u.newTicket k op m with at' := s.datum }] ∧
     (s.ticketed k op m).fmp.lastTicket = u.nextTicket) ∧
   (∀ (k : Fin 8) (m : Msg) (s : State), s.takes k.val 0x14 m →
     ((s.fmpPop k.val).ticketRoom k.val = none →
       exec (.routeDrain k) s = .next ((s.fmpPop k.val).reply k.val m.data 0 .noTicket)) ∧
     (∀ u t, (s.fmpPop k.val).ticketRoom k.val = some u → (s.fmpPop k.val).conflict m.data = some t →
       exec (.routeDrain k) s = .next ((s.fmpPop k.val).reply k.val m.data 0 (.conflict t)))))

/-- R247, R249, R255, R276 to R278: a ticket's work goes on by one stage while the FMP serves, and a stage counts as activity;
held replies are offered again; 131,072 fclk without activity while serving halt the FMP; a new image that serves in time keeps
the block, and one that does not is replaced by the one before it. -/
def Obligations.FmpProgress : Prop :=
  (∀ (n : Fin 256) (w : SlowEnd) (s : State) (t : Tkt), s.working.find? (fun x => x.num = n.val) = some t →
    s.fwState = Fw.SERVING →
    (t.stage ≠ 9 → exec (.slowCommandCompletion n w) s = .next ((s.work t w).beat)) ∧
    (t.stage = 9 → exec (.slowCommandCompletion n w) s = .next ((s.endTkt t (testAns t.aux)).beat))) ∧
  (∀ (n : Fin 256) (w : SlowEnd) (s : State), s.working.find? (fun x => x.num = n.val) = none →
    exec (.slowCommandCompletion n w) s = .next s) ∧
  (∀ (s : State) (t : Tkt) (w : SlowEnd), t.out = false → t.op = 0x04 → s.modeOk (msgWord t.cmd 1) = true → msgWord t.cmd 1 ≠ Mode.RUN →
    msgWord t.cmd 1 ≠ Mode.DIAGNOSE → s.work t w = (s.toMode (msgWord t.cmd 1)).endTkt t
      (.ok [(s.toMode (msgWord t.cmd 1)).mode])) ∧
  (∀ (k : Fin 8) (s : State), ((s.pair k.val).held = [] → exec (.replyRetry k) s = .next s) ∧
    ((s.pair k.val).held ≠ [] →
      let u := s.offerHeld k.val (s.pair k.val).held
      ((u.pair k.val).held = [] → exec (.replyRetry k) s = .next (u.answerSpill k.val)) ∧
      ((u.pair k.val).held ≠ [] → exec (.replyRetry k) s = .next u))) ∧
  (∀ s : State, (s.fwState ≠ Fw.SERVING ∨ s.datum < s.fmp.beatAt + 131072 → exec .fmpHang s = .next s) ∧
    (s.fwState = Fw.SERVING → s.fmp.beatAt + 131072 ≤ s.datum → exec .fmpHang s =
      .next (((s.setFld A.GLB_FMP_STATUS F.GLB_FMP_STATUS_STATE Fw.HALTED).raise 1361).note 0x10
        (s.fld A.GLB_FMP_STATUS F.GLB_FMP_STATUS_FW_VERSION) 0))) ∧
  (∀ (s : State) (prev d : Nat), s.fmp.hand = some (prev, d) → s.fwState = Fw.HANDOVER →
    (s.datum < d + 100000 → exec .handoverRevert s = .next s ∧
      let slot := s.fld A.GLB_FMP_IMAGE F.GLB_FMP_IMAGE_SLOT
      let v := s.serveImage slot
      let u := v.note 0xC (s.fld A.GLB_FMP_STATUS F.GLB_FMP_STATUS_FW_VERSION) (v.imgVersion slot)
      (u.handTkt = none → exec .handoverServing s = .next u.noticeAll) ∧
      (∀ t, u.handTkt = some t → exec .handoverServing s =
        .next ((u.endTkt t (.ok [u.imgVersion slot])).noticeAll))) ∧
    (d + 100000 ≤ s.datum → exec .handoverServing s = .next s ∧
      let failed := s.fld A.GLB_FMP_IMAGE F.GLB_FMP_IMAGE_SLOT
      let img := (tget none s.fmp.images failed).map (fun i => { i with verified := false })
      let v := (({ s with fmp := { s.fmp with images := tset none s.fmp.images failed img } }.setFld A.GLB_FMP_IMAGE
        F.GLB_FMP_IMAGE_SLOT prev).serveImage prev).setFld A.GLB_FMP_STATUS F.GLB_FMP_STATUS_REVERTED 1
      let u := v.note 0xC (v.imgVersion prev) (v.imgVersion failed + 2 ^ 32)
      (u.handTkt = none → exec .handoverRevert s = .next u.noticeAll) ∧
      (∀ t, u.handTkt = some t → exec .handoverRevert s = .next ((u.endTkt t .reverted).noticeAll))))

/-! ### Observability and the journal -/

/-- R315, R326: GO with no survey asked for or armed sets PENDING, clears LATE and asks for a tick message that carries
SRV_NEXT; with one under way it is refused and nothing changes. CANCEL before the launch takes the tick back. CLEAR of the trace
store empties it. R320: a probe's filter and action are judged together, and a write that is accepted restarts its counts.
R322: a write of NI_TAG_CTL loads the LFSR with SEED, which may not be 0.
R21, R315, R316, R326: a tick message reaches each block 24 fclk after its launch and arms the block for the message's
instant and sequence number; at the instant on the block's own counter the block records its registers as the cycle finds them (R17), and shows them as its
snapshot, once. A station's records
reach the store oldest first, one in 16 fclk, at the store's write pointer. -/
def Obligations.SurveysProbesAndTraces : Prop :=
  ((∀ (r : Req) (s : State), s.admits A.SRV_CTL r →
     let pend := s.bit A.SRV_STATUS F.SRV_STATUS_PENDING
     (reqFld r F.SRV_CTL_GO = 1 → pend = true ∨ s.bit A.SRV_STATUS F.SRV_STATUS_ARMED = true →
       exec (.surveyGo r) s = .next (s.ans A.SRV_CTL r Code.DENY)) ∧
     (reqFld r F.SRV_CTL_GO = 1 → pend = false → s.bit A.SRV_STATUS F.SRV_STATUS_ARMED = false →
       ∃ t : State, exec (.surveyGo r) s = .next (t.ans A.SRV_CTL r Code.OK) ∧ t.bit A.SRV_STATUS F.SRV_STATUS_PENDING = true ∧
         t.bit A.SRV_STATUS F.SRV_STATUS_LATE = false ∧
         t.glb.merPend = s.glb.merPend ++ [⟨.surveyTick s.glb.srvSeq, (s.rd A.SRV_NEXT).toNat, s.datum⟩]) ∧
     (reqFld r F.SRV_CTL_CANCEL = 1 → reqFld r F.SRV_CTL_GO = 0 →
       (pend = true → ∃ t : State, exec (.surveyCancel r) s = .next (t.ans A.SRV_CTL r Code.OK) ∧
         t.bit A.SRV_STATUS F.SRV_STATUS_PENDING = false ∧ (∀ m ∈ t.glb.merPend, tickSeq m.kind = none) ∧
         ∀ m ∈ s.glb.merPend, tickSeq m.kind = none → m ∈ t.glb.merPend) ∧
       (pend = false → exec (.surveyCancel r) s = .next (s.ans A.SRV_CTL r Code.OK)))) ∧
   (∀ (r : Req) (s : State), s.admits A.SRV_TRACE_CTL r → reqFld r F.SRV_TRACE_CTL_CLEAR = 1 → reqFld r F.SRV_TRACE_CTL_EN = 0 →
     (s.plainWrite A.SRV_TRACE_CTL r).2 = Code.OK →
     ∃ t : State, exec (.traceClear r) s = .next (t.ans A.SRV_TRACE_CTL r Code.OK) ∧
       ∀ f ∈ [F.SRV_TRACE_STATUS_WPTR, F.SRV_TRACE_STATUS_WRAPPED, F.SRV_TRACE_STATUS_FULL, F.SRV_TRACE_STATUS_FROZEN],
         t.fld A.SRV_TRACE_STATUS f = 0) ∧
   (∀ (k : Fin 180) (act : Bool) (r : Req) (s : State),
     let fa := (probeRegs k.val).1
     let aa := (probeRegs k.val).2.1
     let a := if act then aa else fa
     let ok := if act then probeOk k.val (s.rd fa) r.data else probeOk k.val r.data (s.rd aa)
     s.admits a r →
     (ok = true → (s.plainWrite a r).2 = Code.OK → exec (.probeConfigWrite k act r) s =
       .next (((s.plainWrite a r).1.probeRestart k.val).ans a r Code.OK)) ∧
     (ok = false → exec (.probeConfigWrite k act r) s = .next (s.ans a r Code.DENY))) ∧
   (∀ (p : Fin 144) (r : Req) (s : State), s.admits (A.NI_TAG_CTL p.val) r →
     let seed := reqFld r F.NI_TAG_CTL_SEED
     (seed = 0 → exec (.tagCtlWrite p r) s = .next (s.ans (A.NI_TAG_CTL p.val) r Code.DENY)) ∧
     (seed ≠ 0 → (s.plainWrite (A.NI_TAG_CTL p.val) r).2 = Code.OK → ∃ t : State,
       exec (.tagCtlWrite p r) s = .next (t.ans (A.NI_TAG_CTL p.val) r Code.OK) ∧
       (t.ni p.val).lfsr = BitVec.ofNat 16 seed))) ∧
  ((∀ (b : Fin 192) (sbe : Bool) (s : State),
     (s.arriving b.val (fun k => (tickSeq k).isSome) = none → exec (.surveyTickArrival b sbe) s = .next s) ∧
     (∀ m q, s.arriving b.val (fun k => (tickSeq k).isSome) = some m → tickSeq m.kind = some q →
       m.launch + 24 = s.datum ∧ ∃ t : State, exec (.surveyTickArrival b sbe) s = .next t ∧
         tget none t.glb.tick b.val = some (m.instant, q) ∧
         ∀ k, k ≠ b.val → tget none t.glb.tick k = tget none s.glb.tick k)) ∧
   (∀ (b : Nat) (s : State) (t q : Nat), tget none s.glb.tick b = some (t, q) →
     (s.nowOf b < t → s.capture b = s) ∧
     (t ≤ s.nowOf b → tget none (s.capture b).glb.tick b = none ∧ tget none (s.capture b).glb.capt b = some {
       at' := t
       seq := q
       vals := (surveySet b).map (fun a => (a, s.view a)) })) ∧
   (∀ (b : Fin 193) (s : State),
     (tget none s.glb.capt b.val = none → exec (.surveySnapshot b) s = .next s) ∧
     (∀ c, tget none s.glb.capt b.val = some c →
       let u := { s with glb := { s.glb with capt := tset none s.glb.capt b.val none } }
       tget none u.glb.capt b.val = none ∧ exec (.surveySnapshot b) s = .next (u.snapshot b.val c))) ∧
   (∀ (s : State) (p : Nat) (c : Capture) (v : Nat → Word), p < 144 → c.vals = (surveySet p).map (fun a => (a, v a)) →
     (s.snapshot p c).fld (A.NI_SRV_SEQ p) F.NI_SRV_SEQ_SEQ = c.seq % 2 ^ 8 ∧
     (s.snapshot p c).fld (A.NI_SRV_SEQ p) F.NI_SRV_SEQ_VALID = 1 ∧
     ∀ o ∈ niSurveyed, (s.snapshot p c).shadowOf (A.niBase p + o) = v (A.niBase p + o)) ∧
   (∀ (s : State) (i : Nat) (c : Capture) (v : Nat → Word), i < 36 →
     c.vals = (surveySet (156 + i)).map (fun a => (a, v a)) →
     (s.snapshot (156 + i) c).fld (A.STN_SRV_SEQ i) F.STN_SRV_SEQ_SEQ = c.seq % 2 ^ 8 ∧
     (s.snapshot (156 + i) c).fld (A.STN_SRV_SEQ i) F.STN_SRV_SEQ_VALID = 1 ∧
     ∀ o ∈ stnSurveyed, (s.snapshot (156 + i) c).shadowOf (A.stnBase i + o) = v (A.stnBase i + o)) ∧
   (∀ (i : Fin 36) (s : State),
     ((s.stn i.val).traceQ = [] → exec (.traceForward i) s = .next s) ∧
     (∀ r q, (s.stn i.val).traceQ = r :: q →
       (∀ t, (s.stn i.val).traceAt = some t → s.datum < t + 16 → exec (.traceForward i) s = .next s) ∧
       ((∀ t, (s.stn i.val).traceAt = some t → t + 16 ≤ s.datum) →
         exec (.traceForward i) s = .next ((s.modStn i.val (fun x => { x with
           traceQ := q
           traceAt := some s.datum })).storeTrace r)))) ∧
   (∀ (s : State) (r : TraceRec), s.fld A.SRV_TRACE_STATUS F.SRV_TRACE_STATUS_FULL = 0 →
     s.fld A.SRV_TRACE_STATUS F.SRV_TRACE_STATUS_FROZEN = 0 →
     let k := s.fld A.SRV_TRACE_STATUS F.SRV_TRACE_STATUS_WPTR
     (s.storeTrace r).fld A.SRV_TRACE_STATUS F.SRV_TRACE_STATUS_WPTR = (k + 1) % 2 ^ 17 ∧
     ∀ a, a < 0x1800000 + 32 * k ∨ 0x1800000 + 32 * k + 32 ≤ a → (s.storeTrace r).rdByte a = s.rdByte a))

/-- R300 to R304, R423: a record waiting in the queue is begun when none is being written; the NVM's response, at an edge of DCLK, ends the oldest
request, and the next one goes out; a request past its limit has failed, and nothing follows until its response comes; the end
of the scan after a boot sets ACTIVE, the place of the next record and its SEQ. R291, R292: the FMP's response to a slip or to
an uncorrectable meridian message journals a SLIP record; stakes applied since the last verification raise STAKE_FAULT, and the
third slip of a station within a second marks it avoided. -/
def Obligations.JournalCommands : Prop :=
  (∀ s : State, (s.jActive = false ∨ s.fmp.jcur.isSome = true ∨ s.fmp.jq = [] → exec .journalRecordWrite s = .next s) ∧
    (∀ r q, s.jActive = true → s.fmp.jcur = none → s.fmp.jq = r :: q →
      exec .journalRecordWrite s = .next (((s.setJq q).jTellLoss).jStart r false))) ∧
  (∀ (s : State) (r : JRec) (slot seq : Nat) (retry : Bool), s.jActive = true → s.nvmFree = true → s.fmp.jera = [] →
    (s.jBegin r slot seq retry).fmp.nvm = s.fmp.nvm ++ [{
      op := 1
      addr := s.fmp.jbase + 4 * slot + 1
      data := BitVec.ofNat 64 r.w1
      at' := s.datum
      who := 1 }]) ∧
  (∀ (st : Bool) (d : Word) (s : State), (s.fmp.nvm = [] ∨ dclkEdge s.datum = false → exec (.nvmResponse st d) s = .next s) ∧
    (∀ q rest, s.fmp.nvm = q :: rest → dclkEdge s.datum = true →
      let u := { s with fmp := { s.fmp with nvm := rest, nvmLate := false } }
      (s.fmp.nvmLate = true → exec (.nvmResponse st d) s = .next u.jIssue) ∧
      (s.fmp.nvmLate = false → exec (.nvmResponse st d) s = .next (u.nvmDone q st).jIssue))) ∧
  (∀ (s : State) (q : NvmReq) (rest : List NvmReq), s.fmp.nvm = q :: rest → q.who ≠ 2 →
    (s.fmp.nvmLate = true ∨ s.datum < q.at' + nvmLimit q.op → exec .nvmTimeout s = .next s) ∧
    (s.fmp.nvmLate = false → q.at' + nvmLimit q.op ≤ s.datum → ∃ t : State, exec .nvmTimeout s = .next t ∧
      t.fmp.nvmLate = true ∧ t.fmp.nvm = s.fmp.nvm)) ∧
  (∀ (slots : List JSlot) (s : State), s.fmp.jscan = true → slots.length = s.jSlots → slots ≠ [] →
    let u := { s with fmp := { s.fmp with jscan := false } }.setFld A.GLB_JNL_STATUS F.GLB_JNL_STATUS_ACTIVE 1
    let found := min (slots.filter (fun q => slotClass q = .torn || slotClass q = .corrupt)).length 65535
    (newestSlot (validSlots slots) = none → exec (.journalScanEnd slots) s =
      .next (({ u with fmp := { u.fmp with jpos := 0, jera := List.range u.fmp.jn, jrecs := [] } }.setFld A.GLB_JNL_STATUS
        F.GLB_JNL_STATUS_NEXT_SEQ 0).scanRecords [] found none)) ∧
    (∀ i v, newestSlot (validSlots slots) = some (i, v) → exec (.journalScanEnd slots) s =
      .next (({ u with fmp := { u.fmp with jpos := resumeAt slots i, jrecs := recsOf slots i } }.setFld A.GLB_JNL_STATUS
        F.GLB_JNL_STATUS_NEXT_SEQ (recSeq v.1 + 1)).scanRecords (tornAfter slots i) found
        (openIntent (validSlots slots))))) ∧
  (∀ (s : State), (s.fmp.slips = [] → exec .slipResponse s = .next s) ∧
    (∀ st n rest, s.fmp.slips = (1, st, n) :: rest → exec .slipResponse s =
      .next ({ s with fmp := { s.fmp with slips := rest } }.note 0xE (st + 64 + 256 * (n % 65536)) 0)) ∧
    (∀ st n rest, s.fmp.slips = (0, st, n) :: rest → ∃ t : State, exec .slipResponse s = .next t ∧
      t.fmp.slips = rest ∧ (st, s.datum) ∈ t.fmp.slipLog ∧
      (3 ≤ (t.fmp.slipLog.filter (fun e => e.1 = st)).length → st ∈ t.fmp.avoid) ∧
      (∀ e ∈ t.fmp.slipLog, s.datum < e.2 + 2000000000)))

/-! ### Power and temperature -/

/-- R329 to R334: an idle ACTIVE station goes to the deepest state that its horizon and DEEPEST allow, after the ENTRY time; a
flit or an access, or a horizon within the EXIT time, wakes it after EXIT, and a best-effort wake is counted. A station that
must sleep and may, with every direction DOWN, no set open, no pass due and no reservation in its plats, enters SLEEP; with SLEEP_REQ 0
or a set open it begins to wake, for 8,000 fclk. -/
def Obligations.PowerStates : Prop :=
  ∀ (i : Fin 36) (s : State),
    (s.pwrState i.val = 0 → (s.stn i.val).wakeAt = none → (s.stn i.val).pwrTo = none → s.stnIdle i.val = true →
      (∀ lo entry, lowerState (s.horizon i.val) (s.deepest i.val) = some (lo, entry) →
        exec (.powerStateEnter i) s = .next (s.modStn i.val (fun x => { x with pwrTo := some (lo, s.datum + entry) }))) ∧
      (s.horizon i.val < 7 ∨ s.deepest i.val = 0 → exec (.powerStateEnter i) s = .next s)) ∧
    (s.stnIdle i.val = false → exec (.powerStateEnter i) s = .next s) ∧
    (s.pwrState i.val = 1 ∨ s.pwrState i.val = 2 → (s.stn i.val).wakeAt = none →
      let be := (s.stn i.val).holdsFlit || s.inAccess i.val
      let u := s.modStn i.val (fun x => { x with wakeAt := some (s.datum + exitOf (s.pwrState i.val)) })
      (be = true → exec (.powerStateExit i) s = .next (u.sat (A.STN_PWR_STATUS i.val) F.STN_PWR_STATUS_BE_WAKES)) ∧
      (be = false → s.horizon i.val ≤ exitOf (s.pwrState i.val) → exec (.powerStateExit i) s = .next u) ∧
      (be = false → exitOf (s.pwrState i.val) < s.horizon i.val → exec (.powerStateExit i) s = .next s)) ∧
    (s.pwrState i.val < 3 → s.deepest i.val = 3 → s.bit (A.STN_PWR_CTL i.val) F.STN_PWR_CTL_SLEEP_REQ = true →
      s.setOpen = false → s.stk.reqs = [] → s.holdsResv i.val = false →
      (s.allDown i.val = false → exec (.sleepEnter i) s = .next (s.linksOff i.val)) ∧
      (s.allDown i.val = true → ∃ t : State, exec (.sleepEnter i) s = .next t ∧ t.pwrState i.val = 3 ∧
        (t.stn i.val).pwrTo = none ∧ (t.stn i.val).wakeAt = none)) ∧
    (s.pwrState i.val < 3 → s.deepest i.val = 3 → s.bit (A.STN_PWR_CTL i.val) F.STN_PWR_CTL_SLEEP_REQ = true →
      s.setOpen = true ∨ s.stk.reqs ≠ [] ∨ s.holdsResv i.val = true → exec (.sleepEnter i) s = .next s) ∧
    (s.pwrState i.val = 3 →
      (s.bit (A.STN_PWR_CTL i.val) F.STN_PWR_CTL_SLEEP_REQ = false ∨ s.setOpen = true → ∃ t : State, exec (.sleepExit i) s = .next t ∧
        t.pwrState i.val = 4 ∧ (t.stn i.val).wakeAt = some (s.datum + 8000)) ∧
      (s.bit (A.STN_PWR_CTL i.val) F.STN_PWR_CTL_SLEEP_REQ = true → s.setOpen = false → exec (.sleepExit i) s = .next s))

/-- R337 to R347: sensors start a conversion at each multiple of 2,000,000, at the fast rate of 125,000; 4,000 fclk later the
readings are evaluated, LEVEL follows the conditions set, and a set trip condition trips the block. A trip, of the evaluation or
of the pin, sets SAFE, keeps its instant and stops word programs at once. The armed commit word is then programmed, or the
sequence goes on with COMMIT_FAIL, and SHUTDOWN_READY ends it within its bounds. R344: a changed stage is applied to all 144
NIs. -/
def Obligations.ThermalCommands : Prop :=
  (∀ s : State, s.mode ≠ Mode.OFF →
    (s.datum % 125000 ≠ 0 → exec .thermalSample s = .next s) ∧
    (s.datum % 2000000 = 0 → ∃ t : State, exec .thermalSample s = .next t ∧ t.thm.sample = some s.datum) ∧
    (s.datum % 125000 = 0 → s.datum % 2000000 ≠ 0 →
      (s.bit A.THM_STATUS F.THM_STATUS_FAST = true ∨ s.thm.want = true → ∃ t : State, exec .thermalSample s = .next t ∧
        t.thm.sample = some s.datum ∧ t.bit A.THM_STATUS F.THM_STATUS_FAST = true) ∧
      (s.bit A.THM_STATUS F.THM_STATUS_FAST = false → s.thm.want = false → exec .thermalSample s = .next s))) ∧
  (∀ (rd : List SensorReading) (s : State) (i : Nat), s.mode ≠ Mode.OFF → s.thm.sample = some i → rd.length = 72 →
    (s.datum < i + 4000 → exec (.thermalEvaluation rd) s = .next s) ∧
    (i + 4000 ≤ s.datum → ∃ t : State, exec (.thermalEvaluation rd) s = .next t ∧ t.thm.sample = none ∧
      t.fld A.THM_STATUS F.THM_STATUS_LEVEL = levelOf t.thm.set ∧ t.thm.hist.head?.map Prod.fst = some i ∧
      (2 ∈ t.thm.set → t.bit A.THM_STATUS F.THM_STATUS_SAFE = true))) ∧
  (∀ s : State, (s.mode = Mode.OFF ∨ aclkEdge s.datum = false → exec .hostTrip s = .next s) ∧
    (s.mode ≠ Mode.OFF → s.bit A.THM_STATUS F.THM_STATUS_SAFE = true → exec .hostTrip s = .next s) ∧
    (s.mode ≠ Mode.OFF → aclkEdge s.datum = true → s.bit A.THM_STATUS F.THM_STATUS_SAFE = false → ∃ t : State, exec .hostTrip s = .next t ∧
      t.bit A.THM_STATUS F.THM_STATUS_SAFE = true ∧ t.fld A.THM_STATUS F.THM_STATUS_TRIP_SRC = 2 ∧
      t.rd A.THM_TRIP_TIME = BitVec.ofNat 64 s.datum ∧ t.host.halt = true ∧ t.host.trip = 3)) ∧
  (∀ s : State,
    let k := s.fld A.THM_THROTTLE F.THM_THROTTLE_STAGE
    let was := s.fld A.THM_THROTTLE F.THM_THROTTLE_APPLIED
    (k = was ∨ s.fwState = Fw.HALTED → exec .throttleApply s = .next s) ∧
    (k ≠ was → s.fwState ≠ Fw.HALTED → ∃ t : State, exec .throttleApply s = .next t ∧
      t.fld A.THM_THROTTLE F.THM_THROTTLE_APPLIED = k ∧
      (k ≠ 0 → t = ((List.range 144).foldl (fun s p => s.throttleNi p was k) s).setFld A.THM_THROTTLE
        F.THM_THROTTLE_APPLIED k))) ∧
  (∀ s : State, s.fwState ≠ Fw.HALTED → s.bit A.THM_STATUS F.THM_STATUS_SAFE = false →
    let lv := s.fld A.THM_STATUS F.THM_STATUS_LEVEL
    let armed := s.bit A.THM_COMMIT_ADDR F.THM_COMMIT_ADDR_ARMED
    (2 ≤ lv → armed = false → s.jActive = true → ∃ t : State, exec .tripArm s = .next t ∧
      t.bit A.THM_COMMIT_ADDR F.THM_COMMIT_ADDR_ARMED = true ∧ t.fmp.arm.isSome = true) ∧
    (lv < 2 → armed = true → ∃ t : State, exec .tripArm s = .next t ∧
      t.bit A.THM_COMMIT_ADDR F.THM_COMMIT_ADDR_ARMED = false ∧ t.fmp.arm = none) ∧
    ((2 ≤ lv ∧ armed = true) ∨ (lv < 2 ∧ armed = false) → exec .tripArm s = .next s)) ∧
  (∀ s : State, (s.host.trip ≠ 3 → exec .tripCommitProgram s = .next s) ∧
    (s.host.trip = 3 → s.datum < (s.rd A.THM_TRIP_TIME).toNat + 100000 →
      (s.fmp.nvm ≠ [] → exec .tripCommitProgram s = .next s) ∧
      (s.fmp.nvm = [] → s.bit A.THM_COMMIT_ADDR F.THM_COMMIT_ADDR_ARMED = true → ∃ t : State,
        exec .tripCommitProgram s = .next t ∧ t.host.trip = 4 ∧ t.fmp.nvm = [{
          op := 1
          addr := s.fld A.THM_COMMIT_ADDR F.THM_COMMIT_ADDR_WORD
          data := s.rd A.THM_COMMIT_WORD
          at' := s.datum
          who := 2 }]) ∧
      (s.fmp.nvm = [] → s.bit A.THM_COMMIT_ADDR F.THM_COMMIT_ADDR_ARMED = false →
        exec .tripCommitProgram s = .next (s.tripEnd true)))) ∧
  (∀ s : State, (s.tripEnd true).host.trip = 5 ∧ (s.tripEnd true).bit A.THM_STATUS F.THM_STATUS_COMMIT_FAIL = true) ∧
  (∀ s : State, s.bit A.THM_STATUS F.THM_STATUS_SHUTDOWN_READY = false →
    let t := (s.rd A.THM_TRIP_TIME).toNat
    (s.host.trip = 5 → s.host.heldReset = none → ∃ u : State, exec .shutdownReady s = .next u ∧
      u.bit A.THM_STATUS F.THM_STATUS_SHUTDOWN_READY = true) ∧
    (s.host.trip = 3 → t + 100000 ≤ s.datum → s.host.heldReset = none → ∃ u : State, exec .shutdownReady s = .next u ∧
      u.bit A.THM_STATUS F.THM_STATUS_SHUTDOWN_READY = true ∧ u.bit A.THM_STATUS F.THM_STATUS_COMMIT_FAIL = true) ∧
    (s.host.trip = 4 → s.datum < t + 200000 → exec .shutdownReady s = .next s))

/-! ### Endurance -/

/-- R352 to R364: a benchmark scan starts at each multiple of 2^31 or for a waiting ticket, takes 65,536 fclk and is counted. A
lane that fails outside a test is counted and waits for its failure stake, which opens set 7 when it is idle and is placed once
the set is open. Windows of 2^24 end with their counts cleared. A queued test that may start does; a lane's test, of 1,048,576
fclk, and a station's leave their result. A direction comes up or is down as its training ends. -/
def Obligations.ScansFailuresAndTests : Prop :=
  (∀ s : State, (s.fmp.scanAt.isSome = true ∨ s.mode = Mode.OFF → exec .benchmarkScanStart s = .next s) ∧
    (s.datum % 2 ^ 31 ≠ 0 → s.scanTkts 1 = [] → exec .benchmarkScanStart s = .next s) ∧
    (s.fmp.scanAt = none → s.mode ≠ Mode.OFF → s.datum % 2 ^ 31 = 0 ∨ s.scanTkts 1 ≠ [] → ∃ t : State,
      exec .benchmarkScanStart s = .next t ∧ t.fmp.scanAt = some s.datum)) ∧
  (∀ (rd : List BenchReading) (s : State) (i : Nat), s.fmp.scanAt = some i → rd.length = 576 →
    (s.datum < i + 65536 → exec (.benchmarkScanEnd rd) s = .next s) ∧
    (i + 65536 ≤ s.datum → ∃ t : State, exec (.benchmarkScanEnd rd) s = .next t ∧ t.fmp.scanAt = none ∧
      t.fld A.END_STATUS F.END_STATUS_SCANS = min (s.fld A.END_STATUS F.END_STATUS_SCANS + 1)
        (2 ^ F.END_STATUS_SCANS.w - 1))) ∧
  (∀ (i : Fin 36) (n : Fin 6) (lane : Fin 22) (s : State),
    exec (.laneFailHard i n lane) s = .next (s.laneFail i.val n.val lane.val true) ∧
    (s.laneOut i.val n.val lane.val = true → s.laneFail i.val n.val lane.val true = s) ∧
    (s.laneOut i.val n.val lane.val = false → s.fmp.laneFails = [] → s.fmp.own7 = none →
      (s.laneFail i.val n.val lane.val true).fmp.laneFails = [⟨i.val, n.val, lane.val⟩])) ∧
  (∀ s : State, s.fwState ≠ Fw.HALTED →
    (s.fmp.own7 = none → s.fmp.laneFails = [] ∨ s.idle7 = false ∨ s.openMode = false →
      exec .failureStakeClose s = .next s) ∧
    (s.fmp.own7 = none → s.fmp.laneFails ≠ [] → s.idle7 = true → s.openMode = true → exec .failureStakeClose s =
      .next ({ s with fmp := { s.fmp with own7 := some { kind := 1, fails := s.fmp.laneFails }, laneFails := [] } }.open7)) ∧
    (∀ o, s.fmp.own7 = some o → o.kind = 1 →
      (s.setSt 7 = SetSt.OPEN → exec .failureStakeClose s = .next (s.closeFailure o.fails)) ∧
      (s.setSt 7 ≠ SetSt.OPEN → exec .failureStakeClose s = .next s)) ∧
    (∀ o, s.fmp.own7 = some o → o.kind = 3 ∨ o.kind = 4 → s.fmp.laneFails ≠ [] →
      s.setSt 7 = SetSt.OPENING ∨ s.setSt 7 = SetSt.OPEN ∨ s.setSt 7 = SetSt.CLOSING ∨ s.setSt 7 = SetSt.WAITING →
      exec .failureStakeClose s = .next (s.abortSet 7 1))) ∧
  (∀ s : State, (s.datum % 2 ^ 24 ≠ 0 → exec .sbeWindowEnd s = .next s) ∧
    (s.datum % 2 ^ 24 = 0 → ∃ t : State, exec .sbeWindowEnd s = .next t ∧ ∀ (i : Fin 36) (n : Fin 6),
      t.fld (A.END_LANE i.val n.val) F.END_LANE_WORST_SBE = 0 ∧ ∀ e ∈ (t.stn i.val).ports, e.2.sbe = [])) ∧
  (∀ s : State, s.fwState ≠ Fw.HALTED →
    (s.fmp.tests.find? (fun t => !t.run && s.mayStart t) = none → exec .testStart s = .next s) ∧
    (∀ t, s.fmp.tests.find? (fun t => !t.run && s.mayStart t) = some t → exec .testStart s = .next (s.startTest t))) ∧
  (∀ (i : Fin 36) (n : Fin 6) (lane : Fin 22) (pass : Bool) (eye : LaneEye) (s : State) (t : Test),
    s.fmp.tests.find? (fun t => t.run && t.kind ≠ 3 && t.lane = some lane.val && t.dirNow = (i.val, n.val)) = some t →
    (s.datum < t.at' + 1048576 → exec (.laneTestEnd i n lane pass eye) s = .next s) ∧
    (t.at' + 1048576 ≤ s.datum → t.kind = 1 → t.dir = 0 →
      let x := s.judgeLane t lane.val pass eye
      let u := { t with lane := none, done := t.done + 1 }
      let v := { u with bad0 := t.bad0 + 2 ^ lane.val }
      (pass = true → exec (.laneTestEnd i n lane pass eye) s = .next ((x.1.putTest u).pumpTest u)) ∧
      (pass = false → exec (.laneTestEnd i n lane pass eye) s =
        .next (((x.1.bistFail t.dirNow lane.val).putTest v).pumpTest v)))) ∧
  (∀ (i : Fin 36) (f : Fin 7) (s : State) (t : Test),
    s.fmp.tests.find? (fun t => t.run && t.kind = 3 && t.st = i.val) = some t → ∃ u : State,
    exec (.stationBistEnd i f) s = .next u ∧
    u.fld (A.END_STN_STATUS i.val) F.END_STN_STATUS_BIST = (if f.val = 0 then 1 else 2) ∧
    u.fld (A.END_STN_STATUS i.val) F.END_STN_STATUS_BIST_BLOCK = f.val ∧ ∀ x ∈ u.fmp.tests, x.ticket ≠ t.ticket) ∧
  (∀ (i : Fin 36) (n : Fin 6) (up : Bool) (s : State), s.mode ≠ Mode.OFF → s.mayTrain (i.val, n.val) = true →
    s.linkState i.val n.val = LinkSt.DOWN ∨ s.linkState i.val n.val = LinkSt.TRAIN →
    (up = true → exec (.linkTrainDone i n up) s = .next (s.dirUp (i.val, n.val))) ∧
    (up = false → exec (.linkTrainDone i n up) s = .next (s.dirDown (i.val, n.val)) ∧
      (s.dirDown (i.val, n.val)).linkState i.val n.val = LinkSt.DOWN))

/-- R354 to R361: a re-plan starts with the oldest trigger or command that may start; a station whose period is over is triggered; eyes are measured for
1,048,576 fclk and posted; a lane's phase moves one step in 1,024 fclk toward its centre. An acknowledge of the asked voltage
step is taken; none within 2,000,000 fclk is counted. -/
def Obligations.ReplanAndVoltage : Prop :=
  (∀ (i : Fin 36) (s : State),
    (s.fmp.replan.isSome = true ∨ s.fwState = Fw.HALTED ∨ s.mode = Mode.OFF → exec (.replanStart i) s = .next s) ∧
    (s.fmp.replan = none → s.fwState ≠ Fw.HALTED → s.mode ≠ Mode.OFF →
      (∀ q, s.fmp.replans.find? (fun q => q.2.2 ≠ 0 || s.autoReplan) = some q →
        (q.1 ≠ i.val → exec (.replanStart i) s = .next s) ∧
        (q.1 = i.val → q.2.2 ≠ 0 → exec (.replanStart i) s =
          .next (({ s with fmp := { s.fmp with replans := s.fmp.replans.erase q } }.setReplan
            (some { st := i.val, drift := 0, ticket := q.2.2 })).pumpReplan)) ∧
        (q.1 = i.val → q.2.2 = 0 → exec (.replanStart i) s =
          .next ((({ s with fmp := { s.fmp with replans := s.fmp.replans.erase q } }.setFld (A.END_STN_STATUS i.val)
            F.END_STN_STATUS_TRIGGERED 0).setReplan (some { st := i.val, drift := q.2.1, ticket := 0 })).pumpReplan))) ∧
      (s.fmp.replans.find? (fun q => q.2.2 ≠ 0 || s.autoReplan) = none → exec (.replanStart i) s = .next s))) ∧
  (∀ (i : Fin 36) (s : State), s.mode ≠ Mode.OFF → s.fwState ≠ Fw.HALTED → s.bit A.END_CFG F.END_CFG_AUTO = true →
    s.periodOver i.val = true → s.fmp.replan = none → ∃ q ∈ s.periodTriggers.fmp.replans, q.1 = i.val ∧ q.2.2 = 0) ∧
  (∀ (i : Fin 36) (n : Fin 6) (eyes : List LaneEye) (s : State),
    (s.fmp.replan = none → exec (.eyeMeasureEnd i n eyes) s = .next s) ∧
    (∀ r, s.fmp.replan = some r → r.step = 1 → r.dir = (i.val, n.val) → r.dirs ≠ [] → eyes.length = 22 →
      (s.datum < r.at' + 1048576 → exec (.eyeMeasureEnd i n eyes) s = .next s) ∧
      (r.at' + 1048576 ≤ s.datum → ∃ t : State, exec (.eyeMeasureEnd i n eyes) s = .next t ∧ ∃ u : State,
        t = (u.setReplan (some { r with step := 2, todo := r.guards })).pumpReplan ∧
        ∀ l ∈ s.lanesUsed i.val n.val, ∀ e, eyes[l]? = some e → u.eyeOf (i.val, n.val) l = (e.1.val, e.2.val)))) ∧
  (∀ (i : Fin 36) (n : Fin 6) (lane : Fin 22) (s : State) (r : Replan), s.fmp.replan = some r → r.step = 3 →
    r.dir = (i.val, n.val) →
    let last := tget 0 ((s.stn i.val).port n.val).stepAt lane.val
    let p := tget 0 ((s.stn i.val).port n.val).phase lane.val
    (s.moves (i.val, n.val) lane.val = false ∨ (last ≠ 0 ∧ s.datum < last + 1024) →
      exec (.recentreStep i n lane) s = .next s) ∧
    (s.moves (i.val, n.val) lane.val = true → last = 0 ∨ last + 1024 ≤ s.datum → ∃ t : State,
      exec (.recentreStep i n lane) s = .next t ∧
      tget 0 ((t.stn i.val).port n.val).phase lane.val =
        (if s.offCentre (i.val, n.val) lane.val ≤ 32 then (p + 1) % 64 else (p + 63) % 64) ∧
      tget 0 ((t.stn i.val).port n.val).stepAt lane.val = s.datum)) ∧
  (∀ (v : Fin 13) (s : State),
    (v.val = s.fld A.END_VREQ F.END_VREQ_STEPS → ∃ t : State, exec (.vreqStepAck v) s = .next t ∧
      t.fld A.END_VREQ F.END_VREQ_ACKED = v.val ∧ t.fmp.vreqAt = none ∧ t.host.vreqPin = v.val) ∧
    (v.val ≠ s.fld A.END_VREQ F.END_VREQ_STEPS →
      exec (.vreqStepAck v) s = .next { s with host := { s.host with vreqPin := v.val } })) ∧
  (∀ s : State, (s.fmp.vreqAt = none → exec .vreqNoack s = .next s) ∧
    (∀ t, s.fmp.vreqAt = some t → (s.datum < t + 2000000 → exec .vreqNoack s = .next s) ∧
      (t + 2000000 ≤ s.datum → exec .vreqNoack s = .next
        ({ s with fmp := { s.fmp with vreqAt := none, vreqOut := true } }.sat A.END_VREQ F.END_VREQ_NOACK))))

/-! ### Federation -/

/-- R399 to R401, R411: an agent sends one SYNC message at each multiple of 4,096 of its own datum. A message with a bad check or
version is counted and changes nothing else; a good one gives the partner and its state, and may advance the port's state. No
message for 65,536 fclk loses the port; a lost link loses it at once. RESTART takes a lost port whose link is up to SYNC. The
root's federation time has offset 0; another block's follows its upstream partner's.
R403 to R410, R452: a forwarding entry ends after 131,072 fclk; a request held at ingress longer than HOLD is answered
TIMEOUT; packets, barriers and chain flits from an UP link are counted, policed and queued, with the partner's stamps turned
into this block's, and from any other link are ignored; the agent serves the oldest packet from its station that need not
wait, of those that no packet of their own VC waits before. -/
def Obligations.FederationTimeAndTraffic : Prop :=
  ((∀ (f : Fin 12) (s : State), (s.fedNow f.val % 4096 ≠ 0 ∨ (s.fed f.val).syncTx.head?.map Prod.snd = some (s.fedNow f.val) →
       exec (.ttSyncSend f) s = .next s) ∧
     (s.fedNow f.val % 4096 = 0 → (s.fed f.val).syncTx.head?.map Prod.snd ≠ some (s.fedNow f.val) → ∃ t : State, exec (.ttSyncSend f) s = .next t ∧
       (t.fed f.val).ttTx = s.syncMsg f.val ∧ (t.fed f.val).syncNo = (s.fed f.val).syncNo + 1 ∧
       (t.fed f.val).syncTx.head? = some ((s.fed f.val).syncNo % 256, s.fedNow f.val))) ∧
   (∀ (f : Fin 12) (m : SyncMsg) (s : State),
     (syncBits m 256 32 ≠ (syncCheck m).toNat ∨ syncBits m 0 4 ≠ 1 →
       exec (.ttSyncReceive f m) s = .next (s.sat (A.FED_TT_DELAY f.val) F.FED_TT_DELAY_BAD)) ∧
     (syncBits m 256 32 = (syncCheck m).toNat → syncBits m 0 4 = 1 → ∃ t : State, exec (.ttSyncReceive f m) s = .next t ∧
       t.fld (A.FED_STATUS f.val) F.FED_STATUS_PARTNER = syncBits m 24 10 ∧
       t.fld (A.FED_STATUS f.val) F.FED_STATUS_PARTNER_PORT = syncBits m 34 4 ∧
       t.fld (A.FED_STATUS f.val) F.FED_STATUS_LINK_UP = 1 ∧
       (t.fed f.val).syncRx = some (syncBits m 8 8, s.fedNow f.val))) ∧
   (∀ (f : Fin 12) (s : State), (s.fedState f.val = FedState.DOWN → exec (.ttSyncTimeout f) s = .next s) ∧
     (s.fedState f.val ≠ FedState.DOWN → s.fedNow f.val < (s.fed f.val).estAt + 65536 →
       (s.fedNow f.val < (s.fed f.val).syncAt + 65536 → exec (.ttSyncTimeout f) s = .next s) ∧
       ((s.fed f.val).syncAt + 65536 ≤ s.fedNow f.val → exec (.ttSyncTimeout f) s = .next (s.fedLost f.val 3)))) ∧
   (∀ (f : Fin 12) (s : State), ∃ t : State, exec (.fedLinkDown f) s = .next t ∧
     t.fld (A.FED_STATUS f.val) F.FED_STATUS_LINK_UP = 0 ∧
     (s.fedState f.val = FedState.DOWN → t.fedState f.val = FedState.DOWN) ∧
     (s.fedState f.val ≠ FedState.DOWN → t.fedState f.val = FedState.LOST)) ∧
   (∀ (f : Fin 12) (r : Req) (s : State), s.mode ≠ Mode.OFF → s.writeGate (A.FED_CTL f.val) r = .go →
     (reqFld r F.FED_CTL_MAX_PRIV = 3 ∨ reqFld r F.FED_CTL_HOLD = 0 →
       exec (.fedRestart f r) s = .next (s.ans (A.FED_CTL f.val) r Code.DENY)) ∧
     (reqFld r F.FED_CTL_MAX_PRIV ≠ 3 → reqFld r F.FED_CTL_HOLD ≠ 0 → reqFld r F.FED_CTL_RESTART = 1 →
       (s.plainWrite (A.FED_CTL f.val) r).2 = Code.OK → s.fedState f.val = FedState.LOST →
       s.bit (A.FED_STATUS f.val) F.FED_STATUS_LINK_UP = true → ∃ t : State,
       exec (.fedRestart f r) s = .next (t.ans (A.FED_CTL f.val) r Code.OK) ∧
       (t.fedState f.val = FedState.SYNC ∨ t.fedState f.val = FedState.UP) ∧
       (s.bit (A.FED_STATUS f.val) F.FED_STATUS_LOCKED = false → t.fedState f.val = FedState.SYNC))) ∧
   (∀ s : State, (s.bit A.GLB_FED_ID F.GLB_FED_ID_ROOT = true → exec .rootOfsUpdate s = .next (s.wr A.GLB_FED_TIME 0)) ∧
     (s.bit A.GLB_FED_ID F.GLB_FED_ID_ROOT = false →
       ((List.range 12).find? (fun f => s.bit (A.FED_CTL f) F.FED_CTL_UPSTREAM) = none → exec .rootOfsUpdate s = .next s) ∧
       (∀ f, (List.range 12).find? (fun f => s.bit (A.FED_CTL f) F.FED_CTL_UPSTREAM) = some f →
         (s.fed f).partnerValid = true → exec .rootOfsUpdate s =
           .next (s.wr A.GLB_FED_TIME ((s.fed f).partnerOfs + s.rd (A.FED_TT_OFFSET f))))))) ∧
  ((∀ (f : Fin 12) (e : Fin 512) (s : State), (tget none (s.fed f.val).fwd e.val = none →
       exec (.fwdEntryExpire f e) s = .next s) ∧
     (∀ w, tget none (s.fed f.val).fwd e.val = some w →
       (s.datum < w.at' + 131072 → exec (.fwdEntryExpire f e) s = .next s) ∧
       (w.at' + 131072 ≤ s.datum → exec (.fwdEntryExpire f e) s = .next ((s.fwdEnd f.val e.val).fedPump f.val)))) ∧
   (∀ (f : Fin 12) (s : State),
     let lim := 1024 * s.fld (A.FED_CTL f.val) F.FED_CTL_HOLD
     ((∀ k, k < 3 → ∀ q rest t, tget [] (s.fed f.val).ing k = q :: rest → q.head = some t → s.datum < t + lim) →
       exec (.fedIngressHoldExpire f) s = .next s) ∧
     (∀ q rest t, tget [] (s.fed f.val).ing 0 = q :: rest → q.head = some t → t + lim ≤ s.datum →
       let u := ((if q.begun then s.takeBack (fedKey f.val) 0 else s).ingNext f.val 0).sat (A.FED_STATUS f.val)
         F.FED_STATUS_ABSORBED
       let v := (u.fedAnswerLink f.val q.pkt.h Code.TIMEOUT).fedPump f.val
       tget [] (v.fed f.val).ing 1 = [] → tget [] (v.fed f.val).ing 2 = [] →
       exec (.fedIngressHoldExpire f) s = .next v)) ∧
   (∀ (f : Fin 12) (w : FedPkt) (s : State), s.fedState f.val ≠ FedState.UP →
     exec (.linkBarrierReceive f w) s = .next s ∧ exec (.fedPacketReceive f w) s = .next s ∧
     ∀ g, exec (.fedChainFlitReceive f g) s = .next s) ∧
   (∀ (f : Fin 12) (w : FedPkt) (s : State), s.fedState f.val = FedState.UP → w.h.cmd = Cmd.BAR →
     let u := s.gcnt 58 (1 + w.h.len.toNat)
     (w.fails = true → exec (.linkBarrierReceive f w) s =
       .next (((u.sat (A.FED_XFER f.val) F.FED_XFER_CRC).fedCause f.val 2).fedAnswerLink f.val w.h Code.CRC)) ∧
     (w.fails = false → exec (.linkBarrierReceive f w) s =
       .next ((u.ingPut f.val 0 w).fedPump f.val))) ∧
   (∀ (f : Fin 12) (w : FedPkt) (s : State), s.fedState f.val = FedState.UP → w.h.cmd ≠ Cmd.BAR →
     let u := s.gcnt 58 (1 + w.h.len.toNat)
     (vcTypeOf w.h.cmd = .msg → u.police f.val (1 + w.h.len.toNat) = none →
       exec (.fedPacketReceive f w) s = .next (u.policeDrop f.val w.h)) ∧
     (vcTypeOf w.h.cmd ≠ .msg →
       let own := w.h.dest = u.gid (fedKey f.val) ∧ w.h.cmd = Cmd.BRR
       (w.fails = true → ¬own → exec (.fedPacketReceive f w) s =
         .next (((u.sat (A.FED_XFER f.val) F.FED_XFER_CRC).fedCause f.val 2).fedAnswerLink f.val w.h Code.CRC)) ∧
       (w.fails = true → own → exec (.fedPacketReceive f w) s =
         .next (((u.sat (A.FED_XFER f.val) F.FED_XFER_CRC).fedCause f.val 2).outBarEnd f.val w.h Code.CRC)) ∧
       (w.fails = false → own → exec (.fedPacketReceive f w) s = .next (u.outBarEnd f.val w.h w.h.status)) ∧
       (w.fails = false → ¬own →
         let h := { w.h with
           priv := BitVec.ofNat 2 (min (min w.h.priv.toNat 2) (u.fld (A.FED_CTL f.val) F.FED_CTL_MAX_PRIV))
           stamp := w.h.stamp - (u.rd (A.FED_TT_OFFSET f.val)).setWidth 32 }
         exec (.fedPacketReceive f w) s = .next ((u.ingPut f.val (ingKey h.cmd) { w with h := h }).fedPump f.val)))) ∧
   (∀ (f : Fin 12) (s : State), (goPick (s.fedWaits f.val) (s.fed f.val).rx [] = none →
       exec (.fedOutboundPacket f) s = .next s) ∧
     (∀ q, goPick (s.fedWaits f.val) (s.fed f.val).rx [] = some q →
       let t := s.modFed f.val (fun x => { x with rx := x.rx.erase q })
       (q.h.dest = s.gid (fedKey f.val) → exec (.fedOutboundPacket f) s = .next (t.fedOwn f.val q)) ∧
       (q.h.dest ≠ s.gid (fedKey f.val) →
         (q.h.cmd = Cmd.CRD ∨ q.h.cmd = Cmd.CWR →
           (q.fails = true → exec (.fedOutboundPacket f) s = .next
             (((t.sat (A.FED_XFER f.val) F.FED_XFER_CRC).fedCause f.val 2).fedAnswerLocal f.val q.h Code.CRC)) ∧
           (q.fails = false → exec (.fedOutboundPacket f) s = .next
             ((t.sat (A.FED_STATUS f.val) F.FED_STATUS_DENIED).fedAnswerLocal f.val q.h Code.DENY))) ∧
         (q.h.cmd ≠ Cmd.CRD → q.h.cmd ≠ Cmd.CWR →
           (s.fedState f.val = FedState.LOST → exec (.fedOutboundPacket f) s = .next (t.fedAbsorb f.val q.h)) ∧
           (s.fedState f.val ≠ FedState.LOST → exec (.fedOutboundPacket f) s = .next
             ((if Cmd.isResponse q.h.cmd then t.fwdMatch f.val q.h else t).fedLink f.val q)))))) ∧
   (∀ (waits : Pkt → Bool) (qs : List Pkt) (q : Pkt), goPick waits qs [] = some q → q ∈ qs ∧ waits q = false) ∧
   (∀ (f : Fin 12) (g : FedG) (s : State), s.fedState f.val = FedState.UP → g.err = .due →
     exec (.fedChainFlitReceive f g) s = .next (s.gcnt 58)) ∧
   (∀ (f : Fin 12) (g : FedG) (s : State), s.fedState f.val = FedState.UP → g.err ≠ .due →
     let u := s.gcnt 58
     let hit := (List.range 64).find? (fun k => u.srcValid (fedKey f.val) k &&
       u.fld (srcCfgOf (fedKey f.val) k) F.NI_CHAIN_SRC_CFG_CHAIN = g.chain.toNat)
     (hit = none → exec (.fedChainFlitReceive f g) s = .next (u.sat (A.FED_XFER f.val) F.FED_XFER_UNKNOWN)) ∧
     (∀ k, hit = some k →
       let x : SrcFlit := {
         payload := g.payload
         flags := g.flags
         seq := g.seq
         ready := u.fedNow f.val + 1
         stamp := g.stamp - (u.rd (A.FED_TT_OFFSET f.val)).setWidth 16 }
       let q := u.srcQueue (fedKey f.val) k
       (q.length < 16 → exec (.fedChainFlitReceive f g) s = .next (u.setSrcQueue (fedKey f.val) k (q ++ [x]))) ∧
       (16 ≤ q.length → exec (.fedChainFlitReceive f g) s =
         .next ((u.srcDrops (fedKey f.val) k 1).setSrcQueue (fedKey f.val) k (q.tail ++ [x]))))))
end

