-- ==== Sys2Proof/Laws/Frame.lean ====
section
/-!
SUPPORT. Laws/Frame.lean: the frame of a function over the state: memory, the queue of waiting commands and the datum,
which almost nothing changes; how a frame passes through choices, updates and folds.
-/
namespace Sys2Proof.Machine

/-- Memory, the commands waiting and the datum of a state. -/
def State.frame (s : State) : List Host.Cell × List Instr × Nat := (s.mem, s.pending, s.datum)

theorem State.frame_ite (c : Prop) [Decidable c] (s t : State) :
    (if c then s else t).frame = if c then s.frame else t.frame := by split <;> rfl

theorem State.fst_frame_ite {α : Type} (c : Prop) [Decidable c] (p q : State × α) :
    (if c then p else q).1.frame = if c then p.1.frame else q.1.frame := by split <;> rfl

theorem State.snd_frame_ite {α : Type} (c : Prop) [Decidable c] (p q : α × State) :
    (if c then p else q).2.frame = if c then p.2.frame else q.2.frame := by split <;> rfl

theorem State.frame_mk (datum skew regs shadow mem stns nis feds agents chains glb stk mbx fmp
    thm host freeCtr was late stood direct pending) :
    (State.mk datum skew regs shadow mem stns nis feds agents chains glb stk mbx fmp
      thm host freeCtr was late stood direct pending).frame = (mem, pending, datum) := congrArg id rfl

theorem State.frame_eta (s : State) : (s.mem, s.pending, s.datum) = s.frame := congrArg id rfl

theorem State.fst_frame_mk {α : Type} (s : State) (x : α) : (s, x).1.frame = s.frame := congrArg id rfl

theorem foldl_frame {α : Type} {f : State → α → State} (h : ∀ s x, (f s x).frame = s.frame) (l : List α) (s : State) :
    (l.foldl f s).frame = s.frame := by
  induction l generalizing s with
  | nil => rfl
  | cons x l ih => rw [List.foldl_cons, ih, h]

theorem fst_foldl_frame {α β : Type} {f : State × β → α → State × β}
    (h : ∀ p x, (f p x).1.frame = p.1.frame) (l : List α) (p : State × β) : (l.foldl f p).1.frame = p.1.frame := by
  induction l generalizing p with
  | nil => rfl
  | cons x l ih => rw [List.foldl_cons, ih, h]

/-- What a meaning leaves of memory, queue and datum, when it answers a next state. -/
def outFrame (o : Out) : Option (List Host.Cell × List Instr × Nat) :=
  match o with
  | .next t => some t.frame
  | _ => none

theorem outFrame_next (t : State) : outFrame (.next t) = some t.frame := congrArg id rfl

theorem outFrame_ite (c : Prop) [Decidable c] (o p : Out) :
    outFrame (if c then o else p) = if c then outFrame o else outFrame p := by split <;> rfl

end Sys2Proof.Machine
end

