-- ==== Sys2Proof/Laws/FrameOps.lean ====
section
/-!
SUPPORT. Laws/FrameOps.lean: the functions of Machine/Ops.lean leave memory, the queue and the datum alone.
-/
namespace Sys2Proof.Machine

theorem State.wr_frame (s : State) (a : Nat) (v : Word) :
    (s.wr a v).frame = s.frame := by simp only [State.wr, State.frame_mk, State.frame_eta]

theorem State.wrServed_frame (s : State) (a : Nat) (v : Word) (x : Word) : (s.wrServed a v x).frame = s.frame := by
  simp only [State.wrServed, ↓State.wr_frame, ↓State.frame_mk, ↓State.frame_eta]

theorem State.cycleStart_frame (s : State) : (s.cycleStart).frame = s.frame := by
  simp only [State.cycleStart, ↓State.frame_mk, ↓State.frame_eta]

theorem State.setFld_frame (s : State) (a : Nat) (f : Fld) (v : Nat) :
    (s.setFld a f v).frame = s.frame := by
  simp only [State.setFld, ↓State.wr_frame]

theorem State.sat_frame (s : State) (a : Nat) (f : Fld) (n : Nat) :
    (s.sat a f n).frame = s.frame := by
  simp only [State.sat, ↓State.setFld_frame]

theorem State.wrap_frame (s : State) (a : Nat) (f : Fld) (n : Nat) :
    (s.wrap a f n).frame = s.frame := by
  simp only [State.wrap, ↓State.setFld_frame]

theorem State.down_frame (s : State) (a : Nat) (f : Fld) (n : Nat) :
    (s.down a f n).frame = s.frame := by
  simp only [State.down, ↓State.setFld_frame]

theorem State.keepNow_frame (s : State) (a : Nat) : (s.keepNow a).frame = s.frame := by
  simp only [State.keepNow, ↓State.frame_ite, ↓State.frame_mk, ↓State.frame_eta, ite_self]

theorem State.wrLate_frame (s : State) (a : Nat) (v : Word) : (s.wrLate a v).frame = s.frame := by
  simp only [State.wrLate, ↓State.frame_mk, ↓State.frame_eta]

theorem State.settle_frame (s : State) : s.settle.frame = s.frame := by
  have h (l : List (Nat × Word)) (t : State) : (l.foldr (fun e s => s.wr e.1 e.2) t).frame = t.frame := by
    induction l with
    | nil => rfl
    | cons x l ih => rw [List.foldr_cons, State.wr_frame, ih]
  exact (h _ _).trans (by simp only [↓State.frame_mk, ↓State.frame_eta])

theorem State.setStn_frame (s : State) (i : Nat) (x : StnSt) :
    (s.setStn i x).frame = s.frame := by simp only [State.setStn, State.frame_mk, State.frame_eta]

theorem State.modStn_frame (s : State) (i : Nat) (f : StnSt → StnSt) :
    (s.modStn i f).frame = s.frame := by
  simp only [State.modStn, ↓State.setStn_frame]

theorem State.setNi_frame (s : State) (p : Nat) (x : NiSt) :
    (s.setNi p x).frame = s.frame := by simp only [State.setNi, State.frame_mk, State.frame_eta]

theorem State.modNi_frame (s : State) (p : Nat) (f : NiSt → NiSt) :
    (s.modNi p f).frame = s.frame := by
  simp only [State.modNi, ↓State.setNi_frame]

theorem State.setFed_frame (s : State) (f : Nat) (x : FedSt) :
    (s.setFed f x).frame = s.frame := by simp only [State.setFed, State.frame_mk, State.frame_eta]

theorem State.modFed_frame (s : State) (f : Nat) (g : FedSt → FedSt) :
    (s.modFed f g).frame = s.frame := by
  simp only [State.modFed, ↓State.setFed_frame]

theorem State.modChain_frame (s : State) (b : Nat) (g : ChainEnd → ChainEnd) :
    (s.modChain b g).frame = s.frame := by simp only [State.modChain, State.frame_mk, State.frame_eta]

theorem State.draw_frame (s : State) :
    (s.draw).2.frame = s.frame := by simp only [State.draw, State.frame_mk, State.frame_eta]

theorem State.cnt_frame (s : State) (a : Nat) (n : Nat) :
    (s.cnt a n).frame = s.frame := by
  simp only [State.cnt, ↓State.wr_frame, ↓State.frame_ite, ↓State.frame_mk, ↓State.frame_eta, ite_self]

theorem State.gcnt_frame (s : State) (j : Nat) (n : Nat) :
    (s.gcnt j n).frame = s.frame := by
  simp only [State.gcnt, ↓State.cnt_frame]

theorem State.scnt_frame (s : State) (i : Nat) (j : Nat) (n : Nat) :
    (s.scnt i j n).frame = s.frame := by
  simp only [State.scnt, ↓State.cnt_frame]

theorem State.ncnt_frame (s : State) (p : Nat) (j : Nat) (n : Nat) :
    (s.ncnt p j n).frame = s.frame := by
  simp only [State.ncnt, ↓State.cnt_frame]

theorem State.journal_frame (s : State) (r : JRec) (urgent : Bool) :
    (s.journal r urgent).frame = s.frame := by
  simp only [State.journal, ↓State.sat_frame, ↓State.setFld_frame, ↓State.frame_ite, ↓State.frame_mk,
      ↓State.frame_eta, ite_self]

theorem State.note_frame (s : State) (typ : Nat) (w2 : Nat) (w3 : Nat) :
    (s.note typ w2 w3).frame = s.frame := by
  simp only [State.note, ↓State.journal_frame]

theorem State.mark_frame (s : State) (x : Nat) : (s.mark x).frame = s.frame := by
  simp only [State.mark, ↓State.frame_mk, ↓State.frame_eta]

theorem State.unmark_frame (s : State) (x : Nat) : (s.unmark x).frame = s.frame := by
  simp only [State.unmark, ↓State.frame_mk, ↓State.frame_eta]

theorem State.markAvoid_frame (s : State) (st : Nat) : (s.markAvoid st).frame = s.frame := by
  simp only [State.markAvoid, ↓State.mark_frame, ↓State.frame_mk, ↓State.frame_eta]

theorem State.setPend_frame (s : State) (i : Nat) (b : Bool) :
    (s.setPend i b).frame = s.frame := by
  simp only [State.setPend, ↓State.setFld_frame]

theorem State.setPending_frame (s : State) (i : Nat) :
    (s.setPending i).1.frame = s.frame := by
  simp only [State.setPending, ↓State.gcnt_frame, ↓State.sat_frame, ↓State.setFld_frame, ↓State.setPend_frame,
      ↓State.fst_frame_ite, ↓State.frame_mk, ↓State.frame_eta, ite_self]

theorem State.raise_frame (s : State) (i : Nat) :
    (s.raise i).frame = s.frame := by
  unfold State.raise
  repeat' first
    | with_reducible rfl
    | exact Eq.symm (by assumption)
    | simp only [↓State.setPending_frame, ↓State.frame_ite, ite_self]
    | (split <;> (try (rename_i heq; replace heq := congrArg (fun p => p.1.frame) heq; simp only [↓State.setPending_frame] at heq)))

theorem State.holdLevel_frame (s : State) (i : Nat) :
    (s.holdLevel i).frame = s.frame := by
  simp only [State.holdLevel, ↓State.raise_frame, ↓State.frame_ite, ite_self]

theorem State.seeRise_frame (s t : State) (i : Nat) : (s.seeRise t i).frame = t.frame := by
  simp only [State.seeRise, ↓State.raise_frame, ↓State.frame_ite, ite_self]

theorem State.setCause_frame (s : State) (cause : Nat) (src : Nat) (b : Nat) :
    (s.setCause cause src b).frame = s.frame := by
  simp only [State.setCause, ↓State.seeRise_frame, ↓State.setFld_frame]

theorem State.niCause_frame (s : State) (p : Nat) (b : Nat) :
    (s.niCause p b).frame = s.frame := by
  simp only [State.niCause, ↓State.setCause_frame]

theorem State.stnCause_frame (s : State) (i : Nat) (b : Nat) :
    (s.stnCause i b).frame = s.frame := by
  simp only [State.stnCause, ↓State.setCause_frame]

theorem State.fedCause_frame (s : State) (f : Nat) (b : Nat) :
    (s.fedCause f b).frame = s.frame := by
  simp only [State.fedCause, ↓State.setCause_frame]

theorem State.keepLines_frame (s : State) : (s.keepLines).frame = s.frame := by
  simp only [State.keepLines, ↓State.frame_mk, ↓State.frame_eta]

theorem State.trouble_frame (s : State) (p : Nat) (c : BitVec 4) :
    (s.trouble p c).frame = s.frame := by
  simp only [State.trouble, ↓State.sat_frame, ↓State.frame_ite, ite_self]

theorem State.icap_frame (s : State) (p : Nat) (c : CapInfo) :
    (s.icap p c).frame = s.frame := by
  simp only [State.icap, ↓State.niCause_frame, ↓State.wr_frame, ↓State.frame_ite, ite_self]

theorem State.tcap_frame (s : State) (p : Nat) (c : CapInfo) :
    (s.tcap p c).frame = s.frame := by
  simp only [State.tcap, ↓State.niCause_frame, ↓State.wr_frame, ↓State.frame_ite, ite_self]

theorem State.tcapPkt_frame (s : State) (p : Nat) (code : BitVec 4) (h : Hdr) :
    (s.tcapPkt p code h).frame = s.frame := by
  simp only [State.tcapPkt, ↓State.tcap_frame]

theorem State.putWire_frame (s : State) (st : Nat) (i : Nat) (w : Wire) (lau : Nat) (due : Nat) :
    (s.putWire st i w lau due).frame = s.frame := by
  simp only [State.putWire, ↓State.modStn_frame]

theorem State.sendWire_frame (s : State) (st : Nat) (i : Nat) (w : Wire) (t : Nat) :
    (s.sendWire st i w t).frame = s.frame := by
  simp only [State.sendWire, ↓State.putWire_frame]

theorem State.outAdd_frame (s : State) (b : Nat) (t : Nat) (n : Nat) :
    (s.outAdd b t n).frame = s.frame := by
  simp only [State.outAdd, ↓State.sat_frame]

theorem State.outDone_frame (s : State) (b : Nat) (t : Nat) :
    (s.outDone b t).frame = s.frame := by
  simp only [State.outDone, ↓State.down_frame, ↓State.setFld_frame, ↓State.frame_ite, ite_self]

theorem State.reqPass_frame (s : State) (n : Nat) (cmd : Nat) :
    (s.reqPass n cmd).frame = s.frame := by simp only [State.reqPass, State.frame_mk, State.frame_eta]

theorem State.toSet_frame (s : State) (n : Nat) (v : Nat) :
    (s.toSet n v).frame = s.frame := by
  simp only [State.toSet, ↓State.setFld_frame]

theorem State.modSet_frame (s : State) (n : Nat) (f : StkSet → StkSet) :
    (s.modSet n f).frame = s.frame := by simp only [State.modSet, State.frame_mk, State.frame_eta]

theorem State.abortSet_frame (s : State) (n : Nat) (reason : Nat) :
    (s.abortSet n reason).frame = s.frame := by
  simp only [State.abortSet, ↓State.modSet_frame, ↓State.reqPass_frame, ↓State.toSet_frame]

theorem State.seqFail_frame (s : State) (n : Nat) (cmd : Nat) : (s.seqFail n cmd).frame = s.frame := by
  simp only [State.seqFail, ↓State.abortSet_frame, ↓State.setFld_frame, ↓State.frame_ite, ite_self]

theorem State.seqAnswer_frame (s : State) (b : Nat) (ok : Bool) : (s.seqAnswer b ok).frame = s.frame := by
  unfold State.seqAnswer
  repeat' first
    | with_reducible rfl
    | simp only [↓State.outDone_frame, ↓State.seqFail_frame, ↓State.frame_ite, ↓State.frame_mk, ↓State.frame_eta,
        ite_self]

    | split

theorem State.setAgent_frame (s : State) (b : Nat) (x : Agent) : (s.setAgent b x).frame = s.frame := by
  simp only [State.setAgent, ↓State.frame_mk, ↓State.frame_eta]

theorem State.modAgent_frame (s : State) (b : Nat) (f : Agent → Agent) : (s.modAgent b f).frame = s.frame := by
  simp only [State.modAgent, ↓State.setAgent_frame]

theorem State.agentQueue_frame (s : State) (b : Nat) (p : Pkt) (use : optParam AgentUse AgentUse.answer) (key : optParam Nat 0) (fill : optParam Bool false) :
    (s.agentQueue b p use key fill).frame = s.frame := by
  simp only [State.agentQueue, ↓State.modAgent_frame]

theorem State.agentFill_frame (s : State) (b : Nat) (t : Nat) (d : Nat) : (s.agentFill b t d).frame = s.frame := by
  simp only [State.agentFill, ↓State.outAdd_frame, ↓State.setAgent_frame, ↓State.frame_ite, ite_self]

theorem State.agentFillEnd_frame (s : State) (b : Nat) : (s.agentFillEnd b).frame = s.frame := by
  simp only [State.agentFillEnd, ↓State.outDone_frame, ↓State.setAgent_frame, ↓State.frame_ite, ite_self]

theorem State.fedMark_frame (s : State) (b : Nat) (t : Nat) (d : Nat) (cmd : BitVec 6) :
    (s.fedMark b t d cmd).frame = s.frame := by
  simp only [State.fedMark, ↓State.modFed_frame, ↓State.frame_ite, ite_self]

theorem State.agentPump_frame (s : State) (b n : Nat) : (s.agentPump b n).frame = s.frame := by
  induction n generalizing s with
  | zero => rw [State.agentPump]
  | succ n ih =>
    unfold State.agentPump
    extract_lets
    repeat' first
      | with_reducible rfl
      | simp only [ih, ↓State.agentQueue_frame, ↓State.agentFill_frame, ↓State.modAgent_frame, ↓State.fedMark_frame,
          ↓State.outAdd_frame, ↓State.setAgent_frame, ↓State.frame_ite, ite_self]
      | split

theorem State.agentBuild_frame (s : State) (b : Nat) (o : AgentPkt) : (s.agentBuild b o).frame = s.frame := by
  simp only [State.agentBuild, ↓State.agentPump_frame, ↓State.modAgent_frame]

theorem State.glbSend_frame (s : State) (h : Hdr) (us : List (BitVec 256)) : (s.glbSend h us).frame = s.frame := by
  unfold State.glbSend
  repeat' first
    | with_reducible rfl
    | simp only [↓State.agentQueue_frame, ↓State.outAdd_frame, ↓State.frame_ite, ite_self]
    | split

theorem State.agentSend_frame (s : State) (i : Nat) (h : Hdr) (us : List (BitVec 256)) :
    (s.agentSend i h us).frame = s.frame := by
  simp only [State.agentSend, ↓State.agentBuild_frame]

theorem State.agentBars_frame (s : State) (i : Nat) :
    (s.agentBars i).frame = s.frame := by
  simp only [State.agentBars, ↓State.agentSend_frame, ↓State.modStn_frame, ↓foldl_frame, implies_true]

theorem State.glbBars_frame (s : State) :
    (s.glbBars).frame = s.frame := by
  simp only [State.glbBars, ↓State.glbSend_frame, ↓State.frame_mk, ↓State.frame_eta, ↓foldl_frame, implies_true]

theorem State.answer_frame (s : State) (a : Nat) (r : Req) (read : Bool) (st : BitVec 4) (v : Word) :
    (s.answer a r read st v).frame = s.frame := by
  unfold State.answer
  repeat' first
    | with_reducible rfl
    | simp only [↓State.agentBars_frame, ↓State.agentSend_frame, ↓State.gcnt_frame, ↓State.glbBars_frame,
        ↓State.glbSend_frame, ↓State.modStn_frame, ↓State.frame_ite, ↓State.frame_mk, ↓State.frame_eta, ite_self]
    | split

theorem State.ans_frame (s : State) (a : Nat) (r : Req) (st : BitVec 4) :
    (s.ans a r st).frame = s.frame := by
  simp only [State.ans, ↓State.answer_frame]

end Sys2Proof.Machine
end

