-- ==== Sys2Proof/Laws/FrameObserve.lean ====
section
/-!
SUPPORT. Laws/FrameObserve.lean: the functions of Machine/Observe.lean leave memory, the queue and the datum alone.
-/
namespace Sys2Proof.Machine

theorem State.traceDrop_frame (s : State) :
    (s.traceDrop).frame = s.frame := by
  simp only [State.traceDrop, ↓State.gcnt_frame, ↓State.sat_frame]

theorem State.trace_frame (s : State) (st : Nat) (r : TraceRec) :
    (s.trace st r).frame = s.frame := by
  simp only [State.trace, ↓State.modStn_frame, ↓State.traceDrop_frame, ↓State.frame_ite, ite_self]

theorem probeStep_frame (s : State) (filter : Nat) (action : Nat) (status : Nat) (n : Nat) (h : Hdr) :
    (probeStep s filter action status n h).1.frame = s.frame := by
  simp only [probeStep, ↓State.gcnt_frame, ↓State.sat_frame, ↓State.setFld_frame, ↓State.frame_ite,
      ↓State.fst_frame_ite, ite_self]

theorem State.probeFreeze_frame (s : State) (action : Nat) :
    (s.probeFreeze action).frame = s.frame := by
  simp only [State.probeFreeze, ↓State.setFld_frame, ↓State.frame_ite, ite_self]

theorem State.probeStn_frame (s : State) (st : Nat) (i : Nat) (v : Nat) (h : Hdr) :
    (s.probeStn st i v h).frame = s.frame := by
  simp only [State.probeStn, ↓State.modStn_frame, ↓State.probeFreeze_frame, ↓State.trace_frame, ↓probeStep_frame,
      ↓State.frame_ite, ite_self]

theorem State.probeNi_frame (s : State) (p : Nat) (arrival : Bool) (v : Nat) (h : Hdr) (fail : Bool) :
    (s.probeNi p arrival v h fail).1.frame = s.frame := by
  simp only [State.probeNi, ↓State.modNi_frame, ↓State.probeFreeze_frame, ↓State.trace_frame, ↓probeStep_frame,
      ↓State.frame_ite, ↓State.fst_frame_ite, ite_self]

theorem State.buildPoint_frame (s : State) (p : Nat) (sampled : Bool) (h : Hdr) :
    (s.buildPoint p sampled h).1.frame = s.frame := by
  simp only [State.buildPoint, ↓State.gcnt_frame, ↓State.modNi_frame, ↓State.probeNi_frame, ↓State.sat_frame,
      ↓State.trace_frame, ↓State.fst_frame_ite, ite_self]

theorem State.arrivePoint_frame (s : State) (p : Nat) (v : Nat) (q : Pkt) :
    (s.arrivePoint p v q).frame = s.frame := by
  simp only [State.arrivePoint, ↓State.probeNi_frame, ↓State.trace_frame, ↓State.frame_ite, ite_self]

theorem State.hopRecord_frame (s : State) (st : Nat) (i : Nat) (v : Nat) (o : Nat) (wait : Nat) (bw : Nat) (h : Hdr) :
    (s.hopRecord st i v o wait bw h).frame = s.frame := by
  simp only [State.hopRecord, ↓State.trace_frame, ↓State.frame_ite, ite_self]

end Sys2Proof.Machine
end

