-- ==== Sys2Proof/Laws/FrameAccess.lean ====
section
/-!
SUPPORT. Laws/FrameAccess.lean: the functions of Machine/Access.lean leave memory, the queue and the datum alone.
-/
namespace Sys2Proof.Machine

theorem State.plainWrite_frame (s : State) (a : Nat) (r : Req) : (s.plainWrite a r).1.frame = s.frame := by
  unfold State.plainWrite
  repeat' first
    | with_reducible rfl
    | simp only [↓State.keepNow_frame, ↓State.wrServed_frame, ↓State.frame_ite, ↓State.fst_frame_mk, ite_self]
    | split

theorem State.serve_frame (s : State) (a : Nat) (r : Req) (act : State → State × BitVec 4)
    (h : (act s).1.frame = s.frame) : (s.serve a r act).frame = s.frame := by
  unfold State.serve
  repeat' first
    | with_reducible rfl
    | simp only [↓State.ans_frame, h]
    | split

end Sys2Proof.Machine
end

