-- ==== Sys2Proof/Laws/FrameStation.lean ====
section
/-!
SUPPORT. Laws/FrameStation.lean: the functions of Machine/Station.lean leave memory, the queue and the datum alone.
-/
namespace Sys2Proof.Machine

theorem State.sinkAct_frame (s : State) (st : Nat) (h : Option Hdr) :
    (s.sinkAct st h).frame = s.frame := by
  unfold State.sinkAct
  repeat' first
    | with_reducible rfl
    | simp only [↓State.modStn_frame, ↓State.sat_frame, ↓State.setFld_frame, ↓State.stnCause_frame, ↓State.frame_ite,
        ite_self]
    | split

theorem State.oweCredit_frame (s : State) (st : Nat) (i : Nat) (v : Nat) :
    (s.oweCredit st i v).frame = s.frame := by
  simp only [State.oweCredit, ↓State.modStn_frame]

theorem State.credit_frame (s : State) (st : Nat) (o : Nat) (v : Nat) :
    (s.credit st o v).frame = s.frame := by
  simp only [State.credit, ↓State.setFld_frame]

theorem State.lockLost_frame (s : State) (st : Nat) (n : Nat) (lane : Nat) :
    (s.lockLost st n lane).frame = s.frame := by
  simp only [State.lockLost, ↓State.modStn_frame, ↓State.setFld_frame]

theorem State.laneFail_frame (s : State) (st : Nat) (n : Nat) (lane : Nat) (hard : Bool) :
    (s.laneFail st n lane hard).frame = s.frame := by
  simp only [State.laneFail, ↓State.lockLost_frame, ↓State.sat_frame, ↓State.setFld_frame, ↓State.frame_ite,
      ↓State.frame_mk, ↓State.frame_eta, ite_self]

theorem State.laneSbe_frame (s : State) (st : Nat) (n : Nat) (lane : Nat) :
    (s.laneSbe st n lane).frame = s.frame := by
  simp only [State.laneSbe, ↓State.laneFail_frame, ↓State.modStn_frame, ↓State.setFld_frame, ↓State.frame_ite,
      ite_self]

theorem State.sinkFlit_frame (s : State) (st : Nat) (i : Nat) (v : Nat) (h : Option Hdr) (tail : Bool) :
    (s.sinkFlit st i v h tail).frame = s.frame := by
  simp only [State.sinkFlit, ↓State.modStn_frame, ↓State.oweCredit_frame, ↓State.sinkAct_frame, ↓State.frame_ite,
      ite_self]

theorem State.absorbCount_frame (s : State) (st : Nat) (x2 : HeadFate) :
    (s.absorbCount st x2).frame = s.frame := by
  unfold State.absorbCount
  repeat' first
    | with_reducible rfl
    | simp only [↓State.sat_frame, ↓State.scnt_frame, ↓State.stnCause_frame]
    | split

theorem State.bufWrite_frame (s : State) (st : Nat) (i : Nat) (v : Nat) (b : BFlit) :
    (s.bufWrite st i v b).frame = s.frame := by
  simp only [State.bufWrite, ↓State.modStn_frame]

theorem State.bwFlit_frame (s : State) (st : Nat) (i : Nat) (f : Flit) : (s.bwFlit st i f).frame = s.frame := by
  unfold State.bwFlit
  repeat' first
    | with_reducible rfl
    | simp only [↓State.absorbCount_frame, ↓State.bufWrite_frame, ↓State.hopRecord_frame, ↓State.modStn_frame,
        ↓State.oweCredit_frame, ↓State.probeStn_frame, ↓State.sat_frame, ↓State.scnt_frame, ↓State.setFld_frame,
        ↓State.sinkFlit_frame, ↓State.stnCause_frame, ↓State.frame_ite, ite_self]
    | split

theorem State.deccDueCount_frame (s : State) (st : Nat) (i : Nat) : (s.deccDueCount st i).frame = s.frame := by
  simp only [State.deccDueCount, ↓State.sat_frame, ↓State.scnt_frame, ↓State.frame_ite, ite_self]

theorem State.dueFlit_frame (s : State) (st : Nat) (i : Nat) (f : Flit) (payload : BitVec 256) (side : BitVec 36) :
    (s.dueFlit st i f payload side).frame = s.frame := by
  unfold State.dueFlit
  repeat' first
    | with_reducible rfl
    | simp only [↓State.bwFlit_frame, ↓State.deccDueCount_frame, ↓State.modStn_frame, ↓State.sat_frame,
        ↓State.scnt_frame, ↓State.sinkFlit_frame, ↓State.stnCause_frame, ↓State.frame_ite]

    | split

theorem State.ceccDue_frame (s : State) (st : Nat) (i : Nat) :
    (s.ceccDue st i).frame = s.frame := by
  simp only [State.ceccDue, ↓State.modStn_frame, ↓State.sat_frame, ↓State.scnt_frame, ↓State.frame_ite, ite_self]

theorem State.corrected_frame (s : State) (st : Nat) (i : Nat) (b : Nat) : (s.corrected st i b).frame = s.frame := by
  simp only [State.corrected, ↓State.laneSbe_frame, ↓State.sat_frame, ↓State.scnt_frame, ↓State.frame_ite, ite_self]

theorem State.popWire_frame (s : State) (st : Nat) (i : Nat) :
    (s.popWire st i).frame = s.frame := by
  simp only [State.popWire, ↓State.modStn_frame]

theorem State.takeCret_frame (s : State) (st : Nat) (i : Nat) (w : Wire) :
    (s.takeCret st i w).frame = s.frame := by
  unfold State.takeCret
  repeat' first
    | with_reducible rfl
    | simp only [↓State.credit_frame]
    | split

theorem State.forcedErr_frame (s : State) (st : Nat) (i : Nat) (e : LinkErr) (payload : BitVec 256) (side : BitVec 36) :
    (s.forcedErr st i e payload side).1.frame = s.frame := by
  simp only [State.forcedErr, ↓State.sat_frame, ↓State.fst_frame_ite, ↓State.fst_frame_mk, ite_self]

theorem State.idleErr_frame (s : State) (st : Nat) (i : Nat) (x3 : LinkErr) :
    (s.idleErr st i x3).frame = s.frame := by
  unfold State.idleErr
  repeat' first
    | with_reducible rfl
    | simp only [↓State.ceccDue_frame, ↓State.corrected_frame, ↓State.deccDueCount_frame]

    | split

theorem State.beErr_frame (s : State) (st : Nat) (i : Nat) (f : Flit) (x4 : LinkErr) :
    (s.beErr st i f x4).frame = s.frame := by
  unfold State.beErr
  repeat' first
    | with_reducible rfl
    | simp only [↓State.bwFlit_frame, ↓State.ceccDue_frame, ↓State.corrected_frame, ↓State.dueFlit_frame]

    | split

theorem execLinkFlitReceive_frame (st : Fin 36) (i : Fin 12) (e : LinkErr) (s : State) :
    outFrame (execLinkFlitReceive st i e s) = some s.frame := by
  unfold execLinkFlitReceive
  repeat' first
    | with_reducible rfl
    | simp only [↓State.beErr_frame, ↓State.ceccDue_frame, ↓State.forcedErr_frame, ↓State.idleErr_frame,
        ↓State.modStn_frame, ↓State.popWire_frame, ↓State.takeCret_frame, ↓State.frame_ite, ↓outFrame_next,
        ↓outFrame_ite, ite_self]
    | split

theorem State.launch_frame (s : State) (st : Nat) (o : Nat) (w : Wire) (t : Nat) :
    (s.launch st o w t).frame = s.frame := by
  simp only [State.launch, ↓State.putWire_frame]

theorem State.putOff_frame (s : State) (st : Nat) (o : Nat) (t : Nat) (d : Nat) :
    (s.putOff st o t d).frame = s.frame := by
  simp only [State.putOff, ↓State.launch_frame, ↓State.modStn_frame, ↓foldl_frame, implies_true]

theorem execResyncSend_frame (st : Fin 36) (n : Fin 6) (s : State) :
    outFrame (execResyncSend st n s) = some s.frame := by
  simp only [execResyncSend, ↓State.launch_frame, ↓State.modStn_frame, ↓State.setFld_frame, ↓State.stnCause_frame,
      ↓foldl_frame, ↓outFrame_next, ↓outFrame_ite, ite_self, implies_true]

theorem execResyncReceive_frame (st : Fin 36) (n : Fin 6) (s : State) :
    outFrame (execResyncReceive st n s) = some s.frame := by
  unfold execResyncReceive
  repeat' first
    | with_reducible rfl
    | simp only [↓State.modStn_frame, ↓State.popWire_frame, ↓State.putOff_frame, ↓outFrame_next]
    | split

theorem execResyncEnd_frame (st : Fin 36) (n : Fin 6) (s : State) :
    outFrame (execResyncEnd st n s) = some s.frame := by
  unfold execResyncEnd
  extract_lets st n tx o
  split
  · split
    · rfl
    · rename_i s1 s2 s3 s4 s5 s6 _ _ _ _
      have h4 : s4.frame = s.frame := by
        unfold s4 s3 s2 s1; simp only [State.wr_frame, State.modStn_frame]
      have h5 : s5.frame = s4.frame := foldl_frame (fun s f => by split <;> simp only [State.down_frame]) _ _
      rw [outFrame_next, State.scnt_frame, State.sat_frame]
      exact congrArg some ((State.setFld_frame ..).trans (h5.trans h4))
  · rfl

theorem State.put_frame (s : State) (st : Nat) (o : Nat) (f : Flit) (t : Nat) : (s.put st o f t).frame = s.frame := by
  unfold State.put
  repeat' first
    | with_reducible rfl
    | simp only [↓State.launch_frame, ↓State.modAgent_frame, ↓State.modNi_frame, ↓State.frame_ite]

    | split

theorem State.sendFront_frame (s : State) (st : Nat) (i : Nat) (v : Nat) (o : Nat) (w : Nat) :
    (s.sendFront st i v o w).frame = s.frame := by
  unfold State.sendFront
  repeat' first
    | with_reducible rfl
    | simp only [↓State.hopRecord_frame, ↓State.modStn_frame, ↓State.oweCredit_frame, ↓State.put_frame,
        ↓State.scnt_frame, ↓State.setFld_frame, ↓State.frame_ite, ite_self]
    | split

theorem State.grantVc_frame (s : State) (st : Nat) (o : Nat) (i : Nat) (v : Nat) (c : Nat) (w : Nat) (parked : Bool) :
    (s.grantVc st o i v c w parked).frame = s.frame := by
  simp only [State.grantVc, ↓State.modStn_frame]

theorem State.saRun_frame (s : State) (st : Nat) (o : Nat) : (s.saRun st o).frame = s.frame := by
  unfold State.saRun
  repeat' first
    | with_reducible rfl
    | simp only [↓State.modStn_frame, ↓State.sendFront_frame, ↓State.frame_ite, ite_self]
    | split

theorem execVcAllocate_frame (st : Fin 36) (o : Fin 12) (s : State) :
    outFrame (execVcAllocate st o s) = some s.frame := by
  unfold execVcAllocate
  repeat' first
    | with_reducible rfl
    | simp only [↓State.grantVc_frame, ↓State.modStn_frame, ↓State.saRun_frame, ↓State.scnt_frame, ↓outFrame_next,
        ↓outFrame_ite, ite_self]
    | split

theorem State.dropCut_frame (s : State) (st : Nat) (i : Nat) (v : Nat) :
    (s.dropCut st i v).frame = s.frame := by
  unfold State.dropCut
  repeat' first
    | with_reducible rfl
    | simp only [↓State.modStn_frame, ↓State.oweCredit_frame, ↓State.frame_ite]
    | split

theorem execSwitchAllocate_frame (st : Fin 36) (o : Fin 12) (s : State) :
    outFrame (execSwitchAllocate st o s) = some s.frame := by
  simp only [execSwitchAllocate, ↓State.dropCut_frame, ↓State.saRun_frame, ↓foldl_frame, ↓outFrame_next,
      ↓outFrame_ite, ite_self, implies_true]

theorem State.absorbHeld_frame (s : State) (st : Nat) (i : Nat) (v : Nat) :
    (s.absorbHeld st i v).frame = s.frame := by
  unfold State.absorbHeld
  repeat' first
    | with_reducible rfl
    | simp only [↓State.hopRecord_frame, ↓State.modStn_frame, ↓State.oweCredit_frame, ↓State.setFld_frame,
        ↓State.sinkAct_frame, ↓State.frame_ite, ite_self, ↓foldl_frame, implies_true]
    | split

theorem State.releaseHeld_frame (s : State) (st : Nat) (i : Nat) (v : Nat) :
    (s.releaseHeld st i v).frame = s.frame := by
  unfold State.releaseHeld
  repeat' first
    | with_reducible rfl
    | simp only [↓State.absorbCount_frame, ↓State.absorbHeld_frame, ↓State.modStn_frame, ↓State.sat_frame,
        ↓State.setFld_frame]
    | split

theorem execHeldHeadTimeout_frame (st : Fin 36) (i : Fin 12) (v : Fin 7) (s : State) :
    outFrame (execHeldHeadTimeout st i v s) = some s.frame := by
  unfold execHeldHeadTimeout
  repeat' first
    | with_reducible rfl
    | simp only [↓State.absorbCount_frame, ↓State.absorbHeld_frame, ↓outFrame_next, ↓outFrame_ite, ite_self]
    | split

theorem State.releaseAll_frame (s : State) (st : Nat) : (s.releaseAll st).frame = s.frame := by
  unfold State.releaseAll
  refine foldl_frame (fun s i => foldl_frame (fun s v => foldl_frame (fun s _ => ?_) _ _) _ _) _ _
  simp only [↓State.releaseHeld_frame]

theorem execAgentNorouteSend_frame (st : Fin 36) (s : State) :
    outFrame (execAgentNorouteSend st s) = some s.frame := by
  unfold execAgentNorouteSend
  repeat' first
    | with_reducible rfl
    | simp only [↓State.agentSend_frame, ↓State.modStn_frame, ↓State.sat_frame, ↓State.setFld_frame, ↓outFrame_next]
    | split

end Sys2Proof.Machine
end

