-- ==== Sys2Proof/Laws/FrameLocal.lean ====
section
/-!
SUPPORT. Laws/FrameLocal.lean: the functions of Machine/Local.lean leave memory, the queue and the datum alone.
-/
namespace Sys2Proof.Machine

theorem State.misfit_frame (s : State) (st : Nat) (toGlb : Bool) : (s.misfit st toGlb).frame = s.frame := by
  simp only [State.misfit, ↓State.sat_frame, ↓State.frame_ite, ite_self]

theorem State.agentReply_frame (s : State) (st : Nat) (toGlb : Bool) (q : Hdr) (code : BitVec 4) :
    (s.agentReply st toGlb q code).frame = s.frame := by
  unfold State.agentReply
  repeat' first
    | with_reducible rfl
    | simp only [↓State.agentSend_frame, ↓State.glbSend_frame, ↓State.frame_ite, ite_self]
    | split

theorem State.ownResponse_frame (s : State) (st : Nat) (toGlb : Bool) (p : Pkt) :
    (s.ownResponse st toGlb p).frame = s.frame := by
  unfold State.ownResponse
  repeat' first
    | with_reducible rfl
    | simp only [↓State.misfit_frame, ↓State.modAgent_frame, ↓State.outDone_frame, ↓State.seqAnswer_frame,
        ↓State.frame_ite, ↓State.frame_mk, ↓State.frame_eta, ite_self]
    | split

theorem State.agentArrive_frame (s : State) (st : Nat) (p : Pkt) : (s.agentArrive st p).frame = s.frame := by
  simp only [State.agentArrive, ↓State.agentReply_frame, ↓State.misfit_frame, ↓State.modStn_frame,
      ↓State.ownResponse_frame, ↓State.frame_ite, ↓State.frame_mk, ↓State.frame_eta, ite_self]

theorem State.niArrive_frame (s : State) (p : Nat) (v : Nat) (q : Pkt) :
    (s.niArrive p v q).frame = s.frame := by
  simp only [State.niArrive, ↓State.arrivePoint_frame, ↓State.modNi_frame]

theorem State.agentTake_frame (s : State) (b : Nat) (p : Pkt) : (s.agentTake b p).frame = s.frame := by
  simp only [State.agentTake, ↓State.agentArrive_frame, ↓State.modAgent_frame, ↓State.modFed_frame, ↓State.frame_ite,
      ite_self]

theorem State.niCycle_frame (s : State) (p : Nat) : (s.niCycle p).frame = s.frame := by
  simp only [State.niCycle, ↓State.modNi_frame, ↓State.ncnt_frame, ↓State.niArrive_frame, ↓foldl_frame, implies_true]

theorem State.agentCycle_frame (s : State) (b : Nat) : (s.agentCycle b).frame = s.frame := by
  simp only [State.agentCycle, ↓State.agentTake_frame, ↓State.modAgent_frame, ↓foldl_frame, implies_true]

theorem State.fwdCount_frame (s : State) (f : Nat) :
    (s.fwdCount f).frame = s.frame := by
  simp only [State.fwdCount, ↓State.setFld_frame]

theorem State.fwdTake_frame (s : State) (f : Nat) (t : Nat) (h : Hdr) :
    (s.fwdTake f t h).frame = s.frame := by
  unfold State.fwdTake
  repeat' first
    | with_reducible rfl
    | simp only [↓State.fwdCount_frame, ↓State.modFed_frame, ↓State.outAdd_frame]
    | split

theorem State.ingNext_frame (s : State) (f : Nat) (k : Nat) : (s.ingNext f k).frame = s.frame := by
  simp only [State.ingNext, ↓State.modFed_frame]

theorem State.fedGone_frame (s : State) (b : Nat) (t : TxPkt) : (s.fedGone b t).frame = s.frame := by
  simp only [State.fedGone, ↓State.fwdTake_frame, ↓State.ingNext_frame, ↓State.modFed_frame, ↓State.frame_ite,
      ite_self]

theorem State.txDriven_frame (s : State) (b : Nat) (t : TxPkt) (f : Flit) (last : Bool) :
    (s.txDriven b t f last).frame = s.frame := by
  unfold State.txDriven
  repeat' first
    | with_reducible rfl
    | simp only [↓State.fedGone_frame, ↓State.modAgent_frame, ↓State.outDone_frame, ↓State.frame_ite, ite_self]
    | split

theorem State.agentDrive_frame (s : State) (b : Nat) : (s.agentDrive b).frame = s.frame := by
  unfold State.agentDrive
  repeat' first
    | with_reducible rfl
    | simp only [↓State.sendWire_frame, ↓State.setAgent_frame, ↓State.txDriven_frame]

    | split

theorem State.agentReturn_frame (s : State) (b : Nat) : (s.agentReturn b).frame = s.frame := by
  unfold State.agentReturn
  repeat' first
    | with_reducible rfl
    | simp only [↓State.credit_frame, ↓State.modAgent_frame]

    | split

theorem State.creditUnit_frame (s : State) (st : Nat) (i : Nat) (v : Nat) :
    (s.creditUnit st i v).frame = s.frame := by
  unfold State.creditUnit
  repeat' first
    | with_reducible rfl
    | simp only [↓State.modAgent_frame, ↓State.modNi_frame, ↓State.frame_ite]

    | split

theorem State.sendCret_frame (s : State) (st : Nat) (o : Nat) : (s.sendCret st o).frame = s.frame := by
  unfold State.sendCret
  repeat' first
    | with_reducible rfl
    | simp only [↓State.creditUnit_frame, ↓State.launch_frame, ↓State.modStn_frame, ↓State.frame_ite, ite_self]
    | split

theorem State.stnCrets_frame (s : State) (st : Nat) : (s.stnCrets st).frame = s.frame := by
  simp only [State.stnCrets, ↓State.sendCret_frame, ↓foldl_frame, implies_true]

theorem State.linkCycle_frame (s : State) (hold : State → Nat → Bool) : (s.linkCycle hold).frame = s.frame := by
  simp only [State.linkCycle, ↓State.agentCycle_frame, ↓State.agentDrive_frame, ↓State.agentReturn_frame,
      ↓State.niCycle_frame, ↓State.stnCrets_frame, ↓State.frame_ite, ↓foldl_frame, ite_self, implies_true]

end Sys2Proof.Machine
end

