-- ==== Sys2Proof/Laws/FrameNi.lean ====
section
/-!
SUPPORT. Laws/FrameNi.lean: the functions of Machine/Ni.lean leave memory, the queue and the datum alone.
-/
namespace Sys2Proof.Machine

theorem State.setReq_frame (s : State) (p : Nat) (t : Nat) (v : Option NiReq) :
    (s.setReq p t v).frame = s.frame := by
  simp only [State.setReq, ↓State.modNi_frame]

theorem State.setBar_frame (s : State) (p : Nat) (t : Nat) (v : Option NiReq) :
    (s.setBar p t v).frame = s.frame := by
  simp only [State.setBar, ↓State.modNi_frame]

theorem State.setAcc_frame (s : State) (p : Nat) (k : Nat) (v : Option UAcc) :
    (s.setAcc p k v).frame = s.frame := by
  simp only [State.setAcc, ↓State.modNi_frame]

theorem State.nextSeq_frame (s : State) (p : Nat) :
    (s.nextSeq p).2.frame = s.frame := by
  simp only [State.nextSeq, ↓State.modNi_frame]

theorem State.initErr_frame (s : State) (p : Nat) (posted : Bool) (e : ErrEnd) :
    (s.initErr p posted e).frame = s.frame := by
  simp only [State.initErr, ↓State.icap_frame, ↓State.trouble_frame]

theorem State.present_frame (s : State) (p : Nat) (ans : IsAns) :
    (s.present p ans).frame = s.frame := by
  simp only [State.present, ↓State.modNi_frame, ↓State.setAcc_frame, ↓State.frame_ite, ite_self]

theorem State.accDone_frame (s : State) (p : Nat) (key : Nat) (a : UAcc) :
    (s.accDone p key a).frame = s.frame := by
  unfold State.accDone
  repeat' first
    | with_reducible rfl
    | simp only [↓State.initErr_frame, ↓State.ncnt_frame, ↓State.present_frame, ↓State.setAcc_frame, ↓State.frame_ite,
        ite_self]
    | split

theorem State.accEnd_frame (s : State) (p : Nat) (key : Nat) (data : List (Nat × Byte)) (rel : List (Nat × Nat)) (wrxf : Bool) (e : Option ErrEnd) :
    (s.accEnd p key data rel wrxf e).frame = s.frame := by
  unfold State.accEnd
  repeat' first
    | with_reducible rfl
    | simp only [↓State.accDone_frame, ↓State.setAcc_frame, ↓State.frame_ite, ite_self]
    | split

theorem State.portBarEnd_frame (s : State) (p : Nat) (tag : Nat) (e : Option ErrEnd) :
    (s.portBarEnd p tag e).frame = s.frame := by
  simp only [State.portBarEnd, ↓State.modNi_frame]

theorem State.drainBarEnd_frame (s : State) (p : Nat) (tag : Nat) (bad : Bool) :
    (s.drainBarEnd p tag bad).frame = s.frame := by
  unfold State.drainBarEnd
  repeat' first
    | with_reducible rfl
    | simp only [↓State.outDone_frame, ↓State.sat_frame, ↓State.setBar_frame, ↓State.frame_ite, ite_self]
    | split

theorem State.postedGone_frame (s : State) (p : Nat) (o : OutPkt) :
    (s.postedGone p o).frame = s.frame := by
  unfold State.postedGone
  repeat' first
    | with_reducible rfl
    | simp only [↓State.accEnd_frame, ↓State.outDone_frame]
    | split

theorem State.reqFail_frame (s : State) (p : Nat) (kind : OutKind) (h : Hdr) (code : BitVec 4) (by' : Nat) :
    (s.reqFail p kind h code by').frame = s.frame := by
  unfold State.reqFail
  repeat' first
    | with_reducible rfl
    | simp only [↓State.accEnd_frame, ↓State.drainBarEnd_frame, ↓State.outDone_frame, ↓State.portBarEnd_frame,
        ↓State.setReq_frame]
    | split

theorem State.setWays_frame (s : State) (p : Nat) (k : Nat) (ws : List CacheWay) :
    (s.setWays p k ws).frame = s.frame := by
  simp only [State.setWays, ↓State.modNi_frame]

theorem State.cacheHit_frame (s : State) (p t : Nat) (d : Gid) (u : BitVec 64 × State)
    (h : s.cacheHit p t d = some u) : u.2.frame = s.frame := by
  unfold State.cacheHit at h
  dsimp only at h
  split at h
  · cases h; simp only [↓State.setWays_frame]
  · cases h

theorem State.cacheFill_frame (s : State) (p : Nat) (t : Nat) (d : Gid) (r : BitVec 64) :
    (s.cacheFill p t d r).frame = s.frame := by
  simp only [State.cacheFill, ↓State.setWays_frame]

theorem State.setClsq_frame (s : State) (p : Nat) (c : Nat) (q : List OutPkt) :
    (s.setClsq p c q).frame = s.frame := by
  simp only [State.setClsq, ↓State.modNi_frame]

theorem State.tagHead_frame (s : State) (p : Nat) (c : Nat) (st : Nat) :
    (s.tagHead p c st).frame = s.frame := by
  unfold State.tagHead
  repeat' first
    | with_reducible rfl
    | simp only [↓State.modNi_frame, ↓State.setClsq_frame]
    | split

theorem State.joinClass_frame (s : State) (p : Nat) (o : OutPkt) :
    (s.joinClass p o).frame = s.frame := by
  simp only [State.joinClass, ↓State.setClsq_frame, ↓State.tagHead_frame, ↓State.frame_ite, ite_self]

theorem State.vMax_frame (s : State) (p : Nat) (t : Nat) :
    (s.vMax p t).frame = s.frame := by
  simp only [State.vMax, ↓State.setFld_frame]

theorem State.vEmpty_frame (s : State) (p : Nat) : (s.vEmpty p).frame = s.frame := by
  simp only [State.vEmpty, ↓State.vMax_frame, ↓State.frame_ite, ↓foldl_frame, ite_self, implies_true]

theorem State.dropClass_frame (s : State) (p : Nat) (c : Nat) (gone : OutPkt → Bool) :
    (s.dropClass p c gone).frame = s.frame := by
  simp only [State.dropClass, ↓State.setClsq_frame, ↓State.tagHead_frame, ↓State.vEmpty_frame, ↓State.frame_ite,
      ite_self]

theorem State.mapPaths_frame (s : State) (p : Nat) (f : OutPkt → OutPkt) : (s.mapPaths p f).frame = s.frame := by
  simp only [State.mapPaths, ↓State.modNi_frame]

theorem State.leavePath_frame (s : State) (p : Nat) (gone : OutPkt → Bool) :
    (s.leavePath p gone).frame = s.frame := by
  simp only [State.leavePath, ↓State.dropClass_frame, ↓State.modNi_frame, ↓foldl_frame, implies_true]

theorem State.joinPath_frame (s : State) (p : Nat) (o : OutPkt) :
    (s.joinPath p o).frame = s.frame := by
  unfold State.joinPath
  repeat' first
    | with_reducible rfl
    | simp only [↓State.joinClass_frame, ↓State.modNi_frame]
    | split

theorem State.noRouteEnd_frame (s : State) (p : Nat) (o : OutPkt) :
    (s.noRouteEnd p o).frame = s.frame := by
  unfold State.noRouteEnd
  repeat' first
    | with_reducible rfl
    | simp only [↓State.initErr_frame, ↓State.outDone_frame, ↓State.postedGone_frame, ↓State.reqFail_frame,
        ↓State.sat_frame, ↓State.setFld_frame]
    | split

theorem State.await_frame (s : State) (p : Nat) (o : OutPkt) (h : Hdr) :
    (s.await p o h).frame = s.frame := by
  unfold State.await
  repeat' first
    | with_reducible rfl
    | simp only [↓State.setBar_frame, ↓State.setReq_frame]
    | split

theorem State.markPosted_frame (s : State) (p : Nat) (t : Nat) (d : Nat) (cmd : BitVec 6) :
    (s.markPosted p t d cmd).frame = s.frame := by
  simp only [State.markPosted, ↓State.modNi_frame, ↓State.frame_ite, ite_self]

theorem State.setWait_frame (s : State) (p : Nat) (rsp : Bool) (w : Option FillWait) :
    (s.setWait p rsp w).frame = s.frame := by
  simp only [State.setWait, ↓State.modNi_frame, ↓State.setFld_frame]

theorem State.startFill_frame (s : State) (p : Nat) (rsp : Bool) (o : OutPkt) :
    (s.startFill p rsp o).frame = s.frame := by
  simp only [State.startFill, ↓State.modNi_frame, ↓State.outAdd_frame, ↓State.setWait_frame]

theorem State.buildNow_frame (s : State) (p : Nat) (rsp : Bool) (o : OutPkt) (tag : Nat) :
    (s.buildNow p rsp o tag).frame = s.frame := by
  have hn := State.nextSeq_frame s p
  unfold State.buildNow
  extract_lets t
  split
  rename_i q u he
  rw [he] at hn
  extract_lets h v b
  have hv : v.frame = s.frame := by
    unfold v
    split
    · exact hn
    · rw [State.outAdd_frame]; exact hn
  have hb := State.buildPoint_frame v p b h
  split
  rename_i w g hw
  rw [hw] at hb
  extract_lets o2 w2
  have h2 : w2.frame = s.frame := (State.await_frame ..).trans (hb.trans hv)
  clear_value w2 o2
  split
  · rw [State.noRouteEnd_frame]; exact h2
  · extract_lets w3
    have h3 : w3.frame = s.frame := (State.markPosted_frame ..).trans h2
    clear_value w3
    split
    · rw [State.joinPath_frame]; exact (State.cacheHit_frame _ _ _ _ _ (by assumption)).trans h3
    · rw [State.startFill_frame, State.joinPath_frame]; exact h3

theorem State.pumpReq_frame (s : State) (p n : Nat) : (s.pumpReq p n).frame = s.frame := by
  induction n generalizing s with
  | zero => rw [State.pumpReq]
  | succ n ih =>
    unfold State.pumpReq
    repeat' first
      | with_reducible rfl
      | simp only [ih, ↓State.buildNow_frame, ↓State.modNi_frame]
      | split

theorem State.pumpRsp_frame (s : State) (p n : Nat) : (s.pumpRsp p n).frame = s.frame := by
  induction n generalizing s with
  | zero => rw [State.pumpRsp]
  | succ n ih =>
    unfold State.pumpRsp
    repeat' first
      | with_reducible rfl
      | simp only [ih, ↓State.buildNow_frame, ↓State.modNi_frame]
      | split

theorem State.pump_frame (s : State) (p : Nat) :
    (s.pump p).frame = s.frame := by
  simp only [State.pump, ↓State.pumpReq_frame, ↓State.pumpRsp_frame]

theorem State.buildReqs_frame (s : State) (p : Nat) (os : List OutPkt) :
    (s.buildReqs p os).frame = s.frame := by
  simp only [State.buildReqs, ↓State.modNi_frame, ↓State.pump_frame]

theorem State.respond_frame (s : State) (p : Nat) (q : Hdr) (cmd : BitVec 6) (status : BitVec 4) (units : List (BitVec 256)) :
    (s.respond p q cmd status units).frame = s.frame := by
  simp only [State.respond, ↓State.modNi_frame, ↓State.pump_frame]

end Sys2Proof.Machine
end

