-- ==== Sys2Proof/Laws/FrameShadow.lean ====
section
/-!
SUPPORT. Laws/FrameShadow.lean: the functions of Machine/Shadow.lean leave memory, the queue and the datum alone.
-/
namespace Sys2Proof.Machine

theorem State.placeShadow_frame (s : State) (a : Nat) (v : Word) (u : State)
    (h : s.placeShadow a v = some u) : u.frame = s.frame := by
  unfold State.placeShadow at h
  dsimp only at h
  (repeat' split at h) <;> first
    | (cases h; done)
    | (cases h; simp only [↓State.setFld_frame, ↓State.frame_mk, ↓State.frame_eta])

theorem State.rwsWrite_frame (s : State) (a : Nat) (row : RegRow) (data : Word) (u : State)
    (h : s.rwsWrite a row data = some u) : u.frame = s.frame := by
  unfold State.rwsWrite at h
  dsimp only at h
  split at h
  · cases h; rfl
  · exact State.placeShadow_frame _ _ _ _ h

end Sys2Proof.Machine
end

