-- ==== Sys2Proof/Laws/FrameChains.lean ====
section
/-!
SUPPORT. Laws/FrameChains.lean: the functions of Machine/Chains.lean leave memory, the queue and the datum alone.
-/
namespace Sys2Proof.Machine

theorem State.gErr_frame (s : State) (st : Nat) (f : Fld) (g : GFlit) :
    (s.gErr st f g).frame = s.frame := by
  simp only [State.gErr, ↓State.sat_frame, ↓State.scnt_frame, ↓State.setFld_frame, ↓State.stnCause_frame]

theorem State.gSend_frame (s : State) (st : Nat) (o : Nat) (t : Nat) (g : GFlit) :
    (s.gSend st o t g).frame = s.frame := by
  unfold State.gSend
  repeat' first
    | with_reducible rfl
    | simp only [↓State.launch_frame, ↓State.modChain_frame, ↓State.modStn_frame, ↓State.scnt_frame, ↓State.frame_ite]

    | split

theorem State.gOutput_frame (s : State) (st : Nat) (i : Nat) (o : Nat) (b : Nat) (g : GFlit) :
    (s.gOutput st i o b g).frame = s.frame := by
  simp only [State.gOutput, ↓State.gErr_frame, ↓State.gSend_frame, ↓State.frame_ite, ite_self]

theorem State.gLaunch_frame (s : State) (st : Nat) (i : Nat) (g : GFlit) :
    (s.gLaunch st i g).frame = s.frame := by
  simp only [State.gLaunch, ↓State.gErr_frame, ↓State.gOutput_frame, ↓State.frame_ite, ite_self, ↓foldl_frame,
      implies_true]

theorem State.gChecked_frame (s : State) (st : Nat) (i : Nat) (g : GFlit) (e : LinkErr) :
    (s.gChecked st i g e).frame = s.frame := by
  unfold State.gChecked
  repeat' first
    | with_reducible rfl
    | simp only [↓State.corrected_frame, ↓State.deccDueCount_frame, ↓State.frame_ite, ite_self]
    | split

theorem execGFlitArrive_frame (st : Fin 36) (i : Fin 12) (e : LinkErr) (s : State) :
    outFrame (execGFlitArrive st i e s) = some s.frame := by
  unfold execGFlitArrive
  repeat' first
    | with_reducible rfl
    | simp only [↓State.ceccDue_frame, ↓State.forcedErr_frame, ↓State.gChecked_frame, ↓State.gLaunch_frame,
        ↓State.popWire_frame, ↓State.takeCret_frame, ↓outFrame_next, ↓outFrame_ite, ite_self]
    | split

theorem State.setSrcQueue_frame (s : State) (b : Nat) (k : Nat) (q : List SrcFlit) :
    (s.setSrcQueue b k q).frame = s.frame := by
  simp only [State.setSrcQueue, ↓State.modChain_frame, ↓State.setFld_frame]

theorem State.setDstQueue_frame (s : State) (b : Nat) (k : Nat) (q : List GArrival) :
    (s.setDstQueue b k q).frame = s.frame := by
  simp only [State.setDstQueue, ↓State.modChain_frame, ↓State.setFld_frame]

theorem State.chainLoss_frame (s : State) (b : Nat) (n : Nat) :
    (s.chainLoss b n).frame = s.frame := by
  simp only [State.chainLoss, ↓State.ncnt_frame, ↓State.frame_ite, ite_self]

theorem State.srcDrops_frame (s : State) (b : Nat) (k : Nat) (n : Nat) :
    (s.srcDrops b k n).frame = s.frame := by
  simp only [State.srcDrops, ↓State.chainLoss_frame, ↓State.sat_frame]

theorem State.dstLoss_frame (s : State) (b : Nat) (k : Nat) (f : Fld) (n : Nat) :
    (s.dstLoss b k f n).frame = s.frame := by
  simp only [State.dstLoss, ↓State.chainLoss_frame, ↓State.sat_frame]

theorem State.dropSrcQueue_frame (s : State) (b : Nat) (k : Nat) :
    (s.dropSrcQueue b k).frame = s.frame := by
  simp only [State.dropSrcQueue, ↓State.setSrcQueue_frame, ↓State.srcDrops_frame, ↓State.frame_ite, ite_self]

theorem State.dropDstQueue_frame (s : State) (b : Nat) (k : Nat) :
    (s.dropDstQueue b k).frame = s.frame := by
  simp only [State.dropDstQueue, ↓State.dstLoss_frame, ↓State.setDstQueue_frame, ↓State.frame_ite, ite_self]

theorem State.dropAllSrc_frame (s : State) (b : Nat) :
    (s.dropAllSrc b).frame = s.frame := by
  simp only [State.dropAllSrc, ↓State.dropSrcQueue_frame, ↓foldl_frame, implies_true]

theorem State.dropAllDst_frame (s : State) (b : Nat) :
    (s.dropAllDst b).frame = s.frame := by
  simp only [State.dropAllDst, ↓State.dropDstQueue_frame, ↓foldl_frame, implies_true]

theorem State.chainPool_frame (s : State) (p : Nat) :
    (s.chainPool p).frame = s.frame := by
  simp only [State.chainPool, ↓State.setFld_frame, ↓State.frame_ite, ite_self]

theorem State.srcChanged_frame (s : State) (b : Nat) (k : Nat) (was : Bool) :
    (s.srcChanged b k was).frame = s.frame := by
  simp only [State.srcChanged, ↓State.chainPool_frame, ↓State.dropSrcQueue_frame, ↓State.modChain_frame,
      ↓State.wr_frame, ↓State.frame_ite, ite_self]

theorem State.dstChanged_frame (s : State) (b : Nat) (k : Nat) (was : Bool) :
    (s.dstChanged b k was).frame = s.frame := by
  simp only [State.dstChanged, ↓State.chainPool_frame, ↓State.dropDstQueue_frame, ↓State.modChain_frame,
      ↓State.wr_frame, ↓State.frame_ite, ite_self]

theorem State.drive_frame (s : State) (b : Nat) (g : GFlit) : (s.drive b g).frame = s.frame := by
  simp only [State.drive, ↓State.gcnt_frame, ↓State.modChain_frame, ↓State.modNi_frame, ↓State.ncnt_frame,
      ↓State.sendWire_frame, ↓State.frame_ite, ite_self]

theorem execChainInject_frame (b : Fin 156) (s : State) :
    outFrame (execChainInject b s) = some s.frame := by
  unfold execChainInject
  repeat' first
    | with_reducible rfl
    | simp only [↓State.drive_frame, ↓State.setFld_frame, ↓State.setSrcQueue_frame, ↓State.wr_frame, ↓outFrame_next]
    | split

theorem State.writeChainCtl_frame (s : State) (p : Nat) (r : Req) :
    (s.writeChainCtl p r).1.frame = s.frame := by
  simp only [State.writeChainCtl, ↓State.setFld_frame, ↓State.fst_frame_ite, ite_self]

theorem execChainProbeGo_frame (p : Fin 144) (r : Req) (s : State) :
    outFrame (execChainProbeGo p r s) = some s.frame := by
  simp only [execChainProbeGo, ↓State.serve_frame, ↓State.writeChainCtl_frame, ↓outFrame_next]

theorem State.unknownFlit_frame (s : State) (b : Nat) :
    (s.unknownFlit b).frame = s.frame := by
  simp only [State.unknownFlit, ↓State.sat_frame, ↓State.frame_ite, ite_self]

theorem State.queueSlot_frame (s : State) (p : Nat) (w : SlotW) :
    (s.queueSlot p w).frame = s.frame := by
  simp only [State.queueSlot, ↓State.modNi_frame]

theorem State.stateFlit_frame (s : State) (p : Nat) (k : Nat) (gap : Nat) (g : GFlit) :
    (s.stateFlit p k gap g).frame = s.frame := by
  unfold State.stateFlit
  repeat' first
    | with_reducible rfl
    | simp only [↓State.queueSlot_frame]
    | split

theorem State.portFlit_frame (s : State) (b : Nat) (k : Nat) (x : GArrival) :
    (s.portFlit b k x).frame = s.frame := by
  simp only [State.portFlit, ↓State.dstLoss_frame, ↓State.niCause_frame, ↓State.setDstQueue_frame, ↓State.frame_ite,
      ite_self]

theorem State.gDropped_frame (s : State) (p : Nat) (g : GFlit) :
    (s.gDropped p g).frame = s.frame := by
  simp only [State.gDropped, ↓State.sat_frame, ↓State.frame_ite, ite_self]

theorem State.takeG_frame (s : State) (b : Nat) (x : GArrival) :
    (s.takeG b x).frame = s.frame := by
  unfold State.takeG
  repeat' first
    | with_reducible rfl
    | simp only [↓State.dstLoss_frame, ↓State.gDropped_frame, ↓State.portFlit_frame, ↓State.setFld_frame,
        ↓State.stateFlit_frame, ↓State.unknownFlit_frame, ↓State.wr_frame, ↓State.frame_ite, ite_self]
    | split

theorem execChainFlitReceive_frame (x : GHop) (s : State) :
    outFrame (execChainFlitReceive x s) = some s.frame := by
  unfold execChainFlitReceive
  repeat' first
    | with_reducible rfl
    | simp only [↓State.modChain_frame, ↓State.ncnt_frame, ↓State.takeG_frame, ↓State.frame_ite, ↓outFrame_next,
        ↓outFrame_ite, ite_self]
    | split

theorem State.writePatch_frame (s : State) (st : Nat) (r : Req) :
    (s.writePatch st r).1.frame = s.frame := by
  simp only [State.writePatch, ↓State.modStn_frame, ↓State.setFld_frame, ↓State.wr_frame, ↓State.fst_frame_ite,
      ite_self]

theorem execPlatPatchGo_frame (st : Fin 36) (r : Req) (s : State) :
    outFrame (execPlatPatchGo st r s) = some s.frame := by
  simp only [execPlatPatchGo, ↓State.serve_frame, ↓State.writePatch_frame, ↓outFrame_next]

theorem State.writePlatCtl_frame (s : State) (st : Nat) (n : Nat) (r : Req) :
    (s.writePlatCtl st n r).1.frame = s.frame := by
  unfold State.writePlatCtl
  repeat' first
    | with_reducible rfl
    | exact Eq.symm (by assumption)
    | simp only [↓State.setFld_frame, ↓State.fst_frame_ite]
    | (refine (State.rwsWrite_frame _ _ _ _ _ (by assumption)).trans ?_)
    | split

end Sys2Proof.Machine
end

