-- ==== Sys2Proof/Laws/FrameBestEffort.lean ====
section
/-!
SUPPORT. Laws/FrameBestEffort.lean: the functions of Machine/BestEffort.lean leave memory, the queue and the datum alone.
-/
namespace Sys2Proof.Machine

theorem State.refillShaper_frame (s : State) (p : Nat) (c : Nat) :
    (s.refillShaper p c).frame = s.frame := by
  simp only [State.refillShaper, ↓State.wr_frame, ↓State.frame_ite, ite_self]

theorem State.refillPolicer_frame (s : State) (f : Nat) :
    (s.refillPolicer f).frame = s.frame := by
  simp only [State.refillPolicer, ↓State.wr_frame]

theorem State.resetShaper_frame (s : State) (p : Nat) (c : Nat) : (s.resetShaper p c).frame = s.frame := by
  simp only [State.resetShaper, ↓State.wrLate_frame]

theorem State.writeShaper_frame (s : State) (p : Nat) (reg : ShaperReg) (r : Req) :
    (s.writeShaper p reg r).1.frame = s.frame := by
  unfold State.writeShaper
  repeat' first
    | with_reducible rfl
    | simp only [↓State.plainWrite_frame, ↓State.resetShaper_frame, ↓State.frame_ite, ↓State.fst_frame_ite, ite_self,
        ↓foldl_frame, implies_true]
    | split

theorem execShaperResetWrite_frame (p : Fin 144) (reg : ShaperReg) (r : Req) (s : State) :
    outFrame (execShaperResetWrite p reg r s) = some s.frame := by
  simp only [execShaperResetWrite, ↓State.serve_frame, ↓State.writeShaper_frame, ↓outFrame_next]

theorem State.writePolicer_frame (s : State) (f : Nat) (size : Bool) (r : Req) :
    (s.writePolicer f size r).1.frame = s.frame := by
  simp only [State.writePolicer, ↓State.plainWrite_frame, ↓State.wrLate_frame, ↓State.fst_frame_ite,
      ↓State.fst_frame_mk, ite_self]

theorem execPoliceResetWrite_frame (f : Fin 12) (size : Bool) (r : Req) (s : State) :
    outFrame (execPoliceResetWrite f size r s) = some s.frame := by
  simp only [execPoliceResetWrite, ↓State.serve_frame, ↓State.writePolicer_frame, ↓outFrame_next]

theorem State.sluiceGo_frame (s : State) (p : Nat) :
    (s.sluiceGo p).frame = s.frame := by
  simp only [State.sluiceGo, ↓State.setFld_frame, ↓State.wr_frame]

theorem State.writeSluiceCtl_frame (s : State) (p : Nat) (r : Req) :
    (s.writeSluiceCtl p r).1.frame = s.frame := by
  simp only [State.writeSluiceCtl, ↓State.setFld_frame, ↓State.sluiceGo_frame, ↓State.wr_frame, ↓State.frame_ite,
      ↓State.fst_frame_ite, ite_self]

theorem State.writeSluiceAdmin_frame (s : State) (a : Nat) (p : Nat) (r : Req) :
    (s.writeSluiceAdmin a p r).1.frame = s.frame := by
  simp only [State.writeSluiceAdmin, ↓State.plainWrite_frame, ↓State.fst_frame_ite, ite_self]

theorem execSluiceGo_frame (p : Fin 144) (r : Req) (s : State) :
    outFrame (execSluiceGo p r s) = some s.frame := by
  simp only [execSluiceGo, ↓State.serve_frame, ↓State.writeSluiceCtl_frame, ↓outFrame_next]

theorem execSluiceCancel_frame (p : Fin 144) (r : Req) (s : State) :
    outFrame (execSluiceCancel p r s) = some s.frame := by
  simp only [execSluiceCancel, ↓State.serve_frame, ↓State.writeSluiceCtl_frame, ↓outFrame_next]

theorem execSluiceStart_frame (p : Fin 144) (s : State) :
    outFrame (execSluiceStart p s) = some s.frame := by
  simp only [execSluiceStart, ↓State.modNi_frame, ↓State.setFld_frame, ↓State.wr_frame, ↓outFrame_next, ↓outFrame_ite,
      ite_self, ↓foldl_frame, implies_true]

theorem State.histCount_frame (s : State) (p : Nat) (a : Nat) :
    (s.histCount p a).frame = s.frame := by
  simp only [State.histCount, ↓State.sat_frame, ↓State.frame_ite, ite_self]

theorem execHistDepthSample_frame (p : Fin 144) (s : State) : outFrame (execHistDepthSample p s) = some s.frame := by
  simp only [execHistDepthSample, ↓State.histCount_frame, ↓State.modNi_frame, ↓outFrame_next, ↓outFrame_ite, ite_self]

theorem State.histStart_frame (s : State) (p : Nat) (cls : Nat) (built : Nat) :
    (s.histStart p cls built).frame = s.frame := by
  simp only [State.histStart, ↓State.histCount_frame, ↓State.modNi_frame, ↓State.setFld_frame, ↓State.frame_ite,
      ite_self]

theorem State.histZero_frame (s : State) (p : Nat) :
    (s.histZero p).frame = s.frame := by
  simp only [State.histZero, ↓State.setFld_frame, ↓State.wr_frame, ↓foldl_frame, implies_true]

theorem State.writeHistCtl_frame (s : State) (p : Nat) (r : Req) :
    (s.writeHistCtl p r).1.frame = s.frame := by
  simp only [State.writeHistCtl, ↓State.histZero_frame, ↓State.plainWrite_frame, ↓State.frame_ite,
      ↓State.fst_frame_ite, ite_self]

theorem execHistClear_frame (p : Fin 144) (r : Req) (s : State) :
    outFrame (execHistClear p r s) = some s.frame := by
  simp only [execHistClear, ↓State.serve_frame, ↓State.writeHistCtl_frame, ↓outFrame_next]

theorem State.leaveClass_frame (s : State) (p : Nat) (c : Nat) (o : OutPkt) :
    (s.leaveClass p c o).frame = s.frame := by
  simp only [State.leaveClass, ↓State.setClsq_frame, ↓State.tagHead_frame, ↓State.vEmpty_frame, ↓State.vMax_frame,
      ↓State.wr_frame, ↓State.frame_ite, ite_self]

theorem State.setFence_frame (s : State) (p : Nat) (d : Nat) (v : Nat) :
    (s.setFence p d v).frame = s.frame := by
  simp only [State.setFence, ↓State.setFld_frame]

theorem State.startReq_frame (s : State) (p : Nat) (o : OutPkt) :
    (s.startReq p o).frame = s.frame := by
  unfold State.startReq
  repeat' first
    | with_reducible rfl
    | simp only [↓State.setBar_frame, ↓State.setReq_frame]
    | split

theorem State.onStart_frame (s : State) (p : Nat) (o : OutPkt) :
    (s.onStart p o).frame = s.frame := by
  unfold State.onStart
  repeat' first
    | with_reducible rfl
    | simp only [↓State.accEnd_frame, ↓State.histStart_frame, ↓State.ncnt_frame, ↓State.sat_frame,
        ↓State.setWait_frame, ↓State.startReq_frame]
    | split

theorem State.fenceStart_frame (s : State) (p : Nat) (o : OutPkt) :
    (s.fenceStart p o).frame = s.frame := by
  simp only [State.fenceStart, ↓State.setFence_frame, ↓State.frame_ite, ite_self]

theorem State.driveFlit_frame (s : State) (p : Nat) (f : Flit) :
    (s.driveFlit p f).frame = s.frame := by
  simp only [State.driveFlit, ↓State.gcnt_frame, ↓State.modNi_frame, ↓State.ncnt_frame, ↓State.sendWire_frame]

theorem State.tailGone_frame (s : State) (p : Nat) (o : OutPkt) :
    (s.tailGone p o).frame = s.frame := by
  unfold State.tailGone
  repeat' first
    | with_reducible rfl
    | simp only [↓State.outDone_frame]
    | split

theorem State.continuePkt_frame (s : State) (p : Nat) (g : Prog) :
    (s.continuePkt p g).1.frame = s.frame := by
  unfold State.continuePkt
  repeat' first
    | with_reducible rfl
    | simp only [↓State.driveFlit_frame, ↓State.tailGone_frame, ↓State.fst_frame_ite, ite_self]
    | split

theorem State.injMgt_frame (s : State) (p : Nat) (u : State) (h : s.injMgt p = some u) : u.frame = s.frame := by
  unfold State.injMgt at h
  dsimp only at h
  (repeat' split at h) <;> first
    | (cases h; done)
    | (cases h; simp only [↓State.modNi_frame, ↓State.pump_frame, ↓State.onStart_frame, ↓State.continuePkt_frame])

theorem State.injRsp_frame (s : State) (p : Nat) (u : State) (h : s.injRsp p = some u) : u.frame = s.frame := by
  have hc (t : State) (g : Prog) (s' : State) (r : Option Prog) (e : t.continuePkt p g = (s', r)) :
      s'.frame = t.frame := by
    have hm := State.continuePkt_frame t p g
    rwa [e] at hm
  unfold State.injRsp at h
  (repeat' split at h) <;> first
    | (cases h; done)
    | (cases h; rename_i heq; have hx := hc _ _ _ _ heq; simp only [↓State.modNi_frame] at hx ⊢; exact hx)

theorem State.waitCounts_frame (s : State) (p : Nat) :
    (s.waitCounts p).frame = s.frame := by
  simp only [State.waitCounts, ↓State.ncnt_frame, ↓State.frame_ite, ite_self]

theorem State.injCls_frame (s : State) (p : Nat) :
    (s.injCls p).1.frame = s.frame := by
  unfold State.injCls
  repeat' first
    | with_reducible rfl
    | simp only [↓State.continuePkt_frame, ↓State.fenceStart_frame, ↓State.leaveClass_frame, ↓State.modNi_frame,
        ↓State.onStart_frame, ↓State.pump_frame, ↓State.fst_frame_ite, ite_self]
    | split

theorem execNiInject_frame (p : Fin 144) (s : State) : outFrame (execNiInject p s) = some s.frame := by
  have hc := State.injCls_frame s p.val
  unfold execNiInject
  extract_lets p
  split
  · rfl
  · split
    · exact congrArg some (State.injMgt_frame _ _ _ (by assumption))
    · split
      · exact congrArg some (State.injRsp_frame _ _ _ (by assumption))
      · split <;> rename_i heq <;> rw [heq] at hc
        · exact congrArg some hc
        · split
          · exact congrArg some hc
          · rw [outFrame_next, State.sendWire_frame, State.modNi_frame]
            exact congrArg some hc

end Sys2Proof.Machine
end

