-- ==== Sys2Proof/Laws/FrameDatum.lean ====
section
/-!
SUPPORT. Laws/FrameDatum.lean: the functions of Machine/Datum.lean leave memory, the queue and the datum alone.
-/
namespace Sys2Proof.Machine

theorem State.setMer_frame (s : State) (q : List MerReq) :
    (s.setMer q).frame = s.frame := by
  simp only [State.setMer, ↓State.frame_mk, ↓State.frame_eta]

theorem State.merReq_frame (s : State) (k : MerKind) (instant : Nat) :
    (s.merReq k instant).frame = s.frame := by
  simp only [State.merReq, ↓State.setMer_frame]

theorem State.alignBlock_frame (s : State) (b : Nat) :
    (s.alignBlock b).frame = s.frame := by simp only [State.alignBlock, State.frame_mk, State.frame_eta]

theorem State.unalign_frame (s : State) :
    (s.unalign).frame = s.frame := by simp only [State.unalign, State.frame_mk, State.frame_eta]

theorem State.merSbe_frame (s : State) (n : Nat) :
    (s.merSbe n).frame = s.frame := by
  simp only [State.merSbe, ↓State.sat_frame]

theorem State.merDue_frame (s : State) (b : Nat) :
    (s.merDue b).frame = s.frame := by
  simp only [State.merDue, ↓State.raise_frame, ↓State.sat_frame, ↓State.setFld_frame, ↓State.stnCause_frame,
      ↓State.frame_mk, ↓State.frame_eta]

theorem State.meet_frame (s : State) (m : MerMsg) (b : Nat) :
    (s.meet m b).frame = s.frame := by simp only [State.meet, State.frame_mk, State.frame_eta]

theorem State.writeDatCtl_frame (s : State) (r : Req) :
    (s.writeDatCtl r).1.frame = s.frame := by
  simp only [State.writeDatCtl, ↓State.merReq_frame, ↓State.setFld_frame, ↓State.frame_ite, ↓State.fst_frame_ite,
      ite_self]

theorem execAlignGo_frame (r : Req) (s : State) :
    outFrame (execAlignGo r s) = some s.frame := by
  simp only [execAlignGo, ↓State.serve_frame, ↓State.writeDatCtl_frame, ↓outFrame_next]

theorem execVerifyTimer_frame (s : State) : outFrame (execVerifyTimer s) = some s.frame := by
  simp only [execVerifyTimer, ↓State.merReq_frame, ↓State.frame_mk, ↓State.frame_eta, ↓outFrame_next, ↓outFrame_ite,
      ite_self]

theorem State.merRefuse_frame (s : State) (m : MerReq) :
    (s.merRefuse m).frame = s.frame := by
  unfold State.merRefuse
  repeat' first
    | with_reducible rfl
    | simp only [↓State.sat_frame, ↓State.setFld_frame]
    | split

theorem State.merSend_frame (s : State) (m : MerReq) :
    (s.merSend m).frame = s.frame := by
  unfold State.merSend
  repeat' first
    | with_reducible rfl
    | simp only [↓State.gcnt_frame, ↓State.setFld_frame, ↓State.frame_mk, ↓State.frame_eta]
    | split

theorem State.merIdle_frame (s : State) : (s.merIdle).frame = s.frame := by
  simp only [State.merIdle, ↓State.frame_mk, ↓State.frame_eta]

theorem execMeridianLaunch_frame (s : State) : outFrame (execMeridianLaunch s) = some s.frame := by
  unfold execMeridianLaunch
  repeat' first
    | with_reducible rfl
    | simp only [↓State.merIdle_frame, ↓State.merRefuse_frame, ↓State.merSend_frame, ↓State.setFld_frame,
        ↓State.setMer_frame, ↓State.frame_mk, ↓State.frame_eta, ↓foldl_frame, ↓outFrame_next, ↓outFrame_ite,
        implies_true]
    | split

theorem execAlignLoadArrival_frame (sbe : Fin 193) (s : State) :
    outFrame (execAlignLoadArrival sbe s) = some s.frame := by
  unfold execAlignLoadArrival
  repeat' first
    | with_reducible rfl
    | simp only [↓State.merSbe_frame, ↓State.setFld_frame, ↓State.wr_frame, ↓outFrame_next, ↓State.frame_mk,
        ↓State.frame_eta]
    | split

theorem State.slip_frame (s : State) (b : Nat) :
    (s.slip b).frame = s.frame := by
  simp only [State.slip, ↓State.alignBlock_frame, ↓State.gcnt_frame, ↓State.raise_frame, ↓State.sat_frame,
      ↓State.setFld_frame, ↓State.frame_mk, ↓State.frame_eta]

theorem execAlignVerifyArrival_frame (b : Fin 192) (sbe : Bool) (s : State) :
    outFrame (execAlignVerifyArrival b sbe s) = some s.frame := by
  unfold execAlignVerifyArrival
  repeat' first
    | with_reducible rfl
    | simp only [↓State.meet_frame, ↓State.merSbe_frame, ↓State.slip_frame, ↓outFrame_next, ↓outFrame_ite, ite_self]
    | split

theorem execMeridianDueDiscard_frame (x : MerDiscard) (s : State) :
    outFrame (execMeridianDueDiscard x s) = some s.frame := by
  unfold execMeridianDueDiscard
  repeat' first
    | with_reducible rfl
    | simp only [↓State.meet_frame, ↓State.merDue_frame, ↓State.merSbe_frame, ↓State.frame_ite, ↓outFrame_next,
        ite_self]
    | split

theorem execMeridianReservedType_frame (b : Fin 192) (typ : BitVec 4) (s : State) :
    outFrame (execMeridianReservedType b typ s) = some s.frame := by
  unfold execMeridianReservedType
  repeat' first
    | with_reducible rfl
    | simp only [↓State.meet_frame, ↓State.merDue_frame, ↓outFrame_next, ↓outFrame_ite]
    | split

theorem State.writeAlarm_frame (s : State) (n : Nat) (r : Req) :
    (s.writeAlarm n r).1.frame = s.frame := by
  simp only [State.writeAlarm, ↓State.wr_frame, ↓State.fst_frame_ite, ite_self]

theorem State.writeAlarmCtl_frame (s : State) (r : Req) :
    (s.writeAlarmCtl r).1.frame = s.frame := by
  simp only [State.writeAlarmCtl, ↓State.plainWrite_frame, ↓State.fst_frame_ite, ↓State.frame_mk, ↓State.frame_eta,
      ite_self]

theorem execDatumAlarmFire_frame (n : Fin 4) (s : State) :
    outFrame (execDatumAlarmFire n s) = some s.frame := by
  simp only [execDatumAlarmFire, ↓State.raise_frame, ↓State.setFld_frame, ↓outFrame_next, ↓outFrame_ite,
      ↓State.frame_ite, ite_self]

theorem execVoteFix_frame (b : Fin 193) (x : BadCopy) (s : State) :
    outFrame (execVoteFix b x s) = some s.frame := by
  simp only [execVoteFix, ↓State.frame_mk, ↓State.frame_eta, ↓outFrame_next, ↓outFrame_ite, ite_self]

theorem State.voteFixes_frame (s : State) : (s.voteFixes).frame = s.frame := by
  simp only [State.voteFixes, ↓State.sat_frame, ↓State.frame_mk, ↓State.frame_eta]

end Sys2Proof.Machine
end

