-- ==== Sys2Proof/Laws/FrameStateCh.lean ====
section
/-!
SUPPORT. Laws/FrameStateCh.lean: the functions of Machine/StateCh.lean leave memory, the queue and the datum alone.
-/
namespace Sys2Proof.Machine

theorem State.setSlotSt_frame (s : State) (p : Nat) (k : Nat) (v : Nat) :
    (s.setSlotSt p k v).frame = s.frame := by
  simp only [State.setSlotSt, ↓State.modNi_frame, ↓State.setFld_frame]

theorem State.stCountA_frame (s : State) (p : Nat) (f : Fld) :
    (s.stCountA p f).frame = s.frame := by
  simp only [State.stCountA, ↓State.sat_frame]

theorem State.stCountB_frame (s : State) (p : Nat) (f : Fld) :
    (s.stCountB p f).frame = s.frame := by
  simp only [State.stCountB, ↓State.sat_frame]

theorem State.emptySlot_frame (s : State) (p : Nat) (k : Nat) : (s.emptySlot p k).frame = s.frame := by
  simp only [State.emptySlot, ↓State.modNi_frame, ↓State.setSlotSt_frame, ↓State.stCountA_frame, ↓State.frame_ite,
      ite_self]

theorem State.emptySlots_frame (s : State) (p : Nat) :
    (s.emptySlots p).frame = s.frame := by
  simp only [State.emptySlots, ↓State.emptySlot_frame, ↓foldl_frame, implies_true]

theorem State.slotChanged_frame (s : State) (p : Nat) (k : Nat) (old : Word) :
    (s.slotChanged p k old).frame = s.frame := by
  simp only [State.slotChanged, ↓State.emptySlot_frame, ↓State.frame_ite, ite_self]

theorem State.storeSlot_frame (s : State) (p : Nat) (w : SlotW) (stamp : Nat) :
    (s.storeSlot p w stamp).frame = s.frame := by
  simp only [State.storeSlot, ↓State.modNi_frame, ↓State.setFld_frame, ↓State.setSlotSt_frame]

theorem State.slotPut_frame (s : State) (p : Nat) (w : SlotW) : (s.slotPut p w).1.frame = s.frame := by
  simp only [State.slotPut, ↓State.ncnt_frame, ↓State.stCountA_frame, ↓State.stCountB_frame, ↓State.storeSlot_frame,
      ↓State.frame_ite, ↓State.fst_frame_ite, ↓State.fst_frame_mk, ite_self]

theorem State.slotWrite_frame (s : State) (p : Nat) (w : SlotW) : (s.slotWrite p w).frame = s.frame := by
  unfold State.slotWrite
  repeat' first
    | with_reducible rfl
    | simp only [↓State.slotPut_frame, ↓State.stCountB_frame, ↓State.modChain_frame]
    | (rename_i heq
       have h := congrArg (fun p => p.1.frame) heq
       simp only [↓State.slotPut_frame] at h
       exact h.symm)
    | split

theorem execStateSlotWrite_frame (p : Fin 144) (s : State) :
    outFrame (execStateSlotWrite p s) = some s.frame := by
  unfold execStateSlotWrite
  repeat' first
    | with_reducible rfl
    | simp only [↓State.modNi_frame, ↓State.slotWrite_frame, ↓outFrame_next, ↓outFrame_ite]
    | split

theorem State.postedDrop_frame (s : State) (p : Nat) (code : BitVec 4) (q : Pkt) :
    (s.postedDrop p code q).frame = s.frame := by
  simp only [State.postedDrop, ↓State.sat_frame, ↓State.tcapPkt_frame]

theorem State.takeSput_frame (s : State) (p : Nat) (q : Pkt) :
    (s.takeSput p q).frame = s.frame := by
  simp only [State.takeSput, ↓State.postedDrop_frame, ↓State.queueSlot_frame, ↓State.stCountA_frame,
      ↓State.stCountB_frame, ↓State.tcapPkt_frame, ↓State.frame_ite, ite_self]

theorem execSputReceive_frame (p : Fin 144) (s : State) :
    outFrame (execSputReceive p s) = some s.frame := by
  unfold execSputReceive
  repeat' first
    | with_reducible rfl
    | simp only [↓State.modNi_frame, ↓State.takeSput_frame, ↓outFrame_next, ↓outFrame_ite, ite_self]
    | split

theorem State.selectCycle_frame (s : State) (p : Nat) : (s.selectCycle p).frame = s.frame := by
  simp only [State.selectCycle, ↓State.modNi_frame, ↓State.frame_ite, ite_self]

theorem State.slotLeaves_frame (s : State) (p : Nat) (k : Nat) (v : SlotVal) (st : Nat) :
    (s.slotLeaves p k v st).frame = s.frame := by
  simp only [State.slotLeaves, ↓State.modNi_frame, ↓State.setSlotSt_frame, ↓State.frame_ite, ite_self]

theorem State.staleDiscard_frame (s : State) (p : Nat) (k : Nat) (v : SlotVal) :
    (s.staleDiscard p k v).frame = s.frame := by
  simp only [State.staleDiscard, ↓State.ncnt_frame, ↓State.niCause_frame, ↓State.setFld_frame,
      ↓State.slotLeaves_frame, ↓State.stCountA_frame, ↓State.frame_ite, ite_self]

end Sys2Proof.Machine
end

