-- ==== Sys2Proof/Laws/FrameMonitors.lean ====
section
/-!
SUPPORT. Laws/FrameMonitors.lean: the functions of Machine/Monitors.lean leave memory, the queue and the datum alone.
-/
namespace Sys2Proof.Machine

theorem State.setMon_frame (s : State) (p : Nat) (m : Nat) (x : Mon) :
    (s.setMon p m x).frame = s.frame := by
  simp only [State.setMon, ↓State.modNi_frame]

theorem State.clearMon_frame (s : State) (p : Nat) (m : Nat) :
    (s.clearMon p m).frame = s.frame := by
  simp only [State.clearMon, ↓State.setMon_frame, ↓State.wr_frame]

theorem State.freeMon_frame (s : State) (p : Nat) (m : Nat) :
    (s.freeMon p m).frame = s.frame := by
  simp only [State.freeMon, ↓State.clearMon_frame, ↓State.setFld_frame, ↓State.setMon_frame, ↓State.frame_ite,
      ite_self]

theorem State.freeMons_frame (s : State) (p : Nat) :
    (s.freeMons p).frame = s.frame := by
  simp only [State.freeMons, ↓State.freeMon_frame, ↓foldl_frame, implies_true]

theorem State.clearMons_frame (s : State) (p : Nat) :
    (s.clearMons p).frame = s.frame := by
  simp only [State.clearMons, ↓State.clearMon_frame, ↓State.frame_ite, ite_self, ↓foldl_frame, implies_true]

theorem State.writeMons_frame (s : State) (p : Nat) (addr : Nat) (size : Nat) :
    (s.writeMons p addr size).frame = s.frame := by
  simp only [State.writeMons, ↓State.freeMon_frame, ↓State.frame_ite, ite_self, ↓foldl_frame, implies_true]

theorem State.noteNext_frame (s : State) (p : Nat) (m : Nat) (src : Nat) :
    (s.noteNext p m src).frame = s.frame := by
  simp only [State.noteNext, ↓State.setFld_frame, ↓State.frame_ite, ite_self]

theorem State.rdxClear_frame (s : State) (p : Nat) (line : Nat) (src : Nat) :
    (s.rdxClear p line src).frame = s.frame := by
  unfold State.rdxClear
  repeat' first
    | with_reducible rfl
    | simp only [↓State.clearMon_frame, ↓State.freeMon_frame, ↓State.frame_ite, ite_self, ↓foldl_frame, implies_true]
    | split

theorem State.grantMon_frame (s : State) (p : Nat) (m : Nat) (line : Nat) (addr : Nat) (size : Nat) (src : Nat) :
    (s.grantMon p m line addr size src).frame = s.frame := by
  simp only [State.grantMon, ↓State.clearMon_frame, ↓State.setFld_frame, ↓State.setMon_frame]

theorem State.rdxJudge_frame (s : State) (p : Nat) (addr : Nat) (size : Nat) (src : Nat) :
    (s.rdxJudge p addr size src).1.frame = s.frame := by
  unfold State.rdxJudge
  repeat' first
    | with_reducible rfl
    | simp only [↓State.grantMon_frame, ↓State.noteNext_frame, ↓State.rdxClear_frame, ↓State.sat_frame]
    | split

theorem execMonitorExpire_frame (p : Fin 144) (m : Fin 64) (s : State) :
    outFrame (execMonitorExpire p m s) = some s.frame := by
  simp only [execMonitorExpire, ↓State.freeMon_frame, ↓outFrame_next, ↓outFrame_ite, ite_self]

theorem execHandoffExpire_frame (p : Fin 144) (m : Fin 64) (s : State) :
    outFrame (execHandoffExpire p m s) = some s.frame := by
  simp only [execHandoffExpire, ↓State.clearMon_frame, ↓outFrame_next, ↓outFrame_ite, ite_self]

end Sys2Proof.Machine
end

