-- ==== Sys2Proof/Laws/FrameRoutes.lean ====
section
/-!
SUPPORT. Laws/FrameRoutes.lean: the functions of Machine/Routes.lean leave memory, the queue and the datum alone.
-/
namespace Sys2Proof.Machine

theorem State.writeStnTrav_frame (s : State) (st : Nat) (r : Req) : (s.writeStnTrav st r).1.frame = s.frame := by
  unfold State.writeStnTrav
  dsimp only
  split
  · rfl
  · split
    · rfl
    · rename_i heq
      have h := State.rwsWrite_frame _ _ _ _ _ heq
      simp only [↓State.frame_ite, ↓State.releaseAll_frame, ↓State.setFld_frame, ite_self]
      exact h

theorem execReconfWrite_frame (st : Fin 36) (r : Req) (s : State) :
    outFrame (execReconfWrite st r s) = some s.frame := by
  simp only [execReconfWrite, ↓State.serve_frame, ↓State.writeStnTrav_frame, ↓outFrame_next]

theorem execRetireOld_frame (st : Fin 36) (r : Req) (s : State) :
    outFrame (execRetireOld st r s) = some s.frame := by
  simp only [execRetireOld, ↓State.serve_frame, ↓State.writeStnTrav_frame, ↓outFrame_next]

theorem execFillServe_frame (s : State) : outFrame (execFillServe s) = some s.frame := by
  unfold execFillServe
  repeat' first
    | with_reducible rfl
    | simp only [↓State.gcnt_frame, ↓State.glbBars_frame, ↓State.glbSend_frame, ↓State.frame_mk, ↓State.frame_eta,
        ↓outFrame_next, ↓outFrame_ite, ite_self]
    | split

theorem State.writeRouteCtl_frame (s : State) (p : Nat) (r : Req) :
    (s.writeRouteCtl p r).1.frame = s.frame := by
  simp only [State.writeRouteCtl, ↓State.modNi_frame, ↓State.setFld_frame, ↓State.fst_frame_ite, ite_self]

theorem execInvGo_frame (p : Fin 144) (r : Req) (s : State) :
    outFrame (execInvGo p r s) = some s.frame := by
  simp only [execInvGo, ↓State.serve_frame, ↓State.writeRouteCtl_frame, ↓outFrame_next]

theorem execInvSweepDone_frame (p : Fin 144) (s : State) :
    outFrame (execInvSweepDone p s) = some s.frame := by
  unfold execInvSweepDone
  repeat' first
    | with_reducible rfl
    | simp only [↓State.modNi_frame, ↓State.setFld_frame, ↓outFrame_next, ↓outFrame_ite, ite_self]
    | split

end Sys2Proof.Machine
end

