-- ==== Sys2Proof/Laws/FrameStakes.lean ====
section
/-!
SUPPORT. Laws/FrameStakes.lean: the functions of Machine/Stakes.lean leave memory, the queue and the datum alone.
-/
namespace Sys2Proof.Machine

theorem State.modBlk_frame (s : State) (b : Nat) (n : Nat) (f : StkBlk → StkBlk) :
    (s.modBlk b n f).frame = s.frame := by simp only [State.modBlk, State.frame_mk, State.frame_eta]

theorem State.driveTree_frame (s : State) (b : Nat) (n : Nat) :
    (s.driveTree b n).frame = s.frame := by
  unfold State.driveTree
  repeat' first
    | with_reducible rfl
    | simp only [↓State.modBlk_frame, ↓State.frame_ite, ite_self]
    | split

theorem State.setEnts_frame (s : State) (b : Nat) (es : List StkEntry) :
    (s.setEnts b es).frame = s.frame := by
  simp only [State.setEnts, ↓State.setFld_frame, ↓State.frame_mk, ↓State.frame_eta]

theorem State.blkFault_frame (s : State) (b : Nat) (n : Nat) (code : Nat) :
    (s.blkFault b n code).frame = s.frame := by
  simp only [State.blkFault, ↓State.driveTree_frame, ↓State.setFld_frame, ↓State.frame_ite, ite_self]

theorem State.refresh_frame (s : State) (b : Nat) (n : Nat) :
    (s.refresh b n).frame = s.frame := by
  unfold State.refresh
  repeat' first
    | with_reducible rfl
    | simp only [↓State.blkFault_frame, ↓State.driveTree_frame, ↓State.setFld_frame, ↓State.frame_ite]
    | split

theorem State.dropShadows_frame (s : State) (b : Nat) (n : Nat) : (s.dropShadows b n).frame = s.frame := by
  simp only [State.dropShadows, ↓State.setFld_frame, ↓State.frame_mk, ↓State.frame_eta]

theorem State.dropEntries_frame (s : State) (b : Nat) (n : Nat) :
    (s.dropEntries b n).frame = s.frame := by
  simp only [State.dropEntries, ↓State.setEnts_frame, ↓State.frame_ite, ite_self]

theorem State.enterIdle_frame (s : State) (b : Nat) (n : Nat) :
    (s.enterIdle b n).frame = s.frame := by
  simp only [State.enterIdle, ↓State.driveTree_frame, ↓State.modBlk_frame, ↓State.setFld_frame, ↓State.wr_frame]

theorem State.oweCancel_frame (s : State) (b : Nat) (n : Nat) :
    (s.oweCancel b n).frame = s.frame := by
  simp only [State.oweCancel, ↓State.modBlk_frame, ↓State.frame_ite, ↓State.frame_mk, ↓State.frame_eta, ite_self]

theorem State.stkLost_frame (s : State) (b : Nat) (k : Nat) :
    (s.stkLost b k).frame = s.frame := by
  simp only [State.stkLost, ↓State.sat_frame, ↓State.frame_ite, ite_self]

theorem State.blkDiscard_frame (s : State) (b : Nat) (n : Nat) :
    (s.blkDiscard b n).frame = s.frame := by
  simp only [State.blkDiscard, ↓State.dropEntries_frame, ↓State.dropShadows_frame, ↓State.enterIdle_frame,
      ↓State.oweCancel_frame]

theorem State.wrFlds_frame (s : State) (a : Nat) (v : Word) : (s.wrFlds a v).frame = s.frame := by
  unfold State.wrFlds
  repeat' first
    | with_reducible rfl
    | simp only [↓State.wr_frame]

    | split

theorem State.writeExp_frame (s : State) (b : Nat) (n : Nat) (r : Req) : (s.writeExp b n r).1.frame = s.frame := by
  unfold State.writeExp
  repeat' first
    | with_reducible rfl
    | simp only [↓State.blkDiscard_frame, ↓State.driveTree_frame, ↓State.modBlk_frame, ↓State.refresh_frame,
        ↓State.setFld_frame, ↓State.stkLost_frame, ↓State.wr_frame, ↓State.wrFlds_frame, ↓State.fst_frame_ite,
        ↓State.fst_frame_mk, ite_self]
    | split

theorem execExpCollect_frame (b : Fin 193) (n : Fin 8) (r : Req) (s : State) :
    outFrame (execExpCollect b n r s) = some s.frame := by
  simp only [execExpCollect, ↓State.serve_frame, ↓State.writeExp_frame, ↓outFrame_next]

theorem execExpExpect_frame (b : Fin 193) (n : Fin 8) (r : Req) (s : State) :
    outFrame (execExpExpect b n r s) = some s.frame := by
  simp only [execExpExpect, ↓State.serve_frame, ↓State.writeExp_frame, ↓outFrame_next]

theorem execExpAbort_frame (b : Fin 193) (n : Fin 8) (r : Req) (s : State) :
    outFrame (execExpAbort b n r s) = some s.frame := by
  simp only [execExpAbort, ↓State.serve_frame, ↓State.writeExp_frame, ↓outFrame_next]

theorem execExpRelease_frame (b : Fin 193) (n : Fin 8) (r : Req) (s : State) :
    outFrame (execExpRelease b n r s) = some s.frame := by
  simp only [execExpRelease, ↓State.serve_frame, ↓State.writeExp_frame, ↓outFrame_next]

theorem State.portDownSet_frame (s : State) (p : Nat) (n : Nat) :
    (s.portDownSet p n).frame = s.frame := by
  simp only [State.portDownSet, ↓State.blkFault_frame, ↓State.dropEntries_frame, ↓State.modBlk_frame,
      ↓State.oweCancel_frame, ↓State.refresh_frame, ↓State.stkLost_frame, ↓State.frame_ite, ↓State.frame_mk,
      ↓State.frame_eta, ite_self]

theorem State.portDownStakes_frame (s : State) (p : Nat) :
    (s.portDownStakes p).frame = s.frame := by
  simp only [State.portDownStakes, ↓State.portDownSet_frame, ↓foldl_frame, implies_true]

theorem State.seeFault_frame (s : State) (n : Nat) :
    (s.seeFault n).frame = s.frame := by
  simp only [State.seeFault, ↓State.modSet_frame, ↓State.setFld_frame, ↓State.frame_ite, ite_self]

theorem State.abortUncommitted_frame (s : State) :
    (s.abortUncommitted).frame = s.frame := by
  simp only [State.abortUncommitted, ↓State.abortSet_frame, ↓State.frame_ite, ite_self, ↓foldl_frame, implies_true]

theorem execSeqPassStart_frame (s : State) :
    outFrame (execSeqPassStart s) = some s.frame := by
  unfold execSeqPassStart
  repeat' first
    | with_reducible rfl
    | simp only [↓outFrame_next, ↓outFrame_ite, ↓State.frame_mk, ↓State.frame_eta, ite_self]
    | split

theorem State.seqWrite_frame (s : State) (q : Pass) (b : Nat) : (s.seqWrite q b).1.frame = s.frame := by
  simp only [State.seqWrite, ↓State.glbSend_frame, ↓State.outAdd_frame, ↓State.seqFail_frame, ↓State.writeExp_frame,
      ↓State.fst_frame_ite, ↓State.fst_frame_mk, ite_self]

theorem execSeqPassWrite_frame (s : State) :
    outFrame (execSeqPassWrite s) = some s.frame := by
  unfold execSeqPassWrite
  repeat' first
    | with_reducible rfl
    | simp only [↓State.seqWrite_frame, ↓outFrame_next, ↓outFrame_ite, ↓State.frame_mk, ↓State.frame_eta, ite_self]
    | split

theorem State.lockPlats_frame (s : State) (ps : List (Nat × Nat)) (v : Nat) :
    (s.lockPlats ps v).frame = s.frame := by
  simp only [State.lockPlats, ↓State.setFld_frame, ↓foldl_frame, implies_true]

theorem State.own7Done_frame (s : State) (n : Nat) (result : Nat) :
    (s.own7Done n result).frame = s.frame := by
  unfold State.own7Done
  repeat' first
    | with_reducible rfl
    | simp only [↓State.frame_ite, ↓State.frame_mk, ↓State.frame_eta, ite_self]
    | split

theorem State.endSet_frame (s : State) (n : Nat) (result : Nat) (reason : Nat) :
    (s.endSet n result reason).frame = s.frame := by
  simp only [State.endSet, ↓State.lockPlats_frame, ↓State.modSet_frame, ↓State.own7Done_frame, ↓State.raise_frame,
      ↓State.setFld_frame, ↓State.toSet_frame]

theorem State.passDone_frame (s : State) (q : Pass) :
    (s.passDone q).frame = s.frame := by
  unfold State.passDone
  repeat' first
    | with_reducible rfl
    | simp only [↓State.endSet_frame, ↓State.modSet_frame, ↓State.sat_frame, ↓State.toSet_frame, ↓State.frame_ite,
        ite_self]
    | split

theorem execSeqPassEnd_frame (s : State) : outFrame (execSeqPassEnd s) = some s.frame := by
  unfold execSeqPassEnd
  repeat' first
    | with_reducible rfl
    | simp only [↓State.outDone_frame, ↓State.passDone_frame, ↓State.seqFail_frame, ↓State.frame_mk, ↓State.frame_eta,
        ↓foldl_frame, ↓outFrame_next, ↓outFrame_ite, ite_self, implies_true]
    | split

theorem State.openSet_frame (s : State) (n : Nat) (r : Req) :
    (s.openSet n r).frame = s.frame := by
  simp only [State.openSet, ↓State.modSet_frame, ↓State.reqPass_frame, ↓State.setFld_frame, ↓State.toSet_frame,
      ↓State.wr_frame, ↓foldl_frame, implies_true]

theorem State.wakeSleepers_frame (s : State) :
    (s.wakeSleepers).frame = s.frame := by
  simp only [State.wakeSleepers, ↓State.modStn_frame, ↓State.setFld_frame, ↓State.frame_ite, ite_self, ↓foldl_frame,
      implies_true]

theorem State.closeSet_frame (s : State) (n : Nat) :
    (s.closeSet n).frame = s.frame := by
  simp only [State.closeSet, ↓State.abortSet_frame, ↓State.lockPlats_frame, ↓State.modSet_frame, ↓State.reqPass_frame,
      ↓State.sat_frame, ↓State.setFld_frame, ↓State.toSet_frame, ↓State.wr_frame, ↓State.frame_ite, ite_self]

theorem State.writeSetCtl_frame (s : State) (n : Nat) (r : Req) :
    (s.writeSetCtl n r).1.frame = s.frame := by
  unfold State.writeSetCtl
  repeat' first
    | with_reducible rfl
    | simp only [↓State.abortSet_frame, ↓State.closeSet_frame, ↓State.openSet_frame, ↓State.setFld_frame,
        ↓State.wakeSleepers_frame, ↓State.fst_frame_ite, ite_self, ↓foldl_frame, implies_true]
    | split

theorem execSetOpen_frame (n : Fin 8) (r : Req) (s : State) :
    outFrame (execSetOpen n r s) = some s.frame := by
  simp only [execSetOpen, ↓State.serve_frame, ↓State.writeSetCtl_frame, ↓outFrame_next]

theorem execSetClose_frame (n : Fin 8) (r : Req) (s : State) :
    outFrame (execSetClose n r s) = some s.frame := by
  simp only [execSetClose, ↓State.serve_frame, ↓State.writeSetCtl_frame, ↓outFrame_next]

theorem execSetAbort_frame (n : Fin 8) (r : Req) (s : State) :
    outFrame (execSetAbort n r s) = some s.frame := by
  simp only [execSetAbort, ↓State.serve_frame, ↓State.writeSetCtl_frame, ↓outFrame_next]

theorem State.writeContent_frame (s : State) (a : Nat) (n : Nat) (r : Req) :
    (s.writeContent a n r).1.frame = s.frame := by
  simp only [State.writeContent, ↓State.plainWrite_frame, ↓State.fst_frame_ite, ite_self]

theorem State.writePart_frame (s : State) (n : Nat) (b : Nat) (r : Req) :
    (s.writePart n b r).1.frame = s.frame := by
  simp only [State.writePart, ↓State.writeContent_frame, ↓State.fst_frame_ite, ite_self]

theorem execStakeCommit_frame (n : Fin 8) (s : State) :
    outFrame (execStakeCommit n s) = some s.frame := by
  simp only [execStakeCommit, ↓State.merReq_frame, ↓State.setFld_frame, ↓State.toSet_frame, ↓State.wr_frame,
      ↓outFrame_next, ↓outFrame_ite, ↓State.frame_ite, ite_self]

theorem execStakeFaultAbort_frame (n : Fin 8) (s : State) :
    outFrame (execStakeFaultAbort n s) = some s.frame := by
  simp only [execStakeFaultAbort, ↓State.abortSet_frame, ↓State.seeFault_frame, ↓outFrame_next, ↓outFrame_ite,
      ite_self]

theorem execStakeNotready_frame (n : Fin 8) (s : State) :
    outFrame (execStakeNotready n s) = some s.frame := by
  simp only [execStakeNotready, ↓State.abortSet_frame, ↓outFrame_next, ↓outFrame_ite, ite_self]

theorem execStakeAbortDone_frame (n : Fin 8) (s : State) :
    outFrame (execStakeAbortDone n s) = some s.frame := by
  simp only [execStakeAbortDone, ↓State.endSet_frame, ↓State.sat_frame, ↓outFrame_next, ↓outFrame_ite, ite_self]

theorem execStakeControllerT_frame (n : Fin 8) (s : State) :
    outFrame (execStakeControllerT n s) = some s.frame := by
  simp only [execStakeControllerT, ↓State.toSet_frame, ↓outFrame_next, ↓outFrame_ite, ite_self]

theorem execStakeResult_frame (n : Fin 8) (s : State) :
    outFrame (execStakeResult n s) = some s.frame := by
  simp only [execStakeResult, ↓State.endSet_frame, ↓State.raise_frame, ↓State.sat_frame, ↓State.seeFault_frame,
      ↓outFrame_next, ↓outFrame_ite, ↓State.frame_ite, ite_self]

theorem execStakeStuck_frame (n : Fin 8) (s : State) :
    outFrame (execStakeStuck n s) = some s.frame := by
  simp only [execStakeStuck, ↓State.modSet_frame, ↓State.raise_frame, ↓State.reqPass_frame, ↓outFrame_next,
      ↓outFrame_ite, ite_self]

theorem State.callAt_frame (s : State) (b : Nat) (n : Nat) (t : Nat) :
    (s.callAt b n t).frame = s.frame := by
  simp only [State.callAt, ↓State.driveTree_frame, ↓State.modBlk_frame, ↓State.setFld_frame, ↓State.stkLost_frame,
      ↓State.frame_ite, ite_self]

theorem execStakeCallArrival_frame (b : Fin 192) (sbe : Bool) (s : State) :
    outFrame (execStakeCallArrival b sbe s) = some s.frame := by
  unfold execStakeCallArrival
  repeat' first
    | with_reducible rfl
    | simp only [↓State.callAt_frame, ↓State.meet_frame, ↓State.merSbe_frame, ↓outFrame_next, ↓State.frame_ite,
        ite_self]
    | split

theorem execStakeMissed_frame (b : Fin 193) (n : Fin 8) (s : State) :
    outFrame (execStakeMissed b n s) = some s.frame := by
  simp only [execStakeMissed, ↓State.blkFault_frame, ↓State.dropEntries_frame, ↓State.dropShadows_frame,
      ↓State.setFld_frame, ↓State.stkLost_frame, ↓outFrame_next, ↓outFrame_ite, ↓State.frame_mk, ↓State.frame_eta,
      ite_self]

theorem State.takeStw_frame (s : State) (p : Nat) (q : Pkt) :
    (s.takeStw p q).frame = s.frame := by
  simp only [State.takeStw, ↓State.ncnt_frame, ↓State.refresh_frame, ↓State.respond_frame, ↓State.sat_frame,
      ↓State.setEnts_frame, ↓State.setFld_frame, ↓State.tcapPkt_frame, ↓State.wrap_frame, ↓State.frame_ite, ite_self]

theorem execStwReceive_frame (p : Fin 144) (s : State) :
    outFrame (execStwReceive p s) = some s.frame := by
  unfold execStwReceive
  repeat' first
    | with_reducible rfl
    | simp only [↓State.modNi_frame, ↓State.takeStw_frame, ↓outFrame_next, ↓outFrame_ite, ite_self]
    | split

theorem State.writeRws_frame (s : State) (a : Nat) (r : Req) :
    (s.writeRws a r).1.frame = s.frame := by
  unfold State.writeRws
  repeat' first
    | with_reducible rfl
    | exact Eq.symm (by assumption)
    | simp only [↓State.refresh_frame]
    | (refine (State.rwsWrite_frame _ _ _ _ _ (by assumption)).trans ?_)
    | split

end Sys2Proof.Machine
end

