-- ==== Sys2Proof/Laws/FrameJournal.lean ====
section
/-!
SUPPORT. Laws/FrameJournal.lean: the functions of Machine/Journal.lean leave memory, the queue and the datum alone.
-/
namespace Sys2Proof.Machine

theorem State.takeSlot_frame (s : State) :
    (s.takeSlot).2.frame = s.frame := by
  simp only [State.takeSlot, ↓State.snd_frame_ite, ↓State.frame_mk, ↓State.frame_eta, ite_self]

theorem State.takeSeq_frame (s : State) :
    (s.takeSeq).2.frame = s.frame := by
  simp only [State.takeSeq, ↓State.setFld_frame]

theorem State.setJq_frame (s : State) (q : List JRec) :
    (s.setJq q).frame = s.frame := by
  simp only [State.setJq, ↓State.setFld_frame, ↓State.frame_mk, ↓State.frame_eta]

theorem State.jFault_frame (s : State) :
    (s.jFault).frame = s.frame := by
  simp only [State.jFault, ↓State.raise_frame, ↓State.setFld_frame, ↓State.frame_mk, ↓State.frame_eta]

theorem State.nvmPut_frame (s : State) (op : Nat) (addr : Nat) (data : Word) (who : Nat) :
    (s.nvmPut op addr data who).frame = s.frame := by simp only [State.nvmPut, State.frame_mk, State.frame_eta]

theorem State.jIssue_frame (s : State) :
    (s.jIssue).frame = s.frame := by
  unfold State.jIssue
  repeat' first
    | with_reducible rfl
    | simp only [↓State.nvmPut_frame, ↓State.frame_ite]
    | split

theorem State.jBegin_frame (s : State) (r : JRec) (slot : Nat) (seq : Nat) (retry : Bool) :
    (s.jBegin r slot seq retry).frame = s.frame := by
  simp only [State.jBegin, ↓State.jIssue_frame, ↓State.frame_mk, ↓State.frame_eta]

theorem State.jStart_frame (s : State) (r : JRec) (retry : Bool) :
    (s.jStart r retry).frame = s.frame := by
  unfold State.jStart
  repeat' first
    | with_reducible rfl
    | simp only [↓State.jBegin_frame, ↓State.takeSeq_frame, ↓State.takeSlot_frame]
    | split

theorem State.jTellLoss_frame (s : State) :
    (s.jTellLoss).frame = s.frame := by
  simp only [State.jTellLoss, ↓State.note_frame, ↓State.raise_frame, ↓State.frame_ite, ↓State.frame_mk,
      ↓State.frame_eta, ite_self]

theorem execJournalRecordWrite_frame (s : State) :
    outFrame (execJournalRecordWrite s) = some s.frame := by
  unfold execJournalRecordWrite
  repeat' first
    | with_reducible rfl
    | simp only [↓State.jStart_frame, ↓State.jTellLoss_frame, ↓State.setJq_frame, ↓outFrame_next, ↓outFrame_ite]
    | split

theorem State.jWordDone_frame (s : State) :
    (s.jWordDone).frame = s.frame := by
  unfold State.jWordDone
  repeat' first
    | with_reducible rfl
    | simp only [↓State.jStart_frame, ↓State.setJq_frame, ↓State.frame_ite, ↓State.frame_mk, ↓State.frame_eta]
    | split

theorem State.jWordFail_frame (s : State) :
    (s.jWordFail).frame = s.frame := by
  unfold State.jWordFail
  repeat' first
    | with_reducible rfl
    | simp only [↓State.jFault_frame, ↓State.jStart_frame, ↓State.frame_ite, ↓State.frame_mk, ↓State.frame_eta,
        ite_self]
    | split

theorem State.tripEnd_frame (s : State) (fail : Bool) :
    (s.tripEnd fail).frame = s.frame := by
  simp only [State.tripEnd, ↓State.setFld_frame, ↓State.frame_ite, ↓State.frame_mk, ↓State.frame_eta, ite_self]

theorem State.nvmDone_frame (s : State) (q : NvmReq) (ok : Bool) :
    (s.nvmDone q ok).frame = s.frame := by
  unfold State.nvmDone
  repeat' first
    | with_reducible rfl
    | simp only [↓State.gcnt_frame, ↓State.jFault_frame, ↓State.jWordDone_frame, ↓State.jWordFail_frame,
        ↓State.tripEnd_frame, ↓State.frame_ite, ↓State.frame_mk, ↓State.frame_eta, ite_self]
    | split

theorem execNvmResponse_frame (st : Bool) (_d : Word) (s : State) :
    outFrame (execNvmResponse st _d s) = some s.frame := by
  unfold execNvmResponse
  repeat' first
    | with_reducible rfl
    | simp only [↓State.jIssue_frame, ↓State.nvmDone_frame, ↓outFrame_next, ↓State.frame_ite, ↓State.frame_mk,
        ↓State.frame_eta, ite_self]
    | split

theorem execNvmTimeout_frame (s : State) :
    outFrame (execNvmTimeout s) = some s.frame := by
  unfold execNvmTimeout
  repeat' first
    | with_reducible rfl
    | simp only [↓State.nvmDone_frame, ↓outFrame_next, ↓outFrame_ite, ↓State.frame_mk, ↓State.frame_eta, ite_self]
    | split

theorem State.scanRecords_frame (s : State) (torn : List (Nat × SlotClass)) (found : Nat) (presumed : Option Nat) :
    (s.scanRecords torn found presumed).frame = s.frame := by
  unfold State.scanRecords
  repeat' first
    | with_reducible rfl
    | simp only [↓State.note_frame, ↓State.setFld_frame, ↓foldl_frame, implies_true]
    | split

theorem execJournalScanEnd_frame (slots : List JSlot) (s : State) :
    outFrame (execJournalScanEnd slots s) = some s.frame := by
  unfold execJournalScanEnd
  repeat' first
    | with_reducible rfl
    | simp only [↓State.scanRecords_frame, ↓State.setFld_frame, ↓outFrame_next, ↓outFrame_ite, ↓State.frame_mk,
        ↓State.frame_eta]
    | split

theorem execSlipResponse_frame (s : State) : outFrame (execSlipResponse s) = some s.frame := by
  unfold execSlipResponse
  repeat' first
    | with_reducible rfl
    | simp only [↓State.markAvoid_frame, ↓State.note_frame, ↓State.raise_frame, ↓State.frame_ite, ↓State.frame_mk,
        ↓State.frame_eta, ↓outFrame_next, ↓outFrame_ite, ite_self]
    | split

end Sys2Proof.Machine
end

