-- ==== Sys2Proof/Laws/FrameSet7.lean ====
section
/-!
SUPPORT. Laws/FrameSet7.lean: the functions of Machine/Set7.lean leave memory, the queue and the datum alone.
-/
namespace Sys2Proof.Machine

theorem State.tryPatch_frame (s : State) (st : Nat) (x : Word) :
    (s.tryPatch st x).1.frame = s.frame := by
  simp only [State.tryPatch, ↓State.writePatch_frame, ↓State.fst_frame_ite, ite_self]

theorem State.placeFor_frame (s : State) (n a : Nat) (v : Word) (u : State) (h : s.placeFor n a v = some u) :
    u.frame = s.frame := by
  unfold State.placeFor at h
  dsimp only at h
  split at h
  · cases h
  · split at h
    · cases h
    · rename_i heq
      have h1 := State.placeShadow_frame _ _ _ _ heq
      cases h
      simp only [↓State.setFld_frame] at h1 ⊢
      exact h1

theorem State.placeAll_frame (s : State) (n : Nat) (l : List (Nat × Word)) : (s.placeAll n l).1.frame = s.frame := by
  unfold State.placeAll
  refine fst_foldl_frame (fun x e => ?_) _ _
  split
  · exact State.placeFor_frame _ _ _ _ _ (by assumption)
  · rfl

theorem State.open7_frame (s : State) :
    (s.open7).frame = s.frame := by
  simp only [State.open7, ↓State.openSet_frame, ↓State.wakeSleepers_frame]

theorem State.close7_frame (s : State) (t : Nat) (lead : Nat) :
    (s.close7 t lead).frame = s.frame := by
  simp only [State.close7, ↓State.closeSet_frame, ↓State.setFld_frame, ↓State.wr_frame]

theorem execReapplyShadows_frame (n : Fin 8) (s : State) :
    outFrame (execReapplyShadows n s) = some s.frame := by
  unfold execReapplyShadows
  repeat' first
    | with_reducible rfl
    | simp only [↓State.close7_frame, ↓State.note_frame, ↓State.open7_frame, ↓State.placeAll_frame, ↓outFrame_next,
        ↓outFrame_ite, ↓State.frame_mk, ↓State.frame_eta, ite_self]
    | split

end Sys2Proof.Machine
end

