-- ==== Sys2Proof/Laws/FrameFederation.lean ====
section
/-!
SUPPORT. Laws/FrameFederation.lean: the functions of Machine/Federation.lean leave memory, the queue and the datum alone.
-/
namespace Sys2Proof.Machine

theorem State.fedLink_frame (s : State) (f : Nat) (q : Pkt) :
    (s.fedLink f q).frame = s.frame := by
  simp only [State.fedLink, ↓State.modFed_frame, ↓State.frame_ite, ite_self]

theorem State.fedDrive_frame (s : State) (f : Nat) : (s.fedDrive f).frame = s.frame := by
  unfold State.fedDrive
  repeat' first
    | with_reducible rfl
    | simp only [↓State.gcnt_frame, ↓State.modFed_frame, ↓State.frame_ite, ite_self]

    | split

theorem State.fedAnswerLink_frame (s : State) (f : Nat) (q : Hdr) (code : BitVec 4) :
    (s.fedAnswerLink f q code).frame = s.frame := by
  unfold State.fedAnswerLink
  repeat' first
    | with_reducible rfl
    | simp only [↓State.fedLink_frame]
    | split

theorem State.fedAnswerLocal_frame (s : State) (f : Nat) (q : Hdr) (code : BitVec 4) :
    (s.fedAnswerLocal f q code).frame = s.frame := by
  unfold State.fedAnswerLocal
  repeat' first
    | with_reducible rfl
    | simp only [↓State.agentBuild_frame]

    | split

theorem State.fedTag_frame (s : State) (f : Nat) :
    (s.fedTag f).2.frame = s.frame := by
  simp only [State.fedTag, ↓State.modFed_frame]

theorem State.fedDrain_frame (s : State) (f : Nat) (c : Nat) : (s.fedDrain f c).frame = s.frame := by
  simp only [State.fedDrain, ↓State.agentBuild_frame, ↓State.fedTag_frame, ↓State.modFed_frame, ↓State.outAdd_frame,
      ↓foldl_frame, implies_true]

theorem execTtSyncSend_frame (f : Fin 12) (s : State) :
    outFrame (execTtSyncSend f s) = some s.frame := by
  simp only [execTtSyncSend, ↓State.modFed_frame, ↓outFrame_next, ↓outFrame_ite, ite_self]

theorem State.timeFault_frame (s : State) (f : Nat) :
    (s.timeFault f).frame = s.frame := by
  simp only [State.timeFault, ↓State.fedCause_frame, ↓State.setFld_frame]

theorem State.estimate_frame (s : State) (f : Nat) (th : ℤ) (de : ℤ) :
    (s.estimate f th de).frame = s.frame := by
  simp only [State.estimate, ↓State.modFed_frame, ↓State.sat_frame, ↓State.setFld_frame, ↓State.timeFault_frame,
      ↓State.wr_frame, ↓State.frame_ite, ite_self]

theorem State.fedAdvance_frame (s : State) (f : Nat) :
    (s.fedAdvance f).frame = s.frame := by
  simp only [State.fedAdvance, ↓State.modFed_frame, ↓State.setFld_frame, ↓State.frame_ite, ite_self]

theorem execTtSyncReceive_frame (f : Fin 12) (m : SyncMsg) (s : State) :
    outFrame (execTtSyncReceive f m s) = some s.frame := by
  unfold execTtSyncReceive
  repeat' first
    | with_reducible rfl
    | simp only [↓State.estimate_frame, ↓State.fedAdvance_frame, ↓State.modFed_frame, ↓State.sat_frame,
        ↓State.setFld_frame, ↓outFrame_next, ↓outFrame_ite]
    | split

theorem State.fedBarAnswer_frame (s : State) (f : Nat) (b : FedBar) (code : BitVec 4) (link : Bool) :
    (s.fedBarAnswer f b code link).frame = s.frame := by
  simp only [State.fedBarAnswer, ↓State.fedAnswerLink_frame, ↓State.fedAnswerLocal_frame, ↓State.frame_ite, ite_self]

theorem State.fedAbsorb_frame (s : State) (f : Nat) (h : Hdr) :
    (s.fedAbsorb f h).frame = s.frame := by
  simp only [State.fedAbsorb, ↓State.fedAnswerLocal_frame, ↓State.sat_frame, ↓State.frame_ite, ite_self]

theorem State.fedLost_frame (s : State) (f cause : Nat) : (s.fedLost f cause).frame = s.frame := by
  unfold State.fedLost
  split
  · rfl
  · simp only [↓foldl_frame, ↓State.fedAnswerLocal_frame, ↓State.fedAbsorb_frame, ↓State.sat_frame, implies_true,
      ↓State.setFld_frame, ↓State.modFed_frame]
    refine (foldl_frame (fun s e => ?_) _ _).trans (by simp only [↓State.note_frame, ↓State.fedCause_frame,
      ↓State.setFld_frame])
    split <;> simp only [↓State.outDone_frame]

theorem execTtSyncTimeout_frame (f : Fin 12) (s : State) :
    outFrame (execTtSyncTimeout f s) = some s.frame := by
  simp only [execTtSyncTimeout, ↓State.fedLost_frame, ↓State.timeFault_frame, ↓outFrame_next, ↓outFrame_ite,
      ↓State.frame_ite, ite_self]

theorem execFedLinkDown_frame (f : Fin 12) (s : State) :
    outFrame (execFedLinkDown f s) = some s.frame := by
  simp only [execFedLinkDown, ↓State.fedLost_frame, ↓State.setFld_frame, ↓outFrame_next]

theorem State.writeFedCtl_frame (s : State) (f : Nat) (r : Req) :
    (s.writeFedCtl f r).1.frame = s.frame := by
  simp only [State.writeFedCtl, ↓State.fedAdvance_frame, ↓State.modFed_frame, ↓State.plainWrite_frame,
      ↓State.setFld_frame, ↓State.frame_ite, ↓State.fst_frame_ite, ite_self]

theorem execFedRestart_frame (f : Fin 12) (r : Req) (s : State) :
    outFrame (execFedRestart f r s) = some s.frame := by
  simp only [execFedRestart, ↓State.serve_frame, ↓State.writeFedCtl_frame, ↓outFrame_next]

theorem execRootOfsUpdate_frame (s : State) :
    outFrame (execRootOfsUpdate s) = some s.frame := by
  unfold execRootOfsUpdate
  repeat' first
    | with_reducible rfl
    | simp only [↓State.wr_frame, ↓outFrame_next, ↓outFrame_ite, ite_self]
    | split

theorem State.outBarStart_frame (s : State) (f : Nat) :
    (s.outBarStart f).frame = s.frame := by
  unfold State.outBarStart
  repeat' first
    | with_reducible rfl
    | simp only [↓State.fedLink_frame, ↓State.fedTag_frame, ↓State.modFed_frame, ↓State.frame_ite, ite_self]
    | split

theorem State.inBarExpand_frame (s : State) (f : Nat) : (s.inBarExpand f).frame = s.frame := by
  unfold State.inBarExpand
  repeat' first
    | with_reducible rfl
    | simp only [↓State.agentBuild_frame, ↓State.fedTag_frame, ↓State.modFed_frame, ↓State.sat_frame,
        ↓State.frame_ite, ↓State.fst_frame_mk, ↓foldl_frame, ↓fst_foldl_frame, ite_self, implies_true]
    | split

theorem State.inBarGo_frame (s : State) (f n : Nat) : (s.inBarGo f n).frame = s.frame := by
  induction n generalizing s with
  | zero => rw [State.inBarGo]
  | succ n ih =>
    unfold State.inBarGo
    repeat' first
      | with_reducible rfl
      | simp only [ih, ↓State.inBarExpand_frame, ↓State.fedAnswerLink_frame, ↓State.modFed_frame]
      | split

theorem State.inBarEnd_frame (s : State) (f : Nat) (tag : Nat) (code : BitVec 4) :
    (s.inBarEnd f tag code).frame = s.frame := by
  unfold State.inBarEnd
  repeat' first
    | with_reducible rfl
    | simp only [↓State.inBarGo_frame, ↓State.modFed_frame]

    | split

theorem State.police_frame (s : State) (f l : Nat) (u : State) (h : s.police f l = some u) : u.frame = s.frame := by
  unfold State.police at h
  dsimp only at h
  split at h
  · cases h; simp only [↓State.setFld_frame]
  · cases h

theorem State.policeDrop_frame (s : State) (f : Nat) (h : Hdr) :
    (s.policeDrop f h).frame = s.frame := by
  simp only [State.policeDrop, ↓State.fedAnswerLink_frame, ↓State.fedCause_frame, ↓State.gcnt_frame, ↓State.sat_frame,
      ↓State.setFld_frame, ↓State.frame_ite, ite_self]

theorem State.fwdEnd_frame (s : State) (f : Nat) (e : Nat) :
    (s.fwdEnd f e).frame = s.frame := by
  unfold State.fwdEnd
  repeat' first
    | with_reducible rfl
    | simp only [↓State.fwdCount_frame, ↓State.modFed_frame, ↓State.outDone_frame]
    | split

theorem State.fedNoRoute_frame (s : State) (f : Nat) (q : Hdr) : (s.fedNoRoute f q).frame = s.frame := by
  simp only [State.fedNoRoute, ↓State.fedAnswerLink_frame, ↓State.sat_frame]

theorem State.fedPumpQ_frame (s : State) (f k n : Nat) : (s.fedPumpQ f k n).frame = s.frame := by
  induction n generalizing s with
  | zero => rw [State.fedPumpQ]
  | succ n ih =>
    unfold State.fedPumpQ
    repeat' first
      | with_reducible rfl
      | simp only [ih, ↓State.inBarGo_frame, ↓State.ingNext_frame, ↓State.modFed_frame, ↓State.fedNoRoute_frame,
          ↓State.agentBuild_frame]
      | split

theorem State.fedPump_frame (s : State) (f : Nat) :
    (s.fedPump f).frame = s.frame := by
  simp only [State.fedPump, ↓State.fedPumpQ_frame, ↓foldl_frame, implies_true]

theorem execFwdEntryExpire_frame (f : Fin 12) (e : Fin 512) (s : State) :
    outFrame (execFwdEntryExpire f e s) = some s.frame := by
  unfold execFwdEntryExpire
  repeat' first
    | with_reducible rfl
    | simp only [↓State.fedPump_frame, ↓State.fwdEnd_frame, ↓outFrame_next, ↓outFrame_ite, ite_self]
    | split

theorem State.takeBack_frame (s : State) (b : Nat) (k : Nat) : (s.takeBack b k).frame = s.frame := by
  unfold State.takeBack
  repeat' first
    | with_reducible rfl
    | simp only [↓State.outDone_frame, ↓State.setAgent_frame, ↓State.frame_ite, ite_self]
    | split

theorem execFedIngressHoldExpire_frame (f : Fin 12) (s : State) :
    outFrame (execFedIngressHoldExpire f s) = some s.frame := by
  unfold execFedIngressHoldExpire
  extract_lets f lim
  rw [outFrame_next, foldl_frame (fun s k => ?_)]
  repeat' first
    | with_reducible rfl
    | simp only [↓State.fedPump_frame, ↓State.fedAnswerLink_frame, ↓State.sat_frame, ↓State.ingNext_frame,
        ↓State.takeBack_frame, ↓State.frame_ite, ite_self]
    | split

theorem State.fedOwnRsp_frame (s : State) (f : Nat) (q : Pkt) : (s.fedOwnRsp f q).frame = s.frame := by
  unfold State.fedOwnRsp
  repeat' first
    | with_reducible rfl
    | simp only [↓State.fedCause_frame, ↓State.inBarEnd_frame, ↓State.modFed_frame, ↓State.outDone_frame,
        ↓State.sat_frame, ↓State.frame_ite, ite_self]
    | split

theorem State.ingPut_frame (s : State) (f : Nat) (k : Nat) (q : Pkt) : (s.ingPut f k q).frame = s.frame := by
  simp only [State.ingPut, ↓State.modFed_frame]

theorem execLinkBarrierReceive_frame (f : Fin 12) (w : FedPkt) (s : State) :
    outFrame (execLinkBarrierReceive f w s) = some s.frame := by
  simp only [execLinkBarrierReceive, ↓State.fedAnswerLink_frame, ↓State.fedCause_frame, ↓State.fedPump_frame,
      ↓State.gcnt_frame, ↓State.ingPut_frame, ↓State.sat_frame, ↓outFrame_next, ↓outFrame_ite, ite_self]

theorem State.outBarEnd_frame (s : State) (f : Nat) (h : Hdr) (code : BitVec 4) :
    (s.outBarEnd f h code).frame = s.frame := by
  unfold State.outBarEnd
  repeat' first
    | with_reducible rfl
    | simp only [↓State.fedAnswerLocal_frame, ↓State.modFed_frame, ↓State.outBarStart_frame, ↓State.frame_ite,
        ite_self]
    | split

theorem execFedPacketReceive_frame (f : Fin 12) (w : FedPkt) (s : State) :
    outFrame (execFedPacketReceive f w s) = some s.frame := by
  have hg := State.gcnt_frame s 58 (1 + w.h.len.toNat)
  unfold execFedPacketReceive
  extract_lets f t
  split
  · rfl
  · split
    · rw [outFrame_next, State.policeDrop_frame]
      exact congrArg some hg
    · rename_i u heq
      have hu : u.frame = s.frame := by
        split at heq
        · exact (State.police_frame _ _ _ _ heq).trans hg
        · rw [← Option.some.inj heq]; exact hg
      simp only [↓outFrame_ite, ↓outFrame_next, ↓State.fedPump_frame, ↓State.ingPut_frame, ↓State.outBarEnd_frame,
          ↓State.fedAnswerLink_frame, ↓State.fedCause_frame, ↓State.sat_frame, ↓State.frame_ite, hu, ite_self]

theorem State.fedOwn_frame (s : State) (f : Nat) (q : Pkt) : (s.fedOwn f q).frame = s.frame := by
  simp only [State.fedOwn, ↓State.fedAnswerLocal_frame, ↓State.fedCause_frame, ↓State.fedOwnRsp_frame,
      ↓State.modFed_frame, ↓State.outBarStart_frame, ↓State.sat_frame, ↓State.frame_ite, ite_self]

theorem State.fwdMatch_frame (s : State) (f : Nat) (h : Hdr) :
    (s.fwdMatch f h).frame = s.frame := by
  unfold State.fwdMatch
  repeat' first
    | with_reducible rfl
    | simp only [↓State.fedPump_frame, ↓State.fwdEnd_frame]
    | split

theorem execFedOutboundPacket_frame (f : Fin 12) (s : State) :
    outFrame (execFedOutboundPacket f s) = some s.frame := by
  unfold execFedOutboundPacket
  repeat' first
    | with_reducible rfl
    | simp only [↓State.fedAbsorb_frame, ↓State.fedAnswerLocal_frame, ↓State.fedCause_frame, ↓State.fedLink_frame,
        ↓State.fedOwn_frame, ↓State.fwdMatch_frame, ↓State.modFed_frame, ↓State.sat_frame, ↓State.frame_ite,
        ↓outFrame_next, ↓outFrame_ite, ite_self]
    | split

theorem execFedChainFlitReceive_frame (f : Fin 12) (g : FedG) (s : State) :
    outFrame (execFedChainFlitReceive f g s) = some s.frame := by
  unfold execFedChainFlitReceive
  repeat' first
    | with_reducible rfl
    | simp only [↓State.gcnt_frame, ↓State.sat_frame, ↓State.setSrcQueue_frame, ↓State.srcDrops_frame, ↓outFrame_next,
        ↓outFrame_ite, ↓State.fst_frame_ite, ite_self]
    | split

theorem State.fedRelay_frame (s : State) (f : Nat) :
    (s.fedRelay f).frame = s.frame := by
  simp only [State.fedRelay, ↓State.dstLoss_frame, ↓State.modFed_frame, ↓State.setDstQueue_frame, ↓State.frame_ite,
      ite_self, ↓foldl_frame, implies_true]

end Sys2Proof.Machine
end

