-- ==== Sys2Proof/Laws/FrameApply.lean ====
section
/-!
SUPPORT. Laws/FrameApply.lean: the functions of Machine/Apply.lean leave memory, the queue and the datum alone.
-/
namespace Sys2Proof.Machine

theorem State.niDrain_frame (s : State) (p : Nat) (c : Nat) :
    (s.niDrain p c).frame = s.frame := by
  simp only [State.niDrain, ↓State.buildReqs_frame, ↓State.modNi_frame, ↓State.outAdd_frame, ↓State.setBar_frame,
      ↓foldl_frame, implies_true]

theorem State.switchTrav_frame (s : State) (b : Nat) (n : Nat) :
    (s.switchTrav b n).frame = s.frame := by
  simp only [State.switchTrav, ↓State.fedDrain_frame, ↓State.niDrain_frame, ↓State.setFld_frame, ↓State.frame_ite,
      ite_self]

theorem State.laneRecord_frame (s : State) (st : Nat) (n : Nat) (failed : Nat) (was : Nat) (now : Nat) :
    (s.laneRecord st n failed was now).frame = s.frame := by
  simp only [State.laneRecord, ↓State.note_frame, ↓State.raise_frame, ↓State.stnCause_frame, ↓State.frame_ite,
      ↓State.frame_mk, ↓State.frame_eta, ite_self]

theorem State.laneRestore_frame (s : State) (st : Nat) (n : Nat) (failed : Nat) (back : Nat) :
    (s.laneRestore st n failed back).frame = s.frame := by
  simp only [State.laneRestore, ↓State.modStn_frame, ↓State.note_frame, ↓State.sat_frame, ↓State.setFld_frame,
      ↓State.frame_ite, ite_self]

theorem State.laneSwitch_frame (s : State) (st : Nat) (n : Nat) (v : Word) (kind : Nat) :
    (s.laneSwitch st n v kind).frame = s.frame := by
  simp only [State.laneSwitch, ↓State.laneRecord_frame, ↓State.laneRestore_frame, ↓State.modStn_frame,
      ↓State.setFld_frame, ↓State.unmark_frame, ↓State.frame_ite, ite_self]

theorem State.applyChain_frame (s : State) (b : Nat) (a : Nat) (v : Word) :
    (s.applyChain b a v).frame = s.frame := by
  unfold State.applyChain
  repeat' first
    | with_reducible rfl
    | simp only [↓State.dstChanged_frame, ↓State.srcChanged_frame, ↓State.wr_frame]
    | split

theorem State.applyNi_frame (s : State) (p : Nat) (a : Nat) (v : Word) :
    (s.applyNi p a v).frame = s.frame := by
  unfold State.applyNi
  repeat' first
    | with_reducible rfl
    | simp only [↓State.applyChain_frame, ↓State.slotChanged_frame, ↓State.switchTrav_frame, ↓State.wr_frame,
        ↓State.frame_ite]
    | split

theorem State.applyStn_frame (s : State) (st : Nat) (a : Nat) (n : Nat) (v : Word) :
    (s.applyStn st a n v).frame = s.frame := by
  unfold State.applyStn
  repeat' first
    | with_reducible rfl
    | simp only [↓State.modSet_frame, ↓State.setFld_frame, ↓State.wr_frame, ↓State.frame_mk, ↓State.frame_eta]
    | split

theorem State.applyGlb_frame (s : State) (a : Nat) (v : Word) :
    (s.applyGlb a v).frame = s.frame := by
  simp only [State.applyGlb, ↓State.setFld_frame, ↓State.switchTrav_frame, ↓State.wr_frame, ↓State.frame_ite,
      ↓State.frame_mk, ↓State.frame_eta, ite_self]

theorem State.applyShadow_frame (s : State) (n : Nat) (h : Shadow) :
    (s.applyShadow n h).frame = s.frame := by
  unfold State.applyShadow
  repeat' first
    | with_reducible rfl
    | simp only [↓State.applyChain_frame, ↓State.applyGlb_frame, ↓State.applyNi_frame, ↓State.applyStn_frame,
        ↓State.switchTrav_frame, ↓State.frame_ite, ite_self]
    | split

theorem State.strobe_frame (s : State) (p : Nat) (n : Nat) :
    (s.strobe p n).frame = s.frame := by
  simp only [State.strobe, ↓State.freeMons_frame, ↓State.modNi_frame]

theorem State.leave_frame (s : State) (b : Nat) (n : Nat) :
    (s.leave b n).frame = s.frame := by
  simp only [State.leave, ↓State.enterIdle_frame, ↓State.frame_ite, ↓State.frame_mk, ↓State.frame_eta, ite_self]

theorem State.noteApply_frame (s : State) (b : Nat) (n : Nat) :
    (s.noteApply b n).frame = s.frame := by
  simp only [State.noteApply, ↓State.frame_ite, ↓State.frame_mk, ↓State.frame_eta, ite_self]

theorem execStakeApply_frame (b : Fin 193) (n : Fin 8) (s : State) :
    outFrame (execStakeApply b n s) = some s.frame := by
  simp only [execStakeApply, ↓State.applyShadow_frame, ↓State.driveTree_frame, ↓State.dropEntries_frame,
      ↓State.dropShadows_frame, ↓State.leave_frame, ↓State.noteApply_frame, ↓State.setFld_frame, ↓State.strobe_frame,
      ↓outFrame_next, ↓outFrame_ite, ite_self, ↓foldl_frame, implies_true]

theorem State.leaveAll_frame (s : State) :
    (s.leaveAll).frame = s.frame := by
  simp only [State.leaveAll, ↓State.enterIdle_frame, ↓State.frame_mk, ↓State.frame_eta, ↓foldl_frame, implies_true]

theorem State.lanesDue_frame (s : State) : s.lanesDue.frame = s.frame := by
  unfold State.lanesDue
  refine (foldl_frame (fun s e => ?_) _ _).trans (by simp only [↓State.frame_mk, ↓State.frame_eta])
  repeat' first
    | with_reducible rfl
    | simp only [↓State.laneSwitch_frame]
    | split

theorem execRwsShadowWrite_frame (off : Fin 33554432) (r : Req) (s : State) :
    outFrame (execRwsShadowWrite off r s) = some s.frame := by
  unfold execRwsShadowWrite
  repeat' first
    | with_reducible rfl
    | simp only [↓State.serve_frame, ↓State.writePlatCtl_frame, ↓State.writeRws_frame, ↓State.writeStnTrav_frame,
        ↓outFrame_next, ↓outFrame_ite]
    | split

end Sys2Proof.Machine
end

