-- ==== Sys2Proof/Laws/FrameLocks.lean ====
section
/-!
SUPPORT. Laws/FrameLocks.lean: the functions of Machine/Locks.lean leave memory, the queue and the datum alone.
-/
namespace Sys2Proof.Machine

theorem State.lockFree_frame (s : State) (l : Nat) :
    (s.lockFree l).frame = s.frame := by
  simp only [State.lockFree, ↓State.wr_frame, ↓State.frame_mk, ↓State.frame_eta]

theorem State.lockTake_frame (s : State) (l : Nat) (src : Nat) :
    (s.lockTake l src).frame = s.frame := by
  simp only [State.lockTake, ↓State.setFld_frame]

theorem State.lockServed_frame (s : State) (src : Gid) :
    (s.lockServed src).frame = s.frame := by
  simp only [State.lockServed, ↓State.frame_ite, ↓State.frame_mk, ↓State.frame_eta, ite_self]

theorem State.lockAcquire_frame (s : State) (l : Nat) (src : Gid) :
    (s.lockAcquire l src).1.frame = s.frame := by
  simp only [State.lockAcquire, ↓State.gcnt_frame, ↓State.lockServed_frame, ↓State.lockTake_frame,
      ↓State.fst_frame_ite, ↓State.frame_mk, ↓State.frame_eta, ite_self]

theorem State.writeLock_frame (s : State) (l : Nat) (r : Req) :
    (s.writeLock l r).1.frame = s.frame := by
  simp only [State.writeLock, ↓State.lockFree_frame, ↓State.lockServed_frame, ↓State.sat_frame, ↓State.frame_ite,
      ↓State.fst_frame_ite, ite_self]

theorem State.lockServe_frame (s : State) (x : LockAcc) : (s.lockServe x).frame = s.frame := by
  simp only [State.lockServe, ↓State.answer_frame, ↓State.lockAcquire_frame, ↓State.serve_frame,
      ↓State.writeLock_frame, ↓State.frame_ite, ite_self]

theorem State.lockAccess_frame (s : State) (x : LockAcc) : (s.lockAccess x).frame = s.frame := by
  simp only [State.lockAccess, ↓State.lockServe_frame, ↓State.frame_ite, ↓State.frame_mk, ↓State.frame_eta,
      ↓foldl_frame, ite_self, implies_true]

theorem execLockAcquire_frame (l : Fin 256) (r : Req) (s : State) :
    outFrame (execLockAcquire l r s) = some s.frame := by
  simp only [execLockAcquire, ↓State.lockAccess_frame, ↓outFrame_next]

theorem execLockRelease_frame (l : Fin 256) (r : Req) (s : State) :
    outFrame (execLockRelease l r s) = some s.frame := by
  simp only [execLockRelease, ↓State.lockAccess_frame, ↓outFrame_next]

theorem State.breakLocks_frame (s : State) (p : Nat) :
    (s.breakLocks p).frame = s.frame := by
  simp only [State.breakLocks, ↓State.lockFree_frame, ↓State.raise_frame, ↓State.sat_frame, ↓State.setFld_frame,
      ↓State.frame_ite, ite_self, ↓foldl_frame, implies_true]

end Sys2Proof.Machine
end

