-- ==== Sys2Proof/Laws/FrameMailbox.lean ====
section
/-!
SUPPORT. Laws/FrameMailbox.lean: the functions of Machine/Mailbox.lean leave memory, the queue and the datum alone.
-/
namespace Sys2Proof.Machine

theorem State.setMsgs_frame (s : State) (n : Nat) (q : List Msg) :
    (s.setMsgs n q).frame = s.frame := by
  unfold State.setMsgs
  repeat' first
    | with_reducible rfl
    | simp only [↓State.setFld_frame, ↓State.wr_frame, ↓State.frame_mk, ↓State.frame_eta, ↓foldl_frame, implies_true]
    | split

theorem State.domRefresh_frame (s : State) (p : Nat) :
    (s.domRefresh p).frame = s.frame := by
  simp only [State.domRefresh, ↓State.setFld_frame, ↓State.frame_ite, ite_self]

theorem State.askWake_frame (s : State) (n : Nat) :
    (s.askWake n).frame = s.frame := by
  simp only [State.askWake, ↓State.domRefresh_frame, ↓State.sat_frame, ↓State.setFld_frame, ↓State.frame_ite,
      ite_self]

theorem State.mbxDown_frame (s : State) (p : Nat) :
    (s.mbxDown p).frame = s.frame := by
  simp only [State.mbxDown, ↓State.askWake_frame, ↓State.frame_ite, ite_self, ↓foldl_frame, implies_true]

theorem State.crossTimer_frame (s : State) (n : Nat) (pop : Bool) :
    (s.crossTimer n pop).frame = s.frame := by
  unfold State.crossTimer
  repeat' first
    | with_reducible rfl
    | simp only [↓State.frame_mk, ↓State.frame_eta]
    | split

theorem State.mbxPut_frame (s : State) (n : Nat) (src : Gid) (priv : Nat) (data : BitVec 512) :
    (s.mbxPut n src priv data).1.frame = s.frame := by
  simp only [State.mbxPut, ↓State.askWake_frame, ↓State.crossTimer_frame, ↓State.gcnt_frame, ↓State.raise_frame,
      ↓State.sat_frame, ↓State.setMsgs_frame, ↓State.wrap_frame, ↓State.frame_ite, ↓State.fst_frame_ite, ite_self]

theorem State.mbxPop_frame (s : State) (n : Nat) :
    (s.mbxPop n).frame = s.frame := by
  unfold State.mbxPop
  repeat' first
    | with_reducible rfl
    | simp only [↓State.crossTimer_frame, ↓State.gcnt_frame, ↓State.raise_frame, ↓State.setMsgs_frame,
        ↓State.frame_ite, ite_self]
    | split

theorem State.writeMbxCtl_frame (s : State) (n : Nat) (r : Req) :
    (s.writeMbxCtl n r).1.frame = s.frame := by
  simp only [State.writeMbxCtl, ↓State.mbxPop_frame, ↓State.frame_ite, ite_self]

theorem State.accUsed_frame (s : State) : (s.accUsed).frame = s.frame := by
  simp only [State.accUsed, ↓State.frame_mk, ↓State.frame_eta]

theorem State.mbxAccess_frame (s : State) (act : State → State) (hact : ∀ y0, (act y0).frame = y0.frame) :
    (s.mbxAccess act).frame = s.frame := by
  simp only [State.mbxAccess, ↓State.accUsed_frame, ↓State.frame_ite, ↓State.frame_mk, ↓State.frame_eta, hact,
      ite_self]

theorem State.popFirst_frame (s : State) (n : Nat) : (s.popFirst n).frame = s.frame := by
  unfold State.popFirst
  repeat' first
    | with_reducible rfl
    | simp only [↓State.accUsed_frame, ↓State.serve_frame, ↓State.writeMbxCtl_frame, ↓State.frame_mk,
        ↓State.frame_eta]

    | split

theorem execMailboxPop_frame (n : Fin 128) (r : Req) (s : State) :
    outFrame (execMailboxPop n r s) = some s.frame := by
  simp only [execMailboxPop, ↓State.mbxAccess_frame, ↓State.serve_frame, ↓State.writeMbxCtl_frame, ↓outFrame_next,
      implies_true]

theorem State.modPair_frame (s : State) (k : Nat) (f : PairSt → PairSt) :
    (s.modPair k f).frame = s.frame := by simp only [State.modPair, State.frame_mk, State.frame_eta]

theorem State.setAside_frame (s : State) (k n : Nat) : (s.setAside k n).frame = s.frame := by
  induction n generalizing s with
  | zero => rw [State.setAside]
  | succ n ih =>
    unfold State.setAside
    repeat' first
      | with_reducible rfl
      | simp only [ih, ↓State.modPair_frame, ↓State.mbxPop_frame]
      | split

theorem State.mbxLand_frame (s : State) (n : Nat) (src : Gid) (priv : Nat) (data : BitVec 512) :
    (s.mbxLand n src priv data).1.frame = s.frame := by
  simp only [State.mbxLand, ↓State.mbxPut_frame, ↓State.setAside_frame, ↓State.frame_ite, ite_self]

theorem execMsgReceive_frame (s : State) : outFrame (execMsgReceive s) = some s.frame := by
  unfold execMsgReceive
  repeat' first
    | with_reducible rfl
    | simp only [↓State.gcnt_frame, ↓State.glbBars_frame, ↓State.glbSend_frame, ↓State.mbxLand_frame,
        ↓State.popFirst_frame, ↓State.fst_frame_ite, ↓State.frame_mk, ↓State.frame_eta, ↓State.fst_frame_mk,
        ↓outFrame_next, ↓outFrame_ite, ite_self]
    | split

theorem execMailboxCross_frame (n : Fin 128) (s : State) :
    outFrame (execMailboxCross n s) = some s.frame := by
  unfold execMailboxCross
  repeat' first
    | with_reducible rfl
    | simp only [↓State.raise_frame, ↓State.sat_frame, ↓State.setFld_frame, ↓outFrame_next, ↓outFrame_ite,
        ↓State.frame_ite, ↓State.frame_mk, ↓State.frame_eta, ite_self]
    | split

theorem execMailboxWake_frame (n : Fin 128) (s : State) :
    outFrame (execMailboxWake n s) = some s.frame := by
  simp only [execMailboxWake, ↓State.domRefresh_frame, ↓State.raise_frame, ↓State.setFld_frame, ↓outFrame_next,
      ↓outFrame_ite, ite_self]

theorem State.mbxDiscard_frame (s : State) (n : Nat) (cross : Bool) :
    (s.mbxDiscard n cross).frame = s.frame := by
  simp only [State.mbxDiscard, ↓State.crossTimer_frame, ↓State.domRefresh_frame, ↓State.sat_frame,
      ↓State.setFld_frame, ↓State.setMsgs_frame, ↓State.frame_ite, ite_self]

theorem State.mbxLose_frame (s : State) (p : Nat) :
    (s.mbxLose p).frame = s.frame := by
  simp only [State.mbxLose, ↓State.mbxDiscard_frame, ↓State.frame_ite, ite_self, ↓foldl_frame, implies_true]

theorem State.mbxCfgSet_frame (s : State) (n : Nat) (v : Word) :
    (s.mbxCfgSet n v).frame = s.frame := by
  simp only [State.mbxCfgSet, ↓State.crossTimer_frame, ↓State.mbxDiscard_frame, ↓State.wr_frame, ↓State.frame_ite,
      ite_self]

theorem State.routeNote_frame (s : State) (i : Nat) (line : Nat) (g : Nat) :
    (s.routeNote i line g).frame = s.frame := by
  simp only [State.routeNote, ↓State.setFld_frame, ↓State.frame_ite, ite_self]

theorem State.routeBells_frame (s : State) (n : Nat) :
    (s.routeBells n).frame = s.frame := by
  simp only [State.routeBells, ↓State.routeNote_frame, ↓State.frame_ite, ite_self]

theorem State.fmpMbxCfg_frame (s : State) (n : Nat) (v : Word) :
    (s.fmpMbxCfg n v).frame = s.frame := by
  simp only [State.fmpMbxCfg, ↓State.mbxCfgSet_frame, ↓State.routeBells_frame]

theorem State.writeMbxCfg_frame (s : State) (n : Nat) (r : Req) :
    (s.writeMbxCfg n r).1.frame = s.frame := by
  simp only [State.writeMbxCfg, ↓State.mbxCfgSet_frame, ↓State.fst_frame_ite, ite_self]

theorem execMbxCfgWrite_frame (n : Fin 128) (r : Req) (s : State) :
    outFrame (execMbxCfgWrite n r s) = some s.frame := by
  simp only [execMbxCfgWrite, ↓State.mbxAccess_frame, ↓State.serve_frame, ↓State.writeMbxCfg_frame, ↓outFrame_next,
      implies_true]

end Sys2Proof.Machine
end

