-- ==== Sys2Proof/Laws/FrameIq.lean ====
section
/-!
SUPPORT. Laws/FrameIq.lean: the functions of Machine/Iq.lean leave memory, the queue and the datum alone.
-/
namespace Sys2Proof.Machine

theorem State.portErr_frame (s : State) (p : Nat) (code : Nat) (tag : Nat) :
    (s.portErr p code tag).frame = s.frame := by
  simp only [State.portErr, ↓State.niCause_frame, ↓State.sat_frame, ↓State.setFld_frame, ↓State.frame_ite, ite_self]

theorem State.writeRegion_frame (s : State) (p : Nat) (n : Nat) (a : Nat) (r : Req) :
    (s.writeRegion p n a r).1.frame = s.frame := by
  simp only [State.writeRegion, ↓State.plainWrite_frame, ↓State.fst_frame_ite, ite_self]

theorem State.writeRegionCfg_frame (s : State) (p : Nat) (n : Nat) (r : Req) :
    (s.writeRegionCfg p n r).1.frame = s.frame := by
  simp only [State.writeRegionCfg, ↓State.plainWrite_frame, ↓State.fst_frame_ite, ite_self]

theorem State.refuse_frame (s : State) (p : Nat) (op : Nat) (q : IqReq) (acc : Nat) (key : Nat) (dest : Gid) (code : BitVec 4) :
    (s.refuse p op q acc key dest code).frame = s.frame := by
  simp only [State.refuse, ↓State.accDone_frame]

theorem State.setMerge_frame (s : State) (p : Nat) (ls : List MLine) :
    (s.setMerge p ls).frame = s.frame := by
  simp only [State.setMerge, ↓State.modNi_frame, ↓State.setFld_frame]

theorem State.flush_frame (s : State) (p : Nat) (which : MLine → Bool) (ord : optParam (Option Nat) none) :
    (s.flush p which ord).frame = s.frame := by
  simp only [State.flush, ↓State.buildReqs_frame, ↓State.sat_frame, ↓State.setMerge_frame, ↓State.frame_ite, ite_self]

theorem State.flushOldest_frame (s : State) (p : Nat) : (s.flushOldest p).frame = s.frame := by
  unfold State.flushOldest
  repeat' first
    | with_reducible rfl
    | simp only [↓State.flush_frame, ↓State.sat_frame]

    | split

theorem State.mergeStore_frame (s : State) (p : Nat) (q : IqReq) (x : Xlat) (acc : Nat) :
    (s.mergeStore p q x acc).frame = s.frame := by
  unfold State.mergeStore
  repeat' first
    | with_reducible rfl
    | simp only [↓State.flush_frame, ↓State.ncnt_frame, ↓State.setMerge_frame, ↓State.frame_ite, ite_self]
    | split

theorem execMergeWindowExpire_frame (p : Fin 144) (s : State) :
    outFrame (execMergeWindowExpire p s) = some s.frame := by
  simp only [execMergeWindowExpire, ↓State.flush_frame, ↓outFrame_next]

theorem State.writeMergeCtl_frame (s : State) (p : Nat) (r : Req) : (s.writeMergeCtl p r).1.frame = s.frame := by
  simp only [State.writeMergeCtl, ↓State.flush_frame, ↓State.plainWrite_frame, ↓State.frame_ite, ↓State.fst_frame_ite,
      ↓State.fst_frame_mk, ite_self]

theorem execMergeFlush_frame (p : Fin 144) (r : Req) (s : State) :
    outFrame (execMergeFlush p r s) = some s.frame := by
  simp only [execMergeFlush, ↓State.serve_frame, ↓State.writeMergeCtl_frame, ↓outFrame_next]

theorem State.issue_frame (s : State) (p : Nat) (op : Nat) (q : IqReq) (x : Xlat) (cmd : BitVec 6) (acc : Nat) (key : Nat) (data : Bool) (ranges : List (Nat × Nat)) :
    (s.issue p op q x cmd acc key data ranges).frame = s.frame := by
  simp only [State.issue, ↓State.buildReqs_frame, ↓State.setAcc_frame]

theorem State.issuePosted_frame (s : State) (p : Nat) (op : Nat) (q : IqReq) (x : Xlat) (cmd : BitVec 6) (acc : Nat) (key : Option Nat) (ranges : List (Nat × Nat)) :
    (s.issuePosted p op q x cmd acc key ranges).frame = s.frame := by
  unfold State.issuePosted
  repeat' first
    | with_reducible rfl
    | simp only [↓State.buildReqs_frame, ↓State.setAcc_frame]
    | split

theorem State.issueCfg_frame (s : State) (p : Nat) (op : Nat) (q : IqReq) (x : Xlat) (acc : Nat) (key : Nat) :
    (s.issueCfg p op q x acc key).frame = s.frame := by
  unfold State.issueCfg
  repeat' first
    | with_reducible rfl
    | simp only [↓State.issue_frame, ↓State.refuse_frame, ↓State.frame_ite]
    | split

theorem State.issueStore_frame (s : State) (p : Nat) (op : Nat) (q : IqReq) (x : Xlat) (acc : Nat) (key : Nat) :
    (s.issueStore p op q x acc key).frame = s.frame := by
  simp only [State.issueStore, ↓State.issue_frame, ↓State.issuePosted_frame, ↓State.frame_ite, ite_self]

theorem State.issueRead_frame (s : State) (p : Nat) (op : Nat) (q : IqReq) (x : Xlat) (acc : Nat) (key : Nat) :
    (s.issueRead p op q x acc key).frame = s.frame := by
  simp only [State.issueRead, ↓State.issue_frame, ↓State.refuse_frame, ↓State.frame_ite, ite_self]

theorem State.access_frame (s : State) (p : Nat) (op : Nat) (q : IqReq) (acc : Nat) (key : Nat) :
    (s.access p op q acc key).frame = s.frame := by
  unfold State.access
  repeat' first
    | with_reducible rfl
    | simp only [↓State.flush_frame, ↓State.issueCfg_frame, ↓State.issueRead_frame, ↓State.issueStore_frame,
        ↓State.mergeStore_frame, ↓State.refuse_frame, ↓State.frame_ite, ite_self]
    | split

theorem State.message_frame (s : State) (p : Nat) (q : IqReq) (acc : Nat) (key : Nat) :
    (s.message p q acc key).frame = s.frame := by
  simp only [State.message, ↓State.issue_frame, ↓State.refuse_frame, ↓State.frame_ite, ite_self]

theorem State.chainPut_frame (s : State) (p : Nat) (q : IqReq) : (s.chainPut p q).frame = s.frame := by
  simp only [State.chainPut, ↓State.portErr_frame, ↓State.setSrcQueue_frame, ↓State.srcDrops_frame, ↓State.wrap_frame,
      ↓State.frame_ite, ite_self]

theorem State.barrier_frame (s : State) (p : Nat) (q : IqReq) (acc : Nat) (key : Nat) :
    (s.barrier p q acc key).frame = s.frame := by
  unfold State.barrier
  repeat' first
    | with_reducible rfl
    | simp only [↓State.flush_frame, ↓State.modNi_frame, ↓State.refuse_frame, ↓State.frame_ite, ite_self]
    | split

theorem State.makeRoom_frame (s : State) (p : Nat) (op : Nat) (q : IqReq) : (s.makeRoom p op q).frame = s.frame := by
  unfold State.makeRoom
  repeat' first
    | with_reducible rfl
    | simp only [↓State.flushOldest_frame, ↓State.frame_ite, ite_self]
    | split

theorem State.iqTake_frame (s : State) (p : Nat) (op : Nat) : (s.iqTake p op).2.2.frame = s.frame := by
  simp only [State.iqTake, ↓State.modNi_frame, ↓State.ncnt_frame, ↓State.nextSeq_frame]

theorem State.iqAct_frame (s : State) (p : Nat) (op : Nat) (q : IqReq) (acc : Nat) (key : Nat) :
    (s.iqAct p op q acc key).frame = s.frame := by
  simp only [State.iqAct, ↓State.access_frame, ↓State.barrier_frame, ↓State.chainPut_frame, ↓State.message_frame,
      ↓State.frame_ite, ite_self]

theorem State.iqAccept_frame (s : State) (p : Nat) (op : Nat) (q : IqReq) (bad : Bool) :
    (s.iqAccept p op q bad).frame = s.frame := by
  unfold State.iqAccept
  repeat' first
    | with_reducible rfl
    | simp only [↓State.iqAct_frame, ↓State.iqTake_frame, ↓State.portErr_frame, ↓State.refuse_frame, ↓State.frame_ite,
        ite_self]
    | split

theorem State.iqSteady_frame (s : State) (p : Nat) (op : Nat) (b : IqBeat) : (s.iqSteady p op b).frame = s.frame := by
  unfold State.iqSteady
  repeat' first
    | with_reducible rfl
    | simp only [↓State.portErr_frame, ↓State.frame_ite, ite_self]
    | split

theorem State.iqDrop_frame (s : State) (p : Nat) : (s.iqDrop p).frame = s.frame := by
  unfold State.iqDrop
  repeat' first
    | with_reducible rfl
    | simp only [↓State.modNi_frame, ↓State.portErr_frame, ↓State.frame_ite, ite_self]

    | split

theorem State.iq_frame (s : State) (p : Nat) (op : Nat) (b : IqBeat) : (s.iq p op b).frame = s.frame := by
  simp only [State.iq, ↓State.iqAccept_frame, ↓State.iqSteady_frame, ↓State.makeRoom_frame, ↓State.modNi_frame,
      ↓State.ncnt_frame, ↓State.portErr_frame, ↓State.frame_ite, ite_self]

theorem execLoad_frame (p : Fin 144) (b : IqBeat) (s : State) : outFrame (execLoad p b s) = some s.frame := by
  simp only [execLoad, ↓State.iq_frame, ↓outFrame_next]

theorem execStore_frame (p : Fin 144) (b : IqBeat) (s : State) : outFrame (execStore p b s) = some s.frame := by
  simp only [execStore, ↓State.iq_frame, ↓outFrame_next]

theorem execStoreNp_frame (p : Fin 144) (b : IqBeat) (s : State) : outFrame (execStoreNp p b s) = some s.frame := by
  simp only [execStoreNp, ↓State.iq_frame, ↓outFrame_next]

theorem execLoadRsv_frame (p : Fin 144) (b : IqBeat) (s : State) : outFrame (execLoadRsv p b s) = some s.frame := by
  simp only [execLoadRsv, ↓State.iq_frame, ↓outFrame_next]

theorem execStoreCond_frame (p : Fin 144) (b : IqBeat) (s : State) :
    outFrame (execStoreCond p b s) = some s.frame := by
  simp only [execStoreCond, ↓State.iq_frame, ↓outFrame_next]

theorem execBarrier_frame (p : Fin 144) (b : IqBeat) (s : State) : outFrame (execBarrier p b s) = some s.frame := by
  simp only [execBarrier, ↓State.iq_frame, ↓outFrame_next]

theorem execChainPut_frame (p : Fin 144) (b : IqBeat) (s : State) : outFrame (execChainPut p b s) = some s.frame := by
  simp only [execChainPut, ↓State.iq_frame, ↓outFrame_next]

theorem execMessage_frame (p : Fin 144) (b : IqBeat) (s : State) : outFrame (execMessage p b s) = some s.frame := by
  simp only [execMessage, ↓State.iq_frame, ↓outFrame_next]

theorem State.setBarr_frame (s : State) (p : Nat) (b : Bar) :
    (s.setBarr p b).frame = s.frame := by
  simp only [State.setBarr, ↓State.modNi_frame]

theorem State.barDone_frame (s : State) (p : Nat) (b : Bar) :
    (s.barDone p b).frame = s.frame := by
  unfold State.barDone
  repeat' first
    | with_reducible rfl
    | simp only [↓State.icap_frame, ↓State.modNi_frame, ↓State.ncnt_frame, ↓State.present_frame, ↓State.sat_frame,
        ↓State.setAcc_frame, ↓State.setFld_frame, ↓State.trouble_frame]
    | split

theorem State.buildPortBar_frame (s : State) (p : Nat) (b : Bar) (d : Nat) (rest : List Nat) :
    (s.buildPortBar p b d rest).frame = s.frame := by
  simp only [State.buildPortBar, ↓State.modNi_frame, ↓State.pump_frame, ↓State.setBar_frame, ↓State.setBarr_frame,
      ↓State.setFence_frame]

theorem execBarrierAdvance_frame (p : Fin 144) (s : State) : outFrame (execBarrierAdvance p s) = some s.frame := by
  unfold execBarrierAdvance
  repeat' first
    | with_reducible rfl
    | simp only [↓State.barDone_frame, ↓State.buildPortBar_frame, ↓State.flush_frame, ↓State.setBarr_frame,
        ↓outFrame_next, ↓outFrame_ite, ite_self]
    | split

theorem execIsPresent_frame (p : Fin 144) (ready : Bool) (s : State) :
    outFrame (execIsPresent p ready s) = some s.frame := by
  unfold execIsPresent
  repeat' first
    | with_reducible rfl
    | simp only [↓State.modNi_frame, ↓State.ncnt_frame, ↓State.setAcc_frame, ↓outFrame_next, ↓outFrame_ite, ite_self]
    | split

end Sys2Proof.Machine
end

