-- ==== Sys2Proof/Laws/FrameTarget.lean ====
section
/-!
SUPPORT. Laws/FrameTarget.lean: the functions of Machine/Target.lean leave memory, the queue and the datum alone.
-/
namespace Sys2Proof.Machine

theorem State.answerReq_frame (s : State) (p : Nat) (q : Pkt) (code : BitVec 4) :
    (s.answerReq p q code).frame = s.frame := by
  unfold State.answerReq
  repeat' first
    | with_reducible rfl
    | simp only [↓State.respond_frame]
    | split

theorem State.turnAway_frame (s : State) (p : Nat) (code : BitVec 4) (q : Pkt) :
    (s.turnAway p code q).frame = s.frame := by
  simp only [State.turnAway, ↓State.answerReq_frame, ↓State.sat_frame, ↓State.tcapPkt_frame, ↓State.frame_ite,
      ite_self]

theorem State.enter_frame (s : State) (p : Nat) (kind : Nat) (q : Pkt) :
    (s.enter p kind q).frame = s.frame := by
  simp only [State.enter, ↓State.modNi_frame]

theorem State.order_frame (s : State) (p : Nat) (q : Pkt) :
    (s.order p q).frame = s.frame := by
  unfold State.order
  repeat' first
    | with_reducible rfl
    | exact Eq.symm (by assumption)
    | simp only [↓State.answerReq_frame, ↓State.enter_frame, ↓State.freeMon_frame, ↓State.respond_frame,
        ↓State.sat_frame, ↓State.tcapPkt_frame, ↓State.writeMons_frame, ↓State.frame_ite, ite_self]
    | (split <;> (try (rename_i heq; replace heq := congrArg (fun p => p.1.frame) heq; simp only [↓State.rdxJudge_frame] at heq)))

theorem State.takeReq_frame (s : State) (p : Nat) (q : Pkt) :
    (s.takeReq p q).frame = s.frame := by
  simp only [State.takeReq, ↓State.order_frame, ↓State.turnAway_frame, ↓State.frame_ite, ite_self]

theorem execTargetRequestEntry_frame (p : Fin 144) (s : State) :
    outFrame (execTargetRequestEntry p s) = some s.frame := by
  unfold execTargetRequestEntry
  repeat' first
    | with_reducible rfl
    | simp only [↓State.modNi_frame, ↓State.takeReq_frame, ↓outFrame_next, ↓outFrame_ite, ite_self]
    | split

theorem State.choose_frame (s : State) (p : Nat) :
    (s.choose p).1.frame = s.frame := by
  unfold State.choose
  repeat' first
    | with_reducible rfl
    | simp only [↓State.staleDiscard_frame, ↓State.fst_frame_ite, ite_self]
    | split

theorem State.addOut_frame (s : State) (p : Nat) (tag : Nat) (i : TItem) :
    (s.addOut p tag i).frame = s.frame := by
  simp only [State.addOut, ↓State.modNi_frame]

theorem State.showEntry_frame (s : State) (p : Nat) (e : StkEntry) :
    (s.showEntry p e).frame = s.frame := by
  simp only [State.showEntry, ↓State.modBlk_frame, ↓State.frame_mk, ↓State.frame_eta]

theorem State.transfer_frame (s : State) (p : Nat) (o : Offer) :
    (s.transfer p o).frame = s.frame := by
  unfold State.transfer
  repeat' first
    | with_reducible rfl
    | simp only [↓State.addOut_frame, ↓State.modBlk_frame, ↓State.modNi_frame, ↓State.setDstQueue_frame,
        ↓State.setEnts_frame, ↓State.showEntry_frame, ↓State.slotLeaves_frame, ↓State.staleDiscard_frame,
        ↓State.wrap_frame, ↓State.writeMons_frame, ↓State.frame_ite, ↓State.frame_mk, ↓State.frame_eta, ite_self]
    | split

theorem execTqOffer_frame (p : Fin 144) (ready : Bool) (s : State) :
    outFrame (execTqOffer p ready s) = some s.frame := by
  unfold execTqOffer
  repeat' first
    | with_reducible rfl
    | exact Eq.symm (by assumption)
    | exact congrArg some (Eq.symm (by assumption))
    | simp only [↓State.modNi_frame, ↓State.ncnt_frame, ↓State.transfer_frame, ↓outFrame_next, ↓outFrame_ite,
        ↓State.frame_ite, ite_self]
    | (split <;> (try (rename_i heq; replace heq := congrArg (fun p => p.1.frame) heq; simp only [↓State.choose_frame, ↓State.modNi_frame] at heq)))

theorem State.stagedEnd_frame (s : State) (p : Nat) (n : Nat) (code : BitVec 4) :
    (s.stagedEnd p n code).frame = s.frame := by
  simp only [State.stagedEnd, ↓State.blkFault_frame, ↓State.enterIdle_frame, ↓State.modBlk_frame, ↓State.frame_ite,
      ↓State.frame_mk, ↓State.frame_eta, ite_self]

theorem State.preloadEnd_frame (s : State) (p : Nat) (i : TItem) (code : BitVec 4) :
    (s.preloadEnd p i code).frame = s.frame := by
  simp only [State.preloadEnd, ↓State.blkFault_frame, ↓State.refresh_frame, ↓State.setEnts_frame, ↓State.wrap_frame,
      ↓State.frame_ite, ite_self]

theorem State.endItem_frame (s : State) (p : Nat) (tag : Nat) (i : TItem) (code : BitVec 4) (lines : Nat) :
    (s.endItem p tag i code lines).frame = s.frame := by
  simp only [State.endItem, ↓State.modNi_frame, ↓State.preloadEnd_frame, ↓State.respond_frame, ↓State.stagedEnd_frame,
      ↓State.frame_ite, ite_self]

theorem State.cutAnswer_frame (s : State) (p : Nat) (tag : Nat) (x : TOut) (more : Bool) :
    (s.cutAnswer p tag x more).frame = s.frame := by
  simp only [State.cutAnswer, ↓State.endItem_frame, ↓State.modNi_frame, ↓State.portErr_frame, ↓State.frame_ite,
      ite_self]

theorem State.tsBeat_frame (s : State) (p : Nat) (x : TOut) (b : TsBeat) :
    (s.tsBeat p x b).frame = s.frame := by
  simp only [State.tsBeat, ↓State.cutAnswer_frame, ↓State.endItem_frame, ↓State.modNi_frame, ↓State.portErr_frame,
      ↓State.frame_ite, ite_self]

theorem State.interrupt_frame (s : State) (p : Nat) (tag : Nat) :
    (s.interrupt p tag).frame = s.frame := by
  unfold State.interrupt
  repeat' first
    | with_reducible rfl
    | simp only [↓State.cutAnswer_frame, ↓State.frame_ite]
    | split

theorem execTsAnswer_frame (p : Fin 144) (b : TsBeat) (s : State) :
    outFrame (execTsAnswer p b s) = some s.frame := by
  unfold execTsAnswer
  repeat' first
    | with_reducible rfl
    | simp only [↓State.interrupt_frame, ↓State.modNi_frame, ↓State.ncnt_frame, ↓State.portErr_frame,
        ↓State.tsBeat_frame, ↓outFrame_next, ↓outFrame_ite, ↓State.frame_ite, ite_self]
    | split

theorem State.exnack_frame (s : State) (p : Nat) (r : NiReq) (k : Nat) (src : Gid) :
    (s.exnack p r k src).frame = s.frame := by
  simp only [State.exnack, ↓State.accEnd_frame, ↓State.ncnt_frame, ↓State.outDone_frame, ↓State.sat_frame,
      ↓State.setReq_frame, ↓State.frame_ite, ite_self]

theorem State.endByResponse_frame (s : State) (p : Nat) (r : NiReq) (k : Nat) (q : Pkt) :
    (s.endByResponse p r k q).frame = s.frame := by
  unfold State.endByResponse
  repeat' first
    | with_reducible rfl
    | simp only [↓State.accEnd_frame, ↓State.exnack_frame, ↓State.outDone_frame, ↓State.setReq_frame,
        ↓State.frame_ite, ite_self]
    | split

theorem State.brr_frame (s : State) (p : Nat) (q : Pkt) :
    (s.brr p q).frame = s.frame := by
  unfold State.brr
  repeat' first
    | with_reducible rfl
    | simp only [↓State.drainBarEnd_frame, ↓State.outDone_frame, ↓State.portBarEnd_frame, ↓State.sat_frame,
        ↓State.frame_ite]
    | split

theorem State.takeRsp_frame (s : State) (p : Nat) (q : Pkt) :
    (s.takeRsp p q).frame = s.frame := by
  unfold State.takeRsp
  repeat' first
    | with_reducible rfl
    | simp only [↓State.brr_frame, ↓State.endByResponse_frame, ↓State.sat_frame, ↓State.turnAway_frame,
        ↓State.frame_ite]
    | split

theorem execResponseReceive_frame (p : Fin 144) (s : State) :
    outFrame (execResponseReceive p s) = some s.frame := by
  unfold execResponseReceive
  repeat' first
    | with_reducible rfl
    | simp only [↓State.modNi_frame, ↓State.pump_frame, ↓State.takeRsp_frame, ↓outFrame_next]
    | split

theorem execRdxRetry_frame (p : Fin 144) (t : BitVec 12) (s : State) :
    outFrame (execRdxRetry p t s) = some s.frame := by
  unfold execRdxRetry
  repeat' first
    | with_reducible rfl
    | simp only [↓State.buildReqs_frame, ↓State.setReq_frame, ↓outFrame_next, ↓outFrame_ite, ite_self]
    | split

theorem State.quarantine_frame (s : State) (p : Nat) (key : Nat) :
    (s.quarantine p key).frame = s.frame := by
  simp only [State.quarantine, ↓State.modNi_frame]

theorem execRequestTimeout_frame (p : Fin 144) (t : Fin 8192) (s : State) :
    outFrame (execRequestTimeout p t s) = some s.frame := by
  unfold execRequestTimeout
  repeat' first
    | with_reducible rfl
    | simp only [↓State.pump_frame, ↓State.quarantine_frame, ↓State.reqFail_frame, ↓outFrame_next, ↓outFrame_ite,
        ite_self]
    | split

theorem execTagQuarantineEnd_frame (p : Fin 144) (t : Fin 8192) (s : State) :
    outFrame (execTagQuarantineEnd p t s) = some s.frame := by
  unfold execTagQuarantineEnd
  repeat' first
    | with_reducible rfl
    | simp only [↓State.modNi_frame, ↓State.pump_frame, ↓outFrame_next, ↓outFrame_ite, ite_self]
    | split

end Sys2Proof.Machine
end

