-- ==== Sys2Proof/Laws/FramePorts.lean ====
section
/-!
SUPPORT. Laws/FramePorts.lean: the functions of Machine/Ports.lean leave memory, the queue and the datum alone.
-/
namespace Sys2Proof.Machine

theorem State.toPort_frame (s : State) (p : Nat) (v : Nat) :
    (s.toPort p v).frame = s.frame := by
  simp only [State.toPort, ↓State.domRefresh_frame, ↓State.setFld_frame]

theorem State.endByNi_frame (s : State) (p : Nat) (i : TItem) (code : BitVec 4) :
    (s.endByNi p i code).frame = s.frame := by
  simp only [State.endByNi, ↓State.turnAway_frame, ↓State.frame_ite, ite_self]

theorem State.endQueue_frame (s : State) (p : Nat) (code : BitVec 4) :
    (s.endQueue p code).frame = s.frame := by
  simp only [State.endQueue, ↓State.endByNi_frame, ↓State.modNi_frame, ↓foldl_frame, implies_true]

theorem State.endOut_frame (s : State) (p : Nat) (code : BitVec 4) :
    (s.endOut p code).frame = s.frame := by
  simp only [State.endOut, ↓State.endByNi_frame, ↓State.modNi_frame, ↓foldl_frame, implies_true]

theorem State.portLeaves_frame (s : State) (p : Nat) :
    (s.portLeaves p).frame = s.frame := by
  simp only [State.portLeaves, ↓State.clearMons_frame, ↓State.dropAllDst_frame, ↓State.emptySlots_frame,
      ↓State.portDownStakes_frame]

theorem State.powerOff_frame (s : State) (p : Nat) :
    (s.powerOff p).frame = s.frame := by
  simp only [State.powerOff, ↓State.modNi_frame, ↓State.setFld_frame]

theorem State.goingDown_frame (s : State) (p : Nat) (st : Nat) :
    (s.goingDown p st).frame = s.frame := by
  simp only [State.goingDown, ↓State.endQueue_frame, ↓State.flush_frame, ↓State.mbxDown_frame, ↓State.modNi_frame,
      ↓State.portLeaves_frame, ↓State.setFld_frame, ↓State.toPort_frame, ↓State.frame_ite, ite_self]

theorem State.disabled_frame (s : State) (p : Nat) :
    (s.disabled p).frame = s.frame := by
  simp only [State.disabled, ↓State.breakLocks_frame, ↓State.mbxLose_frame, ↓State.niCause_frame, ↓State.setFld_frame,
      ↓State.toPort_frame]

theorem State.downOk_frame (s : State) (p : Nat) :
    (s.downOk p).frame = s.frame := by
  simp only [State.downOk, ↓State.domRefresh_frame, ↓State.niCause_frame, ↓State.setFld_frame]

theorem State.discardOut_frame (s : State) (p : Nat) (o : OutPkt) (built : Bool) :
    (s.discardOut p o built).frame = s.frame := by
  unfold State.discardOut
  repeat' first
    | with_reducible rfl
    | simp only [↓State.modNi_frame, ↓State.outDone_frame, ↓State.setAcc_frame, ↓State.setReq_frame, ↓State.frame_ite,
        ite_self]
    | split

theorem State.discardUnit_frame (s : State) (p : Nat) : (s.discardUnit p).frame = s.frame := by
  simp only [State.discardUnit, ↓State.discardOut_frame, ↓State.leavePath_frame, ↓State.modNi_frame,
      ↓State.setAcc_frame, ↓foldl_frame, implies_true]

theorem State.isolate_frame (s : State) (p : Nat) (cause : Nat) :
    (s.isolate p cause).frame = s.frame := by
  simp only [State.isolate, ↓State.breakLocks_frame, ↓State.discardUnit_frame, ↓State.downOk_frame,
      ↓State.dropAllSrc_frame, ↓State.endOut_frame, ↓State.endQueue_frame, ↓State.gcnt_frame, ↓State.mbxLose_frame,
      ↓State.niCause_frame, ↓State.note_frame, ↓State.portLeaves_frame, ↓State.powerOff_frame, ↓State.pump_frame,
      ↓State.raise_frame, ↓State.setFld_frame, ↓State.setMerge_frame, ↓State.toPort_frame, ↓State.frame_ite, ite_self]

theorem State.portCmd_frame (s : State) (p : Nat) (cmd : Nat) :
    (s.portCmd p cmd).1.frame = s.frame := by
  simp only [State.portCmd, ↓State.disabled_frame, ↓State.domRefresh_frame, ↓State.goingDown_frame,
      ↓State.isolate_frame, ↓State.setFld_frame, ↓State.toPort_frame, ↓State.fst_frame_ite, ite_self]

theorem State.writeNiCtl_frame (s : State) (p : Nat) (r : Req) :
    (s.writeNiCtl p r).1.frame = s.frame := by
  simp only [State.writeNiCtl, ↓State.portCmd_frame, ↓State.setFld_frame, ↓State.fst_frame_ite, ite_self]

theorem execNiEnable_frame (p : Fin 144) (r : Req) (s : State) :
    outFrame (execNiEnable p r s) = some s.frame := by
  simp only [execNiEnable, ↓State.serve_frame, ↓State.writeNiCtl_frame, ↓outFrame_next]

theorem execNiDisable_frame (p : Fin 144) (r : Req) (s : State) :
    outFrame (execNiDisable p r s) = some s.frame := by
  simp only [execNiDisable, ↓State.serve_frame, ↓State.writeNiCtl_frame, ↓outFrame_next]

theorem execNiQuiesce_frame (p : Fin 144) (r : Req) (s : State) :
    outFrame (execNiQuiesce p r s) = some s.frame := by
  simp only [execNiQuiesce, ↓State.serve_frame, ↓State.writeNiCtl_frame, ↓outFrame_next]

theorem execNiResume_frame (p : Fin 144) (r : Req) (s : State) :
    outFrame (execNiResume p r s) = some s.frame := by
  simp only [execNiResume, ↓State.serve_frame, ↓State.writeNiCtl_frame, ↓outFrame_next]

theorem execNiIsolate_frame (p : Fin 144) (r : Req) (s : State) :
    outFrame (execNiIsolate p r s) = some s.frame := by
  simp only [execNiIsolate, ↓State.serve_frame, ↓State.writeNiCtl_frame, ↓outFrame_next]

theorem execIsolateNoRoute_frame (p : Fin 144) (s : State) :
    outFrame (execIsolateNoRoute p s) = some s.frame := by
  simp only [execIsolateNoRoute, ↓State.isolate_frame, ↓outFrame_next, ↓outFrame_ite, ite_self]

theorem execPwrUpRaise_frame (p : Fin 144) (s : State) :
    outFrame (execPwrUpRaise p s) = some s.frame := by
  simp only [execPwrUpRaise, ↓State.modNi_frame, ↓State.setFld_frame, ↓outFrame_next, ↓outFrame_ite, ite_self]

theorem State.qackTake_frame (s : State) (p : Nat) : (s.qackTake p).frame = s.frame := by
  simp only [State.qackTake, ↓State.modNi_frame, ↓State.frame_ite, ite_self]

theorem execPwrQack_frame (x : QackSample) (s : State) :
    outFrame (execPwrQack x s) = some s.frame := by
  simp only [execPwrQack, ↓State.portErr_frame, ↓State.qackTake_frame, ↓State.setFld_frame, ↓State.frame_ite,
      ↓outFrame_next, ↓outFrame_ite, ite_self]

theorem execPortDown_frame (p : Fin 144) (s : State) :
    outFrame (execPortDown p s) = some s.frame := by
  simp only [execPortDown, ↓State.disabled_frame, ↓State.downOk_frame, ↓State.powerOff_frame, ↓outFrame_next,
      ↓outFrame_ite, ↓State.frame_ite, ite_self]

theorem State.proceedLate_frame (s : State) (p : Nat) :
    (s.proceedLate p).frame = s.frame := by
  simp only [State.proceedLate, ↓State.endOut_frame, ↓State.modNi_frame]

theorem execQackLate_frame (p : Fin 144) (s : State) :
    outFrame (execQackLate p s) = some s.frame := by
  unfold execQackLate
  repeat' first
    | with_reducible rfl
    | simp only [↓State.niCause_frame, ↓State.portErr_frame, ↓State.proceedLate_frame, ↓outFrame_next, ↓outFrame_ite,
        ite_self]
    | split

theorem execUnitHang_frame (p : Fin 144) (t : BitVec 8) (s : State) :
    outFrame (execUnitHang p t s) = some s.frame := by
  unfold execUnitHang
  repeat' first
    | with_reducible rfl
    | simp only [↓State.endByNi_frame, ↓State.endItem_frame, ↓State.isolate_frame, ↓State.modNi_frame,
        ↓State.niCause_frame, ↓State.portErr_frame, ↓outFrame_next, ↓outFrame_ite, ite_self]
    | split

theorem execDomainReturn_frame (p : Fin 144) (s : State) :
    outFrame (execDomainReturn p s) = some s.frame := by
  simp only [execDomainReturn, ↓State.setFld_frame, ↓State.toPort_frame, ↓outFrame_next, ↓outFrame_ite, ite_self]

theorem execPdAckRise_frame (p : Fin 144) (s : State) :
    outFrame (execPdAckRise p s) = some s.frame := by
  simp only [execPdAckRise, ↓State.setFld_frame, ↓outFrame_next]

theorem execPdAckFall_frame (p : Fin 144) (s : State) :
    outFrame (execPdAckFall p s) = some s.frame := by
  simp only [execPdAckFall, ↓State.isolate_frame, ↓State.niCause_frame, ↓State.proceedLate_frame, ↓State.sat_frame,
      ↓State.setFld_frame, ↓outFrame_next, ↓outFrame_ite, ite_self]

theorem State.writePortCtl_frame (s : State) (p : Nat) (r : Req) :
    (s.writePortCtl p r).1.frame = s.frame := by
  simp only [State.writePortCtl, ↓State.modNi_frame, ↓State.plainWrite_frame, ↓State.setFld_frame,
      ↓State.fst_frame_ite, ite_self]

theorem execDescGo_frame (p : Fin 144) (r : Req) (s : State) :
    outFrame (execDescGo p r s) = some s.frame := by
  simp only [execDescGo, ↓State.serve_frame, ↓State.writePortCtl_frame, ↓outFrame_next]

theorem State.descEnd_frame (s : State) (p : Nat) (fail : Nat) :
    (s.descEnd p fail).frame = s.frame := by
  simp only [State.descEnd, ↓State.modNi_frame, ↓State.niCause_frame, ↓State.setFld_frame]

theorem execDescBeat_frame (p : Fin 144) (d : BitVec 512) (ts : Bool) (s : State) :
    outFrame (execDescBeat p d ts s) = some s.frame := by
  unfold execDescBeat
  repeat' first
    | with_reducible rfl
    | simp only [↓State.descEnd_frame, ↓State.modNi_frame, ↓State.portErr_frame, ↓State.wr_frame, ↓outFrame_next,
        ↓outFrame_ite, ↓State.frame_ite, ite_self, ↓foldl_frame, implies_true]
    | split

theorem execDescTimeout_frame (p : Fin 144) (s : State) :
    outFrame (execDescTimeout p s) = some s.frame := by
  unfold execDescTimeout
  repeat' first
    | with_reducible rfl
    | simp only [↓State.descEnd_frame, ↓outFrame_next, ↓outFrame_ite, ite_self]
    | split

theorem execEvtRaiseChange_frame (p : Fin 144) (v : BitVec 4) (s : State) :
    outFrame (execEvtRaiseChange p v s) = some s.frame := by
  simp only [execEvtRaiseChange, ↓State.modNi_frame, ↓State.raise_frame, ↓outFrame_next, ↓outFrame_ite,
      ↓State.frame_ite, ite_self, ↓foldl_frame, implies_true]

theorem execEvmBuild_frame (s : State) :
    outFrame (execEvmBuild s) = some s.frame := by
  unfold execEvmBuild
  repeat' first
    | with_reducible rfl
    | simp only [↓State.gcnt_frame, ↓State.glbSend_frame, ↓State.setFld_frame, ↓State.setPend_frame,
        ↓State.wrap_frame, ↓outFrame_next, ↓outFrame_ite, ↓State.frame_ite, ↓State.frame_mk, ↓State.frame_eta,
        ite_self]
    | split

end Sys2Proof.Machine
end

