-- ==== Sys2Proof/Laws/FrameFmp.lean ====
section
/-!
SUPPORT. Laws/FrameFmp.lean: the functions of Machine/Fmp.lean leave memory, the queue and the datum alone.
-/
namespace Sys2Proof.Machine

theorem State.setTickets_frame (s : State) (q : List Tkt) :
    (s.setTickets q).frame = s.frame := by
  simp only [State.setTickets, ↓State.setFld_frame, ↓State.frame_mk, ↓State.frame_eta]

theorem State.freeDone_frame (s : State) (k : Nat) (m : BitVec 512) :
    (s.freeDone k m).frame = s.frame := by
  simp only [State.freeDone, ↓State.setTickets_frame, ↓State.frame_ite, ite_self]

theorem State.offerMsg_frame (s : State) (k : Nat) (m : BitVec 512) : (s.offerMsg k m).1.frame = s.frame := by
  simp only [State.offerMsg, ↓State.freeDone_frame, ↓State.mbxPut_frame, ↓State.frame_ite, ↓State.fst_frame_ite,
      ↓State.fst_frame_mk, ite_self]

theorem State.placeMsg_frame (s : State) (k : Nat) (m : BitVec 512) : (s.placeMsg k m).frame = s.frame := by
  unfold State.placeMsg
  have h := State.offerMsg_frame s k m
  split
  · rw [State.modPair_frame]
  · split <;> rename_i heq <;> rw [heq] at h
    · rw [State.setAside_frame, State.modPair_frame]; exact h
    · exact h

theorem State.offerHeld_frame (s : State) (k : Nat) (l : List (BitVec 512)) : (s.offerHeld k l).frame = s.frame := by
  induction l generalizing s with
  | nil => simp only [State.offerHeld, ↓State.modPair_frame]
  | cons m l ih =>
    have hm := State.offerMsg_frame s k m
    unfold State.offerHeld
    split <;> rename_i heq <;> rw [heq] at hm
    · rw [State.modPair_frame]; exact hm
    · rw [ih]; exact hm

theorem State.answerSpill_frame (s : State) (k : Nat) :
    (s.answerSpill k).frame = s.frame := by
  simp only [State.answerSpill, ↓State.modPair_frame, ↓State.placeMsg_frame, ↓foldl_frame, implies_true]

theorem execReplyRetry_frame (k : Fin 8) (s : State) :
    outFrame (execReplyRetry k s) = some s.frame := by
  simp only [execReplyRetry, ↓State.answerSpill_frame, ↓State.offerHeld_frame, ↓outFrame_next, ↓outFrame_ite,
      ↓State.frame_ite, ite_self]

theorem State.ticketRoom_frame (s : State) (k : Nat) (u : State) (h : s.ticketRoom k = some u) :
    u.frame = s.frame := by
  have hm (t v : State) (l : List Tkt) (o : Option Tkt) (hv : o.map (fun x => t.setTickets (l.erase x)) = some v) :
      v.frame = t.frame := by
    cases o with
    | none => cases hv
    | some x => cases hv; simp only [↓State.setTickets_frame]
  have h1 (c : Prop) [Decidable c] (t v : State) (l : List Tkt) (o : Option Tkt)
      (hv : (if c then some t else o.map (fun x => t.setTickets (l.erase x))) = some v) : v.frame = t.frame := by
    split at hv
    · cases hv; rfl
    · exact hm _ _ _ _ hv
  unfold State.ticketRoom at h
  dsimp only at h
  split at h
  · cases h
  · rename_i heq
    exact (h1 _ _ _ _ _ h).trans (h1 _ _ _ _ _ heq)

theorem State.putTkt_frame (s : State) (t : Tkt) :
    (s.putTkt t).frame = s.frame := by
  simp only [State.putTkt, ↓State.setTickets_frame]

theorem State.endTkt_frame (s : State) (t : Tkt) (a : Ans) :
    (s.endTkt t a).frame = s.frame := by
  simp only [State.endTkt, ↓State.modPair_frame, ↓State.placeMsg_frame, ↓State.putTkt_frame, ↓State.frame_ite,
      ite_self]

theorem State.beat_frame (s : State) :
    (s.beat).frame = s.frame := by
  simp only [State.beat, ↓State.wrap_frame, ↓State.frame_mk, ↓State.frame_eta]

theorem State.fmpPop_frame (s : State) (k : Nat) : (s.fmpPop k).frame = s.frame := by
  unfold State.fmpPop
  repeat' first
    | with_reducible rfl
    | simp only [↓State.beat_frame, ↓State.gcnt_frame, ↓State.mbxPop_frame, ↓State.modPair_frame, ↓State.frame_mk,
        ↓State.frame_eta]

    | split

theorem State.keep_frame (s : State) (k : Nat) (m : BitVec 512) (reply : BitVec 512) (ticket : Nat) :
    (s.keep k m reply ticket).frame = s.frame := by
  simp only [State.keep, ↓State.modPair_frame]

theorem State.reply_frame (s : State) (k : Nat) (m : BitVec 512) (ticket : Nat) (a : Ans) :
    (s.reply k m ticket a).frame = s.frame := by
  simp only [State.reply, ↓State.keep_frame, ↓State.placeMsg_frame]

theorem State.resend_frame (s : State) (k : Nat) (m : BitVec 512) (u : State) (h : s.resend k m = some u) :
    u.frame = s.frame := by
  unfold State.resend at h
  dsimp only at h
  split at h
  · cases h
  · split at h
    · cases h
    · split at h
      · cases h; simp only [↓State.placeMsg_frame]
      · cases h
        repeat' first
          | with_reducible rfl
          | simp only [↓State.placeMsg_frame]
          | split

theorem State.fmpTake_frame (s : State) (k op : Nat) (body : OpInfo → Msg → State → State)
    (h : ∀ i m t, (body i m t).frame = t.frame) : (s.fmpTake k op body).frame = s.frame := by
  have hr (t u : State) (m) (hu : u.frame = t.frame) : ((t.resend k m).getD u).frame = t.frame := by
    cases he : t.resend k m with
    | none => exact hu
    | some v => exact State.resend_frame _ _ _ _ he
  unfold State.fmpTake
  repeat' first
    | with_reducible rfl
    | (rw [hr _ _ _ (by simp only [h, ↓State.reply_frame])]; simp only [↓State.fmpPop_frame])
    | split

theorem State.fmpFast_frame (s : State) (k op : Nat) (f : Msg → State → State × Ans)
    (h : ∀ m t, (f m t).1.frame = t.frame) : (s.fmpFast k op f).frame = s.frame := by
  refine State.fmpTake_frame _ _ _ _ (fun i m t => ?_)
  split
  · simp only [↓State.reply_frame]
  · have hm := h m t
    split
    rename_i heq
    rw [heq] at hm
    rw [State.reply_frame]; exact hm

theorem State.fmpSlow_frame (s : State) (k op : Nat) (chk test : Msg → State → Option Ans) :
    (s.fmpSlow k op chk test).frame = s.frame := by
  refine State.fmpTake_frame _ _ _ _ (fun i m t => ?_)
  repeat' first
    | with_reducible rfl
    | simp only [↓State.reply_frame, ↓State.setTickets_frame, ↓State.frame_mk, ↓State.frame_eta]
    | exact State.ticketRoom_frame _ _ _ (by assumption)
    | split

theorem State.dropOwn_frame (s : State) (o : OwnReq) : (s.dropOwn o).frame = s.frame := by
  simp only [State.dropOwn, ↓State.frame_mk, ↓State.frame_eta]

theorem State.bufAccess_frame (s : State) (t : Tkt) (off n : Nat) (bs : Option (List Byte)) (u : State)
    (h : s.bufAccess t off n bs = some u) : u.frame = s.frame := by
  unfold State.bufAccess at h
  extract_lets at h
  split at h
  · nomatch h
  · split at h
    · nomatch h
    · rw [← Option.some.inj h, State.glbSend_frame, State.outAdd_frame]
      rfl

theorem State.readBuf_frame (s : State) (t : Tkt) : (s.readBuf t).1.frame = s.frame := by
  unfold State.readBuf
  extract_lets len issue
  have hi (s : State) (t : Tkt) : (issue s t).1.frame = s.frame := by
    unfold issue
    extract_lets
    split
    · rfl
    · split
      · exact State.bufAccess_frame _ _ _ _ _ _ (by assumption)
      · rfl
  clear_value issue
  split
  · exact hi s t
  · split
    · rfl
    · simp only [↓State.dropOwn_frame]
    · simp only [hi, ↓State.putTkt_frame, ↓State.dropOwn_frame]

theorem State.withBuf_frame (s : State) (t : Tkt) (body : State → Tkt → List Byte → State)
    (hbody : ∀ s t bs, (body s t bs).frame = s.frame) : (s.withBuf t body).frame = s.frame := by
  have h := State.readBuf_frame s t
  unfold State.withBuf
  split <;> rename_i heq <;> rw [heq] at h
  · exact h
  · rw [State.endTkt_frame]; exact h
  · rw [hbody]; exact h

theorem State.writeOn_frame (s : State) (t : Tkt) : (s.writeOn t).frame = s.frame := by
  unfold State.writeOn
  extract_lets issue
  have hi (s : State) (t : Tkt) : (issue s t).frame = s.frame := by
    unfold issue
    extract_lets
    split
    · rw [State.endTkt_frame]
    · split
      · exact State.bufAccess_frame _ _ _ _ _ _ (by assumption)
      · rw [State.endTkt_frame]
  clear_value issue
  split
  · exact hi s t
  · split
    · rfl
    · simp only [↓State.endTkt_frame, ↓State.dropOwn_frame]
    · simp only [hi, ↓State.putTkt_frame, ↓State.dropOwn_frame]

theorem State.endBuf_frame (s : State) (t : Tkt) (bs : List Byte) (ws : List Nat) :
    (s.endBuf t bs ws).frame = s.frame := by
  simp only [State.endBuf, ↓State.endTkt_frame, ↓State.putTkt_frame, ↓State.writeOn_frame, ↓State.frame_ite, ite_self]

theorem State.ownExpire_frame (s : State) : (s.ownExpire).frame = s.frame := by
  simp only [State.ownExpire, ↓State.outDone_frame, ↓State.frame_mk, ↓State.frame_eta, ↓foldl_frame, implies_true]

theorem State.orphan_frame (s : State) (t : Tkt) : (s.orphan t).frame = s.frame := by
  simp only [State.orphan, ↓State.frame_mk, ↓State.frame_eta]

theorem State.noticeAll_frame (s : State) :
    (s.noticeAll).frame = s.frame := by
  simp only [State.noticeAll, ↓State.placeMsg_frame, ↓State.frame_ite, ite_self, ↓foldl_frame, implies_true]

theorem execFmpHang_frame (s : State) :
    outFrame (execFmpHang s) = some s.frame := by
  simp only [execFmpHang, ↓State.note_frame, ↓State.raise_frame, ↓State.setFld_frame, ↓outFrame_next, ↓outFrame_ite,
      ite_self]

theorem State.serveImage_frame (s : State) (slot : Nat) :
    (s.serveImage slot).frame = s.frame := by
  simp only [State.serveImage, ↓State.beat_frame, ↓State.setFld_frame, ↓State.frame_mk, ↓State.frame_eta]

theorem execHandoverServing_frame (s : State) :
    outFrame (execHandoverServing s) = some s.frame := by
  unfold execHandoverServing
  repeat' first
    | with_reducible rfl
    | simp only [↓State.endTkt_frame, ↓State.note_frame, ↓State.noticeAll_frame, ↓State.serveImage_frame,
        ↓outFrame_next, ↓outFrame_ite]
    | split

theorem execHandoverRevert_frame (s : State) :
    outFrame (execHandoverRevert s) = some s.frame := by
  unfold execHandoverRevert
  repeat' first
    | with_reducible rfl
    | simp only [↓State.endTkt_frame, ↓State.note_frame, ↓State.noticeAll_frame, ↓State.serveImage_frame,
        ↓State.setFld_frame, ↓outFrame_next, ↓outFrame_ite, ↓State.frame_mk, ↓State.frame_eta]
    | split

end Sys2Proof.Machine
end

