-- ==== Sys2Proof/Laws/FrameRouteFind.lean ====
section
/-!
SUPPORT. Laws/FrameRouteFind.lean: the functions of Machine/RouteFind.lean leave memory, the queue and the datum alone.
-/
namespace Sys2Proof.Machine

theorem State.retireBank_frame (s : State) (c : Nat) : (s.retireBank c).frame = s.frame := by
  simp only [State.retireBank, ↓State.modFed_frame, ↓State.modNi_frame, ↓State.setFld_frame, ↓State.frame_mk,
      ↓State.frame_eta, ↓foldl_frame, implies_true]

theorem State.startSweep_frame (s : State) (p : Nat) (c : Nat) : (s.startSweep p c).frame = s.frame := by
  simp only [State.startSweep, ↓State.modNi_frame, ↓State.setFld_frame]

theorem State.sweepOn_frame (s : State) : (s.sweepOn).frame = s.frame := by
  unfold State.sweepOn
  repeat' first
    | with_reducible rfl
    | simp only [↓State.startSweep_frame, ↓State.frame_mk, ↓State.frame_eta, ↓foldl_frame, implies_true]
    | split

theorem State.bankFreed_frame (s : State) : (s.bankFreed).frame = s.frame := by
  simp only [State.bankFreed, ↓State.frame_mk, ↓State.frame_eta]

theorem execDrainStall_frame (s : State) :
    outFrame (execDrainStall s) = some s.frame := by
  unfold execDrainStall
  repeat' first
    | with_reducible rfl
    | simp only [↓State.raise_frame, ↓outFrame_next, ↓outFrame_ite, ↓State.frame_mk, ↓State.frame_eta, ite_self]
    | split

theorem State.dropPrep_frame (s : State) :
    (s.dropPrep).frame = s.frame := by
  unfold State.dropPrep
  repeat' first
    | with_reducible rfl
    | simp only [↓State.placeMsg_frame, ↓State.frame_mk, ↓State.frame_eta]
    | split

theorem State.aroundDone_frame (s : State) : (s.aroundDone).frame = s.frame := by
  simp only [State.aroundDone, ↓State.raise_frame, ↓State.frame_mk, ↓State.frame_eta]

theorem State.endAround_frame (s : State) (n : Nat) (stalled : Bool) : (s.endAround n stalled).frame = s.frame := by
  unfold State.endAround
  repeat' first
    | with_reducible rfl
    | simp only [↓State.aroundDone_frame, ↓State.bankFreed_frame, ↓State.retireBank_frame, ↓State.sweepOn_frame,
        ↓State.frame_ite, ↓State.frame_mk, ↓State.frame_eta, ite_self]
    | split

end Sys2Proof.Machine
end

