-- ==== Sys2Proof/Laws/FrameModes.lean ====
section
/-!
SUPPORT. Laws/FrameModes.lean: the functions of Machine/Modes.lean leave memory, the queue and the datum alone.
-/
namespace Sys2Proof.Machine

theorem State.dropRestricted_frame (s : State) :
    (s.dropRestricted).frame = s.frame := by
  simp only [State.dropRestricted, ↓State.dropAllSrc_frame, ↓State.frame_ite, ite_self, ↓foldl_frame, implies_true]

theorem State.toMode_frame (s : State) (m : Nat) :
    (s.toMode m).frame = s.frame := by
  simp only [State.toMode, ↓State.abortUncommitted_frame, ↓State.dropRestricted_frame, ↓State.note_frame,
      ↓State.raise_frame, ↓State.sat_frame, ↓State.setFld_frame, ↓State.wr_frame, ↓State.frame_ite, ite_self]

theorem execModeCauseUpdate_frame (s : State) :
    outFrame (execModeCauseUpdate s) = some s.frame := by
  simp only [execModeCauseUpdate, ↓State.setFld_frame, ↓State.toMode_frame, ↓outFrame_next, ↓outFrame_ite,
      ↓State.frame_ite, ite_self]

theorem State.trip_frame (s : State) (src : Nat) :
    (s.trip src).frame = s.frame := by
  simp only [State.trip, ↓State.seeRise_frame, ↓State.setFld_frame, ↓State.toMode_frame, ↓State.wr_frame,
      ↓State.frame_ite, ↓State.frame_mk, ↓State.frame_eta, ite_self]

theorem execHostTrip_frame (s : State) :
    outFrame (execHostTrip s) = some s.frame := by
  simp only [execHostTrip, ↓State.trip_frame, ↓outFrame_next, ↓outFrame_ite, ite_self]

theorem State.keepHard_frame (t : State) (s : State) :
    (t.keepHard s).frame = t.frame := by
  simp only [State.keepHard, ↓State.modStn_frame, ↓State.setFld_frame, ↓State.wr_frame, ↓State.frame_ite, ite_self,
      ↓foldl_frame, implies_true]

theorem State.writeSoftReset_frame (s : State) (r : Req) :
    (s.writeSoftReset r).1.frame = s.frame := by
  simp only [State.writeSoftReset, ↓State.fst_frame_ite, ↓State.frame_mk, ↓State.frame_eta, ite_self]

theorem execSoftResetWrite_frame (r : Req) (s : State) :
    outFrame (execSoftResetWrite r s) = some s.frame := by
  simp only [execSoftResetWrite, ↓State.serve_frame, ↓State.writeSoftReset_frame, ↓outFrame_next]

theorem execTapIdcode_frame (s : State) :
    outFrame (execTapIdcode s) = some s.frame := by
  simp only [execTapIdcode, ↓outFrame_next, ↓State.frame_mk, ↓State.frame_eta]

theorem execTapIjtag_frame (s : State) :
    outFrame (execTapIjtag s) = some s.frame := by
  simp only [execTapIjtag, ↓outFrame_next, ↓State.frame_mk, ↓State.frame_eta]

theorem execTapBypass_frame (ir : BitVec 4) (s : State) :
    outFrame (execTapBypass ir s) = some s.frame := by
  simp only [execTapBypass, ↓outFrame_next, ↓outFrame_ite, ↓State.frame_mk, ↓State.frame_eta, ite_self]

end Sys2Proof.Machine
end

