-- ==== Sys2Proof/Laws/FrameThermal.lean ====
section
/-!
SUPPORT. Laws/FrameThermal.lean: the functions of Machine/Thermal.lean leave memory, the queue and the datum alone.
-/
namespace Sys2Proof.Machine

theorem State.medians_frame (s : State) (rd : List SensorReading) :
    (s.medians rd).2.frame = s.frame := by
  simp only [State.medians, ↓State.draw_frame, ↓State.snd_frame_ite, ite_self]

theorem State.upCount_frame (s : State) (c : Nat) (j : Nat) (holds : Bool) :
    (s.upCount c j holds).frame = s.frame := by simp only [State.upCount, State.frame_mk, State.frame_eta]

theorem State.judgeSensor_frame (s : State) (rd : List SensorReading) (j : Nat) (m : ℤ) :
    (s.judgeSensor rd j m).frame = s.frame := by
  unfold State.judgeSensor
  repeat' first
    | with_reducible rfl
    | simp only [↓State.note_frame, ↓State.raise_frame, ↓State.setFld_frame, ↓State.upCount_frame, ↓State.frame_ite,
        ite_self]
    | split

theorem State.setRise_frame (s : State) (j : Nat) (r : ℤ) :
    (s.setRise j r).frame = s.frame := by
  simp only [State.setRise, ↓State.draw_frame, ↓State.setFld_frame, ↓State.frame_ite, ite_self]

theorem State.condition_frame (s : State) (c : Nat) (hot : List Bool) (cool : Bool) (clears : Bool) :
    (s.condition c hot cool clears).frame = s.frame := by
  simp only [State.condition, ↓State.upCount_frame, ↓State.frame_ite, ↓State.frame_mk, ↓State.frame_eta, ite_self,
      ↓foldl_frame, implies_true]

theorem State.levels_frame (s : State) (es : List ℤ) (rs : List ℤ) :
    (s.levels es rs).frame = s.frame := by
  simp only [State.levels, ↓State.condition_frame, ↓State.setFld_frame]

theorem State.throttle_frame (s : State) (i : Nat) (was : Nat) (old : List (Nat × List ℤ)) (es : List ℤ) :
    (s.throttle i was old es).frame = s.frame := by
  simp only [State.throttle, ↓State.sat_frame, ↓State.setFld_frame, ↓State.frame_ite, ite_self]

theorem execThermalSample_frame (s : State) :
    outFrame (execThermalSample s) = some s.frame := by
  simp only [execThermalSample, ↓State.setFld_frame, ↓outFrame_next, ↓outFrame_ite, ↓State.frame_mk, ↓State.frame_eta,
      ite_self]

theorem execThermalEvaluation_frame (rd : List SensorReading) (s : State) :
    outFrame (execThermalEvaluation rd s) = some s.frame := by
  unfold execThermalEvaluation
  repeat' first
    | with_reducible rfl
    | simp only [↓State.gcnt_frame, ↓State.judgeSensor_frame, ↓State.levels_frame, ↓State.medians_frame,
        ↓State.seeRise_frame, ↓State.setFld_frame, ↓State.setRise_frame, ↓State.throttle_frame, ↓State.trip_frame,
        ↓outFrame_next, ↓outFrame_ite, ↓State.frame_ite, ↓State.frame_mk, ↓State.frame_eta, ite_self, ↓foldl_frame,
        implies_true]
    | split

theorem State.throttleSave_frame (s : State) (applied : Nat) (p : Nat) :
    (s.throttleSave applied p).frame = s.frame := by
  simp only [State.throttleSave, ↓State.frame_ite, ↓State.frame_mk, ↓State.frame_eta, ite_self, ↓foldl_frame,
      implies_true]

theorem State.throttleWrite_frame (s : State) (p : Nat) (reg : ShaperReg) (v : Word) :
    (s.throttleWrite p reg v).frame = s.frame := by
  simp only [State.throttleWrite, ↓State.writeShaper_frame, ↓State.frame_mk, ↓State.frame_eta]

theorem State.throttleClass_frame (s : State) (p : Nat) (k : Nat) (c : Fin 7) :
    (s.throttleClass p k c).frame = s.frame := by
  simp only [State.throttleClass, ↓State.throttleWrite_frame]

theorem State.throttleNi_frame (s : State) (p : Nat) (applied : Nat) (k : Nat) :
    (s.throttleNi p applied k).frame = s.frame := by
  simp only [State.throttleNi, ↓State.throttleClass_frame, ↓State.throttleSave_frame, ↓State.throttleWrite_frame,
      ↓State.frame_ite, ite_self, ↓foldl_frame, implies_true]

theorem execThrottleApply_frame (s : State) :
    outFrame (execThrottleApply s) = some s.frame := by
  simp only [execThrottleApply, ↓State.setFld_frame, ↓State.throttleNi_frame, ↓outFrame_next, ↓outFrame_ite,
      ↓State.frame_ite, ↓State.frame_mk, ↓State.frame_eta, ite_self, ↓foldl_frame, implies_true]

theorem execTripArm_frame (s : State) :
    outFrame (execTripArm s) = some s.frame := by
  unfold execTripArm
  repeat' first
    | with_reducible rfl
    | simp only [↓State.journal_frame, ↓State.note_frame, ↓State.setFld_frame, ↓State.takeSeq_frame,
        ↓State.takeSlot_frame, ↓State.wr_frame, ↓outFrame_next, ↓outFrame_ite, ↓State.frame_mk, ↓State.frame_eta]
    | split

theorem execTripCommitProgram_frame (s : State) :
    outFrame (execTripCommitProgram s) = some s.frame := by
  simp only [execTripCommitProgram, ↓State.nvmPut_frame, ↓State.tripEnd_frame, ↓outFrame_next, ↓outFrame_ite,
      ↓State.frame_mk, ↓State.frame_eta, ite_self]

end Sys2Proof.Machine
end

