-- ==== Sys2Proof/Laws/FramePower.lean ====
section
/-!
SUPPORT. Laws/FramePower.lean: the functions of Machine/Power.lean leave memory, the queue and the datum alone.
-/
namespace Sys2Proof.Machine

theorem execPowerStateEnter_frame (st : Fin 36) (s : State) :
    outFrame (execPowerStateEnter st s) = some s.frame := by
  unfold execPowerStateEnter
  repeat' first
    | with_reducible rfl
    | simp only [↓State.modStn_frame, ↓outFrame_next, ↓outFrame_ite]
    | split

theorem execPowerStateExit_frame (st : Fin 36) (s : State) :
    outFrame (execPowerStateExit st s) = some s.frame := by
  simp only [execPowerStateExit, ↓State.modStn_frame, ↓State.sat_frame, ↓outFrame_next, ↓outFrame_ite,
      ↓State.frame_ite, ite_self]

theorem State.dirDown_frame (s : State) (d : Nat × Nat) :
    (s.dirDown d).frame = s.frame := by
  simp only [State.dirDown, ↓State.modStn_frame, ↓State.setFld_frame, ↓State.stnCause_frame, ↓State.frame_ite,
      ite_self]

theorem State.dirUp_frame (s : State) (d : Nat × Nat) :
    (s.dirUp d).frame = s.frame := by
  simp only [State.dirUp, ↓State.setFld_frame, ↓State.wr_frame]

theorem State.linksOff_frame (s : State) (st : Nat) :
    (s.linksOff st).frame = s.frame := by
  simp only [State.linksOff, ↓State.dirDown_frame, ↓State.frame_mk, ↓State.frame_eta, ↓foldl_frame, implies_true]

theorem State.linksTrain_frame (s : State) (st : Nat) : (s.linksTrain st).frame = s.frame := by
  simp only [State.linksTrain, ↓State.setFld_frame, ↓State.frame_ite, ↓State.frame_mk, ↓State.frame_eta, ↓foldl_frame,
      ite_self, implies_true]

theorem State.linksOn_frame (s : State) (st : Nat) :
    (s.linksOn st).frame = s.frame := by
  simp only [State.linksOn, ↓State.dirUp_frame, ↓State.frame_ite, ite_self, ↓foldl_frame, implies_true]

theorem State.askSleep_frame (s : State) (st : Nat) :
    (s.askSleep st).frame = s.frame := by
  simp only [State.askSleep, ↓State.linksOff_frame, ↓State.setFld_frame, ↓State.frame_ite, ite_self]

theorem execSleepEnter_frame (st : Fin 36) (s : State) :
    outFrame (execSleepEnter st s) = some s.frame := by
  simp only [execSleepEnter, ↓State.askSleep_frame, ↓State.linksOff_frame, ↓State.modStn_frame, ↓State.sat_frame,
      ↓State.setFld_frame, ↓outFrame_next, ↓outFrame_ite, ↓State.frame_ite, ite_self]

theorem execSleepExit_frame (st : Fin 36) (s : State) :
    outFrame (execSleepExit st s) = some s.frame := by
  simp only [execSleepExit, ↓State.modStn_frame, ↓State.setFld_frame, ↓outFrame_next, ↓outFrame_ite, ite_self]

theorem State.pwrTick_frame (s : State) (st : Nat) : (s.pwrTick st).frame = s.frame := by
  unfold State.pwrTick
  repeat' first
    | with_reducible rfl
    | simp only [↓State.linksOn_frame, ↓State.linksTrain_frame, ↓State.modStn_frame, ↓State.setFld_frame,
        ↓State.frame_ite, ite_self]
    | split

theorem State.trigger_frame (s : State) (st : Nat) (drift : Nat) :
    (s.trigger st drift).frame = s.frame := by
  simp only [State.trigger, ↓State.setFld_frame, ↓State.frame_ite, ↓State.frame_mk, ↓State.frame_eta, ite_self]

end Sys2Proof.Machine
end

