-- ==== Sys2Proof/Laws/FrameBoot.lean ====
section
/-!
SUPPORT. Laws/FrameBoot.lean: the functions of Machine/Boot.lean leave memory, the queue and the datum alone.
-/
namespace Sys2Proof.Machine

theorem State.setStage_frame (s : State) (v : Nat) :
    (s.setStage v).frame = s.frame := by
  simp only [State.setStage, ↓State.setFld_frame]

theorem State.bootFail_frame (s : State) (reason : Nat) :
    (s.bootFail reason).frame = s.frame := by
  simp only [State.bootFail, ↓State.setFld_frame, ↓State.setStage_frame]

theorem State.localCredits_frame (s : State) : s.localCredits.frame = s.frame := by
  simp only [State.localCredits, ↓State.wr_frame, ↓foldl_frame, implies_true]

theorem execWipeDone_frame (w : WipeResult) (s : State) :
    outFrame (execWipeDone w s) = some s.frame := by
  simp only [execWipeDone, ↓State.localCredits_frame, ↓State.bootFail_frame, ↓State.setFld_frame,
      ↓State.setStage_frame, ↓outFrame_next, ↓outFrame_ite, ↓State.frame_ite, ↓State.frame_mk, ↓State.frame_eta,
      ite_self]

theorem execBootRomRead_frame (b : RomRead) (s : State) :
    outFrame (execBootRomRead b s) = some s.frame := by
  simp only [execBootRomRead, ↓State.bootFail_frame, ↓State.setStage_frame, ↓outFrame_next, ↓outFrame_ite,
      ↓State.frame_mk, ↓State.frame_eta, ite_self]

theorem execImageVerify_frame (v : ImageCheck) (s : State) : outFrame (execImageVerify v s) = some s.frame := by
  simp only [execImageVerify, ↓State.bootFail_frame, ↓State.mark_frame, ↓State.setFld_frame, ↓State.setStage_frame,
      ↓State.toMode_frame, ↓State.frame_mk, ↓State.frame_eta, ↓foldl_frame, ↓outFrame_next, ↓outFrame_ite, ite_self,
      implies_true]

theorem State.takeBootMap_frame (s : State) (m : ExpMap) :
    (s.takeBootMap m).frame = s.frame := by
  simp only [State.takeBootMap, ↓State.frame_ite, ↓State.frame_mk, ↓State.frame_eta, ite_self]

theorem State.setDom_frame (s : State) (p : Nat) (v : Nat) :
    (s.setDom p v).frame = s.frame := by
  simp only [State.setDom, ↓State.domRefresh_frame, ↓State.setFld_frame]

theorem State.holdPort_frame (s : State) (p : Nat) (reason : Nat) :
    (s.holdPort p reason).frame = s.frame := by
  simp only [State.holdPort, ↓State.note_frame, ↓State.raise_frame, ↓State.setDom_frame, ↓State.setFld_frame,
      ↓State.frame_ite, ↓State.frame_mk, ↓State.frame_eta, ite_self]

theorem State.admitStart_frame (s : State) (p : Nat) :
    (s.admitStart p).frame = s.frame := by
  unfold State.admitStart
  repeat' first
    | with_reducible rfl
    | simp only [↓State.holdPort_frame, ↓State.setDom_frame, ↓State.frame_ite, ↓State.frame_mk, ↓State.frame_eta,
        ite_self]
    | split

theorem State.admitJudge_frame (s : State) (p : Nat) :
    (s.admitJudge p).frame = s.frame := by
  unfold State.admitJudge
  repeat' first
    | with_reducible rfl
    | simp only [↓State.holdPort_frame, ↓State.portCmd_frame, ↓State.setFld_frame, ↓State.wr_frame, ↓State.frame_ite,
        ↓State.frame_mk, ↓State.frame_eta, ite_self]
    | split

theorem State.admitDesc_frame (s : State) (p : Nat) :
    (s.admitDesc p).frame = s.frame := by
  simp only [State.admitDesc, ↓State.writePortCtl_frame, ↓State.frame_ite, ↓State.frame_mk, ↓State.frame_eta,
      ite_self]

theorem execPortAdmit_frame (p : Fin 144) (s : State) :
    outFrame (execPortAdmit p s) = some s.frame := by
  unfold execPortAdmit
  repeat' first
    | with_reducible rfl
    | simp only [↓State.admitDesc_frame, ↓State.admitJudge_frame, ↓State.holdPort_frame, ↓State.setFld_frame,
        ↓outFrame_next, ↓outFrame_ite, ite_self]
    | split

theorem State.setHostPair_frame (s : State) (k : Nat) (p : Nat) :
    (s.setHostPair k p).frame = s.frame := by
  simp only [State.setHostPair, ↓State.setFld_frame]

theorem State.pairChannels_frame (s : State) (k : Nat) (p : Nat) :
    (s.pairChannels k p).frame = s.frame := by
  simp only [State.pairChannels, ↓State.fmpMbxCfg_frame]

theorem State.enablePairs_frame (s : State) : s.enablePairs.frame = s.frame := by
  refine foldl_frame (fun s k => ?_) _ _
  split
  · rw [State.pairChannels_frame]
  · rw [State.pairChannels_frame, State.draw_frame]

end Sys2Proof.Machine
end

