-- ==== Sys2Proof/Laws/FrameEndurance.lean ====
section
/-!
SUPPORT. Laws/FrameEndurance.lean: the functions of Machine/Endurance.lean leave memory, the queue and the datum alone.
-/
namespace Sys2Proof.Machine

theorem State.tktResult_frame (s : State) (num : Nat) (ws : List Nat) :
    (s.tktResult num ws).frame = s.frame := by
  unfold State.tktResult
  repeat' first
    | with_reducible rfl
    | simp only [↓State.putTkt_frame]
    | split

theorem execBenchmarkScanStart_frame (s : State) :
    outFrame (execBenchmarkScanStart s) = some s.frame := by
  simp only [execBenchmarkScanStart, ↓State.putTkt_frame, ↓outFrame_next, ↓outFrame_ite, ↓State.frame_mk,
      ↓State.frame_eta, ite_self, ↓foldl_frame, implies_true]

theorem State.postReading_frame (s : State) (st : Nat) (j : Nat) (x : BenchReading) :
    (s.postReading st j x).frame = s.frame := by
  simp only [State.postReading, ↓State.setFld_frame]

theorem execBenchmarkScanEnd_frame (rd : List BenchReading) (s : State) :
    outFrame (execBenchmarkScanEnd rd s) = some s.frame := by
  unfold execBenchmarkScanEnd
  repeat' first
    | with_reducible rfl
    | simp only [↓State.gcnt_frame, ↓State.postReading_frame, ↓State.sat_frame, ↓State.setFld_frame,
        ↓State.tktResult_frame, ↓State.trigger_frame, ↓outFrame_next, ↓outFrame_ite, ↓State.frame_ite,
        ↓State.frame_mk, ↓State.frame_eta, ite_self, ↓foldl_frame, implies_true]
    | split

theorem execLaneFailHard_frame (st : Fin 36) (n : Fin 6) (lane : Fin 22) (s : State) :
    outFrame (execLaneFailHard st n lane s) = some s.frame := by
  simp only [execLaneFailHard, ↓State.laneFail_frame, ↓outFrame_next]

theorem execSbeWindowEnd_frame (s : State) :
    outFrame (execSbeWindowEnd s) = some s.frame := by
  simp only [execSbeWindowEnd, ↓State.modStn_frame, ↓State.setFld_frame, ↓outFrame_next, ↓outFrame_ite, ite_self,
      ↓foldl_frame, implies_true]

theorem State.setTests_frame (s : State) (q : List Test) :
    (s.setTests q).frame = s.frame := by
  simp only [State.setTests, ↓State.setFld_frame, ↓State.frame_mk, ↓State.frame_eta]

theorem State.putTest_frame (s : State) (t : Test) :
    (s.putTest t).frame = s.frame := by
  simp only [State.putTest, ↓State.setTests_frame]

theorem State.endTest_frame (s : State) (t : Test) :
    (s.endTest t).frame = s.frame := by
  simp only [State.endTest, ↓State.setTests_frame, ↓State.tktResult_frame, ↓State.frame_ite, ite_self]

theorem State.nextDir_frame (s : State) (t : Test) :
    (s.nextDir t).frame = s.frame := by
  simp only [State.nextDir, ↓State.endTest_frame, ↓State.putTest_frame, ↓State.frame_ite, ite_self]

theorem State.openRotation_frame (s : State) (t : Test) :
    (s.openRotation t).frame = s.frame := by
  simp only [State.openRotation, ↓State.open7_frame, ↓State.putTest_frame, ↓State.frame_ite, ↓State.frame_mk,
      ↓State.frame_eta, ite_self]

theorem State.pumpTest_frame (s : State) (t : Test) :
    (s.pumpTest t).frame = s.frame := by
  unfold State.pumpTest
  repeat' first
    | with_reducible rfl
    | simp only [↓State.close7_frame, ↓State.nextDir_frame, ↓State.openRotation_frame, ↓State.placeAll_frame,
        ↓State.putTest_frame, ↓State.frame_ite, ite_self]
    | split

theorem State.pumpTests_frame (s : State) :
    (s.pumpTests).frame = s.frame := by
  simp only [State.pumpTests, ↓State.pumpTest_frame, ↓State.frame_ite, ite_self, ↓foldl_frame, implies_true]

theorem State.startTest_frame (s : State) (t : Test) :
    (s.startTest t).frame = s.frame := by
  simp only [State.startTest, ↓State.linksOff_frame, ↓State.putTest_frame, ↓State.setFld_frame, ↓State.setTests_frame,
      ↓State.tktResult_frame, ↓State.frame_ite, ite_self]

theorem execTestStart_frame (s : State) :
    outFrame (execTestStart s) = some s.frame := by
  unfold execTestStart
  repeat' first
    | with_reducible rfl
    | simp only [↓State.startTest_frame, ↓outFrame_next, ↓outFrame_ite]
    | split

theorem State.bistFail_frame (s : State) (d : Nat × Nat) (lane : Nat) :
    (s.bistFail d lane).frame = s.frame := by
  simp only [State.bistFail, ↓State.sat_frame, ↓State.setFld_frame, ↓State.frame_ite, ↓State.frame_mk,
      ↓State.frame_eta, ite_self]

theorem State.judgeLane_frame (s : State) (t : Test) (lane : Nat) (pass : Bool) (eye : LaneEye) :
    (s.judgeLane t lane pass eye).1.frame = s.frame := by
  simp only [State.judgeLane, ↓State.modStn_frame, ↓State.fst_frame_ite, ite_self]

theorem execLaneTestEnd_frame (st : Fin 36) (n : Fin 6) (lane : Fin 22) (pass : Bool) (eye : LaneEye) (s : State) :
    outFrame (execLaneTestEnd st n lane pass eye s) = some s.frame := by
  unfold execLaneTestEnd
  repeat' first
    | with_reducible rfl
    | simp only [↓State.bistFail_frame, ↓State.judgeLane_frame, ↓State.pumpTest_frame, ↓State.putTest_frame,
        ↓outFrame_next, ↓outFrame_ite, ↓State.frame_ite, ite_self]
    | split

theorem execLinkTrainDone_frame (st : Fin 36) (n : Fin 6) (up : Bool) (s : State) :
    outFrame (execLinkTrainDone st n up s) = some s.frame := by
  simp only [execLinkTrainDone, ↓State.dirDown_frame, ↓State.dirUp_frame, ↓outFrame_next, ↓outFrame_ite,
      ↓State.frame_ite, ite_self]

theorem State.setReplan_frame (s : State) (r : Option Replan) :
    (s.setReplan r).frame = s.frame := by
  unfold State.setReplan
  repeat' first
    | with_reducible rfl
    | simp only [↓State.setFld_frame, ↓State.frame_mk, ↓State.frame_eta]
    | split

theorem State.patchGuard_frame (s : State) (r : Replan) (entry : Nat) : (s.patchGuard r entry).1.frame = s.frame := by
  have key (w : State × Bool) (hw : w.1.frame = s.frame) (l : List Nat) : (w.1, l).1.frame = s.frame := hw
  unfold State.patchGuard
  split
  · rfl
  · exact key (s.tryPatch _ _) (State.tryPatch_frame ..) _

theorem State.rotateLanes_frame (s : State) (r : Replan) (lanes : List Nat) :
    (s.rotateLanes r lanes).frame = s.frame := by
  simp only [State.rotateLanes, ↓State.setReplan_frame, ↓State.setTests_frame]

theorem State.endReplan_frame (s : State) (r : Replan) :
    (s.endReplan r).frame = s.frame := by
  unfold State.endReplan
  repeat' first
    | with_reducible rfl
    | simp only [↓State.note_frame, ↓State.putTkt_frame, ↓State.raise_frame, ↓State.sat_frame, ↓State.setFld_frame,
        ↓State.setReplan_frame, ↓State.tktResult_frame, ↓State.wr_frame, ↓State.frame_ite, ite_self, ↓foldl_frame,
        implies_true]
    | split

theorem State.judgeEyes_frame (s : State) (r : Replan) :
    (s.judgeEyes r).frame = s.frame := by
  simp only [State.judgeEyes, ↓State.endReplan_frame, ↓State.gcnt_frame, ↓State.laneFail_frame, ↓State.sat_frame,
      ↓State.setReplan_frame, ↓State.wrap_frame, ↓State.frame_ite, ↓State.frame_mk, ↓State.frame_eta, ite_self,
      ↓foldl_frame, implies_true]

theorem State.beginDir_frame (s : State) (r : Replan) :
    (s.beginDir r).frame = s.frame := by
  simp only [State.beginDir, ↓State.rotateLanes_frame, ↓State.setFld_frame, ↓State.setReplan_frame, ↓State.frame_ite,
      ite_self]

theorem State.pumpReplan_frame (s : State) :
    (s.pumpReplan).frame = s.frame := by
  unfold State.pumpReplan
  repeat' first
    | with_reducible rfl
    | simp only [↓State.beginDir_frame, ↓State.judgeEyes_frame, ↓State.patchGuard_frame, ↓State.rotateLanes_frame,
        ↓State.setFld_frame, ↓State.setReplan_frame, ↓State.frame_ite, ite_self]
    | split

theorem State.periodTriggers_frame (s : State) : (s.periodTriggers).frame = s.frame := by
  simp only [State.periodTriggers, ↓State.trigger_frame, ↓State.frame_ite, ↓foldl_frame, ite_self, implies_true]

theorem execReplanStart_frame (st : Fin 36) (s : State) :
    outFrame (execReplanStart st s) = some s.frame := by
  unfold execReplanStart
  repeat' first
    | with_reducible rfl
    | simp only [↓State.pumpReplan_frame, ↓State.setFld_frame, ↓State.setReplan_frame, ↓outFrame_next, ↓outFrame_ite,
        ↓State.frame_ite, ↓State.frame_mk, ↓State.frame_eta, ite_self]
    | split

theorem execEyeMeasureEnd_frame (st : Fin 36) (n : Fin 6) (eyes : List LaneEye) (s : State) :
    outFrame (execEyeMeasureEnd st n eyes s) = some s.frame := by
  unfold execEyeMeasureEnd
  repeat' first
    | with_reducible rfl
    | simp only [↓State.modStn_frame, ↓State.pumpReplan_frame, ↓State.setFld_frame, ↓State.setReplan_frame,
        ↓outFrame_next, ↓outFrame_ite, ↓State.frame_ite, ite_self]
    | split

theorem execRecentreStep_frame (st : Fin 36) (n : Fin 6) (lane : Fin 22) (s : State) :
    outFrame (execRecentreStep st n lane s) = some s.frame := by
  unfold execRecentreStep
  repeat' first
    | with_reducible rfl
    | simp only [↓State.modStn_frame, ↓outFrame_next, ↓outFrame_ite, ite_self]
    | split

theorem execVreqStepAck_frame (v : Fin 13) (s : State) :
    outFrame (execVreqStepAck v s) = some s.frame := by
  simp only [execVreqStepAck, ↓State.setFld_frame, ↓outFrame_next, ↓outFrame_ite, ↓State.frame_mk, ↓State.frame_eta,
      ite_self]

theorem execVreqNoack_frame (s : State) :
    outFrame (execVreqNoack s) = some s.frame := by
  unfold execVreqNoack
  repeat' first
    | with_reducible rfl
    | simp only [↓State.sat_frame, ↓outFrame_next, ↓outFrame_ite, ↓State.frame_mk, ↓State.frame_eta, ite_self]
    | split

end Sys2Proof.Machine
end

