-- ==== Sys2Proof/Laws/FrameFmpGeneral.lean ====
section
/-!
SUPPORT. Laws/FrameFmpGeneral.lean: the functions of Machine/FmpGeneral.lean leave memory, the queue and the datum alone.
-/
namespace Sys2Proof.Machine

theorem State.toStage_frame (s : State) (t : Tkt) (stage : Nat) (aux : List Nat) :
    (s.toStage t stage aux).frame = s.frame := by
  simp only [State.toStage, ↓State.putTkt_frame]

theorem State.endFree_frame (s : State) (t : Tkt) (code : BitVec 4) :
    (s.endFree t code).frame = s.frame := by
  simp only [State.endFree, ↓State.draw_frame, ↓State.endTkt_frame]

theorem execNop_frame (k : Fin 8) (s : State) :
    outFrame (execNop k s) = some s.frame := by
  simp only [execNop, ↓State.fmpFast_frame, ↓outFrame_next, implies_true]

theorem execInfo_frame (k : Fin 8) (s : State) :
    outFrame (execInfo k s) = some s.frame := by
  simp only [execInfo, ↓State.fmpFast_frame, ↓outFrame_next, implies_true]

theorem State.tktReport_frame (s : State) (t : Tkt) :
    (s.tktReport t).1.frame = s.frame := by
  simp only [State.tktReport, ↓State.draw_frame, ↓State.setTickets_frame, ↓State.frame_ite, ↓State.fst_frame_ite,
      ite_self]

theorem execTicketStatus_frame (k : Fin 8) (s : State) : outFrame (execTicketStatus k s) = some s.frame := by
  unfold execTicketStatus
  rw [outFrame_next, State.fmpFast_frame _ _ _ _ (fun m t => ?_)]
  split
  · exact State.tktReport_frame ..
  · rfl

theorem State.undo_frame (s : State) (t : Tkt) :
    (s.undo t).frame = s.frame := by
  simp only [State.undo, ↓State.abortSet_frame, ↓State.setTests_frame, ↓State.frame_ite, ↓State.frame_mk,
      ↓State.frame_eta, ite_self]

theorem execTicketCancel_frame (k : Fin 8) (s : State) : outFrame (execTicketCancel k s) = some s.frame := by
  unfold execTicketCancel
  rw [outFrame_next, State.fmpFast_frame _ _ _ _ (fun m t => ?_)]
  split
  · rfl
  · simp only [↓State.fst_frame_ite, ↓State.endTkt_frame, ↓State.orphan_frame, ↓State.undo_frame, ite_self]

theorem execModeSet_frame (k : Fin 8) (s : State) :
    outFrame (execModeSet k s) = some s.frame := by
  simp only [execModeSet, ↓State.fmpSlow_frame, ↓outFrame_next]

theorem State.workModeSet_frame (s : State) (t : Tkt) :
    (s.workModeSet t).frame = s.frame := by
  simp only [State.workModeSet, ↓State.endTkt_frame, ↓State.toMode_frame, ↓State.frame_ite, ite_self]

theorem State.putFlds_frame (s : State) (a : Nat) (fs : List Fld) (v : Word) :
    (s.putFlds a fs v).frame = s.frame := by
  simp only [State.putFlds, ↓State.setFld_frame, ↓foldl_frame, implies_true]

theorem State.regSet_frame (s : State) (sel idx : Nat) (v : Word) (u : State) (h : s.regSet sel idx v = some u) :
    u.frame = s.frame := by
  unfold State.regSet at h
  extract_lets only merged police at h
  have hp (size : Bool) (a : Nat) (fs : List Fld) (hu : police size a fs = some u) : u.frame = s.frame := by
    have hw := State.writePolicer_frame s idx size (s.fmpReq (merged a fs))
    unfold police at hu
    split at hu
    · split at hu
      rename_i heq
      rw [heq] at hw
      split at hu
      · rw [← Option.some.inj hu]; exact hw
      · nomatch hu
    · nomatch hu
  clear_value police only
  split at h
  · split at h
    · rw [← Option.some.inj h]; simp only [↓foldl_frame, ↓State.putFlds_frame, implies_true]
    · nomatch h
  · exact hp _ _ _ h
  · exact hp _ _ _ h
  iterate 4
    · split at h
      · rw [← Option.some.inj h]; simp only [↓State.putFlds_frame]
      · nomatch h
  · nomatch h

theorem execRegSet_frame (k : Fin 8) (s : State) : outFrame (execRegSet k s) = some s.frame := by
  unfold execRegSet
  rw [outFrame_next, State.fmpFast_frame _ _ _ _ (fun m t => ?_)]
  extract_lets w
  split
  · exact State.regSet_frame _ _ _ _ _ (by assumption)
  · rfl

theorem State.mbxConfig_frame (s : State) (m : Msg) :
    (s.mbxConfig m).1.frame = s.frame := by
  unfold State.mbxConfig
  repeat' first
    | with_reducible rfl
    | simp only [↓State.fmpMbxCfg_frame, ↓State.fst_frame_ite, ite_self]
    | split

theorem execMbxConfig_frame (k : Fin 8) (s : State) :
    outFrame (execMbxConfig k s) = some s.frame := by
  simp only [execMbxConfig, ↓State.fmpFast_frame, ↓State.mbxConfig_frame, ↓outFrame_next, implies_true]

theorem execLockForce_frame (k : Fin 8) (s : State) :
    outFrame (execLockForce k s) = some s.frame := by
  simp only [execLockForce, ↓State.draw_frame, ↓State.fmpFast_frame, ↓State.lockFree_frame, ↓State.sat_frame,
      ↓outFrame_next, ↓State.fst_frame_ite, ite_self, implies_true]

theorem execMapLoad_frame (k : Fin 8) (s : State) :
    outFrame (execMapLoad k s) = some s.frame := by
  simp only [execMapLoad, ↓State.fmpSlow_frame, ↓outFrame_next]

theorem State.workMapLoad_frame (s : State) (t : Tkt) : (s.workMapLoad t).frame = s.frame := by
  refine State.withBuf_frame _ _ _ (fun s t bs => ?_)
  split
  · rw [State.endTkt_frame]
  · simp only [↓State.endTkt_frame, ↓State.frame_mk, ↓State.frame_eta]

theorem execEnumerate_frame (k : Fin 8) (s : State) :
    outFrame (execEnumerate k s) = some s.frame := by
  simp only [execEnumerate, ↓State.fmpSlow_frame, ↓outFrame_next]

theorem execPortEnable_frame (k : Fin 8) (s : State) :
    outFrame (execPortEnable k s) = some s.frame := by
  simp only [execPortEnable, ↓State.fmpSlow_frame, ↓outFrame_next]

theorem State.workPortEnable_frame (s : State) (t : Tkt) :
    (s.workPortEnable t).frame = s.frame := by
  simp only [State.workPortEnable, ↓State.endTkt_frame, ↓State.holdPort_frame, ↓State.toStage_frame, ↓State.frame_ite,
      ↓State.frame_mk, ↓State.frame_eta, ite_self]

theorem execPortDisable_frame (k : Fin 8) (s : State) :
    outFrame (execPortDisable k s) = some s.frame := by
  simp only [execPortDisable, ↓State.fmpSlow_frame, ↓outFrame_next]

theorem State.workPortDown_frame (s : State) (t : Tkt) (cmd : Nat) :
    (s.workPortDown t cmd).frame = s.frame := by
  simp only [State.workPortDown, ↓State.endTkt_frame, ↓State.portCmd_frame, ↓State.toStage_frame, ↓State.frame_ite,
      ite_self]

theorem execPortIsolate_frame (k : Fin 8) (s : State) :
    outFrame (execPortIsolate k s) = some s.frame := by
  simp only [execPortIsolate, ↓State.fmpFast_frame, ↓State.portCmd_frame, ↓outFrame_next, ↓State.fst_frame_ite,
      ite_self, implies_true]

theorem execPortStatus_frame (k : Fin 8) (s : State) :
    outFrame (execPortStatus k s) = some s.frame := by
  simp only [execPortStatus, ↓State.fmpFast_frame, ↓outFrame_next, ↓State.fst_frame_ite, ite_self, implies_true]

theorem execDomainDown_frame (k : Fin 8) (s : State) :
    outFrame (execDomainDown k s) = some s.frame := by
  simp only [execDomainDown, ↓State.fmpSlow_frame, ↓outFrame_next]

theorem execDomainUp_frame (k : Fin 8) (s : State) :
    outFrame (execDomainUp k s) = some s.frame := by
  simp only [execDomainUp, ↓State.fmpSlow_frame, ↓outFrame_next]

theorem State.workDomainUp_frame (s : State) (t : Tkt) :
    (s.workDomainUp t).frame = s.frame := by
  simp only [State.workDomainUp, ↓State.endFree_frame, ↓State.endTkt_frame, ↓State.portCmd_frame,
      ↓State.toStage_frame, ↓State.frame_ite, ite_self]

theorem execDomainStatus_frame (k : Fin 8) (s : State) :
    outFrame (execDomainStatus k s) = some s.frame := by
  simp only [execDomainStatus, ↓State.fmpFast_frame, ↓outFrame_next, ↓State.fst_frame_ite, ite_self, implies_true]

end Sys2Proof.Machine
end

