-- ==== Sys2Proof/Laws/FrameFmpRoutes.lean ====
section
/-!
SUPPORT. Laws/FrameFmpRoutes.lean: the functions of Machine/FmpRoutes.lean leave memory, the queue and the datum alone.
-/
namespace Sys2Proof.Machine

theorem State.startSet7_frame (s : State) (t : Tkt) :
    (s.startSet7 t).frame = s.frame := by
  simp only [State.startSet7, ↓State.endTkt_frame, ↓State.open7_frame, ↓State.toStage_frame, ↓State.frame_ite,
      ite_self]

theorem State.fillSet7_frame (s : State) (t : Tkt) (l : List (Nat × Word)) (t0 : Nat) (lead : Nat) :
    (s.fillSet7 t l t0 lead).frame = s.frame := by
  unfold State.fillSet7
  repeat' first
    | with_reducible rfl
    | exact Eq.symm (by assumption)
    | simp only [↓State.abortSet_frame, ↓State.close7_frame, ↓State.endFree_frame, ↓State.endTkt_frame,
        ↓State.toStage_frame, ↓State.frame_ite]
    | (split <;> (try (rename_i heq; replace heq := congrArg (fun p => p.1.frame) heq; simp only [↓State.placeAll_frame] at heq)))

theorem State.fillHostSet_frame (s : State) (t : Tkt) (l : List (Nat × Word)) :
    (s.fillHostSet t l).1.frame = s.frame := by
  unfold State.fillHostSet
  repeat' first
    | with_reducible rfl
    | exact Eq.symm (by assumption)
    | simp only [↓State.endFree_frame, ↓State.endTkt_frame]
    | (split <;> (try (rename_i heq; replace heq := congrArg (fun p => p.1.frame) heq; simp only [↓State.placeAll_frame] at heq)))

theorem execRoutePrepare_frame (k : Fin 8) (s : State) :
    outFrame (execRoutePrepare k s) = some s.frame := by
  simp only [execRoutePrepare, ↓State.fmpSlow_frame, ↓outFrame_next]

theorem execRouteWrite_frame (k : Fin 8) (s : State) :
    outFrame (execRouteWrite k s) = some s.frame := by
  simp only [execRouteWrite, ↓State.fmpSlow_frame, ↓outFrame_next]

theorem execRouteRead_frame (k : Fin 8) (s : State) :
    outFrame (execRouteRead k s) = some s.frame := by
  simp only [execRouteRead, ↓State.fmpFast_frame, ↓outFrame_next, implies_true]

theorem execRouteSwitch_frame (k : Fin 8) (s : State) :
    outFrame (execRouteSwitch k s) = some s.frame := by
  simp only [execRouteSwitch, ↓State.fmpSlow_frame, ↓outFrame_next]

theorem State.followDrain_frame (s : State) (t : Tkt) (w1 : Nat) :
    (s.followDrain t w1).frame = s.frame := by
  unfold State.followDrain
  repeat' first
    | with_reducible rfl
    | simp only [↓State.endTkt_frame, ↓State.frame_ite, ite_self]
    | split

theorem State.switched_frame (s : State) (t : Tkt) (n : Nat) (x3 : Option Ans) :
    (s.switched t n x3).frame = s.frame := by
  unfold State.switched
  repeat' first
    | with_reducible rfl
    | simp only [↓State.endTkt_frame, ↓State.toStage_frame]
    | split

theorem State.workSwitch_frame (s : State) (t : Tkt) :
    (s.workSwitch t).frame = s.frame := by
  unfold State.workSwitch
  repeat' first
    | with_reducible rfl
    | exact Eq.symm (by assumption)
    | simp only [↓State.fillSet7_frame, ↓State.followDrain_frame, ↓State.startSet7_frame, ↓State.switched_frame,
        ↓State.frame_ite]
    | (split <;> (try (rename_i heq; replace heq := congrArg (fun p => p.1.frame) heq; simp only [↓State.fillHostSet_frame] at heq)))

theorem execRouteDrain_frame (k : Fin 8) (s : State) :
    outFrame (execRouteDrain k s) = some s.frame := by
  simp only [execRouteDrain, ↓State.fmpSlow_frame, ↓outFrame_next]

theorem State.workDrain_frame (s : State) (t : Tkt) :
    (s.workDrain t).frame = s.frame := by
  unfold State.workDrain
  repeat' first
    | with_reducible rfl
    | simp only [↓State.draw_frame, ↓State.endTkt_frame, ↓State.followDrain_frame, ↓State.toStage_frame,
        ↓State.frame_ite, ↓State.frame_mk, ↓State.frame_eta, ite_self]
    | split

theorem execRouteFinish_frame (k : Fin 8) (s : State) :
    outFrame (execRouteFinish k s) = some s.frame := by
  simp only [execRouteFinish, ↓State.fmpSlow_frame, ↓outFrame_next]

theorem State.workFinish_frame (s : State) (t : Tkt) : (s.workFinish t).frame = s.frame := by
  unfold State.workFinish
  repeat' first
    | with_reducible rfl
    | simp only [↓State.bankFreed_frame, ↓State.draw_frame, ↓State.endTkt_frame, ↓State.retireBank_frame,
        ↓State.sweepOn_frame, ↓State.toStage_frame, ↓State.frame_ite, ite_self]

    | split

theorem execRouteCacheLoad_frame (k : Fin 8) (s : State) :
    outFrame (execRouteCacheLoad k s) = some s.frame := by
  simp only [execRouteCacheLoad, ↓State.fmpSlow_frame, ↓outFrame_next]

theorem State.preload_frame (s : State) (p : Nat) (d : Gid) :
    (s.preload p d).1.frame = s.frame := by
  unfold State.preload
  repeat' first
    | with_reducible rfl
    | simp only [↓State.cacheFill_frame, ↓State.fst_frame_ite, ite_self]
    | split

theorem State.workCacheLoad_frame (s : State) (t : Tkt) : (s.workCacheLoad t).frame = s.frame := by
  simp only [State.workCacheLoad, ↓State.endTkt_frame, ↓State.preload_frame, ↓State.withBuf_frame, ↓State.frame_ite,
      ↓State.fst_frame_mk, ↓fst_foldl_frame, ite_self, implies_true]

theorem State.renameParty_frame (s : State) (n : Nat) (f : Fld) (old : Nat) (new : Nat) :
    (s.renameParty n f old new).frame = s.frame := by
  simp only [State.renameParty, ↓State.setFld_frame, ↓State.frame_ite, ite_self]

theorem State.setInstance_frame (s : State) (i : Nat) :
    (s.setInstance i).1.frame = s.frame := by
  simp only [State.setInstance, ↓State.renameParty_frame, ↓State.setFld_frame, ↓State.fst_frame_ite, ite_self,
      ↓foldl_frame, implies_true]

theorem execFedMap_frame (k : Fin 8) (s : State) :
    outFrame (execFedMap k s) = some s.frame := by
  simp only [execFedMap, ↓State.fmpFast_frame, ↓State.setFld_frame, ↓State.setInstance_frame, ↓outFrame_next,
      ↓State.fst_frame_ite, ite_self, implies_true]

end Sys2Proof.Machine
end

