-- ==== Sys2Proof/Laws/FrameFmpPlats.lean ====
section
/-!
SUPPORT. Laws/FrameFmpPlats.lean: the functions of Machine/FmpPlats.lean leave memory, the queue and the datum alone.
-/
namespace Sys2Proof.Machine

theorem State.platFail_frame (s : State) (f : PlatFail) :
    (s.platFail f).1.frame = s.frame := by
  unfold State.platFail
  repeat' first
    | with_reducible rfl
    | simp only [↓State.draw_frame]
    | split

theorem execPlatStage_frame (k : Fin 8) (s : State) :
    outFrame (execPlatStage k s) = some s.frame := by
  simp only [execPlatStage, ↓State.fmpSlow_frame, ↓outFrame_next]

theorem execPlatSwap_frame (k : Fin 8) (s : State) :
    outFrame (execPlatSwap k s) = some s.frame := by
  simp only [execPlatSwap, ↓State.fmpSlow_frame, ↓outFrame_next]

theorem State.unstage_frame (s : State) :
    (s.unstage).frame = s.frame := by simp only [State.unstage, State.frame_mk, State.frame_eta]

theorem State.workPlatSwap_frame (s : State) (t : Tkt) :
    (s.workPlatSwap t).frame = s.frame := by
  unfold State.workPlatSwap
  repeat' first
    | with_reducible rfl
    | exact Eq.symm (by assumption)
    | simp only [↓State.abortSet_frame, ↓State.endTkt_frame, ↓State.fillSet7_frame, ↓State.platFail_frame,
        ↓State.startSet7_frame, ↓State.unstage_frame, ↓State.frame_ite, ite_self]
    | (split <;> (try (rename_i heq; replace heq := congrArg (fun p => p.1.frame) heq; simp only [↓State.fillHostSet_frame] at heq)))

theorem execPlatPatch_frame (k : Fin 8) (s : State) : outFrame (execPlatPatch k s) = some s.frame := by
  have key (t : State) (w : State × Bool) (hw : w.1.frame = t.frame) (a : Ans) : (w.1, a).1.frame = t.frame := hw
  unfold execPlatPatch
  rw [outFrame_next, State.fmpFast_frame _ _ _ _ (fun m t => ?_)]
  extract_lets w
  split
  split
  · rfl
  · split
    · exact State.platFail_frame ..
    · exact key t (t.tryPatch _ _) (State.tryPatch_frame ..) _

theorem execPlatRead_frame (k : Fin 8) (s : State) :
    outFrame (execPlatRead k s) = some s.frame := by
  simp only [execPlatRead, ↓State.fmpSlow_frame, ↓outFrame_next]

theorem State.workPlatRead_frame (s : State) (t : Tkt) : (s.workPlatRead t).frame = s.frame := by
  simp only [State.workPlatRead, ↓State.endBuf_frame]

theorem execChainInfo_frame (k : Fin 8) (s : State) : outFrame (execChainInfo k s) = some s.frame := by
  unfold execChainInfo
  rw [outFrame_next, State.fmpFast_frame _ _ _ _ (fun m t => ?_)]
  extract_lets c
  split <;> rfl

theorem execChainProbe_frame (k : Fin 8) (s : State) :
    outFrame (execChainProbe k s) = some s.frame := by
  simp only [execChainProbe, ↓State.fmpSlow_frame, ↓outFrame_next]

theorem State.workChainProbe_frame (s : State) (t : Tkt) :
    (s.workChainProbe t).frame = s.frame := by
  unfold State.workChainProbe
  repeat' first
    | with_reducible rfl
    | simp only [↓State.endTkt_frame, ↓State.toStage_frame, ↓State.writeChainCtl_frame, ↓State.frame_ite, ite_self]
    | split

theorem execStakeInfo_frame (k : Fin 8) (s : State) :
    outFrame (execStakeInfo k s) = some s.frame := by
  simp only [execStakeInfo, ↓State.fmpFast_frame, ↓outFrame_next, implies_true]

theorem execStateConfig_frame (k : Fin 8) (s : State) :
    outFrame (execStateConfig k s) = some s.frame := by
  simp only [execStateConfig, ↓State.fmpSlow_frame, ↓outFrame_next]

theorem State.workStateConfig_frame (s : State) (t : Tkt) : (s.workStateConfig t).frame = s.frame := by
  refine State.withBuf_frame _ _ _ (fun s t bs => ?_)
  split
  · rw [State.endTkt_frame]
  · extract_lets slot
    clear_value slot
    split
    · rw [State.endTkt_frame]
    · rename_i rs _ _ _
      have h := State.fillHostSet_frame s t (rs.map (fun r => (A.NI_STATE_CFG r.1 r.2.1, r.2.2)))
      split <;> rename_i heq <;> rw [heq] at h
      · rw [State.endTkt_frame]; exact h
      · exact h

theorem execStakeAbort_frame (k : Fin 8) (s : State) :
    outFrame (execStakeAbort k s) = some s.frame := by
  simp only [execStakeAbort, ↓State.abortSet_frame, ↓State.fmpFast_frame, ↓outFrame_next, ↓State.fst_frame_ite,
      ite_self, implies_true]

end Sys2Proof.Machine
end

