-- ==== Sys2Proof/Laws/FrameSurvey.lean ====
section
/-!
SUPPORT. Laws/FrameSurvey.lean: the functions of Machine/Survey.lean leave memory, the queue and the datum alone.
-/
namespace Sys2Proof.Machine

theorem State.writeSrvCtl_frame (s : State) (r : Req) :
    (s.writeSrvCtl r).1.frame = s.frame := by
  simp only [State.writeSrvCtl, ↓State.merReq_frame, ↓State.setFld_frame, ↓State.setMer_frame, ↓State.frame_ite,
      ↓State.fst_frame_ite, ite_self]

theorem execSurveyGo_frame (r : Req) (s : State) :
    outFrame (execSurveyGo r s) = some s.frame := by
  simp only [execSurveyGo, ↓State.serve_frame, ↓State.writeSrvCtl_frame, ↓outFrame_next]

theorem execSurveyCancel_frame (r : Req) (s : State) :
    outFrame (execSurveyCancel r s) = some s.frame := by
  simp only [execSurveyCancel, ↓State.serve_frame, ↓State.writeSrvCtl_frame, ↓outFrame_next]

theorem execSurveyTickArrival_frame (b : Fin 192) (sbe : Bool) (s : State) :
    outFrame (execSurveyTickArrival b sbe s) = some s.frame := by
  unfold execSurveyTickArrival
  repeat' first
    | with_reducible rfl
    | simp only [↓State.meet_frame, ↓State.merSbe_frame, ↓outFrame_next, ↓State.frame_mk, ↓State.frame_eta]
    | split

theorem State.clearCounters_frame (s : State) (clr : Nat) (cnt : Nat → Nat) (n : Nat) :
    (s.clearCounters clr cnt n).frame = s.frame := by
  simp only [State.clearCounters, ↓State.wr_frame, ↓State.frame_ite, ite_self, ↓foldl_frame, implies_true]

theorem State.clearSurveyed_frame (s : State) (b : Nat) : (s.clearSurveyed b).frame = s.frame := by
  simp only [State.clearSurveyed, ↓State.clearCounters_frame, ↓State.frame_ite, ite_self]

theorem State.capture_frame (s : State) (b : Nat) : (s.capture b).frame = s.frame := by
  unfold State.capture
  repeat' first
    | with_reducible rfl
    | simp only [↓State.clearSurveyed_frame, ↓State.frame_ite, ↓State.frame_mk, ↓State.frame_eta, ite_self]

    | split

theorem State.captures_frame (s : State) : (s.captures).frame = s.frame := by
  simp only [State.captures, ↓State.capture_frame, ↓foldl_frame, implies_true]

theorem State.snapshot_frame (s : State) (b : Nat) (c : Capture) : (s.snapshot b c).frame = s.frame := by
  simp only [State.snapshot, ↓State.sat_frame, ↓State.setFld_frame, ↓State.wr_frame, ↓State.frame_ite,
      ↓State.frame_mk, ↓State.frame_eta, ↓foldl_frame, ite_self, implies_true]

theorem execSurveySnapshot_frame (b : Fin 193) (s : State) : outFrame (execSurveySnapshot b s) = some s.frame := by
  unfold execSurveySnapshot
  repeat' first
    | with_reducible rfl
    | simp only [↓State.snapshot_frame, ↓State.frame_mk, ↓State.frame_eta, ↓outFrame_next]

    | split

theorem State.writeTraceCtl_frame (s : State) (r : Req) :
    (s.writeTraceCtl r).1.frame = s.frame := by
  simp only [State.writeTraceCtl, ↓State.plainWrite_frame, ↓State.setFld_frame, ↓State.fst_frame_ite, ite_self]

theorem execTraceClear_frame (r : Req) (s : State) :
    outFrame (execTraceClear r s) = some s.frame := by
  simp only [execTraceClear, ↓State.serve_frame, ↓State.writeTraceCtl_frame, ↓outFrame_next]

theorem State.probeRestart_frame (s : State) (k : Nat) :
    (s.probeRestart k).frame = s.frame := by
  simp only [State.probeRestart, ↓State.modNi_frame, ↓State.modStn_frame, ↓State.wr_frame, ↓State.frame_ite, ite_self]

theorem State.writeProbe_frame (s : State) (k : Nat) (act : Bool) (r : Req) :
    (s.writeProbe k act r).1.frame = s.frame := by
  simp only [State.writeProbe, ↓State.plainWrite_frame, ↓State.probeRestart_frame, ↓State.fst_frame_ite, ite_self]

theorem execProbeConfigWrite_frame (k : Fin 180) (act : Bool) (r : Req) (s : State) :
    outFrame (execProbeConfigWrite k act r s) = some s.frame := by
  simp only [execProbeConfigWrite, ↓State.serve_frame, ↓State.writeProbe_frame, ↓outFrame_next]

theorem State.writeTagCtl_frame (s : State) (p : Nat) (r : Req) :
    (s.writeTagCtl p r).1.frame = s.frame := by
  simp only [State.writeTagCtl, ↓State.modNi_frame, ↓State.plainWrite_frame, ↓State.fst_frame_ite, ite_self]

theorem execTagCtlWrite_frame (p : Fin 144) (r : Req) (s : State) :
    outFrame (execTagCtlWrite p r s) = some s.frame := by
  simp only [execTagCtlWrite, ↓State.serve_frame, ↓State.writeTagCtl_frame, ↓outFrame_next]

end Sys2Proof.Machine
end

