-- ==== Sys2Proof/Laws/FrameFmpUpkeep.lean ====
section
/-!
SUPPORT. Laws/FrameFmpUpkeep.lean: the functions of Machine/FmpUpkeep.lean leave memory, the queue and the datum alone.
-/
namespace Sys2Proof.Machine

theorem execSurveyTake_frame (k : Fin 8) (s : State) :
    outFrame (execSurveyTake k s) = some s.frame := by
  simp only [execSurveyTake, ↓State.fmpSlow_frame, ↓outFrame_next]

theorem State.workSurveyTake_frame (s : State) (t : Tkt) :
    (s.workSurveyTake t).frame = s.frame := by
  simp only [State.workSurveyTake, ↓State.endFree_frame, ↓State.endTkt_frame, ↓State.toStage_frame, ↓State.wr_frame,
      ↓State.writeSrvCtl_frame, ↓State.frame_ite, ite_self]

theorem execSurveyRead_frame (k : Fin 8) (s : State) :
    outFrame (execSurveyRead k s) = some s.frame := by
  simp only [execSurveyRead, ↓State.fmpSlow_frame, ↓outFrame_next]

theorem State.workSurveyRead_frame (s : State) (t : Tkt) : (s.workSurveyRead t).frame = s.frame := by
  simp only [State.workSurveyRead, ↓State.endBuf_frame]

theorem execProbeSet_frame (k : Fin 8) (s : State) :
    outFrame (execProbeSet k s) = some s.frame := by
  simp only [execProbeSet, ↓State.fmpFast_frame, ↓State.probeRestart_frame, ↓State.wr_frame, ↓outFrame_next,
      ↓State.fst_frame_ite, ite_self, implies_true]

theorem execTagSet_frame (k : Fin 8) (s : State) :
    outFrame (execTagSet k s) = some s.frame := by
  simp only [execTagSet, ↓State.fmpFast_frame, ↓State.writeTagCtl_frame, ↓outFrame_next, ↓State.fst_frame_ite,
      ite_self, implies_true]

theorem execTraceRead_frame (k : Fin 8) (s : State) :
    outFrame (execTraceRead k s) = some s.frame := by
  simp only [execTraceRead, ↓State.fmpSlow_frame, ↓outFrame_next]

theorem State.workTraceRead_frame (s : State) (t : Tkt) : (s.workTraceRead t).frame = s.frame := by
  simp only [State.workTraceRead, ↓State.endBuf_frame]

theorem execCounterPerm_frame (k : Fin 8) (s : State) : outFrame (execCounterPerm k s) = some s.frame := by
  unfold execCounterPerm
  rw [outFrame_next, State.fmpFast_frame _ _ _ _ (fun m t => ?_)]
  split
  · rfl
  · simp only [↓State.fst_frame_ite, ↓State.wr_frame, ite_self]

theorem State.setThmCfg_frame (s : State) (v : Word) :
    (s.setThmCfg v).frame = s.frame := by
  simp only [State.setThmCfg, ↓State.putFlds_frame, ↓State.frame_mk, ↓State.frame_eta]

theorem execThermalPolicy_frame (k : Fin 8) (s : State) :
    outFrame (execThermalPolicy k s) = some s.frame := by
  simp only [execThermalPolicy, ↓State.fmpFast_frame, ↓State.setThmCfg_frame, ↓outFrame_next, ↓State.fst_frame_ite,
      ite_self, implies_true]

theorem execThermalRead_frame (k : Fin 8) (s : State) :
    outFrame (execThermalRead k s) = some s.frame := by
  simp only [execThermalRead, ↓State.fmpFast_frame, ↓outFrame_next, implies_true]

theorem State.powerPolicy_frame (s : State) (st : Nat) (deepest : Nat) :
    (s.powerPolicy st deepest).frame = s.frame := by
  simp only [State.powerPolicy, ↓State.askSleep_frame, ↓State.setFld_frame, ↓State.frame_ite, ite_self]

theorem execPowerPolicy_frame (k : Fin 8) (s : State) :
    outFrame (execPowerPolicy k s) = some s.frame := by
  simp only [execPowerPolicy, ↓State.fmpFast_frame, ↓State.powerPolicy_frame, ↓outFrame_next, ↓State.fst_frame_ite,
      ite_self, ↓foldl_frame, implies_true]

theorem execTestRequest_frame (k : Fin 8) (s : State) :
    outFrame (execTestRequest k s) = some s.frame := by
  simp only [execTestRequest, ↓State.fmpSlow_frame, ↓outFrame_next]

theorem State.workTest_frame (s : State) (t : Tkt) :
    (s.workTest t).frame = s.frame := by
  simp only [State.workTest, ↓State.setTests_frame, ↓State.toStage_frame, ↓State.frame_ite, ite_self]

theorem execStationVacate_frame (k : Fin 8) (s : State) :
    outFrame (execStationVacate k s) = some s.frame := by
  simp only [execStationVacate, ↓State.fmpSlow_frame, ↓outFrame_next]

theorem State.workVacate_frame (s : State) (t : Tkt) : (s.workVacate t).frame = s.frame := by
  simp only [State.workVacate, ↓State.endTkt_frame, ↓State.markAvoid_frame, ↓State.setFld_frame, ↓State.frame_ite,
      ↓State.frame_mk, ↓State.frame_eta, ite_self]

theorem execStationReturn_frame (k : Fin 8) (s : State) :
    outFrame (execStationReturn k s) = some s.frame := by
  simp only [execStationReturn, ↓State.fmpSlow_frame, ↓outFrame_next]

theorem State.workReturn_frame (s : State) (t : Tkt) : (s.workReturn t).frame = s.frame := by
  simp only [State.workReturn, ↓State.endTkt_frame, ↓State.linksTrain_frame, ↓State.releaseAll_frame,
      ↓State.setFld_frame, ↓State.toStage_frame, ↓State.unmark_frame, ↓State.frame_ite, ↓State.frame_mk,
      ↓State.frame_eta, ite_self]

theorem execLinkInfo_frame (k : Fin 8) (s : State) :
    outFrame (execLinkInfo k s) = some s.frame := by
  simp only [execLinkInfo, ↓State.fmpFast_frame, ↓outFrame_next, ↓State.fst_frame_ite, ite_self, implies_true]

theorem execMarginReplan_frame (k : Fin 8) (s : State) :
    outFrame (execMarginReplan k s) = some s.frame := by
  simp only [execMarginReplan, ↓State.fmpSlow_frame, ↓outFrame_next]

theorem State.workReplan_frame (s : State) (t : Tkt) :
    (s.workReplan t).frame = s.frame := by
  simp only [State.workReplan, ↓State.toStage_frame, ↓State.frame_ite, ↓State.frame_mk, ↓State.frame_eta, ite_self]

theorem execFwLoad_frame (k : Fin 8) (s : State) :
    outFrame (execFwLoad k s) = some s.frame := by
  simp only [execFwLoad, ↓State.fmpSlow_frame, ↓outFrame_next]

theorem State.workFwLoad_frame (s : State) (t : Tkt) (w : SlowEnd) : (s.workFwLoad t w).frame = s.frame := by
  simp only [State.workFwLoad, ↓State.endTkt_frame, ↓State.withBuf_frame, ↓State.frame_ite, ↓State.frame_mk,
      ↓State.frame_eta, ite_self, implies_true]

theorem execFwHandover_frame (k : Fin 8) (s : State) :
    outFrame (execFwHandover k s) = some s.frame := by
  simp only [execFwHandover, ↓State.fmpSlow_frame, ↓outFrame_next]

theorem State.workHandover_frame (s : State) (t : Tkt) :
    (s.workHandover t).frame = s.frame := by
  unfold State.workHandover
  repeat' first
    | with_reducible rfl
    | simp only [↓State.beat_frame, ↓State.endTkt_frame, ↓State.fillSet7_frame, ↓State.setFld_frame,
        ↓State.startSet7_frame, ↓State.frame_ite, ite_self]
    | split

theorem execFwInfo_frame (k : Fin 8) (s : State) :
    outFrame (execFwInfo k s) = some s.frame := by
  simp only [execFwInfo, ↓State.fmpFast_frame, ↓outFrame_next, implies_true]

theorem execJournalInfo_frame (k : Fin 8) (s : State) : outFrame (execJournalInfo k s) = some s.frame := by
  unfold execJournalInfo
  rw [outFrame_next, State.fmpFast_frame _ _ _ _ (fun m t => ?_)]
  split
  · rfl
  · simp only [↓State.draw_frame]

theorem execJournalRead_frame (k : Fin 8) (s : State) :
    outFrame (execJournalRead k s) = some s.frame := by
  simp only [execJournalRead, ↓State.fmpSlow_frame, ↓outFrame_next]

theorem State.workJournalRead_frame (s : State) (t : Tkt) (w : SlowEnd) :
    (s.workJournalRead t w).frame = s.frame := by
  simp only [State.workJournalRead, ↓State.endBuf_frame, ↓State.frame_ite, ite_self]

end Sys2Proof.Machine
end

