-- ==== Sys2Proof/Laws/FrameConfigSpace.lean ====
section
/-!
SUPPORT. Laws/FrameConfigSpace.lean: the functions of Machine/ConfigSpace.lean leave memory, the queue and the datum alone.
-/
namespace Sys2Proof.Machine

theorem State.writeEvtCfg_frame (s : State) (i : Nat) (r : Req) :
    (s.writeEvtCfg i r).1.frame = s.frame := by
  simp only [State.writeEvtCfg, ↓State.holdLevel_frame, ↓State.plainWrite_frame, ↓State.setPend_frame,
      ↓State.frame_ite, ↓State.fst_frame_ite, ite_self]

theorem State.writePend_frame (s : State) (k : Nat) (r : Req) :
    (s.writePend k r).1.frame = s.frame := by
  simp only [State.writePend, ↓State.setPend_frame, ↓State.frame_ite, ite_self, ↓foldl_frame, implies_true]

theorem State.writeCause_frame (s : State) (a : Nat) (src : Nat) (r : Req) :
    (s.writeCause a src r).1.frame = s.frame := by
  simp only [State.writeCause, ↓State.plainWrite_frame, ↓State.seeRise_frame, ↓State.fst_frame_ite, ite_self]

theorem State.writeThmCfg_frame (s : State) (r : Req) :
    (s.writeThmCfg r).1.frame = s.frame := by
  simp only [State.writeThmCfg, ↓State.setThmCfg_frame, ↓State.fst_frame_ite, ite_self]

theorem State.writeSensor_frame (s : State) (n : Nat) (r : Req) :
    (s.writeSensor n r).1.frame = s.frame := by
  simp only [State.writeSensor, ↓State.plainWrite_frame, ↓State.setFld_frame, ↓State.fst_frame_ite, ↓State.frame_mk,
      ↓State.frame_eta, ite_self]

theorem State.writeDom_frame (s : State) (p : Nat) (r : Req) :
    (s.writeDom p r).1.frame = s.frame := by
  unfold State.writeDom
  repeat' first
    | with_reducible rfl
    | simp only [↓State.domRefresh_frame, ↓State.plainWrite_frame]

theorem State.writeFedId_frame (s : State) (r : Req) :
    (s.writeFedId r).1.frame = s.frame := by
  simp only [State.writeFedId, ↓State.plainWrite_frame, ↓State.setInstance_frame, ↓State.fst_frame_ite, ite_self]

theorem State.actGlb_frame (s : State) (a : Nat) (r : Req) :
    (s.actGlb a r).1.frame = s.frame := by
  simp only [State.actGlb, ↓State.plainWrite_frame, ↓State.writeAlarm_frame, ↓State.writeAlarmCtl_frame,
      ↓State.writeContent_frame, ↓State.writeDatCtl_frame, ↓State.writeEvtCfg_frame, ↓State.writeExp_frame,
      ↓State.writeFedId_frame, ↓State.writeLock_frame, ↓State.writeMbxCfg_frame, ↓State.writeMbxCtl_frame,
      ↓State.writePart_frame, ↓State.writePend_frame, ↓State.writeSensor_frame, ↓State.writeSetCtl_frame,
      ↓State.writeSoftReset_frame, ↓State.writeSrvCtl_frame, ↓State.writeThmCfg_frame, ↓State.writeTraceCtl_frame,
      ↓State.fst_frame_ite, ite_self]

theorem State.actStn_frame (s : State) (st : Nat) (a : Nat) (r : Req) :
    (s.actStn st a r).1.frame = s.frame := by
  simp only [State.actStn, ↓State.plainWrite_frame, ↓State.writeCause_frame, ↓State.writeExp_frame,
      ↓State.writePatch_frame, ↓State.writePlatCtl_frame, ↓State.writeProbe_frame, ↓State.writeStnTrav_frame,
      ↓State.fst_frame_ite, ite_self]

theorem State.actNiLow_frame (s : State) (p : Nat) (a : Nat) (r : Req) :
    (s.actNiLow p a r).1.frame = s.frame := by
  unfold State.actNiLow
  repeat' first
    | with_reducible rfl
    | simp only [↓State.plainWrite_frame, ↓State.writeChainCtl_frame, ↓State.writeHistCtl_frame,
        ↓State.writeMergeCtl_frame, ↓State.writeRouteCtl_frame, ↓State.writeShaper_frame,
        ↓State.writeSluiceAdmin_frame, ↓State.writeSluiceCtl_frame, ↓State.fst_frame_ite, ite_self]
    | split

theorem State.actNi_frame (s : State) (p : Nat) (a : Nat) (r : Req) :
    (s.actNi p a r).1.frame = s.frame := by
  simp only [State.actNi, ↓State.actNiLow_frame, ↓State.plainWrite_frame, ↓State.writeCause_frame,
      ↓State.writeDom_frame, ↓State.writeExp_frame, ↓State.writeNiCtl_frame, ↓State.writePortCtl_frame,
      ↓State.writeProbe_frame, ↓State.writeRegion_frame, ↓State.writeRegionCfg_frame, ↓State.writeTagCtl_frame,
      ↓State.fst_frame_ite, ite_self]

theorem State.actFed_frame (s : State) (f : Nat) (a : Nat) (r : Req) :
    (s.actFed f a r).1.frame = s.frame := by
  simp only [State.actFed, ↓State.plainWrite_frame, ↓State.writeCause_frame, ↓State.writeExp_frame,
      ↓State.writeFedCtl_frame, ↓State.writePolicer_frame, ↓State.fst_frame_ite, ite_self]

theorem State.regAct_frame (s : State) (a : Nat) (r : Req) :
    (s.regAct a r).1.frame = s.frame := by
  unfold State.regAct
  repeat' first
    | with_reducible rfl
    | simp only [↓State.actFed_frame, ↓State.actGlb_frame, ↓State.actNi_frame, ↓State.actStn_frame,
        ↓State.writeRws_frame, ↓State.fst_frame_ite, ite_self]
    | split

theorem State.bulkRead_frame (s : State) (a : Nat) (r : Req) :
    (s.bulkRead a r).frame = s.frame := by
  simp only [State.bulkRead, ↓State.answer_frame, ↓State.frame_ite, ite_self]

theorem State.readClear_frame (s : State) (a : Nat) : (s.readClear a).frame = s.frame := by
  unfold State.readClear
  repeat' first
    | with_reducible rfl
    | simp only [↓State.wrServed_frame, ↓State.frame_ite, ite_self]
    | split

theorem State.regRead_frame (s : State) (a : Nat) (r : Req) :
    (s.regRead a r).frame = s.frame := by
  unfold State.regRead
  repeat' first
    | with_reducible rfl
    | simp only [↓State.answer_frame, ↓State.readClear_frame, ↓State.frame_ite, ite_self]
    | split

theorem State.shadowRead_frame (s : State) (live : Nat) (a : Nat) (r : Req) :
    (s.shadowRead live a r).frame = s.frame := by
  unfold State.shadowRead
  repeat' first
    | with_reducible rfl
    | simp only [↓State.answer_frame, ↓State.frame_ite, ite_self]
    | split

theorem execRcFieldRead_frame (off : Fin 33554432) (sz : Fin 9) (r : Req) (s : State) :
    outFrame (execRcFieldRead off sz r s) = some s.frame := by
  unfold execRcFieldRead
  repeat' first
    | with_reducible rfl
    | simp only [↓State.answer_frame, ↓State.bulkRead_frame, ↓State.lockAccess_frame, ↓State.mbxAccess_frame,
        ↓State.regRead_frame, ↓State.shadowRead_frame, ↓State.frame_ite, ↓outFrame_next, ite_self, implies_true]
    | split

end Sys2Proof.Machine
end

