-- ==== Sys2Proof/Laws/FrameFills.lean ====
section
/-!
SUPPORT. Laws/FrameFills.lean: the functions of Machine/Fills.lean leave memory, the queue and the datum alone.
-/
namespace Sys2Proof.Machine

theorem State.niFillIssue_frame (s : State) (p : Nat) (rsp : Bool) : (s.niFillIssue p rsp).frame = s.frame := by
  unfold State.niFillIssue
  repeat' first
    | with_reducible rfl
    | simp only [↓State.modNi_frame, ↓State.ncnt_frame, ↓State.setWait_frame, ↓State.frame_ite, ite_self]
    | split

theorem State.niFillEnd_frame (s : State) (p : Nat) (rsp : Bool) (w : FillWait) (r : Option (BitVec 64)) :
    (s.niFillEnd p rsp w r).frame = s.frame := by
  unfold State.niFillEnd
  repeat' first
    | with_reducible rfl
    | simp only [↓State.cacheFill_frame, ↓State.leavePath_frame, ↓State.mapPaths_frame, ↓State.noRouteEnd_frame,
        ↓State.outDone_frame, ↓State.pump_frame, ↓State.setWait_frame, ↓State.frame_ite, ite_self]
    | split

theorem State.niFillReturn_frame (s : State) (p : Nat) (rsp : Bool) : (s.niFillReturn p rsp).frame = s.frame := by
  unfold State.niFillReturn
  repeat' first
    | with_reducible rfl
    | simp only [↓State.modNi_frame, ↓State.niFillEnd_frame, ↓State.frame_ite, ite_self]

    | split

theorem State.niFillTimeout_frame (s : State) (p : Nat) (rsp : Bool) : (s.niFillTimeout p rsp).frame = s.frame := by
  unfold State.niFillTimeout
  repeat' first
    | with_reducible rfl
    | simp only [↓State.niFillEnd_frame, ↓State.sat_frame, ↓State.frame_ite, ite_self]

    | split

theorem State.agentFillIssue_frame (s : State) (b : Nat) : (s.agentFillIssue b).frame = s.frame := by
  unfold State.agentFillIssue
  repeat' first
    | with_reducible rfl
    | simp only [↓State.agentQueue_frame, ↓State.modAgent_frame]

    | split

theorem State.agentNoRoute_frame (s : State) (b : Nat) (o : AgentPkt) : (s.agentNoRoute b o).frame = s.frame := by
  unfold State.agentNoRoute
  repeat' first
    | with_reducible rfl
    | simp only [↓State.fedNoRoute_frame, ↓State.inBarEnd_frame, ↓State.ingNext_frame, ↓State.modFed_frame,
        ↓State.outDone_frame, ↓State.sat_frame, ↓State.frame_ite, ite_self]

    | split

theorem State.agentRouted_frame (s : State) (b : Nat) (r : Option (BitVec 64)) :
    (s.agentRouted b r).frame = s.frame := by
  unfold State.agentRouted
  repeat' first
    | with_reducible rfl
    | simp only [↓State.agentFillEnd_frame, ↓State.agentNoRoute_frame, ↓State.agentPump_frame,
        ↓State.agentQueue_frame, ↓State.outDone_frame, ↓State.sat_frame, ↓State.frame_ite, ite_self]

    | split

theorem State.agentFillReturn_frame (s : State) (b : Nat) : (s.agentFillReturn b).frame = s.frame := by
  unfold State.agentFillReturn
  repeat' first
    | with_reducible rfl
    | simp only [↓State.agentRouted_frame]

    | split

theorem State.agentFillTimeout_frame (s : State) (b : Nat) : (s.agentFillTimeout b).frame = s.frame := by
  unfold State.agentFillTimeout
  repeat' first
    | with_reducible rfl
    | simp only [↓State.agentRouted_frame, ↓State.frame_ite, ite_self]
    | split

theorem execRouteFillIssue_frame (b : Builder) (s : State) : outFrame (execRouteFillIssue b s) = some s.frame := by
  unfold execRouteFillIssue
  repeat' first
    | with_reducible rfl
    | simp only [↓State.agentFillIssue_frame, ↓State.niFillIssue_frame, ↓outFrame_next]
    | split

theorem execRouteFillReturn_frame (b : Builder) (s : State) : outFrame (execRouteFillReturn b s) = some s.frame := by
  unfold execRouteFillReturn
  repeat' first
    | with_reducible rfl
    | simp only [↓State.agentFillReturn_frame, ↓State.niFillReturn_frame, ↓outFrame_next]
    | split

theorem execRouteFillTimeout_frame (b : Builder) (s : State) :
    outFrame (execRouteFillTimeout b s) = some s.frame := by
  unfold execRouteFillTimeout
  repeat' first
    | with_reducible rfl
    | simp only [↓State.agentFillTimeout_frame, ↓State.niFillTimeout_frame, ↓outFrame_next]
    | split

end Sys2Proof.Machine
end

