-- ==== Sys2Proof/Laws/FrameTick.lean ====
section
/-!
SUPPORT. Laws/FrameTick.lean: the functions of Machine/Tick.lean leave memory, the queue and the datum alone.
-/
namespace Sys2Proof.Machine

theorem State.countStn_frame (s : State) (st : Nat) :
    (s.countStn st).frame = s.frame := by
  simp only [State.countStn, ↓State.scnt_frame]

theorem State.countGlb_frame (s : State) :
    (s.countGlb).frame = s.frame := by
  simp only [State.countGlb, ↓State.gcnt_frame, ↓State.frame_ite, ite_self, ↓foldl_frame, implies_true]

theorem State.countCycle_frame (s : State) : (s.countCycle).frame = s.frame := by
  simp only [State.countCycle, ↓State.countGlb_frame, ↓State.countStn_frame, ↓State.ncnt_frame,
      ↓State.waitCounts_frame, ↓foldl_frame, implies_true]

theorem State.refillAll_frame (s : State) :
    (s.refillAll).frame = s.frame := by
  simp only [State.refillAll, ↓State.refillPolicer_frame, ↓State.refillShaper_frame, ↓foldl_frame, implies_true]

theorem State.portCycle_frame (s : State) (p : Nat) : (s.portCycle p).frame = s.frame := by
  simp only [State.portCycle, ↓State.iqDrop_frame, ↓State.qackTake_frame, ↓State.selectCycle_frame, ↓State.frame_ite,
      ite_self]

theorem State.newCycle_frame (s : State) : (s.newCycle).frame = s.frame := by
  simp only [State.newCycle, ↓State.fedDrive_frame, ↓State.fedPump_frame, ↓State.fedRelay_frame,
      ↓State.holdLevel_frame, ↓State.lanesDue_frame, ↓State.linkCycle_frame, ↓State.ownExpire_frame,
      ↓State.periodTriggers_frame, ↓State.portCycle_frame, ↓State.pumpReplan_frame, ↓State.pumpTests_frame,
      ↓State.pwrTick_frame, ↓State.seeFault_frame, ↓foldl_frame, implies_true]

end Sys2Proof.Machine
end

