-- ==== Sys2Proof/Laws/Store.lean ====
section
/-!
SUPPORT. Laws/Store.lean: a read after a write of a sparse store, and that a write keeps the canonical form.
-/
namespace Sys2Proof.Machine

variable {α : Type} {d : Nat → α} {m : List (Nat × α)} {k k' : Nat} {v : α}

theorem Store.get_erase_same (m : List (Nat × α)) : Store.get d (Store.erase m k) k = d k := by
  induction m with
  | nil => rfl
  | cons e m ih =>
    obtain ⟨j, x⟩ := e
    by_cases h : j = k
    · simpa [Store.erase, h] using ih
    · have h' : ¬ k = j := fun e => h e.symm
      simpa [Store.erase, h, Store.get, h'] using ih

theorem Store.get_erase_ne (m : List (Nat × α)) (h : k' ≠ k) :
    Store.get d (Store.erase m k) k' = Store.get d m k' := by
  induction m with
  | nil => rfl
  | cons e m ih =>
    obtain ⟨j, x⟩ := e
    by_cases hj : j = k
    · subst hj
      simpa [Store.erase, Store.get, h] using ih
    · simp only [Store.erase] at ih
      by_cases hk : k' = j <;> simp [Store.erase, Store.get, hj, hk, ih]

theorem Store.get_put_same (m : List (Nat × α)) : Store.get d (Store.put m k v) k = v := by
  induction m with
  | nil => simp [Store.put, Store.get]
  | cons e m ih =>
    obtain ⟨j, x⟩ := e
    by_cases h1 : k < j
    · simp [Store.put, h1, Store.get]
    · by_cases h2 : k = j
      · simp [Store.put, h2, Store.get]
      · simp [Store.put, h1, h2, Store.get, ih]

theorem Store.get_put_ne (m : List (Nat × α)) (h : k' ≠ k) :
    Store.get d (Store.put m k v) k' = Store.get d m k' := by
  induction m with
  | nil => simp [Store.put, Store.get, h]
  | cons e m ih =>
    obtain ⟨j, x⟩ := e
    by_cases h1 : k < j
    · simp [Store.put, h1, Store.get, h]
    · by_cases h2 : k = j
      · subst h2; simp [Store.put, Store.get, h]
      · simp [Store.put, h1, h2, Store.get, ih]

/-- A key reads what was last written to it. -/
@[simp] theorem Store.get_set_same [DecidableEq α] (m : List (Nat × α)) :
    Store.get d (Store.set d m k v) k = v := by
  unfold Store.set
  split
  · rename_i h; rw [Store.get_erase_same, h]
  · exact Store.get_put_same m

/-- A write leaves every other key alone. -/
theorem Store.get_set_ne [DecidableEq α] (m : List (Nat × α)) (h : k' ≠ k) :
    Store.get d (Store.set d m k v) k' = Store.get d m k' := by
  unfold Store.set
  split
  · exact Store.get_erase_ne m h
  · exact Store.get_put_ne m h

theorem Store.mem_put {e : Nat × α} (h : e ∈ Store.put m k v) : e = (k, v) ∨ e ∈ m := by
  induction m with
  | nil => simpa [Store.put] using h
  | cons f m ih =>
    obtain ⟨j, x⟩ := f
    unfold Store.put at h
    split at h
    · simpa using h
    · split at h
      · rcases List.mem_cons.mp h with h | h
        · exact .inl h
        · exact .inr (List.mem_cons_of_mem _ h)
      · rcases List.mem_cons.mp h with h | h
        · exact .inr (h ▸ List.mem_cons_self ..)
        · exact (ih h).imp id (List.mem_cons_of_mem _)

theorem Store.rising_filter (p : Nat × α → Bool) (h : Store.rising m = true) :
    Store.rising (m.filter p) = true := by
  induction m with
  | nil => rfl
  | cons e m ih =>
    obtain ⟨j, x⟩ := e
    simp only [Store.rising, Bool.and_eq_true, List.all_eq_true, decide_eq_true_eq] at h
    by_cases hp : p (j, x) = true
    · simp only [List.filter, hp, Store.rising, Bool.and_eq_true, List.all_eq_true, decide_eq_true_eq]
      exact ⟨fun e he => h.1 e (List.mem_filter.mp he).1, ih h.2⟩
    · simp only [List.filter, hp]; exact ih h.2

theorem Store.rising_put (h : Store.rising m = true) : Store.rising (Store.put m k v) = true := by
  induction m with
  | nil => rfl
  | cons e m ih =>
    obtain ⟨j, x⟩ := e
    simp only [Store.rising, Bool.and_eq_true, List.all_eq_true, decide_eq_true_eq] at h
    unfold Store.put
    split
    · rename_i hkj
      simp only [Store.rising, Bool.and_eq_true, List.all_eq_true, decide_eq_true_eq]
      refine ⟨fun e he => ?_, h⟩
      rcases List.mem_cons.mp he with rfl | he
      · exact hkj
      · exact Nat.lt_trans hkj (h.1 e he)
    · split
      · rename_i hkj; subst hkj
        simp only [Store.rising, Bool.and_eq_true, List.all_eq_true, decide_eq_true_eq]
        exact h
      · simp only [Store.rising, Bool.and_eq_true, List.all_eq_true, decide_eq_true_eq]
        refine ⟨fun e he => ?_, ih h.2⟩
        rcases Store.mem_put he with rfl | he
        · simp only; omega
        · exact h.1 e he

/-- Writing keeps the canonical form. -/
theorem Store.wf_set [DecidableEq α] (h : Store.wf d m = true) : Store.wf d (Store.set d m k v) = true := by
  simp only [Store.wf, Bool.and_eq_true, List.all_eq_true, decide_eq_true_eq] at h ⊢
  unfold Store.set
  split
  · exact ⟨Store.rising_filter _ h.1, fun e he => h.2 e (List.mem_filter.mp he).1⟩
  · rename_i hv
    refine ⟨Store.rising_put h.1, fun e he => ?_⟩
    rcases Store.mem_put he with rfl | he
    · exact hv
    · exact h.2 e he

end Sys2Proof.Machine
end

