-- ==== Sys2Proof/Laws/Memory.lean ====
section
/-!
SUPPORT. Laws/Memory.lean: the bulk memory: a read after a write, and every operation over it keeps the canonical form.
-/
namespace Sys2Proof.Machine

/-! ### One byte -/

/-- A byte reads what was last written to it. -/
@[simp] theorem State.rdByte_wrByte_same (s : State) (a : Nat) (v : Byte) : (s.wrByte a v).rdByte a = v :=
  Store.get_set_same _

/-- A byte's write leaves every other byte alone. -/
theorem State.rdByte_wrByte_ne (s : State) (a b : Nat) (v : Byte) (h : b ≠ a) :
    (s.wrByte a v).rdByte b = s.rdByte b := Store.get_set_ne _ h

theorem State.wf_wrByte (s : State) (a : Nat) (v : Byte) (h : Memory.wf s.mem = true) :
    Memory.wf (s.wrByte a v).mem = true := Store.wf_set h

/-! ### Several bytes -/

/-- A write of `n` bytes leaves the bytes outside them alone. -/
theorem State.rdByte_wrMem_out (n : Nat) : ∀ (s : State) (a v b : Nat), b < a ∨ a + n ≤ b →
    (s.wrMem a v n).rdByte b = s.rdByte b := by
  induction n with
  | zero => intro s a v b _; rfl
  | succ n ih =>
    intro s a v b h
    rw [State.wrMem, ih _ _ _ _ (by omega), State.rdByte_wrByte_ne _ _ _ _ (by omega)]

/-- A read of bytes outside the ones written gives what it gave before. -/
theorem State.rdMem_congr (n : Nat) : ∀ (s t : State) (a : Nat), (∀ b, a ≤ b → b < a + n → t.rdByte b = s.rdByte b) →
    t.rdMem a n = s.rdMem a n := by
  induction n with
  | zero => intro s t a _; rfl
  | succ n ih =>
    intro s t a h
    rw [State.rdMem, State.rdMem, h a (by omega) (by omega),
      ih s t (a + 1) (fun b h1 h2 => h b (by omega) (by omega))]

/-- `n` bytes read what was last written to them. -/
theorem State.rdMem_wrMem_same (n : Nat) : ∀ (s : State) (a v : Nat), v < 256 ^ n →
    (s.wrMem a v n).rdMem a n = v := by
  induction n with
  | zero => intro s a v h; simp at h; simp [State.rdMem, h]
  | succ n ih =>
    intro s a v h
    have hd : v / 256 < 256 ^ n := Nat.div_lt_of_lt_mul (by rw [Nat.pow_succ, Nat.mul_comm] at h; exact h)
    rw [State.wrMem, State.rdMem, ih _ _ _ hd, State.rdByte_wrMem_out n _ _ _ _ (by omega),
      State.rdByte_wrByte_same, BitVec.toNat_ofNat]
    omega

theorem State.wf_wrMem (n : Nat) : ∀ (s : State) (a v : Nat), Memory.wf s.mem = true →
    Memory.wf (s.wrMem a v n).mem = true := by
  induction n with
  | zero => intro s a v h; exact h
  | succ n ih => intro s a v h; exact ih _ _ _ (State.wf_wrByte _ _ _ h)

/-! ### A range of cells -/

theorem Store.rising_iff {α : Type} (m : List (Nat × α)) :
    Store.rising m = true ↔ m.Pairwise (fun x y => x.1 < y.1) := by
  induction m with
  | nil => simp [Store.rising]
  | cons e m ih =>
    obtain ⟨j, x⟩ := e
    rw [Store.rising, Bool.and_eq_true, ih, List.pairwise_cons, List.all_eq_true]
    simp only [decide_eq_true_eq]

theorem Memory.wf_iff (m : List Host.Cell) :
    Memory.wf m = true ↔ m.Pairwise (fun x y => x.1 < y.1) ∧ ∀ e ∈ m, e.2 ≠ 0 := by
  rw [Memory.wf, Store.wf, Bool.and_eq_true, Store.rising_iff, List.all_eq_true]
  simp only [decide_eq_true_eq]

theorem State.wf_replaceMem (s : State) (lo hi : Nat) (cells : List Host.Cell) (hl : lo ≤ hi)
    (hc : Memory.wf cells = true) (hr : ∀ e ∈ cells, lo ≤ e.1 ∧ e.1 < hi) (h : Memory.wf s.mem = true) :
    Memory.wf (s.replaceMem lo hi cells).mem = true := by
  rw [Memory.wf_iff] at h hc ⊢
  simp only [State.replaceMem]
  refine ⟨List.pairwise_append.mpr ⟨h.1.filter _, List.pairwise_append.mpr ⟨hc.1, h.1.filter _, ?_⟩, ?_⟩, ?_⟩
  · intro x hx y hy
    have h1 := hr x hx
    have h2 := (List.mem_filter.mp hy).2
    simp only [decide_eq_true_eq] at h2
    omega
  · intro x hx y hy
    have h1 := (List.mem_filter.mp hx).2
    simp only [decide_eq_true_eq] at h1
    rcases List.mem_append.mp hy with hy | hy
    · have := hr y hy; omega
    · have h2 := (List.mem_filter.mp hy).2
      simp only [decide_eq_true_eq] at h2
      omega
  · intro e he
    rcases List.mem_append.mp he with he | he
    · exact h.2 e (List.mem_filter.mp he).1
    · rcases List.mem_append.mp he with he | he
      · exact hc.2 e he
      · exact h.2 e (List.mem_filter.mp he).1

/-- The cells of `f i`, for `i` below `n`, lie in rising order when each `f i` does and lies in its own range. -/
theorem Memory.wf_flatMap (n : Nat) (f : Nat → List Host.Cell) (lo : Nat → Nat)
    (hw : ∀ i < n, Memory.wf (f i) = true) (hb : ∀ i < n, ∀ e ∈ f i, lo i ≤ e.1 ∧ e.1 < lo (i + 1))
    (hm : ∀ i j, i ≤ j → lo i ≤ lo j) : Memory.wf ((List.range n).flatMap f) = true := by
  rw [Memory.wf_iff, List.pairwise_flatMap]
  refine ⟨⟨fun i hi => ((Memory.wf_iff _).mp (hw i (List.mem_range.mp hi))).1, ?_⟩, ?_⟩
  · refine List.pairwise_lt_range.imp_of_mem ?_
    intro i j hi hj hij x hx y hy
    have h1 := (hb i (List.mem_range.mp hi) x hx).2
    have h2 := (hb j (List.mem_range.mp hj) y hy).1
    have h3 := hm (i + 1) j hij
    omega
  · intro e he
    obtain ⟨i, hi, he⟩ := List.mem_flatMap.mp he
    exact ((Memory.wf_iff _).mp (hw i (List.mem_range.mp hi))).2 e he

theorem Memory.wf_bank (i n b : Nat) :
    Memory.wf ((List.range 1024).map (fun t => (platAddr i n b t, (0x0F : Byte)))) = true := by
  rw [Memory.wf_iff]
  refine ⟨List.Pairwise.map _ (fun x y h => ?_) List.pairwise_lt_range, ?_⟩
  · simp only [platAddr]; omega
  · intro e he
    obtain ⟨t, _, rfl⟩ := List.mem_map.mp he
    show (0x0F : Byte) ≠ 0
    decide

/-- The cells of one plat. -/
theorem Memory.wf_plat (i n : Nat) : Memory.wf ((List.range 2).flatMap (fun b =>
    (List.range 1024).map (fun t => (platAddr i n b t, (0x0F : Byte))))) = true := by
  refine Memory.wf_flatMap 2 _ (fun b => platAddr i n b 0) (fun b _ => Memory.wf_bank i n b) ?_ ?_
  · intro b _ e he
    obtain ⟨t, ht, rfl⟩ := List.mem_map.mp he
    have := List.mem_range.mp ht
    simp only [platAddr]; omega
  · intro a b h; simp only [platAddr]; omega

theorem freeCells_range (i : Nat) (e : Host.Cell) (he : e ∈ freeCells i) :
    platAddr i 0 0 0 ≤ e.1 ∧ e.1 < platAddr (i + 1) 0 0 0 := by
  obtain ⟨n, hn, he⟩ := List.mem_flatMap.mp he
  obtain ⟨b, hb, he⟩ := List.mem_flatMap.mp he
  obtain ⟨t, ht, rfl⟩ := List.mem_map.mp he
  have h1 := List.mem_range.mp hn
  have h2 := List.mem_range.mp hb
  have h3 := List.mem_range.mp ht
  simp only [platAddr]; omega

theorem Memory.wf_freeCells (i : Nat) : Memory.wf (freeCells i) = true := by
  refine Memory.wf_flatMap 11 _ (fun n => platAddr i n 0 0) (fun n _ => Memory.wf_plat i n) ?_ ?_
  · intro n _ e he
    obtain ⟨b, hb, he⟩ := List.mem_flatMap.mp he
    obtain ⟨t, ht, rfl⟩ := List.mem_map.mp he
    have h2 := List.mem_range.mp hb
    have h3 := List.mem_range.mp ht
    simp only [platAddr]; omega
  · intro a b h; simp only [platAddr]; omega

theorem Memory.wf_freePlats : Memory.wf freePlats = true :=
  Memory.wf_flatMap 36 _ (fun i => platAddr i 0 0 0) (fun i _ => Memory.wf_freeCells i)
    (fun i _ e he => freeCells_range i e he) (fun a b h => by simp only [platAddr]; omega)

theorem State.wf_freeStation (s : State) (st : Nat) (h : Memory.wf s.mem = true) :
    Memory.wf (s.freeStation st).mem = true :=
  State.wf_replaceMem s _ _ _ (by simp only [platAddr]; omega) (Memory.wf_freeCells st)
    (fun e he => freeCells_range st e he) h

theorem State.wf_freeAllPlats (s : State) (h : Memory.wf s.mem = true) : Memory.wf s.freeAllPlats.mem = true := by
  refine State.wf_replaceMem s _ _ _ (by omega) Memory.wf_freePlats (fun e he => ?_) h
  obtain ⟨i, hi, he⟩ := List.mem_flatMap.mp he
  have h1 := freeCells_range i e he
  have h2 := List.mem_range.mp hi
  simp only [platAddr] at h1
  omega

end Sys2Proof.Machine
end

