-- ==== Sys2Proof/Laws/Keeps.lean ====
section
/-!
SUPPORT. Laws/Keeps.lean: the functions that do write memory keep its canonical form, the queue and the datum; the
resets keep the queue and leave an empty memory.
-/
namespace Sys2Proof.Machine

/-- From `s` to `t` the canonical form of memory, the commands waiting and the datum are kept. -/
def State.Keeps (s t : State) : Prop :=
  (Memory.wf s.mem = true → Memory.wf t.mem = true) ∧ t.pending = s.pending ∧ t.datum = s.datum

theorem State.Keeps.refl (s : State) : s.Keeps s := ⟨id, rfl, rfl⟩

theorem State.Keeps.trans {s t u : State} (h : s.Keeps t) (k : t.Keeps u) : s.Keeps u :=
  ⟨fun w => k.1 (h.1 w), k.2.1.trans h.2.1, k.2.2.trans h.2.2⟩

theorem State.Keeps.of_frame {s t : State} (h : t.frame = s.frame) : s.Keeps t := by
  injection h with h1 h2
  injection h2 with h2 h3
  exact ⟨fun w => by rw [h1]; exact w, h2, h3⟩

/-- A change that the frame does not see. -/
theorem State.Keeps.then {s t u : State} (h : s.Keeps t) (k : u.frame = t.frame) : s.Keeps u := h.trans (.of_frame k)

theorem State.Keeps.foldl {α : Type} {f : State → α → State} (h : ∀ (s : State) (x : α), s.Keeps (f s x))
    (l : List α) : ∀ s : State, s.Keeps (l.foldl f s) := by
  induction l with
  | nil => exact State.Keeps.refl
  | cons x l ih => exact fun s => (h s x).trans (ih _)

theorem State.Keeps.fst_foldl {α β : Type} {f : State × β → α → State × β}
    (h : ∀ (p : State × β) (x : α), p.1.Keeps (f p x).1) (l : List α) :
    ∀ p : State × β, p.1.Keeps (l.foldl f p).1 := by
  induction l with
  | nil => exact fun p => State.Keeps.refl _
  | cons x l ih => exact fun p => (h p x).trans (ih _)

theorem State.Keeps.ite {c : Prop} [Decidable c] {s t u : State} (h : s.Keeps t) (k : s.Keeps u) :
    s.Keeps (if c then t else u) := by split <;> assumption

theorem State.pending_wrMem (n : Nat) : ∀ (s : State) (a v : Nat), (s.wrMem a v n).pending = s.pending := by
  induction n with
  | zero => intro s a v; rfl
  | succ n ih => intro s a v; exact ih _ _ _

theorem State.datum_wrMem (n : Nat) : ∀ (s : State) (a v : Nat), (s.wrMem a v n).datum = s.datum := by
  induction n with
  | zero => intro s a v; rfl
  | succ n ih => intro s a v; exact ih _ _ _

theorem State.wrMem_keeps (s : State) (a v n : Nat) : s.Keeps (s.wrMem a v n) :=
  ⟨State.wf_wrMem n s a v, State.pending_wrMem n s a v, State.datum_wrMem n s a v⟩

theorem State.freeStation_keeps (s : State) (st : Nat) : s.Keeps (s.freeStation st) :=
  ⟨State.wf_freeStation s st, rfl, rfl⟩

theorem State.freeAllPlats_keeps (s : State) : s.Keeps s.freeAllPlats := ⟨State.wf_freeAllPlats s, rfl, rfl⟩

/-! ### Route table -/

theorem State.putRoute_keeps (s : State) (t sk dk : Nat) (r : BitVec 64) : s.Keeps (s.putRoute t sk dk r) :=
  State.wrMem_keeps ..

theorem State.copyBank_keeps (s : State) (c n : Nat) (f : Nat → Nat → BitVec 64 → BitVec 64) :
    s.Keeps (s.copyBank c n f) :=
  State.Keeps.foldl (fun _ _ => State.Keeps.foldl (fun _ _ => State.putRoute_keeps ..) _ _) _ _

theorem State.startAround_keeps (s : State) : s.Keeps s.startAround := by
  unfold State.startAround
  extract_lets s1 n s2
  have h2 : s.Keeps s2 := (State.Keeps.of_frame (State.dropPrep_frame s)).trans (State.copyBank_keeps ..)
  refine h2.then ?_
  rw [State.open7_frame, State.frame_mk, State.frame_eta]

theorem State.withBuf_keeps (s : State) (t : Tkt) (body : State → Tkt → List Byte → State)
    (hb : ∀ (s : State) (t : Tkt) (bs : List Byte), s.Keeps (body s t bs)) : s.Keeps (s.withBuf t body) := by
  have h := State.readBuf_frame s t
  unfold State.withBuf
  split <;> rename_i heq <;> rw [heq] at h
  · exact .of_frame h
  · exact .of_frame ((State.endTkt_frame ..).trans h)
  · exact (State.Keeps.of_frame h).trans (hb ..)

theorem State.autoRoute_keeps (s : State) : s.Keeps s.autoRoute := by
  refine State.Keeps.foldl (fun _ _ => State.Keeps.foldl (fun u _ => ?_) _ _) _ _
  refine State.Keeps.ite (State.Keeps.ite (.refl _) (State.putRoute_keeps ..)) (.refl _)

theorem State.bootRoute_keeps (s : State) (p : Nat) : s.Keeps (s.bootRoute p) := by
  have h (u : State) (sk dk : Nat) : u.Keeps (if !noRoute (u.routeAt 0 sk dk) then u
      else if u.bestRoute 0 sk dk = 0 then u else u.putRoute 0 sk dk (u.bestRoute 0 sk dk)) :=
    State.Keeps.ite (.refl _) (State.Keeps.ite (.refl _) (State.putRoute_keeps ..))
  exact (h s 240 p).trans (h _ p 240)

theorem State.putRecs_keeps (rs : List (Nat × Nat × BitVec 64)) : ∀ (s t : State) (n i : Nat),
    s.putRecs n i rs = .ok t → s.Keeps t := by
  induction rs with
  | nil => intro s t n i h; cases h; exact .refl _
  | cons r rs ih =>
    intro s t n i h
    rw [State.putRecs] at h
    split at h
    · cases h
    · exact (State.putRoute_keeps ..).trans (ih _ _ _ _ h)

theorem State.workRouteWrite_keeps (s : State) (t : Tkt) : s.Keeps (s.workRouteWrite t) := by
  refine State.withBuf_keeps _ _ _ (fun s t bs => ?_)
  split
  · exact .of_frame (State.endTkt_frame ..)
  · split
    · exact .of_frame (State.endTkt_frame ..)
    · exact (State.putRecs_keeps _ _ _ _ _ (by assumption)).then (State.endTkt_frame ..)

theorem State.workPrepare_keeps (s : State) (t : Tkt) : s.Keeps (s.workPrepare t) := by
  refine State.Keeps.trans ?_ (State.withBuf_keeps _ _ _ (fun s t bs => ?_))
  · exact ⟨id, rfl, rfl⟩
  · split
    · exact .of_frame (State.endTkt_frame ..)
    · extract_lets n
      split
      · exact .of_frame (State.endTkt_frame ..)
      · refine ((State.copyBank_keeps ..).trans (State.putRecs_keeps _ _ _ _ _ (by assumption))).then ?_
        rw [State.endTkt_frame, State.frame_mk, State.frame_eta]

theorem State.workEnumerate_keeps (s : State) (t : Tkt) : s.Keeps (s.workEnumerate t) := by
  unfold State.workEnumerate
  split
  · extract_lets u
    have hu : s.Keeps u := State.Keeps.ite (State.autoRoute_keeps s) (.refl _)
    refine hu.then ?_
    simp only [↓State.toStage_frame, ↓foldl_frame, ↓State.admitStart_frame, implies_true]
  · split
    · exact .refl _
    · extract_lets on held
      refine .of_frame ?_
      rw [State.endTkt_frame, State.frame_mk, State.frame_eta]

/-! ### Plats -/

theorem State.writeStaged_keeps (s : State) (r : PlatRec) : s.Keeps (s.writeStaged r) := by
  unfold State.writeStaged
  exact (State.Keeps.of_frame (State.setFld_frame ..)).trans
    (State.Keeps.foldl (fun _ _ => State.wrMem_keeps ..) _ _)

theorem State.stagePlan_keeps (s : State) (p : Plan) : s.Keeps (s.stagePlan p) := by
  unfold State.stagePlan
  extract_lets names recs t keep plats
  have h : s.Keeps t := State.Keeps.foldl (fun _ _ => State.writeStaged_keeps ..) _ s
  refine h.then ?_
  rw [State.frame_mk, State.frame_eta]

theorem State.workPlatStage_keeps (s : State) (t : Tkt) : s.Keeps (s.workPlatStage t) := by
  refine State.withBuf_keeps _ _ _ (fun s t bs => ?_)
  extract_lets ws
  split
  · exact .of_frame (State.endTkt_frame ..)
  · split
    · split
      rename_i heq
      replace heq := congrArg (fun p => p.1.frame) heq
      rw [State.platFail_frame] at heq
      exact .of_frame ((State.endTkt_frame ..).trans heq.symm)
    · split
      · exact .of_frame (State.endTkt_frame ..)
      · split
        · exact .of_frame (State.endTkt_frame ..)
        · exact (State.stagePlan_keeps ..).then (State.endTkt_frame ..)

theorem State.bankWithout_keeps (s : State) (st n : Nat) (free : List Nat) : s.Keeps (s.bankWithout st n free) := by
  unfold State.bankWithout
  exact (State.Keeps.of_frame (State.setFld_frame ..)).trans
    (State.Keeps.foldl (fun _ _ => State.wrMem_keeps ..) _ _)

/-! ### Failure stakes -/

theorem State.removeChains_keeps (s : State) (d : Nat × Nat) : s.Keeps (s.removeChains d).1 := by
  unfold State.removeChains
  split
  split
  · exact .refl _
  · extract_lets plats swaps ends t
    have h : s.Keeps t := State.Keeps.foldl (fun _ _ => State.bankWithout_keeps ..) _ s
    refine h.then ?_
    rw [State.fst_frame_mk, State.frame_mk, State.frame_eta]

theorem State.failShadows_keeps (s : State) (d : Nat × Nat) (lanes : List Nat) :
    s.Keeps (s.failShadows d lanes).1 := by
  unfold State.failShadows
  extract_lets failed now tx u
  have hu : s.Keeps u := State.Keeps.ite (.of_frame (State.mark_frame ..)) (.refl _)
  have h : s.Keeps (if now ≠ u.linkState d.1 d.2 ∧ now ≠ LinkSt.FULL ∧ 0 < u.resvCount tx (oppPort d.2) then
      u.removeChains d else (u, [])).1 := by
    split
    · exact hu.trans (State.removeChains_keeps ..)
    · exact hu
  split
  rename_i heq
  rw [heq] at h
  exact h

theorem State.closeFailure_keeps (s : State) (fails : List LaneFail) : s.Keeps (s.closeFailure fails) := by
  unfold State.closeFailure
  extract_lets dirs
  split
  rename_i t sh heq
  have h : s.Keeps t := by
    replace heq := congrArg Prod.fst heq
    rw [← show _ = t from heq]
    refine State.Keeps.fst_foldl (fun p d => ?_) _ (s, [])
    extract_lets lanes
    split
    rename_i u l hu
    have h1 := State.failShadows_keeps p.1 d lanes
    rw [hu] at h1
    exact h1
  refine h.then ?_
  rw [State.close7_frame, State.placeAll_frame]

/-! ### Trace store and bulk window -/

theorem State.storeTrace_keeps (s : State) (r : TraceRec) : s.Keeps (s.storeTrace r) := by
  unfold State.storeTrace
  extract_lets a stop k t
  split
  · exact .of_frame (State.traceDrop_frame s)
  · have h : s.Keeps t := (State.wrMem_keeps ..).then (by rw [State.gcnt_frame, State.setFld_frame])
    refine State.Keeps.ite (State.Keeps.ite ?_ ?_) h
    · exact h.then (State.setFld_frame ..)
    · exact h.then (State.setFld_frame ..)

theorem State.bulkWrite_keeps (s : State) (a : Nat) (r : Req) : s.Keeps (s.bulkWrite a r) := by
  unfold State.bulkWrite
  split
  · exact .refl _
  · extract_lets c t
    have h : s.Keeps t := State.Keeps.ite (State.wrMem_keeps ..) (.refl _)
    exact h.then (State.ans_frame ..)

/-! ### The work of slow commands -/

theorem State.work_keeps (s : State) (t : Tkt) (w : SlowEnd) : s.Keeps (s.work t w) := by
  unfold State.work
  refine State.Keeps.ite (.of_frame (State.writeOn_frame ..)) ?_
  split
  all_goals
    first
      | with_reducible exact State.workEnumerate_keeps ..
      | with_reducible exact State.workPrepare_keeps ..
      | with_reducible exact State.workRouteWrite_keeps ..
      | with_reducible exact State.workPlatStage_keeps ..
      | with_reducible exact .of_frame (State.workModeSet_frame ..)
      | with_reducible exact .of_frame (State.workMapLoad_frame ..)
      | with_reducible exact .of_frame (State.workPortEnable_frame ..)
      | with_reducible exact .of_frame (State.workPortDown_frame ..)
      | with_reducible exact .of_frame (State.workSwitch_frame ..)
      | with_reducible exact .of_frame (State.workDrain_frame ..)
      | with_reducible exact .of_frame (State.workFinish_frame ..)
      | with_reducible exact .of_frame (State.workCacheLoad_frame ..)
      | with_reducible exact .of_frame (State.workPlatSwap_frame ..)
      | with_reducible exact .of_frame (State.workPlatRead_frame ..)
      | with_reducible exact .of_frame (State.workChainProbe_frame ..)
      | with_reducible exact .of_frame (State.workStateConfig_frame ..)
      | with_reducible exact .of_frame (State.workDomainUp_frame ..)
      | with_reducible exact .of_frame (State.workSurveyTake_frame ..)
      | with_reducible exact .of_frame (State.workSurveyRead_frame ..)
      | with_reducible exact .of_frame (State.workTraceRead_frame ..)
      | with_reducible exact .of_frame (State.workTest_frame ..)
      | with_reducible exact .of_frame (State.workVacate_frame ..)
      | with_reducible exact .of_frame (State.workReturn_frame ..)
      | with_reducible exact .of_frame (State.workReplan_frame ..)
      | with_reducible exact .of_frame (State.workFwLoad_frame ..)
      | with_reducible exact .of_frame (State.workHandover_frame ..)
      | with_reducible exact .of_frame (State.workJournalRead_frame ..)

/-! ### The meanings that write memory -/

/-- A meaning answers a next state that keeps what `State.Keeps` says. -/
def OutKeeps (s : State) (o : Out) : Prop := ∃ t, o = .next t ∧ s.Keeps t

theorem OutKeeps.next {s t : State} (h : s.Keeps t) : OutKeeps s (.next t) := ⟨t, rfl, h⟩

/-- A meaning whose frame is known. -/
theorem OutKeeps.of_frame {s : State} {o : Out} (h : outFrame o = some s.frame) : OutKeeps s o := by
  cases o with
  | next t => exact ⟨t, rfl, .of_frame (Option.some.inj h)⟩
  | fault r => nomatch h
  | refused r => nomatch h

theorem execPlatPatchApply_keeps (st : Fin 36) (s : State) : OutKeeps s (execPlatPatchApply st s) := by
  unfold execPlatPatchApply
  extract_lets st t
  split
  · exact .next (.refl _)
  · split
    · exact .next (.refl _)
    · have h : s.Keeps t := .of_frame (State.modStn_frame ..)
      exact .next ((h.trans (State.wrMem_keeps ..)).then (State.setFld_frame ..))

theorem execRouteAround_keeps (s : State) : OutKeeps s (execRouteAround s) := by
  unfold execRouteAround
  split
  · exact .next (.refl _)
  · split
    · split
      · exact .next (.refl _)
      · exact .next (State.startAround_keeps s)
    · split
      · split
        · exact .next (.of_frame (by rw [State.close7_frame, State.placeAll_frame]))
        · exact .next (.refl _)
      · exact .next (.of_frame (State.endAround_frame ..))

theorem execBootInit_keeps (b : BootMap) (s : State) : OutKeeps s (execBootInit b s) := by
  unfold execBootInit
  split
  · exact .next (.refl _)
  · extract_lets t u
    have h : s.Keeps t := (State.Keeps.of_frame (State.merReq_frame ..)).trans (State.freeAllPlats_keeps _)
    have hu : t.Keeps u := by
      refine State.Keeps.ite (.of_frame (State.bootFail_frame ..)) ?_
      split
      · exact .of_frame (State.bootFail_frame ..)
      · exact .of_frame (by rw [State.setStage_frame, State.takeBootMap_frame])
    exact .next ((h.trans hu).trans (State.Keeps.ite (.of_frame (State.toMode_frame ..)) (.refl _)))

theorem execBootServing_keeps (s : State) : OutKeeps s (execBootServing s) := by
  unfold execBootServing
  extract_lets pairs t0 f0 t1 u0 u1 u2 u3
  split
  · exact .next (.refl _)
  · split
    · have h : s.Keeps t0 := by
        refine State.Keeps.foldl (fun u e => ?_) _ s
        exact (State.bootRoute_keeps u e.2).then (State.setHostPair_frame _ e.1 e.2)
      have h1 : s.Keeps t1 := h.trans ⟨id, rfl, rfl⟩
      exact .next (h1.then (foldl_frame (fun u e => State.admitStart_frame ..) _ _))
    · split
      · exact .next (.refl _)
      · refine .next (.of_frame ?_)
        simp only [u3, u2, u1, u0, ↓State.noticeAll_frame, ↓foldl_frame, ↓State.trigger_frame, ↓State.beat_frame,
          ↓State.setFld_frame, ↓State.setStage_frame, ↓State.enablePairs_frame, implies_true]

theorem execStationBistEnd_keeps (st : Fin 36) (f : Fin 7) (s : State) : OutKeeps s (execStationBistEnd st f s) := by
  unfold execStationBistEnd
  extract_lets st
  split
  · exact .next (.refl _)
  · rename_i _ _ t u _ _ _
    extract_lets v
    have h : s.Keeps t := (State.freeStation_keeps s st).then (State.modStn_frame ..)
    refine .next (h.then ?_)
    simp only [v, u, ↓State.tktResult_frame, ↓State.setTests_frame, ↓State.setFld_frame]

theorem execFailureStakeClose_keeps (s : State) : OutKeeps s (execFailureStakeClose s) := by
  unfold execFailureStakeClose
  split
  · exact .next (.refl _)
  · split
    · split
      · exact .next (.refl _)
      · exact .next (.of_frame (by rw [State.open7_frame, State.frame_mk, State.frame_eta]))
    · extract_lets st
      split
      · exact .next (State.Keeps.ite (State.closeFailure_keeps ..) (.refl _))
      · split
        · exact .next (.of_frame (State.abortSet_frame ..))
        · exact .next (.refl _)

theorem execTraceForward_keeps (i : Fin 36) (s : State) : OutKeeps s (execTraceForward i s) := by
  unfold execTraceForward
  extract_lets x ok
  split
  · exact .next (.refl _)
  · split
    · exact .next ((State.Keeps.of_frame (State.setStn_frame ..)).trans (State.storeTrace_keeps ..))
    · exact .next (.refl _)

theorem execSlowCommandCompletion_keeps (t : Fin 256) (w : SlowEnd) (s : State) :
    OutKeeps s (execSlowCommandCompletion t w s) := by
  unfold execSlowCommandCompletion
  split
  · exact .next (.refl _)
  · split
    · exact .next (.refl _)
    · split
      · exact .next (.of_frame (by rw [State.beat_frame, State.endTkt_frame]))
      · exact .next ((State.work_keeps ..).then (State.beat_frame _))

theorem execBulkTableWrite_keeps (off : Fin 33554432) (r : Req) (s : State) :
    OutKeeps s (execBulkTableWrite off r s) :=
  .next (State.Keeps.ite (.refl _) (State.bulkWrite_keeps ..))

theorem execRegisterWrite_keeps (off : Fin 33554432) (sz : Fin 9) (r : Req) (s : State) :
    OutKeeps s (execRegisterWrite off sz r s) := by
  refine .next (State.Keeps.ite (.refl _) (State.Keeps.ite (.of_frame (State.ans_frame ..)) (State.Keeps.ite
    (State.bulkWrite_keeps ..) (State.Keeps.ite (.of_frame (State.lockAccess_frame ..)) (State.Keeps.ite
      (.of_frame (State.mbxAccess_frame _ _ (fun _ => State.serve_frame _ _ _ _ (State.regAct_frame ..))))
      (.of_frame (State.serve_frame _ _ _ _ (State.regAct_frame ..))))))))

/-! ### Resets -/

/-- A reset leaves an empty memory and the commands waiting. -/
def State.Restarts (s t : State) : Prop := t.mem = [] ∧ t.pending = s.pending

theorem State.Restarts.wf {s t : State} (h : s.Restarts t) : Memory.wf t.mem = true := by rw [h.1]; rfl

theorem State.Restarts.of_frame {s t u : State} (h : s.Restarts t) (k : u.frame = t.frame) : s.Restarts u := by
  injection k with h1 h2
  injection h2 with h2 h3
  exact ⟨h1.trans h.1, h2.trans h.2⟩

theorem State.restart_restarts (s : State) (kind : Nat) : s.Restarts (s.restart kind) := by
  unfold State.restart
  extract_lets lc t0 t1 t2 t3 b t4 t5 t6 t7 t8
  have h1 : s.Restarts t1 := ⟨rfl, rfl⟩
  have h2 : s.Restarts t2 := h1.of_frame (by simp only [t2, ↓State.wr_frame])
  have h3 : s.Restarts t3 := h2.of_frame (by simp only [t3, ↓State.frame_ite, ↓State.wr_frame, ite_self])
  have h4 : s.Restarts t4 := h3.of_frame (by simp only [t4, ↓State.setFld_frame])
  have h5 : s.Restarts t5 := h4.of_frame (State.setFld_frame ..)
  have h6 : s.Restarts t6 := h5.of_frame (State.keepHard_frame ..)
  have h7 : s.Restarts t7 := h6.of_frame (State.unalign_frame ..)
  exact h7.of_frame ((State.frame_mk ..).trans (State.frame_eta _))

/-- A warm or soft reset either waits, in which case everything here is kept, or restarts the block. -/
theorem State.warm_cases (s : State) (kind : Nat) : (s.warm kind).frame = s.frame ∨ s.Restarts (s.warm kind) := by
  unfold State.warm
  split
  · exact .inl rfl
  · split
    · exact .inl ((State.frame_mk ..).trans (State.frame_eta _))
    · exact .inr (State.restart_restarts ..)

end Sys2Proof.Machine
end

