-- ==== Sys2Proof/Laws/State.lean ====
section
/-!
SUPPORT. Laws/State.lean: one lemma per field of the state and update of it; what a register, a field of it and a block's
structure read after they are written.
-/
namespace Sys2Proof.Machine

/-! What `State.wr` leaves alone. -/

@[simp] theorem State.wr_datum (s : State) (a : Nat) (v : Word) : (s.wr a v).datum = s.datum := rfl
@[simp] theorem State.wr_skew (s : State) (a : Nat) (v : Word) : (s.wr a v).skew = s.skew := rfl
@[simp] theorem State.wr_shadow (s : State) (a : Nat) (v : Word) : (s.wr a v).shadow = s.shadow := rfl
@[simp] theorem State.wr_mem (s : State) (a : Nat) (v : Word) : (s.wr a v).mem = s.mem := rfl
@[simp] theorem State.wr_stns (s : State) (a : Nat) (v : Word) : (s.wr a v).stns = s.stns := rfl
@[simp] theorem State.wr_nis (s : State) (a : Nat) (v : Word) : (s.wr a v).nis = s.nis := rfl
@[simp] theorem State.wr_feds (s : State) (a : Nat) (v : Word) : (s.wr a v).feds = s.feds := rfl
@[simp] theorem State.wr_agents (s : State) (a : Nat) (v : Word) : (s.wr a v).agents = s.agents := rfl
@[simp] theorem State.wr_chains (s : State) (a : Nat) (v : Word) : (s.wr a v).chains = s.chains := rfl
@[simp] theorem State.wr_glb (s : State) (a : Nat) (v : Word) : (s.wr a v).glb = s.glb := rfl
@[simp] theorem State.wr_stk (s : State) (a : Nat) (v : Word) : (s.wr a v).stk = s.stk := rfl
@[simp] theorem State.wr_mbx (s : State) (a : Nat) (v : Word) : (s.wr a v).mbx = s.mbx := rfl
@[simp] theorem State.wr_fmp (s : State) (a : Nat) (v : Word) : (s.wr a v).fmp = s.fmp := rfl
@[simp] theorem State.wr_thm (s : State) (a : Nat) (v : Word) : (s.wr a v).thm = s.thm := rfl
@[simp] theorem State.wr_host (s : State) (a : Nat) (v : Word) : (s.wr a v).host = s.host := rfl
@[simp] theorem State.wr_freeCtr (s : State) (a : Nat) (v : Word) : (s.wr a v).freeCtr = s.freeCtr := rfl
@[simp] theorem State.wr_was (s : State) (a : Nat) (v : Word) : (s.wr a v).was = s.was := rfl
@[simp] theorem State.wr_late (s : State) (a : Nat) (v : Word) : (s.wr a v).late = s.late := rfl
@[simp] theorem State.wr_direct (s : State) (a : Nat) (v : Word) : (s.wr a v).direct = s.direct := rfl
@[simp] theorem State.wr_pending (s : State) (a : Nat) (v : Word) : (s.wr a v).pending = s.pending := rfl

/-! What `State.wrServed` leaves alone. -/

@[simp] theorem State.wrServed_datum (s : State) (a : Nat) (v x : Word) : (s.wrServed a v x).datum = s.datum := rfl
@[simp] theorem State.wrServed_skew (s : State) (a : Nat) (v x : Word) : (s.wrServed a v x).skew = s.skew := rfl
@[simp] theorem State.wrServed_shadow (s : State) (a : Nat) (v x : Word) : (s.wrServed a v x).shadow = s.shadow := rfl
@[simp] theorem State.wrServed_mem (s : State) (a : Nat) (v x : Word) : (s.wrServed a v x).mem = s.mem := rfl
@[simp] theorem State.wrServed_stns (s : State) (a : Nat) (v x : Word) : (s.wrServed a v x).stns = s.stns := rfl
@[simp] theorem State.wrServed_nis (s : State) (a : Nat) (v x : Word) : (s.wrServed a v x).nis = s.nis := rfl
@[simp] theorem State.wrServed_feds (s : State) (a : Nat) (v x : Word) : (s.wrServed a v x).feds = s.feds := rfl
@[simp] theorem State.wrServed_agents (s : State) (a : Nat) (v x : Word) : (s.wrServed a v x).agents = s.agents := rfl
@[simp] theorem State.wrServed_chains (s : State) (a : Nat) (v x : Word) : (s.wrServed a v x).chains = s.chains := rfl
@[simp] theorem State.wrServed_glb (s : State) (a : Nat) (v x : Word) : (s.wrServed a v x).glb = s.glb := rfl
@[simp] theorem State.wrServed_stk (s : State) (a : Nat) (v x : Word) : (s.wrServed a v x).stk = s.stk := rfl
@[simp] theorem State.wrServed_mbx (s : State) (a : Nat) (v x : Word) : (s.wrServed a v x).mbx = s.mbx := rfl
@[simp] theorem State.wrServed_fmp (s : State) (a : Nat) (v x : Word) : (s.wrServed a v x).fmp = s.fmp := rfl
@[simp] theorem State.wrServed_thm (s : State) (a : Nat) (v x : Word) : (s.wrServed a v x).thm = s.thm := rfl
@[simp] theorem State.wrServed_host (s : State) (a : Nat) (v x : Word) : (s.wrServed a v x).host = s.host := rfl
@[simp] theorem State.wrServed_freeCtr (s : State) (a : Nat) (v x : Word) : (s.wrServed a v x).freeCtr = s.freeCtr := rfl
@[simp] theorem State.wrServed_was (s : State) (a : Nat) (v x : Word) : (s.wrServed a v x).was = s.was := rfl
@[simp] theorem State.wrServed_late (s : State) (a : Nat) (v x : Word) : (s.wrServed a v x).late = s.late := rfl
@[simp] theorem State.wrServed_direct (s : State) (a : Nat) (v x : Word) : (s.wrServed a v x).direct = s.direct := rfl
@[simp] theorem State.wrServed_pending (s : State) (a : Nat) (v x : Word) : (s.wrServed a v x).pending = s.pending := rfl

/-! What `State.setFld` leaves alone. -/

@[simp] theorem State.setFld_datum (s : State) (a : Nat) (f : Fld) (v : Nat) : (s.setFld a f v).datum = s.datum := rfl
@[simp] theorem State.setFld_skew (s : State) (a : Nat) (f : Fld) (v : Nat) : (s.setFld a f v).skew = s.skew := rfl
@[simp] theorem State.setFld_shadow (s : State) (a : Nat) (f : Fld) (v : Nat) : (s.setFld a f v).shadow = s.shadow := rfl
@[simp] theorem State.setFld_mem (s : State) (a : Nat) (f : Fld) (v : Nat) : (s.setFld a f v).mem = s.mem := rfl
@[simp] theorem State.setFld_stns (s : State) (a : Nat) (f : Fld) (v : Nat) : (s.setFld a f v).stns = s.stns := rfl
@[simp] theorem State.setFld_nis (s : State) (a : Nat) (f : Fld) (v : Nat) : (s.setFld a f v).nis = s.nis := rfl
@[simp] theorem State.setFld_feds (s : State) (a : Nat) (f : Fld) (v : Nat) : (s.setFld a f v).feds = s.feds := rfl
@[simp] theorem State.setFld_agents (s : State) (a : Nat) (f : Fld) (v : Nat) : (s.setFld a f v).agents = s.agents := rfl
@[simp] theorem State.setFld_chains (s : State) (a : Nat) (f : Fld) (v : Nat) : (s.setFld a f v).chains = s.chains := rfl
@[simp] theorem State.setFld_glb (s : State) (a : Nat) (f : Fld) (v : Nat) : (s.setFld a f v).glb = s.glb := rfl
@[simp] theorem State.setFld_stk (s : State) (a : Nat) (f : Fld) (v : Nat) : (s.setFld a f v).stk = s.stk := rfl
@[simp] theorem State.setFld_mbx (s : State) (a : Nat) (f : Fld) (v : Nat) : (s.setFld a f v).mbx = s.mbx := rfl
@[simp] theorem State.setFld_fmp (s : State) (a : Nat) (f : Fld) (v : Nat) : (s.setFld a f v).fmp = s.fmp := rfl
@[simp] theorem State.setFld_thm (s : State) (a : Nat) (f : Fld) (v : Nat) : (s.setFld a f v).thm = s.thm := rfl
@[simp] theorem State.setFld_host (s : State) (a : Nat) (f : Fld) (v : Nat) : (s.setFld a f v).host = s.host := rfl
@[simp] theorem State.setFld_freeCtr (s : State) (a : Nat) (f : Fld) (v : Nat) : (s.setFld a f v).freeCtr = s.freeCtr := rfl
@[simp] theorem State.setFld_was (s : State) (a : Nat) (f : Fld) (v : Nat) : (s.setFld a f v).was = s.was := rfl
@[simp] theorem State.setFld_late (s : State) (a : Nat) (f : Fld) (v : Nat) : (s.setFld a f v).late = s.late := rfl
@[simp] theorem State.setFld_direct (s : State) (a : Nat) (f : Fld) (v : Nat) : (s.setFld a f v).direct = s.direct := rfl
@[simp] theorem State.setFld_pending (s : State) (a : Nat) (f : Fld) (v : Nat) : (s.setFld a f v).pending = s.pending := rfl

/-! What `State.sat` leaves alone. -/

@[simp] theorem State.sat_datum (s : State) (a : Nat) (f : Fld) (n : Nat) : (s.sat a f n).datum = s.datum := rfl
@[simp] theorem State.sat_skew (s : State) (a : Nat) (f : Fld) (n : Nat) : (s.sat a f n).skew = s.skew := rfl
@[simp] theorem State.sat_shadow (s : State) (a : Nat) (f : Fld) (n : Nat) : (s.sat a f n).shadow = s.shadow := rfl
@[simp] theorem State.sat_mem (s : State) (a : Nat) (f : Fld) (n : Nat) : (s.sat a f n).mem = s.mem := rfl
@[simp] theorem State.sat_stns (s : State) (a : Nat) (f : Fld) (n : Nat) : (s.sat a f n).stns = s.stns := rfl
@[simp] theorem State.sat_nis (s : State) (a : Nat) (f : Fld) (n : Nat) : (s.sat a f n).nis = s.nis := rfl
@[simp] theorem State.sat_feds (s : State) (a : Nat) (f : Fld) (n : Nat) : (s.sat a f n).feds = s.feds := rfl
@[simp] theorem State.sat_agents (s : State) (a : Nat) (f : Fld) (n : Nat) : (s.sat a f n).agents = s.agents := rfl
@[simp] theorem State.sat_chains (s : State) (a : Nat) (f : Fld) (n : Nat) : (s.sat a f n).chains = s.chains := rfl
@[simp] theorem State.sat_glb (s : State) (a : Nat) (f : Fld) (n : Nat) : (s.sat a f n).glb = s.glb := rfl
@[simp] theorem State.sat_stk (s : State) (a : Nat) (f : Fld) (n : Nat) : (s.sat a f n).stk = s.stk := rfl
@[simp] theorem State.sat_mbx (s : State) (a : Nat) (f : Fld) (n : Nat) : (s.sat a f n).mbx = s.mbx := rfl
@[simp] theorem State.sat_fmp (s : State) (a : Nat) (f : Fld) (n : Nat) : (s.sat a f n).fmp = s.fmp := rfl
@[simp] theorem State.sat_thm (s : State) (a : Nat) (f : Fld) (n : Nat) : (s.sat a f n).thm = s.thm := rfl
@[simp] theorem State.sat_host (s : State) (a : Nat) (f : Fld) (n : Nat) : (s.sat a f n).host = s.host := rfl
@[simp] theorem State.sat_freeCtr (s : State) (a : Nat) (f : Fld) (n : Nat) : (s.sat a f n).freeCtr = s.freeCtr := rfl
@[simp] theorem State.sat_was (s : State) (a : Nat) (f : Fld) (n : Nat) : (s.sat a f n).was = s.was := rfl
@[simp] theorem State.sat_late (s : State) (a : Nat) (f : Fld) (n : Nat) : (s.sat a f n).late = s.late := rfl
@[simp] theorem State.sat_direct (s : State) (a : Nat) (f : Fld) (n : Nat) : (s.sat a f n).direct = s.direct := rfl
@[simp] theorem State.sat_pending (s : State) (a : Nat) (f : Fld) (n : Nat) : (s.sat a f n).pending = s.pending := rfl

/-! What `State.wrap` leaves alone. -/

@[simp] theorem State.wrap_datum (s : State) (a : Nat) (f : Fld) (n : Nat) : (s.wrap a f n).datum = s.datum := rfl
@[simp] theorem State.wrap_skew (s : State) (a : Nat) (f : Fld) (n : Nat) : (s.wrap a f n).skew = s.skew := rfl
@[simp] theorem State.wrap_shadow (s : State) (a : Nat) (f : Fld) (n : Nat) : (s.wrap a f n).shadow = s.shadow := rfl
@[simp] theorem State.wrap_mem (s : State) (a : Nat) (f : Fld) (n : Nat) : (s.wrap a f n).mem = s.mem := rfl
@[simp] theorem State.wrap_stns (s : State) (a : Nat) (f : Fld) (n : Nat) : (s.wrap a f n).stns = s.stns := rfl
@[simp] theorem State.wrap_nis (s : State) (a : Nat) (f : Fld) (n : Nat) : (s.wrap a f n).nis = s.nis := rfl
@[simp] theorem State.wrap_feds (s : State) (a : Nat) (f : Fld) (n : Nat) : (s.wrap a f n).feds = s.feds := rfl
@[simp] theorem State.wrap_agents (s : State) (a : Nat) (f : Fld) (n : Nat) : (s.wrap a f n).agents = s.agents := rfl
@[simp] theorem State.wrap_chains (s : State) (a : Nat) (f : Fld) (n : Nat) : (s.wrap a f n).chains = s.chains := rfl
@[simp] theorem State.wrap_glb (s : State) (a : Nat) (f : Fld) (n : Nat) : (s.wrap a f n).glb = s.glb := rfl
@[simp] theorem State.wrap_stk (s : State) (a : Nat) (f : Fld) (n : Nat) : (s.wrap a f n).stk = s.stk := rfl
@[simp] theorem State.wrap_mbx (s : State) (a : Nat) (f : Fld) (n : Nat) : (s.wrap a f n).mbx = s.mbx := rfl
@[simp] theorem State.wrap_fmp (s : State) (a : Nat) (f : Fld) (n : Nat) : (s.wrap a f n).fmp = s.fmp := rfl
@[simp] theorem State.wrap_thm (s : State) (a : Nat) (f : Fld) (n : Nat) : (s.wrap a f n).thm = s.thm := rfl
@[simp] theorem State.wrap_host (s : State) (a : Nat) (f : Fld) (n : Nat) : (s.wrap a f n).host = s.host := rfl
@[simp] theorem State.wrap_freeCtr (s : State) (a : Nat) (f : Fld) (n : Nat) : (s.wrap a f n).freeCtr = s.freeCtr := rfl
@[simp] theorem State.wrap_was (s : State) (a : Nat) (f : Fld) (n : Nat) : (s.wrap a f n).was = s.was := rfl
@[simp] theorem State.wrap_late (s : State) (a : Nat) (f : Fld) (n : Nat) : (s.wrap a f n).late = s.late := rfl
@[simp] theorem State.wrap_direct (s : State) (a : Nat) (f : Fld) (n : Nat) : (s.wrap a f n).direct = s.direct := rfl
@[simp] theorem State.wrap_pending (s : State) (a : Nat) (f : Fld) (n : Nat) : (s.wrap a f n).pending = s.pending := rfl

/-! What `State.down` leaves alone. -/

@[simp] theorem State.down_datum (s : State) (a : Nat) (f : Fld) (n : Nat) : (s.down a f n).datum = s.datum := rfl
@[simp] theorem State.down_skew (s : State) (a : Nat) (f : Fld) (n : Nat) : (s.down a f n).skew = s.skew := rfl
@[simp] theorem State.down_shadow (s : State) (a : Nat) (f : Fld) (n : Nat) : (s.down a f n).shadow = s.shadow := rfl
@[simp] theorem State.down_mem (s : State) (a : Nat) (f : Fld) (n : Nat) : (s.down a f n).mem = s.mem := rfl
@[simp] theorem State.down_stns (s : State) (a : Nat) (f : Fld) (n : Nat) : (s.down a f n).stns = s.stns := rfl
@[simp] theorem State.down_nis (s : State) (a : Nat) (f : Fld) (n : Nat) : (s.down a f n).nis = s.nis := rfl
@[simp] theorem State.down_feds (s : State) (a : Nat) (f : Fld) (n : Nat) : (s.down a f n).feds = s.feds := rfl
@[simp] theorem State.down_agents (s : State) (a : Nat) (f : Fld) (n : Nat) : (s.down a f n).agents = s.agents := rfl
@[simp] theorem State.down_chains (s : State) (a : Nat) (f : Fld) (n : Nat) : (s.down a f n).chains = s.chains := rfl
@[simp] theorem State.down_glb (s : State) (a : Nat) (f : Fld) (n : Nat) : (s.down a f n).glb = s.glb := rfl
@[simp] theorem State.down_stk (s : State) (a : Nat) (f : Fld) (n : Nat) : (s.down a f n).stk = s.stk := rfl
@[simp] theorem State.down_mbx (s : State) (a : Nat) (f : Fld) (n : Nat) : (s.down a f n).mbx = s.mbx := rfl
@[simp] theorem State.down_fmp (s : State) (a : Nat) (f : Fld) (n : Nat) : (s.down a f n).fmp = s.fmp := rfl
@[simp] theorem State.down_thm (s : State) (a : Nat) (f : Fld) (n : Nat) : (s.down a f n).thm = s.thm := rfl
@[simp] theorem State.down_host (s : State) (a : Nat) (f : Fld) (n : Nat) : (s.down a f n).host = s.host := rfl
@[simp] theorem State.down_freeCtr (s : State) (a : Nat) (f : Fld) (n : Nat) : (s.down a f n).freeCtr = s.freeCtr := rfl
@[simp] theorem State.down_was (s : State) (a : Nat) (f : Fld) (n : Nat) : (s.down a f n).was = s.was := rfl
@[simp] theorem State.down_late (s : State) (a : Nat) (f : Fld) (n : Nat) : (s.down a f n).late = s.late := rfl
@[simp] theorem State.down_direct (s : State) (a : Nat) (f : Fld) (n : Nat) : (s.down a f n).direct = s.direct := rfl
@[simp] theorem State.down_pending (s : State) (a : Nat) (f : Fld) (n : Nat) : (s.down a f n).pending = s.pending := rfl

/-! What `State.wrLate` leaves alone. -/

@[simp] theorem State.wrLate_datum (s : State) (a : Nat) (v : Word) : (s.wrLate a v).datum = s.datum := rfl
@[simp] theorem State.wrLate_skew (s : State) (a : Nat) (v : Word) : (s.wrLate a v).skew = s.skew := rfl
@[simp] theorem State.wrLate_regs (s : State) (a : Nat) (v : Word) : (s.wrLate a v).regs = s.regs := rfl
@[simp] theorem State.wrLate_shadow (s : State) (a : Nat) (v : Word) : (s.wrLate a v).shadow = s.shadow := rfl
@[simp] theorem State.wrLate_mem (s : State) (a : Nat) (v : Word) : (s.wrLate a v).mem = s.mem := rfl
@[simp] theorem State.wrLate_stns (s : State) (a : Nat) (v : Word) : (s.wrLate a v).stns = s.stns := rfl
@[simp] theorem State.wrLate_nis (s : State) (a : Nat) (v : Word) : (s.wrLate a v).nis = s.nis := rfl
@[simp] theorem State.wrLate_feds (s : State) (a : Nat) (v : Word) : (s.wrLate a v).feds = s.feds := rfl
@[simp] theorem State.wrLate_agents (s : State) (a : Nat) (v : Word) : (s.wrLate a v).agents = s.agents := rfl
@[simp] theorem State.wrLate_chains (s : State) (a : Nat) (v : Word) : (s.wrLate a v).chains = s.chains := rfl
@[simp] theorem State.wrLate_glb (s : State) (a : Nat) (v : Word) : (s.wrLate a v).glb = s.glb := rfl
@[simp] theorem State.wrLate_stk (s : State) (a : Nat) (v : Word) : (s.wrLate a v).stk = s.stk := rfl
@[simp] theorem State.wrLate_mbx (s : State) (a : Nat) (v : Word) : (s.wrLate a v).mbx = s.mbx := rfl
@[simp] theorem State.wrLate_fmp (s : State) (a : Nat) (v : Word) : (s.wrLate a v).fmp = s.fmp := rfl
@[simp] theorem State.wrLate_thm (s : State) (a : Nat) (v : Word) : (s.wrLate a v).thm = s.thm := rfl
@[simp] theorem State.wrLate_host (s : State) (a : Nat) (v : Word) : (s.wrLate a v).host = s.host := rfl
@[simp] theorem State.wrLate_freeCtr (s : State) (a : Nat) (v : Word) : (s.wrLate a v).freeCtr = s.freeCtr := rfl
@[simp] theorem State.wrLate_was (s : State) (a : Nat) (v : Word) : (s.wrLate a v).was = s.was := rfl
@[simp] theorem State.wrLate_stood (s : State) (a : Nat) (v : Word) : (s.wrLate a v).stood = s.stood := rfl
@[simp] theorem State.wrLate_direct (s : State) (a : Nat) (v : Word) : (s.wrLate a v).direct = s.direct := rfl
@[simp] theorem State.wrLate_pending (s : State) (a : Nat) (v : Word) : (s.wrLate a v).pending = s.pending := rfl

/-! What `State.cycleStart` leaves alone. -/

@[simp] theorem State.cycleStart_datum (s : State) : s.cycleStart.datum = s.datum := rfl
@[simp] theorem State.cycleStart_skew (s : State) : s.cycleStart.skew = s.skew := rfl
@[simp] theorem State.cycleStart_regs (s : State) : s.cycleStart.regs = s.regs := rfl
@[simp] theorem State.cycleStart_shadow (s : State) : s.cycleStart.shadow = s.shadow := rfl
@[simp] theorem State.cycleStart_mem (s : State) : s.cycleStart.mem = s.mem := rfl
@[simp] theorem State.cycleStart_stns (s : State) : s.cycleStart.stns = s.stns := rfl
@[simp] theorem State.cycleStart_nis (s : State) : s.cycleStart.nis = s.nis := rfl
@[simp] theorem State.cycleStart_feds (s : State) : s.cycleStart.feds = s.feds := rfl
@[simp] theorem State.cycleStart_agents (s : State) : s.cycleStart.agents = s.agents := rfl
@[simp] theorem State.cycleStart_chains (s : State) : s.cycleStart.chains = s.chains := rfl
@[simp] theorem State.cycleStart_glb (s : State) : s.cycleStart.glb = s.glb := rfl
@[simp] theorem State.cycleStart_stk (s : State) : s.cycleStart.stk = s.stk := rfl
@[simp] theorem State.cycleStart_mbx (s : State) : s.cycleStart.mbx = s.mbx := rfl
@[simp] theorem State.cycleStart_fmp (s : State) : s.cycleStart.fmp = s.fmp := rfl
@[simp] theorem State.cycleStart_thm (s : State) : s.cycleStart.thm = s.thm := rfl
@[simp] theorem State.cycleStart_host (s : State) : s.cycleStart.host = s.host := rfl
@[simp] theorem State.cycleStart_freeCtr (s : State) : s.cycleStart.freeCtr = s.freeCtr := rfl
@[simp] theorem State.cycleStart_was (s : State) : s.cycleStart.was = s.was := rfl
@[simp] theorem State.cycleStart_late (s : State) : s.cycleStart.late = s.late := rfl
@[simp] theorem State.cycleStart_direct (s : State) : s.cycleStart.direct = s.direct := rfl
@[simp] theorem State.cycleStart_pending (s : State) : s.cycleStart.pending = s.pending := rfl

/-! What `State.setStn` leaves alone. -/

@[simp] theorem State.setStn_datum (s : State) (i : Nat) (x : StnSt) : (s.setStn i x).datum = s.datum := rfl
@[simp] theorem State.setStn_skew (s : State) (i : Nat) (x : StnSt) : (s.setStn i x).skew = s.skew := rfl
@[simp] theorem State.setStn_regs (s : State) (i : Nat) (x : StnSt) : (s.setStn i x).regs = s.regs := rfl
@[simp] theorem State.setStn_shadow (s : State) (i : Nat) (x : StnSt) : (s.setStn i x).shadow = s.shadow := rfl
@[simp] theorem State.setStn_mem (s : State) (i : Nat) (x : StnSt) : (s.setStn i x).mem = s.mem := rfl
@[simp] theorem State.setStn_nis (s : State) (i : Nat) (x : StnSt) : (s.setStn i x).nis = s.nis := rfl
@[simp] theorem State.setStn_feds (s : State) (i : Nat) (x : StnSt) : (s.setStn i x).feds = s.feds := rfl
@[simp] theorem State.setStn_agents (s : State) (i : Nat) (x : StnSt) : (s.setStn i x).agents = s.agents := rfl
@[simp] theorem State.setStn_chains (s : State) (i : Nat) (x : StnSt) : (s.setStn i x).chains = s.chains := rfl
@[simp] theorem State.setStn_glb (s : State) (i : Nat) (x : StnSt) : (s.setStn i x).glb = s.glb := rfl
@[simp] theorem State.setStn_stk (s : State) (i : Nat) (x : StnSt) : (s.setStn i x).stk = s.stk := rfl
@[simp] theorem State.setStn_mbx (s : State) (i : Nat) (x : StnSt) : (s.setStn i x).mbx = s.mbx := rfl
@[simp] theorem State.setStn_fmp (s : State) (i : Nat) (x : StnSt) : (s.setStn i x).fmp = s.fmp := rfl
@[simp] theorem State.setStn_thm (s : State) (i : Nat) (x : StnSt) : (s.setStn i x).thm = s.thm := rfl
@[simp] theorem State.setStn_host (s : State) (i : Nat) (x : StnSt) : (s.setStn i x).host = s.host := rfl
@[simp] theorem State.setStn_freeCtr (s : State) (i : Nat) (x : StnSt) : (s.setStn i x).freeCtr = s.freeCtr := rfl
@[simp] theorem State.setStn_was (s : State) (i : Nat) (x : StnSt) : (s.setStn i x).was = s.was := rfl
@[simp] theorem State.setStn_late (s : State) (i : Nat) (x : StnSt) : (s.setStn i x).late = s.late := rfl
@[simp] theorem State.setStn_stood (s : State) (i : Nat) (x : StnSt) : (s.setStn i x).stood = s.stood := rfl
@[simp] theorem State.setStn_direct (s : State) (i : Nat) (x : StnSt) : (s.setStn i x).direct = s.direct := rfl
@[simp] theorem State.setStn_pending (s : State) (i : Nat) (x : StnSt) : (s.setStn i x).pending = s.pending := rfl

/-! What `State.modStn` leaves alone. -/

@[simp] theorem State.modStn_datum (s : State) (i : Nat) (f : StnSt → StnSt) : (s.modStn i f).datum = s.datum := rfl
@[simp] theorem State.modStn_skew (s : State) (i : Nat) (f : StnSt → StnSt) : (s.modStn i f).skew = s.skew := rfl
@[simp] theorem State.modStn_regs (s : State) (i : Nat) (f : StnSt → StnSt) : (s.modStn i f).regs = s.regs := rfl
@[simp] theorem State.modStn_shadow (s : State) (i : Nat) (f : StnSt → StnSt) : (s.modStn i f).shadow = s.shadow := rfl
@[simp] theorem State.modStn_mem (s : State) (i : Nat) (f : StnSt → StnSt) : (s.modStn i f).mem = s.mem := rfl
@[simp] theorem State.modStn_nis (s : State) (i : Nat) (f : StnSt → StnSt) : (s.modStn i f).nis = s.nis := rfl
@[simp] theorem State.modStn_feds (s : State) (i : Nat) (f : StnSt → StnSt) : (s.modStn i f).feds = s.feds := rfl
@[simp] theorem State.modStn_agents (s : State) (i : Nat) (f : StnSt → StnSt) : (s.modStn i f).agents = s.agents := rfl
@[simp] theorem State.modStn_chains (s : State) (i : Nat) (f : StnSt → StnSt) : (s.modStn i f).chains = s.chains := rfl
@[simp] theorem State.modStn_glb (s : State) (i : Nat) (f : StnSt → StnSt) : (s.modStn i f).glb = s.glb := rfl
@[simp] theorem State.modStn_stk (s : State) (i : Nat) (f : StnSt → StnSt) : (s.modStn i f).stk = s.stk := rfl
@[simp] theorem State.modStn_mbx (s : State) (i : Nat) (f : StnSt → StnSt) : (s.modStn i f).mbx = s.mbx := rfl
@[simp] theorem State.modStn_fmp (s : State) (i : Nat) (f : StnSt → StnSt) : (s.modStn i f).fmp = s.fmp := rfl
@[simp] theorem State.modStn_thm (s : State) (i : Nat) (f : StnSt → StnSt) : (s.modStn i f).thm = s.thm := rfl
@[simp] theorem State.modStn_host (s : State) (i : Nat) (f : StnSt → StnSt) : (s.modStn i f).host = s.host := rfl
@[simp] theorem State.modStn_freeCtr (s : State) (i : Nat) (f : StnSt → StnSt) : (s.modStn i f).freeCtr = s.freeCtr := rfl
@[simp] theorem State.modStn_was (s : State) (i : Nat) (f : StnSt → StnSt) : (s.modStn i f).was = s.was := rfl
@[simp] theorem State.modStn_late (s : State) (i : Nat) (f : StnSt → StnSt) : (s.modStn i f).late = s.late := rfl
@[simp] theorem State.modStn_stood (s : State) (i : Nat) (f : StnSt → StnSt) : (s.modStn i f).stood = s.stood := rfl
@[simp] theorem State.modStn_direct (s : State) (i : Nat) (f : StnSt → StnSt) : (s.modStn i f).direct = s.direct := rfl
@[simp] theorem State.modStn_pending (s : State) (i : Nat) (f : StnSt → StnSt) : (s.modStn i f).pending = s.pending := rfl

/-! What `State.setNi` leaves alone. -/

@[simp] theorem State.setNi_datum (s : State) (i : Nat) (x : NiSt) : (s.setNi i x).datum = s.datum := rfl
@[simp] theorem State.setNi_skew (s : State) (i : Nat) (x : NiSt) : (s.setNi i x).skew = s.skew := rfl
@[simp] theorem State.setNi_regs (s : State) (i : Nat) (x : NiSt) : (s.setNi i x).regs = s.regs := rfl
@[simp] theorem State.setNi_shadow (s : State) (i : Nat) (x : NiSt) : (s.setNi i x).shadow = s.shadow := rfl
@[simp] theorem State.setNi_mem (s : State) (i : Nat) (x : NiSt) : (s.setNi i x).mem = s.mem := rfl
@[simp] theorem State.setNi_stns (s : State) (i : Nat) (x : NiSt) : (s.setNi i x).stns = s.stns := rfl
@[simp] theorem State.setNi_feds (s : State) (i : Nat) (x : NiSt) : (s.setNi i x).feds = s.feds := rfl
@[simp] theorem State.setNi_agents (s : State) (i : Nat) (x : NiSt) : (s.setNi i x).agents = s.agents := rfl
@[simp] theorem State.setNi_chains (s : State) (i : Nat) (x : NiSt) : (s.setNi i x).chains = s.chains := rfl
@[simp] theorem State.setNi_glb (s : State) (i : Nat) (x : NiSt) : (s.setNi i x).glb = s.glb := rfl
@[simp] theorem State.setNi_stk (s : State) (i : Nat) (x : NiSt) : (s.setNi i x).stk = s.stk := rfl
@[simp] theorem State.setNi_mbx (s : State) (i : Nat) (x : NiSt) : (s.setNi i x).mbx = s.mbx := rfl
@[simp] theorem State.setNi_fmp (s : State) (i : Nat) (x : NiSt) : (s.setNi i x).fmp = s.fmp := rfl
@[simp] theorem State.setNi_thm (s : State) (i : Nat) (x : NiSt) : (s.setNi i x).thm = s.thm := rfl
@[simp] theorem State.setNi_host (s : State) (i : Nat) (x : NiSt) : (s.setNi i x).host = s.host := rfl
@[simp] theorem State.setNi_freeCtr (s : State) (i : Nat) (x : NiSt) : (s.setNi i x).freeCtr = s.freeCtr := rfl
@[simp] theorem State.setNi_was (s : State) (i : Nat) (x : NiSt) : (s.setNi i x).was = s.was := rfl
@[simp] theorem State.setNi_late (s : State) (i : Nat) (x : NiSt) : (s.setNi i x).late = s.late := rfl
@[simp] theorem State.setNi_stood (s : State) (i : Nat) (x : NiSt) : (s.setNi i x).stood = s.stood := rfl
@[simp] theorem State.setNi_direct (s : State) (i : Nat) (x : NiSt) : (s.setNi i x).direct = s.direct := rfl
@[simp] theorem State.setNi_pending (s : State) (i : Nat) (x : NiSt) : (s.setNi i x).pending = s.pending := rfl

/-! What `State.modNi` leaves alone. -/

@[simp] theorem State.modNi_datum (s : State) (i : Nat) (f : NiSt → NiSt) : (s.modNi i f).datum = s.datum := rfl
@[simp] theorem State.modNi_skew (s : State) (i : Nat) (f : NiSt → NiSt) : (s.modNi i f).skew = s.skew := rfl
@[simp] theorem State.modNi_regs (s : State) (i : Nat) (f : NiSt → NiSt) : (s.modNi i f).regs = s.regs := rfl
@[simp] theorem State.modNi_shadow (s : State) (i : Nat) (f : NiSt → NiSt) : (s.modNi i f).shadow = s.shadow := rfl
@[simp] theorem State.modNi_mem (s : State) (i : Nat) (f : NiSt → NiSt) : (s.modNi i f).mem = s.mem := rfl
@[simp] theorem State.modNi_stns (s : State) (i : Nat) (f : NiSt → NiSt) : (s.modNi i f).stns = s.stns := rfl
@[simp] theorem State.modNi_feds (s : State) (i : Nat) (f : NiSt → NiSt) : (s.modNi i f).feds = s.feds := rfl
@[simp] theorem State.modNi_agents (s : State) (i : Nat) (f : NiSt → NiSt) : (s.modNi i f).agents = s.agents := rfl
@[simp] theorem State.modNi_chains (s : State) (i : Nat) (f : NiSt → NiSt) : (s.modNi i f).chains = s.chains := rfl
@[simp] theorem State.modNi_glb (s : State) (i : Nat) (f : NiSt → NiSt) : (s.modNi i f).glb = s.glb := rfl
@[simp] theorem State.modNi_stk (s : State) (i : Nat) (f : NiSt → NiSt) : (s.modNi i f).stk = s.stk := rfl
@[simp] theorem State.modNi_mbx (s : State) (i : Nat) (f : NiSt → NiSt) : (s.modNi i f).mbx = s.mbx := rfl
@[simp] theorem State.modNi_fmp (s : State) (i : Nat) (f : NiSt → NiSt) : (s.modNi i f).fmp = s.fmp := rfl
@[simp] theorem State.modNi_thm (s : State) (i : Nat) (f : NiSt → NiSt) : (s.modNi i f).thm = s.thm := rfl
@[simp] theorem State.modNi_host (s : State) (i : Nat) (f : NiSt → NiSt) : (s.modNi i f).host = s.host := rfl
@[simp] theorem State.modNi_freeCtr (s : State) (i : Nat) (f : NiSt → NiSt) : (s.modNi i f).freeCtr = s.freeCtr := rfl
@[simp] theorem State.modNi_was (s : State) (i : Nat) (f : NiSt → NiSt) : (s.modNi i f).was = s.was := rfl
@[simp] theorem State.modNi_late (s : State) (i : Nat) (f : NiSt → NiSt) : (s.modNi i f).late = s.late := rfl
@[simp] theorem State.modNi_stood (s : State) (i : Nat) (f : NiSt → NiSt) : (s.modNi i f).stood = s.stood := rfl
@[simp] theorem State.modNi_direct (s : State) (i : Nat) (f : NiSt → NiSt) : (s.modNi i f).direct = s.direct := rfl
@[simp] theorem State.modNi_pending (s : State) (i : Nat) (f : NiSt → NiSt) : (s.modNi i f).pending = s.pending := rfl

/-! What `State.setFed` leaves alone. -/

@[simp] theorem State.setFed_datum (s : State) (i : Nat) (x : FedSt) : (s.setFed i x).datum = s.datum := rfl
@[simp] theorem State.setFed_skew (s : State) (i : Nat) (x : FedSt) : (s.setFed i x).skew = s.skew := rfl
@[simp] theorem State.setFed_regs (s : State) (i : Nat) (x : FedSt) : (s.setFed i x).regs = s.regs := rfl
@[simp] theorem State.setFed_shadow (s : State) (i : Nat) (x : FedSt) : (s.setFed i x).shadow = s.shadow := rfl
@[simp] theorem State.setFed_mem (s : State) (i : Nat) (x : FedSt) : (s.setFed i x).mem = s.mem := rfl
@[simp] theorem State.setFed_stns (s : State) (i : Nat) (x : FedSt) : (s.setFed i x).stns = s.stns := rfl
@[simp] theorem State.setFed_nis (s : State) (i : Nat) (x : FedSt) : (s.setFed i x).nis = s.nis := rfl
@[simp] theorem State.setFed_agents (s : State) (i : Nat) (x : FedSt) : (s.setFed i x).agents = s.agents := rfl
@[simp] theorem State.setFed_chains (s : State) (i : Nat) (x : FedSt) : (s.setFed i x).chains = s.chains := rfl
@[simp] theorem State.setFed_glb (s : State) (i : Nat) (x : FedSt) : (s.setFed i x).glb = s.glb := rfl
@[simp] theorem State.setFed_stk (s : State) (i : Nat) (x : FedSt) : (s.setFed i x).stk = s.stk := rfl
@[simp] theorem State.setFed_mbx (s : State) (i : Nat) (x : FedSt) : (s.setFed i x).mbx = s.mbx := rfl
@[simp] theorem State.setFed_fmp (s : State) (i : Nat) (x : FedSt) : (s.setFed i x).fmp = s.fmp := rfl
@[simp] theorem State.setFed_thm (s : State) (i : Nat) (x : FedSt) : (s.setFed i x).thm = s.thm := rfl
@[simp] theorem State.setFed_host (s : State) (i : Nat) (x : FedSt) : (s.setFed i x).host = s.host := rfl
@[simp] theorem State.setFed_freeCtr (s : State) (i : Nat) (x : FedSt) : (s.setFed i x).freeCtr = s.freeCtr := rfl
@[simp] theorem State.setFed_was (s : State) (i : Nat) (x : FedSt) : (s.setFed i x).was = s.was := rfl
@[simp] theorem State.setFed_late (s : State) (i : Nat) (x : FedSt) : (s.setFed i x).late = s.late := rfl
@[simp] theorem State.setFed_stood (s : State) (i : Nat) (x : FedSt) : (s.setFed i x).stood = s.stood := rfl
@[simp] theorem State.setFed_direct (s : State) (i : Nat) (x : FedSt) : (s.setFed i x).direct = s.direct := rfl
@[simp] theorem State.setFed_pending (s : State) (i : Nat) (x : FedSt) : (s.setFed i x).pending = s.pending := rfl

/-! What `State.modFed` leaves alone. -/

@[simp] theorem State.modFed_datum (s : State) (i : Nat) (f : FedSt → FedSt) : (s.modFed i f).datum = s.datum := rfl
@[simp] theorem State.modFed_skew (s : State) (i : Nat) (f : FedSt → FedSt) : (s.modFed i f).skew = s.skew := rfl
@[simp] theorem State.modFed_regs (s : State) (i : Nat) (f : FedSt → FedSt) : (s.modFed i f).regs = s.regs := rfl
@[simp] theorem State.modFed_shadow (s : State) (i : Nat) (f : FedSt → FedSt) : (s.modFed i f).shadow = s.shadow := rfl
@[simp] theorem State.modFed_mem (s : State) (i : Nat) (f : FedSt → FedSt) : (s.modFed i f).mem = s.mem := rfl
@[simp] theorem State.modFed_stns (s : State) (i : Nat) (f : FedSt → FedSt) : (s.modFed i f).stns = s.stns := rfl
@[simp] theorem State.modFed_nis (s : State) (i : Nat) (f : FedSt → FedSt) : (s.modFed i f).nis = s.nis := rfl
@[simp] theorem State.modFed_agents (s : State) (i : Nat) (f : FedSt → FedSt) : (s.modFed i f).agents = s.agents := rfl
@[simp] theorem State.modFed_chains (s : State) (i : Nat) (f : FedSt → FedSt) : (s.modFed i f).chains = s.chains := rfl
@[simp] theorem State.modFed_glb (s : State) (i : Nat) (f : FedSt → FedSt) : (s.modFed i f).glb = s.glb := rfl
@[simp] theorem State.modFed_stk (s : State) (i : Nat) (f : FedSt → FedSt) : (s.modFed i f).stk = s.stk := rfl
@[simp] theorem State.modFed_mbx (s : State) (i : Nat) (f : FedSt → FedSt) : (s.modFed i f).mbx = s.mbx := rfl
@[simp] theorem State.modFed_fmp (s : State) (i : Nat) (f : FedSt → FedSt) : (s.modFed i f).fmp = s.fmp := rfl
@[simp] theorem State.modFed_thm (s : State) (i : Nat) (f : FedSt → FedSt) : (s.modFed i f).thm = s.thm := rfl
@[simp] theorem State.modFed_host (s : State) (i : Nat) (f : FedSt → FedSt) : (s.modFed i f).host = s.host := rfl
@[simp] theorem State.modFed_freeCtr (s : State) (i : Nat) (f : FedSt → FedSt) : (s.modFed i f).freeCtr = s.freeCtr := rfl
@[simp] theorem State.modFed_was (s : State) (i : Nat) (f : FedSt → FedSt) : (s.modFed i f).was = s.was := rfl
@[simp] theorem State.modFed_late (s : State) (i : Nat) (f : FedSt → FedSt) : (s.modFed i f).late = s.late := rfl
@[simp] theorem State.modFed_stood (s : State) (i : Nat) (f : FedSt → FedSt) : (s.modFed i f).stood = s.stood := rfl
@[simp] theorem State.modFed_direct (s : State) (i : Nat) (f : FedSt → FedSt) : (s.modFed i f).direct = s.direct := rfl
@[simp] theorem State.modFed_pending (s : State) (i : Nat) (f : FedSt → FedSt) : (s.modFed i f).pending = s.pending := rfl

/-! What `State.setAgent` leaves alone. -/

@[simp] theorem State.setAgent_datum (s : State) (i : Nat) (x : Agent) : (s.setAgent i x).datum = s.datum := rfl
@[simp] theorem State.setAgent_skew (s : State) (i : Nat) (x : Agent) : (s.setAgent i x).skew = s.skew := rfl
@[simp] theorem State.setAgent_regs (s : State) (i : Nat) (x : Agent) : (s.setAgent i x).regs = s.regs := rfl
@[simp] theorem State.setAgent_shadow (s : State) (i : Nat) (x : Agent) : (s.setAgent i x).shadow = s.shadow := rfl
@[simp] theorem State.setAgent_mem (s : State) (i : Nat) (x : Agent) : (s.setAgent i x).mem = s.mem := rfl
@[simp] theorem State.setAgent_stns (s : State) (i : Nat) (x : Agent) : (s.setAgent i x).stns = s.stns := rfl
@[simp] theorem State.setAgent_nis (s : State) (i : Nat) (x : Agent) : (s.setAgent i x).nis = s.nis := rfl
@[simp] theorem State.setAgent_feds (s : State) (i : Nat) (x : Agent) : (s.setAgent i x).feds = s.feds := rfl
@[simp] theorem State.setAgent_chains (s : State) (i : Nat) (x : Agent) : (s.setAgent i x).chains = s.chains := rfl
@[simp] theorem State.setAgent_glb (s : State) (i : Nat) (x : Agent) : (s.setAgent i x).glb = s.glb := rfl
@[simp] theorem State.setAgent_stk (s : State) (i : Nat) (x : Agent) : (s.setAgent i x).stk = s.stk := rfl
@[simp] theorem State.setAgent_mbx (s : State) (i : Nat) (x : Agent) : (s.setAgent i x).mbx = s.mbx := rfl
@[simp] theorem State.setAgent_fmp (s : State) (i : Nat) (x : Agent) : (s.setAgent i x).fmp = s.fmp := rfl
@[simp] theorem State.setAgent_thm (s : State) (i : Nat) (x : Agent) : (s.setAgent i x).thm = s.thm := rfl
@[simp] theorem State.setAgent_host (s : State) (i : Nat) (x : Agent) : (s.setAgent i x).host = s.host := rfl
@[simp] theorem State.setAgent_freeCtr (s : State) (i : Nat) (x : Agent) : (s.setAgent i x).freeCtr = s.freeCtr := rfl
@[simp] theorem State.setAgent_was (s : State) (i : Nat) (x : Agent) : (s.setAgent i x).was = s.was := rfl
@[simp] theorem State.setAgent_late (s : State) (i : Nat) (x : Agent) : (s.setAgent i x).late = s.late := rfl
@[simp] theorem State.setAgent_stood (s : State) (i : Nat) (x : Agent) : (s.setAgent i x).stood = s.stood := rfl
@[simp] theorem State.setAgent_direct (s : State) (i : Nat) (x : Agent) : (s.setAgent i x).direct = s.direct := rfl
@[simp] theorem State.setAgent_pending (s : State) (i : Nat) (x : Agent) : (s.setAgent i x).pending = s.pending := rfl

/-! What `State.modAgent` leaves alone. -/

@[simp] theorem State.modAgent_datum (s : State) (i : Nat) (f : Agent → Agent) : (s.modAgent i f).datum = s.datum := rfl
@[simp] theorem State.modAgent_skew (s : State) (i : Nat) (f : Agent → Agent) : (s.modAgent i f).skew = s.skew := rfl
@[simp] theorem State.modAgent_regs (s : State) (i : Nat) (f : Agent → Agent) : (s.modAgent i f).regs = s.regs := rfl
@[simp] theorem State.modAgent_shadow (s : State) (i : Nat) (f : Agent → Agent) : (s.modAgent i f).shadow = s.shadow := rfl
@[simp] theorem State.modAgent_mem (s : State) (i : Nat) (f : Agent → Agent) : (s.modAgent i f).mem = s.mem := rfl
@[simp] theorem State.modAgent_stns (s : State) (i : Nat) (f : Agent → Agent) : (s.modAgent i f).stns = s.stns := rfl
@[simp] theorem State.modAgent_nis (s : State) (i : Nat) (f : Agent → Agent) : (s.modAgent i f).nis = s.nis := rfl
@[simp] theorem State.modAgent_feds (s : State) (i : Nat) (f : Agent → Agent) : (s.modAgent i f).feds = s.feds := rfl
@[simp] theorem State.modAgent_chains (s : State) (i : Nat) (f : Agent → Agent) : (s.modAgent i f).chains = s.chains := rfl
@[simp] theorem State.modAgent_glb (s : State) (i : Nat) (f : Agent → Agent) : (s.modAgent i f).glb = s.glb := rfl
@[simp] theorem State.modAgent_stk (s : State) (i : Nat) (f : Agent → Agent) : (s.modAgent i f).stk = s.stk := rfl
@[simp] theorem State.modAgent_mbx (s : State) (i : Nat) (f : Agent → Agent) : (s.modAgent i f).mbx = s.mbx := rfl
@[simp] theorem State.modAgent_fmp (s : State) (i : Nat) (f : Agent → Agent) : (s.modAgent i f).fmp = s.fmp := rfl
@[simp] theorem State.modAgent_thm (s : State) (i : Nat) (f : Agent → Agent) : (s.modAgent i f).thm = s.thm := rfl
@[simp] theorem State.modAgent_host (s : State) (i : Nat) (f : Agent → Agent) : (s.modAgent i f).host = s.host := rfl
@[simp] theorem State.modAgent_freeCtr (s : State) (i : Nat) (f : Agent → Agent) : (s.modAgent i f).freeCtr = s.freeCtr := rfl
@[simp] theorem State.modAgent_was (s : State) (i : Nat) (f : Agent → Agent) : (s.modAgent i f).was = s.was := rfl
@[simp] theorem State.modAgent_late (s : State) (i : Nat) (f : Agent → Agent) : (s.modAgent i f).late = s.late := rfl
@[simp] theorem State.modAgent_stood (s : State) (i : Nat) (f : Agent → Agent) : (s.modAgent i f).stood = s.stood := rfl
@[simp] theorem State.modAgent_direct (s : State) (i : Nat) (f : Agent → Agent) : (s.modAgent i f).direct = s.direct := rfl
@[simp] theorem State.modAgent_pending (s : State) (i : Nat) (f : Agent → Agent) : (s.modAgent i f).pending = s.pending := rfl

/-! What `State.modChain` leaves alone. -/

@[simp] theorem State.modChain_datum (s : State) (i : Nat) (f : ChainEnd → ChainEnd) : (s.modChain i f).datum = s.datum := rfl
@[simp] theorem State.modChain_skew (s : State) (i : Nat) (f : ChainEnd → ChainEnd) : (s.modChain i f).skew = s.skew := rfl
@[simp] theorem State.modChain_regs (s : State) (i : Nat) (f : ChainEnd → ChainEnd) : (s.modChain i f).regs = s.regs := rfl
@[simp] theorem State.modChain_shadow (s : State) (i : Nat) (f : ChainEnd → ChainEnd) : (s.modChain i f).shadow = s.shadow := rfl
@[simp] theorem State.modChain_mem (s : State) (i : Nat) (f : ChainEnd → ChainEnd) : (s.modChain i f).mem = s.mem := rfl
@[simp] theorem State.modChain_stns (s : State) (i : Nat) (f : ChainEnd → ChainEnd) : (s.modChain i f).stns = s.stns := rfl
@[simp] theorem State.modChain_nis (s : State) (i : Nat) (f : ChainEnd → ChainEnd) : (s.modChain i f).nis = s.nis := rfl
@[simp] theorem State.modChain_feds (s : State) (i : Nat) (f : ChainEnd → ChainEnd) : (s.modChain i f).feds = s.feds := rfl
@[simp] theorem State.modChain_agents (s : State) (i : Nat) (f : ChainEnd → ChainEnd) : (s.modChain i f).agents = s.agents := rfl
@[simp] theorem State.modChain_glb (s : State) (i : Nat) (f : ChainEnd → ChainEnd) : (s.modChain i f).glb = s.glb := rfl
@[simp] theorem State.modChain_stk (s : State) (i : Nat) (f : ChainEnd → ChainEnd) : (s.modChain i f).stk = s.stk := rfl
@[simp] theorem State.modChain_mbx (s : State) (i : Nat) (f : ChainEnd → ChainEnd) : (s.modChain i f).mbx = s.mbx := rfl
@[simp] theorem State.modChain_fmp (s : State) (i : Nat) (f : ChainEnd → ChainEnd) : (s.modChain i f).fmp = s.fmp := rfl
@[simp] theorem State.modChain_thm (s : State) (i : Nat) (f : ChainEnd → ChainEnd) : (s.modChain i f).thm = s.thm := rfl
@[simp] theorem State.modChain_host (s : State) (i : Nat) (f : ChainEnd → ChainEnd) : (s.modChain i f).host = s.host := rfl
@[simp] theorem State.modChain_freeCtr (s : State) (i : Nat) (f : ChainEnd → ChainEnd) : (s.modChain i f).freeCtr = s.freeCtr := rfl
@[simp] theorem State.modChain_was (s : State) (i : Nat) (f : ChainEnd → ChainEnd) : (s.modChain i f).was = s.was := rfl
@[simp] theorem State.modChain_late (s : State) (i : Nat) (f : ChainEnd → ChainEnd) : (s.modChain i f).late = s.late := rfl
@[simp] theorem State.modChain_stood (s : State) (i : Nat) (f : ChainEnd → ChainEnd) : (s.modChain i f).stood = s.stood := rfl
@[simp] theorem State.modChain_direct (s : State) (i : Nat) (f : ChainEnd → ChainEnd) : (s.modChain i f).direct = s.direct := rfl
@[simp] theorem State.modChain_pending (s : State) (i : Nat) (f : ChainEnd → ChainEnd) : (s.modChain i f).pending = s.pending := rfl

/-! What `State.wrByte` leaves alone. -/

@[simp] theorem State.wrByte_datum (s : State) (a : Nat) (v : Byte) : (s.wrByte a v).datum = s.datum := rfl
@[simp] theorem State.wrByte_skew (s : State) (a : Nat) (v : Byte) : (s.wrByte a v).skew = s.skew := rfl
@[simp] theorem State.wrByte_regs (s : State) (a : Nat) (v : Byte) : (s.wrByte a v).regs = s.regs := rfl
@[simp] theorem State.wrByte_shadow (s : State) (a : Nat) (v : Byte) : (s.wrByte a v).shadow = s.shadow := rfl
@[simp] theorem State.wrByte_stns (s : State) (a : Nat) (v : Byte) : (s.wrByte a v).stns = s.stns := rfl
@[simp] theorem State.wrByte_nis (s : State) (a : Nat) (v : Byte) : (s.wrByte a v).nis = s.nis := rfl
@[simp] theorem State.wrByte_feds (s : State) (a : Nat) (v : Byte) : (s.wrByte a v).feds = s.feds := rfl
@[simp] theorem State.wrByte_agents (s : State) (a : Nat) (v : Byte) : (s.wrByte a v).agents = s.agents := rfl
@[simp] theorem State.wrByte_chains (s : State) (a : Nat) (v : Byte) : (s.wrByte a v).chains = s.chains := rfl
@[simp] theorem State.wrByte_glb (s : State) (a : Nat) (v : Byte) : (s.wrByte a v).glb = s.glb := rfl
@[simp] theorem State.wrByte_stk (s : State) (a : Nat) (v : Byte) : (s.wrByte a v).stk = s.stk := rfl
@[simp] theorem State.wrByte_mbx (s : State) (a : Nat) (v : Byte) : (s.wrByte a v).mbx = s.mbx := rfl
@[simp] theorem State.wrByte_fmp (s : State) (a : Nat) (v : Byte) : (s.wrByte a v).fmp = s.fmp := rfl
@[simp] theorem State.wrByte_thm (s : State) (a : Nat) (v : Byte) : (s.wrByte a v).thm = s.thm := rfl
@[simp] theorem State.wrByte_host (s : State) (a : Nat) (v : Byte) : (s.wrByte a v).host = s.host := rfl
@[simp] theorem State.wrByte_freeCtr (s : State) (a : Nat) (v : Byte) : (s.wrByte a v).freeCtr = s.freeCtr := rfl
@[simp] theorem State.wrByte_was (s : State) (a : Nat) (v : Byte) : (s.wrByte a v).was = s.was := rfl
@[simp] theorem State.wrByte_late (s : State) (a : Nat) (v : Byte) : (s.wrByte a v).late = s.late := rfl
@[simp] theorem State.wrByte_stood (s : State) (a : Nat) (v : Byte) : (s.wrByte a v).stood = s.stood := rfl
@[simp] theorem State.wrByte_direct (s : State) (a : Nat) (v : Byte) : (s.wrByte a v).direct = s.direct := rfl
@[simp] theorem State.wrByte_pending (s : State) (a : Nat) (v : Byte) : (s.wrByte a v).pending = s.pending := rfl

/-! What `State.replaceMem` leaves alone. -/

@[simp] theorem State.replaceMem_datum (s : State) (lo hi : Nat) (cells : List Host.Cell) : (s.replaceMem lo hi cells).datum = s.datum := rfl
@[simp] theorem State.replaceMem_skew (s : State) (lo hi : Nat) (cells : List Host.Cell) : (s.replaceMem lo hi cells).skew = s.skew := rfl
@[simp] theorem State.replaceMem_regs (s : State) (lo hi : Nat) (cells : List Host.Cell) : (s.replaceMem lo hi cells).regs = s.regs := rfl
@[simp] theorem State.replaceMem_shadow (s : State) (lo hi : Nat) (cells : List Host.Cell) : (s.replaceMem lo hi cells).shadow = s.shadow := rfl
@[simp] theorem State.replaceMem_stns (s : State) (lo hi : Nat) (cells : List Host.Cell) : (s.replaceMem lo hi cells).stns = s.stns := rfl
@[simp] theorem State.replaceMem_nis (s : State) (lo hi : Nat) (cells : List Host.Cell) : (s.replaceMem lo hi cells).nis = s.nis := rfl
@[simp] theorem State.replaceMem_feds (s : State) (lo hi : Nat) (cells : List Host.Cell) : (s.replaceMem lo hi cells).feds = s.feds := rfl
@[simp] theorem State.replaceMem_agents (s : State) (lo hi : Nat) (cells : List Host.Cell) : (s.replaceMem lo hi cells).agents = s.agents := rfl
@[simp] theorem State.replaceMem_chains (s : State) (lo hi : Nat) (cells : List Host.Cell) : (s.replaceMem lo hi cells).chains = s.chains := rfl
@[simp] theorem State.replaceMem_glb (s : State) (lo hi : Nat) (cells : List Host.Cell) : (s.replaceMem lo hi cells).glb = s.glb := rfl
@[simp] theorem State.replaceMem_stk (s : State) (lo hi : Nat) (cells : List Host.Cell) : (s.replaceMem lo hi cells).stk = s.stk := rfl
@[simp] theorem State.replaceMem_mbx (s : State) (lo hi : Nat) (cells : List Host.Cell) : (s.replaceMem lo hi cells).mbx = s.mbx := rfl
@[simp] theorem State.replaceMem_fmp (s : State) (lo hi : Nat) (cells : List Host.Cell) : (s.replaceMem lo hi cells).fmp = s.fmp := rfl
@[simp] theorem State.replaceMem_thm (s : State) (lo hi : Nat) (cells : List Host.Cell) : (s.replaceMem lo hi cells).thm = s.thm := rfl
@[simp] theorem State.replaceMem_host (s : State) (lo hi : Nat) (cells : List Host.Cell) : (s.replaceMem lo hi cells).host = s.host := rfl
@[simp] theorem State.replaceMem_freeCtr (s : State) (lo hi : Nat) (cells : List Host.Cell) : (s.replaceMem lo hi cells).freeCtr = s.freeCtr := rfl
@[simp] theorem State.replaceMem_was (s : State) (lo hi : Nat) (cells : List Host.Cell) : (s.replaceMem lo hi cells).was = s.was := rfl
@[simp] theorem State.replaceMem_late (s : State) (lo hi : Nat) (cells : List Host.Cell) : (s.replaceMem lo hi cells).late = s.late := rfl
@[simp] theorem State.replaceMem_stood (s : State) (lo hi : Nat) (cells : List Host.Cell) : (s.replaceMem lo hi cells).stood = s.stood := rfl
@[simp] theorem State.replaceMem_direct (s : State) (lo hi : Nat) (cells : List Host.Cell) : (s.replaceMem lo hi cells).direct = s.direct := rfl
@[simp] theorem State.replaceMem_pending (s : State) (lo hi : Nat) (cells : List Host.Cell) : (s.replaceMem lo hi cells).pending = s.pending := rfl

/-! ### Fields of a word -/

theorem Fld.get_lt (f : Fld) (x : Word) : f.get x < 2 ^ f.w := Nat.mod_lt _ (Nat.two_pow_pos _)

/-- The word with a field replaced, as a number. -/
theorem Fld.toNat_put (f : Fld) (x : Word) (v : Nat) (h : f.lo + f.w ≤ 64) :
    (f.put x v).toNat = x.toNat % 2 ^ f.lo + v % 2 ^ f.w * 2 ^ f.lo + x.toNat / 2 ^ (f.lo + f.w) * 2 ^ (f.lo + f.w) := by
  have hx := x.isLt
  have h1 : x.toNat % 2 ^ f.lo < 2 ^ f.lo := Nat.mod_lt _ (Nat.two_pow_pos _)
  have h2 : v % 2 ^ f.w < 2 ^ f.w := Nat.mod_lt _ (Nat.two_pow_pos _)
  have h3 : x.toNat % 2 ^ f.lo + v % 2 ^ f.w * 2 ^ f.lo < 2 ^ (f.lo + f.w) := by
    have h4 : (v % 2 ^ f.w + 1) * 2 ^ f.lo ≤ 2 ^ f.w * 2 ^ f.lo := Nat.mul_le_mul_right _ h2
    have h5 : 2 ^ (f.lo + f.w) = 2 ^ f.w * 2 ^ f.lo := by rw [Nat.pow_add, Nat.mul_comm]
    rw [h5]
    rw [Nat.add_mul, Nat.one_mul] at h4
    omega
  have h6 : x.toNat / 2 ^ (f.lo + f.w) < 2 ^ (64 - (f.lo + f.w)) := by
    rw [Nat.div_lt_iff_lt_mul (Nat.two_pow_pos _), ← Nat.pow_add]
    have h7 : 64 - (f.lo + f.w) + (f.lo + f.w) = 64 := by omega
    rw [h7]
    exact hx
  have h8 : (x.toNat / 2 ^ (f.lo + f.w) + 1) * 2 ^ (f.lo + f.w) ≤ 2 ^ 64 := by
    have h9 := Nat.mul_le_mul_right (2 ^ (f.lo + f.w)) h6
    rw [← Nat.pow_add] at h9
    have h7 : 64 - (f.lo + f.w) + (f.lo + f.w) = 64 := by omega
    rw [h7] at h9
    exact h9
  rw [Nat.add_mul, Nat.one_mul] at h8
  rw [Fld.put, BitVec.toNat_ofNat, Nat.mod_eq_of_lt]
  omega

/-- A field reads what was put into it. -/
theorem Fld.get_put (f : Fld) (x : Word) (v : Nat) (h : f.lo + f.w ≤ 64) : f.get (f.put x v) = v % 2 ^ f.w := by
  rw [Fld.get, Fld.toNat_put f x v h]
  have h1 : x.toNat % 2 ^ f.lo < 2 ^ f.lo := Nat.mod_lt _ (Nat.two_pow_pos _)
  have e : x.toNat % 2 ^ f.lo + v % 2 ^ f.w * 2 ^ f.lo + x.toNat / 2 ^ (f.lo + f.w) * 2 ^ (f.lo + f.w)
      = x.toNat % 2 ^ f.lo + (v % 2 ^ f.w + 2 ^ f.w * (x.toNat / 2 ^ (f.lo + f.w))) * 2 ^ f.lo := by
    rw [Nat.pow_add]; ring
  rw [e, Nat.add_mul_div_right _ _ (Nat.two_pow_pos _), Nat.div_eq_of_lt h1, Nat.zero_add, Nat.add_mul_mod_self_left,
    Nat.mod_mod]

/-- Bits of a word below a field are kept. -/
theorem Fld.toNat_put_low (f : Fld) (x : Word) (v : Nat) (h : f.lo + f.w ≤ 64) :
    (f.put x v).toNat % 2 ^ f.lo = x.toNat % 2 ^ f.lo := by
  rw [Fld.toNat_put f x v h]
  have e : x.toNat % 2 ^ f.lo + v % 2 ^ f.w * 2 ^ f.lo + x.toNat / 2 ^ (f.lo + f.w) * 2 ^ (f.lo + f.w)
      = x.toNat % 2 ^ f.lo + 2 ^ f.lo * (v % 2 ^ f.w + 2 ^ f.w * (x.toNat / 2 ^ (f.lo + f.w))) := by
    rw [Nat.pow_add]; ring
  rw [e, Nat.add_mul_mod_self_left, Nat.mod_mod]

/-- Bits of a word above a field are kept. -/
theorem Fld.toNat_put_high (f : Fld) (x : Word) (v : Nat) (h : f.lo + f.w ≤ 64) :
    (f.put x v).toNat / 2 ^ (f.lo + f.w) = x.toNat / 2 ^ (f.lo + f.w) := by
  rw [Fld.toNat_put f x v h]
  have h1 : x.toNat % 2 ^ f.lo < 2 ^ f.lo := Nat.mod_lt _ (Nat.two_pow_pos _)
  have h2 : v % 2 ^ f.w < 2 ^ f.w := Nat.mod_lt _ (Nat.two_pow_pos _)
  have h3 : x.toNat % 2 ^ f.lo + v % 2 ^ f.w * 2 ^ f.lo < 2 ^ (f.lo + f.w) := by
    have h4 : (v % 2 ^ f.w + 1) * 2 ^ f.lo ≤ 2 ^ f.w * 2 ^ f.lo := Nat.mul_le_mul_right _ h2
    have h5 : 2 ^ (f.lo + f.w) = 2 ^ f.w * 2 ^ f.lo := by rw [Nat.pow_add, Nat.mul_comm]
    rw [h5]
    rw [Nat.add_mul, Nat.one_mul] at h4
    omega
  rw [Nat.add_mul_div_right _ _ (Nat.two_pow_pos _), Nat.div_eq_of_lt h3, Nat.zero_add]

/-- A field above another one keeps its value when that one is written. -/
theorem Fld.get_put_above (f g : Fld) (x : Word) (v : Nat) (h : f.lo + f.w ≤ 64) (hg : f.lo + f.w ≤ g.lo) :
    g.get (f.put x v) = g.get x := by
  obtain ⟨d, hd⟩ := Nat.le.dest hg
  have e : 2 ^ g.lo = 2 ^ (f.lo + f.w) * 2 ^ d := by rw [← hd, Nat.pow_add]
  rw [Fld.get, Fld.get, e, ← Nat.div_div_eq_div_mul, ← Nat.div_div_eq_div_mul, Fld.toNat_put_high f x v h]

/-- A field below another one keeps its value when that one is written. -/
theorem Fld.get_put_below (f g : Fld) (x : Word) (v : Nat) (h : f.lo + f.w ≤ 64) (hg : g.lo + g.w ≤ f.lo) :
    g.get (f.put x v) = g.get x := by
  have key (y : Nat) : y / 2 ^ g.lo % 2 ^ g.w = y % 2 ^ f.lo / 2 ^ g.lo % 2 ^ g.w := by
    obtain ⟨d, hd⟩ := Nat.le.dest hg
    have e : 2 ^ f.lo = 2 ^ g.lo * 2 ^ (g.w + d) := by rw [← hd, Nat.add_assoc, Nat.pow_add]
    rw [e, Nat.mod_mul_right_div_self, Nat.pow_add, Nat.mod_mul_right_mod]
  rw [Fld.get, Fld.get, key, Fld.toNat_put_low f x v h, ← key]

/-! ### Registers -/

@[simp] theorem State.rd_wr_same (s : State) (a : Nat) (v : Word) : (s.wr a v).rd a = v := Store.get_set_same ..

theorem State.rd_wr_ne (s : State) {a b : Nat} (v : Word) (h : b ≠ a) : (s.wr a v).rd b = s.rd b := Store.get_set_ne _ h

@[simp] theorem State.rd_setFld_same (s : State) (a : Nat) (f : Fld) (v : Nat) :
    (s.setFld a f v).rd a = f.put (s.rd a) v := State.rd_wr_same ..

theorem State.rd_setFld_ne (s : State) {a b : Nat} (f : Fld) (v : Nat) (h : b ≠ a) :
    (s.setFld a f v).rd b = s.rd b := State.rd_wr_ne s _ h

/-- A field reads what was written into it. -/
theorem State.fld_setFld_same (s : State) (a : Nat) (f : Fld) (v : Nat) (h : f.lo + f.w ≤ 64) :
    (s.setFld a f v).fld a f = v % 2 ^ f.w := by
  rw [State.fld, State.rd_setFld_same, Fld.get_put f _ v h]

/-- A field of another register is kept. -/
theorem State.fld_setFld_ne (s : State) {a b : Nat} (f g : Fld) (v : Nat) (h : b ≠ a) :
    (s.setFld a f v).fld b g = s.fld b g := by
  rw [State.fld, State.rd_setFld_ne s f v h, State.fld]

/-- Another field of the register is kept. -/
theorem State.fld_setFld_apart (s : State) (a : Nat) (f g : Fld) (v : Nat) (h : f.lo + f.w ≤ 64)
    (hg : f.lo + f.w ≤ g.lo ∨ g.lo + g.w ≤ f.lo) : (s.setFld a f v).fld a g = s.fld a g := by
  rw [State.fld, State.rd_setFld_same, State.fld]
  rcases hg with hg | hg
  · exact Fld.get_put_above f g _ v h hg
  · exact Fld.get_put_below f g _ v h hg

/-! ### Blocks -/

@[simp] theorem State.stn_setStn_same (s : State) (i : Nat) (x : StnSt) : (s.setStn i x).stn i = x := Store.get_set_same ..
theorem State.stn_setStn_ne (s : State) {i j : Nat} (x : StnSt) (h : j ≠ i) : (s.setStn i x).stn j = s.stn j :=
  Store.get_set_ne _ h
@[simp] theorem State.ni_setNi_same (s : State) (i : Nat) (x : NiSt) : (s.setNi i x).ni i = x := Store.get_set_same ..
theorem State.ni_setNi_ne (s : State) {i j : Nat} (x : NiSt) (h : j ≠ i) : (s.setNi i x).ni j = s.ni j :=
  Store.get_set_ne _ h
@[simp] theorem State.fed_setFed_same (s : State) (i : Nat) (x : FedSt) : (s.setFed i x).fed i = x := Store.get_set_same ..
theorem State.fed_setFed_ne (s : State) {i j : Nat} (x : FedSt) (h : j ≠ i) : (s.setFed i x).fed j = s.fed j :=
  Store.get_set_ne _ h
@[simp] theorem State.agent_setAgent_same (s : State) (i : Nat) (x : Agent) : (s.setAgent i x).agent i = x :=
  Store.get_set_same ..
theorem State.agent_setAgent_ne (s : State) {i j : Nat} (x : Agent) (h : j ≠ i) : (s.setAgent i x).agent j = s.agent j :=
  Store.get_set_ne _ h

/-! ### The present cycle (R440) -/

/-- A register that an access has written reads as the access and the cycle have made it. -/
@[simp] theorem State.rd_wrServed_same (s : State) (a : Nat) (v x : Word) : (s.wrServed a v x).rd a = x := Store.get_set_same ..
theorem State.rd_wrServed_ne (s : State) {a b : Nat} (v x : Word) (h : b ≠ a) : (s.wrServed a v x).rd b = s.rd b :=
  Store.get_set_ne _ h

/-- At the start of a cycle every register reads as it stands. -/
@[simp] theorem State.seenOf_cycleStart (s : State) (a : Nat) : s.cycleStart.seenOf a = (s.rd a, s.rd a) := rfl

/-- A write within the cycle leaves alone what the register reads as until its end. -/
theorem State.seenOf_wr (s : State) (a : Nat) (v : Word) : (s.wr a v).seenOf a = s.seenOf a := by
  simp only [State.seenOf, State.wr, State.noteSeen]
  by_cases h : (s.stood.any fun e => decide (e.1 = a)) = true
  · rw [if_pos h]
    obtain ⟨e, he, hp⟩ := List.any_eq_true.1 h
    cases hf : s.stood.find? (fun e => decide (e.1 = a)) with
    | none => exact absurd hp (List.find?_eq_none.1 hf e he)
    | some y => rfl
  · rw [if_neg h]
    have hn : s.stood.find? (fun e => decide (e.1 = a)) = none :=
      List.find?_eq_none.2 fun e he hp => h (List.any_eq_true.2 ⟨e, he, hp⟩)
    simp [hn]

/-- After an access, the register's value at the start of the cycle is as before, and the access's value is noted. -/
theorem State.seenOf_wrServed (s : State) (a : Nat) (v x : Word) : (s.wrServed a v x).seenOf a = ((s.seenOf a).1, v) := by
  simp [State.seenOf, State.wrServed]

end Sys2Proof.Machine
end

