-- ==== Sys2Proof/Laws/Serve.lean ====
section
/-!
SUPPORT. Laws/Serve.lean: everything that the shared operations behind the commands can do: a register write that is served
or turned away, a command to the FMP that is taken or answered, a request on IQ that is accepted or cut.
-/
namespace Sys2Proof.Machine

/-! ### Register writes -/

/-- In mode OFF nothing is served (R371). -/
theorem State.serve_off {s : State} {a : Nat} {r : Req} {act : State → State × BitVec 4} (h : s.mode = Mode.OFF) :
    s.serve a r act = s := by
  unfold State.serve
  rw [if_pos h]

/-- What the register tables turn away (R9, R439, R449). -/
theorem State.serve_gate {s : State} {a : Nat} {r : Req} {act : State → State × BitVec 4} (h : s.mode ≠ Mode.OFF) :
    (s.writeGate a r = .bad → s.serve a r act = s.ans a r Code.TGTERR) ∧
    (s.writeGate a r = .deny → s.serve a r act = s.ans a r Code.DENY) ∧
    (s.writeGate a r = .silent → s.serve a r act = s.ans a r Code.OK) := by
  unfold State.serve
  rw [if_neg h]
  refine ⟨?_, ?_, ?_⟩ <;> intro e <;> rw [e]

/-- A reserved encoding (R6). -/
theorem State.serve_reserved {s : State} {a : Nat} {r : Req} {act : State → State × BitVec 4} (h : s.mode ≠ Mode.OFF)
    (hg : s.writeGate a r = .go) (he : reservedEnc a r.data = true) : s.serve a r act = s.ans a r Code.DENY := by
  unfold State.serve
  rw [if_neg h, hg]
  exact if_pos he

/-- A write that is served takes its register's own rule and is answered with the code that the rule gives. -/
theorem State.serve_go {s : State} {a : Nat} {r : Req} {act : State → State × BitVec 4} (h : s.admits a r) :
    s.serve a r act = (act s).1.ans a r (act s).2 := by
  unfold State.serve
  rw [if_neg h.1, h.2.1]
  exact if_neg (by rw [h.2.2]; decide)

/-- The same with the rule's answer spelt out. -/
theorem State.serve_eq {s t : State} {a : Nat} {r : Req} {c : BitVec 4} {act : State → State × BitVec 4}
    (h : s.admits a r) (e : act s = (t, c)) : s.serve a r act = t.ans a r c := by rw [State.serve_go h, e]

/-! ### The FMP -/

/-- What the FMP takes from pair `k`: the head of that pair in its turn, nothing out of it (R246). -/
theorem State.fmpTurn {s : State} {k : Nat} {m : Msg} (hn : s.fmpNext = some k) (h : s.fmpHead k = some m) :
    (if s.fmpNext = some k then s.fmpHead k else none) = some m := by rw [if_pos hn, h]

/-- Out of its turn nothing is taken. -/
theorem State.fmpTake_waits {s : State} {k op : Nat} {body : OpInfo → Msg → State → State} (h : s.fmpNext ≠ some k) :
    s.fmpTake k op body = s := by
  unfold State.fmpTake
  rw [if_neg h]

/-- Without a command at the head nothing is taken. -/
theorem State.fmpTake_none {s : State} {k op : Nat} {body : OpInfo → Msg → State → State} (h : s.fmpHead k = none) :
    s.fmpTake k op body = s := by
  unfold State.fmpTake
  rw [h, ite_self]

/-- A command with a reserved opcode is answered BADOP, or once more what it was answered (R252, R253). -/
theorem State.fmpTake_reserved {s : State} {k op : Nat} {m : Msg} {body : OpInfo → Msg → State → State}
    (hn : s.fmpNext = some k) (h : s.fmpHead k = some m) (hi : opInfo (opcodeOf m.data) = none) :
    s.fmpTake k op body = ((s.fmpPop k).resend k m.data).getD ((s.fmpPop k).reply k m.data 0 .badOp) := by
  unfold State.fmpTake
  rw [State.fmpTurn hn h]
  dsimp only
  rw [hi]

theorem opInfo_op {op : Nat} {i : OpInfo} (h : opInfo op = some i) : i.op = op := by
  have := List.find?_some h
  simpa using this

/-- A command of another opcode waits for its own. -/
theorem State.fmpTake_other {s : State} {k op : Nat} {m : Msg} {i : OpInfo} {body : OpInfo → Msg → State → State}
    (hn : s.fmpNext = some k) (h : s.fmpHead k = some m) (hi : opInfo (opcodeOf m.data) = some i) (ho : opcodeOf m.data ≠ op) :
    s.fmpTake k op body = s := by
  unfold State.fmpTake
  rw [State.fmpTurn hn h]
  dsimp only
  rw [hi]
  exact if_pos (by rw [opInfo_op hi]; exact ho)

/-- A command of the opcode is taken: answered once more, or handed to its meaning. -/
theorem State.fmpTake_own {s : State} {k op : Nat} {m : Msg} {i : OpInfo} {body : OpInfo → Msg → State → State}
    (hn : s.fmpNext = some k) (h : s.fmpHead k = some m) (ho : opcodeOf m.data = op) (hi : opInfo op = some i) :
    s.fmpTake k op body = ((s.fmpPop k).resend k m.data).getD (body i m (s.fmpPop k)) := by
  unfold State.fmpTake
  rw [State.fmpTurn hn h]
  dsimp only
  rw [ho, hi]
  exact if_neg (by rw [opInfo_op hi]; exact fun e => e rfl)

/-- A FAST command that is taken has its effect and its REPLY (R254). -/
theorem State.fmpFast_takes {s : State} {k op : Nat} {m : Msg} {f : Msg → State → State × Ans} (h : s.takes k op m) :
    s.fmpFast k op f = (f m (s.fmpPop k)).1.reply k m.data 0 (f m (s.fmpPop k)).2 := by
  obtain ⟨h0, h1, h2, h3, i, h4, h5⟩ := h
  unfold State.fmpFast
  rw [State.fmpTake_own h0 h1 h2 h4, h3]
  dsimp only [Option.getD_none]
  rw [h5]

/-- The same with the outcome spelt out. -/
theorem State.fmpFast_eq {s t : State} {k op : Nat} {m : Msg} {a : Ans} {f : Msg → State → State × Ans}
    (h : s.takes k op m) (e : f m (s.fmpPop k) = (t, a)) : s.fmpFast k op f = t.reply k m.data 0 a := by
  rw [State.fmpFast_takes h, e]

/-- A SLOW command that passes its checks and is granted a ticket (R252, R255). -/
theorem State.fmpSlow_grants {s : State} {k op : Nat} {m : Msg} {chk test : Msg → State → Option Ans} (h : s.takes k op m)
    (hc : chk m (s.fmpPop k) = none) (hg : (s.fmpPop k).grants k m) (ht : test m (s.fmpPop k) = none) :
    s.fmpSlow k op chk test = (s.fmpPop k).ticketed k op m := by
  obtain ⟨h0, h1, h2, h3, i, h4, h5⟩ := h
  obtain ⟨⟨u, hu⟩, hf⟩ := hg
  unfold State.fmpSlow
  rw [State.fmpTake_own h0 h1 h2 h4, h3]
  dsimp only [Option.getD_none]
  rw [h5]
  dsimp only
  rw [hc]
  dsimp only
  unfold State.ticketed
  rw [hu]
  dsimp only
  rw [hf]
  dsimp only
  rw [ht]
  rfl

/-- A SLOW command that its own checks turn away. -/
theorem State.fmpSlow_refuses {s : State} {k op : Nat} {m : Msg} {a : Ans} {chk test : Msg → State → Option Ans}
    (h : s.takes k op m) (hc : chk m (s.fmpPop k) = some a) :
    s.fmpSlow k op chk test = (s.fmpPop k).reply k m.data 0 a := by
  obtain ⟨h0, h1, h2, h3, i, h4, h5⟩ := h
  unfold State.fmpSlow
  rw [State.fmpTake_own h0 h1 h2 h4, h3]
  dsimp only [Option.getD_none]
  rw [h5]
  dsimp only
  rw [hc]

/-- A SLOW command that finds no ticket, one that another ticket stands in the way of, and one that the state of what it
names turns away, in this order (R252). -/
theorem State.fmpSlow_turns {s : State} {k op : Nat} {m : Msg} {chk test : Msg → State → Option Ans} (h : s.takes k op m)
    (hc : chk m (s.fmpPop k) = none) :
    ((s.fmpPop k).ticketRoom k = none → s.fmpSlow k op chk test = (s.fmpPop k).reply k m.data 0 .noTicket) ∧
    (∀ u t, (s.fmpPop k).ticketRoom k = some u → (s.fmpPop k).conflict m.data = some t →
      s.fmpSlow k op chk test = (s.fmpPop k).reply k m.data 0 (.conflict t)) ∧
    (∀ a, (s.fmpPop k).grants k m → test m (s.fmpPop k) = some a →
      s.fmpSlow k op chk test = (s.fmpPop k).reply k m.data 0 a) := by
  obtain ⟨h0, h1, h2, h3, i, h4, h5⟩ := h
  have e : s.fmpSlow k op chk test = _ := State.fmpTake_own h0 h1 h2 h4
  rw [e, h3]
  dsimp only [Option.getD_none]
  rw [h5]
  dsimp only
  rw [hc]
  refine ⟨fun hr => by rw [hr], fun u t hr hf => by rw [hr]; dsimp only; rw [hf], fun a hg ht => ?_⟩
  obtain ⟨⟨u, hu⟩, hf⟩ := hg
  rw [hu]
  dsimp only
  rw [hf]
  dsimp only
  rw [ht]

/-! ### Requests on IQ -/

/-- Outside an edge at which a beat can be offered nothing happens (R204, R206). -/
theorem State.iq_idle {s : State} {p op : Nat} {b : IqBeat} (h : s.iqEdge p = false) : s.iq p op b = s := by
  unfold State.iq
  rw [h]
  rfl

/-- With IQ_READY low the beat waits, and the cycle is counted (R207, R312). -/
theorem State.iq_stalls {s : State} {p op : Nat} {b : IqBeat} (h : s.iqEdge p = true)
    (hr : (s.iqRoomed p op b).iqReady p (s.iqOp p op b) (s.iqReq p op b) = false) :
    s.iq p op b =
      ((s.iqRoomed p op b).modNi p (fun n => { n with iqHeld := some (op, b, (s.iqRoomed p op b).datum) })).ncnt p 1 := by
  unfold State.iqRoomed State.iqOp State.iqReq State.iqSeen at *
  unfold State.iq
  rw [h]
  dsimp only [Bool.not_true]
  rw [if_neg (by decide), hr]
  rfl

/-- A beat that transfers and is not the LAST one joins the request (R210). -/
theorem State.iq_part {s : State} {p op : Nat} {b : IqBeat} (h : s.accepts p op b) (hl : b.last = false) :
    s.iq p op b =
      (let t := (s.iqMoved p op b).modNi p (fun n => { n with iqPart := some (s.iqOp p op b, s.iqReq p op b) })
       if iqBad op b then t.portErr p 1 0 else t) := by
  obtain ⟨h1, h2⟩ := h
  unfold State.iqMoved State.iqRoomed State.iqOp State.iqReq State.iqSeen at *
  unfold State.iq
  rw [h1]
  dsimp only [Bool.not_true]
  rw [if_neg (by decide), h2, hl]
  rfl

/-- The LAST beat completes the request (R210). -/
theorem State.iq_last {s : State} {p op : Nat} {b : IqBeat} (h : s.accepts p op b) (hl : b.last = true) :
    s.iq p op b = (s.iqMoved p op b).iqAccept p (s.iqOp p op b) (s.iqReq p op b) (iqBad op b) := by
  obtain ⟨h1, h2⟩ := h
  unfold State.iqMoved State.iqRoomed State.iqOp State.iqReq State.iqSeen at *
  unfold State.iq
  rw [h1]
  dsimp only [Bool.not_true]
  rw [if_neg (by decide), h2, hl]
  rfl

/-- An accepted request that is driven as it should be has its operation's effect. -/
theorem State.iqAccept_good {s : State} {p op : Nat} {q : IqReq} (h : q.good op) :
    s.iqAccept p op q false = (s.iqTaken p op).iqAct p op q (s.iqAcc p op) (s.iqKey p op) := by
  unfold State.iqAccept
  dsimp only
  rw [h.1, h.2]
  rfl

end Sys2Proof.Machine
end

