-- ==== Sys2Proof/WellFormed.lean ====
section
/-!
DEFINITION. WellFormed.lean: which commands can stand for an operation or event of the spec at all: lists of the length that
the hardware they stand for has, ports that exist, offsets and sizes of the kind their row names. A command that is not well
formed has a meaning too (every meaning is total); no surroundings of the block send one.
-/
namespace Sys2Proof
open Sys2Proof.Machine

/-- R34: stations without a federation port have no port F. -/
def portExists (s : Fin 36) (i : Fin 12) : Bool := i.val ≠ 11 || (fedOfStation s.val).isSome

/-- The offset names a register with fields of type RWS (R135). -/
def hasRws (a : Nat) : Bool :=
  match blkOf a with
  | some (b, off) =>
    match rowOf b off with
    | some r => r.flds.any (fun e => e.2 = .rws)
    | none => false
  | none => false

/-- A well-formed command. -/
def Instr.wf (i : Instr) : Bool :=
  match i with
  | .coldReset => true
  | .warmReset => true
  | .softResetWrite _ => true
  | .softResetBegin => true
  | .lcStateChange _ => true
  | .powerRemove => true
  | .scanModeChange _ => true
  | .tapIdcode => true
  | .tapIjtag => true
  | .tapBypass _ => true
  | .wipeDone _ => true
  | .bootRomRead b => b.nvmErr || decide (b.dir.length = 8)
  | .imageVerify v => v.nvmErr || decide (v.head.length = 256)
  | .bootInit b => b.nvmErr || decide (b.bytes.length % 8 = 0)
  | .bootServing => true
  | .journalScanEnd _ => true
  | .voteFix _ _ => true
  | .alignGo _ => true
  | .verifyTimer => true
  | .meridianLaunch => true
  | .alignLoadArrival _ => true
  | .alignVerifyArrival _ _ => true
  | .stakeCallArrival _ _ => true
  | .surveyTickArrival _ _ => true
  | .meridianDueDiscard _ => true
  | .meridianReservedType _ typ => decide (5 ≤ typ.toNat)
  | .datumAlarmFire _ => true
  | .linkFlitReceive s i _ => portExists s i
  | .resyncSend _ _ => true
  | .resyncReceive _ _ => true
  | .resyncEnd _ _ => true
  | .vcAllocate s o => portExists s o
  | .switchAllocate s o => portExists s o
  | .gFlitArrive s i _ => portExists s i
  | .heldHeadTimeout s i _ => portExists s i
  | .agentNorouteSend _ => true
  | .reconfWrite _ _ => true
  | .retireOld _ _ => true
  | .routeFillIssue _ => true
  | .fillServe => true
  | .routeFillReturn _ => true
  | .routeFillTimeout _ => true
  | .invGo _ _ => true
  | .invSweepDone _ => true
  | .routeAround => true
  | .drainStall => true
  | .isolateNoRoute _ => true
  | .chainInject _ => true
  | .chainProbeGo _ _ => true
  | .chainFlitReceive _ => true
  | .platPatchGo _ _ => true
  | .platPatchApply _ => true
  | .stateSlotWrite _ => true
  | .sputReceive _ => true
  | .tqOffer _ _ => true
  | .tsAnswer _ _ => true
  | .isPresent _ _ => true
  | .setOpen _ _ => true
  | .setClose _ _ => true
  | .setAbort _ _ => true
  | .seqPassStart => true
  | .seqPassWrite => true
  | .seqPassEnd => true
  | .expCollect _ _ _ => true
  | .expExpect _ _ _ => true
  | .expAbort _ _ _ => true
  | .expRelease _ _ _ => true
  | .stwReceive _ => true
  | .rwsShadowWrite off _ => hasRws off.val
  | .stakeCommit _ => true
  | .stakeFaultAbort _ => true
  | .stakeNotready _ => true
  | .stakeAbortDone _ => true
  | .stakeApply _ _ => true
  | .stakeMissed _ _ => true
  | .stakeControllerT _ => true
  | .stakeResult _ => true
  | .stakeStuck _ => true
  | .niInject _ => true
  | .shaperResetWrite _ _ _ => true
  | .policeResetWrite _ _ _ => true
  | .sluiceGo _ _ => true
  | .sluiceCancel _ _ => true
  | .sluiceStart _ => true
  | .histDepthSample _ => true
  | .histClear _ _ => true
  | .load _ _ => true
  | .store _ _ => true
  | .storeNp _ _ => true
  | .loadRsv _ _ => true
  | .storeCond _ _ => true
  | .barrier _ _ => true
  | .chainPut _ _ => true
  | .message _ _ => true
  | .mergeWindowExpire _ => true
  | .mergeFlush _ _ => true
  | .barrierAdvance _ => true
  | .targetRequestEntry _ => true
  | .monitorExpire _ _ => true
  | .handoffExpire _ _ => true
  | .rdxRetry _ _ => true
  | .lockAcquire _ _ => true
  | .lockRelease _ _ => true
  | .responseReceive _ => true
  | .requestTimeout _ _ => true
  | .tagQuarantineEnd _ _ => true
  | .descGo _ _ => true
  | .descBeat _ _ _ => true
  | .descTimeout _ => true
  | .pwrUpRaise _ => true
  | .pwrQack _ => true
  | .portDown _ => true
  | .qackLate _ => true
  | .unitHang _ _ => true
  | .evtRaiseChange _ _ => true
  | .evmBuild => true
  | .msgReceive => true
  | .mailboxPop _ _ => true
  | .mailboxWake _ => true
  | .mailboxCross _ => true
  | .mbxCfgWrite _ _ => true
  | .nop _ => true
  | .info _ => true
  | .ticketStatus _ => true
  | .ticketCancel _ => true
  | .modeSet _ => true
  | .regSet _ => true
  | .mbxConfig _ => true
  | .lockForce _ => true
  | .mapLoad _ => true
  | .enumerate _ => true
  | .portEnable _ => true
  | .portDisable _ => true
  | .portIsolate _ => true
  | .portStatus _ => true
  | .routePrepare _ => true
  | .routeWrite _ => true
  | .routeRead _ => true
  | .routeSwitch _ => true
  | .routeDrain _ => true
  | .routeFinish _ => true
  | .routeCacheLoad _ => true
  | .fedMap _ => true
  | .platStage _ => true
  | .platSwap _ => true
  | .platPatch _ => true
  | .platRead _ => true
  | .chainInfo _ => true
  | .chainProbe _ => true
  | .stakeInfo _ => true
  | .stateConfig _ => true
  | .stakeAbort _ => true
  | .domainDown _ => true
  | .domainUp _ => true
  | .domainStatus _ => true
  | .surveyTake _ => true
  | .surveyRead _ => true
  | .probeSet _ => true
  | .tagSet _ => true
  | .traceRead _ => true
  | .counterPerm _ => true
  | .thermalPolicy _ => true
  | .thermalRead _ => true
  | .powerPolicy _ => true
  | .testRequest _ => true
  | .stationVacate _ => true
  | .stationReturn _ => true
  | .linkInfo _ => true
  | .marginReplan _ => true
  | .fwLoad _ => true
  | .fwHandover _ => true
  | .fwInfo _ => true
  | .journalInfo _ => true
  | .journalRead _ => true
  | .slowCommandCompletion t _ => decide (1 ≤ t.val)
  | .replyRetry _ => true
  | .fmpHang => true
  | .handoverServing => true
  | .handoverRevert => true
  | .niEnable _ _ => true
  | .niDisable _ _ => true
  | .niQuiesce _ _ => true
  | .niResume _ _ => true
  | .niIsolate _ _ => true
  | .domainReturn _ => true
  | .pdAckRise _ => true
  | .pdAckFall _ => true
  | .reapplyShadows _ => true
  | .slipResponse => true
  | .journalRecordWrite => true
  | .nvmResponse _ _ => true
  | .nvmTimeout => true
  | .surveyGo _ => true
  | .surveyCancel _ => true
  | .surveySnapshot _ => true
  | .traceForward _ => true
  | .traceClear _ => true
  | .probeConfigWrite _ _ _ => true
  | .tagCtlWrite _ _ => true
  | .powerStateEnter _ => true
  | .powerStateExit _ => true
  | .sleepEnter _ => true
  | .sleepExit _ => true
  | .thermalSample => true
  | .thermalEvaluation rd => decide (rd.length = 72)
  | .hostTrip => true
  | .throttleApply => true
  | .tripArm => true
  | .tripCommitProgram => true
  | .shutdownReady => true
  | .benchmarkScanStart => true
  | .benchmarkScanEnd rd => decide (rd.length = 576)
  | .replanStart _ => true
  | .eyeMeasureEnd _ _ eyes => decide (eyes.length = 22)
  | .recentreStep _ _ _ => true
  | .vreqStepAck _ => true
  | .vreqNoack => true
  | .laneFailHard _ _ _ => true
  | .failureStakeClose => true
  | .sbeWindowEnd => true
  | .testStart => true
  | .laneTestEnd _ _ _ _ _ => true
  | .stationBistEnd _ _ => true
  | .linkTrainDone _ _ _ => true
  | .modeCauseUpdate => true
  | .portAdmit _ => true
  | .ttSyncSend _ => true
  | .ttSyncReceive _ _ => true
  | .ttSyncTimeout _ => true
  | .rootOfsUpdate => true
  | .fedPacketReceive _ _ => true
  | .fedChainFlitReceive _ _ => true
  | .linkBarrierReceive _ w => decide (w.h.cmd = 0x08)
  | .fwdEntryExpire _ _ => true
  | .fedIngressHoldExpire _ => true
  | .fedLinkDown _ => true
  | .fedRestart _ _ => true
  | .bulkTableWrite off _ => decide (0x1000000 ≤ off.val)
  | .registerWrite _ sz _ => decide (1 ≤ sz.val)
  | .rcFieldRead _ sz _ => decide (1 ≤ sz.val)
  | .fedOutboundPacket _ => true

end Sys2Proof
end

