-- ==== Sys2Proof/Tests/Slice0.lean ====
section
/-!
SUPPORT. Tests/Slice0.lean: for every obligation with hypotheses a named theorem that shows concrete states and operands that
meet them, clause by clause at boundary values; ill-formed commands that each check of WellFormed.lean refuses; values and single
steps whose expected results the spec's own examples give.
-/
namespace Sys2Proof.Tests
open Sys2Proof Sys2Proof.Machine
set_option maxRecDepth 8000
set_option exponentiation.threshold 1024
set_option Elab.async false

/-- The state after reset with every counter at the global datum. -/
def rst : State := { State.reset with skew := {} }
/-- The same in mode `m`. -/
def inMode (m : Nat) : State := rst.setFld A.GLB_MODE F.GLB_MODE_MODE m
/-- The same in mode RUN. -/
def run : State := inMode Mode.RUN
/-- The same at datum `t`. -/
def at' (t : Nat) (s : State) : State := { s with datum := t }
/-- A request of the FMP with data `d`. -/
def fmp (d : Word) : Req := { src := 240, priv := 3, tag := 0, data := d }
/-- A request of port 5 with privilege `v` and data `d`. -/
def unit5 (v : BitVec 2) (d : Word) : Req := { src := 5, priv := v, tag := 1, data := d }
/-- Port `p` with NI_CTL.STATE `c`, its unit up. -/
def port (p c : Nat) (s : State) : State :=
  (s.setFld (A.NI_CTL p) F.NI_CTL_STATE c).setFld (A.NI_PORT_STATUS p) F.NI_PORT_STATUS_PWR_UP 1

/-! ### Hypotheses: the block as a machine, memory, packets, instants -/

theorem witness_EmptyQueueIsOneCycle : run.pending = [] ∧ run.mode ≠ Mode.OFF ∧
    (inMode Mode.OFF).pending = [] ∧ (inMode Mode.OFF).mode = Mode.OFF := by decide

theorem witness_EveryStepKeepsTheInvariant : ∃ t, run.Inv ∧ step run = .next t :=
  ⟨run.tick, ⟨by decide, by decide⟩, rfl⟩

/-- A station with a patch of plat 2, entry 5, pending. -/
def patched (i : Nat) : State := run.modStn i (fun x => { x with patch := some (2, 5, 7) })

theorem witness_MemoryFrame : writesMemory .warmReset = true ∧ writesMemory .thermalSample = false ∧
    (∃ t, exec .thermalSample run = .next t) ∧
    ((patched 35).stn 35).patch = some (2, 5, 7) ∧ (∃ t, exec (.platPatchApply 35) (patched 35) = .next t) ∧
    (∃ t, exec (.bulkTableWrite 0x11FFFF8 (fmp 1)) run = .next t) ∧
    (∃ t, exec (.registerWrite 0xFFFFF8 8 (fmp 1)) run = .next t) ∧
    (∃ t, exec (.traceForward 0) run = .next t) ∧ (∃ t, exec (.stationBistEnd 35 0) run = .next t) ∧
    (∃ t, exec (.slowCommandCompletion 1 {}) run = .next t) ∧ run.working = [] :=
  ⟨by decide, by decide, ⟨_, rfl⟩, by decide, ⟨_, rfl⟩, ⟨_, rfl⟩, ⟨_, rfl⟩, ⟨_, rfl⟩, ⟨run, rfl⟩, ⟨run, rfl⟩, by decide⟩

theorem witness_OnlyResetsMoveTheDatum : mayReset .coldReset = true ∧ mayReset .verifyTimer = false ∧
    (∃ t, exec .coldReset run = .next t) ∧ ∃ t, exec .verifyTimer run = .next t :=
  ⟨by decide, by decide, ⟨_, rfl⟩, ⟨_, rfl⟩⟩

theorem witness_BytesAndStampsReadBack : Memory.wf (run.wrMem 0x1000000 0x1234 2).mem = true ∧ (1 ≤ 1 ∧ 2 ^ (1 - 1) ≤ 0 + 1) ∧
    (1 ≤ 32 ∧ 2 ^ (32 - 1) ≤ (2 ^ 31 - 1) + 1) := by decide

theorem witness_EndToEndCheck : (List.replicate 31 (0 : BitVec 256)).length ≤ 31 ∧
    ([1] : List (BitVec 256)).length ≠ ([] : List (BitVec 256)).length ∧ (0 : BitVec 32) ≠ (Pkt.seal {} []).crc := by decide +kernel

theorem witness_RoundUpToAGranule : 0 < 1 ∧ 0 < 1024 ∧ 1024 ∣ 2048 := by decide

/-! ### Hypotheses: configuration accesses and locks -/

theorem witness_ConfigurationAccessesAreJudgedFirst :
    run.inTurn (A.NI_CTL 143) ∧ run.inTurn 0xFFFFF8 ∧ run.inTurn 0x1000 ∧ run.inTurn (A.FED_CTL 11) ∧
    inLocks (A.LCK_ACQ 255) = true ∧ run.lockTurn ∧ inMbx (A.MBX_CH_CFG 127) = true ∧ run.mbxTurn ∧
    regWrite (.niEnable 143 (fmp 1)) = some (A.NI_CTL 143, fmp 1) ∧ (inMode Mode.OFF).mode = Mode.OFF ∧ run.mode ≠ Mode.OFF ∧
    run.writeGate (A.NI_CTL 143) (unit5 1 1) = .deny ∧
    regWrite (.registerWrite 0xFFFFF8 8 (fmp 1)) = some (0xFFFFF8, fmp 1) ∧ run.writeGate 0xFFFFF8 (fmp 1) = .bad ∧
    regWrite (.registerWrite 0x1000 8 (unit5 1 1)) = some (0x1000, unit5 1 1) ∧ run.writeGate 0x1000 (unit5 1 1) = .silent ∧
    regWrite (.fedRestart 11 (fmp 0)) = some (A.FED_CTL 11, fmp 0) ∧ run.writeGate (A.FED_CTL 11) (fmp 0) = .go ∧
    reservedEnc (A.FED_CTL 11) 0 = true ∧ ((7 : Fin 9).val ≠ 8 ∧ (0x1004 : Fin 33554432).val % 8 ≠ 0) := by decide

theorem witness_ConfigurationAccessesComplete :
    ((8 : Fin 9).val = 8 ∧ A.SRV_NEXT % 8 = 0 ∧ A.SRV_NEXT < 0x1000000 ∧ run.admits A.SRV_NEXT (fmp 9) ∧ run.inTurn A.SRV_NEXT ∧
      (run.seenOf A.SRV_NEXT).2 = run.rd A.SRV_NEXT) ∧
    (run.mode ≠ Mode.OFF ∧ shadowView A.DAT_STATUS = none ∧ (∃ row, rowAt A.DAT_STATUS = some row ∧ row.rd ≠ .closed ∧
      run.aclOk row.rd A.DAT_STATUS (unit5 1 0) = true) ∧ inLocks A.DAT_STATUS = false ∧ run.inTurn A.DAT_STATUS ∧
      1 ≤ effPriv 5 1) ∧
    (isFmp (fmp 1) = true ∧ bulkOf 0x11FFFF8 = .route ∧ bulkOf 0x143A7F8 = .plat 35 10 0 ∧
      (run.setFld (A.STN_PLAT_CTL 35 10) F.STN_PLAT_CTL_BANK 1).platBank 35 10 ≠ 0 ∧
      run.fld (A.STN_PLAT_CTL 35 10) F.STN_PLAT_CTL_LOCKED = 0) ∧
    (isFmp (unit5 2 1) = false ∧ bulkOf 0x120B000 = .reserved ∧ bulkOf 0x1440000 = .reserved ∧ bulkOf 0x1BFFFF8 = .trace ∧ (0x1000004 : Fin 33554432).val % 8 ≠ 0 ∧
      run.platBank 0 0 = 0 ∧ bulkOf 0x1200000 = .plat 0 0 0) :=
  ⟨by decide, ⟨by decide, by decide, ⟨_, rfl, by decide, by decide⟩, by decide, by decide, by decide⟩, by decide, by decide⟩

/-- Lock 255 owned by port 5. -/
def locked : State := run.wr (A.LCK_PEEK 255) (lockWord 1 5 0)

theorem witness_LockBank :
    (run.aclOk .lck (A.LCK_ACQ 255) (unit5 2 0) = true ∧ run.lockTurn ∧ locked.lockTurn ∧ run.lockHeld 255 = false) ∧
    (let s : State := { run with glb := { run.glb with lckSkip := 1 } }
     let t : State := { run with pending := [.lockAcquire 0 (fmp 0)] }
     0 < s.glb.lckSkip ∧ t.glb.lckSkip = 0 ∧ t.pending.filterMap lockAccOf = [⟨A.LCK_ACQ 0, true, fmp 0⟩]) ∧
    (locked.lockHeld 255 = true ∧ locked.lockOwner 255 = (unit5 2 0).src.toNat ∧ locked.lockOwner 255 ≠ (fmp 0).src.toNat) ∧
    (let d : Word := F.LCK_ACQ_RELEASE.put 0 1
     locked.admits (A.LCK_ACQ 255) (unit5 2 d) ∧ reqFld (unit5 2 d) F.LCK_ACQ_RELEASE = 1 ∧ locked.admits (A.LCK_ACQ 255) (fmp d) ∧
     isFmp (fmp d) = true ∧ run.admits (A.LCK_ACQ 255) (unit5 2 d) ∧ ¬(run.lockHeld 255 = true)) ∧
    (effPriv 5 0 < (run.setFld A.LCK_CFG F.LCK_CFG_MIN_PRIV 1).fld A.LCK_CFG F.LCK_CFG_MIN_PRIV) := by decide

/-! ### Hypotheses: commands to the FMP, requests of a unit -/

/-- The FMP serves, in mode `m`. -/
def serving (m : Nat) : State := (inMode m).setFld A.GLB_FMP_STATUS F.GLB_FMP_STATUS_STATE Fw.SERVING
/-- A message of port 5 at privilege `v` with the words `ws`. -/
def msg (v : Nat) (ws : List Nat) : Msg := { src := 5, priv := v, arrival := 0, seq := 0, data := msgOfWords ws }
/-- The message `m` at the head of command pair `k`. -/
def asked (k : Nat) (m : Msg) (s : State) : State := { s with mbx := tset [] s.mbx (2 * k) [m] }

/-- What `State.takes` asks, as a test. -/
def takesB (s : State) (k op : Nat) (m : Msg) : Bool :=
  decide (s.fmpNext = some k ∧ s.fmpHead k = some m ∧ opcodeOf m.data = op ∧ (s.fmpPop k).resend k m.data = none) &&
    (match opInfo op with
     | some i => decide ((s.fmpPop k).fmpJudge i m = none)
     | none => false)

theorem takesB_takes {s : State} {k op : Nat} {m : Msg} (h : takesB s k op m = true) : s.takes k op m := by
  simp only [takesB, Bool.and_eq_true, decide_eq_true_eq] at h
  obtain ⟨⟨h0, h1, h2, h3⟩, h4⟩ := h
  cases ho : opInfo op with
  | none => simp [ho] at h4
  | some i => exact ⟨h0, h1, h2, h3, i, ho, by simpa [ho] using h4⟩

/-- A NOP that pair 0 has answered before. -/
def answered (ws : List Nat) : State :=
  (asked 0 (msg 1 ws) (serving 3)).modPair 0 (fun p => { p with last := some (msgOfWords [0]) })

theorem witness_FmpCommandsAreJudgedFirst :
    fmpOpcode (.nop 7) = some (7, 0) ∧ (serving 3).fmpHead 7 = none ∧ (serving 3).fmpNext ≠ some 7 ∧
    (asked 7 (msg 1 [0x52]) (serving 3)).fmpNext = some 7 ∧ (answered [0]).fmpNext = some 0 ∧
    (asked 7 (msg 1 [0x52]) (serving 3)).fmpHead 7 = some (msg 1 [0x52]) ∧ (opInfo (opcodeOf (msg 1 [0x52]).data)).isNone = true ∧
    (opInfo (opcodeOf (msg 1 [1]).data)).isSome = true ∧ opcodeOf (msg 1 [1]).data ≠ 0 ∧
    (((answered [0]).fmpPop 0).resend 0 (msg 1 [0]).data).isSome = true ∧
    (((answered [0x10000]).fmpPop 0).resend 0 (msg 1 [0x10000]).data) = none ∧
    ((opInfo 0).map (fun i => i.bitsOk (msg 1 [0x100]).data)) = some false ∧
    ((opInfo 0).map (fun i => (i.bitsOk (msg 0 [0]).data, i.r))) = some (true, true) ∧ (msg 0 [0]).priv < 1 ∧
    ((opInfo 8).map (fun i => (i.bitsOk (msg 2 [8, 0, 0, 0, 0, 0, 5, 64]).data, i.r, i.grp.accepts 3))) = some (true, false, false) := by
  decide

/-- The beat `b` of operation `o`, with the parity that it needs. -/
def driven (o : Nat) (b : IqBeat) : IqBeat := { b with cpar := iqCpar o b }
/-- The one beat of a request of operation `o` for `n` bytes at address `a`. -/
def beat (o a n : Nat) : IqBeat := driven o { addr := a, size := n, be := beOf a n 0 }
/-- Port 143 enabled, its unit up, its MAX_OUT 256. -/
def up : State := port 143 PortStt.ENABLED run
/-- The first beat of a store of 8 bytes at 60 has transferred. -/
def midway (s : State) : State := s.modNi 143 (fun n => { n with iqPart := some (1, { addr := 60, size := 8, beats := [(beOf 60 8 0, 0)] }) })

theorem witness_IqRequestsWait :
    iqRequest (.storeNp 143 (beat 2 63 1)) = some (143, 2, beat 2 63 1) ∧ (at' 1 up).iqEdge 143 = false ∧
    (at' 2 up).iqEdge 143 = true ∧ (at' 2 up).accepts 143 2 (beat 2 63 1) ∧ (at' 2 up).accepts 143 1 (driven 1 { last := false }) ∧
    ¬(at' 2 (up.modNi 143 (fun n => { n with iqShut := true }))).accepts 143 2 (beat 2 63 1) ∧
    (((at' 2 (up.modNi 143 (fun n => { n with iqShut := true }))).iqRoomed 143 2 (beat 2 63 1)).ni 143).iqShut = true ∧
    (let s := up.modNi 143 (fun n => { n with rqBuild := [{ pkt := { h := {} }, kind := .response }] })
     (s.iqRoomed 143 1 (beat 1 63 1)).builderIdle 143 = false) ∧
    iqBad 2 (beat 2 63 1) = false ∧ iqBad 2 { beat 2 63 1 with mark := 1 } = true := by decide

/-! ### Hypotheses: resets, test access, boot, modes -/

/-- A trip is under way. -/
def tripped : State := { run with host := { run.host with trip := 3 } }

theorem witness_WhatAResetLeaves : 2 ≤ 2 ∧ ∀ st n, st < 36 → n < 6 → ((run.stn st).port n).hard = [] :=
  ⟨by decide, fun _ _ _ _ => rfl⟩

theorem witness_WhichCommandsReset :
    run.mode ≠ Mode.OFF ∧ (inMode Mode.OFF).mode = Mode.OFF ∧ run.tripping = false ∧ tripped.mode ≠ Mode.OFF ∧
    tripped.tripping = true ∧ run.fld A.GLB_LC F.GLB_LC_EFFECTIVE < (3 : LcState).toNat ∧
    (run.setFld A.GLB_LC F.GLB_LC_EFFECTIVE 2).fld A.GLB_LC F.GLB_LC_EFFECTIVE = 2 ∧
    (1 : LcState).toNat < (run.setFld A.GLB_LC F.GLB_LC_EFFECTIVE 2).fld A.GLB_LC F.GLB_LC_EFFECTIVE ∧
    run.fld A.GLB_LC F.GLB_LC_EFFECTIVE ≠ 2 ∧ run.host.scan ≠ true ∧ aclkEdge run.datum = true ∧ aclkEdge (at' 63 run).datum = false ∧
    (∀ t0, ({ run with host := { run.host with softAt := some 1 } } : State).host.softAt = some t0 → run.datum < t0) ∧
    ({ at' 1 run with host := { run.host with softAt := some 1 } } : State).host.softAt = some 1 := by
  refine ⟨by decide, by decide, by decide, by decide, by decide, by decide, by decide, by decide, by decide, by decide, by decide,
    by decide, ?_, rfl⟩
  intro t0 h; cases h; decide

theorem witness_SoftResetPowerAndTestAccess :
    run.admits A.GLB_SOFT_RESET (unit5 2 0xC0DE) ∧ reqFld (unit5 2 0xC0DE) F.GLB_SOFT_RESET_KEY = 0xC0DE ∧
    run.host.softAt = none ∧ ({ run with host := { run.host with softAt := some 0 } } : State).host.softAt ≠ none ∧
    run.admits A.GLB_SOFT_RESET (unit5 2 0xC0DF) ∧ reqFld (unit5 2 0xC0DF) F.GLB_SOFT_RESET_KEY ≠ 0xC0DE ∧
    (0 : BitVec 4) ≠ 1 ∧ (15 : BitVec 4) ≠ 8 := by decide

/-- A state in stage `n` of the boot in mode `m`. -/
def boot (m n : Nat) : State := (inMode m).setStage n
/-- An image's first 256 bytes. -/
def head (secver : BitVec 8) : List (BitVec 8) :=
  [1, 0, 0, 0, 0x60, 1, 0, 0, 7, 0, 0, 0, secver, 0, 0, 0] ++ List.replicate 240 0
/-- The directory with no slot 1. -/
def dir : List (BitVec 64) :=
  let d : List (BitVec 64) := [1, 0xFFFFFFFF00000000, 0x0000004000001000, 0, 0, 0, 0]
  d ++ [BitVec.ofNat 64 (crc32c (d.flatMap (fun x => leBytes 8 x.toNat))).toNat]
/-- A map with one port record, and no pair. -/
def mapBytes : List (BitVec 8) :=
  ((List.range 12).map (fun i => [0x10001, 0, 0, 2 ^ 64 - 1, 0, 0, 0, 0, 0x1305, 9, 0, 0].getD i 0)).flatMap (leBytes 8)

theorem witness_BootStepsAndFailures :
    (boot Mode.WIPE 0).mode = Mode.WIPE ∧ (boot Mode.WIPE 0).bit A.GLB_WIPE_STATUS F.GLB_WIPE_STATUS_DONE = false ∧
    (boot Mode.WIPE 1).bootStage = 1 ∧ dirOk [] = false ∧
    (boot Mode.WIPE 2).bootStage = 2 ∧ imgReason { head := head 0, keyOk := true, sigOk := true } none false = 0 ∧
    imgReason { head := head 0, keyOk := true } none false = 6 ∧ (boot Mode.WIPE 2).fmp.img1 ≠ 0xFFFFFFFF ∧
    (boot Mode.WIPE 2).bit A.GLB_BOOT_STATUS F.GLB_BOOT_STATUS_FALLBACK = false ∧
    ((boot Mode.WIPE 2).setFld A.GLB_BOOT_STATUS F.GLB_BOOT_STATUS_FALLBACK 1).bit A.GLB_BOOT_STATUS
      F.GLB_BOOT_STATUS_FALLBACK = true ∧
    (boot Mode.ENUMERATE 4).bootStage = 4 ∧ mapBytes.length = 96 ∧ (parseMap mapBytes).isSome = true ∧
    (boot Mode.ENUMERATE 4).fld A.THM_STATUS F.THM_STATUS_SAFE = 0 ∧ (boot Mode.ENUMERATE 4).fmp.mapAt ≠ 0xFFFFFFFF ∧
    (((boot Mode.ENUMERATE 5).setFld A.DAT_STATUS F.DAT_STATUS_ALIGNED 1).bit A.DAT_STATUS F.DAT_STATUS_ALIGNED = true) ∧
    (boot Mode.ENUMERATE 5).fmp.bootPairs.length ≤ (boot Mode.ENUMERATE 5).fmp.bootRoutes.length ∧
    (boot Mode.ENUMERATE 5).fmp.admissions = [] := by decide

theorem witness_BootDirectory : dirOk dir = true := by decide +kernel

/-- The admission of port 5 is at step `n` since datum 0, with the boot map in force. -/
def admitting (n : Nat) : State :=
  { serving 2 with fmp := { (serving 2).fmp with admissions := [(5, n, 0)], map := parseMap mapBytes } }
/-- Port 5's descriptor as the map has it. -/
def described : State :=
  (((((admitting 2).wr (A.NI_DESC 5 0) (9 * 2 ^ 32)).wr (A.NI_DESC 5 3) 1).setFld (A.NI_PORT_STATUS 5)
    F.NI_PORT_STATUS_DESC_STATE 2).wrMem (routeAddr 0 5 240) 1 8).wrMem (routeAddr 0 240 5) 1 8

theorem witness_ModesAndPortAdmission :
    run.running = true ∧ run.fwState ≠ Fw.HALTED ∧ (inMode Mode.DIAGNOSE).running = false ∧ 2 ≤ (inMode Mode.DIAGNOSE).mode ∧
    (15 < 16 ∧ run.mode ≠ 15) ∧
    (admitting 1).fmp.admissions.find? (fun e => e.1 = 5) = some (5, 1, 0) ∧ (admitting 1).pwrUp 5 = false ∧
    (at' 4000000 (admitting 1)).datum = 0 + 4000000 ∧ (port 5 0 (admitting 1)).pwrUp 5 = true ∧
    described.fmp.admissions.find? (fun e => e.1 = 5) = some (5, 2, 0) ∧
    described.fld (A.NI_PORT_STATUS 5) F.NI_PORT_STATUS_DESC_STATE = 2 ∧
    (described.portRec 5).map (described.descMatches 5) = some true ∧ described.reachable 5 = true ∧
    described.niState 5 = PortStt.DISABLED ∧
    ((described.wr (A.NI_DESC 5 0) 0).portRec 5).map ((described.wr (A.NI_DESC 5 0) 0).descMatches 5) = some false := by decide

/-! ### Hypotheses: datum and meridian -/

/-- A meridian message of kind `k` for datum `i` launched at `l`. -/
def flying (k : MerKind) (i l : Nat) (s : State) : State := { s with glb := { s.glb with merFly := [⟨k, i, l, []⟩] } }

theorem witness_MeridianLaunchOrder : (at' 3 run).datum % 4 ≠ 0 ∧ (at' 8 run).datum % 4 = 0 ∧
    (at' 8 run).glb.merSlot ≠ some 8 := by decide

theorem witness_AlignLoad :
    (let d : Word := F.DAT_CTL_VERIFY_PERIOD.put (F.DAT_CTL_ALIGN_GO.put 0 1) 24
     (inMode Mode.DIAGNOSE).admits A.DAT_CTL (fmp d) ∧ reqFld (fmp d) F.DAT_CTL_ALIGN_GO = 1 ∧
       reqFld (fmp d) F.DAT_CTL_VERIFY_PERIOD = 24 ∧ (inMode Mode.DIAGNOSE).alignOk = true ∧ run.admits A.DAT_CTL (fmp d) ∧
       run.alignOk = false) ∧
    ((at' 24 (flying .alignLoad 24 0 run)).glb.merFly.find? (fun m => m.kind = .alignLoad && m.launch + 24 = 24)) =
      some ⟨.alignLoad, 24, 0, []⟩ ∧ (at' 24 run).datum < 2 ^ 64 := by decide

/-- Block 191 one cycle behind. -/
def slipped : State := { at' 65560 (flying .alignVerify 65560 65536 run) with skew := { diff := [(191, -1)] } }

theorem witness_AlignVerifyVoteAndDiscard :
    (let s := ((at' 1024 run).setFld A.DAT_CTL F.DAT_CTL_VERIFY_EN 1).setFld A.DAT_CTL F.DAT_CTL_VERIFY_PERIOD 10
     s.bit A.DAT_CTL F.DAT_CTL_VERIFY_EN = true ∧ s.datum % 2 ^ s.fld A.DAT_CTL F.DAT_CTL_VERIFY_PERIOD = 0 ∧ s.glb.verAt ≤ s.datum) ∧
    (let s : State := { run with glb := { run.glb with verAt := 1 } }
     s.datum < s.glb.verAt) ∧
    (let s : State := { run with glb := { run.glb with votes := [(578, some 1)] } }
     (1 : Word).toNat ≠ run.nowOf 192 ∧ run.split 192 = false ∧ run.glb.votes = [] ∧ s.split 192 = true) ∧
    (flying .idle 0 0 (at' 24 run)).arriving 191 (fun k => k = .idle) = some ⟨.idle, 0, 0, []⟩ ∧
    (run.setFld A.DAT_CTL F.DAT_CTL_VERIFY_EN 0).bit A.DAT_CTL F.DAT_CTL_VERIFY_EN = false ∧
    slipped.arriving 191 (fun _ => true) = some ⟨.alignVerify, 65560, 65536, []⟩ ∧ 5 ≤ (5 : BitVec 4).toNat ∧
    slipped.arriving 191 (· = .alignVerify) = some ⟨.alignVerify, 65560, 65536, []⟩ ∧ slipped.nowOf 191 ≠ 65560 ∧
    slipped.arriving 190 (· = .alignVerify) = some ⟨.alignVerify, 65560, 65536, []⟩ ∧ slipped.nowOf 190 = 65560 := by decide

/-- Alarm 3 armed at datum `a` for datum `v`. -/
def armed (a v : Nat) (s : State) : State :=
  { (s.wr (A.DAT_ALARM 3) (BitVec.ofNat 64 v)).setFld A.DAT_ALARM_CTL ⟨3, 1⟩ 1 with glb := { s.glb with armAt := [(3, a)] } }

theorem witness_DatumAlarms :
    (let s := at' 100 (armed 90 100 run)
     s.fld A.DAT_ALARM_CTL ⟨3, 1⟩ = 1 ∧ (s.rd (A.DAT_ALARM 3)).toNat ≤ s.datum ∧
       tget 0 s.glb.armAt 3 ≤ (s.rd (A.DAT_ALARM 3)).toNat) ∧
    (let s := at' 102 (armed 101 100 run)
     (s.rd (A.DAT_ALARM 3)).toNat < tget 0 s.glb.armAt 3 ∧ tget 0 s.glb.armAt 3 < s.datum) ∧
    run.fld A.DAT_ALARM_CTL ⟨3, 1⟩ = 0 := by decide

/-! ### Hypotheses: stations and routes -/

/-- Input `i` of station `st` with `w` at the front of its link. -/
def fronted (st i : Nat) (w : Wire) (s : State) : State :=
  s.modStn st (fun x => x.modPort i (fun q => { q with wire := [⟨w, 0, 0⟩] }))
/-- Direction `i` of station `st` up. -/
def linkUp (st i : Nat) (s : State) : State := s.setFld (A.STN_LINK st i) F.STN_LINK_STATE LinkSt.FULL
/-- A one-flit packet with header `h` on VC `v`. -/
def whole (h : Hdr) (v : Nat) : Flit := { ft := .headTail, vc := v, payload := h.bits }
/-- Input VC 0 of input 0 of station 35 holding the flits `b`. -/
def buffered (b : InVc) (s : State) : State := s.modStn 35 (fun x => x.setVc 0 0 b)
/-- A header whose first hop is output `o`. -/
def toOut (o : Nat) : Hdr := { route := routeOfHops [o] }
/-- A G flit. -/
def gflit : GFlit := { flags := 0, chain := 3, seq := 0, stamp := 0, payload := 0 }

theorem witness_StationReceivesAndWritesBuffers :
    (let s := linkUp 35 5 (fronted 35 5 ⟨.idle, some 6⟩ run)
     s.receives 35 = true ∧ s.rxUp 35 5 = true ∧ s.rxFree 35 5 = true ∧ s.front 35 5 = some ⟨.idle, some 6⟩ ∧ run.front 35 5 = none) ∧
    (let f := whole (toOut 6) 0
     let s := linkUp 35 0 (fronted 35 0 ⟨.be f, none⟩ run)
     s.front 35 0 = some ⟨.be f, none⟩ ∧ s.room 35 0 f = true ∧ ((s.stn 35).port 0).hardWin = false ∧
     (((s.modStn 35 (fun x => x.modPort 0 (fun q => { q with hardWin := true }))).stn 35).port 0).hardWin = true ∧
     (buffered { buf := List.replicate 8 { f := f, bw := 0 } } s).room 35 0 f = false) ∧
    (let s := fronted 35 11 ⟨.g gflit, none⟩ run
     s.front 35 11 = some ⟨.g gflit, none⟩ ∧ s.rxFree 35 11 = true) ∧
    (((buffered { absorb := some none } run).stn 35).vc 0 0).absorb = some none ∧ ((run.stn 35).vc 0 0).absorb = none ∧
    (((buffered { opened := true } run).stn 35).vc 0 0).opened = true ∧ ((run.stn 35).vc 0 0).opened = false ∧
    (((buffered { opened := true } run).stn 35).vc 0 0).absorb = none ∧
    (let f := whole (toOut 6) 0
     let h := Hdr.ofBits f.payload
     let u := (run.probeStn 35 0 0 h).scnt 35 29
     f.isHead = true ∧ h.trav.toNat = u.fld (A.STN_TRAV_CTL 35) F.STN_TRAV_CTL_CUR ∧ u.routeCase 35 0 0 h = 0 ∧
       u.routeCase 35 0 0 (toOut 15) = 0 + 1) ∧
    ({ ft := .tail, vc := 0, payload := 0 } : Flit).isHead = false := by decide

/-- A head at the front of VC 0 of input 0 of station 35, for output 6, written into its buffer at datum 0. -/
def asking : State := at' 5 (buffered { buf := [{ f := whole (toOut 6) 0, bw := 0, out := 6, ovc := 0 }] }
  (run.wr (A.STN_VC_CRED 35 6) (BitVec.ofNat 64 (fullCreds 6))))
/-- It has been granted output VC 0 of output 6. -/
def granted : State := at' 9 (asking.grantVc 35 6 0 0 0 0 false)
/-- Beside it the head of VC 2 has been granted output VC 2 of output 7. -/
def twoGranted : State :=
  let s := granted.modStn 35 (fun x => x.setVc 0 2 { buf := [{ f := whole (toOut 7) 2, bw := 0, out := 7, ovc := 2 }] })
  at' 20 ((s.wr (A.STN_VC_CRED 35 7) (BitVec.ofNat 64 (fullCreds 7))).grantVc 35 7 0 2 0 2 false)
/-- The return of a slot of VC 3 is due at datum `t` on output 0 of station 35, whose direction is up. -/
def owing (t : Nat) : State := (linkUp (neighbour 35 0) (oppPort 0) run).modStn 35 (fun x => x.modPort 0 (fun q => { q with credQ := [(3, t)] }))

theorem witness_VcAndSwitchAllocation :
    run.awake 35 = true ∧ vaPick ((run.stn 35).port 6).lastVa (run.vaCands 35 6) = none ∧ ((run.stn 35).port 6).vaAt ≤ run.datum ∧
    (let s := run.modStn 35 (fun x => x.modPort 6 (fun q => { q with vaAt := 1 }))
     s.datum < ((s.stn 35).port 6).vaAt) ∧
    vaPick ((asking.stn 35).port 6).lastVa (asking.vaCands 35 6) = some (0, 0, 0, 0) ∧ ((asking.stn 35).port 6).vaAt ≤ asking.datum ∧
    ((asking.stn 35).port 6).lastVa = 0 ∧ (∀ x ∈ asking.vaWants 35 6, x.1 = 0) ∧
    (let s := asking.modStn 35 (fun x => x.modPort 6 (fun q => { q with lastVa := 11 }))
     vaPick ((s.stn 35).port 6).lastVa (s.vaCands 35 6) = some (0, 0, 0, 0) ∧ 0 ≠ ((s.stn 35).port 6).lastVa) ∧
    (let u := (List.range 7).foldl (fun s v => s.dropCut 35 6 v) granted
     u.beFree 35 6 = true ∧ (saPick (fun c => u.fld (A.STN_CLASS_WEIGHT 35) ⟨8 * c, 8⟩) ((u.stn 35).port 6)
       (u.readyClasses 35 6) (u.saCands 35 6)).map Prod.fst = some (0, 0, 0, 0)) ∧
    (let s := run.modStn 35 (fun x => { x with gout := [(0, 2)] })
     s.beFree 35 0 = false) := by decide

theorem witness_SwitchesAndCreditReturns :
    (let u := (List.range 7).foldl (fun s v => s.dropCut 35 7 v) twoGranted
     u.beFree 35 7 = true ∧ u.readyClasses 35 7 ≠ [] ∧ u.saCands 35 7 = [] ∧
       (saPick (fun _ => 1) ((u.stn 35).port 7) (u.readyClasses 35 7) []).isNone = true) ∧
    (saPick (fun _ => 1) {} [] []) = none ∧ run.readyClasses 35 0 = [] ∧
    (((owing 0).stn 35).port 0).credQ = (3, 0) :: [] ∧ run.datum < 1 ∧ (owing 0).cretHeld 35 0 = false ∧
    ((owing 0).linkOf 35 0).find? (fun f => f.lau = (owing 0).datum) = none ∧ (owing 0).slotFree 35 0 (owing 0).datum = true ∧
    (let s := (owing 0).launch 35 0 ⟨.idle, none⟩ 0
     (s.linkOf 35 0).find? (fun f => f.lau = s.datum) = some ⟨⟨.idle, none⟩, wireDelay 0, 0⟩) ∧
    (saPick (fun _ => 1) {} [6, 7] [(2, 6, 1, 0), (0, 7, 2, 0)]).map Prod.fst = some (0, 7, 2, 0) := by decide

theorem witness_ResyncHeldHeadsAndNoroute :
    (let s := run.modStn 35 (fun x => x.modPort 5 (fun q => { q with syncWanted := true, rxSync := some 64 }))
     ((s.stn 35).port 5).syncWanted = true ∧ (∀ k, k < s.span 35 5 → s.gBusy 35 5 (s.datum + k) = false) ∧
     (let u := s.modStn 35 (fun x => { x with gout := [(5, 0)] })
      u.gBusy 35 5 (u.datum + 0) = true) ∧ 0 < s.span 35 5 ∧ s.linkOf (neighbour 35 5) (oppPort 5) = [] ∧ ((s.stn 35).port 5).rxSync = some 64 ∧
     s.datum < 64 ∧ 64 ≤ (at' 64 s).datum) ∧
    (fronted 35 5 ⟨.resync, none⟩ run).front 35 5 = some ⟨.resync, none⟩ ∧
    (let f : BFlit := { f := whole (toOut 6) 0, bw := 0, held := true }
     let s := buffered { buf := [f] } run
     splitHeld ((s.stn 35).vc 0 0).buf = ([], f :: []) ∧ f.bw + 8192 ≤ (at' 8192 s).datum ∧ (at' 8191 s).datum < f.bw + 8192) ∧
    (let s := run.modStn 35 (fun x => { x with nrq := [{ cmd := Cmd.RD }] })
     (s.stn 35).nrq = { cmd := Cmd.RD } :: [] ∧ (Cmd.response Cmd.RD).isSome = true) := by decide

/-- A packet of port 143 that waits for its route, with its fill of number 1, whose own route is `r`. -/
def waiting (r : BitVec 64) : FillWait :=
  { out := { pkt := { h := { dest := 7 } }, kind := .response }
    fill := { pkt := { h := { cmd := Cmd.CRD, tag := 1, route := r } }, kind := .response } }
/-- The response builder of port 143 waits, its fill issued at datum `d`. -/
def filling (r : BitVec 64) (d : Option Nat) : State :=
  run.modNi 143 (fun n => { n with rsWait := some { waiting r with issued := d, queued := d.isSome } })
/-- A fill of number `t` as the global block receives it, and its answer. -/
def fill (cmd : BitVec 6) (t : BitVec 12) : Pkt := Pkt.seal { cmd := cmd, tag := t, address := 0x1000000 } [1]
/-- The agent of station 35 with a fill to drive, its number issued at datum 0, its answer come. -/
def agentFilling : State := run.modAgent (stnBlk 35)
  (fun x => { x with fill := some { h := { cmd := Cmd.CRD } }, issued := some 0, rsp := some (fill Cmd.CRR 0) })
/-- A fill waits at the global block; the last one was served at `d`. -/
def asksFill (d : Option Nat) : State := { run with glb := { run.glb with rx := [fill Cmd.CRD 1], fillAt := d } }

theorem witness_RouteFills :
    ((filling 0 none).ni 143).wait true = some (waiting 0) ∧ ((filling 1 none).ni 143).mgtQ.length < 8 ∧ (waiting 0).queued = false ∧
    noRoute (waiting 0).fill.pkt.h.route = true ∧ noRoute (waiting 1).fill.pkt.h.route = false ∧
    (((filling 1 (some 0)).ni 143).wait true).map (fun w => (w.queued, w.issued)) = some (true, some 0) ∧
    (let s := (filling 1 (some 0)).modNi 143 (fun n => { n with rxMgt := [fill Cmd.CRR 1] })
     (s.ni 143).rxMgt.find? (fillAnswer true) = some (fill Cmd.CRR 1)) ∧
    ((run.ni 143).wait true) = none ∧ (fill Cmd.CRR 1).h.tag = (waiting 1).fill.pkt.h.tag ∧
    fillAnswer true (fill Cmd.CRR 3) = true ∧ (fill Cmd.CRR 3).h.tag ≠ (waiting 1).fill.pkt.h.tag ∧
    (at' 8191 run).datum < 0 + 8192 ∧ 0 + 8192 ≤ (at' 8192 run).datum ∧ (fill Cmd.CRR 1).h.status = 0 ∧
    noRoute (BitVec.ofNat 64 (((fill Cmd.CRR 1).units.headD 0).toNat / 2 ^ (8 * ((fill Cmd.CRR 1).h.address.toNat % 32)))) = false ∧
    (run.agent (stnBlk 35)).fill = none ∧ (agentFilling.agent (stnBlk 35)).fill = some { h := { cmd := Cmd.CRD } } ∧
    (agentFilling.agent (stnBlk 35)).rsp = some (fill Cmd.CRR 0) ∧ (agentFilling.agent (stnBlk 35)).issued = some 0 ∧
    (asksFill none).glb.rx.find? isFill = some (fill Cmd.CRD 1) ∧ mclkEdge (at' 3 run).datum = false ∧
    mclkEdge (at' 5 (asksFill none)).datum = true ∧ (asksFill none).glb.fillAt = none ∧ (asksFill (some 0)).glb.fillAt = some 0 ∧
    mclkNo (at' 4 run).datum < mclkNo 0 + 4 ∧ mclkNo 0 + 4 ≤ mclkNo (at' 5 run).datum := by decide +kernel

theorem witness_FillPasses : (fill Cmd.CRR 1).fails = false := by decide +kernel

theorem witness_TraverseControlAndInvalidation :
    (let d : Word := F.STN_TRAV_CTL_RECONF.put 0 1
     run.admits (A.STN_TRAV_CTL 35) (fmp d) ∧ (∃ row t, rowAt (A.STN_TRAV_CTL 35) = some row ∧
       run.rwsWrite (A.STN_TRAV_CTL 35) row d = some t) ∧ reqFld (fmp d) F.STN_TRAV_CTL_RETIRE_OLD ≠ 1 ∧
     (run.setFld (A.STN_TRAV_CTL 35) F.STN_TRAV_CTL_RECONF 1).bit (A.STN_TRAV_CTL 35) F.STN_TRAV_CTL_RECONF = true ∧
     run.bit (A.STN_TRAV_CTL 35) F.STN_TRAV_CTL_RECONF = false) ∧
    (let d : Word := F.STN_TRAV_CTL_RETIRE_OLD.put 0 1
     run.admits (A.STN_TRAV_CTL 35) (fmp d) ∧ reqFld (fmp d) F.STN_TRAV_CTL_RETIRE_OLD = 1 ∧
       ∃ row t, rowAt (A.STN_TRAV_CTL 35) = some row ∧ run.rwsWrite (A.STN_TRAV_CTL 35) row d = some t) ∧
    (let d : Word := F.NI_ROUTE_CTL_INV_GO.put 0 1
     run.admits (A.NI_ROUTE_CTL 143) (fmp d) ∧ reqFld (fmp d) F.NI_ROUTE_CTL_INV_GO = 1 ∧ (run.ni 143).inv = none) ∧
    (let s := run.modNi 143 (fun n => { n with inv := some (none, 0) })
     (s.ni 143).inv = some (none, 0) ∧ (at' 1023 s).datum < 0 + 1024 ∧ 0 + 1024 ≤ (at' 1024 s).datum) :=
  ⟨⟨by decide, ⟨_, _, rfl, rfl⟩, by decide, by decide, by decide⟩, ⟨by decide, by decide, _, _, rfl, rfl⟩, by decide, by decide⟩

/-- The FMP serves in RUN with its own work of kind `k` in set 7, whose state is `c`. -/
def own7 (k c : Nat) : State :=
  { (serving 3).setFld (A.STK_SET_STATUS 7) F.STK_SET_STATUS_STATE c with
    fmp := { (serving 3).fmp with own7 := some { kind := k }, aroundRun := some (1, false) } }

theorem witness_RouteAround :
    (serving 3).fwState = Fw.SERVING ∧ (serving 3).idle7 = true ∧ (serving 3).openMode = true ∧
    (serving 3).anyTkt (fun t => (resOf t.cmd).contains .routes) = false ∧ (own7 5 SetSt.OPEN).setSt 7 = SetSt.OPEN ∧
    ((own7 5 0).fmp.own7.map (·.kind)) = some 5 ∧ (own7 5 0).curTrav 192 ≠ 1 ∧ (own7 5 0).fmp.drain = none ∧
    (let s : State := { serving 3 with fmp := { (serving 3).fmp with aroundRun := some (0, true) } }
     s.fmp.aroundRun = some (0, true) ∧ s.fmp.own7 = none ∧ s.curTrav 192 = 0) ∧
    (let s := (at' 20000000 (serving 3)).setFld (travStatOf 0) ⟨16, 16⟩ 1
     s.drainDone 1 = false ∧ 0 + 20000000 ≤ s.datum ∧ s.fmp.stalled = false ∧ s.fmp.retire = none) ∧
    up.reachable 143 = false ∧ up.niState 143 = PortStt.ENABLED ∧ described.reachable 5 = true := by decide

/-! ### Hypotheses: chains, patches, state channels, unit channels -/

/-- Source entry 63 of port 143 on chain 3, with an instant at every multiple of 64. -/
def sourced (q : List SrcFlit) : State :=
  (((run.wr (A.NI_CHAIN_SRC_CFG 143 63) (F.NI_CHAIN_SRC_CFG_VALID.put (F.NI_CHAIN_SRC_CFG_CHAIN.put 0 3) 1)).setFld
    (A.NI_CHAIN_SRC_SCH 143 63) F.NI_CHAIN_SRC_SCH_COUNT 1).setSrcQueue 143 63 q).setFld (A.NI_CHAIN_CTL 143)
      F.NI_CHAIN_CTL_PROBE_IDX 63
/-- A queued flit that is ready. -/
def flit0 : SrcFlit := { payload := 1, flags := 0, stamp := 0, seq := 0, ready := 0 }
/-- Destination entry 63 of port 143 for chain 3 in PORT mode, and a flit that has arrived. -/
def sunk : State :=
  (up.wr (A.NI_CHAIN_DST_CFG 143 63) (F.NI_CHAIN_DST_CFG_VALID.put (F.NI_CHAIN_DST_CFG_CHAIN.put 0 3) 1)).modChain 143
    (fun c => { c with rx := [⟨gflit, 0⟩] })

theorem witness_Chains :
    (sourced [flit0]).injects 143 = some (63, some flit0) ∧ (sourced [flit0]).driveFree 143 = true ∧ (sourced []).driveFree 143 = true ∧
    ((sourced [flit0]).modNi 143 (fun n => { n with drove := 1 })).driveFree 143 = false ∧ (sourced [{ flit0 with ready := 1 }]).injects 143 = none ∧
    ((sourced []).setFld (A.NI_CHAIN_CTL 143) F.NI_CHAIN_CTL_PROBE_PEND 1).injects 143 = some (63, none) ∧
    (sunk.chain 143).rx = [⟨gflit, 0⟩] ∧ (0 : Nat) ≤ sunk.datum ∧
    ((run.modChain 155 (fun c => { c with rx := [⟨gflit, 1⟩] })).chain 155).rx = [⟨gflit, 1⟩] ∧ run.datum < 1 ∧
    run.enabled 143 = false ∧
    (sunk.enabled 143 = true ∧ gflit.err ≠ .due ∧ ({ gflit with err := .due } : GFlit).err = .due ∧ sunk.dstEntry 143 gflit.chain = some 63 ∧ gflit.flags.getLsbD 2 = false ∧
      sunk.bit (dstCfgOf 143 63) F.NI_CHAIN_DST_CFG_MODE = false ∧
      gflit.seq.toNat = sunk.fld (dstStatOf 143 63) F.NI_CHAIN_DST_STAT_SEQ_EXP ∧ (sunk.dstQueue 143 63).length < 8) ∧
    (let d : Word := F.NI_CHAIN_CTL_PROBE_GO.put (F.NI_CHAIN_CTL_PROBE_IDX.put 0 63) 1
     run.admits (A.NI_CHAIN_CTL 143) (fmp d) ∧ reqFld (fmp d) F.NI_CHAIN_CTL_PROBE_GO = 1 ∧ isFmp (fmp d) = true ∧
       run.bit (A.NI_CHAIN_CTL 143) F.NI_CHAIN_CTL_PROBE_PEND = false) := by decide

theorem witness_PlatPatches :
    (let d : Word := F.STN_PLAT_PATCH_GO.put (F.STN_PLAT_PATCH_PLAT.put (F.STN_PLAT_PATCH_PARCEL.put 0 63) 10) 1
     let r := fmp d
     let s := run.setFld (A.STN_PLAT_CTL 35 10) F.STN_PLAT_CTL_LEN0 0
     s.admits (A.STN_PLAT_PATCH 35) r ∧ reqFld r F.STN_PLAT_PATCH_PLAT = 10 ∧ reqFld r F.STN_PLAT_PATCH_PARCEL = 63 ∧
       63 < s.bankLen 35 10 (s.platBank 35 10) ∧ reqFld r F.STN_PLAT_PATCH_GO = 1 ∧
       s.bit (A.STN_PLAT_PATCH 35) F.STN_PLAT_PATCH_PENDING = false ∧ s.anyLocked 35 = false ∧
       (s.setFld (A.STN_PLAT_CTL 35 0) F.STN_PLAT_CTL_LOCKED 1).anyLocked 35 = true) ∧
    (let s := (patched 35).wr (A.STN_PLAT_PATCH_TIME 35) 64
     (s.stn 35).patch = some (2, 5, 7) ∧ s.nowOf (stnBlk 35) < (s.rd (A.STN_PLAT_PATCH_TIME 35)).toNat ∧
       (s.rd (A.STN_PLAT_PATCH_TIME 35)).toNat ≤ (at' 64 s).nowOf (stnBlk 35)) := by decide

/-- Slot 255 of port 143 enabled for writes and SPUT. -/
def slotted : State :=
  up.wr (A.NI_STATE_CFG 143 255) (F.NI_STATE_CFG_SPUT_EN.put (F.NI_STATE_CFG_EN.put (resetOf (A.NI_STATE_CFG 143 255)) 1) 1)
/-- A write to it. -/
def slotWr : SlotW := { slot := 255, value := 1, mark := false, stamp := 0, bits := 32, chain := false, due := 0 }
/-- An SPUT of one byte to it. -/
def sput : Pkt := Pkt.seal { dest := 143, src := 5, cmd := Cmd.SPUT, bcount := 1, address := 64 * 255 + 63, priv := 2 } [0]

theorem witness_StateChannels :
    (let s := slotted.modNi 143 (fun n => { n with slotW := [slotWr] })
     (s.ni 143).slotAt ≤ s.datum ∧ nextSlotW s.datum (s.ni 143).slotW = some slotWr) ∧
    nextSlotW run.datum (run.ni 143).slotW = none ∧ run.bit (A.NI_STATE_CFG 143 255) F.NI_STATE_CFG_EN = false ∧
    slotWr.scan = none ∧ ({ slotWr with scan := some ⟨63, true, 0, 2⟩ } : SlotW).scan = some ⟨63, true, 0, 2⟩ ∧
    (let scanned (l : Option Nat) : State := slotted.modChain 143 (fun c => { c with scan := tset none c.scan 63 l })
     (scanned none).scanIndex 143 ⟨63, true, 0, 2⟩ = some 0 ∧ (scanned none).scanIndex 143 ⟨63, false, 0, 2⟩ = none ∧
       (scanned (some 0)).scanIndex 143 ⟨63, false, 0, 2⟩ = some 1 ∧ (scanned (some 0)).scanIndex 143 ⟨63, false, 1, 2⟩ = some 2 ∧
       ((scanned none).slotPut 143 { slotWr with slot := 0 }).2 = false ∧ ((scanned none).slotPut 143 slotWr).2 = true) ∧
    slotted.enabled 143 = true ∧ slotted.bit (A.NI_STATE_CFG 143 255) F.NI_STATE_CFG_EN = true ∧
    expandStamp slotWr.bits (slotted.nowOf 143) slotWr.stamp ≤ slotted.nowOf 143 ∧
    slotted.slotSt 143 255 = SlotSt.EMPTY ∧
    (let s := at' 9 (slotted.wr (A.NI_STATE_STAMP 143 255) (F.NI_STATE_STAMP_STATE.put (F.NI_STATE_STAMP_STAMP.put 0 5) 2))
     s.slotSt 143 255 ≠ SlotSt.EMPTY ∧ expandStamp 32 (s.nowOf 143) 0 < s.slotStamp 143 255) ∧
    ((slotted.modNi 143 (fun n => { n with rxReq := [sput] })).ni 143).rxReq = [sput] ∧ sput.h.cmd = Cmd.SPUT ∧
    (let a := sput.h.address.toNat
     let n := sput.h.bcount.toNat
     sput.h.dest = slotted.gid 143 ∧ sput.h.clean = true ∧ a < 2 ^ 14 ∧ 0 < n ∧ a % 64 + n ≤ 64 ∧ sput.h.len.toNat = lenFor a n ∧
       slotted.bit (A.NI_STATE_CFG 143 (a / 64 % 256)) F.NI_STATE_CFG_SPUT_EN = true ∧
       slotted.fld (A.NI_STATE_CFG 143 (a / 64 % 256)) F.NI_STATE_CFG_MIN_PRIV ≤ effPriv sput.h.src sput.h.priv ∧
       effPriv 5 0 < (slotted.setFld (A.NI_STATE_CFG 143 255) F.NI_STATE_CFG_MIN_PRIV 1).fld (A.NI_STATE_CFG 143 255)
         F.NI_STATE_CFG_MIN_PRIV) := by decide +kernel

theorem witness_SputPasses : sput.fails = false := by decide +kernel

/-- A read waiting for port 143, which may have 256 items outstanding. -/
def served : State :=
  (up.setFld (A.NI_PORT_CTL 143) F.NI_PORT_CTL_MAX_OUT 256).modNi 143 (fun n => { n with tq := [{ kind := 0, hdr := {} }] })
/-- A read of tag 255 outstanding. -/
def outstanding : State := served.modNi 143 (fun n => { n with tout := [(255, some { item := { kind := 0, hdr := {} }, at' := 0 })] })
/-- An answer of one beat waiting on IS. -/
def answering (n : Nat) : State :=
  up.modNi 143 (fun x => { x with isQ := [{ kind := 0, tag := 4095, status := 0, beats := List.replicate n (0, 0, 0) }] })

theorem witness_UnitChannels :
    (served.datum % 2 = 0 ∧ served.pwrUp 143 = true ∧ served.enabled 143 = true ∧
      served.bit (A.NI_PORT_STATUS 143) F.NI_PORT_STATUS_QREQ = false ∧ (served.ni 143).tqAt ≤ served.datum) ∧
    (let u := served.modNi 143 (fun n => { n with tqAt := served.datum + 1 })
     (u.choose 143).2.isSome = true) ∧
    (let u := up.modNi 143 (fun n => { n with tqAt := up.datum + 1 })
     (u.choose 143).2.isNone = true) ∧
    tsBad { tag := 255, status := 0, last := true, cpar := true } = false ∧ tsBad { tag := 255, status := 0, last := true } = true ∧
    (outstanding.ni 143).rsWait = none ∧ (outstanding.ni 143).tsAt ≤ outstanding.datum ∧
    (let u := (outstanding.modNi 143 (fun n => { n with tsAt := outstanding.datum + 1 })).ncnt 143 5
     ((u.interrupt 143 255).ni 143).tsDrop.contains 255 = false ∧ (tget none ((u.interrupt 143 255).ni 143).tout 255).isSome = true ∧
       (tget none ((u.interrupt 143 254).ni 143).tout 254).isNone = true) ∧
    ((answering 1).ni 143).isQ = [{ kind := 0, tag := 4095, status := 0, beats := (0, 0, 0) :: [] }] ∧
    ((answering 2).ni 143).isQ = [{ kind := 0, tag := 4095, status := 0, beats := (0, 0, 0) :: [(0, 0, 0)] }] ∧
    ((answering 1).ni 143).isAt ≤ (answering 1).datum := by decide

/-! ### Hypotheses: stakes -/

/-- Set `n` in state `c`, owned by port 5. -/
def setIn (n c : Nat) (s : State) : State :=
  (s.setFld (A.STK_SET_STATUS n) F.STK_SET_STATUS_STATE c).setFld (A.STK_SET_STATUS n) F.STK_SET_STATUS_OWNER 5
/-- A request of port 5 with operation `o` on a set. -/
def op (o : Nat) : Req := unit5 2 (F.STK_SET_CTL_OP.put (resetOf (A.STK_SET_CTL 7)) o)

theorem witness_SetOpenCloseAndAbort :
    (run.admits (A.STK_SET_CTL 6) (op 1) ∧ reqFld (op 1) F.STK_SET_CTL_OP = 1 ∧ run.setSt 6 = SetSt.IDLE ∧ run.openMode = true ∧
      (run.fld A.STK_CFG F.STK_CFG_RESERVE).testBit 6 = false ∧ (setIn 6 2 run).setSt 6 ≠ SetSt.IDLE ∧
      (inMode 6).openMode = false ∧
      ((run.setFld A.STK_CFG F.STK_CFG_RESERVE 64).fld A.STK_CFG F.STK_CFG_RESERVE).testBit 6 = true ∧ isFmp (op 1) = false) ∧
    (let s := setIn 6 SetSt.OPEN run
     s.admits (A.STK_SET_CTL 6) (op 2) ∧ reqFld (op 2) F.STK_SET_CTL_OP = 2 ∧ s.setSt 6 = SetSt.OPEN ∧
       s.ownsSet 6 (op 2) = true ∧ reqFld (op 2) F.STK_SET_CTL_GRAN ≠ 7 ∧ run.ownsSet 6 (op 2) = false) ∧
    (let s := setIn 6 SetSt.WAITING run
     reqFld (op 3) F.STK_SET_CTL_OP = 3 ∧ s.setSt 6 = SetSt.WAITING ∧ s.ownsSet 6 (op 3) = true ∧
       (∀ f ∈ [F.STK_SET_CTL_MODE, F.STK_SET_CTL_LATE_POLICY, F.STK_SET_CTL_GRAN], reqFld (op 3) f = s.fld (A.STK_SET_CTL 6) f) ∧
       SetSt.COMMITTED ≤ (setIn 6 5 run).setSt 6) ∧
    (let s := run.wr (A.STK_SET_T 6) 2048
     s.datum + 2048 ≤ roundUp (s.rd (A.STK_SET_T 6)).toNat 1 ∧ roundUp (s.rd (A.STK_SET_T 6)).toNat 1 < (at' 1 s).datum + 2048 ∧
       s.fld (A.STK_SET_CTL 6) F.STK_SET_CTL_LATE_POLICY = 0) := by decide

/-- A sequencer pass of command `c` under way at block `i`. -/
def passing (c i : Nat) (ws : List SeqWait) (s : State) : State :=
  { s with stk := { s.stk with pass := some { set := 6, cmd := c, idx := i, at' := 0, waits := ws } } }
/-- Block `b` in state `c` of set 6. -/
def blkIn (b c : Nat) (s : State) : State := s.setFld (setRegOf b 6) F.NI_STK_SET_STATE c
/-- A request of the FMP with a command to a block. -/
def cmd (c : Nat) : Req := fmp (F.NI_STK_EXP_CMD.put 0 c)

theorem witness_SequencerAndBlockCommands :
    (let s : State := { run with stk := { run.stk with reqs := [⟨6, PassCmd.COLLECT, 0⟩] } }
     s.stk.pass = none ∧ s.stk.reqs = [⟨6, PassCmd.COLLECT, 0⟩] ∧ s.noneAsleep = true) ∧
    (passing 1 192 [] run).stk.pass = some { set := 6, cmd := 1, idx := 192, at' := 0, waits := [] } ∧
    (passing 1 193 [⟨0, 0, 0⟩] run).datum < 0 + 131072 ∧
    (setIn 6 SetSt.OPENING run).setSt 6 = SetSt.OPENING ∧ (setIn 6 SetSt.CLOSING run).setSt 6 = SetSt.CLOSING ∧
    (∀ c ∈ [1, 2, 3, 4], run.admits (expOf 192 6) (cmd c) ∧ reqFld (cmd c) F.NI_STK_EXP_CMD = c) ∧
    run.blkSt 192 6 = BlkSt.IDLE ∧ (blkIn 192 1 run).blkSt 192 6 = BlkSt.COLLECT ∧ (blkIn 192 2 run).blkSt 192 6 = BlkSt.EXPECT ∧
    (blkIn 192 3 run).blkSt 192 6 = BlkSt.CALLED ∧ (blkIn 192 4 run).blkSt 192 6 = BlkSt.APPLYING := by decide

/-- What the controller sees of block 192 for set 6. -/
def showing (x : Bool × Bool × Bool) (s : State) : State :=
  { s with stk := { s.stk with blks := [(8 * 192 + 6, { hist := [(0, x)] })] } }

theorem witness_SetProgressCallsAndApply :
    (let s := (setIn 6 SetSt.WAITING run).wr (A.STK_SET_EFF_T 6) 256
     s.setSt 6 = SetSt.WAITING ∧ s.gFault 6 = false ∧ s.gReady 6 = true ∧
       s.stk.shadows.any (fun h => h.set = 6 && h.addr = A.GLB_FMP_IMAGE) = false ∧ (s.sset 6).asap = false ∧
       s.datum + 256 ≤ s.effT 6 ∧ s.datum ≤ s.closeT 6 + 65536 ∧
       ((s.modSet 6 (fun x => { x with asap := true })).sset 6).asap = true) ∧
    (at' 24 (showing (true, true, true) (setIn 6 SetSt.WAITING run))).gFault 6 = true ∧
    (let s := at' 24 (showing (false, false, true) (setIn 6 SetSt.WAITING run))
     s.gFault 6 = false ∧ s.gReady 6 = false ∧ s.effT 6 - 256 ≤ s.datum) ∧
    (((setIn 6 SetSt.ABORTING run).modSet 6 (fun x => { x with passed := true })).sset 6).passed = true ∧ run.gOpen 6 = false ∧
    (setIn 6 SetSt.COMMITTED run).effT 6 ≤ run.datum ∧
    (let s := at' 24 (setIn 6 SetSt.APPLYING run)
     s.setSt 6 = SetSt.APPLYING ∧ s.effT 6 + 24 ≤ s.datum ∧ (s.sset 6).stuck = false ∧ (s.sset 6).faulted = false ∧
       s.gFault 6 = false ∧ s.gOpen 6 = false ∧
       (((s.modSet 6 (fun x => { x with faulted := true })).seeFault 6).sset 6).faulted = true) ∧
    (let s := at' 65536 (showing (true, false, true) (setIn 6 SetSt.APPLYING run))
     s.effT 6 + 65536 ≤ s.datum ∧ s.gOpen 6 = true) ∧
    (let s := at' 24 (flying (.stakeCall 6) 300 0 run)
     s.arriving 191 (fun k => (callSet k).isSome) = some ⟨.stakeCall 6, 300, 0, []⟩) ∧
    (let s := blkIn 143 BlkSt.CALLED run
     s.blkSt 143 6 = BlkSt.CALLED ∧ (s.blk 143 6).t ≤ s.nowOf 143 ∧
       ((s.setFld (expOf 143 6) F.NI_STK_EXP_PRELOAD 1).setFld (expOf 143 6) F.NI_STK_EXP_PART 1).expF 143 6 F.NI_STK_EXP_PRELOAD = 1) ∧
    (let s := (blkIn 192 BlkSt.EXPECT run).setFld (expOf 192 6) F.NI_STK_EXP_PART 1
     s.blkSt 192 6 = BlkSt.EXPECT ∧ s.expF 192 6 F.NI_STK_EXP_PART = 1 ∧ s.expF 192 6 F.NI_STK_EXP_ASAP = 0 ∧
       (s.blk 192 6).t ≤ s.nowOf 192 ∧ s.setF 192 6 F.NI_STK_SET_MISSED = 0) := by decide

/-- An STW of 64 bytes to port 143 for set 6. -/
def stw : Pkt := Pkt.seal { dest := 143, src := 5, cmd := Cmd.STW, bcount := 64, stake := 6, priv := 2 } [0, 0]
/-- A shadow that a block discarded when it missed its call. -/
def lost : State :=
  { (serving 3).setFld (A.STK_SET_STATUS 6) F.STK_SET_STATUS_RESULT 2 with
    stk := { (serving 3).stk with missed := [{ blk := 143, addr := A.NI_TRAV_CTL 143, set := 6, val := 0 }] } }

theorem witness_StagedWritesAndShadows :
    ((up.modNi 143 (fun n => { n with rxReq := [stw] })).ni 143).rxReq = [stw] ∧ stw.h.cmd = Cmd.STW ∧
    stw.h.dest = up.gid 143 ∧ up.enabled 143 = true ∧ (blkIn 143 1 up).judgeStw 143 stw = (Code.OK, false, false, true) ∧
    up.blkSt 143 stw.h.stake.toNat = BlkSt.IDLE ∧ (blkIn 143 3 up).blkSt 143 stw.h.stake.toNat = BlkSt.CALLED ∧
    (let s := blkIn 143 1 ((run.setFld (bindOf 143) F.NI_STK_BIND_SET 6).setFld (bindOf 143) F.NI_STK_BIND_VALID 1)
     s.admits (A.NI_TRAV_CTL 143) (fmp 1) ∧ blkOf (A.NI_TRAV_CTL 143) = some (.ni 143, A.NI_TRAV_CTL 143 - A.niBase 143) ∧
       (∀ i ∈ List.range 36, Blk.ni 143 ≠ .stn i) ∧
       (rowAt (A.NI_TRAV_CTL 143)).map (fun row => (row.rwsFlds.isEmpty, (s.rwsWrite (A.NI_TRAV_CTL 143) row 1).isSome,
         (run.rwsWrite (A.NI_TRAV_CTL 143) row 1).isSome)) = some (false, true, false)) ∧
    (lost.stk.missed.filter (fun h => h.set = 6)).length = 1 ∧ lost.setSt 6 = SetSt.IDLE ∧
    lost.fld (A.STK_SET_STATUS 6) F.STK_SET_STATUS_RESULT = 2 ∧ lost.fmp.own7 = none ∧ lost.idle7 = true ∧
    ((own7 2 2).fmp.own7.map (·.kind) = some 2 ∧ (own7 2 2).setSt 7 = SetSt.OPEN) := by decide +kernel

theorem witness_StwsJudgedAndPlainShadows :
    (let st := (blkIn 143 1 up).blkSt 143 stw.h.stake.toNat
     let a := stw.h.address.toNat
     let k := stw.h.bcount.toNat
     st = BlkSt.COLLECT ∧ 1 ≤ k ∧ a % 64 + k ≤ 64 ∧ stw.h.len.toNat = lenFor a k ∧ stw.h.clean = true ∧
       up.fld (A.NI_STK_CTL 143) F.NI_STK_CTL_MIN_PRIV ≤ effPriv stw.h.src stw.h.priv) ∧
    (let s := (blkIn 143 2 up).setFld (A.NI_STK_CTL 143) F.NI_STK_CTL_MIN_PRIV 3
     s.judgeStw 143 stw = (Code.DENY, true, false, false)) ∧
    (blkIn 143 2 up).judgeStw 143 { stw with h := { stw.h with address := 1 } } = (Code.TGTERR, true, false, false) ∧
    (blkIn 143 2 up).judgeStw 143 stw = (Code.TGTERR, false, true, false) ∧
    (let s := ((blkIn 143 2 up).setFld (expOf 143 6) F.NI_STK_EXP_PART 1).setFld (expOf 143 6) F.NI_STK_EXP_STAGED 1
     s.judgeStw 143 stw = (Code.OK, false, false, true)) ∧
    (run.admits (A.STN_TRAV_CTL 35) (fmp 0) ∧ blkOf (A.STN_TRAV_CTL 35) = some (.stn 35, A.STN_TRAV_CTL 35 - A.stnBase 35) ∧
      (rowAt (A.STN_TRAV_CTL 35)).map (fun row => row.rwsFlds.isEmpty) = some false ∧ run.admits (A.STN_PLAT_CTL 35 10) (fmp 0) ∧
      blkOf (A.STN_PLAT_CTL 35 10) = some (.stn 35, A.STN_PLAT_CTL 35 10 - A.stnBase 35) ∧
      (rowAt (A.STN_PLAT_CTL 35 10)).map (fun row => row.rwsFlds.isEmpty) = some false) := by decide +kernel

theorem witness_StwPasses : stw.fails = false := by decide +kernel

/-! ### Hypotheses: injection, shapers, histograms, requests of a unit -/

/-- A read request of class `c` at the head of its class queue in port 143. -/
def queued (c : Nat) : State := up.modNi 143 (fun n => { n with
  clsQ := [(c, [{ pkt := { h := { cmd := Cmd.RD, cls := BitVec.ofNat 3 c, dest := 7 } }, kind := .access 0 }])] })

theorem witness_NiInjection :
    (up.ni 143).drove ≤ up.datum ∧ up.injects 143 = none ∧ (up.injMgt 143).isNone = true ∧ (up.injRsp 143).isNone = true ∧
    (up.injCls 143).2 = false ∧ up.datum < ((up.modNi 143 (fun n => { n with drove := 1 })).ni 143).drove ∧
    ((sourced [flit0]).injects 143).isSome = true ∧
    (let s := up.modNi 143 (fun n => { n with curMgt := some { out := { pkt := { h := {} }, kind := .response }, left := [] } })
     (s.injMgt 143).isSome = true) ∧
    (let s := up.modNi 143 (fun n => { n with curRsp := some { out := { pkt := { h := {} }, kind := .response }, left := [] } })
     (s.injMgt 143).isNone = true ∧ (s.injRsp 143).isSome = true) ∧
    ((queued 5).injCls 143).2 = true ∧ (queued 5).classPick 143 = some 5 ∧ (queued 6).classPick 143 = some 6 ∧
    (((up.modNi 143 (fun n => { n with lrx := { n.lrx with ret := [2] } })).injCls 143).1.ni 143).lrx.ret = [2] ∧
    ((up.injCls 143).1.ni 143).lrx.ret = [] ∧
    (up.modNi 143 (fun n => { n with cred := [(6, 0), (2, 0)] })).niCred 143 6 = false := by decide

/-- An administrative list of one entry, of duration 512, whose BASE is `b`. -/
def listed (b : Word) (s : State) : State :=
  (s.setFld (A.NI_SLUICE_ADMIN 143 0) F.NI_SLUICE_ADMIN_DURATION 512).wr (A.NI_SLUICE_BASE 143) b

theorem witness_ShapersSluiceAndHistograms :
    (let r := fmp (F.NI_SHAPE_RATE_RATE_C.put 0 65537)
     run.admits (A.NI_SHAPE_RATE 143 6) r ∧ 65536 < reqFld r F.NI_SHAPE_RATE_RATE_C) ∧
    (let r := fmp (F.NI_SHAPE_RATE_RATE_C.put 0 65536)
     reqFld r F.NI_SHAPE_RATE_RATE_C ≤ 65536 ∧ reqFld r F.NI_SHAPE_RATE_RATE_P ≤ 65536 ∧
       (run.plainWrite (A.NI_SHAPE_RATE 143 6) r).2 = Code.OK ∧
       (run.fld (A.NI_SHAPE_CTL 143) F.NI_SHAPE_CTL_RELOAD).testBit 6 = false) ∧
    (let r := fmp (F.FED_POLICE_SIZE_SIZE_C.put 0 2)
     run.admits (A.FED_POLICE_SIZE 11) r ∧ reqFld r F.FED_POLICE_SIZE_SIZE_C < 3) ∧
    (let r := fmp (F.FED_POLICE_SIZE_SIZE_P.put (F.FED_POLICE_SIZE_SIZE_C.put 0 3) 3)
     3 ≤ reqFld r F.FED_POLICE_SIZE_SIZE_C ∧ 3 ≤ reqFld r F.FED_POLICE_SIZE_SIZE_P ∧
       (run.plainWrite (A.FED_POLICE_SIZE 11) r).2 = Code.OK) ∧
    (let r := fmp (F.NI_SLUICE_CTL_ADMIN_LEN.put (F.NI_SLUICE_CTL_GO.put 0 1) 1)
     let s := listed 256 run
     s.admits (A.NI_SLUICE_CTL 143) r ∧ reqFld r F.NI_SLUICE_CTL_ADMIN_LEN = 1 ∧ reqFld r F.NI_SLUICE_CTL_GO = 1 ∧
       reqFld r F.NI_SLUICE_CTL_CANCEL = 0 ∧ s.bit (A.NI_SLUICE_STATUS 143) F.NI_SLUICE_STATUS_PENDING = false ∧
       (∀ k, k < 1 → s.duration 143 false k ≠ 0)) ∧
    (let r := fmp (F.NI_SLUICE_CTL_ADMIN_LEN.put (F.NI_SLUICE_CTL_CANCEL.put 0 1) 1)
     let s := (run.setFld (A.NI_SLUICE_CTL 143) F.NI_SLUICE_CTL_ADMIN_LEN 1).setFld (A.NI_SLUICE_STATUS 143) F.NI_SLUICE_STATUS_PENDING 1
     s.admits (A.NI_SLUICE_CTL 143) r ∧ reqFld r F.NI_SLUICE_CTL_CANCEL = 1 ∧
       reqFld r F.NI_SLUICE_CTL_ADMIN_LEN = s.fld (A.NI_SLUICE_CTL 143) F.NI_SLUICE_CTL_ADMIN_LEN ∧
       s.bit (A.NI_SLUICE_STATUS 143) F.NI_SLUICE_STATUS_PENDING = true ∧ (s.rd (A.NI_SLUICE_START 143)).toNat ≤ s.nowOf 143) ∧
    (let s := run.setFld (A.NI_HIST_CTL 143) F.NI_HIST_CTL_DEPTH_EXP 4
     (at' 1 s).nowOf 143 % 2 ^ s.fld (A.NI_HIST_CTL 143) F.NI_HIST_CTL_DEPTH_EXP ≠ 0 ∧
       s.nowOf 143 % 2 ^ s.fld (A.NI_HIST_CTL 143) F.NI_HIST_CTL_DEPTH_EXP = 0 ∧
       (s.setFld (A.NI_HIST_CTL 143) F.NI_HIST_CTL_FREEZE 1).bit (A.NI_HIST_CTL 143) F.NI_HIST_CTL_FREEZE = true ∧
       s.bit (A.NI_HIST_CTL 143) F.NI_HIST_CTL_FREEZE = false ∧ (s.ni 143).histAt ≤ s.datum ∧
       (let u := s.modNi 143 (fun n => { n with histAt := 1 })
        u.datum < (u.ni 143).histAt)) ∧
    (let r := fmp (F.NI_HIST_CTL_CLEAR.put (F.NI_HIST_CTL_DEPTH_EXP.put 0 20) 1)
     run.admits (A.NI_HIST_CTL 143) r ∧ reqFld r F.NI_HIST_CTL_DEPTH_EXP = 20 ∧ reqFld r F.NI_HIST_CTL_CLEAR = 1 ∧
       (run.plainWrite (A.NI_HIST_CTL 143) r).2 = Code.OK ∧ run.admits (A.NI_HIST_CTL 143) (fmp 0) ∧
       reqFld (fmp 0) F.NI_HIST_CTL_DEPTH_EXP < 4) := by decide

/-- Region 31 of port 143 of 4 KiB at 0: kind `k`, type `y`, destination port 7. -/
def region (k y : Nat) : State :=
  up.wr (A.NI_REGION_CFG 143 31) (F.NI_REGION_CFG_VALID.put (F.NI_REGION_CFG_KIND.put (F.NI_REGION_CFG_TYPE.put
    (F.NI_REGION_CFG_DEST.put 0 7) y) k) 1)
/-- The request that the beat `b` of operation `o` completes in `s`, accepted and well driven; the state that has accepted it. -/
def taken' (s : State) (o : Nat) (b : IqBeat) : Option (IqReq × State) :=
  let op := s.iqOp 143 o b
  let q := s.iqReq 143 o b
  if s.accepts 143 o b ∧ b.last = true ∧ iqBad o b = false ∧ q.good op then some (q, (s.iqMoved 143 o b).iqTaken 143 op) else none
/-- The translation of its address: kind and type, with whether the port is restricted and whether a store would merge. -/
def xlat (s : State) (o : Nat) (b : IqBeat) : Option (Nat × Nat × Bool × Bool) :=
  (taken' s o b).bind (fun e => (e.2.translate 143 e.1.addr.toNat e.1.size.toNat).map (fun x =>
    (x.kind, x.ty, e.2.restricted 143, mergeable e.1 x)))

theorem witness_UnitAccesses :
    iqRequest (.loadRsv 143 (beat 3 0 8)) = some (143, 3, beat 3 0 8) ∧
    ((taken' up 0 (beat 0 0 8)).map (fun e => (e.2.translate 143 e.1.addr.toNat e.1.size.toNat).isNone)) = some true ∧
    (∀ o ∈ [0, 1, 2, 3, 4], xlat (region 0 0) o (beat o 0 8) = some (0, 0, false, true)) ∧
    (∀ o ∈ [1, 2, 3, 4], xlat (region 0 3) o (beat o 0 8) = some (0, 3, false, false)) ∧
    xlat (region 0 2) 1 (beat 1 0 8) = some (0, 2, false, false) ∧ xlat (region 0 1) 1 (beat 1 0 8) = some (0, 1, false, false) ∧
    (∀ o ∈ [0, 1, 2, 3, 4], (xlat (region 1 0) o (beat o 0 8)).map (·.1) = some 1) ∧
    (∀ o ∈ [0, 1, 2, 3], (xlat (region 2 0) o (beat o 4088 8)).map (·.1) = some 2) ∧
    (xlat (region 2 0) 0 (beat 0 4080 16)).map (·.1) = some 2 ∧ (xlat (region 2 0) 0 (beat 0 4084 8)).map (·.1) = some 2 ∧
    cfgPort 4088 = .inr 240 := by decide +kernel

/-- The second beat of the store of 8 bytes at 60. -/
def second : IqBeat := driven 1 { addr := 60, size := 8, be := beOf 60 8 1 }

theorem witness_LongAndRestrictedAccesses :
    (xlat ((region 0 0).setFld A.GLB_MODE F.GLB_MODE_MODE Mode.ENUMERATE) 0 (beat 0 0 8)).map (fun x => (x.1, x.2.2.1)) = some (0, true) ∧
    xlat (midway (region 0 0)) 1 second = some (0, 0, false, false) ∧ xlat (midway (region 0 2)) 1 second = some (0, 2, false, false) := by
  decide +kernel

theorem witness_PutsMessagesMergingAndBarriers :
    (let b := driven 6 { size := 32, chain := 63 }
     let s := (sourced []).setFld (A.NI_PORT_STATUS 143) F.NI_PORT_STATUS_PWR_UP 1
     iqRequest (.chainPut 143 b) = some (143, 6, b) ∧
       (taken' s 6 b).map (fun e => (e.1.chain.toNat, e.2.srcValid 143 63, e.2.restricted 143, e.2.putFull 143 63)) =
         some (63, true, false, false) ∧
       (taken' (s.setFld A.GLB_MODE F.GLB_MODE_MODE Mode.ENUMERATE) 6 b).map (fun e => (e.2.srcValid 143 63, e.2.restricted 143)) =
         some (true, true) ∧
       (taken' up 6 b).map (fun e => e.2.srcValid 143 63) = some false) ∧
    (let b (a : Word) := driven 7 { addr := a, size := 64 }
     ((taken' up 7 (b 0x3FF1FC0)).isSome = true ∧ 0x3FF1FC0 % 64 = 0 ∧ 0x3FF1FC0 / 2 ^ 13 % 8 = 0 ∧ 0x3FF1FC0 < 2 ^ 26) ∧
       ((taken' up 7 (b 0x2000)).isSome = true ∧ 0x2000 / 2 ^ 13 % 8 ≠ 0 ∧ (taken' up 7 (b 1)).isSome = true ∧ 1 % 64 ≠ 0 ∧
         (taken' up 7 (b 0x4000000)).isSome = true ∧ 2 ^ 26 ≤ 0x4000000)) ∧
    (let b (a : Word) (c : BitVec 2) := driven 5 { addr := a, bscope := c }
     let s := region 0 0
     let far := s.setFld A.GLB_FED_ID F.GLB_FED_ID_INSTANCE 1
     (taken' s 5 (b 4095 0)).map (fun e => (e.2.restricted 143, (e.2.translate 143 4095 0).isSome)) = some (false, true) ∧
       (taken' s 5 (b 4096 0)).map (fun e => (e.2.translate 143 4096 0).isNone) = some true ∧
       (taken' far 5 (b 0 2)).map (fun e => ((e.2.translate 143 0 0).map (fun x => decide (gidInst x.dest ≠ e.2.instance')), e.1.bscope)) =
         some (some true, 2)) := by decide +kernel

theorem witness_MergingAndBarriers :
    (let r := fmp (F.NI_MERGE_CTL_FLUSH.put (F.NI_MERGE_CTL_WINDOW.put 0 1) 1)
     run.admits (A.NI_MERGE_CTL 143) r ∧ reqFld r F.NI_MERGE_CTL_WINDOW ≠ 0 ∧ reqFld r F.NI_MERGE_CTL_FLUSH = 1 ∧
       (run.plainWrite (A.NI_MERGE_CTL 143) r).2 = Code.OK ∧ run.admits (A.NI_MERGE_CTL 143) (fmp 0) ∧
       reqFld (fmp 0) F.NI_MERGE_CTL_WINDOW = 0) ∧
    (let b : Bar := { tag := 0, kind := 0, scope := 0, qos := 0, addr := 0, d := 7, seq := 0 }
     let s (b : Bar) : State := up.modNi 143 (fun n => { n with barrs := [b], posted := [] })
     ((s b).ni 143).barrs = [b] ∧ (s { b with st := 1 }).flushDone 143 { b with st := 1 } = true ∧
       (let o : OutPkt := { pkt := { h := { cmd := Cmd.WRP, dest := 7 } }, kind := .access 0 }
        ((s { b with st := 1 }).modNi 143 (fun n => { n with rqBuild := [o] })).flushDone 143 { b with st := 1 } = false) ∧
       ((List.range 256).filter (fun d => (s b).barCovers b d && (s b).fence 143 d)) = [] ∧
       (let t := (s b).setFld (A.NI_BAR_FENCE 143 0) ⟨7, 1⟩ 1
        ((List.range 256).filter (fun d => t.barCovers b d && t.fence 143 d)) ≠ []) ∧
       (up.ni 143).rqWait = none ∧ (up.ni 143).barQ = []) ∧
    (∀ l ∈ (up.ni 143).merge, false = true) := by decide

/-! ### Hypotheses: the target side, ports, mailboxes -/

/-- A request for port 143 of command `c` and `n` bytes at 64, with the units `us`. -/
def tgt (c : BitVec 6) (n : BitVec 10) (us : List (BitVec 256)) : Pkt :=
  Pkt.seal { dest := 143, src := 5, cmd := c, bcount := n, address := 64, priv := 2 } us
/-- Port 143 with exclusive capability. -/
def excl : State := up.wr (A.NI_DESC 143 2) 1
/-- Port 143 with monitor 63 of line 1 held by source 5 for 8 bytes at 64, granted at datum 0, whose NEXT is `n`. -/
def held (n : Nat) : State := (excl.grantMon 143 63 1 64 8 5).setFld (A.NI_MONITOR_OWN 143 63) F.NI_MONITOR_OWN_NEXT n

theorem witness_TargetRequests :
    (let s := up.modNi 143 (fun n => { n with rxReq := [tgt Cmd.RD 8 []] })
     (s.ni 143).entryAt ≤ s.datum ∧ (s.ni 143).rxReq = tgt Cmd.RD 8 [] :: [] ∧ (tgt Cmd.RD 8 []).h.cmd ≠ Cmd.STW ∧
       (tgt Cmd.RD 8 []).h.cmd ≠ Cmd.SPUT) ∧
    (let s := up.modNi 143 (fun n => { n with rxMgt := [tgt Cmd.CRD 8 []] })
     (s.ni 143).entryAt ≤ s.datum ∧ (s.ni 143).rxReq = [] ∧ (s.ni 143).rxMgt.find? mgtMisfit = some (tgt Cmd.CRD 8 []) ∧
       ((up.modNi 143 (fun n => { n with rxReq := [stw] })).ni 143).rxReq = [stw]) ∧
    (let s := up.modNi 143 (fun n => { n with entryAt := 1 })
     s.datum < (s.ni 143).entryAt) ∧
    (tgt Cmd.RD 8 []).h.dest ≠ up.gid 142 ∧ (tgt Cmd.RD 8 []).h.dest = up.gid 143 ∧ Machine.served Cmd.CRD = false ∧ Machine.served Cmd.RD = true ∧
    ({ tgt Cmd.RD 8 [] with poison := true } : Pkt).fails = true ∧ up.enabled 143 = true ∧ run.enabled 143 = false ∧
    wellMade (tgt Cmd.RD 0 []) = false ∧ wellMade (tgt Cmd.RD 512 []) = true ∧ (tgt Cmd.BAR 0 []).h.bkind = 0 ∧
    excl.exclRefused 143 (tgt Cmd.WRX 8 [0]) = false ∧ excl.wrxMon 143 64 8 5 = none ∧ (held noGid).wrxMon 143 64 8 5 = some 63 ∧
    up.exclRefused 143 (tgt Cmd.RDX 8 []) = true ∧ excl.exclRefused 143 (tgt Cmd.RDX 16 []) = true := by decide +kernel

theorem witness_TargetRequestPasses : (tgt Cmd.RD 8 []).fails = false := by decide +kernel

/-- A request of tag 4095 of port 143 whose timer runs to datum 8, with a retry due at `d`. -/
def open' (d : Option Nat) : State :=
  up.setReq 143 4095 (some { kind := .access 0, hdr := {}, start := some 0, expire := 8, retryAt := d })

theorem witness_MonitorsResponsesAndTimers :
    (let life := 256 * (held 9).fld (A.NI_EXCL_CTL 143) F.NI_EXCL_CTL_LIFE
     (held 9).monValid 143 63 = true ∧ ((held 9).mon 143 63).granted + life ≤ (at' life (held 9)).nowOf 143 ∧
       ¬((held 9).mon 143 63).granted + life ≤ (at' (life - 1) (held 9)).nowOf 143 ∧ excl.monValid 143 63 = false) ∧
    (held 9).monNext 143 63 ≠ noGid ∧
    (let s := (held 9).freeMon 143 63
     s.monHand 143 63 = true ∧ (s.mon 143 63).handEnd ≤ (at' 20480 s).nowOf 143 ∧ s.nowOf 143 < (s.mon 143 63).handEnd) ∧
    ((open' (some 4)).req 143 4095).map (·.retryAt) = some (some 4) ∧ (open' (some 4)).datum < 4 ∧ 4 ≤ (at' 4 (open' (some 4))).datum ∧
    ((up.modNi 143 (fun n => { n with rxRsp := [tgt Cmd.RDR 0 []] })).ni 143).rxRsp = tgt Cmd.RDR 0 [] :: [] ∧
    ((up.ni 143).rxRsp = [] ∧ (up.ni 143).rxMgt.find? mgtResponse = none) ∧
    ((up.modNi 143 (fun n => { n with rxMgt := [tgt Cmd.CWA 8 []] })).ni 143).rxMgt.find? mgtResponse = some (tgt Cmd.CWA 8 []) ∧
    ((open' none).req 143 4095).map (fun r => (open' none).rspHere 143 4095 r) = some false ∧
    ((open' none).req 143 4095).map (fun r => (r.start, r.expire)) = some (some 0, 8) ∧ (open' none).datum < 8 ∧
    8 ≤ (at' 8 (open' none)).datum ∧
    ((up.setBar 143 4095 (some { kind := .drainBar 0, hdr := {} })).bar 143 (8191 - 4096)).map (·.start) = some none ∧
    (let s := up.quarantine 143 8191
     let d := s.fld (A.NI_TIMEOUT 143) F.NI_TIMEOUT_QUAR * 1024
     tget none (s.ni 143).quar 8191 = some d ∧ s.datum < d ∧ d ≤ (at' d s).datum) := by decide +kernel

/-- A write of NI_CTL with command `c`. -/
def ctl (c : Nat) : Req := fmp (F.NI_CTL_CMD.put 0 c)

theorem witness_PortCommands :
    run.mode ≠ Mode.OFF ∧ isFmp (unit5 2 1) = false ∧
    (∀ c ∈ [0, 1, 2, 3, 4, 5, 6, 7], ∀ st ∈ [0, 1, 2, 3, 4], (port 143 st run).admits (A.NI_CTL 143) (ctl c) ∧ isFmp (ctl c) = true ∧
      reqFld (ctl c) F.NI_CTL_CMD = c ∧ (port 143 st run).niState 143 = st) ∧
    ((port 143 0 run).setFld (A.NI_PORT_STATUS 143) F.NI_PORT_STATUS_DESC_STATE 2).fld (A.NI_PORT_STATUS 143)
      F.NI_PORT_STATUS_DESC_STATE = 2 := by decide

/-- The domain of port 143 asked for (`r`) and acknowledged (`a`). -/
def domain (r a : Nat) (s : State) : State :=
  (s.setFld (A.NI_DOM 143) F.NI_DOM_REQ r).setFld (A.NI_DOM 143) F.NI_DOM_ACK a
/-- Port 143 in state `c`, its quiescence asked for at datum 0. -/
def leaving (c : Nat) : State := ((port 143 c run).setFld (A.NI_PORT_STATUS 143) F.NI_PORT_STATUS_QREQ 1).modNi 143
  (fun n => { n with qreqAt := some 0 })
/-- The same with its requests shut off. -/
def shutting (c : Nat) : State := (leaving c).modNi 143 (fun n => { n with iqShut := true })
/-- Port 143 reading its descriptor: beat `j`, asked for at datum 2. -/
def reading (j : Nat) : State := up.modNi 143 (fun n => { n with desc := some (j, 2) })
/-- Item 255 of kind `k` outstanding since datum 0, at datum `d`. -/
def hung (d k : Nat) : State :=
  at' d (outstanding.modNi 143 (fun n => { n with tout := [(255, some { item := { kind := k, hdr := {} }, at' := 0 })] }))
/-- Event message of source 1535 queued, the last one built at `d`. -/
def evm (d : Option Nat) : State := { run with glb := { run.glb with evmQ := [(1535, 0)], evmAt := d } }

theorem witness_PowerHandshakeDescriptorAndEvents :
    ((domain 1 1 run).datum % 2 = 0 ∧ (domain 1 1 run).pwrUp 143 = false ∧ (domain 1 1 run).bit (A.NI_DOM 143) F.NI_DOM_ACK = true ∧
      (domain 1 1 run).niState 143 = PortStt.DISABLED ∧ up.pwrUp 143 = true) ∧
    ((leaving 2).bit (A.NI_PORT_STATUS 143) F.NI_PORT_STATUS_QREQ = true ∧
      ((leaving 2).setFld (A.NI_PORT_STATUS 143) F.NI_PORT_STATUS_QACK 1).tsOut 143 = 0 ∧
      up.bit (A.NI_PORT_STATUS 143) F.NI_PORT_STATUS_QREQ = false ∧ up.bit (A.NI_PORT_STATUS 143) F.NI_PORT_STATUS_QACK = false) ∧
    (∀ c ∈ [2, 4], ((shutting c).ni 143).iqShut = true ∧ (shutting c).unitDone 143 = true ∧ (shutting c).niState 143 = c) ∧
    (let lim := 2048 * (leaving 2).fld (A.NI_PORT_CTL 143) F.NI_PORT_CTL_QACK_LIMIT
     ((leaving 2).ni 143).qreqAt = some 0 ∧ ((leaving 2).ni 143).iqShut = false ∧ 0 + lim ≤ (at' lim (leaving 2)).datum) ∧
    (let lim := 128 * outstanding.fld (A.NI_PORT_CTL 143) F.NI_PORT_CTL_TS_LIMIT
     tget none ((hung lim 4).ni 143).tout 255 = some { item := { kind := 4, hdr := {} }, at' := 0 } ∧ outstanding.datum < 0 + lim ∧
       0 + lim ≤ (hung lim 4).datum ∧
       (let u := (((hung lim 4).setFld (A.NI_CTL 143) F.NI_CTL_AUTO_ISO_HANG 0).portErr 143 9 255).niCause 143 1
        u.bit (A.NI_CTL 143) F.NI_CTL_AUTO_ISO_HANG = false) ∧
       (let u := (((hung lim 0).setFld (A.NI_CTL 143) F.NI_CTL_AUTO_ISO_HANG 1).portErr 143 9 255).niCause 143 1
        u.bit (A.NI_CTL 143) F.NI_CTL_AUTO_ISO_HANG = true ∧ u.niState 143 = PortStt.ENABLED)) ∧
    (let s := domain 1 1 ((port 143 2 run).setFld (A.NI_CTL 143) F.NI_CTL_PWR_DOWN_OK 1)
     s.niState 143 = PortStt.QUIESCE ∧ s.bit (A.NI_CTL 143) F.NI_CTL_PWR_DOWN_OK = true ∧ s.bit (A.NI_DOM 143) F.NI_DOM_REQ = true ∧
       s.bit (A.NI_DOM 143) F.NI_DOM_ACK = true ∧ (domain 0 1 run).bit (A.NI_DOM 143) F.NI_DOM_REQ = false) := by decide

theorem witness_DescriptorAndEvents :
    (let d : Word := F.NI_PORT_CTL_DESC_GO.put (up.rd (A.NI_PORT_CTL 143)) 1
     up.admits (A.NI_PORT_CTL 143) (fmp d) ∧ reqFld (fmp d) F.NI_PORT_CTL_DESC_GO = 1 ∧ reqFld (fmp d) F.NI_PORT_CTL_QACK_LIMIT ≠ 0 ∧
       reqFld (fmp d) F.NI_PORT_CTL_TS_LIMIT ≠ 0 ∧ 1 ≤ reqFld (fmp d) F.NI_PORT_CTL_MAX_OUT ∧ reqFld (fmp d) F.NI_PORT_CTL_MAX_OUT ≤ 256 ∧
       (up.plainWrite (A.NI_PORT_CTL 143) { fmp d with data := F.NI_PORT_CTL_DESC_GO.put (fmp d).data 0 }).2 = Code.OK ∧
       isFmp (fmp d) = true ∧ (up.ni 143).desc = none ∧ up.tsOut 143 = 0 ∧ (up.ni 143).tqBeat = 0 ∧
       run.admits (A.NI_PORT_CTL 143) (fmp d) ∧ run.pwrUp 143 = false ∧ ((reading 0).ni 143).desc.isSome = true) ∧
    ((at' 4 (reading 3)).datum % 2 = 0 ∧ (reading 3).pwrUp 143 = true ∧ ((reading 3).ni 143).desc = some (3, 2) ∧
      2 < (at' 4 (reading 3)).datum ∧ ((reading 2).ni 143).desc = some (2, 2) ∧ (at' 2049 (reading 0)).datum < 2 + 2048 ∧
      2 + 2048 ≤ (at' 2050 (reading 0)).datum) ∧
    ((at' 1 up).datum % 2 ≠ 0 ∧ up.datum % 2 = 0) ∧
    ((evm (some 0)).glb.evmQ = (1535, 0) :: [] ∧ (evm (some 0)).glb.evmAt = some 0 ∧ (evm (some 0)).datum < 0 + 16 ∧
      (evm none).glb.evmAt = none ∧ 0 + 16 ≤ (at' 16 (evm (some 0))).datum) := by decide

/-- Channel 127 enabled for any sender and the receiver 240, declared a pair with channel 126, holding `ms`. -/
def chan (ms : List Msg) : State :=
  let cfg (p : Nat) : Word := F.MBX_CH_CFG_PAIR.put (F.MBX_CH_CFG_PAIR_VALID.put (F.MBX_CH_CFG_RECEIVER.put (F.MBX_CH_CFG_ANY.put
    (F.MBX_CH_CFG_ENABLE.put 0 1) 1) 240) 1) p
  { (run.wr (A.MBX_CH_CFG 127) (cfg 126)).wr (A.MBX_CH_CFG 126) (cfg 127) with mbx := [(127, ms)] }
/-- An MSG to channel 127 at address `a`. -/
def posted (a : Word) : Pkt := Pkt.seal { dest := 240, src := 5, cmd := Cmd.MSG, bcount := 64, address := a, priv := 1 } [0, 0]

theorem witness_MailboxFifoAndConfiguration :
    (let s : State := { chan [] with glb := { run.glb with rx := [posted 0x1FC0] } }
     s.glb.rx.find? (fun q => q.h.cmd = Cmd.MSG) = some (posted 0x1FC0) ∧ (0x1FC0 : BitVec 64).toNat % 64 = 0 ∧
       (posted 0x1FC0).h.address.toNat < 2 ^ 13 ∧ (posted 0x1FC0).h.bcount = 64 ∧ (posted 0x1FC0).h.len = 2 ∧
       (posted 0x1FC0).h.clean = true ∧ s.msgFree = true ∧ (at' 3 s).msgFree = false ∧ 2 ^ 13 ≤ (posted 0x2000).h.address.toNat ∧ (posted 1).h.address.toNat % 64 ≠ 0) ∧
    ((chan []).chBit 127 F.MBX_CH_CFG_ENABLE = true ∧ run.chBit 127 F.MBX_CH_CFG_ENABLE = false ∧ (chan []).chBit 127 F.MBX_CH_CFG_ANY = true ∧
      (chan []).fld (A.MBX_CH_CFG 127) F.MBX_CH_CFG_MIN_PRIV ≤ 0 ∧ (chan []).rcvPort 127 = 240 ∧
      0 < ((chan []).setFld (A.MBX_CH_CFG 127) F.MBX_CH_CFG_MIN_PRIV 1).fld (A.MBX_CH_CFG 127) F.MBX_CH_CFG_MIN_PRIV ∧
      4 ≤ ((chan (List.replicate 4 (msg 1 [])) ).msgs 127).length ∧ ((chan []).mbxPut 127 5 1 0).2 = Code.OK ∧
      ((chan (List.replicate 4 (msg 1 []))).mbxPut 127 5 1 0).2 ≠ Code.OK) ∧
    ((chan [msg 1 []]).admits (A.MBX_CH_CTL 127) (fmp (F.MBX_CH_CTL_POP.put 0 1)) ∧ (chan [msg 1 []]).mbxTurn ∧ run.mbxTurn ∧
      (at' 3 run).glb.mbxSkip = 0 ∧ (at' 3 run).accFree = false ∧
      reqFld (fmp (F.MBX_CH_CTL_POP.put 0 1)) F.MBX_CH_CTL_POP = 1 ∧ run.admits (A.MBX_CH_CTL 127) (fmp 0) ∧
      reqFld (fmp 0) F.MBX_CH_CTL_POP = 0) ∧
    (let off : Word := F.MBX_CH_CFG_ENABLE.put ((chan []).rd (A.MBX_CH_CFG 127)) 0
     (chan [msg 1 []]).admits (A.MBX_CH_CFG 127) (fmp off) ∧ (chan [msg 1 []]).mbxCfgOk 127 off = true ∧
       reqFld (fmp off) F.MBX_CH_CFG_ENABLE = 0 ∧ run.admits (A.MBX_CH_CFG 127) (fmp (F.MBX_CH_CFG_RECEIVER.put 1 144)) ∧
       run.mbxCfgOk 127 (F.MBX_CH_CFG_RECEIVER.put 1 144) = false ∧ run.mbxCfgOk 127 (F.MBX_CH_CFG_RECEIVER.put 1 143) = true) ∧
    (let s := (chan [msg 1 []]).setFld (A.MBX_CH_STATUS 127) F.MBX_CH_STATUS_LANDED 1
     s.bit (A.MBX_CH_STATUS 127) F.MBX_CH_STATUS_LANDED = true ∧ s.rcvDown 127 = false ∧
       (s.setFld (A.MBX_CH_CFG 127) F.MBX_CH_CFG_RECEIVER 143).rcvDown 127 = true) ∧
    (let s : State := { chan [] with glb := { run.glb with cross := [(126, some 0)] } }
     s.pairOf 127 = some 126 ∧ tget none s.glb.cross (min 127 126) = some 0 ∧ mclkNo (at' 5460 s).datum < mclkNo 0 + 4096 ∧
       mclkNo 0 + 4096 ≤ mclkNo (at' 5461 s).datum ∧ s.popCounts 127 = false ∧ s.popCounts 126 = false ∧
       ({ s with pending := [.mailboxPop 126 (fmp (F.MBX_CH_CTL_POP.put 0 1))] } : State).popCounts 126 = true) := by decide +kernel

/-! ### Registers and bytes that nothing has written -/

/-- A register that the store does not list reads as at reset. -/
theorem rd_unlisted (s : State) (a : Nat) (h : ∀ e ∈ s.regs, e.1 ≠ a) : s.rd a = resetOf a := by
  unfold State.rd
  generalize s.regs = l at h ⊢
  induction l with
  | nil => rfl
  | cons e l ih =>
    have : a ≠ e.1 := fun x => h e (by simp) x.symm
    simp only [Store.get, if_neg this]
    exact ih (fun x hx => h x (by simp [hx]))

/-- Offsets of the source and destination entries of a block. -/
def entryOff (src : Bool) (k : Nat) : Nat := (if src then 0x800 else 0xE00) + 8 * k

theorem entry_rows : ∀ src, ∀ k < 64, ((Blk.ni 0).rows.find? (fun r => r.covers (entryOff src k))).map (·.reset) = some 0 ∧
    ((Blk.fed 0).rows.find? (fun r => r.covers (entryOff src k))).map (·.reset) = some 0 := by decide +kernel

/-- The address of an entry. -/
def entryReg (src : Bool) (b k : Nat) : Nat := if src then srcCfgOf b k else dstCfgOf b k

theorem entry_blk (src : Bool) (b k : Nat) (hb : b < 156) (hk : k < 64) :
    blkOf (entryReg src b k) = some (if b < 144 then .ni b else .fed (b - 144), entryOff src k) := by
  unfold entryReg srcCfgOf dstCfgOf entryOff A.NI_CHAIN_SRC_CFG A.NI_CHAIN_DST_CFG A.FED_CHAIN_SRC_CFG A.FED_CHAIN_DST_CFG A.niBase A.fedBase
  by_cases h : b < 144 <;> cases src <;> simp only [h, if_true, if_false, Bool.false_eq_true] <;> unfold blkOf
  all_goals (repeat' split) <;> first | omega | (simp only [Option.some.injEq, Prod.mk.injEq, Blk.ni.injEq, Blk.fed.injEq]; omega)

theorem entry_reset (src : Bool) (b k : Nat) (hb : b < 156) (hk : k < 64) : resetOf (entryReg src b k) = 0 := by
  have h := entry_rows src k hk
  unfold resetOf
  rw [entry_blk src b k hb hk]
  by_cases h1 : b < 144
  · simp only [h1, if_true]
    have h2 := h.1
    unfold rowOf
    simp only [Blk.rows] at h2 ⊢
    revert h2
    cases List.find? (fun r => r.covers (entryOff src k)) niRows with
    | none => simp
    | some r => intro h2; simp at h2; simp [h2]
  · simp only [h1, if_false]
    have h2 := h.2
    unfold rowOf
    simp only [Blk.rows] at h2 ⊢
    revert h2
    cases List.find? (fun r => r.covers (entryOff src k)) fedRows with
    | none => simp
    | some r => intro h2; simp at h2; simp [h2]

theorem entry_place (src : Bool) (b k : Nat) (hb : b < 156) (hk : k < 64) :
    0x400000 ≤ entryReg src b k ∧ (src = false → 0xE00 ≤ entryReg src b k % 0x10000) := by
  unfold entryReg srcCfgOf dstCfgOf A.NI_CHAIN_SRC_CFG A.NI_CHAIN_DST_CFG A.FED_CHAIN_SRC_CFG A.FED_CHAIN_DST_CFG A.niBase A.fedBase
  cases src <;> by_cases h : b < 144 <;> simp [h] <;> omega

/-- Where no register of a network interface has been written, no chain has a source. -/
theorem chainSrc_none (s : State) (c : Nat) (h : s.regs.all (fun e => decide (e.1 < 0x400000)) = true) : s.chainSrc c = none := by
  have : s.planSrcs {} = [] := by
    unfold State.planSrcs
    rw [List.flatMap_eq_nil_iff]
    intro b hb
    rw [List.filterMap_eq_nil_iff]
    intro k hk
    rw [List.mem_range] at hb hk
    have e : s.rd (srcCfgOf b k) = 0 := by
      rw [rd_unlisted s (srcCfgOf b k)]
      · exact entry_reset true b k hb hk
      · intro e he x
        have := (entry_place true b k hb hk).1
        have := of_decide_eq_true (List.all_eq_true.mp h e he)
        simp only [entryReg, if_true] at *
        omega
    simp [State.planReg, e, Fld.get]
  simp [State.chainSrc, this]

/-- Where no destination entry has been written, no chain has a destination. -/
theorem chainDsts_nil (s : State) (c : Nat)
    (h : s.regs.all (fun e => decide (e.1 < 0x400000) || decide (e.1 % 0x10000 < 0xE00)) = true) : s.chainDsts c = [] := by
  have : s.planDsts {} = [] := by
    unfold State.planDsts
    rw [List.flatMap_eq_nil_iff]
    intro b hb
    rw [List.filterMap_eq_nil_iff]
    intro k hk
    rw [List.mem_range] at hb hk
    have e : s.rd (dstCfgOf b k) = 0 := by
      rw [rd_unlisted s (dstCfgOf b k)]
      · exact entry_reset false b k hb hk
      · intro e he x
        have := entry_place false b k hb hk
        have := List.all_eq_true.mp h e he
        simp only [entryReg, Bool.or_eq_true, decide_eq_true_eq] at *
        simp at *
        omega
    simp [State.planReg, e, Fld.get]
  simp [State.chainDsts, this]

/-- Where no byte of the bulk memory has been written, bank 0 holds no route. -/
theorem bankFilled_empty (s : State) (h : s.mem = []) : s.bankFilled = false := by
  have : ∀ t a b, s.routeAt t a b = 0 := by
    intro t a b
    have e : ∀ n x, s.rdMem x n = 0 := by
      intro n
      induction n with
      | zero => intro x; rfl
      | succ n ih => intro x; simp [State.rdMem, State.rdByte, h, Store.get, ih]
    simp [State.routeAt, e]
  simp [State.bankFilled, this, noRoute]

/-! ### Hypotheses: commands to the FMP -/

/-- The state in which the FMP has popped the command `ws` of pair 7. -/
def popped (s : State) (ws : List Nat) : State := (asked 7 (msg 3 ws) s).fmpPop 7
/-- The FMP takes the command `ws` from pair 7. -/
def taken (s : State) (ws : List Nat) : Bool := takesB (asked 7 (msg 3 ws) s) 7 (ws.headD 0) (msg 3 ws)
/-- The FMP serves in RUN with ticket `t`. -/
def ticketed (t : Tkt) : State := (serving 3).setTickets [t]
/-- A ticket 255 of pair 7 for the command `ws`. -/
def tkt (ws : List Nat) : Tkt :=
  { num := 255, pair := 7, op := ws.headD 0, seq := 0, quiet := false, priv := 3, src := 5, cmd := msgOfWords ws, at' := 0 }
/-- Chain 3 has a source, entry 0 of port 0, and the FMP serves. -/
def chained : State := (serving 3).wr (A.NI_CHAIN_SRC_CFG 0 0) (F.NI_CHAIN_SRC_CFG_VALID.put (F.NI_CHAIN_SRC_CFG_CHAIN.put 0 3) 1)
/-- The FMP serves in RUN and knows two journal records. -/
def recorded : State := { serving 3 with fmp := { (serving 3).fmp with jrecs := [(0, 4), (1, 5)] } }

theorem witness_FastCommandsReport :
    ([[0, 1, 2, 3, 4, 5, 6, 7], [1], [2, 255], [0xD, 143], [0xD, 144], [0x12, 0xFFFF03], [0x1C, 0x3FFF], [0x20, 7], [0x2A, 143],
      [0x2A, 144], [0x39], [0x43, 36], [0x43, 6 * 64], [0x43, 35 + 5 * 64], [0x4A], [0x50]].all (taken (serving 3))) = true ∧
    (popped (serving 3) [2, 255]).ownTkt 7 (msg 3 [2, 255]) = none ∧ taken (ticketed (tkt [0x14])) [2, 255] = true ∧
    (popped (ticketed (tkt [0x14])) [2, 255]).ownTkt 7 (msg 3 [2, 255]) = some (tkt [0x14]) ∧
    taken recorded [0x50] = true ∧ (popped recorded [0x50]).fmp.jrecs.head? = some (0, 4) ∧
    (popped recorded [0x50]).fmp.jrecs.getLast? = some (1, 5) := by decide +kernel

theorem witness_ChainInfo :
    taken chained [0x1C, 3] = true ∧ ((popped chained [0x1C, 3]).chainSrc 3).isSome = true ∧ (popped chained [0x1C, 3]).chainDsts 3 = [] ∧
    taken (serving 3) [0x1C, 3] = true ∧ (popped (serving 3) [0x1C, 3]).chainSrc 3 = none :=
  ⟨by decide +kernel, by decide +kernel, chainDsts_nil _ _ (by decide +kernel), by decide +kernel, chainSrc_none _ _ (by decide +kernel)⟩

/-- A configuration of channel 127 for the sender 5 and the receiver 143. -/
def mbxCfg : Nat :=
  (F.MBX_CH_CFG_RECEIVER.put (F.MBX_CH_CFG_SENDER.put (F.MBX_CH_CFG_ENABLE.put 0 1) 5) 143).toNat
/-- A THM_CFG value of WARN 50, THROTTLE 51, TRIP 125 and RATE `r`. -/
def thmCfg (r : Nat) : Nat :=
  (F.THM_CFG_RATE.put (F.THM_CFG_TRIP.put (F.THM_CFG_THROTTLE.put (F.THM_CFG_WARN.put 0 50) 51) 125) r).toNat
/-- FED_MAP of instance 1023 to port `p`, valid. -/
def mapWord (p : Nat) : Nat := 1023 + p * 2 ^ 10 + 2 ^ 14

theorem witness_FastCommandsAct :
    ([[3, 255], [5, 5, 1], [5, 0, 1], [6, 127, mbxCfg], [6, 15, mbxCfg], [7, 255], [0xC, 143], [0xC, 144], [0x17, mapWord 11],
      [0x17, mapWord 12], [0x22, 7], [0x32, 179, 0, 0], [0x33, 143, 1 <<< F.NI_TAG_CTL_SEED.lo], [0x35, 155, 0],
      [0x35, 192, 2 ^ 64 - 1], [0x35, 191, 2 ^ 40 - 1], [0x38, thmCfg 40], [0x38, thmCfg 41], [0x3A, 35 + 3 * 256],
      [0x3A, 36]].all (taken (serving 3))) = true ∧
    (let t := tkt [0x34]
     (popped (ticketed t) [3, 255]).ownTkt 7 (msg 3 [3, 255]) = some t ∧ (popped (ticketed t) [3, 255]).mayCancel t = true ∧
       taken (ticketed t) [3, 255] = true ∧ (popped (serving 3) [3, 255]).ownTkt 7 (msg 3 [3, 255]) = none ∧
       (popped (ticketed (tkt [4])) [3, 255]).mayCancel (tkt [4]) = false) ∧
    ((popped (serving 3) [5, 5, 1]).regSet 5 0 1).isSome = true ∧ ((popped (serving 3) [5, 0, 1]).regSet 0 0 1) = none ∧
    (16 ≤ 127 % 128 ∧ (127 : Nat).testBit 15 = false ∧ F.MBX_CH_CFG_PAIR_VALID.get (BitVec.ofNat 64 mbxCfg) ≠ 1 ∧
      (popped (serving 3) [6, 127, mbxCfg]).mbxCfgOk 127 (BitVec.ofNat 64 mbxCfg) = true) ∧
    (let s := locked.setFld A.GLB_FMP_STATUS F.GLB_FMP_STATUS_STATE Fw.SERVING
     taken s [7, 255] = true ∧ (popped s [7, 255]).lockHeld 255 = true) ∧
    (let s := port 143 1 (serving 3)
     taken s [0xC, 143] = true ∧ (popped s [0xC, 143]).niState 143 = PortStt.ENABLED ∧
       (popped (serving 3) [0xC, 143]).niState 143 = PortStt.DISABLED) ∧
    (bitsOf (mapWord 11) 10 4 < 12 ∧ mapWord 11 % 1024 ≠ (popped (serving 3) [0x17, mapWord 11]).instance' ∧
      bitsOf (mapWord 12) 10 4 = 12) ∧
    (let s := setIn 7 SetSt.OPEN (serving 3)
     taken s [0x22, 7] = true ∧ (popped s [0x22, 7]).setSt 7 = SetSt.OPEN ∧ (popped (serving 3) [0x22, 7]).setSt 7 = SetSt.IDLE) ∧
    (probeOk 179 0 0 = true ∧ valueOk (probeRegs 179).1 0 = true ∧ valueOk (probeRegs 179).2.1 0 = true) ∧
    (let v : Nat := 1 <<< F.NI_TAG_CTL_SEED.lo
     let u := popped (serving 3) [0x33, 143, v]
     valueOk (A.NI_TAG_CTL 143) (BitVec.ofNat 64 v) = true ∧ (u.writeTagCtl 143 (u.fmpReq (BitVec.ofNat 64 v))).2 = Code.OK) ∧
    (permOf 155 = none ∧ (permOf 191).map (·.2) = some 40 ∧ (permOf 192).map (·.2) = some 64) ∧
    (thmCfgOk (BitVec.ofNat 64 (thmCfg 40)) = true ∧ thmCfgOk (BitVec.ofNat 64 (thmCfg 41)) = false) := by decide +kernel

/-- PLAT_PATCH of station 35, plat 2, parcel 5 to an entry that forwards nothing. -/
def platPatch : List Nat := [0x1A, 35 + 2 * 2 ^ 6 + 5 * 2 ^ 10 + 0xF * 2 ^ 20]
/-- The entry forwards nothing, and `p`: a patch is pending. -/
def patching (p : Nat) : State :=
  ((serving 3).wrMem (platAddr 35 2 0 5) 0xF 2).setFld (A.STN_PLAT_PATCH 35) F.STN_PLAT_PATCH_PENDING p

theorem witness_PlatPatchCommand :
    (let w := platPatch.getD 1 0
     let u := popped (patching 0) platPatch
     taken (patching 0) platPatch = true ∧ w % 64 < 36 ∧ bitsOf w 6 4 < 11 ∧ bitsOf w 10 10 < u.bankLen 35 2 (u.platBank 35 2) ∧
       u.patchCheck 35 2 5 (bitsOf w 20 16) = none ∧ (u.tryPatch 35 (patchWord 2 5 (bitsOf w 20 16))).2 = true) ∧
    (let u := popped (patching 1) platPatch
     taken (patching 1) platPatch = true ∧ u.patchCheck 35 2 5 0xF = none ∧ (u.tryPatch 35 (patchWord 2 5 0xF)).2 = false) := by
  decide +kernel

/-- The FMP serves in RUN; traverse 1 is prepared. -/
def prepared : State := { serving 3 with fmp := { (serving 3).fmp with prep := some (1, 7) } }
/-- Traverse `c` is draining since datum 0. -/
def draining (c : Nat) : State := { serving 3 with fmp := { (serving 3).fmp with drain := some (c, 0) } }
/-- A plat is staged. -/
def stagedPlat : State := { serving 3 with fmp := { (serving 3).fmp with plats := [{ st := 35, n := 10, len := 4 }] } }
/-- Slot 1 holds a verified image. -/
def imaged : State :=
  { serving 3 with fmp := { (serving 3).fmp with images := [(1, some { version := 2, secver := 0, verified := true })] } }
/-- The command `ws` is taken in `s`, and a ticket for it is granted. -/
def granting (s : State) (ws : List Nat) : Bool :=
  taken s ws && ((popped s ws).ticketRoom 7).isSome && decide ((popped s ws).conflict (msg 3 ws).data = none)

theorem witness_SlowCommands :
    ([[4, 3], [4, 7], [0xA, 143], [0xA, 144], [0xB, 143], [0xB, 144], [0x10],
      [0x11, 1], [0x13, 0xFF01, 0, 2047], [0x13, 0xFF01, 0, 2048], [0x14], [0x15, 0], [0x16, 143], [0x16, 144], [0x18],
      [0x19, 0xFF00], [0x1B, 35 + 10 * 64, 0, 0, 0, 0, 2048 <<< 32], [0x1D, 3], [0x28, 143], [0x29, 143], [0x30, 0],
      [0x31, 4959, 1], [0x34, 0x3FFFC0], [0x40, 3 + 35 * 16], [0x41, 35], [0x42, 35], [0x44, 63], [0x44, 36],
      [0x48, 0, 0, 0, 0, 0, 524288 <<< 32], [0x49, 0, 0, 2048]].all (granting (serving 3))) = true ∧
    ([[9, 1], [8], [8, 0, 0, 0, 0, 0, 1 <<< 32]].all (granting (serving 2))) = true ∧ granting (setIn 6 SetSt.OPEN (serving 3)) [0x21, 6 * 256] = true ∧
    granting recorded [0x51, 5, 1] = true ∧ granting prepared [0x11, 1] = true ∧ granting prepared [0x13, 0xFF01, 0, 2048] = true ∧
    granting (draining 1) [0x10] = true ∧ granting (draining 1) [0x13, 0xFF01, 0, 2048] = true ∧
    granting (draining 1) [0x15, 1] = true ∧ granting stagedPlat [0x19, 0xFF00] = true ∧ granting imaged [0x49, 0, 0, 2048] = true ∧
    granting (serving 3) [0x1D, 4] = true ∧ granting chained [0x1D, 3] = true := by decide +kernel

theorem witness_SlowChecks :
    (popped (serving 3) [4, 3]).modeOk 3 = true ∧ (popped (serving 3) [4, 7]).modeOk 7 = false ∧
    bufOk (msg 3 [8]).data = true ∧ bufOk (msg 3 [8, 0, 0, 0, 0, 0, 1 <<< 32]).data = false ∧ (1 : Nat).testBit 0 = true ∧
    (popped (serving 3) [0x10]).fmp.drain = none ∧ (popped (draining 1) [0x10]).fmp.drain = some (1, 0) ∧
    (popped prepared [0x11, 1]).writable 1 = true ∧ (popped (serving 3) [0x11, 1]).writable 1 = false ∧
    (popped (serving 3) [0x13, 0xFF01, 0, 2048]).setArgChk (msg 3 [0x13, 0xFF01, 0, 2048]) = none ∧
    (popped prepared [0x13, 0xFF01, 0, 2048]).fmp.prep.map (·.1) = some 1 ∧
    (popped (serving 3) [0x13, 0xFF01, 0, 2048]).fmp.prep.map (·.1) ≠ some 1 ∧
    (popped (draining 1) [0x15, 1]).drainDone 1 = true ∧
    ((draining 1).setFld (travStatOf 0) ⟨16, 16⟩ 1).drainDone 1 = false ∧
    (popped stagedPlat [0x19, 0xFF00]).staged = true ∧ (popped (serving 3) [0x19, 0xFF00]).staged = false ∧
    (popped stagedPlat [0x19, 0xFF00]).setArgChk (msg 3 [0x19, 0xFF00]) = none ∧
    bufLen (msg 3 [0x1B, 0, 0, 0, 0, 0, 2048 <<< 32]).data = 2048 ∧
    (popped (setIn 6 SetSt.OPEN (serving 3)) [0x21, 6 * 256]).setArgChk (msg 3 [0x21, 6 * 256]) = none ∧
    (popped (serving 3) [0x40, 3 + 35 * 16]).queuedTests < 16 ∧
    16 ≤ ({ serving 3 with fmp := { (serving 3).fmp with
      tests := List.replicate 16 { ticket := 1, kind := 3, st := 0, n := 0 } } } : State).queuedTests ∧
    stnArg (msg 3 [0x41, 35]) run = none ∧ (popped imaged [0x49, 0, 0, 2048]).otherSlot = 1 ∧
    (tget none (popped imaged [0x49, 0, 0, 2048]).fmp.images 1).map (·.verified) = some true ∧
    tget none (popped (serving 3) [0x49, 0, 0, 2048]).fmp.images 1 = none ∧ (popped recorded [0x51, 5, 1]).recsFrom 5 = [(1, 5)] := by
  decide +kernel

theorem witness_EnumerateUnprepared : granting (serving 2) [9, 0] = true ∧ (popped (serving 2) [9, 0]).bankFilled = false :=
  ⟨by decide +kernel, bankFilled_empty _ (by decide +kernel)⟩

theorem witness_ChainProbeSource : ((popped chained [0x1D, 3]).chainSrc 3).map (fun x => decide (x.b < 144)) = some true ∧
    (popped (serving 3) [0x1D, 4]).chainSrc 4 = none := ⟨by decide +kernel, chainSrc_none _ _ (by decide +kernel)⟩

/-- Pair 7 has its sixteen tickets. -/
def fullPair : State := (serving 3).setTickets ((List.range 16).map (fun i => { tkt [0x14] with num := i + 1 }))

theorem witness_TicketLimits :
    ((serving 3).ticketRoom 7).isSome = true ∧ (serving 3).fmp.tickets.length ≤ 64 ∧
    ((serving 3).fmp.tickets.filter (fun t => t.pair = 7)).length ≤ 16 ∧ taken fullPair [0x14] = true ∧
    (popped fullPair [0x14]).ticketRoom 7 = none ∧
    (let t := { tkt [0x14] with pair := 6, num := 1 }
     taken (ticketed t) [0x14] = true ∧ ((popped (ticketed t) [0x14]).ticketRoom 7).isSome = true ∧
       (popped (ticketed t) [0x14]).conflict (msg 3 [0x14]).data = some 1) := by decide +kernel

theorem witness_FmpProgress :
    (let t := { tkt [4, 2] with pair := 6 }
     (ticketed t).working.find? (fun x => x.num = 255) = some t ∧ (ticketed t).fwState = Fw.SERVING ∧ t.stage ≠ 9 ∧
       (ticketed { t with stage := 9 }).working.find? (fun x => x.num = 255) = some { t with stage := 9 } ∧
       (ticketed t).working.find? (fun x => x.num = 254) = none ∧ t.op = 4 ∧ t.out = false ∧
       (ticketed t |>.setFld A.GLB_MODE F.GLB_MODE_MODE 2).modeOk (msgWord t.cmd 1) = true ∧ msgWord t.cmd 1 ≠ Mode.RUN ∧
       msgWord t.cmd 1 ≠ Mode.DIAGNOSE) ∧
    (let s := run.modPair 7 (fun p => { p with held := [1] })
     (s.pair 7).held ≠ [] ∧ (run.pair 7).held = [] ∧ ((s.offerHeld 7 (s.pair 7).held).pair 7).held = [] ∧
       (let u := (s.wr (A.MBX_CH_CFG 15) (F.MBX_CH_CFG_RECEIVER.put (F.MBX_CH_CFG_ANY.put (F.MBX_CH_CFG_ENABLE.put 0 1) 1) 240))
        let v : State := { u with mbx := [(15, List.replicate 4 (msg 1 []))] }
        ((v.offerHeld 7 (v.pair 7).held).pair 7).held ≠ [])) ∧
    run.fwState ≠ Fw.SERVING ∧ (at' 131071 (serving 3)).datum < (serving 3).fmp.beatAt + 131072 ∧
    (serving 3).fmp.beatAt + 131072 ≤ (at' 131072 (serving 3)).datum ∧
    (let s := { imaged with fmp := { imaged.fmp with hand := some (0, 0) } }.setFld A.GLB_FMP_STATUS F.GLB_FMP_STATUS_STATE Fw.HANDOVER
     s.fmp.hand = some (0, 0) ∧ s.fwState = Fw.HANDOVER ∧ (at' 99999 s).datum < 0 + 100000 ∧ 0 + 100000 ≤ (at' 100000 s).datum ∧
       s.handTkt = none ∧ (s.setTickets [tkt [0x49]]).handTkt = some (tkt [0x49])) := by decide +kernel

/-! ### Hypotheses: observability and the journal -/

/-- The survey's PENDING bit is `p`. -/
def surveying (p : Nat) : State := run.setFld A.SRV_STATUS F.SRV_STATUS_PENDING p
/-- A trace record waits in station 35, the last one forwarded at `d`. -/
def tracing (d : Option Nat) : State :=
  run.modStn 35 (fun x => { x with traceQ := [⟨1, 2, 3, 4, false⟩], traceAt := d })

theorem witness_SurveysProbesAndTraces :
    (let r := fmp (F.SRV_CTL_GO.put 0 1)
     let c := fmp (F.SRV_CTL_CANCEL.put 0 1)
     run.admits A.SRV_CTL r ∧ reqFld r F.SRV_CTL_GO = 1 ∧ run.bit A.SRV_STATUS F.SRV_STATUS_PENDING = false ∧
       run.bit A.SRV_STATUS F.SRV_STATUS_ARMED = false ∧ (surveying 1).admits A.SRV_CTL r ∧
       (surveying 1).bit A.SRV_STATUS F.SRV_STATUS_PENDING = true ∧ (surveying 1).admits A.SRV_CTL c ∧ run.admits A.SRV_CTL c ∧
       reqFld c F.SRV_CTL_CANCEL = 1 ∧ reqFld c F.SRV_CTL_GO = 0) ∧
    (let r := fmp (F.SRV_TRACE_CTL_CLEAR.put 0 1)
     run.admits A.SRV_TRACE_CTL r ∧ reqFld r F.SRV_TRACE_CTL_CLEAR = 1 ∧ reqFld r F.SRV_TRACE_CTL_EN = 0 ∧
       (run.plainWrite A.SRV_TRACE_CTL r).2 = Code.OK) := by decide

theorem witness_ProbesAndTagging :
    (let r := fmp (F.NI_PROBE_FILTER_POINT.put 0 12)
     run.admits (probeRegs 179).1 (fmp 0) ∧ run.admits (probeRegs 179).2.1 (fmp 0) ∧ run.admits (probeRegs 179).1 r ∧
       probeOk 179 0 (run.rd (probeRegs 179).2.1) = true ∧ probeOk 179 (run.rd (probeRegs 179).1) 0 = true ∧
       (run.plainWrite (probeRegs 179).1 (fmp 0)).2 = Code.OK ∧ (run.plainWrite (probeRegs 179).2.1 (fmp 0)).2 = Code.OK ∧
       probeOk 179 r.data (run.rd (probeRegs 179).2.1) = false) ∧
    (let r := fmp (F.NI_TAG_CTL_SEED.put 0 1)
     run.admits (A.NI_TAG_CTL 143) (fmp 0) ∧ reqFld (fmp 0) F.NI_TAG_CTL_SEED = 0 ∧ run.admits (A.NI_TAG_CTL 143) r ∧
       reqFld r F.NI_TAG_CTL_SEED ≠ 0 ∧ (run.plainWrite (A.NI_TAG_CTL 143) r).2 = Code.OK) := by decide

theorem witness_SnapshotsAndTraceRecords :
    (let s := at' 24 (flying (.surveyTick 255) 1024 0 run)
     s.arriving 191 (fun k => (tickSeq k).isSome) = some ⟨.surveyTick 255, 1024, 0, []⟩ ∧ tickSeq (.surveyTick 255) = some 255 ∧
       run.arriving 191 (fun k => (tickSeq k).isSome) = none) ∧
    (let s : State := { run with glb := { run.glb with tick := [(192, some (1024, 255))] } }
     tget none s.glb.tick 192 = some (1024, 255) ∧ tget none s.glb.tick 191 = none ∧ (at' 1023 s).nowOf 192 < 1024 ∧
       1024 ≤ (at' 1024 s).nowOf 192) ∧
    (let s (b : Nat) : State := (at' 1024 { run with glb := { run.glb with tick := [(b, some (1024, 255))] } }).capture b
     (tget none (s 35).glb.capt 35).map (fun c => (c.at', c.seq, c.vals == (surveySet 35).map (fun a => (a, (s 35).rd a)))) =
         some (1024, 255, true) ∧ (tget none (s 191).glb.capt 191).map (fun c => c.vals.map Prod.fst == surveySet (156 + 35)) = some true ∧
       tget none run.glb.capt 35 = none) ∧
    ((run.stn 35).traceQ = [] ∧ ((tracing (some 0)).stn 35).traceQ = ⟨1, 2, 3, 4, false⟩ :: [] ∧
      ((tracing (some 0)).stn 35).traceAt = some 0 ∧ (tracing (some 0)).datum < 0 + 16 ∧ ((tracing none).stn 35).traceAt = none ∧
      0 + 16 ≤ (at' 16 (tracing (some 0))).datum) ∧
    (run.fld A.SRV_TRACE_STATUS F.SRV_TRACE_STATUS_FULL = 0 ∧ run.fld A.SRV_TRACE_STATUS F.SRV_TRACE_STATUS_FROZEN = 0) := by
  decide

/-- The journal is active. -/
def journalled : State := run.setFld A.GLB_JNL_STATUS F.GLB_JNL_STATUS_ACTIVE 1
/-- A record waits in the journal's queue. -/
def recordWaits : State := { journalled with fmp := { journalled.fmp with jq := [{ typ := 4, w1 := 1, w2 := 0, w3 := 0 }] } }
/-- A word program for the journal is under way since datum 0; `l`: it has timed out. -/
def programming (l : Bool) : State := { journalled with fmp := { journalled.fmp with
  nvm := [{ op := 1, addr := 0, data := 1, at' := 0, who := 1 }], nvmLate := l } }
/-- A journal region of one slot, to be scanned. -/
def scanning : State := { run with fmp := { run.fmp with jsec := 4, jn := 1, jscan := true } }
/-- A free slot, and one that holds record 5 of type 4. -/
def freeSlot : JSlot := (erased, erased, erased, erased)
def fullSlot : JSlot := (recHeader 4 5 [], erased, erased, erased)
/-- A slip (kind 0) or an uncorrectable message (kind 1) of station 35 with `n` stakes waits for the FMP's response. -/
def slipWaits (kind n : Nat) : State := { run with fmp := { run.fmp with slips := [(kind, 35, n)] } }

theorem witness_JournalCommands :
    (run.jActive = false ∧ recordWaits.jActive = true ∧ recordWaits.fmp.jcur = none ∧
      recordWaits.fmp.jq = { typ := 4, w1 := 1, w2 := 0, w3 := 0 } :: [] ∧ journalled.nvmFree = true ∧ journalled.fmp.jera = []) ∧
    (run.fmp.nvm = [] ∧ (programming false).fmp.nvm = { op := 1, addr := 0, data := 1, at' := 0, who := 1 } :: [] ∧
      (programming false).fmp.nvmLate = false ∧ (programming true).fmp.nvmLate = true ∧
      dclkEdge (programming false).datum = true ∧ dclkEdge (at' 7 (programming false)).datum = false ∧
      (at' 1999999 (programming false)).datum < 0 + nvmLimit 1 ∧ 0 + nvmLimit 1 ≤ (at' 2000000 (programming false)).datum) ∧
    (scanning.fmp.jscan = true ∧ [freeSlot].length = scanning.jSlots ∧ [fullSlot].length = scanning.jSlots ∧
      newestSlot (validSlots [freeSlot]) = none ∧ newestSlot (validSlots [fullSlot]) = some (0, fullSlot)) ∧
    (run.fmp.slips = [] ∧ (slipWaits 1 2).fmp.slips = (1, 35, 2) :: [] ∧ (slipWaits 0 2).fmp.slips = (0, 35, 2) :: []) := by
  decide +kernel

/-! ### Hypotheses: power and temperature -/

/-- A list all of whose entries hold `v` reads as `v` at each of its keys. -/
theorem get_uniform {d : Nat → Byte} {v : Byte} (l : List (Nat × Byte)) (a : Nat) (hv : ∀ e ∈ l, e.2 = v) (ha : ∃ e ∈ l, e.1 = a) :
    Store.get d l a = v := by
  induction l with
  | nil => simp at ha
  | cons e l ih =>
    by_cases h : a = e.1
    · simp [Store.get, h, hv e]
    · simp only [Store.get, if_neg h]
      refine ih (fun x hx => hv x (by simp [hx])) ?_
      obtain ⟨x, hx, rfl⟩ := ha
      rcases List.mem_cons.mp hx with rfl | hx
      · exact absurd rfl h
      · exact ⟨x, hx, rfl⟩

/-- The banks of station 35, of 64 parcels each, hold FREE entries, and DEEPEST is `c`. -/
def freed (c : Nat) : State :=
  { (List.range 11).foldl (fun s n => (s.setFld (A.STN_PLAT_CTL 35 n) F.STN_PLAT_CTL_LEN0 0).setFld (A.STN_PLAT_CTL 35 n)
        F.STN_PLAT_CTL_LEN1 0)
      (run.setFld (A.STN_PWR_CTL 35) F.STN_PWR_CTL_DEEPEST c) with
    mem := (List.range 11).flatMap (fun n => (List.range 2).flatMap (fun b => (List.range 64).map (fun t =>
      (platAddr 35 n b t, 0x0F)))) }

theorem freed_free (c n b t : Nat) (hn : n < 11) (hb : b < 2) (ht : t < 64) : (freed c).platAt 35 n b t = 0xF := by
  have lo : (freed c).rdByte (platAddr 35 n b t) = 0x0F := by
    refine get_uniform _ _ (by simp only [freed, List.mem_flatMap, List.mem_map]; rintro e ⟨_, _, _, _, _, _, rfl⟩; rfl) ?_
    exact ⟨(platAddr 35 n b t, 0x0F), by
      simp only [freed, List.mem_flatMap, List.mem_map, List.mem_range]; exact ⟨n, hn, b, hb, t, ht, rfl⟩, rfl⟩
  have hi : (freed c).rdByte (platAddr 35 n b t + 1) = 0 := by
    have : ∀ l : List (Nat × Byte), (∀ e ∈ l, e.1 % 2 = 0) → Store.get (fun _ => (0 : Byte)) l (platAddr 35 n b t + 1) = 0 := by
      intro l
      induction l with
      | nil => intro _; rfl
      | cons e l ih =>
        intro h
        have h1 := h e (by simp)
        have h2 : platAddr 35 n b t + 1 ≠ e.1 := by unfold platAddr; omega
        simp only [Store.get, if_neg h2]
        exact ih (fun x hx => h x (by simp [hx]))
    refine this _ ?_
    simp only [freed, List.mem_flatMap, List.mem_map]
    rintro e ⟨_, _, _, _, _, _, rfl⟩
    simp only [platAddr]
    omega
  unfold State.platAt
  simp only [State.rdMem, lo, hi]
  rfl

theorem freed_horizon (c : Nat) (hb : (List.range 11).all (fun n => (freed c).platBank 35 n = 0 && (freed c).bankLen 35 n 0 = 64) = true)
    (hs : (freed c).stk.shadows = []) (hp : ((freed c).stn 35).patch = none) : (freed c).horizon 35 = 1024 := by
  have hn : ∀ n ∈ List.range 11, (freed c).bankHorizon 35 n ((freed c).platBank 35 n) ((freed c).nowOf (stnBlk 35)) = 1024 := by
    intro n hn
    have h := List.all_eq_true.mp hb n hn
    simp only [Bool.and_eq_true, decide_eq_true_eq] at h
    unfold State.bankHorizon
    rw [h.1, h.2]
    have : ∀ l : List Nat, (∀ k ∈ l, k < 64) → l.foldl (fun best k =>
        let e := (freed c).platAt 35 n 0 k
        if entryIn e = 0xE ∨ entryIn e = 0xF then best
        else
          let b := (freed c).bypass 35 (entryIn e)
          min best ((k + 64 * 1024 - ((freed c).nowOf (stnBlk 35) + b) % 64) % 64)) 1024 = 1024 := by
      intro l
      induction l with
      | nil => intro _; rfl
      | cons k l ih =>
        intro hk
        have hf := freed_free c n 0 k (List.mem_range.mp hn) (by decide) (hk k (by simp))
        simp only [List.foldl_cons, hf]
        exact ih (fun x hx => hk x (by simp [hx]))
    exact this _ (fun k hk => List.mem_range.mp hk)
  unfold State.horizon
  simp only [hp]
  have : ∀ l : List Nat, (∀ n ∈ l, n ∈ List.range 11) → l.foldl (fun best n =>
      min best (min ((freed c).bankHorizon 35 n ((freed c).platBank 35 n) ((freed c).nowOf (stnBlk 35)))
        (if (freed c).bankStaged 35 n then (freed c).bankHorizon 35 n (1 - (freed c).platBank 35 n) ((freed c).nowOf (stnBlk 35))
          else 1024))) 1024 = 1024 := by
    intro l
    induction l with
    | nil => intro _; rfl
    | cons n l ih =>
      intro hl
      have h0 : (freed c).bankStaged 35 n = false := by simp [State.bankStaged, hs]
      simp only [List.foldl_cons, hn n (hl n (by simp)), h0]
      exact ih (fun x hx => hl x (by simp [hx]))
  exact this _ (fun n hn => hn)

/-- Station 35 in power state `p`. -/
def pwr (p : Nat) (s : State) : State := s.setFld (A.STN_PWR_STATUS 35) F.STN_PWR_STATUS_STATE p
/-- Station 35 may sleep; SLEEP_REQ is `q`. -/
def sleepy (q : Nat) : State := (freed 3).setFld (A.STN_PWR_CTL 35) F.STN_PWR_CTL_SLEEP_REQ q

theorem sleepy_holds (q : Nat) (h : (List.range 11).all (fun n => (sleepy q).bankLen 35 n 0 = 64 && (sleepy q).bankLen 35 n 1 = 64) = true) :
    (sleepy q).holdsResv 35 = false := by
  unfold State.holdsResv
  rw [List.any_eq_false]
  intro n hn
  have hl := List.all_eq_true.mp h n hn
  simp only [Bool.and_eq_true, decide_eq_true_eq] at hl
  have hm : (sleepy q).mem = (freed 3).mem := rfl
  have hp : ∀ b k, (sleepy q).platAt 35 n b k = (freed 3).platAt 35 n b k := by
    intro b k
    simp only [State.platAt, State.rdMem, State.rdByte, hm]
  have hf : ∀ b < 2, ∀ k < 64, (sleepy q).platAt 35 n b k = 0xF := fun b hb k hk =>
    (hp b k).trans (freed_free 3 n b k (List.mem_range.mp hn) hb hk)
  simp only [List.any_cons, List.any_nil, hl.1, hl.2, Bool.or_false, Bool.or_eq_true, List.any_eq_true, List.mem_range,
    decide_eq_true_eq, not_or, not_exists, not_and]
  exact ⟨fun k hk => by rw [hf 0 (by decide) k hk]; decide, fun k hk => by rw [hf 1 (by decide) k hk]; decide⟩

theorem witness_NoReservations : (sleepy 1).holdsResv 35 = false := sleepy_holds 1 (by decide +kernel)

theorem witness_PowerStates :
    ((freed 2).pwrState 35 = 0 ∧ ((freed 2).stn 35).wakeAt = none ∧ ((freed 2).stn 35).pwrTo = none ∧ (freed 2).stnIdle 35 = true ∧
      lowerState 1024 ((freed 2).deepest 35) = some (2, 16) ∧ (freed 0).deepest 35 = 0) ∧
    (let s := buffered { buf := [{ f := whole (toOut 6) 0, bw := 0 }] } (freed 2)
     s.stnIdle 35 = false ∧ (pwr 2 s).pwrState 35 = 2 ∧ (((pwr 2 s).stn 35).holdsFlit || (pwr 2 s).inAccess 35) = true ∧
       (pwr 1 (freed 2)).pwrState 35 = 1 ∧ ((freed 2).stn 35).holdsFlit = false ∧ (freed 2).inAccess 35 = false ∧
       exitOf ((pwr 1 (freed 2)).pwrState 35) < 1024) ∧
    ((sleepy 1).pwrState 35 < 3 ∧ (sleepy 1).deepest 35 = 3 ∧ (sleepy 1).bit (A.STN_PWR_CTL 35) F.STN_PWR_CTL_SLEEP_REQ = true ∧
      (sleepy 1).setOpen = false ∧ (sleepy 1).stk.reqs = [] ∧ (sleepy 1).allDown 35 = true ∧ (linkUp 35 5 (sleepy 1)).allDown 35 = false ∧
      ((sleepy 1).wr A.STK_SUMMARY 1).setOpen = true) ∧
    ((pwr 3 (sleepy 0)).pwrState 35 = 3 ∧ (pwr 3 (sleepy 0)).bit (A.STN_PWR_CTL 35) F.STN_PWR_CTL_SLEEP_REQ = false ∧
      (pwr 3 (sleepy 1)).bit (A.STN_PWR_CTL 35) F.STN_PWR_CTL_SLEEP_REQ = true) := by decide +kernel

theorem witness_Horizons : (freed 2).horizon 35 = 1024 ∧ run.horizon 35 < 7 :=
  ⟨freed_horizon 2 (by decide +kernel) rfl rfl, by decide +kernel⟩

/-- A conversion started at datum 0. -/
def sampled : State := { run with thm := { run.thm with sample := some 0 } }
/-- LEVEL is `l`, the commit word armed (`a`). -/
def level (l a : Nat) : State :=
  (journalled.setFld A.THM_STATUS F.THM_STATUS_LEVEL l).setFld A.THM_COMMIT_ADDR F.THM_COMMIT_ADDR_ARMED a
/-- The trip sequence at step `n` of a trip at datum 0, the commit word armed (`a`). -/
def tripAt (n a : Nat) : State := { level 2 a with host := { run.host with trip := n } }

theorem witness_ThermalCommands :
    (run.mode ≠ Mode.OFF ∧ (at' 1 run).datum % 125000 ≠ 0 ∧ (at' 2000000 run).datum % 2000000 = 0 ∧
      (at' 125000 run).datum % 125000 = 0 ∧ (at' 125000 run).datum % 2000000 ≠ 0 ∧
      (run.setFld A.THM_STATUS F.THM_STATUS_FAST 1).bit A.THM_STATUS F.THM_STATUS_FAST = true ∧
      run.bit A.THM_STATUS F.THM_STATUS_FAST = false ∧ run.thm.want = false) ∧
    (sampled.thm.sample = some 0 ∧ (List.replicate 72 (some (800 : BitVec 12))).length = 72 ∧ (at' 3999 sampled).datum < 0 + 4000 ∧
      0 + 4000 ≤ (at' 4000 sampled).datum) ∧
    (aclkEdge run.datum = true ∧ aclkEdge (at' 63 run).datum = false ∧ (inMode Mode.OFF).mode = Mode.OFF ∧ run.bit A.THM_STATUS F.THM_STATUS_SAFE = false ∧
      (run.setFld A.THM_STATUS F.THM_STATUS_SAFE 1).bit A.THM_STATUS F.THM_STATUS_SAFE = true) ∧
    (let s := run.setFld A.THM_THROTTLE F.THM_THROTTLE_STAGE 3
     s.fld A.THM_THROTTLE F.THM_THROTTLE_STAGE ≠ s.fld A.THM_THROTTLE F.THM_THROTTLE_APPLIED ∧ s.fwState ≠ Fw.HALTED ∧
       s.fld A.THM_THROTTLE F.THM_THROTTLE_STAGE ≠ 0) ∧
    ((level 2 0).bit A.THM_STATUS F.THM_STATUS_SAFE = false ∧ (level 2 0).fwState ≠ Fw.HALTED ∧
      2 ≤ (level 2 0).fld A.THM_STATUS F.THM_STATUS_LEVEL ∧ (level 2 0).bit A.THM_COMMIT_ADDR F.THM_COMMIT_ADDR_ARMED = false ∧
      (level 2 0).jActive = true ∧ (level 1 1).fld A.THM_STATUS F.THM_STATUS_LEVEL < 2 ∧
      (level 1 1).bit A.THM_COMMIT_ADDR F.THM_COMMIT_ADDR_ARMED = true) ∧
    ((tripAt 3 1).host.trip = 3 ∧ (at' 99999 (tripAt 3 1)).datum < ((tripAt 3 1).rd A.THM_TRIP_TIME).toNat + 100000 ∧
      (tripAt 3 1).fmp.nvm = [] ∧ (tripAt 3 1).bit A.THM_COMMIT_ADDR F.THM_COMMIT_ADDR_ARMED = true ∧
      (tripAt 3 0).bit A.THM_COMMIT_ADDR F.THM_COMMIT_ADDR_ARMED = false ∧ (programming false).fmp.nvm ≠ [] ∧ run.host.trip ≠ 3) ∧
    ((tripAt 5 0).bit A.THM_STATUS F.THM_STATUS_SHUTDOWN_READY = false ∧ (tripAt 5 0).host.trip = 5 ∧
      (tripAt 5 0).host.heldReset = none ∧ ((tripAt 3 0).rd A.THM_TRIP_TIME).toNat + 100000 ≤ (at' 100000 (tripAt 3 0)).datum ∧
      (tripAt 4 1).host.trip = 4 ∧ (at' 199999 (tripAt 4 1)).datum < ((tripAt 4 1).rd A.THM_TRIP_TIME).toNat + 200000) := by decide

/-! ### Hypotheses: endurance -/

/-- A benchmark scan under way since datum 0. -/
def benching : State := { run with fmp := { run.fmp with scanAt := some 0 } }
/-- Lane 19 of direction 5 of station 35 has failed; the FMP's own work in set 7 is of kind `k`, if any; the set's state. -/
def laneWaits (k : Option Nat) (c : Nat) : State :=
  { (serving 3).setFld (A.STK_SET_STATUS 7) F.STK_SET_STATUS_STATE c with fmp := { (serving 3).fmp with
    laneFails := [⟨35, 5, 19⟩], own7 := k.map (fun j => { kind := j }) } }
/-- A test of kind `k` of direction 5 of station 35 under ticket 255: running (`r`), lane 21 under test since datum 0. -/
def test (k : Nat) (r : Bool) : Test :=
  { ticket := 255, kind := k, st := 35, n := 5, run := r, todo := [], lane := some 21 }
/-- That test in the FMP's queue. -/
def testing (k : Nat) (r : Bool) : State := { run with fmp := { run.fmp with tests := [test k r] } }

theorem witness_ScansFailuresAndTests :
    (benching.fmp.scanAt = some 0 ∧ (at' 1 run).datum % 2 ^ 31 ≠ 0 ∧ run.scanTkts 1 = [] ∧ run.fmp.scanAt = none ∧ run.mode ≠ Mode.OFF ∧
      run.datum % 2 ^ 31 = 0 ∧ ((serving 3).setTickets [{ tkt [0x40, 4] with stage := 1 }]).scanTkts 1 ≠ []) ∧
    ((List.replicate 576 (0 : BitVec 16)).length = 576 ∧ (at' 65535 benching).datum < 0 + 65536 ∧
      0 + 65536 ≤ (at' 65536 benching).datum) ∧
    (run.laneOut 35 5 21 = true ∧ run.laneOut 35 5 19 = false ∧ run.fmp.laneFails = [] ∧ run.fmp.own7 = none) ∧
    ((laneWaits none 0).fwState ≠ Fw.HALTED ∧ (laneWaits none 0).fmp.own7 = none ∧ (laneWaits none 0).fmp.laneFails ≠ [] ∧
      (laneWaits none 0).idle7 = true ∧ (laneWaits none 0).openMode = true ∧ (laneWaits none 2).idle7 = false ∧
      ((laneWaits (some 1) 2).fmp.own7.map (·.kind)) = some 1 ∧ (laneWaits (some 1) 2).setSt 7 = SetSt.OPEN ∧
      (laneWaits (some 1) 1).setSt 7 ≠ SetSt.OPEN ∧ ((laneWaits (some 3) 2).fmp.own7.map (·.kind)) = some 3) ∧
    ((at' 1 run).datum % 2 ^ 24 ≠ 0 ∧ run.datum % 2 ^ 24 = 0) ∧
    ((testing 1 false).fmp.tests.find? (fun t => !t.run && (testing 1 false).mayStart t) = some (test 1 false) ∧
      run.fmp.tests.find? (fun t => !t.run && run.mayStart t) = none) ∧
    ((testing 1 true).fmp.tests.find? (fun t => t.run && t.kind ≠ 3 && t.lane = some 21 && t.dirNow = (35, 5)) = some (test 1 true) ∧
      (at' 1048575 (testing 1 true)).datum < (test 1 true).at' + 1048576 ∧
      (test 1 true).at' + 1048576 ≤ (at' 1048576 (testing 1 true)).datum ∧ (test 1 true).kind = 1 ∧ (test 1 true).dir = 0) ∧
    ((testing 3 true).fmp.tests.find? (fun t => t.run && t.kind = 3 && t.st = 35) = some (test 3 true)) ∧
    (run.mayTrain (35, 5) = true ∧ run.linkState 35 5 = LinkSt.DOWN) := by decide +kernel

/-- A re-plan of station 35 held for `k`: 255 a ticket, 0 the drift. -/
def replanHeld (k : Nat) : State := { run with fmp := { run.fmp with replans := [(35, 0, k)] } }
/-- A re-plan of direction 5 of station 35 at step `n` since datum 0, lane 19 `e` off its phase. -/
def replanning (n e : Nat) : State :=
  let s : State := { run with fmp := { run.fmp with replan := some { st := 35, drift := 0, ticket := 0, dirs := [5], step := n } } }
  s.modStn 35 (fun x => x.modPort 5 (fun q => { q with eye := [(19, (40, e))] }))

theorem witness_ReplanAndVoltage :
    ((replanning 1 0).fmp.replan.isSome = true ∧ (replanHeld 255).fmp.replan = none ∧ (replanHeld 255).fwState ≠ Fw.HALTED ∧
      (replanHeld 255).mode ≠ Mode.OFF ∧
      (replanHeld 255).fmp.replans.find? (fun q => q.2.2 ≠ 0 || (replanHeld 255).autoReplan) = some (35, 0, 255) ∧
      run.fmp.replans.find? (fun q => q.2.2 ≠ 0 || run.autoReplan) = none ∧ run.autoReplan = true ∧ run.periodOver 35 = false ∧
      (at' (720 * fclkPerHour) run).periodOver 35 = true ∧ run.bit A.END_CFG F.END_CFG_AUTO = true ∧ run.fmp.replan = none ∧
      run.fwState ≠ Fw.HALTED ∧ (replanHeld 0).fmp.replans.find? (fun q => q.2.2 ≠ 0 || (replanHeld 0).autoReplan) = some (35, 0, 0)) ∧
    ((replanning 1 0).fmp.replan.map (fun r => (r.step, r.dir, r.at')) = some (1, (35, 5), 0) ∧
      (replanning 1 0).fmp.replan.map (·.dirs) = some [5] ∧ (List.replicate 22 ((0, 0) : LaneEye)).length = 22 ∧
      (at' 1048575 run).datum < 0 + 1048576 ∧ 0 + 1048576 ≤ (at' 1048576 run).datum) ∧
    ((replanning 3 2).fmp.replan.map (fun r => (r.step, r.dir)) = some (3, (35, 5)) ∧ (replanning 3 2).moves (35, 5) 19 = true ∧
      (replanning 3 62).moves (35, 5) 19 = true ∧ (replanning 3 1).moves (35, 5) 19 = false ∧
      tget 0 (((replanning 3 2).stn 35).port 5).stepAt 19 = 0) ∧
    ((run.setFld A.END_VREQ F.END_VREQ_STEPS 12).fld A.END_VREQ F.END_VREQ_STEPS = 12 ∧
      (11 : Fin 13).val ≠ (run.setFld A.END_VREQ F.END_VREQ_STEPS 12).fld A.END_VREQ F.END_VREQ_STEPS) ∧
    (let s : State := { run with fmp := { run.fmp with vreqAt := some 0 } }
     s.fmp.vreqAt = some 0 ∧ run.fmp.vreqAt = none ∧ (at' 1999999 s).datum < 0 + 2000000 ∧ 0 + 2000000 ≤ (at' 2000000 s).datum) := by
  decide +kernel

/-! ### Hypotheses: federation -/

/-- Federation port 11 in state `c`. -/
def fedIn (c : Nat) : State := run.setFld (A.FED_STATUS 11) F.FED_STATUS_STATE c
/-- A SYNC message of version 1 whose check is that of its bytes, plus `e`. -/
def sync (e : Nat) : SyncMsg := BitVec.ofNat 288 (1 + ((syncCheck 1).toNat + e) * 2 ^ 256)
/-- A packet of command `c` for port `d`. -/
def fedPkt (c : BitVec 6) (d : Gid) : Pkt := Pkt.seal { dest := d, src := 5, cmd := c, priv := 2 } []
/-- A packet `q` has come from the station. -/
def outbound (c : Nat) (q : Pkt) : State := (fedIn c).modFed 11 (fun x => { x with rx := [q] })
/-- Chain 3 has entry 63 of the agent, with `n` flits in its queue. -/
def relayed (n : Nat) : State :=
  ((fedIn 2).wr (A.FED_CHAIN_SRC_CFG 11 63) (F.NI_CHAIN_SRC_CFG_VALID.put (F.NI_CHAIN_SRC_CFG_CHAIN.put 0 3) 1)).setSrcQueue 155 63
    (List.replicate n flit0)
/-- A relayed flit of chain 3. -/
def fedFlit : FedG := { flags := 0, chain := 3, seq := 0, stamp := 0, payload := 0 }
/-- A request at ingress whose head stands since datum 0. -/
def ingress : State := (fedIn 2).modFed 11 (fun x => { x with ing := [(0, [{ pkt := fedPkt Cmd.RD 7, head := some 0 }])] })

theorem witness_FederationTime :
    ((at' 1 run).fedNow 11 % 4096 ≠ 0 ∧ run.fedNow 11 % 4096 = 0 ∧ (run.fed 11).syncTx.head?.map Prod.snd ≠ some (run.fedNow 11) ∧
      (let s := run.modFed 11 (fun x => { x with syncTx := [(0, 0)] })
       (s.fed 11).syncTx.head?.map Prod.snd = some (s.fedNow 11))) ∧
    (syncBits (sync 1) 256 32 ≠ (syncCheck (sync 1)).toNat ∧ syncBits (sync 0) 256 32 = (syncCheck (sync 0)).toNat ∧
      syncBits (sync 0) 0 4 = 1 ∧ syncBits 0 0 4 ≠ 1) ∧
    ((fedIn 0).fedState 11 = FedState.DOWN ∧ (fedIn 2).fedState 11 ≠ FedState.DOWN ∧
      (at' 65535 (fedIn 2)).fedNow 11 < ((fedIn 2).fed 11).estAt + 65536 ∧
      (let s := (at' 65536 (fedIn 2)).modFed 11 (fun x => { x with estAt := 1 })
       s.fedNow 11 < (s.fed 11).estAt + 65536 ∧ (s.fed 11).syncAt + 65536 ≤ s.fedNow 11)) ∧
    (let r := fmp (F.FED_CTL_RESTART.put (run.rd (A.FED_CTL 11)) 1)
     let s := (fedIn 3).setFld (A.FED_STATUS 11) F.FED_STATUS_LINK_UP 1
     s.mode ≠ Mode.OFF ∧ s.writeGate (A.FED_CTL 11) r = .go ∧ reqFld r F.FED_CTL_MAX_PRIV ≠ 3 ∧ reqFld r F.FED_CTL_HOLD ≠ 0 ∧
       reqFld r F.FED_CTL_RESTART = 1 ∧ (s.plainWrite (A.FED_CTL 11) r).2 = Code.OK ∧ s.fedState 11 = FedState.LOST ∧
       s.bit (A.FED_STATUS 11) F.FED_STATUS_LINK_UP = true ∧ s.bit (A.FED_STATUS 11) F.FED_STATUS_LOCKED = false ∧
       run.writeGate (A.FED_CTL 11) (fmp 3) = .go ∧ reqFld (fmp 0) F.FED_CTL_HOLD = 0) ∧
    (let s := run.setFld (A.FED_CTL 11) F.FED_CTL_UPSTREAM 1
     let t := s.modFed 11 (fun x => { x with partnerValid := true })
     (run.setFld A.GLB_FED_ID F.GLB_FED_ID_ROOT 1).bit A.GLB_FED_ID F.GLB_FED_ID_ROOT = true ∧
       (t.setFld A.GLB_FED_ID F.GLB_FED_ID_ROOT 0).bit A.GLB_FED_ID F.GLB_FED_ID_ROOT = false ∧
       (List.range 12).find? (fun f => t.bit (A.FED_CTL f) F.FED_CTL_UPSTREAM) = some 11 ∧ (t.fed 11).partnerValid = true ∧
       (List.range 12).find? (fun f => run.bit (A.FED_CTL f) F.FED_CTL_UPSTREAM) = none) := by decide +kernel

theorem witness_FederationTraffic :
    (let s := (fedIn 2).modFed 11 (fun x => { x with fwd := [(511, some { src := 5, tag := 0, trav := 0, at' := 0 })] })
     tget none (s.fed 11).fwd 511 = some { src := 5, tag := 0, trav := 0, at' := 0 } ∧ tget none (s.fed 11).fwd 510 = none ∧
       (at' 131071 s).datum < 0 + 131072 ∧ 0 + 131072 ≤ (at' 131072 s).datum) ∧
    (let lim := 1024 * ingress.fld (A.FED_CTL 11) F.FED_CTL_HOLD
     tget [] (ingress.fed 11).ing 0 = { pkt := fedPkt Cmd.RD 7, head := some 0 } :: [] ∧ ingress.datum < 0 + lim ∧
       0 + lim ≤ (at' lim ingress).datum ∧
       (let q := fedPkt Cmd.RD 7
        let u := ((at' lim ingress).ingNext 11 0).sat (A.FED_STATUS 11) F.FED_STATUS_ABSORBED
        let v := (u.fedAnswerLink 11 q.h Code.TIMEOUT).fedPump 11
        tget [] (v.fed 11).ing 1 = [] ∧ tget [] (v.fed 11).ing 2 = [])) ∧
    ((fedIn 1).fedState 11 ≠ FedState.UP ∧ (fedIn 2).fedState 11 = FedState.UP ∧ (fedPkt Cmd.BAR 7).h.cmd = Cmd.BAR ∧
      ({ fedPkt Cmd.BAR 7 with poison := true } : Pkt).fails = true ∧ (fedPkt Cmd.BAR 7).fails = false) ∧
    (let u := (fedIn 2).gcnt 58 1
     vcTypeOf (fedPkt Cmd.EVM 7).h.cmd = .msg ∧ (u.wr (A.FED_POLICE_LEVEL 11) 0).police 11 1 = none ∧
       vcTypeOf (fedPkt Cmd.RD 7).h.cmd ≠ .msg ∧ (fedPkt Cmd.RD 7).fails = false ∧
       ({ fedPkt Cmd.RD 7 with poison := true } : Pkt).fails = true ∧ (fedPkt Cmd.RD 7).h.dest ≠ u.gid (fedKey 11) ∧
       (fedPkt Cmd.BRR (u.gid (fedKey 11))).h.dest = u.gid (fedKey 11) ∧ (fedPkt Cmd.BRR (u.gid (fedKey 11))).h.cmd = Cmd.BRR ∧
       (fedPkt Cmd.BRR (u.gid (fedKey 11))).fails = false) ∧
    (let own := (fedIn 2).gid (fedKey 11)
     let pick (s : State) := goPick (s.fedWaits 11) (s.fed 11).rx []
     pick (fedIn 2) = none ∧ pick (outbound 1 (fedPkt Cmd.RD 263)) = none ∧
       pick (outbound 2 (fedPkt Cmd.BAR own)) = some (fedPkt Cmd.BAR own) ∧ (fedPkt Cmd.BAR own).h.dest = own ∧
       (fedPkt Cmd.RD 263).h.dest ≠ own ∧ pick (outbound 2 (fedPkt Cmd.CRD 263)) = some (fedPkt Cmd.CRD 263) ∧
       pick (outbound 2 { fedPkt Cmd.CRD 263 with poison := true }) = some { fedPkt Cmd.CRD 263 with poison := true } ∧
       Cmd.isResponse Cmd.RD = false ∧ (outbound 3 (fedPkt Cmd.RD 263)).fedState 11 = FedState.LOST ∧
       pick (outbound 3 (fedPkt Cmd.RD 263)) = some (fedPkt Cmd.RD 263) ∧ pick (outbound 2 (fedPkt Cmd.RD 263)) = some (fedPkt Cmd.RD 263)) ∧
    (let find (s : State) := (List.range 64).find? (fun k => s.srcValid (fedKey 11) k &&
       s.fld (srcCfgOf (fedKey 11) k) F.NI_CHAIN_SRC_CFG_CHAIN = fedFlit.chain.toNat)
     fedFlit.err ≠ .due ∧ ({ fedFlit with err := .due } : FedG).err = .due ∧ find (fedIn 2) = none ∧ find (relayed 15) = some 63 ∧ ((relayed 15).srcQueue (fedKey 11) 63).length < 16 ∧
       16 ≤ ((relayed 16).srcQueue (fedKey 11) 63).length) := by decide +kernel

/-! ### Well-formedness: a term that each check refuses -/

theorem test_wf_port_exists : (Instr.switchAllocate 6 11).wf = false ∧ (Instr.switchAllocate 5 11).wf = true ∧
    (Instr.vcAllocate 35 11).wf = false ∧ (Instr.linkFlitReceive 35 11 .none).wf = false ∧ (Instr.gFlitArrive 35 11 .none).wf = false ∧
    (Instr.heldHeadTimeout 35 11 0).wf = false := by decide
theorem test_wf_boot : (Instr.bootRomRead {}).wf = false ∧ (Instr.imageVerify {}).wf = false ∧
    (Instr.bootInit { bytes := [0] }).wf = false ∧ (Instr.bootRomRead { nvmErr := true }).wf = true := by decide
theorem test_wf_meridian_type : (Instr.meridianReservedType 191 4).wf = false ∧ (Instr.meridianReservedType 191 5).wf = true := by decide
theorem test_wf_rws : (Instr.rwsShadowWrite 0x1000 (fmp 0)).wf = false ∧
    (Instr.rwsShadowWrite (Fin.ofNat _ (A.NI_TRAV_CTL 143)) (fmp 0)).wf = true := by decide
theorem test_wf_ticket : (Instr.slowCommandCompletion 0 {}).wf = false ∧ (Instr.slowCommandCompletion 255 {}).wf = true := by decide
theorem test_wf_readings : (Instr.thermalEvaluation []).wf = false ∧ (Instr.benchmarkScanEnd []).wf = false ∧
    (Instr.eyeMeasureEnd 35 5 []).wf = false := by decide
theorem test_wf_link_barrier : (Instr.linkBarrierReceive 11 (fedPkt Cmd.RD 7)).wf = false ∧
    (Instr.linkBarrierReceive 11 (fedPkt Cmd.BAR 7)).wf = true := by decide +kernel
theorem test_wf_accesses : (Instr.bulkTableWrite 0xFFFFFF (fmp 0)).wf = false ∧ (Instr.registerWrite 0 0 (fmp 0)).wf = false ∧
    (Instr.rcFieldRead 0 0 (fmp 0)).wf = false := by decide

/-! ### Values that the spec gives -/

/-- The header of the example of "Stations, links and packets". -/
def exampleHdr : Hdr := {
  route := 0x82211, hopptr := 2, trav := 1, dest := 22, src := 100, cmd := 2, cls := 2, len := 2, tag := 0x1A7, priv := 1
  bcount := 64, address := 0x41A40, stamp := 0x2A05F200 }

/-- R43: its four words. -/
theorem test_header : exampleHdr.bits =
    (0x2A05F20000000000 : BitVec 64) ++ (0x00041A4000400041 : BitVec 64) ++ (0xA712080064000592 : BitVec 64) ++
      (0x0000000000082211 : BitVec 64) ∧ Hdr.ofBits exampleHdr.bits = exampleHdr := by decide
/-- R68: the hops 1, 1, 2, 2, 8 of that example, and 1, 1, 3, 5, 8 of the one that vacates station 35. -/
theorem test_routes : routeOfHops [1, 1, 2, 2, 8] = 0x82211 ∧ routeOfHops [1, 1, 3, 5, 8] = 0x85311 := by decide
/-- R442: traverse 2 from P100 to P22, and entry 19 of station 16, plat 6, bank 0. -/
theorem test_bulk_addresses : routeAddr 2 100 22 = 0x11320B0 ∧ platAddr 16 6 0 19 = 0x1306026 := by decide
/-- R437: the addresses of the example of the address map, and the port that serves each. -/
theorem test_served_by : A.NI_STATE_STATUS 64 = 0x801200 ∧ cfgPort 0x801200 = .inr 176 ∧ cfgPort 0x200778 = .inr 176 ∧
    cfgPort 0xD70208 = .inr 179 ∧ cfgPort 0x1000 = .inr 240 ∧ cfgPort 0x340000 = .inl Code.TGTERR ∧
    cfgPort 0x1306020 = .inl Code.DENY := by decide
/-- R38: CRC-32C of the nine digits. -/
theorem test_crc32c : crc32c ("123456789".toList.map (fun c => BitVec.ofNat 8 c.toNat)) = 0xE3069283 := by decide +kernel
/-- R26: the example of a stake that is rounded. -/
theorem test_rounding : roundUp 5000003001 256 = 5000003072 := by decide
/-- R301: the TRIP_COMMIT header of the example of a trip, bits [31:0]. -/
theorem test_trip_header : (recHeader 7 0x4A22 []).toNat % 2 ^ 32 = 0x01288807 := by decide +kernel
/-- R399: the first SYNC of F0 in the example of a bridge goes out at 6,000,001,024, and not a cycle later. -/
theorem test_sync_instants : (at' 6000001024 run).fedNow 0 % 4096 = 0 ∧ (at' 6000001025 run).fedNow 0 % 4096 ≠ 0 := by decide

/-! ### One step with the values of an example of the spec -/

/-- What a field of a register holds after a command, if it answers a next state. -/
def fieldAfter (c : Instr) (s : State) (a : Nat) (f : Fld) : Option Nat :=
  match exec c s with
  | .next t => some (t.fld a f)
  | _ => none

/-- The list of the example "the last 512 fclk of each loop period": its two entries and its BASE. -/
def sluiced : State :=
  at' 5000020000 (((run.wr (A.NI_SLUICE_ADMIN 100 0) 0x1E007F).wr (A.NI_SLUICE_ADMIN 100 1) 0x20040).wr (A.NI_SLUICE_BASE 100)
    5000003072)
/-- R161: GO at 5,000,020,000. -/
theorem test_sluice_go :
    let c := Instr.sluiceGo 100 (fmp (F.NI_SLUICE_CTL_ADMIN_LEN.put (F.NI_SLUICE_CTL_GO.put 0 1) 2))
    fieldAfter c sluiced (A.NI_SLUICE_START 100) ⟨0, 64⟩ = some 5000027648 ∧
    fieldAfter c sluiced (A.NI_SLUICE_STATUS 100) F.NI_SLUICE_STATUS_LATE_START = some 1 ∧
    fieldAfter c sluiced (A.NI_SLUICE_STATUS 100) F.NI_SLUICE_STATUS_SKIPPED = some 3 := by decide +kernel

/-- The example of a bridge at F0: the SYNC sent at t1 is answered by one sent at t3, which arrives at t4. -/
def bridged : State := (at' 6000003479 run).modFed 0 (fun x => { x with syncTx := [(0, 6000001024)] })
/-- The partner's SYNC: version 1, its t3, and its t2. -/
def partnerSync : SyncMsg :=
  let low := 1 + 2 ^ 64 * 6001238016 + 2 ^ 128 * 6001235621
  BitVec.ofNat 288 (low + 2 ^ 256 * (crc32c (leBytes 32 low)).toNat)
/-- R400: the offset 1,234,567 and the delay 30. -/
theorem test_sync_receive :
    fieldAfter (.ttSyncReceive 0 partnerSync) bridged (A.FED_TT_OFFSET 0) ⟨0, 64⟩ = some 1234567 ∧
    fieldAfter (.ttSyncReceive 0 partnerSync) bridged (A.FED_TT_DELAY 0) F.FED_TT_DELAY_DELAY = some 30 := by decide +kernel

/-- The example "waking a loop engine": channel 48 with WAKE from P100 to P64, whose domain is down. -/
def loopEngine (ms : List Msg) : State :=
  let cfg : Word := F.MBX_CH_CFG_SENDER.put (F.MBX_CH_CFG_RECEIVER.put (F.MBX_CH_CFG_WAKE.put (F.MBX_CH_CFG_ENABLE.put 0 1) 1) 64) 100
  let s := at' 9000000022 ((run.wr (A.MBX_CH_CFG 48) cfg).setFld (A.NI_CTL 64) F.NI_CTL_STATE PortStt.QUIESCE)
  { s with mbx := [(48, ms)], glb := { s.glb with rx := [Pkt.seal
    { dest := 240, src := 100, cmd := Cmd.MSG, bcount := 64, address := 64 * 48, priv := 1 } [0, 0]] } }
/-- R238: the first message lands, and the power-up of P64 is asked for; the next one is refused and counted. -/
theorem test_message_lands :
    fieldAfter .msgReceive (loopEngine []) (A.MBX_CH_STATUS 48) F.MBX_CH_STATUS_LANDED = some 1 ∧
    fieldAfter .msgReceive (loopEngine []) (A.MBX_CH_STATUS 48) F.MBX_CH_STATUS_WAKE_PEND = some 1 ∧
    fieldAfter .msgReceive (loopEngine []) (A.NI_DOM 64) F.NI_DOM_REQ = some 1 ∧
    fieldAfter .msgReceive (loopEngine [msg 1 []]) (A.MBX_CH_STATUS 48) F.MBX_CH_STATUS_REFUSED = some 1 ∧
    ((loopEngine [msg 1 []]).mbxPut 48 100 1 0).2 = Code.RETRY_PWR := by decide +kernel

end Sys2Proof.Tests
end

section
/-!
PROOFS. The block's step, the bytes of its bulk memory, and truncated stamps (R4, R16).
-/
namespace Sys2Proof.Machine

/-- Settles O1: `step` is defined by the queue's front. -/
theorem stepRunsTheFrontCommand : Obligations.StepRunsTheFrontCommand := by
  intro s c rest
  rfl

/-! ### Bytes (R4) -/

/-- `n` bytes read the low `n` bytes of what was last written to them. -/
theorem State.rdMem_wrMem (n : Nat) : ∀ (s : State) (a v : Nat), (s.wrMem a v n).rdMem a n = v % 256 ^ n := by
  induction n with
  | zero => intro s a v; rw [pow_zero, Nat.mod_one]; rfl
  | succ n ih =>
    intro s a v
    rw [State.wrMem, State.rdMem, ih, State.rdByte_wrMem_out n _ _ _ _ (by omega), State.rdByte_wrByte_same,
      BitVec.toNat_ofNat, pow_succ' 256 n]
    exact Nat.mod_mul.symm

/-! ### Truncated stamps (R16) -/

/-- The expanded stamp has the stamp as its low bits and lies in the half-open window around the present datum. -/
theorem expandStamp_spec {n now : Nat} (stamp : Nat) (hn : 1 ≤ n) (hnow : 2 ^ (n - 1) ≤ now + 1) :
    (∃ k, expandStamp n now stamp = k * 2 ^ n + stamp % 2 ^ n) ∧ now < expandStamp n now stamp + 2 ^ (n - 1) ∧
      expandStamp n now stamp ≤ now + 2 ^ (n - 1) := by
  have hm : 2 ^ n = 2 * 2 ^ (n - 1) := by rw [← pow_succ', Nat.sub_add_cancel hn]
  have hr : stamp % 2 ^ n < 2 ^ n := Nat.mod_lt _ (Nat.two_pow_pos n)
  have hq : now / 2 ^ n * 2 ^ n + now % 2 ^ n = now := Nat.div_add_mod' now (2 ^ n)
  have ht : now % 2 ^ n < 2 ^ n := Nat.mod_lt _ (Nat.two_pow_pos n)
  have hh : 2 ^ n / 2 = 2 ^ (n - 1) := by omega
  unfold expandStamp
  dsimp only
  rw [hh]
  generalize now / 2 ^ n = q at *
  split
  · -- the value a period earlier, which exists as the window does not reach below 0
    next hlate =>
    obtain ⟨k, rfl⟩ := Nat.exists_eq_succ_of_ne_zero (n := q) (by rintro rfl; omega)
    rw [Nat.succ_mul] at *
    exact ⟨⟨k, by omega⟩, by omega, by omega⟩
  · split
    · exact ⟨⟨q + 1, by rw [Nat.add_one_mul]; omega⟩, by omega, by omega⟩
    · exact ⟨⟨q, rfl⟩, by omega, by omega⟩

/-- Two numbers with the same low `n` bits in one half-open window of length `2 ^ n` are equal. -/
theorem eq_of_mod_eq_of_window {n now x y : Nat} (hn : 1 ≤ n) (h : y % 2 ^ n = x % 2 ^ n)
    (hx : now < x + 2 ^ (n - 1) ∧ x ≤ now + 2 ^ (n - 1)) (hy : now < y + 2 ^ (n - 1) ∧ y ≤ now + 2 ^ (n - 1)) : y = x := by
  have hm : 2 ^ n = 2 * 2 ^ (n - 1) := by rw [← pow_succ', Nat.sub_add_cancel hn]
  refine Nat.ModEq.eq_of_abs_lt h ?_
  rw [abs_lt]
  omega

/-- Settles O9: the bytes by `State.rdMem_wrMem` and the laws of the memory, the stamp by its window, in which no other
number has its low bits. -/
theorem bytesAndStampsReadBack : Obligations.BytesAndStampsReadBack := by
  refine ⟨fun s a v n => ⟨State.rdMem_wrMem n s a v, State.rdByte_wrMem_out n s a v, State.wf_wrMem n s a v⟩, ?_⟩
  intro n now stamp hn hnow
  obtain ⟨⟨k, hk⟩, hlo, hhi⟩ := expandStamp_spec stamp hn hnow
  have hmod : expandStamp n now stamp % 2 ^ n = stamp % 2 ^ n := by
    rw [hk, Nat.mul_add_mod_self_right, Nat.mod_mod]
  exact ⟨hmod, hlo, hhi, fun y hy hylo hyhi => eq_of_mod_eq_of_window hn (hy.trans hmod.symm) ⟨hlo, hhi⟩ ⟨hylo, hyhi⟩⟩

end Sys2Proof.Machine
end

section
/-!
PROOFS. A configuration access that its unit serves (R7, R200, R228, R439, R440, R442).
-/
namespace Sys2Proof.Machine

/-! ### The unit that serves an access (R200, R228) -/

/-- With no other lock access in the cycle the one commanded is served alone. -/
theorem State.lockAccess_of_turn {s : State} (x : LockAcc) (hm : s.mode ≠ Mode.OFF) (ht : s.lockTurn) :
    s.lockAccess x = s.lockServe x := by
  obtain ⟨hskip, hq⟩ := ht
  unfold State.lockAccess
  rw [if_neg hm, if_neg (by rw [hskip]; decide), hq]
  rfl

/-- In its mclk the mailbox unit serves the access and is used. -/
theorem State.mbxAccess_of_turn {s : State} (act : State → State) (hm : s.mode ≠ Mode.OFF) (ht : s.mbxTurn) :
    s.mbxAccess act = act s.accUsed := by
  obtain ⟨hskip, hfree⟩ := ht
  unfold State.mbxAccess
  rw [if_neg hm, if_neg (by rw [hskip]; decide), hfree]
  rfl

@[simp] theorem State.atUnit_mode (s : State) (a : Nat) : (s.atUnit a).mode = s.mode := by
  unfold State.atUnit; split <;> rfl

@[simp] theorem State.atUnit_rd (s : State) (a b : Nat) : (s.atUnit a).rd b = s.rd b := by
  unfold State.atUnit; split <;> rfl

@[simp] theorem State.atUnit_aclOk (s : State) (a : Nat) (c : Acl) (b : Nat) (r : Req) :
    (s.atUnit a).aclOk c b r = s.aclOk c b r := by
  unfold State.atUnit; split <;> rfl

@[simp] theorem State.atUnit_writeGate (s : State) (a b : Nat) (r : Req) :
    (s.atUnit a).writeGate b r = s.writeGate b r := by
  unfold State.atUnit; split <;> rfl

/-- Outside the mailbox unit no unit's turn is used. -/
theorem State.atUnit_of_not_inMbx {s : State} {a : Nat} (h : inMbx a = false) : s.atUnit a = s := by
  rw [State.atUnit, h]; rfl

/-- An access in its turn, the lock bank's apart, is served in the state of its unit. -/
theorem State.unit_serves {s : State} {a : Nat} (act : State → State) (hm : s.mode ≠ Mode.OFF)
    (ht : inMbx a = true → s.mbxTurn) :
    (if inMbx a then s.mbxAccess act else act s) = act (s.atUnit a) := by
  by_cases h : inMbx a = true
  · rw [if_pos h, State.mbxAccess_of_turn act hm (ht h), State.atUnit, if_pos h]
  · rw [if_neg h, State.atUnit, if_neg h]

/-- A write that is served is also served in the state of its unit. -/
theorem State.admits_atUnit {s : State} {a : Nat} {r : Req} (h : s.admits a r) : (s.atUnit a).admits a r := by
  obtain ⟨hm, hg, he⟩ := h
  exact ⟨by rwa [State.atUnit_mode], by rwa [State.atUnit_writeGate], he⟩

/-! ### The lock bank -/

theorem inLocks_iff (a : Nat) : inLocks a = true ↔ 0x4000 ≤ a ∧ a < 0x4800 := by
  simp [inLocks]

/-- The lock bank is no part of the mailbox unit. -/
theorem inMbx_of_inLocks {a : Nat} (h : inLocks a = true) : inMbx a = false := by
  rw [inLocks_iff] at h
  have : ¬ 0x10000 ≤ a := by omega
  simp [inMbx, this]

/-- No field of LCK_ACQn is of type RWS. -/
theorem lockRow_noRws (l : Fin 256) : (rowAt (A.LCK_ACQ l.val)).map RegRow.rwsFlds = some [] := by
  revert l
  decide +kernel

/-- The rule of a register of the lock bank is R199's. -/
theorem State.regAct_locks (s : State) {a : Nat} (r : Req) (h : inLocks a = true) (ha : a % 8 = 0) :
    s.regAct a r = s.writeLock ((a - A.LCK_ACQ 0) / 8) r := by
  rw [inLocks_iff] at h
  have hl : a = A.LCK_ACQ ((a - 0x4000) / 8) := by show a = 0x4000 + (a - 0x4000) / 8 * 8; omega
  have hrow := lockRow_noRws ⟨(a - 0x4000) / 8, by omega⟩
  rw [← hl, Option.map_eq_some_iff] at hrow
  obtain ⟨row, hrow, hrws⟩ := hrow
  have hblk : blkOf a = some (.glb, a) := if_pos (by omega)
  have hact : s.actGlb a r = s.writeLock ((a - A.LCK_ACQ 0) / 8) r := by
    unfold State.actGlb
    dsimp only [A.GLB_SOFT_RESET, A.GLB_FED_ID, A.DAT_CTL, A.DAT_ALARM_CTL, A.DAT_ALARM, A.STK_SET_CTL, A.GLB_STK_EXP,
      A.LCK_ACQ]
    rw [if_neg (by omega), if_neg (by omega), if_neg (by omega), if_neg (by omega), if_neg (by omega),
      if_neg (by omega), if_neg (by omega), if_pos (by omega)]
  unfold State.regAct
  rw [hrow, hblk]
  dsimp only
  rw [hrws, ← hact]
  rfl

/-! ### Register writes -/

/-- A write of 8 bytes at a register's offset that is admitted and in its turn has the effect of the register's own rule. -/
theorem execRegisterWrite_serves {off : Fin 33554432} {sz : Fin 9} {r : Req} {s : State} (hsz : sz.val = 8)
    (hal : off.val % 8 = 0) (hlo : off.val < 0x1000000) (ha : s.admits off.val r) (ht : s.inTurn off.val) :
    exec (.registerWrite off sz r) s =
      .next (((s.atUnit off.val).regAct off.val r).1.ans off.val r ((s.atUnit off.val).regAct off.val r).2) := by
  have hok : accessOk off.val sz.val = true := by simp [accessOk, hsz, hal]
  obtain ⟨hlck, hmbx⟩ := ht
  show execRegisterWrite off sz r s = _
  unfold execRegisterWrite
  dsimp only
  rw [if_neg ha.1, hok, Bool.not_true, if_neg Bool.false_ne_true, if_neg (by omega)]
  by_cases hl : inLocks off.val = true
  · rw [if_pos hl, State.lockAccess_of_turn _ ha.1 (hlck hl), State.atUnit_of_not_inMbx (inMbx_of_inLocks hl),
      State.regAct_locks s r hl hal, ← State.serve_go (act := (·.writeLock ((off.val - A.LCK_ACQ 0) / 8) r)) ha]
    rfl
  · rw [if_neg hl, State.unit_serves (·.serve off.val r (·.regAct off.val r)) ha.1 hmbx,
      State.serve_go (State.admits_atUnit ha)]

/-- A field that takes a whole register takes the whole word. -/
theorem Fld.put_whole (x v : Word) : Fld.put ⟨0, 64⟩ x (Fld.get ⟨0, 64⟩ v) = v := by
  have hx := x.isLt
  have hv := v.isLt
  apply BitVec.eq_of_toNat_eq
  rw [Fld.toNat_put _ _ _ (by decide)]
  simp only [Fld.get]
  omega

/-- Only the FMP writes SRV_NEXT. -/
theorem isFmp_of_writes_SRV_NEXT {s : State} {r : Req} (h : s.writeGate A.SRV_NEXT r = .go) : isFmp r = true := by
  have hg : s.writeGate A.SRV_NEXT r = if isFmp r then .go else .deny := rfl
  rw [hg] at h
  by_contra hn
  rw [if_neg hn] at h
  exact absurd h (by decide)

/-- A write of SRV_NEXT by the FMP that nothing else of the cycle has changed. -/
theorem State.regAct_SRV_NEXT {s : State} {r : Req} (hf : isFmp r = true) (hq : (s.seenOf A.SRV_NEXT).2 = s.rd A.SRV_NEXT) :
    s.regAct A.SRV_NEXT r = (s.wrServed A.SRV_NEXT r.data r.data, Code.OK) := by
  have hact : s.regAct A.SRV_NEXT r = s.plainWrite A.SRV_NEXT r := rfl
  have hrow : rowAt A.SRV_NEXT = some ⟨0x40010, 1, 0x1000000, 1, 0x8, .p1, .fmp, 0x0, [(F.SRV_NEXT_INSTANT, .fmp)]⟩ := rfl
  have hnow : actsNext A.SRV_NEXT = false := rfl
  rw [hact, State.plainWrite, hrow]
  simp [RegRow.write, State.joined, Acc.after, Acc.join, hf, hq, hnow, Fld.put_whole]

/-! ### Register reads -/

/-- Two fields share no bit. -/
abbrev Fld.apart (f g : Fld) : Prop := f.lo + f.w ≤ g.lo ∨ g.lo + g.w ≤ f.lo

theorem Fld.get_put_apart {f g : Fld} (x : Word) (v : Nat) (h : f.lo + f.w ≤ 64) (hg : f.apart g) :
    g.get (f.put x v) = g.get x := by
  rcases hg with hg | hg
  · exact Fld.get_put_above f g x v h hg
  · exact Fld.get_put_below f g x v h hg

/-- A field apart from all that are written keeps its value. -/
theorem Fld.get_foldl_put_apart (val : Fld × Acc → Nat) (g : Fld) : ∀ (l : List (Fld × Acc)) (x : Word),
    (∀ e ∈ l, e.1.lo + e.1.w ≤ 64 ∧ e.1.apart g) → g.get (l.foldl (fun x e => e.1.put x (val e)) x) = g.get x
  | [], _, _ => rfl
  | e :: l, x, h => by
    obtain ⟨⟨hfit, hap⟩, hl⟩ := List.forall_mem_cons.1 h
    rw [List.foldl_cons, Fld.get_foldl_put_apart val g l _ hl, Fld.get_put_apart x _ hfit hap]

/-- Fields lie in the word and share no bit. -/
def fieldsApart (l : List (Fld × Acc)) : Prop :=
  (∀ e ∈ l, e.1.lo + e.1.w ≤ 64) ∧ l.Pairwise (fun e d => e.1.apart d.1)

theorem apart_symm : Std.Symm (fun e d : Fld × Acc => e.1.apart d.1) := ⟨fun _ _ => Or.symm⟩

/-- Of fields that are apart each reads what is written into it. -/
theorem Fld.get_foldl_put (val : Fld × Acc → Nat) : ∀ (l : List (Fld × Acc)) (x : Word), fieldsApart l →
    ∀ e ∈ l, e.1.get (l.foldl (fun x e => e.1.put x (val e)) x) = val e % 2 ^ e.1.w
  | [], _, _, e, he => absurd he List.not_mem_nil
  | d :: l, x, ⟨hfit, hap⟩, e, he => by
    obtain ⟨hd, hl⟩ := List.forall_mem_cons.1 hfit
    obtain ⟨hdl, hap⟩ := List.pairwise_cons.1 hap
    rw [List.foldl_cons]
    rcases List.mem_cons.1 he with rfl | he
    · rw [Fld.get_foldl_put_apart val e.1 l _ fun c hc => ⟨hl c hc, (hdl c hc).symm⟩, Fld.get_put _ _ _ hd]
    · exact Fld.get_foldl_put val l _ ⟨hl, hap⟩ e he

/-- A read leaves every other register alone. -/
theorem State.rd_readClear_ne (s : State) {a b : Nat} (h : b ≠ a) : (s.readClear a).rd b = s.rd b := by
  unfold State.readClear
  split
  · rfl
  · dsimp only
    split
    · rfl
    · exact State.rd_wrServed_ne s _ _ h

/-- A word with a row's fields of type RC at 0 (R7). -/
def RegRow.rcCleared (row : RegRow) (x : Word) : Word :=
  (row.flds.filter fun e => e.2 = .rc).foldl (fun x e => e.1.put x 0) x

section
variable {row : RegRow} {f : Fld} {c : Acc} (hf : fieldsApart row.flds) (he : (f, c) ∈ row.flds)
include hf he

theorem RegRow.get_rcCleared_rc (x : Word) (hc : c = .rc) : f.get (row.rcCleared x) = 0 := by
  have hsub : fieldsApart (row.flds.filter fun e => e.2 = .rc) :=
    ⟨fun e h => hf.1 e (List.mem_of_mem_filter h), hf.2.filter _⟩
  exact (Fld.get_foldl_put (fun _ => 0) _ x hsub (f, c) (List.mem_filter.2 ⟨he, by simpa using hc⟩)).trans (Nat.zero_mod _)

theorem RegRow.get_rcCleared_keep (x : Word) (hc : c ≠ .rc) : f.get (row.rcCleared x) = f.get x := by
  have := apart_symm
  refine Fld.get_foldl_put_apart (fun _ => 0) f _ _ fun e h => ?_
  obtain ⟨hmem, herc⟩ := List.mem_filter.1 h
  have hne : e ≠ (f, c) := by rintro rfl; exact hc (by simpa using herc)
  exact ⟨hf.1 e hmem, hf.2.forall hmem he hne⟩

/-- A field of a register to which an access has given the value `new`. -/
theorem State.get_joined (s : State) (a : Nat) (new : Word) :
    f.get (s.joined a row new) = c.join f (s.seenOf a).2 (s.rd a) new % 2 ^ f.w :=
  Fld.get_foldl_put (fun e => e.2.join e.1 (s.seenOf a).2 (s.rd a) new) _ _ hf _ he

end

/-- A field that the access leaves as it was, no bit of it cleared by a write of 1, takes the cycle's value (R440). -/
theorem Acc.join_kept {c : Acc} {f : Fld} {held cur new : Word} (hc : c ≠ .w1c) (hn : f.get new = f.get held) :
    c.join f held cur new = f.get cur := by
  have hlt := Fld.get_lt f cur
  unfold Acc.join
  dsimp only
  rw [hn]
  split
  · assumption
  · split
    · omega
    · rfl

/-- A field of type RC that the access clears is 0 unless the cycle has changed it (R440). -/
theorem Acc.join_cleared {f : Fld} {held cur new : Word} (hn : f.get new = 0) :
    Acc.rc.join f held cur new = if f.get held = f.get cur then 0 else f.get cur := by
  unfold Acc.join
  dsimp only
  rw [hn]
  rfl

/-- What a read makes of a register with a field of type RC. -/
theorem State.readClear_eq {s : State} {a : Nat} {row : RegRow} (hrow : rowAt a = some row)
    (hrc : (row.flds.filter fun e => e.2 = .rc).isEmpty = false) :
    s.readClear a = s.wrServed a (row.rcCleared (s.seenOf a).2) (s.joined a row (row.rcCleared (s.seenOf a).2)) := by
  unfold State.readClear
  rw [hrow]
  dsimp only
  rw [hrc]
  rfl

/-- A read leaves a register without such a field alone. -/
theorem State.readClear_none {s : State} {a : Nat} {row : RegRow} (hrow : rowAt a = some row)
    (hrc : (row.flds.filter fun e => e.2 = .rc).isEmpty = true) : s.readClear a = s := by
  unfold State.readClear
  rw [hrow]
  dsimp only
  rw [if_pos hrc]

/-- R7, R440: what the fields of a register hold after a read: one of type RC is 0 unless the cycle has changed it, and
every other field, bits that are cleared by a write of 1 apart, is as it was. -/
theorem State.fld_readClear {s : State} {a : Nat} {row : RegRow} (hrow : rowAt a = some row) (hf : fieldsApart row.flds)
    {f : Fld} {c : Acc} (he : (f, c) ∈ row.flds) (hc : c ≠ .w1c) :
    (s.readClear a).fld a f = if c = .rc ∧ f.get (s.seenOf a).2 = s.fld a f then 0 else s.fld a f := by
  have hlt := Fld.get_lt f (s.rd a)
  cases hfs : (row.flds.filter fun e => e.2 = .rc).isEmpty with
  | true =>
    have hrc : c ≠ .rc := fun hrc => by
      rw [List.isEmpty_iff, List.filter_eq_nil_iff] at hfs
      exact hfs _ he (by simpa using hrc)
    rw [State.readClear_none hrow hfs, if_neg fun h => hrc h.1]
  | false =>
    rw [State.readClear_eq hrow hfs, State.fld, State.rd_wrServed_same, State.get_joined hf he, State.fld]
    by_cases hrc : c = .rc
    · have hclr := RegRow.get_rcCleared_rc hf he (s.seenOf a).2 hrc
      subst hrc
      rw [Acc.join_cleared hclr]
      split <;> simp [Nat.mod_eq_of_lt hlt, *]
    · rw [Acc.join_kept hc (RegRow.get_rcCleared_keep hf he _ hrc), Nat.mod_eq_of_lt hlt, if_neg fun h => hrc h.1]

/-- A read of 8 bytes at a live register's offset, LCK_ACQn apart, that the reader's privilege allows, in its turn. -/
theorem execRcFieldRead_serves {off : Fin 33554432} {sz : Fin 9} {r : Req} {s : State} {row : RegRow}
    (hm : s.mode ≠ Mode.OFF) (hsz : sz.val = 8) (hal : off.val % 8 = 0) (hlo : off.val < 0x1000000)
    (hv : shadowView off.val = none) (hrow : rowAt off.val = some row) (hrd : row.rd ≠ .closed)
    (hacl : s.aclOk row.rd off.val r = true)
    (hl : inLocks off.val = false) (ht : inMbx off.val = true → s.mbxTurn) :
    exec (.rcFieldRead off sz r) s = .next (((s.atUnit off.val).readClear off.val).answer off.val r true Code.OK
      ((s.atUnit off.val).readView off.val)) := by
  have hok : accessOk off.val sz.val = true := by simp [accessOk, hsz, hal]
  show execRcFieldRead off sz r s = _
  unfold execRcFieldRead
  dsimp only
  rw [if_neg hm, hok, Bool.not_true, if_neg Bool.false_ne_true, if_neg (by omega), hv]
  dsimp only
  rw [hl, if_neg Bool.false_ne_true, State.unit_serves (·.regRead off.val r) hm ht, State.regRead, hrow]
  dsimp only
  rw [if_neg hrd, State.atUnit_aclOk, hacl, Bool.not_true, if_neg Bool.false_ne_true]

/-- R443: the row of DAT_MER_STATUS. -/
def merStatusRow : RegRow :=
  ⟨0x1048, 1, 0x1000000, 1, 0x8, .p1, .closed, 0x0,
    [(F.DAT_MER_STATUS_PENDING, .ro), (F.DAT_MER_STATUS_MAX_WAIT, .rc), (F.DAT_MER_STATUS_LATE_COUNT, .ro)]⟩

theorem rowAt_DAT_MER_STATUS : rowAt A.DAT_MER_STATUS = some merStatusRow := rfl

theorem fieldsApart_merStatusRow : fieldsApart merStatusRow.flds := by
  unfold fieldsApart
  decide

/-- The computed field of DAT_MER_STATUS is PENDING; MAX_WAIT reads as it stood at the start of the cycle (R440). -/
theorem State.view_DAT_MER_STATUS_MAX_WAIT (s : State) : F.DAT_MER_STATUS_MAX_WAIT.get (s.view A.DAT_MER_STATUS) =
    F.DAT_MER_STATUS_MAX_WAIT.get (s.seenOf A.DAT_MER_STATUS).1 :=
  Fld.get_put_above F.DAT_MER_STATUS_PENDING F.DAT_MER_STATUS_MAX_WAIT _ _ (by decide) (by decide)

/-! ### Bulk writes (R442, R104) -/

theorem execBulkTableWrite_eq {off : Fin 33554432} {r : Req} {s : State} (hm : s.mode ≠ Mode.OFF)
    (ho : 0x1000000 ≤ off.val) :
    exec (.bulkTableWrite off r) s =
      .next ((if s.bulkWriteCode off.val r = Code.OK then s.wrMem off.val r.data.toNat 8 else s).ans off.val r
        (s.bulkWriteCode off.val r)) := by
  show execBulkTableWrite off r s = _
  unfold execBulkTableWrite State.bulkWrite
  rw [if_neg (by omega), if_neg hm]

/-- A bulk write judged OK stores its 8 bytes. -/
theorem execBulkTableWrite_stores {off : Fin 33554432} {r : Req} {s : State} (hm : s.mode ≠ Mode.OFF)
    (ho : 0x1000000 ≤ off.val) (hc : s.bulkWriteCode off.val r = Code.OK) :
    exec (.bulkTableWrite off r) s = .next ((s.wrMem off.val r.data.toNat 8).ans off.val r Code.OK) := by
  rw [execBulkTableWrite_eq hm ho, hc, if_pos rfl]

/-- A bulk write judged otherwise stores no byte. -/
theorem execBulkTableWrite_refuses {off : Fin 33554432} {r : Req} {s : State} {c : BitVec 4} (hm : s.mode ≠ Mode.OFF)
    (ho : 0x1000000 ≤ off.val) (hc : s.bulkWriteCode off.val r = c) (hne : c ≠ Code.OK) :
    exec (.bulkTableWrite off r) s = .next (s.ans off.val r c) := by
  rw [execBulkTableWrite_eq hm ho, hc, if_neg hne]

/-- Below the bulk windows no offset names a table. -/
theorem bulkOf_low {a : Nat} (h : a < 0x1000000) : bulkOf a = .reserved := by
  unfold bulkOf
  rw [if_neg (by omega), if_neg (by omega), if_neg (by omega)]

/-- A table that is not the reserved part lies in the bulk windows. -/
theorem le_of_bulkOf_ne_reserved {a : Nat} (h : bulkOf a ≠ .reserved) : 0x1000000 ≤ a := by
  by_contra hn
  exact h (bulkOf_low (by omega))

section
variable {s : State} {a : Nat} {r : Req}

theorem State.bulkWriteCode_misaligned (h : a % 8 ≠ 0) : s.bulkWriteCode a r = Code.TGTERR := if_pos h

theorem State.bulkWriteCode_notFmp (h : a % 8 = 0) (hf : isFmp r = false) : s.bulkWriteCode a r = Code.DENY := by
  unfold State.bulkWriteCode
  rw [if_neg (not_not.2 h), hf]
  rfl

/-- The judgement of an aligned write of the FMP is the table's. -/
theorem State.bulkWriteCode_fmp (h : a % 8 = 0) (hf : isFmp r = true) :
    (bulkOf a = .route → s.bulkWriteCode a r = Code.OK) ∧
    (bulkOf a = .reserved ∨ bulkOf a = .trace → s.bulkWriteCode a r = Code.TGTERR) ∧
    (∀ st n b, bulkOf a = .plat st n b → s.bulkWriteCode a r =
      if s.platBank st n = b ∨ s.bit (A.STN_PLAT_CTL st n) F.STN_PLAT_CTL_LOCKED then Code.DENY else Code.OK) := by
  unfold State.bulkWriteCode
  rw [if_neg (not_not.2 h), hf, Bool.not_true, if_neg Bool.false_ne_true]
  refine ⟨fun e => by rw [e], ?_, fun st n b e => by rw [e]⟩
  rintro (e | e) <;> rw [e]

/-- Neither the reserved part nor the trace store is written through the windows, whatever the alignment (R5, R442). -/
theorem State.bulkWriteCode_noTable (hf : isFmp r = true) (h : bulkOf a = .reserved ∨ bulkOf a = .trace) :
    s.bulkWriteCode a r = Code.TGTERR := by
  by_cases ha : a % 8 = 0
  · exact (State.bulkWriteCode_fmp ha hf).2.1 h
  · exact State.bulkWriteCode_misaligned ha

end

/-! ### The clauses of O15 -/

/-- SRV_NEXT takes the data of a write of the FMP, and no other register changes. -/
theorem exec_write_SRV_NEXT {off : Fin 33554432} {sz : Fin 9} {r : Req} {s : State} (hsz : sz.val = 8)
    (ho : off.val = A.SRV_NEXT) (ha : s.admits off.val r) (hq : (s.seenOf A.SRV_NEXT).2 = s.rd A.SRV_NEXT) :
    exec (.registerWrite off sz r) s = .next ((s.wrServed A.SRV_NEXT r.data r.data).ans off.val r Code.OK) := by
  have hturn : s.inTurn off.val := by rw [ho]; exact ⟨fun h => absurd h (by decide), fun h => absurd h (by decide)⟩
  have hunit : s.atUnit off.val = s := State.atUnit_of_not_inMbx (by rw [ho]; decide)
  rw [execRegisterWrite_serves hsz (by rw [ho]; decide) (by rw [ho]; decide) ha hturn, hunit]
  rw [ho] at ha ⊢
  rw [State.regAct_SRV_NEXT (isFmp_of_writes_SRV_NEXT ha.2.1) hq]

/-- A read of DAT_MER_STATUS by a reader of level 1. -/
theorem exec_read_DAT_MER_STATUS {off : Fin 33554432} {sz : Fin 9} {r : Req} {s : State} (hm : s.mode ≠ Mode.OFF)
    (hsz : sz.val = 8) (ho : off.val = A.DAT_MER_STATUS) (hp : 1 ≤ effPriv r.src r.priv) :
    exec (.rcFieldRead off sz r) s =
      .next ((s.readClear A.DAT_MER_STATUS).answer off.val r true Code.OK (s.view A.DAT_MER_STATUS)) := by
  have hunit : s.atUnit off.val = s := State.atUnit_of_not_inMbx (by rw [ho]; decide)
  rw [execRcFieldRead_serves (row := merStatusRow) hm hsz (by rw [ho]; decide) (by rw [ho]; decide) (by rw [ho]; rfl)
    (by rw [ho]; exact rowAt_DAT_MER_STATUS) (by decide) (decide_eq_true hp) (by rw [ho]; decide)
    (fun h => by rw [ho] at h; exact absurd h (by decide)), hunit, ho]
  rfl

/-- What DAT_MER_STATUS holds after the read. -/
theorem State.readClear_DAT_MER_STATUS (s : State) :
    (s.readClear A.DAT_MER_STATUS).fld A.DAT_MER_STATUS F.DAT_MER_STATUS_MAX_WAIT =
      (if F.DAT_MER_STATUS_MAX_WAIT.get (s.seenOf A.DAT_MER_STATUS).2 =
          s.fld A.DAT_MER_STATUS F.DAT_MER_STATUS_MAX_WAIT then 0
       else s.fld A.DAT_MER_STATUS F.DAT_MER_STATUS_MAX_WAIT) ∧
    (s.readClear A.DAT_MER_STATUS).fld A.DAT_MER_STATUS F.DAT_MER_STATUS_PENDING =
      s.fld A.DAT_MER_STATUS F.DAT_MER_STATUS_PENDING ∧
    (s.readClear A.DAT_MER_STATUS).fld A.DAT_MER_STATUS F.DAT_MER_STATUS_LATE_COUNT =
      s.fld A.DAT_MER_STATUS F.DAT_MER_STATUS_LATE_COUNT := by
  have key {f : Fld} {c : Acc} (he : (f, c) ∈ merStatusRow.flds) (hc : c ≠ .w1c) :=
    State.fld_readClear (s := s) rowAt_DAT_MER_STATUS fieldsApart_merStatusRow he hc
  refine ⟨?_, ?_, ?_⟩
  · rw [key (c := .rc) (by decide) (by decide)]; simp
  · rw [key (c := .ro) (by decide) (by decide)]; simp
  · rw [key (c := .ro) (by decide) (by decide)]; simp

/-- A bulk write of the FMP to the route table, or to a bank of a plat that is neither active nor locked (R442, R104). -/
theorem exec_bulk_stores {off : Fin 33554432} {r : Req} {s : State} (hm : s.mode ≠ Mode.OFF) (hf : isFmp r = true)
    (hal : off.val % 8 = 0)
    (h : bulkOf off.val = .route ∨ ∃ st n b, bulkOf off.val = .plat st n b ∧ s.platBank st n ≠ b ∧
      s.fld (A.STN_PLAT_CTL st n) F.STN_PLAT_CTL_LOCKED = 0) :
    exec (.bulkTableWrite off r) s = .next ((s.wrMem off.val r.data.toNat 8).ans off.val r Code.OK) := by
  obtain ⟨hroute, -, hplat⟩ := State.bulkWriteCode_fmp (s := s) hal hf
  obtain e | ⟨st, n, b, e, hb, hlk⟩ := h
  · exact execBulkTableWrite_stores hm (le_of_bulkOf_ne_reserved (by rw [e]; decide)) (hroute e)
  · refine execBulkTableWrite_stores hm (le_of_bulkOf_ne_reserved (by rw [e]; exact Bulk.noConfusion)) ?_
    rw [hplat st n b e, if_neg]
    simp [hb, State.bit, hlk]

/-- The active bank of a plat and a locked plat are not written (R104, R106). -/
theorem exec_bulk_denied {off : Fin 33554432} {r : Req} {s : State} {st n b : Nat} (hm : s.mode ≠ Mode.OFF)
    (ho : 0x1000000 ≤ off.val) (hf : isFmp r = true) (hal : off.val % 8 = 0) (e : bulkOf off.val = .plat st n b)
    (h : s.platBank st n = b ∨ s.fld (A.STN_PLAT_CTL st n) F.STN_PLAT_CTL_LOCKED = 1) :
    exec (.bulkTableWrite off r) s = .next (s.ans off.val r Code.DENY) := by
  obtain ⟨-, -, hplat⟩ := State.bulkWriteCode_fmp (s := s) hal hf
  refine execBulkTableWrite_refuses hm ho ?_ (by decide)
  rw [hplat st n b e, if_pos (h.imp_right fun hl => by simp [State.bit, hl])]

/-- Settles O15: register writes and reads through the unit that serves them, bulk writes by their judgement. -/
theorem configurationAccessesComplete : Obligations.ConfigurationAccessesComplete := by
  refine ⟨⟨?_, ?_, ?_, ?_, fun off r s hm hf hal h => exec_bulk_stores hm hf hal h⟩, fun off r s hm ho => ⟨?_, ?_, ?_⟩⟩
  · intro off sz r s hsz hal hlo ha ht
    exact ⟨_, rfl, execRegisterWrite_serves hsz hal hlo ha ht⟩
  · intro off sz r s hsz ho ha hq
    exact ⟨_, exec_write_SRV_NEXT hsz ho ha hq, State.rd_wrServed_same .., fun b hb => State.rd_wrServed_ne s _ _ hb⟩
  · intro off sz r s row hm hsz hal hlo hv hrow hrd hacl hl ht
    refine ⟨_, rfl, execRcFieldRead_serves hm hsz hal hlo hv hrow hrd hacl hl ht.2, fun b hb => ?_⟩
    rw [State.rd_readClear_ne _ hb, State.atUnit_rd]
  · intro off sz r s hm hsz ho hp
    exact ⟨_, exec_read_DAT_MER_STATUS hm hsz ho hp, s.view_DAT_MER_STATUS_MAX_WAIT, s.readClear_DAT_MER_STATUS⟩
  · exact fun hal => execBulkTableWrite_refuses hm ho (State.bulkWriteCode_misaligned hal) (by decide)
  · exact fun hal hf => execBulkTableWrite_refuses hm ho (State.bulkWriteCode_notFmp hal hf) (by decide)
  · exact fun hf => ⟨fun h => execBulkTableWrite_refuses hm ho (State.bulkWriteCode_noTable hf h) (by decide),
      fun st n b hal e h => exec_bulk_denied hm ho hf hal e h⟩

end Sys2Proof.Machine
end

section
/-!
PROOFS. What every step keeps of memory, queue and datum: the frame of every command (R4, R12, R376, R377).
-/
namespace Sys2Proof.Machine

/-- Every command but those that can write memory or reset the block leaves memory, queue and datum as they were. -/
theorem exec_frame {c : Instr} (s : State) (h : writesMemory c = false) : outFrame (exec c s) = some s.frame := by
  cases c with
  | softResetWrite _ => exact execSoftResetWrite_frame ..
  | tapIdcode => exact execTapIdcode_frame ..
  | tapIjtag => exact execTapIjtag_frame ..
  | tapBypass _ => exact execTapBypass_frame ..
  | wipeDone _ => exact execWipeDone_frame ..
  | bootRomRead _ => exact execBootRomRead_frame ..
  | imageVerify _ => exact execImageVerify_frame ..
  | journalScanEnd _ => exact execJournalScanEnd_frame ..
  | voteFix _ _ => exact execVoteFix_frame ..
  | alignGo _ => exact execAlignGo_frame ..
  | verifyTimer => exact execVerifyTimer_frame ..
  | meridianLaunch => exact execMeridianLaunch_frame ..
  | alignLoadArrival _ => exact execAlignLoadArrival_frame ..
  | alignVerifyArrival _ _ => exact execAlignVerifyArrival_frame ..
  | stakeCallArrival _ _ => exact execStakeCallArrival_frame ..
  | surveyTickArrival _ _ => exact execSurveyTickArrival_frame ..
  | meridianDueDiscard _ => exact execMeridianDueDiscard_frame ..
  | meridianReservedType _ _ => exact execMeridianReservedType_frame ..
  | datumAlarmFire _ => exact execDatumAlarmFire_frame ..
  | linkFlitReceive _ _ _ => exact execLinkFlitReceive_frame ..
  | resyncSend _ _ => exact execResyncSend_frame ..
  | resyncReceive _ _ => exact execResyncReceive_frame ..
  | resyncEnd _ _ => exact execResyncEnd_frame ..
  | vcAllocate _ _ => exact execVcAllocate_frame ..
  | switchAllocate _ _ => exact execSwitchAllocate_frame ..
  | gFlitArrive _ _ _ => exact execGFlitArrive_frame ..
  | heldHeadTimeout _ _ _ => exact execHeldHeadTimeout_frame ..
  | agentNorouteSend _ => exact execAgentNorouteSend_frame ..
  | reconfWrite _ _ => exact execReconfWrite_frame ..
  | retireOld _ _ => exact execRetireOld_frame ..
  | routeFillIssue _ => exact execRouteFillIssue_frame ..
  | fillServe => exact execFillServe_frame ..
  | routeFillReturn _ => exact execRouteFillReturn_frame ..
  | routeFillTimeout _ => exact execRouteFillTimeout_frame ..
  | invGo _ _ => exact execInvGo_frame ..
  | invSweepDone _ => exact execInvSweepDone_frame ..
  | drainStall => exact execDrainStall_frame ..
  | isolateNoRoute _ => exact execIsolateNoRoute_frame ..
  | chainInject _ => exact execChainInject_frame ..
  | chainProbeGo _ _ => exact execChainProbeGo_frame ..
  | chainFlitReceive _ => exact execChainFlitReceive_frame ..
  | platPatchGo _ _ => exact execPlatPatchGo_frame ..
  | stateSlotWrite _ => exact execStateSlotWrite_frame ..
  | sputReceive _ => exact execSputReceive_frame ..
  | tqOffer _ _ => exact execTqOffer_frame ..
  | tsAnswer _ _ => exact execTsAnswer_frame ..
  | isPresent _ _ => exact execIsPresent_frame ..
  | setOpen _ _ => exact execSetOpen_frame ..
  | setClose _ _ => exact execSetClose_frame ..
  | setAbort _ _ => exact execSetAbort_frame ..
  | seqPassStart => exact execSeqPassStart_frame ..
  | seqPassWrite => exact execSeqPassWrite_frame ..
  | seqPassEnd => exact execSeqPassEnd_frame ..
  | expCollect _ _ _ => exact execExpCollect_frame ..
  | expExpect _ _ _ => exact execExpExpect_frame ..
  | expAbort _ _ _ => exact execExpAbort_frame ..
  | expRelease _ _ _ => exact execExpRelease_frame ..
  | stwReceive _ => exact execStwReceive_frame ..
  | rwsShadowWrite _ _ => exact execRwsShadowWrite_frame ..
  | stakeCommit _ => exact execStakeCommit_frame ..
  | stakeFaultAbort _ => exact execStakeFaultAbort_frame ..
  | stakeNotready _ => exact execStakeNotready_frame ..
  | stakeAbortDone _ => exact execStakeAbortDone_frame ..
  | stakeApply _ _ => exact execStakeApply_frame ..
  | stakeMissed _ _ => exact execStakeMissed_frame ..
  | stakeControllerT _ => exact execStakeControllerT_frame ..
  | stakeResult _ => exact execStakeResult_frame ..
  | stakeStuck _ => exact execStakeStuck_frame ..
  | niInject _ => exact execNiInject_frame ..
  | shaperResetWrite _ _ _ => exact execShaperResetWrite_frame ..
  | policeResetWrite _ _ _ => exact execPoliceResetWrite_frame ..
  | sluiceGo _ _ => exact execSluiceGo_frame ..
  | sluiceCancel _ _ => exact execSluiceCancel_frame ..
  | sluiceStart _ => exact execSluiceStart_frame ..
  | histDepthSample _ => exact execHistDepthSample_frame ..
  | histClear _ _ => exact execHistClear_frame ..
  | load _ _ => exact execLoad_frame ..
  | store _ _ => exact execStore_frame ..
  | storeNp _ _ => exact execStoreNp_frame ..
  | loadRsv _ _ => exact execLoadRsv_frame ..
  | storeCond _ _ => exact execStoreCond_frame ..
  | barrier _ _ => exact execBarrier_frame ..
  | chainPut _ _ => exact execChainPut_frame ..
  | message _ _ => exact execMessage_frame ..
  | mergeWindowExpire _ => exact execMergeWindowExpire_frame ..
  | mergeFlush _ _ => exact execMergeFlush_frame ..
  | barrierAdvance _ => exact execBarrierAdvance_frame ..
  | targetRequestEntry _ => exact execTargetRequestEntry_frame ..
  | monitorExpire _ _ => exact execMonitorExpire_frame ..
  | handoffExpire _ _ => exact execHandoffExpire_frame ..
  | rdxRetry _ _ => exact execRdxRetry_frame ..
  | lockAcquire _ _ => exact execLockAcquire_frame ..
  | lockRelease _ _ => exact execLockRelease_frame ..
  | responseReceive _ => exact execResponseReceive_frame ..
  | requestTimeout _ _ => exact execRequestTimeout_frame ..
  | tagQuarantineEnd _ _ => exact execTagQuarantineEnd_frame ..
  | descGo _ _ => exact execDescGo_frame ..
  | descBeat _ _ _ => exact execDescBeat_frame ..
  | descTimeout _ => exact execDescTimeout_frame ..
  | pwrUpRaise _ => exact execPwrUpRaise_frame ..
  | pwrQack _ => exact execPwrQack_frame ..
  | portDown _ => exact execPortDown_frame ..
  | qackLate _ => exact execQackLate_frame ..
  | unitHang _ _ => exact execUnitHang_frame ..
  | evtRaiseChange _ _ => exact execEvtRaiseChange_frame ..
  | evmBuild => exact execEvmBuild_frame ..
  | msgReceive => exact execMsgReceive_frame ..
  | mailboxPop _ _ => exact execMailboxPop_frame ..
  | mailboxWake _ => exact execMailboxWake_frame ..
  | mailboxCross _ => exact execMailboxCross_frame ..
  | mbxCfgWrite _ _ => exact execMbxCfgWrite_frame ..
  | nop _ => exact execNop_frame ..
  | info _ => exact execInfo_frame ..
  | ticketStatus _ => exact execTicketStatus_frame ..
  | ticketCancel _ => exact execTicketCancel_frame ..
  | modeSet _ => exact execModeSet_frame ..
  | regSet _ => exact execRegSet_frame ..
  | mbxConfig _ => exact execMbxConfig_frame ..
  | lockForce _ => exact execLockForce_frame ..
  | mapLoad _ => exact execMapLoad_frame ..
  | enumerate _ => exact execEnumerate_frame ..
  | portEnable _ => exact execPortEnable_frame ..
  | portDisable _ => exact execPortDisable_frame ..
  | portIsolate _ => exact execPortIsolate_frame ..
  | portStatus _ => exact execPortStatus_frame ..
  | routePrepare _ => exact execRoutePrepare_frame ..
  | routeWrite _ => exact execRouteWrite_frame ..
  | routeRead _ => exact execRouteRead_frame ..
  | routeSwitch _ => exact execRouteSwitch_frame ..
  | routeDrain _ => exact execRouteDrain_frame ..
  | routeFinish _ => exact execRouteFinish_frame ..
  | routeCacheLoad _ => exact execRouteCacheLoad_frame ..
  | fedMap _ => exact execFedMap_frame ..
  | platStage _ => exact execPlatStage_frame ..
  | platSwap _ => exact execPlatSwap_frame ..
  | platPatch _ => exact execPlatPatch_frame ..
  | platRead _ => exact execPlatRead_frame ..
  | chainInfo _ => exact execChainInfo_frame ..
  | chainProbe _ => exact execChainProbe_frame ..
  | stakeInfo _ => exact execStakeInfo_frame ..
  | stateConfig _ => exact execStateConfig_frame ..
  | stakeAbort _ => exact execStakeAbort_frame ..
  | domainDown _ => exact execDomainDown_frame ..
  | domainUp _ => exact execDomainUp_frame ..
  | domainStatus _ => exact execDomainStatus_frame ..
  | surveyTake _ => exact execSurveyTake_frame ..
  | surveyRead _ => exact execSurveyRead_frame ..
  | probeSet _ => exact execProbeSet_frame ..
  | tagSet _ => exact execTagSet_frame ..
  | traceRead _ => exact execTraceRead_frame ..
  | counterPerm _ => exact execCounterPerm_frame ..
  | thermalPolicy _ => exact execThermalPolicy_frame ..
  | thermalRead _ => exact execThermalRead_frame ..
  | powerPolicy _ => exact execPowerPolicy_frame ..
  | testRequest _ => exact execTestRequest_frame ..
  | stationVacate _ => exact execStationVacate_frame ..
  | stationReturn _ => exact execStationReturn_frame ..
  | linkInfo _ => exact execLinkInfo_frame ..
  | marginReplan _ => exact execMarginReplan_frame ..
  | fwLoad _ => exact execFwLoad_frame ..
  | fwHandover _ => exact execFwHandover_frame ..
  | fwInfo _ => exact execFwInfo_frame ..
  | journalInfo _ => exact execJournalInfo_frame ..
  | journalRead _ => exact execJournalRead_frame ..
  | replyRetry _ => exact execReplyRetry_frame ..
  | fmpHang => exact execFmpHang_frame ..
  | handoverServing => exact execHandoverServing_frame ..
  | handoverRevert => exact execHandoverRevert_frame ..
  | niEnable _ _ => exact execNiEnable_frame ..
  | niDisable _ _ => exact execNiDisable_frame ..
  | niQuiesce _ _ => exact execNiQuiesce_frame ..
  | niResume _ _ => exact execNiResume_frame ..
  | niIsolate _ _ => exact execNiIsolate_frame ..
  | domainReturn _ => exact execDomainReturn_frame ..
  | pdAckRise _ => exact execPdAckRise_frame ..
  | pdAckFall _ => exact execPdAckFall_frame ..
  | reapplyShadows _ => exact execReapplyShadows_frame ..
  | slipResponse => exact execSlipResponse_frame ..
  | journalRecordWrite => exact execJournalRecordWrite_frame ..
  | nvmResponse st d => exact execNvmResponse_frame st d s
  | nvmTimeout => exact execNvmTimeout_frame ..
  | surveyGo _ => exact execSurveyGo_frame ..
  | surveyCancel _ => exact execSurveyCancel_frame ..
  | surveySnapshot _ => exact execSurveySnapshot_frame ..
  | traceClear _ => exact execTraceClear_frame ..
  | probeConfigWrite _ _ _ => exact execProbeConfigWrite_frame ..
  | tagCtlWrite _ _ => exact execTagCtlWrite_frame ..
  | powerStateEnter _ => exact execPowerStateEnter_frame ..
  | powerStateExit _ => exact execPowerStateExit_frame ..
  | sleepEnter _ => exact execSleepEnter_frame ..
  | sleepExit _ => exact execSleepExit_frame ..
  | thermalSample => exact execThermalSample_frame ..
  | thermalEvaluation _ => exact execThermalEvaluation_frame ..
  | hostTrip => exact execHostTrip_frame ..
  | throttleApply => exact execThrottleApply_frame ..
  | tripArm => exact execTripArm_frame ..
  | tripCommitProgram => exact execTripCommitProgram_frame ..
  | benchmarkScanStart => exact execBenchmarkScanStart_frame ..
  | benchmarkScanEnd _ => exact execBenchmarkScanEnd_frame ..
  | replanStart _ => exact execReplanStart_frame ..
  | eyeMeasureEnd _ _ _ => exact execEyeMeasureEnd_frame ..
  | recentreStep _ _ _ => exact execRecentreStep_frame ..
  | vreqStepAck _ => exact execVreqStepAck_frame ..
  | vreqNoack => exact execVreqNoack_frame ..
  | laneFailHard _ _ _ => exact execLaneFailHard_frame ..
  | sbeWindowEnd => exact execSbeWindowEnd_frame ..
  | testStart => exact execTestStart_frame ..
  | laneTestEnd _ _ _ _ _ => exact execLaneTestEnd_frame ..
  | linkTrainDone _ _ _ => exact execLinkTrainDone_frame ..
  | modeCauseUpdate => exact execModeCauseUpdate_frame ..
  | portAdmit _ => exact execPortAdmit_frame ..
  | ttSyncSend _ => exact execTtSyncSend_frame ..
  | ttSyncReceive _ _ => exact execTtSyncReceive_frame ..
  | ttSyncTimeout _ => exact execTtSyncTimeout_frame ..
  | rootOfsUpdate => exact execRootOfsUpdate_frame ..
  | fedPacketReceive _ _ => exact execFedPacketReceive_frame ..
  | fedChainFlitReceive _ _ => exact execFedChainFlitReceive_frame ..
  | linkBarrierReceive _ _ => exact execLinkBarrierReceive_frame ..
  | fwdEntryExpire _ _ => exact execFwdEntryExpire_frame ..
  | fedIngressHoldExpire _ => exact execFedIngressHoldExpire_frame ..
  | fedLinkDown _ => exact execFedLinkDown_frame ..
  | fedRestart _ _ => exact execFedRestart_frame ..
  | rcFieldRead _ _ _ => exact execRcFieldRead_frame ..
  | fedOutboundPacket _ => exact execFedOutboundPacket_frame ..
  | _ => contradiction

/-- Every command but those that can reset the block keeps the canonical form of memory, the queue and the datum. -/
theorem exec_keeps {c : Instr} (s : State) (h : mayReset c = false) : OutKeeps s (exec c s) := by
  cases c with
  | coldReset | warmReset | softResetBegin | lcStateChange _ | powerRemove | scanModeChange _ | shutdownReady =>
    contradiction
  | bootInit _ => exact execBootInit_keeps ..
  | bootServing => exact execBootServing_keeps ..
  | routeAround => exact execRouteAround_keeps ..
  | platPatchApply _ => exact execPlatPatchApply_keeps ..
  | slowCommandCompletion _ _ => exact execSlowCommandCompletion_keeps ..
  | traceForward _ => exact execTraceForward_keeps ..
  | failureStakeClose => exact execFailureStakeClose_keeps ..
  | stationBistEnd _ _ => exact execStationBistEnd_keeps ..
  | bulkTableWrite _ _ => exact execBulkTableWrite_keeps ..
  | registerWrite _ _ _ => exact execRegisterWrite_keeps ..
  | _ => exact .of_frame (exec_frame s rfl)

/-! ### Resets and the removal of power (R376, R377, R414) -/

theorem State.frame_eq_iff {s : State} {m : List Host.Cell} {q : List Instr} {d : Nat} :
    s.frame = (m, q, d) ↔ s.mem = m ∧ s.pending = q ∧ s.datum = d := by
  simp only [State.frame, Prod.mk.injEq]

/-- The state of a reset of kind `kind` before the lanes failed HARD are entered and the counters lose their alignment
(R376, R377, R382). -/
def State.restarted (s : State) (kind : Nat) : State :=
  let lc := lcTaken (s.rd A.GLB_LC)
  let b := A.GLB_BOOT_STATUS
  let t : State := { State.reset with
    datum := if kind = 0 then 0 else s.datum
    freeCtr := s.freeCtr
    pending := s.pending
    host := { scan := s.host.scan, tapIr := s.host.tapIr, vreqPin := s.host.vreqPin } }
  let t := ((t.wr A.GLB_LC lc).wr A.THM_STATUS (safeLatches (s.rd A.THM_STATUS))).wr A.THM_TRIP_TIME (s.rd A.THM_TRIP_TIME)
  let t := if kind = 0 then t else t.wr A.DAT_STATUS (datCounts (s.rd A.DAT_STATUS))
  let t := (t.setFld b F.GLB_BOOT_STATUS_KIND kind).setFld b F.GLB_BOOT_STATUS_LC (F.GLB_LC_EFFECTIVE.get lc)
  t.setFld b F.GLB_BOOT_STATUS_SAFE_BOOT (t.fld A.THM_STATUS F.THM_STATUS_SAFE)

theorem State.restart_eq (s : State) (kind : Nat) : s.restart kind =
    { ((s.restarted kind).keepHard s).unalign with
      host := { ((s.restarted kind).keepHard s).host with resetAt := ((s.restarted kind).keepHard s).datum }, stood := [] } :=
  rfl

theorem State.restarted_frame (s : State) (kind : Nat) :
    (s.restarted kind).frame = (State.reset.mem, s.pending, if kind = 0 then 0 else s.datum) := by
  simp only [State.restarted, State.setFld_frame, State.frame_ite, State.wr_frame, ite_self, State.frame_mk]

/-- A cold reset sets the datum to 0, a warm or soft one keeps it. -/
theorem State.restart_datum (s : State) (kind : Nat) : (s.restart kind).datum = if kind = 0 then 0 else s.datum := by
  obtain ⟨-, -, hdat⟩ := State.frame_eq_iff.1 ((State.keepHard_frame _ s).trans (s.restarted_frame kind))
  rw [State.restart_eq]
  exact hdat

/-- From `s` to `t` the block either goes on, with what `State.Keeps` says, or starts anew with an empty memory and with
the datum kept or 0. -/
def State.KeepsOrRestarts (s t : State) : Prop := s.Keeps t ∨ s.Restarts t ∧ (t.datum = s.datum ∨ t.datum = 0)

theorem State.KeepsOrRestarts.datum {s t : State} (h : s.KeepsOrRestarts t) : t.datum = s.datum ∨ t.datum = 0 :=
  h.elim (fun k => .inl k.2.2) (·.2)

theorem State.KeepsOrRestarts.wf {s t : State} (h : s.KeepsOrRestarts t) (w : Memory.wf s.mem = true) :
    Memory.wf t.mem = true := h.elim (·.1 w) (·.1.wf)

theorem OutKeeps.keepsOrRestarts {s : State} {o : Out} (h : OutKeeps s o) : ∃ t, o = .next t ∧ s.KeepsOrRestarts t :=
  h.imp fun _ k => ⟨k.1, .inl k.2⟩

theorem State.KeepsOrRestarts.of_frame {s t u : State} (h : t.KeepsOrRestarts u) (k : t.frame = s.frame) :
    s.KeepsOrRestarts u := by
  have hs : s.Keeps t := .of_frame k
  have ⟨_, hq, hd⟩ := hs
  obtain h | ⟨hr, hu⟩ := h
  · exact .inl (hs.trans h)
  · exact .inr ⟨⟨hr.1, hr.2.trans hq⟩, hd ▸ hu⟩

theorem State.restart_keepsOrRestarts (s : State) (kind : Nat) : s.KeepsOrRestarts (s.restart kind) := by
  refine .inr ⟨State.restart_restarts s kind, ?_⟩
  rw [State.restart_datum]
  split
  · exact .inr rfl
  · exact .inl rfl

theorem State.warm_keepsOrRestarts (s : State) (kind : Nat) : s.KeepsOrRestarts (s.warm kind) := by
  unfold State.warm
  split
  · exact .inl (.refl s)
  · split
    · exact .inl ⟨id, rfl, rfl⟩
    · exact s.restart_keepsOrRestarts kind

theorem execColdReset_keepsOrRestarts (s : State) : ∃ t, execColdReset s = .next t ∧ s.KeepsOrRestarts t := by
  unfold execColdReset
  split
  · exact ⟨_, rfl, (State.restart_keepsOrRestarts _ 0).of_frame (by simp only [State.wr_frame])⟩
  · exact ⟨_, rfl, s.restart_keepsOrRestarts 0⟩

theorem execWarmReset_keepsOrRestarts (s : State) : ∃ t, execWarmReset s = .next t ∧ s.KeepsOrRestarts t := by
  refine ⟨_, rfl, ?_⟩
  split
  · exact s.warm_keepsOrRestarts 1
  · exact .inl (.refl s)

theorem execSoftResetBegin_keepsOrRestarts (s : State) :
    ∃ t, execSoftResetBegin s = .next t ∧ s.KeepsOrRestarts t := by
  unfold execSoftResetBegin
  split
  · exact ⟨s, rfl, .inl (.refl s)⟩
  · split
    · exact ⟨s, rfl, .inl (.refl s)⟩
    · exact ⟨_, rfl, (State.warm_keepsOrRestarts _ 2).of_frame rfl⟩

theorem execLcStateChange_keepsOrRestarts (v : LcState) (s : State) :
    ∃ t, execLcStateChange v s = .next t ∧ s.KeepsOrRestarts t := by
  unfold execLcStateChange
  extract_lets a u eff
  have hu : u.frame = s.frame := State.setFld_frame ..
  split
  · exact ⟨s, rfl, .inl (.refl s)⟩
  split
  · exact ⟨u, rfl, .inl (.of_frame hu)⟩
  split
  · exact ⟨_, rfl, .inl (.of_frame ((State.setFld_frame ..).trans hu))⟩
  · exact ⟨_, rfl, (u.warm_keepsOrRestarts 1).of_frame hu⟩

theorem execPowerRemove_keepsOrRestarts (s : State) : ∃ t, execPowerRemove s = .next t ∧ s.KeepsOrRestarts t :=
  ⟨_, rfl, .inr ⟨⟨rfl, rfl⟩, .inr rfl⟩⟩

theorem execScanModeChange_keepsOrRestarts (enter : Bool) (s : State) :
    ∃ t, execScanModeChange enter s = .next t ∧ s.KeepsOrRestarts t := by
  unfold execScanModeChange
  split
  · exact ⟨s, rfl, .inl (.refl s)⟩
  · exact ⟨_, rfl, (State.warm_keepsOrRestarts _ 1).of_frame rfl⟩

theorem execShutdownReady_keepsOrRestarts (s : State) : ∃ t, execShutdownReady s = .next t ∧ s.KeepsOrRestarts t := by
  unfold execShutdownReady
  extract_lets a at' bound u w
  have hw : w.frame = s.frame := by
    simp only [w, u, State.setFld_frame, State.frame_ite, State.tripEnd_frame, ite_self]
  split
  · exact ⟨s, rfl, .inl (.refl s)⟩
  split
  · exact ⟨_, rfl, (w.warm_keepsOrRestarts _).of_frame hw⟩
  · exact ⟨w, rfl, .inl (.of_frame hw)⟩

/-- What every command does to memory, queue and datum. -/
theorem exec_keepsOrRestarts (c : Instr) (s : State) : ∃ t, exec c s = .next t ∧ s.KeepsOrRestarts t := by
  cases c with
  | coldReset => exact execColdReset_keepsOrRestarts s
  | warmReset => exact execWarmReset_keepsOrRestarts s
  | softResetBegin => exact execSoftResetBegin_keepsOrRestarts s
  | lcStateChange v => exact execLcStateChange_keepsOrRestarts v s
  | powerRemove => exact execPowerRemove_keepsOrRestarts s
  | scanModeChange enter => exact execScanModeChange_keepsOrRestarts enter s
  | shutdownReady => exact execShutdownReady_keepsOrRestarts s
  | _ => exact (exec_keeps s rfl).keepsOrRestarts

/-- Settles O8: by `exec_keeps` for the commands that cannot reset the block, by `exec_keepsOrRestarts` for all. -/
theorem onlyResetsMoveTheDatum : Obligations.OnlyResetsMoveTheDatum := by
  intro c s t ht
  refine ⟨fun hc => ?_, ?_⟩
  · obtain ⟨u, hu, -, -, hd⟩ := exec_keeps s hc
    cases hu.symm.trans ht
    exact hd
  · obtain ⟨u, hu, hk⟩ := exec_keepsOrRestarts c s
    cases hu.symm.trans ht
    exact hk.datum

/-! ### A cycle (R12, R371) -/

/-- In mode OFF the block stands still. -/
theorem State.tick_off {s : State} (h : s.mode = Mode.OFF) : s.tick = s := if_pos h

/-- A cycle moves the datum and leaves memory and queue alone. -/
theorem State.tick_frame {s : State} (h : s.mode ≠ Mode.OFF) :
    s.tick.frame = (s.mem, s.pending, (s.datum + 1) % 2 ^ 64) := by
  have hn (u : State) (hu : u.frame = s.frame) : u.nextDatum.frame = (s.mem, s.pending, (s.datum + 1) % 2 ^ 64) := by
    obtain ⟨hm, hq, hd⟩ := State.frame_eq_iff.1 hu
    rw [State.nextDatum, State.frame_mk, hm, hq, hd]
  rw [State.tick, if_neg h, State.newCycle_frame, State.captures_frame, State.cycleStart_frame, State.voteFixes_frame,
    State.leaveAll_frame]
  apply hn
  rw [State.refillAll_frame, State.settle_frame, State.keepLines_frame, State.countCycle_frame]

/-- Settles O2: a cycle's frame, with an empty queue. -/
theorem emptyQueueIsOneCycle : Obligations.EmptyQueueIsOneCycle := by
  intro s hq
  refine ⟨?_, State.tick_off, fun hm => ?_⟩
  · unfold step
    rw [hq]
  · obtain ⟨hmem, hpend, hdat⟩ := State.frame_eq_iff.1 (State.tick_frame hm)
    exact ⟨hdat, hmem, hpend.trans hq⟩

/-! ### The invariant -/

theorem State.Inv.tick {s : State} (h : s.Inv) : s.tick.Inv := by
  by_cases hm : s.mode = Mode.OFF
  · rwa [State.tick_off hm]
  · obtain ⟨hmem, -, hdat⟩ := State.frame_eq_iff.1 (State.tick_frame hm)
    exact ⟨hmem ▸ h.1, hdat ▸ Nat.mod_lt _ (Nat.two_pow_pos 64)⟩

theorem State.Inv.keepsOrRestarts {s t : State} (h : s.Inv) (k : s.KeepsOrRestarts t) : t.Inv := by
  refine ⟨k.wf h.1, ?_⟩
  obtain hd | hd := k.datum
  · exact hd ▸ h.2
  · rw [hd]; exact Nat.two_pow_pos 64

/-- Settles O4: the memory is empty and the datum 0. -/
theorem resetMeetsTheInvariant : Obligations.ResetMeetsTheInvariant := ⟨rfl, Nat.two_pow_pos 64⟩

/-- Settles O5: a cycle by `State.tick_frame`, a command by `exec_keepsOrRestarts`. -/
theorem everyStepKeepsTheInvariant : Obligations.EveryStepKeepsTheInvariant := by
  intro s t h ht
  unfold step at ht
  split at ht
  · cases ht
    exact h.tick
  · next c rest _ =>
    obtain ⟨u, hu, hk⟩ := exec_keepsOrRestarts c { s with pending := rest }
    cases hu.symm.trans ht
    have hs : ({ s with pending := rest } : State).Inv := h
    exact hs.keepsOrRestarts hk

end Sys2Proof.Machine
end

section
/-!
PROOFS. Which commands reset the block, and what GLB_LC and the latches of THM_STATUS hold after it (R376 to R380, R431).
-/
namespace Sys2Proof.Machine

/-! ### Registers over a reset -/

/-- What no step of a fold changes the fold does not change. -/
theorem foldl_fixes {α β : Type} {f : State → α → State} (g : State → β) (h : ∀ s x, g (f s x) = g s) (l : List α)
    (s : State) : g (l.foldl f s) = g s := by
  induction l generalizing s with
  | nil => rfl
  | cons x l ih => rw [List.foldl_cons, ih, h]

/-- The lanes failed HARD are entered in registers of stations. -/
theorem State.rd_keepHard {t s : State} {a : Nat} (ha : a < 0x100000) : (t.keepHard s).rd a = t.rd a := by
  unfold State.keepHard
  refine foldl_fixes (·.rd a) (fun t st => foldl_fixes (·.rd a) (fun t n => ?_) _ t) _ t
  dsimp only
  split
  · rfl
  · have hst (st k n : Nat) : a ≠ A.stnBase st + k + n := by simp only [A.stnBase]; omega
    rw [State.rd_setFld_ne _ _ _ (hst _ _ _), State.rd_setFld_ne _ _ _ (hst _ _ _), State.rd_wr_ne _ _ (hst _ _ _),
      State.rd_wr_ne _ _ (hst _ _ _)]
    rfl

theorem State.rd_restart (s : State) (kind : Nat) {a : Nat} (ha : a < 0x100000) :
    (s.restart kind).rd a = (s.restarted kind).rd a := State.rd_keepHard ha

/-- Of the registers that no other rule of the reset writes each holds its reset value. -/
theorem State.rd_restarted_reset (s : State) (kind : Nat) {a : Nat}
    (ha : a ∉ [A.GLB_LC, A.THM_STATUS, A.THM_TRIP_TIME, A.DAT_STATUS, A.GLB_BOOT_STATUS]) :
    (s.restarted kind).rd a = resetOf a := by
  simp only [List.mem_cons, List.not_mem_nil, or_false, not_or] at ha
  obtain ⟨hlc, hthm, htrip, hdat, hboot⟩ := ha
  unfold State.restarted
  dsimp only
  rw [State.rd_setFld_ne _ _ _ hboot, State.rd_setFld_ne _ _ _ hboot, State.rd_setFld_ne _ _ _ hboot]
  split
  · rw [State.rd_wr_ne _ _ htrip, State.rd_wr_ne _ _ hthm, State.rd_wr_ne _ _ hlc]
    rfl
  · rw [State.rd_wr_ne _ _ hdat, State.rd_wr_ne _ _ htrip, State.rd_wr_ne _ _ hthm, State.rd_wr_ne _ _ hlc]
    rfl

/-- GLB_LC takes its sampled value; of THM_STATUS the latches stay. -/
theorem State.rd_restarted_kept (s : State) (kind : Nat) :
    (s.restarted kind).rd A.GLB_LC = lcTaken (s.rd A.GLB_LC) ∧
    (s.restarted kind).rd A.THM_STATUS = safeLatches (s.rd A.THM_STATUS) := by
  unfold State.restarted
  dsimp only
  constructor <;> split <;> simp [State.rd_setFld_ne, State.rd_wr_ne]

/-- A reset begins in WIPE. -/
theorem State.mode_restart (s : State) (kind : Nat) : (s.restart kind).mode = Mode.WIPE := by
  have h : (s.restart kind).rd A.GLB_MODE = resetOf A.GLB_MODE :=
    (s.rd_restart kind (by decide)).trans (s.rd_restarted_reset kind (by decide))
  rw [State.mode, State.fld, h]
  decide

/-- The effective life-cycle state takes the sampled one when that is higher (R380). -/
theorem lcTaken_effective (x : Word) :
    F.GLB_LC_EFFECTIVE.get (lcTaken x) = max (F.GLB_LC_EFFECTIVE.get x) (F.GLB_LC_INPUT.get x) := by
  unfold lcTaken
  split
  · next h => rw [Fld.get_put _ _ _ (by decide), Nat.mod_eq_of_lt (Fld.get_lt F.GLB_LC_INPUT x), max_eq_right h.le]
  · next h => rw [max_eq_left (not_lt.1 h)]

theorem State.lc_restart (s : State) (kind : Nat) : (s.restart kind).fld A.GLB_LC F.GLB_LC_EFFECTIVE =
    max (s.fld A.GLB_LC F.GLB_LC_EFFECTIVE) (s.fld A.GLB_LC F.GLB_LC_INPUT) := by
  rw [State.fld, s.rd_restart kind (by decide), (s.rd_restarted_kept kind).1, lcTaken_effective, State.fld, State.fld]

theorem State.thm_restart (s : State) (kind : Nat) :
    (s.restart kind).rd A.THM_STATUS = safeLatches (s.rd A.THM_STATUS) :=
  (s.rd_restart kind (by decide)).trans (s.rd_restarted_kept kind).2

/-! ### The commands -/

/-- A warm or soft reset acts when the block has power and no trip is under way (R378). -/
theorem State.warm_acts {s : State} (kind : Nat) (hm : s.mode ≠ Mode.OFF) (ht : s.tripping = false) :
    s.warm kind = s.restart kind := by
  rw [State.warm, if_neg hm, ht]
  rfl

/-- GLB_LC with the sampled value `v` taken as the effective state. -/
def lcPowered (v : Nat) : Word := F.GLB_LC_EFFECTIVE.put (F.GLB_LC_INPUT.put 0 v) v

theorem lcPowered_fields {v : Nat} (hv : v < 4) :
    F.GLB_LC_EFFECTIVE.get (lcPowered v) = v ∧ F.GLB_LC_INPUT.get (lcPowered v) = v := by
  have hmod : v % 2 ^ 2 = v := Nat.mod_eq_of_lt hv
  unfold lcPowered
  constructor
  · rw [Fld.get_put _ _ _ (by decide), hmod]
  · rw [Fld.get_put_below _ _ _ _ (by decide) (by decide), Fld.get_put _ _ _ (by decide), hmod]

/-- The state from which the block restarts when power comes up: the latches of R348 are clear (R380, R415). -/
def State.powered (s : State) : State :=
  ((s.wr A.GLB_LC (lcPowered (s.fld A.GLB_LC F.GLB_LC_INPUT))).wr A.THM_STATUS 0).wr A.THM_TRIP_TIME 0

theorem State.rd_powered (s : State) :
    s.powered.rd A.GLB_LC = lcPowered (s.fld A.GLB_LC F.GLB_LC_INPUT) ∧ s.powered.rd A.THM_STATUS = 0 := by
  simp [State.powered, State.rd_wr_ne]

theorem execColdReset_off {s : State} (hm : s.mode = Mode.OFF) : exec .coldReset s = .next (s.powered.restart 0) :=
  if_pos hm

/-- From mode OFF the coming up of power takes the sampled life-cycle state without a test of its order (R380, R414). -/
theorem State.restart_powered (s : State) :
    (s.powered.restart 0).fld A.GLB_LC F.GLB_LC_EFFECTIVE = s.fld A.GLB_LC F.GLB_LC_INPUT ∧
    (s.powered.restart 0).rd A.THM_STATUS = 0 := by
  obtain ⟨hlc, hthm⟩ := s.rd_powered
  obtain ⟨heff, hin⟩ := lcPowered_fields (Fld.get_lt F.GLB_LC_INPUT (s.rd A.GLB_LC))
  constructor
  · rw [State.lc_restart, State.fld, State.fld, hlc]
    exact (congrArg₂ max heff hin).trans (max_self _)
  · rw [State.thm_restart, hthm]
    decide

/-- A soft reset whose 2,048 fclk have not passed does not begin (R376). -/
theorem execSoftResetBegin_waits {s : State} (h : ∀ t0, s.host.softAt = some t0 → s.datum < t0) :
    exec .softResetBegin s = .next s := by
  show execSoftResetBegin s = _
  unfold execSoftResetBegin
  split
  · rfl
  · next t0 ht0 => rw [if_pos (h t0 ht0)]

/-- A soft reset whose 2,048 fclk have passed begins unless a trip is under way (R376, R378). -/
theorem execSoftResetBegin_acts {s : State} {t0 : Nat} (hm : s.mode ≠ Mode.OFF) (ht : s.tripping = false)
    (hs : s.host.softAt = some t0) (h : t0 ≤ s.datum) :
    exec .softResetBegin s = .next ({ s with host := { s.host with softAt := none } }.restart 2) := by
  show execSoftResetBegin s = _
  unfold execSoftResetBegin
  rw [hs]
  dsimp only
  rw [if_neg (not_lt.2 h)]
  exact congrArg Host.Outcome.next (State.warm_acts 2 hm ht)

section
variable {s : State} {v : LcState} (hm : s.mode ≠ Mode.OFF) (he : aclkEdge s.datum = true)
include hm he

/-- At an ACLK edge with power a sampled code other than the effective one is noted, and either sets BACKWARD or asks for
a warm reset (R380). -/
theorem execLcStateChange_edge (hv : v.toNat ≠ s.fld A.GLB_LC F.GLB_LC_EFFECTIVE) :
    exec (.lcStateChange v) s = .next (if v.toNat < s.fld A.GLB_LC F.GLB_LC_EFFECTIVE then
      (s.setFld A.GLB_LC F.GLB_LC_INPUT v.toNat).setFld A.GLB_LC F.GLB_LC_BACKWARD 1
      else (s.setFld A.GLB_LC F.GLB_LC_INPUT v.toNat).warm 1) := by
  have heff : (s.setFld A.GLB_LC F.GLB_LC_INPUT v.toNat).fld A.GLB_LC F.GLB_LC_EFFECTIVE =
      s.fld A.GLB_LC F.GLB_LC_EFFECTIVE := State.fld_setFld_apart _ _ _ _ _ (by decide) (by decide)
  have hmode : (s.setFld A.GLB_LC F.GLB_LC_INPUT v.toNat).mode = s.mode := State.fld_setFld_ne _ _ _ _ (by decide)
  show execLcStateChange v s = _
  unfold execLcStateChange
  dsimp only
  rw [he, if_neg (by simp), heff, hmode, if_neg (not_or.2 ⟨hm, hv⟩)]
  split <;> rfl

/-- A higher code becomes the effective state with a warm reset. -/
theorem execLcStateChange_higher (ht : s.tripping = false) (hv : s.fld A.GLB_LC F.GLB_LC_EFFECTIVE < v.toNat) :
    ∃ t, exec (.lcStateChange v) s = .next t ∧ t = (s.setFld A.GLB_LC F.GLB_LC_INPUT v.toNat).restart 1 ∧
      t.fld A.GLB_LC F.GLB_LC_EFFECTIVE = v.toNat := by
  have hmode : (s.setFld A.GLB_LC F.GLB_LC_INPUT v.toNat).mode = s.mode := State.fld_setFld_ne _ _ _ _ (by decide)
  have htrip : (s.setFld A.GLB_LC F.GLB_LC_INPUT v.toNat).tripping = s.tripping := by
    rw [State.tripping, State.tripping, State.bit, State.bit, State.fld_setFld_ne _ _ _ _ (by decide), State.setFld_host]
  refine ⟨_, ?_, rfl, ?_⟩
  · rw [execLcStateChange_edge hm he hv.ne', if_neg hv.not_gt, State.warm_acts 1 (hmode ▸ hm) (htrip.trans ht)]
  · rw [State.lc_restart, State.fld_setFld_apart _ _ _ _ _ (by decide) (by decide),
      State.fld_setFld_same _ _ _ _ (by decide), Nat.mod_eq_of_lt v.isLt, max_eq_right hv.le]

end

/-- Settles O20: each command by its own cases, the registers of the state it leaves by `State.lc_restart` and its like. -/
theorem whichCommandsReset : Obligations.WhichCommandsReset := by
  refine ⟨⟨fun s hm => if_neg hm, ?_, ?_, fun s t0 hm ht hs h =>
    execSoftResetBegin_acts hm ht hs h, fun s v hm ht he hv => execLcStateChange_higher hm he ht hv, ?_⟩,
    ?_, ?_, ?_, fun s h => execSoftResetBegin_waits h, ?_, ?_, ?_⟩
  · intro s hm
    obtain ⟨hlc, hthm⟩ := s.restart_powered
    refine ⟨_, execColdReset_off hm, State.mode_restart _ 0, State.restart_datum _ 0, hlc, ?_, ?_⟩
    · rw [State.fld, hthm]; decide
    · rw [State.fld, hthm]; decide
  · intro s hm ht he
    show execWarmReset s = _
    rw [execWarmReset, he, State.warm_acts 1 hm ht, if_pos rfl]
  · intro s enter hm ht hlc hs
    show execScanModeChange enter s = _
    rw [execScanModeChange, if_neg (not_or.2 ⟨hlc, hs⟩)]
    exact congrArg Host.Outcome.next (State.warm_acts 1 hm ht)
  · intro s hm
    show execWarmReset s = _
    rw [execWarmReset, State.warm, if_pos hm, ite_self]
  · intro s he
    show execWarmReset s = _
    rw [execWarmReset, he]
    rfl
  · intro s hm ht he
    show execWarmReset s = _
    rw [execWarmReset, he, if_pos rfl, State.warm, if_neg hm, if_pos ht]
  · intro s v hm he
    show execLcStateChange v s = _
    rw [execLcStateChange, if_pos ⟨hm, by rw [he]; rfl⟩]
  · intro s v hm he hv
    rw [execLcStateChange_edge hm he hv.ne, if_pos hv]
  · intro s enter hlc
    exact if_pos (.inl hlc)

end Sys2Proof.Machine
end

section
/-!
PROOFS. Rounding an instant up to a granule (R26).
-/
namespace Sys2Proof.Machine

/-- Rounding up is the granule times the quotient rounded up. -/
theorem roundUp_eq (t g : Nat) : roundUp t g = t ⌈/⌉ g * g := by
  rw [roundUp, Nat.ceilDiv_eq_add_pred_div]

/-- Settles O13: the quotient rounded up is the least factor that reaches the instant. -/
theorem roundUpToAGranule : Obligations.RoundUpToAGranule := by
  intro t g hg
  rw [roundUp_eq]
  have hle (k : Nat) : t ⌈/⌉ g ≤ k ↔ t ≤ g * k := ceilDiv_le_iff_le_mul hg
  have hup : t ≤ t ⌈/⌉ g * g := Nat.mul_comm .. ▸ (hle _).1 le_rfl
  have hleast (y : Nat) (hy : g ∣ y) (hty : t ≤ y) : t ⌈/⌉ g * g ≤ y := by
    obtain ⟨k, rfl⟩ := hy
    rw [Nat.mul_comm g]
    exact Nat.mul_le_mul_right g ((hle k).2 hty)
  exact ⟨Nat.dvd_mul_left .., hup, hleast, fun h => (hleast t h le_rfl).antisymm hup⟩

end Sys2Proof.Machine
end

section
/-!
PROOFS. What counting and the raising of events leave alone (R296, R297, R309).
-/
namespace Sys2Proof.Machine

/-- The state without its registers, the edges of its counts, the event messages that wait and the FMP's notes of what the
datum counters met (R292). -/
def State.masked (s : State) : State :=
  { s with regs := [], stood := [], glb := { s.glb with cntLast := [], evmQ := [] }, fmp := { s.fmp with slips := [] } }

/-- From `s` to `t` only counts and events have changed: the registers that hold them, all of them at 0x30000 or above, and
what `State.masked` leaves out. -/
def State.EventsOnly (s t : State) : Prop := t.masked = s.masked ∧ ∀ a, a < 0x30000 → t.rd a = s.rd a

namespace State.EventsOnly
variable {s t u : State}

theorem rest (h : s.EventsOnly t) : t.masked = s.masked := h.1
theorem low (h : s.EventsOnly t) (a : Nat) (ha : a < 0x30000) : t.rd a = s.rd a := h.2 a ha

theorem refl (s : State) : s.EventsOnly s := ⟨rfl, fun _ _ => rfl⟩

theorem trans (h : s.EventsOnly t) (k : t.EventsOnly u) : s.EventsOnly u :=
  ⟨k.rest.trans h.rest, fun a ha => (k.low a ha).trans (h.low a ha)⟩

theorem ite {c : Prop} [Decidable c] (h : s.EventsOnly t) (k : s.EventsOnly u) : s.EventsOnly (if c then t else u) := by
  split <;> assumption

theorem merFly (h : s.EventsOnly t) : t.glb.merFly = s.glb.merFly := congrArg (fun u => u.glb.merFly) h.rest
theorem merPend (h : s.EventsOnly t) : t.glb.merPend = s.glb.merPend := congrArg (fun u => u.glb.merPend) h.rest
theorem merSlot (h : s.EventsOnly t) : t.glb.merSlot = s.glb.merSlot := congrArg (fun u => u.glb.merSlot) h.rest
theorem nowOf (h : s.EventsOnly t) (b : Nat) : t.nowOf b = s.nowOf b := congrArg (fun u => u.nowOf b) h.rest

theorem fld (h : s.EventsOnly t) {a : Nat} (ha : a < 0x30000) (f : Fld) : t.fld a f = s.fld a f := by
  rw [State.fld, h.low a ha, State.fld]

/-- The FMP notes something. -/
theorem slips (h : s.EventsOnly t) (l : List (Nat × Nat × Nat)) :
    s.EventsOnly { t with fmp := { s.fmp with slips := l } } := by
  refine ⟨?_, h.low⟩
  have e : ({ t.masked with fmp := s.masked.fmp } : State) = s.masked := by rw [h.rest]
  exact e

end State.EventsOnly

theorem State.wr_eventsOnly (s : State) {a : Nat} (v : Word) (ha : 0x30000 ≤ a) : s.EventsOnly (s.wr a v) :=
  ⟨rfl, fun _ hb => State.rd_wr_ne s v (by omega)⟩

theorem State.setFld_eventsOnly (s : State) {a : Nat} (f : Fld) (v : Nat) (ha : 0x30000 ≤ a) :
    s.EventsOnly (s.setFld a f v) := s.wr_eventsOnly _ ha

theorem State.cnt_eventsOnly (s : State) {a : Nat} (n : Nat) (ha : 0x30000 ≤ a) : s.EventsOnly (s.cnt a n) := by
  unfold State.cnt
  extract_lets x last edge add c sat u
  have hu : s.EventsOnly u := .ite (.refl s) (s.wr_eventsOnly _ ha)
  exact .ite (.refl s) (hu.trans ⟨rfl, fun _ _ => rfl⟩)

theorem State.gcnt_eventsOnly (s : State) (j n : Nat) : s.EventsOnly (s.gcnt j n) :=
  s.cnt_eventsOnly n (by show 0x30000 ≤ 0x40100 + j * 0x8; omega)

theorem State.setPending_eventsOnly (s : State) (i : Nat) : s.EventsOnly (s.setPending i).1 := by
  have hpend : 0x30000 ≤ A.EVT_PEND (i / 64) := by show 0x30000 ≤ 0x30100 + i / 64 * 0x8; omega
  have hstat (u : State) (f : Fld) (v : Nat) : u.EventsOnly (u.setFld A.EVT_STATUS f v) :=
    u.setFld_eventsOnly f v (by decide)
  unfold State.setPending
  extract_lets u q
  have hu : s.EventsOnly u := (s.setFld_eventsOnly _ _ hpend).trans (State.gcnt_eventsOnly ..)
  split
  · exact hstat ..
  split
  · split
    · have hq : u.EventsOnly { u with glb := { u.glb with evmQ := q } } := ⟨rfl, fun _ _ => rfl⟩
      exact (hu.trans hq).trans (hstat ..)
    · exact hu.trans (hstat ..)
  · exact hu

theorem State.raise_eventsOnly (s : State) (i : Nat) : s.EventsOnly (s.raise i) := by
  have h := s.setPending_eventsOnly i
  unfold State.raise
  split
  · split <;> rename_i heq <;> rw [heq] at h
    · exact h
    · exact h.trans (.ite (State.setPending_eventsOnly ..) (.refl _))
  · exact .refl s

theorem State.seeRise_eventsOnly (s t : State) (i : Nat) : t.EventsOnly (s.seeRise t i) :=
  .ite (t.raise_eventsOnly i) (.refl t)

theorem State.stnCause_eventsOnly (s : State) (st b : Nat) : s.EventsOnly (s.stnCause st b) := by
  have ha : 0x30000 ≤ A.STN_EVT_CAUSE st := by show 0x30000 ≤ 0x100000 + st * 0x10000 + 0x900; omega
  exact ((s.setFld_eventsOnly _ _ ha).trans (State.seeRise_eventsOnly ..)).trans (State.seeRise_eventsOnly ..)

/-! ### Counts that saturate (R294) -/

/-- A saturating count rises by the number added, up to its largest value. -/
theorem State.fld_sat_same (s : State) (a : Nat) (f : Fld) (n : Nat) (h : f.lo + f.w ≤ 64) :
    (s.sat a f n).fld a f = min (s.fld a f + n) (2 ^ f.w - 1) := by
  have hpos := Nat.two_pow_pos f.w
  rw [State.sat, State.fld_setFld_same _ _ _ _ h, Nat.mod_eq_of_lt (by omega)]

/-- Another field of the register is kept. -/
theorem State.fld_sat_apart (s : State) (a : Nat) (f g : Fld) (n : Nat) (h : f.lo + f.w ≤ 64) (hg : f.apart g) :
    (s.sat a f n).fld a g = s.fld a g := State.fld_setFld_apart s a f g _ h hg

/-! ### Sparse tables -/

theorem tget_tset_same {α : Type} [DecidableEq α] (d : α) (m : List (Nat × α)) (k : Nat) (v : α) :
    tget d (tset d m k v) k = v := Store.get_set_same m

theorem tget_tset_ne {α : Type} [DecidableEq α] (d : α) (m : List (Nat × α)) {k j : Nat} (v : α) (h : j ≠ k) :
    tget d (tset d m k v) j = tget d m j := Store.get_set_ne m h

end Sys2Proof.Machine
end

section
/-!
PROOFS. Datum alarms (R30).
-/
namespace Sys2Proof.Machine

/-- The bit of ARM that belongs to an alarm. -/
theorem State.arm_testBit (s : State) {n : Nat} (h : n < 4) :
    (s.fld A.DAT_ALARM_CTL F.DAT_ALARM_CTL_ARM).testBit n = decide (s.fld A.DAT_ALARM_CTL ⟨n, 1⟩ = 1) := by
  show ((s.rd A.DAT_ALARM_CTL).toNat / 2 ^ 0 % 2 ^ 4).testBit n = _
  rw [Nat.testBit_mod_two_pow, pow_zero, Nat.div_one, Nat.testBit_eq_decide_div_mod_eq, decide_eq_true h, Bool.true_and]
  rfl

/-- What an alarm that fires makes of DAT_ALARM_CTL. -/
def State.alarmFired (s : State) (n : Nat) (late : Prop) [Decidable late] : State :=
  let t := (s.setFld A.DAT_ALARM_CTL ⟨n, 1⟩ 0).setFld A.DAT_ALARM_CTL ⟨8 + n, 1⟩ 1
  if late then t.setFld A.DAT_ALARM_CTL ⟨16 + n, 1⟩ 1 else t

theorem State.rd_alarmFired (s : State) (n : Nat) (late : Prop) [Decidable late] {a : Nat} (ha : a ≠ A.DAT_ALARM_CTL) :
    (s.alarmFired n late).rd a = s.rd a := by
  unfold State.alarmFired
  dsimp only
  split
  · rw [State.rd_setFld_ne _ _ _ ha, State.rd_setFld_ne _ _ _ ha, State.rd_setFld_ne _ _ _ ha]
  · rw [State.rd_setFld_ne _ _ _ ha, State.rd_setFld_ne _ _ _ ha]

section
variable (s : State) {n : Nat} (late : Prop) [Decidable late] (h : n < 4)
include h

/-- ARM clears, FIRED sets, LATE sets for an alarm that is late. -/
theorem State.fld_alarmFired :
    (s.alarmFired n late).fld A.DAT_ALARM_CTL ⟨n, 1⟩ = 0 ∧ (s.alarmFired n late).fld A.DAT_ALARM_CTL ⟨8 + n, 1⟩ = 1 ∧
    (s.alarmFired n late).fld A.DAT_ALARM_CTL ⟨16 + n, 1⟩ =
      if late then 1 else s.fld A.DAT_ALARM_CTL ⟨16 + n, 1⟩ := by
  have hset (u : State) (k v : Nat) (hk : k < 64) : (u.setFld A.DAT_ALARM_CTL ⟨k, 1⟩ v).fld A.DAT_ALARM_CTL ⟨k, 1⟩ = v % 2 :=
    State.fld_setFld_same u _ _ v hk
  have hkeep (u : State) (k j v : Nat) (hk : k < 64) (hj : k ≠ j) :
      (u.setFld A.DAT_ALARM_CTL ⟨k, 1⟩ v).fld A.DAT_ALARM_CTL ⟨j, 1⟩ = u.fld A.DAT_ALARM_CTL ⟨j, 1⟩ :=
    State.fld_setFld_apart u _ _ _ v hk (by dsimp only; omega)
  unfold State.alarmFired
  dsimp only
  split
  · refine ⟨?_, ?_, ?_⟩
    · rw [hkeep _ _ _ _ (by omega) (by omega), hkeep _ _ _ _ (by omega) (by omega), hset _ _ _ (by omega)]
    · rw [hkeep _ _ _ _ (by omega) (by omega), hset _ _ _ (by omega)]
    · rw [hset _ _ _ (by omega)]
  · refine ⟨?_, ?_, ?_⟩
    · rw [hkeep _ _ _ _ (by omega) (by omega), hset _ _ _ (by omega)]
    · rw [hset _ _ _ (by omega)]
    · rw [hkeep _ _ _ _ (by omega) (by omega), hkeep _ _ _ _ (by omega) (by omega)]

end

/-- An alarm fires when it is armed and reached, and not armed beyond its value in this very cycle. -/
theorem execDatumAlarmFire_eq (n : Fin 4) (s : State) :
    exec (.datumAlarmFire n) s = .next
      (if s.fld A.DAT_ALARM_CTL ⟨n.val, 1⟩ = 1 ∧ (s.rd (A.DAT_ALARM n.val)).toNat ≤ s.datum ∧
          (tget 0 s.glb.armAt n.val ≤ (s.rd (A.DAT_ALARM n.val)).toNat ∨ tget 0 s.glb.armAt n.val < s.datum) then
        (s.alarmFired n.val ((s.rd (A.DAT_ALARM n.val)).toNat < tget 0 s.glb.armAt n.val)).raise (1346 + n.val)
      else s) := by
  show execDatumAlarmFire n s = _
  unfold execDatumAlarmFire
  dsimp only
  rw [s.arm_testBit n.isLt]
  simp only [Bool.and_eq_true, Bool.or_eq_true, decide_eq_true_eq, and_assoc]
  split <;> rfl

/-- Settles O27: by `execDatumAlarmFire_eq` and what firing makes of DAT_ALARM_CTL. -/
theorem datumAlarms : Obligations.DatumAlarms := by
  intro n s
  dsimp only
  rw [execDatumAlarmFire_eq]
  refine ⟨fun harm hat hlate => ?_, fun hidle => ?_⟩
  · obtain ⟨h0, h1, h2⟩ := s.fld_alarmFired ((s.rd (A.DAT_ALARM n.val)).toNat < tget 0 s.glb.armAt n.val) n.isLt
    rw [if_pos ⟨harm, hat, hlate⟩]
    exact ⟨_, rfl, h0, h1, h2, fun a ha => s.rd_alarmFired _ _ ha⟩
  · rw [if_neg]
    rintro ⟨harm, hat, hlate⟩
    omega

end Sys2Proof.Machine
end

section
/-!
PROOFS. The launch of meridian messages (R20 to R22, R451).
-/
namespace Sys2Proof.Machine

/-! ### The order of launch (R20) -/

theorem rankLt_asymm {a b : Nat × Nat × Nat} (h : rankLt a b = true) : rankLt b a = false := by
  simp only [rankLt, Bool.or_eq_true, Bool.and_eq_true, decide_eq_true_eq, Bool.or_eq_false_iff, Bool.and_eq_false_iff,
    decide_eq_false_iff_not] at *
  omega

theorem not_rankLt_trans {a b c : Nat × Nat × Nat} (h : rankLt a b = false) (k : rankLt b c = false) :
    rankLt a c = false := by
  simp only [rankLt, Bool.or_eq_false_iff, Bool.and_eq_false_iff, decide_eq_false_iff_not] at *
  omega

theorem merPick_cons_cons (b x : MerReq) (q : List MerReq) :
    merPick (b :: x :: q) = if rankLt (merRank x) (merRank b) then merPick (x :: q) else merPick (b :: q) := by
  unfold merPick
  rw [List.foldl_cons, List.foldl_cons]
  dsimp only
  split <;> rfl

/-- The message picked is one of those pending, and none ranks before it. -/
theorem merPick_least (q : List MerReq) : ∀ b, ∃ m ∈ b :: q, merPick (b :: q) = some m ∧
    ∀ x ∈ b :: q, rankLt (merRank x) (merRank m) = false := by
  induction q with
  | nil =>
    intro b
    refine ⟨b, List.mem_singleton_self b, rfl, fun x hx => ?_⟩
    rw [List.mem_singleton.1 hx]
    simp [rankLt]
  | cons x q ih =>
    intro b
    rw [merPick_cons_cons]
    split
    · next hlt =>
      obtain ⟨m, hm, hpick, hle⟩ := ih x
      refine ⟨m, List.mem_cons_of_mem b hm, hpick, fun y hy => ?_⟩
      obtain rfl | hy := List.mem_cons.1 hy
      · exact not_rankLt_trans (rankLt_asymm hlt) (hle x List.mem_cons_self)
      · exact hle y hy
    · next hge =>
      obtain ⟨m, hm, hpick, hle⟩ := ih b
      have hsub : ∀ y ∈ b :: q, y ∈ b :: x :: q := fun y hy => by
        obtain rfl | hy := List.mem_cons.1 hy
        · exact List.mem_cons_self
        · exact List.mem_cons_of_mem _ (List.mem_cons_of_mem _ hy)
      refine ⟨m, hsub m hm, hpick, fun y hy => ?_⟩
      obtain rfl | hy := List.mem_cons.1 hy
      · exact hle y List.mem_cons_self
      obtain rfl | hy := List.mem_cons.1 hy
      · exact not_rankLt_trans (Bool.eq_false_iff.2 hge) (hle b List.mem_cons_self)
      · exact hle y (List.mem_cons_of_mem b hy)

/-- An ALIGN_LOAD or an ALIGN_VERIFY. -/
abbrev MerReq.aligns (m : MerReq) : Prop := m.kind = .alignLoad ∨ m.kind = .alignVerify

/-- The three ranks of R20. -/
theorem merRank_cases (m : MerReq) : (m.aligns ∧ merRank m = (0, 0, 0)) ∨
    (∃ k, m.kind = .stakeCall k ∧ merRank m = (1, m.req, k)) ∨ 2 ≤ (merRank m).1 := by
  unfold MerReq.aligns merRank
  cases m.kind <;> simp

/-- Behind an ALIGN_LOAD or ALIGN_VERIFY only another one of them is not ranked. -/
theorem aligns_of_not_rankLt {x m : MerReq} (h : rankLt (merRank x) (merRank m) = false) (hx : x.aligns) : m.aligns := by
  have hr : merRank x = (0, 0, 0) := by
    unfold merRank
    obtain h | h := hx <;> rw [h]
  rw [hr] at h
  obtain ⟨hm, -⟩ | ⟨k, -, hm⟩ | hm := merRank_cases m
  · exact hm
  · rw [hm] at h
    exact absurd h (by simp [rankLt])
  · simp only [rankLt, Bool.or_eq_false_iff, decide_eq_false_iff_not] at h
    omega

/-- Before a STAKE_CALL goes an alignment message, a call asked for earlier, or one of a lower set of the same cycle. -/
theorem stakeCall_of_not_rankLt {x m : MerReq} {n : Nat} (h : rankLt (merRank x) (merRank m) = false)
    (hx : x.kind = .stakeCall n) :
    m.aligns ∨ ∃ k, m.kind = .stakeCall k ∧ (m.req < x.req ∨ m.req = x.req ∧ k ≤ n) := by
  have hr : merRank x = (1, x.req, n) := by
    unfold merRank
    rw [hx]
  rw [hr] at h
  obtain ⟨hm, -⟩ | ⟨k, hk, hm⟩ | hm := merRank_cases m
  · exact .inl hm
  · rw [hm] at h
    simp only [rankLt, Bool.or_eq_false_iff, Bool.and_eq_false_iff, decide_eq_false_iff_not, not_true_eq_false,
      false_or] at h
    exact .inr ⟨k, hk, by omega⟩
  · simp only [rankLt, Bool.or_eq_false_iff, Bool.and_eq_false_iff, decide_eq_false_iff_not] at h
    omega

/-! ### A launch slot -/

/-- The messages that can take the slot: asked for before this cycle (R451) and not too late (R22). -/
def State.merOnTime (s : State) : List MerReq :=
  s.glb.merPend.filter (fun m => decide (m.req < s.datum) && !merLate s.datum m)

/-- The messages asked for before this cycle that are too late (R22). -/
def State.merTooLate (s : State) : List MerReq :=
  (s.glb.merPend.filter (fun m => m.req < s.datum)).filter (merLate s.datum)

/-- The slot is taken and the messages that are too late are refused. -/
def State.merRefused (s : State) : State :=
  let u : State := { s with glb := { s.glb with merSlot := some s.datum } }
  s.merTooLate.foldl (fun s m => s.merRefuse m) (u.setMer (s.glb.merPend.filter (fun m => !s.merTooLate.contains m)))

theorem State.merRefuse_glb (s : State) (m : MerReq) : (s.merRefuse m).glb = s.glb := by
  unfold State.merRefuse
  dsimp only
  split
  · rw [State.setFld_glb, State.setFld_glb, State.sat_glb]
  · rw [State.sat_glb]

theorem State.merRefuse_datum (s : State) (m : MerReq) : (s.merRefuse m).datum = s.datum :=
  (State.Keeps.of_frame (s.merRefuse_frame m)).2.2

theorem State.merRefused_glb (s : State) : s.merRefused.glb =
    { s.glb with merSlot := some s.datum, merPend := s.glb.merPend.filter (fun m => !s.merTooLate.contains m) } :=
  foldl_fixes (·.glb) State.merRefuse_glb _ _

theorem State.merRefused_datum (s : State) : s.merRefused.datum = s.datum :=
  foldl_fixes (·.datum) State.merRefuse_datum _ _

/-- A message that still waits was waiting, and is not too late. -/
theorem State.mem_merRefused {s : State} {m : MerReq} (h : m ∈ s.merRefused.glb.merPend) :
    m ∈ s.glb.merPend ∧ (m.req < s.datum → merLate s.datum m = false) := by
  rw [State.merRefused_glb] at h
  obtain ⟨hm, hlate⟩ := List.mem_filter.1 h
  refine ⟨hm, fun hreq => Bool.eq_false_iff.2 fun hl => ?_⟩
  have hin : m ∈ s.merTooLate := List.mem_filter.2 ⟨List.mem_filter.2 ⟨hm, decide_eq_true hreq⟩, hl⟩
  simp [hin] at hlate

/-- The instant that a message carries: of an alignment message that of its arrival, 24 fclk later (R24, R25). -/
def MerReq.carries (m : MerReq) (now : Nat) : Nat :=
  match m.kind with
  | .alignLoad => now + 24
  | .alignVerify => now + 24
  | _ => m.instant

theorem MerReq.carries_of_aligns {m : MerReq} (now : Nat) (h : m.aligns) : m.carries now = now + 24 := by
  unfold MerReq.carries
  obtain h | h := h <;> rw [h]

theorem MerReq.carries_of_not_aligns {m : MerReq} (now : Nat) (h1 : m.kind ≠ .alignLoad) (h2 : m.kind ≠ .alignVerify) :
    m.carries now = m.instant := by
  unfold MerReq.carries
  split
  · contradiction
  · contradiction
  · rfl

/-- From `s` to `t` a message of kind `k` with the instant `inst` has been launched; what waits is as it was. -/
def State.Launches (s t : State) (k : MerKind) (inst : Nat) : Prop :=
  t.glb.merFly = s.glb.merFly.filter (fun x => decide (s.datum ≤ x.launch + 24)) ++ [⟨k, inst, s.datum, []⟩] ∧
  t.glb.merPend = s.glb.merPend ∧ t.glb.merSlot = s.glb.merSlot

theorem State.Launches.then {s t u : State} {k : MerKind} {inst : Nat} (h : s.Launches t k inst) (e : t.EventsOnly u) :
    s.Launches u k inst := ⟨e.merFly.trans h.1, e.merPend.trans h.2.1, e.merSlot.trans h.2.2⟩

/-- A message of kind `k` with the instant `inst` goes on the meridian, from which those that have arrived are gone. -/
def State.merFlown (s : State) (k : MerKind) (inst : Nat) : State :=
  { s with glb := { s.glb with
      merFly := s.glb.merFly.filter (fun x => decide (s.datum ≤ x.launch + 24)) ++ [MerMsg.mk k inst s.datum []] } }

theorem State.merFlown_launches (s : State) (k : MerKind) (inst : Nat) : s.Launches (s.merFlown k inst) k inst :=
  ⟨rfl, rfl, rfl⟩

theorem State.merSend_launches (s : State) (m : MerReq) : s.Launches (s.merSend m) m.kind (m.carries s.datum) := by
  have h0 (k : MerKind) (inst : Nat) : s.Launches ((s.merFlown k inst).gcnt 0) k inst :=
    (s.merFlown_launches k inst).then (State.gcnt_eventsOnly ..)
  obtain ⟨kind, instant, req⟩ := m
  cases kind with
  | idle => exact h0 _ _
  | alignLoad => exact h0 _ _
  | reserved t => exact h0 _ _
  | stakeCall n => exact (h0 _ _).then (State.gcnt_eventsOnly ..)
  | alignVerify =>
    obtain ⟨hfly, hpend, hslot⟩ := h0 .alignVerify (s.datum + 24)
    refine State.Launches.then ?_ (State.gcnt_eventsOnly _ 62 1)
    exact ⟨hfly, hpend, hslot⟩
  | surveyTick q =>
    have hset (u : State) (f : Fld) (v : Nat) : u.EventsOnly (u.setFld A.SRV_STATUS f v) :=
      u.setFld_eventsOnly f v (by decide)
    obtain ⟨hfly, hpend, hslot⟩ := h0 (.surveyTick q) instant
    refine State.Launches.then ?_ (State.gcnt_eventsOnly _ 2 1)
    refine State.Launches.then ?_ (hset _ F.SRV_STATUS_SEQ q)
    refine State.Launches.then ?_ (hset _ F.SRV_STATUS_ARMED 1)
    refine State.Launches.then ?_ (hset _ F.SRV_STATUS_PENDING 0)
    exact ⟨hfly, hpend, hslot⟩

theorem State.merIdle_launches (s : State) : s.Launches s.merIdle .idle 0 := s.merFlown_launches .idle 0

/-- The state in which the message that takes the slot waits no longer, its wait recorded (R22). -/
def State.merTaken (s : State) (m : MerReq) : State :=
  (s.setMer (s.glb.merPend.erase m)).setFld A.DAT_MER_STATUS F.DAT_MER_STATUS_MAX_WAIT
    (max (s.fld A.DAT_MER_STATUS F.DAT_MER_STATUS_MAX_WAIT) (min ((s.datum - m.req + 3) / 4) 255))

/-- In a slot not yet used the message picked among those on time is launched, or IDLE. -/
theorem execMeridianLaunch_slot {s : State} (hd : s.datum % 4 = 0) (hs : s.glb.merSlot ≠ some s.datum) :
    exec .meridianLaunch s = .next (match merPick s.merOnTime with
      | none => s.merRefused.merIdle
      | some m => (s.merRefused.merTaken m).merSend m) := by
  show execMeridianLaunch s = _
  unfold execMeridianLaunch
  rw [if_neg (not_or.2 ⟨not_not.2 hd, hs⟩)]
  extract_lets g u old late v
  have hot : old.filter (fun m => !merLate v.datum m) = s.merOnTime := by
    rw [show v = s.merRefused from rfl, State.merRefused_datum]
    exact (List.filter_filter ..).trans (List.filter_congr fun m _ => Bool.and_comm ..)
  rw [hot]
  cases merPick s.merOnTime <;> rfl

theorem State.merTaken_glb (s : State) (m : MerReq) :
    (s.merTaken m).glb = { s.glb with merPend := s.glb.merPend.erase m } := State.setFld_glb ..

theorem State.merTaken_datum (s : State) (m : MerReq) : (s.merTaken m).datum = s.datum := State.setFld_datum ..

/-- What a slot that is used does to the messages: the one on time that ranks first flies, or IDLE where there is none;
of the others none that is too late goes on waiting. -/
theorem execMeridianLaunch_spec {s : State} (hd : s.datum % 4 = 0) (hs : s.glb.merSlot ≠ some s.datum) :
    ∃ t, exec .meridianLaunch s = .next t ∧ t.glb.merSlot = some s.datum ∧
      (∀ m ∈ t.glb.merPend, m ∈ s.glb.merPend ∧ (m.req < s.datum → merLate s.datum m = false)) ∧
      let fly := s.glb.merFly.filter (fun x => decide (s.datum ≤ x.launch + 24))
      (s.merOnTime = [] → t.glb.merFly = fly ++ [⟨.idle, 0, s.datum, []⟩]) ∧
      (s.merOnTime ≠ [] → ∃ m ∈ s.merOnTime, t.glb.merFly = fly ++ [⟨m.kind, m.carries s.datum, s.datum, []⟩] ∧
        ∀ x ∈ s.merOnTime, rankLt (merRank x) (merRank m) = false) := by
  rw [execMeridianLaunch_slot hd hs]
  cases hq : s.merOnTime with
  | nil =>
    obtain ⟨hfly, hpend, hslot⟩ := s.merRefused.merIdle_launches
    rw [State.merRefused_glb, State.merRefused_datum] at hfly
    rw [State.merRefused_glb] at hslot
    exact ⟨_, rfl, hslot, fun m hm => State.mem_merRefused (hpend ▸ hm), fun _ => hfly, fun h => absurd rfl h⟩
  | cons b q =>
    obtain ⟨m, hm, hpick, hle⟩ := merPick_least q b
    obtain ⟨hfly, hpend, hslot⟩ := (s.merRefused.merTaken m).merSend_launches m
    rw [State.merTaken_glb, State.merTaken_datum, State.merRefused_glb, State.merRefused_datum] at hfly
    rw [State.merTaken_glb, State.merRefused_glb] at hslot
    rw [State.merTaken_glb] at hpend
    rw [hpick]
    exact ⟨_, rfl, hslot, fun x hx => State.mem_merRefused (List.mem_of_mem_erase (hpend ▸ hx)),
      fun h => absurd h (List.cons_ne_nil b q), fun _ => ⟨m, hm, hfly, hle⟩⟩

/-- Settles O24: by what a slot launches and the three ranks. -/
theorem meridianLaunchOrder : Obligations.MeridianLaunchOrder := by
  intro s
  refine ⟨fun h => if_pos h, fun hd hs => ?_⟩
  obtain ⟨t, ht, hslot, hwait, hidle, hsend⟩ := execMeridianLaunch_spec hd hs
  refine ⟨t, ht, hslot, hwait, hidle, fun hel => ?_⟩
  obtain ⟨m, hm, hfly, hle⟩ := hsend hel
  exact ⟨m, hm, ⟨_, hfly, fun h => m.carries_of_aligns _ h, fun h1 h2 => m.carries_of_not_aligns _ h1 h2⟩,
    fun x hx ha => aligns_of_not_rankLt (hle x hx) ha, fun x hx n hk =>
      or_assoc.1 (stakeCall_of_not_rankLt (hle x hx) hk)⟩

end Sys2Proof.Machine
end

section
/-!
PROOFS. Alignment and verification of the datum counters (R14, R19, R23 to R25).
-/
namespace Sys2Proof.Machine

/-! ### A block's counter (R13) -/

theorem State.nowOf_eq (s : State) {b : Nat} (h : b ≠ 192) : s.nowOf b = (s.datum + (s.skewOf b).toNat) % 2 ^ 64 :=
  if_neg h

/-- A block whose counter does not differ from the global one holds the global datum. -/
theorem State.nowOf_of_skewOf_zero {s : State} {b : Nat} (hd : s.datum < 2 ^ 64) (h : b ≠ 192 → s.skewOf b = 0) :
    s.nowOf b = s.datum := by
  by_cases hb : b = 192
  · exact if_pos hb
  · rw [State.nowOf_eq s hb, h hb]
    exact Nat.mod_eq_of_lt hd

/-! What a register write and a count leave alone. -/

@[simp] theorem State.nowOf_setFld (s : State) (a : Nat) (f : Fld) (v b : Nat) : (s.setFld a f v).nowOf b = s.nowOf b :=
  rfl
@[simp] theorem State.nowOf_sat (s : State) (a : Nat) (f : Fld) (n b : Nat) : (s.sat a f n).nowOf b = s.nowOf b := rfl
@[simp] theorem State.copyOf_sat (s : State) (a : Nat) (f : Fld) (n b c : Nat) :
    (s.sat a f n).copyOf b c = s.copyOf b c := rfl

/-! ### ALIGN_GO (R24) -/

/-- A write of DAT_CTL with ALIGN_GO and a VERIFY_PERIOD that is not reserved. -/
theorem State.writeDatCtl_go {s : State} {r : Req} (hgo : reqFld r F.DAT_CTL_ALIGN_GO = 1)
    (hlo : 10 ≤ reqFld r F.DAT_CTL_VERIFY_PERIOD) (hhi : reqFld r F.DAT_CTL_VERIFY_PERIOD ≤ 24) :
    s.writeDatCtl r = if s.alignOk then
      (((s.setFld A.DAT_CTL F.DAT_CTL_VERIFY_EN (reqFld r F.DAT_CTL_VERIFY_EN)).setFld A.DAT_CTL
        F.DAT_CTL_VERIFY_PERIOD (reqFld r F.DAT_CTL_VERIFY_PERIOD)).merReq .alignLoad 0, Code.OK)
      else (s, Code.DENY) := by
  unfold State.writeDatCtl
  dsimp only
  rw [if_neg (by omega)]
  cases s.alignOk
  · rw [if_pos ⟨hgo, rfl⟩]
    rfl
  · rw [if_neg fun h => Bool.false_ne_true h.2, if_pos hgo]
    rfl

/-! ### ALIGN_LOAD_ARRIVAL (R24) -/

/-- The differences that are noted for some blocks; the others have none. -/
theorem get_foldl_set_zero (f : Nat → Word) (b : Nat) (l : List Nat) : ∀ d : List (Nat × Word),
    Store.get (fun _ => 0) (l.foldl (fun d b => Store.set (fun _ => 0) d b (f b)) d) b =
      if b ∈ l then f b else Store.get (fun _ => 0) d b := by
  induction l with
  | nil => exact fun _ => rfl
  | cons x l ih =>
    intro d
    rw [List.foldl_cons, ih]
    by_cases hl : b ∈ l
    · rw [if_pos hl, if_pos (List.mem_cons_of_mem x hl)]
    by_cases hx : b = x
    · rw [if_neg hl, hx, Store.get_set_same, if_pos List.mem_cons_self]
    · rw [if_neg hl, Store.get_set_ne _ hx, if_neg (List.mem_cons.not.2 (not_or.2 ⟨hx, hl⟩))]

/-- The counters as an ALIGN_LOAD leaves them: those of the blocks that have discarded it are kept, all others aligned. -/
def State.alignedBut (s : State) (kept : List Nat) : Skew :=
  { base := none, diff := kept.foldl (fun d b => Store.set (fun _ => 0) d b (s.skewOf b)) [] }

/-- The state after an ALIGN_LOAD that `sbe` receivers have corrected. -/
def State.alignLoaded (s : State) (m : MerMsg) (sbe : Nat) : State :=
  let t : State := { s with skew := s.alignedBut (m.seen.filter (fun b => b < 192))
                            glb := { s.glb with merFly := s.glb.merFly.erase m } }
  ((t.merSbe sbe).wr A.DAT_ALIGN_TIME (BitVec.ofNat 64 m.instant)).setFld A.DAT_STATUS F.DAT_STATUS_ALIGNED 1

theorem execAlignLoadArrival_eq {s : State} {m : MerMsg} (n : Fin 193)
    (h : s.glb.merFly.find? (fun m => m.kind = .alignLoad && m.launch + 24 = s.datum) = some m) :
    exec (.alignLoadArrival n) s = .next (s.alignLoaded m n.val) := by
  show execAlignLoadArrival n s = _
  unfold execAlignLoadArrival
  rw [h]
  rfl

theorem State.skewOf_alignLoaded (s : State) (m : MerMsg) (sbe : Nat) {b : Nat} (hb : b < 192) :
    (s.alignLoaded m sbe).skewOf b = if b ∈ m.seen then s.skewOf b else 0 := by
  have h : (s.alignLoaded m sbe).skewOf b = _ := get_foldl_set_zero s.skewOf b (m.seen.filter (fun b => b < 192)) []
  rw [h]
  simp only [List.mem_filter, decide_eq_true hb, and_true]
  rfl

theorem State.alignLoaded_datum (s : State) (m : MerMsg) (sbe : Nat) : (s.alignLoaded m sbe).datum = s.datum :=
  congrArg id rfl

/-- Settles O25: the write by its rule, the arrival by `State.skewOf_alignLoaded`. -/
theorem alignLoad : Obligations.AlignLoad := by
  refine ⟨fun r s ha hgo hlo hhi => ⟨fun hok => ?_, fun hok => ?_⟩, fun n s m hd hm => ?_⟩
  · refine congrArg Host.Outcome.next (State.serve_eq ha ?_)
    rw [State.writeDatCtl_go hgo hlo hhi, if_pos hok]
  · refine congrArg Host.Outcome.next (State.serve_eq ha ?_)
    rw [State.writeDatCtl_go hgo hlo hhi, hok]
    rfl
  · have hdat := s.alignLoaded_datum m n.val
    refine ⟨_, execAlignLoadArrival_eq n hm, State.fld_setFld_same _ _ _ _ (by decide), ?_, hdat, fun b hb hseen => ?_,
      fun b hb hseen => ?_⟩
    · exact (State.rd_setFld_ne _ _ _ (by decide)).trans (State.rd_wr_same ..)
    · refine (State.nowOf_of_skewOf_zero (hdat ▸ hd) fun hne => ?_).trans hdat
      rw [State.skewOf_alignLoaded s m _ (by omega), if_neg hseen]
    · rw [State.nowOf_eq _ hb.ne, State.nowOf_eq s hb.ne, hdat, State.skewOf_alignLoaded s m _ hb, if_pos hseen]

/-! ### The vote (R14) -/

/-- A block without a copy that disagrees has three equal ones. -/
theorem State.copyOf_of_not_split {s : State} {b c : Nat} (h : s.split b = false) (hc : c < 3) :
    s.copyOf b c = s.nowOf b := by
  have hn : tget none s.glb.votes (3 * b + c) = none := by
    have := List.any_eq_false.1 h c (List.mem_range.2 hc)
    simpa using this
  unfold State.copyOf
  rw [hn]

/-- The state in which copy `c` of the counter of block `b` stands at `v`. -/
def State.withVote (s : State) (b c : Nat) (v : Word) : State :=
  { s with glb := { s.glb with votes := tset none s.glb.votes (3 * b + c) (some v) } }

section
variable (s : State) (b c : Nat) (v : Word)

theorem State.withVote_votes :
    (s.withVote b c v).glb.votes = tset none s.glb.votes (3 * b + c) (some v) := rfl

theorem State.copyOf_withVote_same : (s.withVote b c v).copyOf b c = v.toNat := by
  unfold State.copyOf
  rw [State.withVote_votes, tget_tset_same]

theorem State.copyOf_withVote_ne {k : Nat} (h : k ≠ c) : (s.withVote b c v).copyOf b k = s.copyOf b k := by
  unfold State.copyOf
  rw [State.withVote_votes, tget_tset_ne _ _ _ (by omega)]
  rfl

/-- One copy that differs does not change the vote. -/
theorem State.voted_withVote {c : Nat} (h : s.split b = false) (hc : c < 3) (hv : v.toNat ≠ s.nowOf b) :
    (s.withVote b c v).voted b = s.nowOf b := by
  have hk (k : Nat) (hk : k < 3) (hne : k ≠ c) : (s.withVote b c v).copyOf b k = s.nowOf b := by
    rw [State.copyOf_withVote_ne s b c v hne, State.copyOf_of_not_split h hk]
  have hsame := s.copyOf_withVote_same b c v
  unfold State.voted vote3
  obtain rfl | rfl | rfl : c = 0 ∨ c = 1 ∨ c = 2 := by omega
  · rw [hk 1 (by omega) (by omega), hk 2 (by omega) (by omega), if_pos rfl]
  · rw [hsame, hk 2 (by omega) (by omega), if_neg hv, hk 0 (by omega) (by omega)]
  · rw [hsame, hk 1 (by omega) (by omega), if_neg hv.symm, hk 0 (by omega) (by omega)]

/-- At the end of the cycle the copies agree again, and the one that differed is counted. -/
theorem State.fld_voteFixes_withVote (h : s.glb.votes = []) :
    (s.withVote b c v).voteFixes.fld A.DAT_STATUS F.DAT_STATUS_VOTE_FIX_COUNT =
      min (s.fld A.DAT_STATUS F.DAT_STATUS_VOTE_FIX_COUNT + 1) (2 ^ F.DAT_STATUS_VOTE_FIX_COUNT.w - 1) := by
  have hone : (s.withVote b c v).glb.votes = [(3 * b + c, some v)] := by
    rw [State.withVote_votes, h]
    rfl
  unfold State.voteFixes
  dsimp only
  rw [hone, State.fld_sat_same _ _ _ _ (by decide)]
  rfl

end

theorem State.copyOf_voteFixes (s : State) (b c : Nat) : s.voteFixes.copyOf b c = s.nowOf b := State.copyOf_sat ..

/-! ### Messages that a receiver meets (R19, R23, R25) -/

/-- A message that a receiver has met is not met by it again. -/
theorem State.arriving_meet_ne (s : State) (m : MerMsg) (b : Nat) (want : MerKind → Bool) :
    (s.meet m b).arriving b want ≠ some m := by
  intro h
  have hnot := List.find?_some h
  obtain ⟨x, -, hx⟩ := List.mem_map.1 (List.mem_of_find?_eq_some h)
  by_cases hxm : x = m
  · rw [if_pos hxm] at hx
    rw [← hx] at hnot
    simp at hnot
  · rw [if_neg hxm] at hx
    exact hxm hx

theorem stationOfBlk_lt {b : Nat} (h : b < 192) : stationOfBlk b < 36 := by
  unfold stationOfBlk stationOfFed
  split
  · omega
  split
  · split <;> omega
  · omega

/-- What DAT_STATUS notes of a receiver: bit `i` sets, `cnt` counts, and the station is recorded (R23, R25). -/
def State.siteNoted (s : State) (i : Nat) (cnt : Fld) (b : Nat) : State :=
  ((s.setFld A.DAT_STATUS ⟨i, 1⟩ 1).sat A.DAT_STATUS cnt).setFld A.DAT_STATUS F.DAT_STATUS_LAST_SITE (stationOfBlk b)

section
variable (s : State) {i : Nat} {cnt : Fld} {b : Nat}

theorem State.siteNoted_glb : (s.siteNoted i cnt b).glb = s.glb := by
  rw [State.siteNoted, State.setFld_glb, State.sat_glb, State.setFld_glb]

theorem State.nowOf_siteNoted (c : Nat) : (s.siteNoted i cnt b).nowOf c = s.nowOf c := by
  rw [State.siteNoted, State.nowOf_setFld, State.nowOf_sat, State.nowOf_setFld]

/-- The bit lies below LAST_SITE and the count above it. -/
theorem State.fld_siteNoted (hi : i < 8) (hlo : 16 ≤ cnt.lo) (hhi : cnt.lo + cnt.w ≤ 64) (hb : b < 192) :
    (s.siteNoted i cnt b).fld A.DAT_STATUS ⟨i, 1⟩ = 1 ∧
    (s.siteNoted i cnt b).fld A.DAT_STATUS F.DAT_STATUS_LAST_SITE = stationOfBlk b ∧
    (s.siteNoted i cnt b).fld A.DAT_STATUS cnt = min (s.fld A.DAT_STATUS cnt + 1) (2 ^ cnt.w - 1) := by
  have hst := stationOfBlk_lt hb
  have hbit : (⟨i, 1⟩ : Fld).lo + (⟨i, 1⟩ : Fld).w ≤ 64 := by dsimp only; omega
  have hapart : cnt.apart ⟨i, 1⟩ := .inr (by dsimp only; omega)
  unfold State.siteNoted
  refine ⟨?_, ?_, ?_⟩
  · rw [State.fld_setFld_apart _ _ _ _ _ (by decide) (.inr (by dsimp only; omega)),
      State.fld_sat_apart _ _ _ _ _ hhi hapart, State.fld_setFld_same _ _ _ _ hbit]
    rfl
  · rw [State.fld_setFld_same _ _ _ _ (by decide)]
    exact Nat.mod_eq_of_lt (by dsimp only; omega)
  · rw [State.fld_setFld_apart _ _ _ _ _ (by decide) (.inl (by dsimp only; omega)), State.fld_sat_same _ _ _ _ hhi,
      State.fld_setFld_apart _ _ _ _ _ hbit hapart.symm]

end

/-- Apart from DAT_STATUS a discarded message raises events and is noted by the FMP. -/
theorem State.merDue_eventsOnly (s : State) (b : Nat) :
    (s.siteNoted 2 F.DAT_STATUS_MER_DUE_COUNT b).EventsOnly (s.merDue b) :=
  (State.stnCause_eventsOnly ..).trans ((State.raise_eventsOnly _ 1344).slips _)

/-- R23: a discarded message sets MER_DUE, is counted, and its station is recorded. -/
theorem State.fld_merDue (s : State) {b : Nat} (hb : b < 192) :
    (s.merDue b).fld A.DAT_STATUS F.DAT_STATUS_MER_DUE = 1 ∧
    (s.merDue b).fld A.DAT_STATUS F.DAT_STATUS_LAST_SITE = stationOfBlk b ∧
    (s.merDue b).fld A.DAT_STATUS F.DAT_STATUS_MER_DUE_COUNT =
      min (s.fld A.DAT_STATUS F.DAT_STATUS_MER_DUE_COUNT + 1) (2 ^ F.DAT_STATUS_MER_DUE_COUNT.w - 1) := by
  have h := (s.merDue_eventsOnly b).fld (a := A.DAT_STATUS) (by decide)
  rw [h, h, h]
  exact s.fld_siteNoted (by decide) (by decide) (by decide) hb

theorem State.arriving_merDue (s : State) (b c : Nat) (want : MerKind → Bool) :
    (s.merDue b).arriving c want = s.arriving c want := by
  have hfly : (s.merDue b).glb.merFly = s.glb.merFly := by rw [(s.merDue_eventsOnly b).merFly, State.siteNoted_glb]
  have hdat : (s.merDue b).datum = s.datum := (State.Keeps.of_frame (s.merDue_frame b)).2.2
  rw [State.arriving, State.arriving, hfly, hdat]

/-! What meeting a message, with its single-bit errors counted, leaves alone. -/

section
variable (s : State) (m : MerMsg) (b n : Nat)

theorem State.nowOf_met (c : Nat) : ((s.meet m b).merSbe n).nowOf c = s.nowOf c := State.nowOf_sat ..

theorem State.datum_met : ((s.meet m b).merSbe n).datum = s.datum := State.sat_datum ..

theorem State.slipCount_met : ((s.meet m b).merSbe n).fld A.DAT_STATUS F.DAT_STATUS_SLIP_COUNT =
    s.fld A.DAT_STATUS F.DAT_STATUS_SLIP_COUNT := State.fld_sat_apart _ _ _ _ _ (by decide) (by decide)

end

/-! ### Slips (R25) -/

/-- A block's counter set to the global datum. -/
theorem State.skewOf_alignBlock (s : State) (b c : Nat) :
    (s.alignBlock b).skewOf c = if c = b then 0 else s.skewOf c := by
  unfold State.alignBlock State.skewOf
  by_cases h : c = b
  · rw [if_pos h, h]
    dsimp only
    split
    · exact Store.get_put_same _
    · exact Store.get_set_same _
  · rw [if_neg h]
    dsimp only
    split
    · exact Store.get_put_ne _ h
    · exact Store.get_set_ne _ h

/-- Apart from the counter and DAT_STATUS a slip raises an event, is counted and is noted by the FMP. -/
theorem State.slip_eventsOnly (s : State) (b : Nat) :
    ((s.alignBlock b).siteNoted 1 F.DAT_STATUS_SLIP_COUNT b).EventsOnly (s.slip b) :=
  ((State.raise_eventsOnly _ 1345).trans (State.gcnt_eventsOnly _ 63 1)).trans ((State.EventsOnly.refl _).slips _)

/-- The counter of the block that slips holds the global datum, every other one is kept. -/
theorem State.nowOf_slip (s : State) (b : Nat) (hd : s.datum < 2 ^ 64) :
    (s.slip b).nowOf b = s.datum ∧ ∀ c, c ≠ b → (s.slip b).nowOf c = s.nowOf c := by
  have h (c : Nat) : (s.slip b).nowOf c = (s.alignBlock b).nowOf c := by
    rw [(s.slip_eventsOnly b).nowOf, State.nowOf_siteNoted]
  refine ⟨(h b).trans (State.nowOf_of_skewOf_zero hd fun _ => ?_), fun c hc => (h c).trans ?_⟩
  · rw [State.skewOf_alignBlock, if_pos rfl]
  · by_cases h192 : c = 192
    · subst h192; rfl
    · rw [State.nowOf_eq _ h192, State.nowOf_eq s h192, State.skewOf_alignBlock, if_neg hc]
      rfl

/-- R25: a slip sets SLIP, is counted, and its station is recorded. -/
theorem State.fld_slip (s : State) {b : Nat} (hb : b < 192) :
    (s.slip b).fld A.DAT_STATUS F.DAT_STATUS_SLIP = 1 ∧
    (s.slip b).fld A.DAT_STATUS F.DAT_STATUS_LAST_SITE = stationOfBlk b ∧
    (s.slip b).fld A.DAT_STATUS F.DAT_STATUS_SLIP_COUNT =
      min (s.fld A.DAT_STATUS F.DAT_STATUS_SLIP_COUNT + 1) (2 ^ F.DAT_STATUS_SLIP_COUNT.w - 1) := by
  have h := (s.slip_eventsOnly b).fld (a := A.DAT_STATUS) (by decide)
  rw [h, h, h]
  exact (s.alignBlock b).fld_siteNoted (by decide) (by decide) (by decide) hb

/-! ### The commands -/

/-- At an instant of the verify period the timer asks for an ALIGN_VERIFY (R25). -/
theorem execVerifyTimer_asks {s : State} (hen : s.bit A.DAT_CTL F.DAT_CTL_VERIFY_EN = true)
    (hd : s.datum % 2 ^ s.fld A.DAT_CTL F.DAT_CTL_VERIFY_PERIOD = 0) (hat : s.glb.verAt ≤ s.datum) :
    exec .verifyTimer s =
      .next (State.merReq { s with glb := { s.glb with verAt := s.datum + 1 } } .alignVerify 0) := by
  show execVerifyTimer s = _
  unfold execVerifyTimer
  rw [if_pos (by simp [hen, hd, hat])]

/-- Otherwise it does nothing, and so once it has asked in a cycle. -/
theorem execVerifyTimer_idle {s : State} (h : s.bit A.DAT_CTL F.DAT_CTL_VERIFY_EN = false ∨
    s.datum % 2 ^ s.fld A.DAT_CTL F.DAT_CTL_VERIFY_PERIOD ≠ 0 ∨ s.datum < s.glb.verAt) :
    exec .verifyTimer s = .next s := by
  show execVerifyTimer s = _
  unfold execVerifyTimer
  rw [if_neg]
  simp only [Bool.and_eq_true, decide_eq_true_eq]
  rintro ⟨⟨hen, hd⟩, hat⟩
  obtain h | h | h := h
  · exact Bool.false_ne_true (h.symm.trans hen)
  · exact h hd
  · omega

/-- The copy that differs is noted, when it is the counter's first in this cycle (R14). -/
theorem execVoteFix_eq (b : Fin 193) (i : Fin 3) (v : Word) (s : State) :
    exec (.voteFix b ⟨i, v⟩) s = .next (if v.toNat = s.nowOf b.val ∨ s.split b.val then s
      else s.withVote b.val i.val v) := by
  show execVoteFix b ⟨i, v⟩ s = _
  unfold execVoteFix
  dsimp only
  split <;> rfl

section
variable {s : State} {b : Fin 192} {m : MerMsg}

/-- A receiver discards the message that reaches it (R23). -/
theorem execMeridianDueDiscard_discards (h : s.arriving b.val (fun _ => true) = some m) :
    exec (.meridianDueDiscard ⟨b, false⟩) s = .next ((s.meet m b.val).merDue b.val) := by
  show execMeridianDueDiscard ⟨b, false⟩ s = _
  unfold execMeridianDueDiscard
  have h' : s.arriving b.val (fun k => !false || decide (k = .idle)) = some m := h
  rw [h']
  rfl

/-- A receiver corrects an IDLE (R23). -/
theorem execMeridianDueDiscard_corrects (h : s.arriving b.val (fun k => k = .idle) = some m) :
    exec (.meridianDueDiscard ⟨b, true⟩) s = .next ((s.meet m b.val).merSbe 1) := by
  show execMeridianDueDiscard ⟨b, true⟩ s = _
  unfold execMeridianDueDiscard
  have h' : s.arriving b.val (fun k => !true || decide (k = .idle)) = some m := h
  rw [h']
  rfl

/-- A reserved TYPE is discarded (R19). -/
theorem execMeridianReservedType_discards {typ : BitVec 4} (ht : 5 ≤ typ.toNat)
    (h : s.arriving b.val (fun _ => true) = some m) :
    exec (.meridianReservedType b typ) s = .next ((s.meet m b.val).merDue b.val) := by
  show execMeridianReservedType b typ s = _
  unfold execMeridianReservedType
  rw [if_neg (not_lt.2 ht), h]

/-- A receiver whose counter differs from the instant slips (R25). -/
theorem execAlignVerifyArrival_eq (sbe : Bool) (h : s.arriving b.val (· = .alignVerify) = some m) :
    exec (.alignVerifyArrival b sbe) s = .next (if s.nowOf b.val = m.instant
      then (s.meet m b.val).merSbe (if sbe then 1 else 0)
      else ((s.meet m b.val).merSbe (if sbe then 1 else 0)).slip b.val) := by
  show execAlignVerifyArrival b sbe s = _
  unfold execAlignVerifyArrival
  rw [h]
  dsimp only
  rw [State.nowOf_met]
  split <;> rfl

end

/-- Settles O26: each command by its own equation, what it leaves by the lemmas on votes, discards and slips. -/
theorem alignVerifyVoteAndDiscard : Obligations.AlignVerifyVoteAndDiscard := by
  refine ⟨⟨?_, fun s h => execVerifyTimer_idle h, ?_, fun b s m => ⟨?_, fun h => execMeridianDueDiscard_corrects h⟩,
    fun b typ s m ht h => execMeridianReservedType_discards ht h, fun s b hb => s.fld_merDue hb⟩, ?_⟩
  · intro s hen hd hat
    exact ⟨_, execVerifyTimer_asks hen hd hat, rfl, rfl, execVerifyTimer_idle (.inr (.inr (Nat.lt_succ_self _)))⟩
  · intro b i v s
    rw [execVoteFix_eq]
    refine ⟨fun h => by rw [if_pos h], fun hv hs => ?_⟩
    rw [if_neg (by simp [hv, hs])]
    exact ⟨_, rfl, s.copyOf_withVote_same .., s.voted_withVote _ _ hs i.isLt hv, fun _ => rfl, rfl,
      fun c k => State.copyOf_voteFixes _ c k, fun h => s.fld_voteFixes_withVote _ _ _ h⟩
  · intro h
    refine ⟨_, execMeridianDueDiscard_discards h, rfl, ?_⟩
    rw [State.arriving_merDue]
    exact s.arriving_meet_ne m b.val _
  · intro b sbe s m hd h
    rw [execAlignVerifyArrival_eq sbe h]
    refine ⟨fun he => by rw [if_pos he], fun hne => ?_⟩
    rw [if_neg hne]
    have hdat := s.datum_met m b.val (if sbe then 1 else 0)
    obtain ⟨hb, hc⟩ := State.nowOf_slip _ b.val (hdat.symm ▸ hd)
    obtain ⟨hslip, hsite, hcount⟩ := ((s.meet m b.val).merSbe (if sbe then 1 else 0)).fld_slip b.isLt
    rw [State.slipCount_met] at hcount
    exact ⟨_, rfl, hb.trans hdat, fun c hne => (hc c hne).trans (State.nowOf_met ..), hslip, hsite, hcount⟩

end Sys2Proof.Machine
end

section
/-!
PROOFS. The header unit, the flits of a packet, and the end-to-end check (R38, R43, R49, R50).
-/
namespace Sys2Proof.Machine

/-! ### The header unit (R43) -/

/-- Each field is read from the place at which it was written. -/
theorem Hdr.ofBits_bits (h : Hdr) : Hdr.ofBits h.bits = h := by
  obtain ⟨⟩ := h
  simp (disch := decide) only [Hdr.bits, Hdr.ofBits, BitVec.extractLsb'_append_eq_of_le,
    BitVec.extractLsb'_append_eq_of_add_le, Nat.reduceSub, BitVec.extractLsb'_eq_self]

/-- The fields lie side by side and cover the 256 bits. -/
theorem Hdr.bits_ofBits (x : BitVec 256) : (Hdr.ofBits x).bits = x := by
  simp (disch := decide) only [Hdr.bits, Hdr.ofBits, BitVec.extractLsb'_append_extractLsb'_eq_extractLsb',
    BitVec.extractLsb'_eq_self]

/-- Settles O10: each direction by the places of the fields. -/
theorem headerRoundTrip : Obligations.HeaderRoundTrip := ⟨Hdr.ofBits_bits, Hdr.bits_ofBits⟩

/-! ### The flits of a packet (R38, R43, R49) -/

section
variable (vc : Nat) (poison : Bool) (crc : BitVec 32)

theorem dataFlits_payloads : ∀ us, (dataFlits vc poison crc us).map (·.payload) = us
  | [] => rfl
  | [_] => rfl
  | u :: v :: us => congrArg (u :: ·) (dataFlits_payloads (v :: us))

/-- Every data flit travels on the packet's VC with its poison mark, and none begins a packet. -/
theorem dataFlits_mem : ∀ us, ∀ f ∈ dataFlits vc poison crc us, (f.vc = vc ∧ f.poison = poison) ∧ f.isHead = false
  | [], _, hf => absurd hf List.not_mem_nil
  | [_], f, hf => by rw [List.mem_singleton.1 hf]; exact ⟨⟨rfl, rfl⟩, rfl⟩
  | _ :: v :: us, f, hf => by
    obtain rfl | hf := List.mem_cons.1 hf
    · exact ⟨⟨rfl, rfl⟩, rfl⟩
    · exact dataFlits_mem (v :: us) f hf

/-- The data flits before the last end no packet; the last ends it and carries the CRC. -/
theorem dataFlits_split : ∀ (u : BitVec 256) us, ∃ l f, dataFlits vc poison crc (u :: us) = l ++ [f] ∧
    f.isTail = true ∧ f.e2e = crc ∧ ∀ g ∈ l, g.isTail = false
  | _, [] => ⟨[], _, rfl, rfl, rfl, fun _ h => absurd h List.not_mem_nil⟩
  | u, v :: us => by
    obtain ⟨l, f, heq, htail, hcrc, hl⟩ := dataFlits_split v us
    refine ⟨{ ft := .body, vc := vc, poison := poison, payload := u } :: l, f, ?_, htail, hcrc, fun g hg => ?_⟩
    · rw [List.cons_append, ← heq]; rfl
    · obtain rfl | hg := List.mem_cons.1 hg
      · rfl
      · exact hl g hg

end

/-- A packet's flits: the head, which alone begins it, carries the header, and the flits after it the data units. -/
theorem Pkt.flits_head (p : Pkt) (vc : Nat) : ∃ f fs, p.flits vc = f :: fs ∧ f.payload = p.h.bits ∧
    fs.map (·.payload) = p.units ∧ f.isHead = true ∧ (∀ g ∈ fs, g.isHead = false) ∧
    ∀ g ∈ f :: fs, g.vc = vc ∧ g.poison = p.poison := by
  unfold Pkt.flits
  split
  · next h => exact ⟨_, [], rfl, rfl, h.symm, rfl, by simp, by simp⟩
  · refine ⟨_, _, rfl, rfl, dataFlits_payloads .., rfl, fun g hg => (dataFlits_mem vc _ _ _ g hg).2, ?_⟩
    rintro g (_ | ⟨_, hg⟩)
    · exact ⟨rfl, rfl⟩
    · exact (dataFlits_mem vc _ _ _ g hg).1

/-- A packet's flits: the last, which alone ends it, carries the CRC. -/
theorem Pkt.flits_last (p : Pkt) (vc : Nat) : ∃ l f, p.flits vc = l ++ [f] ∧ f.isTail = true ∧ f.e2e = p.crc ∧
    ∀ g ∈ l, g.isTail = false := by
  unfold Pkt.flits
  split
  · exact ⟨[], _, rfl, rfl, rfl, by simp⟩
  · next h =>
    obtain ⟨u, us, hu⟩ := List.exists_cons_of_ne_nil h
    obtain ⟨l, f, heq, htail, hcrc, hl⟩ := dataFlits_split vc p.poison p.crc u us
    rw [hu, heq]
    refine ⟨_ :: l, f, rfl, htail, hcrc, ?_⟩
    rintro g (_ | ⟨_, hg⟩)
    · rfl
    · exact hl g hg

/-- The packet put together from flits, by the first of them, the others and the last. -/
theorem Pkt.ofFlits_eq {p : Pkt} {f g : Flit} {fs l : List Flit} (hl : f :: fs = l ++ [g])
    (hh : f.payload = p.h.bits) (hu : fs.map (·.payload) = p.units) (hc : g.e2e = p.crc)
    (hp : ∀ x ∈ f :: fs, x.poison = p.poison) : Pkt.ofFlits (f :: fs) = p := by
  have hlast : (f :: fs).getLast? = some g := by rw [hl, List.getLast?_concat]
  have hany : (f :: fs).any (·.poison) = p.poison := by
    cases hb : p.poison with
    | true => exact List.any_eq_true.2 ⟨f, List.mem_cons_self, (hp f List.mem_cons_self).trans hb⟩
    | false => exact List.any_eq_false.2 fun x hx => by rw [hp x hx, hb]; decide
  unfold Pkt.ofFlits
  dsimp only
  rw [hlast, hany, hh, hu, Hdr.ofBits_bits, Option.map_some, Option.getD_some, hc]

/-- Settles O11: the flits seen from the first one and from the last one. -/
theorem packetRoundTrip : Obligations.PacketRoundTrip := by
  intro p vc
  obtain ⟨f, fs, hfs, hpay, hunits, hhead, hrest, hmem⟩ := p.flits_head vc
  obtain ⟨l, g, hlg, htail, hcrc, hinit⟩ := p.flits_last vc
  have hone : f :: fs = l ++ [g] := hfs.symm.trans hlg
  have hlen : (p.flits vc).length = 1 + p.units.length := by
    rw [hfs, ← hunits, List.length_map, List.length_cons, Nat.add_comm]
  refine ⟨?_, hlen, hfs ▸ hmem, ?_, ?_, ?_, ?_⟩
  · rw [hfs]
    exact Pkt.ofFlits_eq hone hpay hunits hcrc fun x hx => (hmem x hx).2
  · rw [hfs]
    rintro _ ⟨⟩
    exact hhead
  · rw [hfs]
    exact hrest
  · rw [hlg, List.getLast?_concat]
    rintro _ ⟨⟩
    exact htail
  · rw [hlg, List.dropLast_concat]
    exact hinit

/-! ### The end-to-end check (R49, R50) -/

/-- What the check asks of a packet. -/
theorem Pkt.fails_eq_true_iff (p : Pkt) :
    p.fails = true ↔ p.poison = true ∨ p.units.length ≠ p.h.len.toNat ∨ p.crc ≠ e2eCrc p.h p.units := by
  simp only [Pkt.fails, Bool.or_eq_true, decide_eq_true_eq, or_assoc]

/-- The CRC takes HOPPTR as 0. -/
theorem e2eCrc_hopptr (h : Hdr) (us : List (BitVec 256)) (hop : BitVec 4) :
    e2eCrc { h with hopptr := hop } us = e2eCrc h us := rfl

/-- LEN of a sealed packet is the number of its data units. -/
theorem Pkt.len_seal (h : Hdr) {us : List (BitVec 256)} (hus : us.length ≤ 31) :
    (Pkt.seal h us).h.len.toNat = us.length :=
  (BitVec.toNat_ofNat ..).trans (Nat.mod_eq_of_lt (by omega))

/-- Settles O12: the three things the check asks, each of a sealed packet and of what was changed in it. -/
theorem endToEndCheck : Obligations.EndToEndCheck := by
  intro h us hop hus
  have hlen := Pkt.len_seal h hus
  refine ⟨Bool.eq_false_iff.2 fun hf => ?_, ?_, fun vs hvs => ?_, fun c hc => ?_⟩
  · obtain hp | hl | hc := (Pkt.fails_eq_true_iff _).1 hf
    · exact Bool.false_ne_true hp
    · exact hl hlen.symm
    · exact hc (e2eCrc_hopptr ..).symm
  · exact (Pkt.fails_eq_true_iff _).2 (.inl rfl)
  · exact (Pkt.fails_eq_true_iff _).2 (.inr (.inl (hlen.symm ▸ hvs)))
  · exact (Pkt.fails_eq_true_iff _).2 (.inr (.inr hc))

end Sys2Proof.Machine
end

section
/-!
PROOFS. What the operations on a station read and leave alone (R40, R52, R57, R296, R309).
-/
namespace Sys2Proof.Machine

/-! ### A station's structures -/

section
variable (x : StnSt) (i v : Nat)

@[simp] theorem StnSt.port_modPort_same (f : PortSt → PortSt) : (x.modPort i f).port i = f (x.port i) := tget_tset_same ..
theorem StnSt.port_modPort_ne (f : PortSt → PortSt) {j : Nat} (h : j ≠ i) : (x.modPort i f).port j = x.port j :=
  tget_tset_ne _ _ _ h
@[simp] theorem StnSt.port_setVc (b : InVc) (j : Nat) : (x.setVc i v b).port j = x.port j := rfl
@[simp] theorem StnSt.port_setOvc (b : OutVc) (j : Nat) : (x.setOvc i v b).port j = x.port j := rfl
@[simp] theorem StnSt.vc_setVc_same (b : InVc) : (x.setVc i v b).vc i v = b := tget_tset_same ..
@[simp] theorem StnSt.vc_setOvc (b : OutVc) (j w : Nat) : (x.setOvc i v b).vc j w = x.vc j w := rfl
@[simp] theorem StnSt.vc_modPort (f : PortSt → PortSt) (j w : Nat) : (x.modPort i f).vc j w = x.vc j w := rfl
@[simp] theorem StnSt.ovc_setOvc_same (b : OutVc) : (x.setOvc i v b).ovc i v = b := tget_tset_same ..
@[simp] theorem StnSt.ovc_modPort (f : PortSt → PortSt) (j w : Nat) : (x.modPort i f).ovc j w = x.ovc j w := rfl

end

@[simp] theorem State.stn_modStn_same (s : State) (i : Nat) (f : StnSt → StnSt) : (s.modStn i f).stn i = f (s.stn i) :=
  State.stn_setStn_same ..
theorem State.stn_modStn_ne (s : State) {i j : Nat} (f : StnSt → StnSt) (h : j ≠ i) : (s.modStn i f).stn j = s.stn j :=
  State.stn_setStn_ne _ _ h

@[simp] theorem State.rd_modStn (s : State) (i : Nat) (f : StnSt → StnSt) (a : Nat) : (s.modStn i f).rd a = s.rd a := rfl

theorem State.stn_of_stns {s t : State} (h : t.stns = s.stns) (j : Nat) : t.stn j = s.stn j := by
  rw [State.stn, h, State.stn]

/-! ### Counts, causes and events -/

namespace State.EventsOnly
variable {s t : State}

theorem stns (h : s.EventsOnly t) : t.stns = s.stns := congrArg (·.stns) h.rest
theorem datum (h : s.EventsOnly t) : t.datum = s.datum := congrArg (·.datum) h.rest
theorem stn (h : s.EventsOnly t) (j : Nat) : t.stn j = s.stn j := State.stn_of_stns h.stns j

end State.EventsOnly

section
variable (s : State)

theorem State.sat_eventsOnly {a : Nat} (f : Fld) (n : Nat) (ha : 0x30000 ≤ a) : s.EventsOnly (s.sat a f n) :=
  s.setFld_eventsOnly f _ ha

theorem State.scnt_eventsOnly (st j n : Nat) : s.EventsOnly (s.scnt st j n) :=
  s.cnt_eventsOnly n (by show 0x30000 ≤ 0x100000 + st * 0x10000 + 0x4000 + j * 0x8; omega)

theorem State.deccDueCount_eventsOnly (st i : Nat) : s.EventsOnly (s.deccDueCount st i) :=
  (State.EventsOnly.ite (s.sat_eventsOnly _ _ (by show 0x30000 ≤ 0x100000 + st * 0x10000 + 0x3a0 + i * 0x8; omega))
    (.refl s)).trans (State.scnt_eventsOnly ..)

/-- What an absorption counts (R65, R84). -/
theorem State.absorbCount_eventsOnly (st : Nat) (fate : HeadFate) : s.EventsOnly (s.absorbCount st fate) := by
  have h (off : Nat) (f : Fld) (b : Nat) :
      s.EventsOnly (((s.sat (0x100000 + st * 0x10000 + off) f).stnCause st b).scnt st 31) :=
    ((s.sat_eventsOnly f 1 (by omega)).trans (State.stnCause_eventsOnly ..)).trans (State.scnt_eventsOnly ..)
  cases fate with
  | bad c => exact h 0x500 _ _
  | go _ _ => exact h 0x608 _ _
  | hold => exact h 0x608 _ _
  | stray => exact h 0x608 _ _

theorem State.rd_cnt_ne {a b : Nat} (n : Nat) (h : b ≠ a) : (s.cnt a n).rd b = s.rd b := by
  unfold State.cnt
  extract_lets x last edge add c sat u
  have hu : u.rd b = s.rd b := by
    unfold u
    split
    · rfl
    · exact State.rd_wr_ne s _ h
  split
  · rfl
  · exact hu

@[simp] theorem State.scnt_stns (st j n : Nat) : (s.scnt st j n).stns = s.stns := (s.scnt_eventsOnly st j n).stns

@[simp] theorem State.stn_scnt (st j n k : Nat) : (s.scnt st j n).stn k = s.stn k := (s.scnt_eventsOnly st j n).stn k

/-- An event changes no register of a station's block. -/
theorem State.rd_setPending {i a : Nat} (hi : i < 0x10000) (ha : 0x100000 ≤ a) : (s.setPending i).1.rd a = s.rd a := by
  have hpend : a ≠ A.EVT_PEND (i / 64) := by show a ≠ 0x30100 + i / 64 * 0x8; omega
  have hstat (t : State) (f : Fld) (v : Nat) : (t.setFld A.EVT_STATUS f v).rd a = t.rd a :=
    t.rd_setFld_ne f v (by show a ≠ 0x30000; omega)
  have hset : ((s.setPend i true).gcnt 13).rd a = s.rd a :=
    (State.rd_cnt_ne _ _ (by show a ≠ 0x40168; omega)).trans (s.rd_setFld_ne _ _ hpend)
  unfold State.setPending
  split
  · exact hstat ..
  · dsimp only
    split
    · split
      · exact (hstat ..).trans hset
      · exact (hstat ..).trans hset
    · exact hset

theorem State.rd_raise {i a : Nat} (hi : i < 0x10000) (ha : 0x100000 ≤ a) : (s.raise i).rd a = s.rd a := by
  have h := s.rd_setPending hi ha
  unfold State.raise
  split
  · split
    · next e => rwa [e] at h
    · next e =>
      rw [e] at h
      split
      · exact (State.rd_setPending _ (by decide) ha).trans h
      · exact h
  · rfl

theorem State.rd_seeRise (t : State) {i a : Nat} (hi : i < 0x10000) (ha : 0x100000 ≤ a) :
    (s.seeRise t i).rd a = t.rd a := by
  unfold State.seeRise
  split
  · exact t.rd_raise hi ha
  · rfl

/-- A cause of a station leaves the other registers of the station alone. -/
theorem State.rd_stnCause {st a : Nat} (b : Nat) (hst : st < 36) (ha : 0x100000 ≤ a) (hne : a ≠ A.STN_EVT_CAUSE st) :
    (s.stnCause st b).rd a = s.rd a :=
  ((State.rd_seeRise _ _ (by omega) ha).trans (State.rd_seeRise _ _ (by omega) ha)).trans (s.rd_setFld_ne _ _ hne)

end

/-! ### The credits of an output (R53) -/

/-- No output of a station holds more credits than a field of STN_VC_CRED can show. -/
theorem credDepth_le (o v : Nat) : credDepth o v ≤ 8 := by
  unfold credDepth depth
  split_ifs <;> omega

theorem State.creds_congr {s t : State} {st o : Nat} (h : t.rd (A.STN_VC_CRED st o) = s.rd (A.STN_VC_CRED st o)) (v : Nat) :
    t.creds st o v = s.creds st o v := by
  rw [State.creds, State.fld, h]
  rfl

theorem State.creds_credit (s : State) (st o : Nat) {v : Nat} (hv : v < 7) :
    (s.credit st o v).creds st o v = min (s.creds st o v + 1) (credDepth o v) := by
  have hd := credDepth_le o v
  unfold State.creds State.credit
  dsimp only
  rw [State.fld_setFld_same _ _ _ _ (by dsimp only; omega), Nat.mod_eq_of_lt (by dsimp only; omega)]

/-! ### Link errors (R40 to R42, R359) -/

section
variable (s : State) (st i : Nat)

theorem State.rd_lockLost (lane : Nat) {a : Nat} (h : a ≠ A.END_LANE st i) : (s.lockLost st i lane).rd a = s.rd a :=
  (State.rd_setFld_ne _ _ _ h).trans (State.rd_modStn ..)

/-- The failure of a lane touches the lane registers of its port only. -/
theorem State.rd_laneFail (lane : Nat) (hard : Bool) {a : Nat} (h : a ≠ A.END_LANE st i)
    (ht : a ≠ A.END_LANE_TROUBLE st i) : (s.laneFail st i lane hard).rd a = s.rd a := by
  unfold State.laneFail
  extract_lets known
  split
  · rfl
  · split
    · split
      · exact s.rd_lockLost st i lane h
      · rfl
    · next t u _ _ _ =>
      have ht : t.rd a = s.rd a := s.rd_setFld_ne _ _ ht
      have hu : u.rd a = t.rd a := by
        unfold u
        split
        · exact t.rd_lockLost st i lane h
        · exact t.rd_setFld_ne _ _ h
      exact hu.trans ht

/-- So does a corrected error. -/
theorem State.rd_laneSbe (lane : Nat) {a : Nat} (h : a ≠ A.END_LANE st i) (ht : a ≠ A.END_LANE_TROUBLE st i) :
    (s.laneSbe st i lane).rd a = s.rd a := by
  unfold State.laneSbe
  split
  · rfl
  · extract_lets c t b u
    have hu : u.rd a = s.rd a := (t.rd_setFld_ne _ _ h).trans (State.rd_modStn ..)
    split
    · exact (u.rd_laneFail st i lane false h ht).trans hu
    · exact hu

/-- The registers in which link errors, lanes and counts stand are not those of the credits. -/
theorem vcCred_ne_errRegs {i : Nat} (st : Nat) (hi : i < 12) : A.STN_VC_CRED st i ≠ A.END_LANE st i ∧
    A.STN_VC_CRED st i ≠ A.END_LANE_TROUBLE st i ∧ (i < 6 → A.STN_VC_CRED st i ≠ A.STN_LINK_ERR st i) ∧
    ∀ j, A.STN_VC_CRED st i ≠ A.STN_CNT st j := by
  dsimp only [A.STN_VC_CRED, A.END_LANE, A.END_LANE_TROUBLE, A.STN_LINK_ERR, A.STN_CNT]
  exact ⟨by omega, by omega, fun _ => by omega, fun _ => by omega⟩

theorem State.rd_corrected_VC_CRED (b : Nat) (hi : i < 12) :
    (s.corrected st i b).rd (A.STN_VC_CRED st i) = s.rd (A.STN_VC_CRED st i) := by
  obtain ⟨hlane, htrouble, herr, hcnt⟩ := vcCred_ne_errRegs st hi
  unfold State.corrected
  dsimp only
  split
  · next h6 =>
    rw [State.rd_laneSbe _ _ _ _ hlane htrouble]
    exact (State.rd_cnt_ne _ _ (hcnt 32)).trans (s.rd_setFld_ne _ _ (herr h6))
  · exact s.rd_cnt_ne _ (hcnt 32)

theorem State.rd_deccDueCount_VC_CRED (hi : i < 12) :
    (s.deccDueCount st i).rd (A.STN_VC_CRED st i) = s.rd (A.STN_VC_CRED st i) := by
  obtain ⟨-, -, herr, hcnt⟩ := vcCred_ne_errRegs st hi
  refine (State.rd_cnt_ne _ _ (hcnt 33)).trans ?_
  split
  · next h6 => exact s.rd_setFld_ne _ _ (herr h6)
  · rfl

/-- The errors of an IDLE leave the credits alone. -/
theorem State.rd_idleErr_VC_CRED {e : LinkErr} (he : e ≠ .ceccDue) (hi : i < 12) :
    (s.idleErr st i e).rd (A.STN_VC_CRED st i) = s.rd (A.STN_VC_CRED st i) := by
  cases e with
  | none => rfl
  | sbe b => exact s.rd_corrected_VC_CRED st i b.val hi
  | deccDue _ _ => exact s.rd_deccDueCount_VC_CRED st i hi
  | ceccDue => exact absurd rfl he

/-- A network input that has lost a flit to its sideband asks for a RESYNC. -/
theorem State.syncWanted_ceccDue (hi : i < 6) : (((s.ceccDue st i).stn st).port i).syncWanted = true := by
  unfold State.ceccDue
  dsimp only
  rw [if_pos hi, if_pos hi, State.stn_modStn_same, StnSt.port_modPort_same]

end

end Sys2Proof.Machine
end

section
/-!
PROOFS. What a station does with the front of a link, and BW (R40 to R42, R53, R55, R56, R62, R84, R361).
-/
namespace Sys2Proof.Machine

/-! ### A flit taken off the link -/

section
variable (s : State) (st i : Nat) (w : Wire)

@[simp] theorem State.takeCret_stns : (s.takeCret st i w).stns = s.stns := by
  unfold State.takeCret
  split <;> rfl

/-- A flit that is taken leaves the window of forced errors as it was. -/
theorem State.hardWin_taken :
    ((((s.popWire st i).takeCret st i w).stn st).port i).hardWin = ((s.stn st).port i).hardWin := by
  rw [State.stn_of_stns (State.takeCret_stns ..), State.popWire, State.stn_modStn_same, StnSt.port_modPort_same]

/-- The credit that a flit returns is held, whatever the errors of an IDLE (R53). -/
theorem State.creds_idleTaken {i : Nat} (hi : i < 12) {e : LinkErr} (he : e ≠ .ceccDue) {v : Nat} (hv : v < 7)
    (hw : w.cret = some v) : (((s.popWire st i).takeCret st i w).idleErr st i e).creds st i v =
      min (s.creds st i v + 1) (credDepth i v) := by
  rw [State.creds_congr (State.rd_idleErr_VC_CRED _ st i he hi), State.takeCret, hw]
  exact State.creds_credit _ _ _ hv

variable (e : LinkErr) (p : BitVec 256) (x : BitVec 36)

/-- Outside a HARD window a flit carries the errors that its codes tell. -/
theorem State.forcedErr_told (h : 6 ≤ i ∨ ((s.stn st).port i).hardWin = false) : s.forcedErr st i e p x = (s, e) := by
  refine if_neg ?_
  rw [Bool.and_eq_true, decide_eq_true_eq]
  rintro ⟨hi, hh⟩
  obtain h | h := h
  · omega
  · exact Bool.false_ne_true (h.symm.trans hh)

/-- In it every flit counts as uncorrectable (R361). -/
theorem State.forcedErr_hard (hi : i < 6) (h : ((s.stn st).port i).hardWin = true) : s.forcedErr st i e p x =
    (s.sat (A.END_LANE_TROUBLE st i) F.END_LANE_TROUBLE_FORCED, .deccDue p x) :=
  if_pos (by rw [h, decide_eq_true hi]; rfl)

end

/-! ### LINK_FLIT_RECEIVE -/

section
variable {st : Fin 36} {i : Fin 12} {e : LinkErr} {s : State} {w : Wire} {f : Flit}
  (hr : s.receives st.val = true) (hu : s.rxUp st.val i.val = true) (hf : s.rxFree st.val i.val = true)
include hr hu hf

/-- Where nothing else has arrived the errors of an IDLE are counted. -/
theorem execLinkFlitReceive_empty (h : s.front st.val i.val = none) :
    exec (.linkFlitReceive st i e) s = .next (if e = .none then s else
      (s.modStn st.val (fun x => x.modPort i.val (fun q => { q with rxAt := s.datum + 1 }))).idleErr st.val i.val e) := by
  show execLinkFlitReceive st i e s = _
  unfold execLinkFlitReceive
  dsimp only
  rw [hr, hu, hf, if_neg (by decide), h]
  dsimp only
  split <;> rfl

theorem execLinkFlitReceive_idle (h : s.front st.val i.val = some w) (hc : w.content = .idle) :
    exec (.linkFlitReceive st i e) s = .next ((if e = .ceccDue then s.popWire st.val i.val
      else (s.popWire st.val i.val).takeCret st.val i.val w).idleErr st.val i.val e) := by
  show execLinkFlitReceive st i e s = _
  unfold execLinkFlitReceive
  dsimp only
  rw [hr, hu, hf, if_neg (by decide), h]
  dsimp only
  rw [hc]

/-- A best-effort flit is lost to its sideband, or waits for room, or is taken with what its codes tell. -/
theorem execLinkFlitReceive_be (h : s.front st.val i.val = some w) (hc : w.content = .be f) :
    exec (.linkFlitReceive st i e) s = .next (if e = .ceccDue then (s.popWire st.val i.val).ceccDue st.val i.val
      else if s.room st.val i.val f = false then s
      else
        let t := ((s.popWire st.val i.val).takeCret st.val i.val w).forcedErr st.val i.val e f.payload (f.rsv ++ f.e2e)
        t.1.beErr st.val i.val f t.2) := by
  show execLinkFlitReceive st i e s = _
  unfold execLinkFlitReceive
  dsimp only
  rw [hr, hu, hf, if_neg (by decide), h]
  dsimp only
  rw [hc]
  dsimp only
  simp only [Bool.not_eq_true']
  split
  · rfl
  · split <;> rfl

/-- A best-effort flit with room is written by BW with what its codes tell. -/
theorem execLinkFlitReceive_taken (h : s.front st.val i.val = some w) (hc : w.content = .be f) (he : e ≠ .ceccDue)
    (hroom : s.room st.val i.val f = true) :
    let u := (s.popWire st.val i.val).takeCret st.val i.val w
    (6 ≤ i.val ∨ ((s.stn st.val).port i.val).hardWin = false →
      exec (.linkFlitReceive st i e) s = .next (u.beErr st.val i.val f e)) ∧
    (i.val < 6 → ((s.stn st.val).port i.val).hardWin = true → exec (.linkFlitReceive st i e) s =
      .next ((u.sat (A.END_LANE_TROUBLE st.val i.val) F.END_LANE_TROUBLE_FORCED).dueFlit st.val i.val f f.payload
        (f.rsv ++ f.e2e))) := by
  dsimp only
  rw [execLinkFlitReceive_be hr hu hf h hc, if_neg he, if_neg (by rw [hroom]; decide), ← s.hardWin_taken st.val i.val w]
  refine ⟨fun hsoft => ?_, fun hi hhard => ?_⟩
  · rw [State.forcedErr_told _ _ _ _ _ _ hsoft]
  · rw [State.forcedErr_hard _ _ _ _ _ _ hi hhard]
    rfl

end

/-! ### G_FLIT_ARRIVE -/

section
variable {st : Fin 36} {i : Fin 12} {e : LinkErr} {s : State} {g : GFlit} {c : Option Nat}
  (h : s.front st.val i.val = some ⟨.g g, c⟩) (hf : s.rxFree st.val i.val = true)
include h hf

theorem execGFlitArrive_lost (he : e = .ceccDue) :
    exec (.gFlitArrive st i e) s = .next ((s.popWire st.val i.val).ceccDue st.val i.val) := by
  show execGFlitArrive st i e s = _
  unfold execGFlitArrive
  dsimp only
  rw [h]
  dsimp only
  rw [hf, if_neg (by decide), if_pos he]

/-- A G flit passes to its launch unbuffered, every error counted (R40, R92). -/
theorem execGFlitArrive_passes (he : e ≠ .ceccDue) (hs : 6 ≤ i.val ∨ ((s.stn st.val).port i.val).hardWin = false) :
    exec (.gFlitArrive st i e) s = .next ((((s.popWire st.val i.val).takeCret st.val i.val ⟨.g g, c⟩).gChecked
      st.val i.val (g.after e) e).gLaunch st.val i.val (g.after e)) := by
  rw [← s.hardWin_taken st.val i.val ⟨.g g, c⟩] at hs
  show execGFlitArrive st i e s = _
  unfold execGFlitArrive
  dsimp only
  rw [h]
  dsimp only
  rw [hf, if_neg (by decide), if_neg he, State.forcedErr_told _ _ _ _ _ _ hs]

end

/-! ### A packet that a lost TAIL left open (R42) -/

section
variable (x : StnSt) (i v now : Nat)

theorem StnSt.port_endCut (j : Nat) : (x.endCut i v now).port j = x.port j := by
  unfold StnSt.endCut
  extract_lets b
  split <;> rfl

/-- It is ended by a poisoned TAIL. -/
theorem StnSt.buf_endCut (ho : (x.vc i v).opened = true) (ha : (x.vc i v).absorb = none) :
    ((x.endCut i v now).vc i v).buf =
      (x.vc i v).buf ++ [{ f := { ft := .tail, vc := v, poison := true, payload := 0 }, bw := now }] := by
  unfold StnSt.endCut
  dsimp only
  rw [if_pos ho, StnSt.vc_setVc_same, ha]
  rfl

theorem StnSt.absorb_endCut (ha : (x.vc i v).absorb = none) : ((x.endCut i v now).vc i v).absorb = none := by
  unfold StnSt.endCut
  dsimp only
  split
  · rw [StnSt.vc_setVc_same]
    split
    · rfl
    · exact ha
  · exact ha

end

/-! ### BW (R55) -/

section
variable {s : State} {st i : Nat} {f : Flit}

/-- A body or tail flit, by what has become of its packet. -/
theorem State.bwFlit_body (hh : f.isHead = false) :
    (∀ h, ((s.stn st).vc i f.vc).absorb = some h → s.bwFlit st i f = s.sinkFlit st i f.vc h f.isTail) ∧
    (((s.stn st).vc i f.vc).absorb = none → ((s.stn st).vc i f.vc).opened = true →
      s.bwFlit st i f = s.bufWrite st i f.vc { f := f, bw := s.datum }) ∧
    (((s.stn st).vc i f.vc).absorb = none → ((s.stn st).vc i f.vc).opened = false →
      s.bwFlit st i f = s.oweCredit st i f.vc) := by
  unfold State.bwFlit
  dsimp only
  rw [hh, if_neg Bool.false_ne_true]
  refine ⟨fun h ha => by rw [ha], fun ha ho => by rw [ha, ho]; rfl, fun ha ho => by rw [ha, ho]; rfl⟩

/-- The state in which a head is judged: an open packet ended, the head examined and counted. -/
def State.headMet (s : State) (st i : Nat) (f : Flit) : State :=
  ((s.modStn st (fun x => x.endCut i f.vc s.datum)).probeStn st i f.vc (Hdr.ofBits f.payload)).scnt st 29

/-- A head of the current traverse is judged by R62 (R84). -/
theorem State.headFate_cur {v : Nat} {h : Hdr} (ht : h.trav.toNat = s.fld (A.STN_TRAV_CTL st) F.STN_TRAV_CTL_CUR) :
    (s.routeCase st i v h = 0 → s.headFate st i v h =
      .go (hopOf h.route h.hopptr.toNat) (outVcOf st i v (hopOf h.route h.hopptr.toNat))) ∧
    (∀ c, s.routeCase st i v h = c + 1 → s.headFate st i v h = .bad (c + 1)) := by
  have hroute : s.headFate st i v h = s.routeFate st i v h := if_pos ht
  rw [hroute, State.routeFate]
  exact ⟨fun hc => by rw [hc]; rfl, fun c hc => by rw [hc]; rfl⟩

/-- A head of the current traverse joins its buffer, or is absorbed. -/
theorem State.bwFlit_head (hh : f.isHead = true)
    (ha : (((s.modStn st (fun x => x.endCut i f.vc s.datum)).stn st).vc i f.vc).absorb = none)
    (ht : (Hdr.ofBits f.payload).trav.toNat = (s.headMet st i f).fld (A.STN_TRAV_CTL st) F.STN_TRAV_CTL_CUR) :
    let h := Hdr.ofBits f.payload
    let u := s.headMet st i f
    (u.routeCase st i f.vc h = 0 → s.bwFlit st i f = u.bufWrite st i f.vc
      { f := f, bw := u.datum, out := hopOf h.route h.hopptr.toNat
        ovc := outVcOf st i f.vc (hopOf h.route h.hopptr.toNat) }) ∧
    (∀ c, u.routeCase st i f.vc h = c + 1 → s.bwFlit st i f =
      ((u.absorbCount st (.bad (c + 1))).hopRecord st i f.vc 15 0 (u.nowOf (stnBlk st)) h).sinkFlit st i f.vc (some h)
        f.isTail) := by
  obtain ⟨hgo, hbad⟩ := State.headFate_cur (i := i) (v := f.vc) ht
  unfold State.headMet at *
  unfold State.bwFlit
  dsimp only
  rw [hh, if_pos rfl, ha]
  dsimp only
  rw [if_neg (by decide)]
  exact ⟨fun hc => by rw [hgo hc], fun c hc => by rw [hbad c hc]⟩

/-- A body or tail flit whose payload is lost goes on poisoned, with the bits as received (R41). -/
theorem State.dueFlit_body (hh : f.isHead = false) (p : BitVec 256) (x : BitVec 36) :
    s.dueFlit st i f p x = ((s.deccDueCount st i).stnCause st 2).bwFlit st i
      { f with poison := true, payload := p, e2e := x.extractLsb' 0 32, rsv := x.extractLsb' 32 4 } := by
  unfold State.dueFlit
  dsimp only
  rw [hh, if_neg Bool.false_ne_true]

/-- The counting of a lost payload leaves the buffers alone. -/
theorem State.dueCounted_eventsOnly (s : State) (st i : Nat) : s.EventsOnly ((s.deccDueCount st i).stnCause st 2) :=
  (s.deccDueCount_eventsOnly st i).trans (State.stnCause_eventsOnly ..)

/-- A head whose payload is lost is absorbed without an answer (R41). -/
theorem State.dueFlit_head (hh : f.isHead = true) (ha : ((s.stn st).vc i f.vc).absorb = none) (p : BitVec 256)
    (x : BitVec 36) :
    s.dueFlit st i f p x = ((((((s.deccDueCount st i).stnCause st 2).modStn st (fun z => z.endCut i f.vc
      ((s.deccDueCount st i).stnCause st 2).datum)).sat (A.STN_ROUTE_ERR st) F.STN_ROUTE_ERR_HDR_DUE).stnCause st 3).scnt
        st 31).sinkFlit st i f.vc none f.isTail := by
  rw [← (s.dueCounted_eventsOnly st i).stn st] at ha
  unfold State.dueFlit
  dsimp only
  rw [hh, if_pos rfl, State.stn_modStn_same, StnSt.absorb_endCut _ _ _ _ ha]

end

/-- Settles O28: each command by its own equations, BW by those of a body flit, of a head and of a lost payload. -/
theorem stationReceivesAndWritesBuffers : Obligations.StationReceivesAndWritesBuffers := by
  refine ⟨⟨?_, ?_⟩, ?_⟩
  · intro st i e s hr hu hf
    refine ⟨execLinkFlitReceive_empty hr hu hf, fun w hw =>
      ⟨fun hc he => ?_, fun hc he => ?_, fun f hc he => ⟨?_, ?_⟩⟩⟩
    · refine ⟨_, (execLinkFlitReceive_idle hr hu hf hw hc).trans (by rw [if_neg he]), rfl, fun v hv hcret => ?_⟩
      exact s.creds_idleTaken st.val w i.isLt he hv hcret
    · subst he
      refine ⟨_, ?_, rfl, State.syncWanted_ceccDue _ _ _⟩
      obtain hc | ⟨f, hc⟩ := hc
      · exact execLinkFlitReceive_idle hr hu hf hw hc
      · exact execLinkFlitReceive_be hr hu hf hw hc
    · intro hroom
      rw [execLinkFlitReceive_be hr hu hf hw hc, if_neg he, if_pos hroom]
    · intro hroom
      obtain ⟨hsoft, hhard⟩ := execLinkFlitReceive_taken hr hu hf hw hc he hroom
      refine ⟨fun h => ?_, hhard⟩
      have htaken := hsoft h
      refine ⟨?_, fun n => ?_, fun p x => ?_⟩ <;> rintro rfl <;> exact htaken
  · intro st i e s g c hg hf
    exact ⟨execGFlitArrive_lost hg hf, fun he hs => ⟨_, rfl, execGFlitArrive_passes hg hf he hs⟩⟩
  · intro st i f s
    refine ⟨fun hh => ?_, fun hh => ⟨fun ho ha => ?_, fun ha ht => ?_⟩, fun p x hh => ?_, fun p x hh ha => ?_⟩
    · obtain ⟨hsink, hjoin, howe⟩ := State.bwFlit_body (s := s) (st := st.val) (i := i.val) hh
      refine ⟨hsink, fun ha ho => ?_, howe⟩
      rw [hjoin ha ho]
      refine ⟨?_, rfl, fun j hj => State.stn_modStn_ne _ _ hj⟩
      rw [State.bufWrite, State.stn_modStn_same, StnSt.vc_setVc_same]
    · rw [State.stn_modStn_same]
      exact StnSt.buf_endCut _ _ _ _ ho ha
    · obtain ⟨hgo, hbad⟩ := State.bwFlit_head hh ha ht
      refine ⟨hgo, fun c hc => (hbad c hc).trans ?_⟩
      rw [← (State.absorbCount_eventsOnly _ st.val (.bad (c + 1))).nowOf (stnBlk st.val)]
      rfl
    · exact ⟨_, (s.dueCounted_eventsOnly st.val i.val).stns, State.dueFlit_body hh p x⟩
    · exact ⟨_, rfl, State.dueFlit_head hh ha p x⟩

end Sys2Proof.Machine
end

section
/-!
PROOFS. VA, SA and the credit returns of a station (R53 to R59, R61, R93).
-/
namespace Sys2Proof.Machine

/-! ### Round robin -/

/-- Round robin takes the first element at the least distance after the last winner. -/
theorem rrPick_eq_argmin {α : Type} (key : α → Nat) (n last : Nat) (xs : List α) :
    rrPick key n last xs = xs.argmin (fun x => (key x + n - 1 - last) % n) := by
  unfold rrPick List.argmin
  congr 1
  funext best x
  cases best <;> rfl

/-! ### VA (R54, R57, R58, R61) -/

theorem foldl_min_le {l : List Nat} : ∀ {a : Nat}, l.foldl min a ≤ a ∧ ∀ x ∈ l, l.foldl min a ≤ x := by
  induction l with
  | nil => exact ⟨le_rfl, fun _ h => absurd h List.not_mem_nil⟩
  | cons y l ih =>
    intro a
    obtain ⟨ha, hl⟩ := ih (a := min a y)
    rw [List.foldl_cons]
    refine ⟨ha.trans (min_le_left _ _), fun x hx => ?_⟩
    obtain rfl | hx := List.mem_cons.1 hx
    · exact ha.trans (min_le_right _ _)
    · exact hl x hx

/-- R58: the winner is a candidate of the best class level, and among those the first in round robin. -/
theorem vaPick_spec {last : Nat} {cs : List (Nat × Nat × Nat × Nat)} {x : Nat × Nat × Nat × Nat}
    (h : vaPick last cs = some x) : x ∈ cs ∧ (∀ y ∈ cs, classLevel x.2.2.1 ≤ classLevel y.2.2.1) ∧
      ∀ y ∈ cs, classLevel y.2.2.1 = classLevel x.2.2.1 → (x.1 + 11 - last) % 12 ≤ (y.1 + 11 - last) % 12 := by
  unfold vaPick at h
  rw [rrPick_eq_argmin] at h
  obtain ⟨hx, hlv⟩ := List.mem_filter.1 (List.argmin_mem h)
  rw [decide_eq_true_eq] at hlv
  refine ⟨hx, fun y hy => ?_, fun y hy hyx => ?_⟩
  · rw [hlv]
    exact foldl_min_le.2 _ (List.mem_map_of_mem hy)
  · exact List.le_of_mem_argmin (List.mem_filter.2 ⟨hy, decide_eq_true (hyx.trans hlv)⟩) h

section
variable {st : Fin 36} {o : Fin 12} {s : State} (ha : s.awake st.val = true)
include ha

/-- An output allocates once a cycle. -/
theorem execVcAllocate_done (h : s.datum < ((s.stn st.val).port o.val).vaAt) : exec (.vcAllocate st o) s = .next s := by
  show execVcAllocate st o s = _
  unfold execVcAllocate
  dsimp only
  rw [ha, decide_eq_true h]
  rfl

/-- Without a candidate nothing is granted. -/
theorem execVcAllocate_none (h : ((s.stn st.val).port o.val).vaAt ≤ s.datum)
    (hp : vaPick ((s.stn st.val).port o.val).lastVa (s.vaCands st.val o.val) = none) :
    exec (.vcAllocate st o) s = .next ((s.modStn st.val (fun x => x.modPort o.val (fun q =>
      { q with vaAt := s.datum + 1 }))).scnt st.val 25 (s.vaWants st.val o.val).length) := by
  show execVcAllocate st o s = _
  unfold execVcAllocate
  dsimp only
  rw [ha, decide_eq_false (not_lt.2 h), if_neg (by decide), hp]

/-- The winner is granted the output VC it asked for; its head stands in the output's switch allocation where the grant is
parked (R61). -/
theorem execVcAllocate_grants (h : ((s.stn st.val).port o.val).vaAt ≤ s.datum) {i v c w : Nat}
    (hp : vaPick ((s.stn st.val).port o.val).lastVa (s.vaCands st.val o.val) = some (i, v, c, w)) :
    let wants := s.vaWants st.val o.val
    let u (parked : Bool) : State := ((s.modStn st.val (fun x => x.modPort o.val (fun q =>
      { q with vaAt := s.datum + 1 }))).grantVc st.val o.val i v c w parked).scnt st.val 25 (wants.length - 1)
    exec (.vcAllocate st o) s = .next (if i = ((s.stn st.val).port o.val).lastVa ∧ ∀ y ∈ wants, y.1 = i
      then ((u true).scnt st.val 26).saRun st.val o.val else u false) := by
  show execVcAllocate st o s = _
  unfold execVcAllocate
  dsimp only
  rw [ha, decide_eq_false (not_lt.2 h), if_neg (by decide), hp]
  dsimp only
  split
  · next hpark => rw [if_pos (by simpa using hpark), hpark]
  · next hpark => rw [if_neg (by simpa using hpark), Bool.eq_false_iff.2 hpark]

end

/-- A grant: the packet holds its output VC, and the output remembers whose head won (R57, R58). -/
theorem State.grantVc_grants (s : State) (st o i v c w : Nat) (parked : Bool) :
    let t := s.grantVc st o i v c w parked
    ((t.stn st).vc i v).grant = some (o, w) ∧ ((t.stn st).ovc o w).holder = some (i, v) ∧
    ((t.stn st).port o).lastVa = i ∧ ((t.stn st).port o).vaAt = ((s.stn st).port o).vaAt := by
  dsimp only
  unfold State.grantVc
  simp

/-! ### SA (R55, R56, R59, R93) -/

section
variable {st o : Nat} {s : State}

/-- SA of an output, by whether it is free and by what is picked. -/
theorem State.saRun_busy (h : s.beFree st o = false) : s.saRun st o = s := by
  unfold State.saRun
  rw [h]
  rfl

theorem State.saRun_free (h : s.beFree st o = true) :
    let pick := saPick (fun c => s.fld (A.STN_CLASS_WEIGHT st) ⟨8 * c, 8⟩) ((s.stn st).port o) (s.readyClasses st o)
      (s.saCands st o)
    (∀ w c i v q, pick = some ((w, c, i, v), q) → s.saRun st o =
      (s.modStn st (fun y => y.setPort o { q with saAt := s.datum + 1 })).sendFront st i v o w) ∧
    (pick = none → s.readyClasses st o ≠ [] → s.saRun st o = s) ∧
    (pick = none → s.readyClasses st o = [] → s.saRun st o =
      s.modStn st (fun y => y.modPort o (fun q => { q with drrDef := 0 }))) := by
  unfold State.saRun
  dsimp only
  rw [h, if_neg (by decide)]
  refine ⟨fun w c i v q hp => by rw [hp], fun hp hr => ?_, fun hp hr => ?_⟩
  · rw [hp]
    exact if_neg (by simpa using hr)
  · rw [hp, hr]
    rfl

end

theorem execSwitchAllocate_eq {st : Fin 36} (o : Fin 12) {s : State} (ha : s.awake st.val = true) :
    exec (.switchAllocate st o) s =
      .next (((List.range 7).foldl (fun s v => s.dropCut st.val o.val v) s).saRun st.val o.val) := by
  show execSwitchAllocate st o s = _
  unfold execSwitchAllocate
  dsimp only
  rw [ha]
  rfl

/-! ### The winner at SA (R59) -/

/-- The winner of a class is a candidate of that class. -/
theorem vcTurn_mem {q : PortSt} {cs : List (Nat × Nat × Nat × Nat)} {k : Nat} {x : Nat × Nat × Nat × Nat}
    (h : vcTurn q cs k = some x) : x ∈ cs ∧ x.2.1 = k := by
  rw [vcTurn, rrPick_eq_argmin] at h
  obtain ⟨hx, hk⟩ := List.mem_filter.1 (List.argmin_mem h)
  exact ⟨hx, by simpa using hk⟩

/-- A class has no winner only where it has no candidate. -/
theorem vcTurn_none {q : PortSt} {cs : List (Nat × Nat × Nat × Nat)} {k : Nat} (h : vcTurn q cs k = none) :
    ∀ y ∈ cs, y.2.1 ≠ k := by
  rw [vcTurn, rrPick_eq_argmin, List.argmin_eq_none] at h
  intro y hy
  simpa using List.filter_eq_nil_iff.1 h y hy

/-- The deficit round robin goes on with a class that has deficit left, or turns to one of the classes 0 to 5. -/
theorem drrPick_lt {wgt : Nat → Nat} {cls d k d' : Nat} {ready : List Nat} (h : drrPick wgt cls d ready = some (k, d')) :
    d ≠ 0 ∨ k < 6 := by
  unfold drrPick at h
  split at h
  · next hd => exact .inl (of_decide_eq_true (Bool.and_eq_true_iff.1 hd).1)
  · split at h
    · injection h with h
      injection h with hk
      exact .inr (hk ▸ Nat.mod_lt _ (by decide))
    · contradiction

/-- What SA picks: a candidate of class 7; without one a candidate of class 6; without either one of a class that the
deficit round robin names. -/
theorem saPick_cases {wgt : Nat → Nat} {q q' : PortSt} {ready : List Nat} {cs : List (Nat × Nat × Nat × Nat)}
    {x : Nat × Nat × Nat × Nat} (h : saPick wgt q ready cs = some (x, q')) :
    let d := if ready.contains q.drrCls then q.drrDef else 0
    x ∈ cs ∧ ((x.2.1 = 7 ∧ q'.drrDef = d) ∨ (∀ y ∈ cs, y.2.1 ≠ 7) ∧ (x.2.1 = 6 ∧ q'.drrDef = d ∨
      (∀ y ∈ cs, y.2.1 ≠ 6) ∧ (d ≠ 0 ∨ x.2.1 < 6))) := by
  dsimp only
  unfold saPick at h
  dsimp only at h
  generalize hq : (if ready.contains q.drrCls then q else { q with drrDef := 0 }) = p at h
  have hd : (if ready.contains q.drrCls then q.drrDef else 0) = p.drrDef := by rw [← hq]; split <;> rfl
  rw [hd]
  split at h
  · next c hc =>
    obtain ⟨rfl, rfl⟩ : c = x ∧ { p with lastVc := c.1 } = q' := by simpa using h
    exact ⟨List.mem_of_find?_eq_some hc, .inl ⟨by simpa using List.find?_some hc, rfl⟩⟩
  · next hno7 =>
    have h7 : ∀ y ∈ cs, y.2.1 ≠ 7 := by simpa using hno7
    split at h
    · next c hc =>
      obtain ⟨rfl, rfl⟩ : c = x ∧ { p with lastVc := c.1 } = q' := by simpa using h
      obtain ⟨hmem, hcls⟩ := vcTurn_mem hc
      exact ⟨hmem, .inr ⟨h7, .inl ⟨hcls, rfl⟩⟩⟩
    · next hno6 =>
      have h6 := vcTurn_none hno6
      split at h
      · next hturn =>
        split at h
        · obtain ⟨c, hc, he⟩ := Option.map_eq_some_iff.1 h
          obtain ⟨rfl, -⟩ := Prod.mk.inj he
          exact ⟨(vcTurn_mem hc).1, .inr ⟨h7, .inr ⟨h6, .inl (of_decide_eq_true (Bool.and_eq_true_iff.1 hturn).1)⟩⟩⟩
        · contradiction
      · split at h
        · next hdrr =>
          obtain ⟨c, hc, he⟩ := Option.map_eq_some_iff.1 h
          obtain ⟨rfl, -⟩ := Prod.mk.inj he
          obtain ⟨hmem, hcls⟩ := vcTurn_mem hc
          exact ⟨hmem, .inr ⟨h7, .inr ⟨h6, hcls ▸ drrPick_lt hdrr⟩⟩⟩
        · contradiction

/-- R59, R93: class 7 goes before any other class and class 6 before the classes 0 to 5; the turn of a class that has no flit
ready ends. -/
theorem saPick_spec {wgt : Nat → Nat} {q q' : PortSt} {ready : List Nat} {cs : List (Nat × Nat × Nat × Nat)}
    {x : Nat × Nat × Nat × Nat} (h : saPick wgt q ready cs = some (x, q')) :
    x ∈ cs ∧ ((∃ y ∈ cs, y.2.1 = 7) → x.2.1 = 7) ∧ (q.drrCls ∉ ready → 6 ≤ x.2.1 → q'.drrDef = 0) ∧
      ((∀ y ∈ cs, y.2.1 ≠ 7) → (∃ y ∈ cs, y.2.1 = 6) → x.2.1 = 6) := by
  obtain ⟨hx, hcases⟩ := saPick_cases h
  have hd (hr : q.drrCls ∉ ready) : (if ready.contains q.drrCls then q.drrDef else 0) = 0 :=
    if_neg (by simpa using hr)
  refine ⟨hx, ?_, fun hr h6 => ?_, fun hn7 => ?_⟩
  · rintro ⟨y, hy, hy7⟩
    obtain ⟨hx7, -⟩ | ⟨hn7, -⟩ := hcases
    · exact hx7
    · exact absurd hy7 (hn7 y hy)
  · rw [hd hr] at hcases
    obtain ⟨-, hq⟩ | ⟨-, ⟨-, hq⟩ | ⟨-, hlt⟩⟩ := hcases
    · exact hq
    · exact hq
    · omega
  · rintro ⟨y, hy, hy6⟩
    obtain ⟨hx7, -⟩ | ⟨-, ⟨hx6, -⟩ | ⟨hn6, -⟩⟩ := hcases
    · exact absurd hx7 (hn7 x hx)
    · exact hx6
    · exact absurd hy6 (hn6 y hy)

/-! ### Credit returns (R53, R56) -/

section
variable {st : Nat} {o : Nat} {s : State} {v t : Nat} {rest : List (Nat × Nat)} (hst : s.awake st = true) (ho : o < 6)
  (hq : ((s.stn st).port o).credQ = (v, t) :: rest)
include hst ho hq

/-- A return that is not due, or whose output carries none, waits. -/
theorem State.sendCret_waits (h : s.datum < t ∨ s.cretHeld st o = true) : s.sendCret st o = s := by
  unfold State.sendCret
  rw [hq]
  dsimp only
  by_cases ht : s.datum < t
  · rw [decide_eq_true ht]
    rfl
  · rw [decide_eq_false ht, hst, if_neg (by decide), if_neg (not_le.2 ho), if_pos (h.resolve_left ht)]

/-- The oldest return that is due goes on what the output launches in the cycle, or on an IDLE. -/
theorem State.sendCret_goes (ht : t ≤ s.datum) (hh : s.cretHeld st o = false) :
    let y := s.modStn st (fun x => x.modPort o (fun q => { q with credQ := rest }))
    (∀ f, (s.linkOf st o).find? (fun f => f.lau = s.datum) = some f → f.w.cret = none →
      s.sendCret st o = y.modStn (neighbour st o) (fun x => x.modPort (oppPort o) (fun q =>
        { q with wire := q.wire.map (fun g => if g = f then { g with w := { g.w with cret := some v } } else g) }))) ∧
    ((s.linkOf st o).find? (fun f => f.lau = s.datum) = none → s.slotFree st o s.datum = true →
      s.sendCret st o = y.launch st o ⟨.idle, some v⟩ s.datum) := by
  unfold State.sendCret
  rw [hq]
  dsimp only
  rw [decide_eq_false (not_lt.2 ht), hst, if_neg (by decide), if_neg (not_le.2 ho), hh, if_neg (by decide)]
  refine ⟨fun f hf hc => ?_, fun hf hs => ?_⟩
  · rw [hf]
    dsimp only
    rw [hc]
    rfl
  · rw [hf]
    exact if_pos hs

end

/-- Settles O29: VA, SA and the credit returns by their own equations, the winners by `vaPick_spec` and `saPick_spec`. -/
theorem vcAndSwitchAllocation : Obligations.VcAndSwitchAllocation := by
  refine ⟨⟨fun st o s ha => ⟨execVcAllocate_done ha, fun hat => ?_⟩, fun last cs x => vaPick_spec⟩,
    ⟨fun st o s ha => ?_, fun wgt q q' ready cs x => saPick_spec⟩, fun st o s v t rest ha hq =>
      ⟨State.sendCret_waits ha o.isLt hq, State.sendCret_goes ha o.isLt hq⟩⟩
  · refine ⟨execVcAllocate_none ha hat, fun i v c w hp => ⟨fun parked => ?_, fun hne => ?_, fun hi hall => ?_⟩⟩
    · rw [State.stn_scnt]
      obtain ⟨hgrant, hholder, hlast, hvaAt⟩ := State.grantVc_grants
        (s.modStn st.val (fun x => x.modPort o.val (fun q => { q with vaAt := s.datum + 1 }))) st.val o.val i v c w parked
      refine ⟨hgrant, hholder, hlast, hvaAt.trans ?_⟩
      rw [State.stn_modStn_same, StnSt.port_modPort_same]
    · rw [execVcAllocate_grants ha hat hp, if_neg]
      rintro ⟨hi, hall⟩
      obtain hne | ⟨y, hy, hne⟩ := hne
      · exact hne hi
      · exact hne (hall y hy)
    · rw [execVcAllocate_grants ha hat hp, if_pos ⟨hi, hall⟩]
  · dsimp only
    rw [execSwitchAllocate_eq o ha]
    refine ⟨fun hb => by rw [State.saRun_busy hb], fun hb => ?_⟩
    obtain ⟨hpick, hwait, hend⟩ := State.saRun_free hb
    exact ⟨fun w c i v q hp => by rw [hpick w c i v q hp], fun hp hr => by rw [hwait hp hr],
      fun hp hr => by rw [hend hp hr]⟩

end Sys2Proof.Machine
end

section
/-!
PROOFS. Resynchronisation of a link, held heads and NOROUTE answers (R42, R84, R285).
-/
namespace Sys2Proof.Machine

/-! ### What a change of a station's ports leaves alone -/

section
variable {β : Type} (s : State) (j : Nat)

/-- What no change of a station touches in a port is kept in every port. -/
theorem State.port_modStn_keeps (g : PortSt → β) {f : StnSt → StnSt} (hf : ∀ x p, g ((f x).port p) = g (x.port p))
    (k p : Nat) : g (((s.modStn j f).stn k).port p) = g ((s.stn k).port p) := by
  by_cases h : k = j
  · rw [h, State.stn_modStn_same, hf]
  · rw [State.stn_modStn_ne _ _ h]

theorem StnSt.port_modPort_keeps (g : PortSt → β) {f : PortSt → PortSt} (hf : ∀ q, g (f q) = g q) (x : StnSt)
    (i p : Nat) : g ((x.modPort i f).port p) = g (x.port p) := by
  by_cases h : p = i
  · rw [h, StnSt.port_modPort_same, hf]
  · rw [StnSt.port_modPort_ne _ _ _ h]

/-- What a change of one port does not touch is kept in every port. -/
theorem State.port_modPort_keeps (i : Nat) (g : PortSt → β) {f : PortSt → PortSt} (hf : ∀ q, g (f q) = g q)
    (k p : Nat) : g (((s.modStn j (fun x => x.modPort i f)).stn k).port p) = g ((s.stn k).port p) :=
  s.port_modStn_keeps j g (fun x p => StnSt.port_modPort_keeps g hf x i p) k p

end

/-- What no step of a fold over a station changes the fold does not change. -/
theorem StnSt.port_foldl {α : Type} {f : StnSt → α → StnSt} (h : ∀ x a j, (f x a).port j = x.port j) (l : List α)
    (x : StnSt) (j : Nat) : (l.foldl f x).port j = x.port j := by
  induction l generalizing x with
  | nil => rfl
  | cons a l ih => rw [List.foldl_cons, ih, h]

theorem StnSt.port_cutSender (x : StnSt) (o v : Nat) (kept : List Nat) (j : Nat) :
    (x.cutSender o v kept).port j = x.port j := by
  unfold StnSt.cutSender
  dsimp only
  split
  · split <;> rfl
  · rfl

/-- Packets that are cut off are ended on every VC of an input (R42 step 3). -/
def StnSt.endCuts (x : StnSt) (i now : Nat) : StnSt := (List.range 7).foldl (fun x v => x.endCut i v now) x

theorem StnSt.port_endCuts (x : StnSt) (i now j : Nat) : (x.endCuts i now).port j = x.port j :=
  StnSt.port_foldl (fun x v j => x.port_endCut i v now j) _ x j

theorem State.port_endCuts (s : State) (st i now k p : Nat) :
    ((s.modStn st (fun x => x.endCuts i now)).stn k).port p = (s.stn k).port p :=
  s.port_modStn_keeps st (fun q => q) (fun x p => x.port_endCuts i now p) k p

/-! ### What a link carries -/

/-- A port without what its link carries. -/
def PortSt.unwired (q : PortSt) : PortSt := { q with wire := [] }

/-- From `s` to `t` only what links carry has changed. -/
def State.WiresOnly (s t : State) : Prop := t.regs = s.regs ∧ t.datum = s.datum ∧
  ∀ k p, ((t.stn k).port p).unwired = ((s.stn k).port p).unwired

namespace State.WiresOnly
variable {s t u : State}

theorem refl (s : State) : s.WiresOnly s := ⟨rfl, rfl, fun _ _ => rfl⟩

theorem trans (h : s.WiresOnly t) (g : t.WiresOnly u) : s.WiresOnly u :=
  ⟨g.1.trans h.1, g.2.1.trans h.2.1, fun k p => (g.2.2 k p).trans (h.2.2 k p)⟩

theorem foldl {α : Type} {f : State → α → State} (h : ∀ (s : State) a, s.WiresOnly (f s a)) (l : List α) (s : State) :
    s.WiresOnly (l.foldl f s) := by
  induction l generalizing s with
  | nil => exact refl s
  | cons a l ih => exact (h s a).trans (ih _)

theorem regs (h : s.WiresOnly t) : t.regs = s.regs := h.1
theorem datum (h : s.WiresOnly t) : t.datum = s.datum := h.2.1

theorem fld (h : s.WiresOnly t) (a : Nat) (f : Fld) : t.fld a f = s.fld a f := by
  rw [State.fld, State.rd, h.regs]
  rfl

theorem syncWanted (h : s.WiresOnly t) (k p : Nat) : ((t.stn k).port p).syncWanted = ((s.stn k).port p).syncWanted :=
  congrArg (·.syncWanted) (h.2.2 k p)

theorem rxSync (h : s.WiresOnly t) (k p : Nat) : ((t.stn k).port p).rxSync = ((s.stn k).port p).rxSync :=
  congrArg (·.rxSync) (h.2.2 k p)

end State.WiresOnly

theorem State.modWire_wiresOnly (s : State) (j i : Nat) (f : List InFlight → List InFlight) :
    s.WiresOnly (s.modStn j (fun x => x.modPort i (fun q => { q with wire := f q.wire }))) :=
  ⟨rfl, rfl, s.port_modPort_keeps j i PortSt.unwired (f := fun q => { q with wire := f q.wire }) fun _ => rfl⟩

theorem mem_insertWire {w x : InFlight} {l : List InFlight} : x ∈ insertWire w l ↔ x = w ∨ x ∈ l := by
  induction l with
  | nil => exact List.mem_cons
  | cons y l ih =>
    unfold insertWire
    split
    · exact List.mem_cons
    · rw [List.mem_cons, List.mem_cons, ih]
      exact or_left_comm

section
variable (s : State) (st o : Nat)

theorem State.launch_wiresOnly (w : Wire) (t : Nat) : s.WiresOnly (s.launch st o w t) := s.modWire_wiresOnly ..

theorem State.stn_launch_ne (w : Wire) (t : Nat) {j : Nat} (h : j ≠ neighbour st o) :
    (s.launch st o w t).stn j = s.stn j :=
  State.stn_modStn_ne _ _ h

/-- What is launched joins the link, and is there after the wire delay at the earliest (R33). -/
theorem State.linkOf_launch (w : Wire) (t : Nat) : ∃ due, t + wireDelay o ≤ due ∧
    (s.launch st o w t).linkOf st o = insertWire ⟨w, due, t⟩ (s.linkOf st o) := by
  obtain ⟨half, h⟩ : ∃ half, s.launch st o w t =
    s.putWire (neighbour st o) (oppPort o) w t (t + wireDelay o + half) := ⟨_, rfl⟩
  refine ⟨t + wireDelay o + half, Nat.le_add_right _ _, ?_⟩
  rw [h, State.linkOf, State.putWire, State.stn_modStn_same, StnSt.port_modPort_same]
  rfl

/-- The link of output `o` without the flits that do not meet `keep`. -/
def State.linkKept (keep : InFlight → Bool) : State :=
  s.modStn (neighbour st o) (fun x => x.modPort (oppPort o) (fun q => { q with wire := q.wire.filter keep }))

theorem State.linkKept_wiresOnly (keep : InFlight → Bool) : s.WiresOnly (s.linkKept st o keep) := s.modWire_wiresOnly ..

theorem State.stn_linkKept_ne (keep : InFlight → Bool) {j : Nat} (h : j ≠ neighbour st o) :
    (s.linkKept st o keep).stn j = s.stn j := State.stn_modStn_ne _ _ h

theorem State.linkOf_linkKept (keep : InFlight → Bool) : (s.linkKept st o keep).linkOf st o = (s.linkOf st o).filter keep := by
  rw [State.linkOf, State.linkKept, State.stn_modStn_same, StnSt.port_modPort_same]
  rfl

theorem State.le_nextSlot (n d : Nat) : d ≤ s.nextSlot st o n d := by
  induction n generalizing d with
  | zero => exact le_rfl
  | succ n ih =>
    unfold State.nextSlot
    split
    · exact le_rfl
    · exact (Nat.le_succ d).trans (ih (d + 1))

/-- Flits launched one after the other, each in the cycle that `t` gives. -/
def State.launches (t : State → InFlight → Nat) (l : List InFlight) : State :=
  l.foldl (fun s f => s.launch st o f.w (t s f)) s

variable (t : State → InFlight → Nat) (l : List InFlight)

theorem State.launches_wiresOnly : s.WiresOnly (s.launches st o t l) :=
  .foldl (fun s (f : InFlight) => s.launch_wiresOnly st o f.w (t s f)) l s

theorem State.stn_launches_ne {j : Nat} (h : j ≠ neighbour st o) : (s.launches st o t l).stn j = s.stn j :=
  foldl_fixes (·.stn j) (fun s (f : InFlight) => s.stn_launch_ne st o f.w (t s f) h) l s

/-- What the link carried it goes on carrying. -/
theorem State.mem_launches {x : InFlight} (h : x ∈ s.linkOf st o) : x ∈ (s.launches st o t l).linkOf st o := by
  induction l generalizing s with
  | nil => exact h
  | cons f l ih =>
    obtain ⟨due, -, hlink⟩ := s.linkOf_launch st o f.w (t s f)
    exact ih _ (hlink ▸ mem_insertWire.2 (.inr h))

/-- What the link carries besides has been launched in a cycle that `t` gives. -/
theorem State.lau_of_mem_launches {x : InFlight} (h : x ∈ (s.launches st o t l).linkOf st o) :
    x ∈ s.linkOf st o ∨ ∃ u f, x.lau = t u f := by
  induction l generalizing s with
  | nil => exact .inl h
  | cons f l ih =>
    obtain h | h := ih _ h
    · obtain ⟨due, -, hlink⟩ := s.linkOf_launch st o f.w (t s f)
      rw [hlink] at h
      obtain rfl | h := mem_insertWire.1 h
      · exact .inr ⟨s, f, rfl⟩
      · exact .inl h
    · exact .inr h

end

/-! ### Best-effort flits put off (R42 step 2) -/

section
variable (s : State) (st o t d : Nat)

/-- The flits are taken off the link and launched anew. -/
theorem State.putOff_eq : ∃ keep late, s.putOff st o t d =
    (s.linkKept st o keep).launches st o (fun s f => s.nextSlot st o 1024 (max f.lau d)) late ∧
    ∀ x, keep x = true → isBe x.w.content = true → x.lau < t := by
  refine ⟨fun f => !(isBe f.w.content && decide (t ≤ f.lau)), (s.linkOf st o).filter (fun f => isBe f.w.content &&
    decide (t ≤ f.lau)), rfl, fun x hx hbe => ?_⟩
  simpa [hbe] using hx

theorem State.putOff_wiresOnly : s.WiresOnly (s.putOff st o t d) := by
  obtain ⟨keep, late, heq, -⟩ := s.putOff_eq st o t d
  rw [heq]
  exact (s.linkKept_wiresOnly ..).trans (State.launches_wiresOnly ..)

theorem State.stn_putOff_ne {j : Nat} (h : j ≠ neighbour st o) : (s.putOff st o t d).stn j = s.stn j := by
  obtain ⟨keep, late, heq, -⟩ := s.putOff_eq st o t d
  rw [heq, State.stn_launches_ne _ _ _ _ _ h, State.stn_linkKept_ne _ _ _ _ h]

/-- No best-effort flit is launched between the two cycles. -/
theorem State.lau_putOff {x : InFlight} (hx : x ∈ (s.putOff st o t d).linkOf st o) (hbe : isBe x.w.content = true) :
    x.lau < t ∨ d ≤ x.lau := by
  obtain ⟨keep, late, heq, hkeep⟩ := s.putOff_eq st o t d
  rw [heq] at hx
  obtain hx | ⟨u, f, hlau⟩ := State.lau_of_mem_launches _ _ _ _ _ hx
  · rw [State.linkOf_linkKept] at hx
    exact .inl (hkeep x (List.mem_filter.1 hx).2 hbe)
  · exact .inr (hlau ▸ (le_max_right _ _).trans (State.le_nextSlot ..))

end

/-! ### The stations of a link (R33) -/

theorem neighbour_ne (st : Fin 36) (n : Fin 6) : neighbour st.val n.val ≠ st.val := by
  revert st n
  decide

theorem oppPort_lt {n : Nat} (h : n < 6) : oppPort n < 6 := by
  unfold oppPort
  split <;> omega

/-! ### RESYNC_SEND -/

/-- The state in which the receiver sends its RESYNC at the end `due` of its flight: its timer, the packets that have crossed
in part ended, the direction in RESYNC. -/
def State.syncSent (s : State) (st n due : Nat) : State :=
  (((s.modStn st (fun x => x.modPort n (fun q => { q with syncWanted := false, rxSync := some (due + 64) }))).modStn st
    (fun x => x.endCuts n s.datum)).setFld (A.STN_LINK st n) F.STN_LINK_STATE LinkSt.RESYNC).stnCause st 1

section
variable (s : State) {st n : Nat} (due : Nat)

theorem State.linkState_syncSent (hst : st < 36) (hn : n < 6) : (s.syncSent st n due).linkState st n = LinkSt.RESYNC := by
  have hlo : 0x100000 ≤ A.STN_LINK st n := by dsimp only [A.STN_LINK, A.stnBase]; omega
  have hne : A.STN_LINK st n ≠ A.STN_EVT_CAUSE st := by dsimp only [A.STN_LINK, A.STN_EVT_CAUSE]; omega
  rw [State.syncSent, State.linkState, State.fld, State.rd_stnCause _ 1 hst hlo hne]
  exact State.fld_setFld_same _ _ _ _ (by decide)

/-- The timer of the RESYNC runs from its arrival. -/
theorem State.port_syncSent : (((s.syncSent st n due).stn st).port n).syncWanted = false ∧
    (((s.syncSent st n due).stn st).port n).rxSync = some (due + 64) := by
  rw [State.syncSent, (State.stnCause_eventsOnly ..).stn, State.stn_of_stns (State.setFld_stns ..), State.port_endCuts,
    State.stn_modStn_same, StnSt.port_modPort_same]
  exact ⟨rfl, rfl⟩

theorem State.datum_syncSent : (s.syncSent st n due).datum = s.datum := by
  rw [State.syncSent, (State.stnCause_eventsOnly ..).datum, State.setFld_datum, State.modStn_datum, State.modStn_datum]

end

section
variable {st : Fin 36} {n : Fin 6} {s : State}

/-- A G flit takes the output's cycle. -/
theorem execResyncSend_waits (h : ∃ k, k < s.span st.val n.val ∧ s.gBusy st.val n.val (s.datum + k) = true) :
    exec (.resyncSend st n) s = .next s := by
  obtain ⟨k, hk, hb⟩ := h
  show execResyncSend st n s = _
  unfold execResyncSend
  refine if_pos (Bool.or_eq_true_iff.2 (.inr (List.any_eq_true.2 ⟨k, List.mem_range.2 hk, hb⟩)))

/-- The best-effort flits that RESYNC finds in its cycle or later. -/
def State.syncLate (s : State) (st n : Nat) : List InFlight :=
  (s.linkOf st n).filter (fun f => isBe f.w.content && decide (s.datum < f.lau + s.span st n))

/-- RESYNC takes the output's cycle; the best-effort flits launched for it are launched anew after it. -/
def State.syncTakes (s : State) (st n : Nat) : State :=
  ((s.linkKept st n (fun f => !(s.syncLate st n).contains f)).launch st n ⟨.resync, none⟩ s.datum).launches st n
    (fun s _ => s.nextSlot st n 1024 (s.datum + s.span st n)) (s.syncLate st n)

theorem State.syncTakes_wiresOnly (s : State) (st n : Nat) : s.WiresOnly (s.syncTakes st n) :=
  ((s.linkKept_wiresOnly ..).trans (State.launch_wiresOnly ..)).trans (State.launches_wiresOnly ..)

/-- RESYNC is on the link. -/
theorem State.mem_syncTakes (s : State) (st n : Nat) : ∃ x ∈ (s.syncTakes st n).linkOf st n,
    x.w = ⟨.resync, none⟩ ∧ x.lau = s.datum ∧ s.datum + wireDelay n ≤ x.due := by
  obtain ⟨due, hdue, hlink⟩ := (s.linkKept st n (fun f => !(s.syncLate st n).contains f)).linkOf_launch st n
    ⟨.resync, none⟩ s.datum
  refine ⟨⟨⟨.resync, none⟩, due, s.datum⟩, State.mem_launches _ _ _ _ _ ?_, rfl, rfl, hdue⟩
  exact hlink ▸ mem_insertWire.2 (.inl rfl)

theorem execResyncSend_sends (hw : ((s.stn st.val).port n.val).syncWanted = true)
    (hfree : ∀ k, k < s.span st.val n.val → s.gBusy st.val n.val (s.datum + k) = false) :
    exec (.resyncSend st n) s = .next ((s.syncSent st.val n.val
      (s.datum + wireDelay n.val + (s.span st.val n.val - 1))).syncTakes st.val n.val) := by
  have hany : (List.range (s.span st.val n.val)).any (fun k => s.gBusy st.val n.val (s.datum + k)) = false :=
    List.any_eq_false.2 fun k hk => by rw [hfree k (List.mem_range.1 hk)]; decide
  show execResyncSend st n s = _
  unfold execResyncSend
  dsimp only
  rw [hw, hany, if_neg (by decide)]
  rfl

/-- R42 steps 1 and 3. -/
theorem execResyncSend_spec (hw : ((s.stn st.val).port n.val).syncWanted = true)
    (hfree : ∀ k, k < s.span st.val n.val → s.gBusy st.val n.val (s.datum + k) = false) :
    let due := s.datum + wireDelay n.val + (s.span st.val n.val - 1)
    ∃ t : State, exec (.resyncSend st n) s = .next t ∧ t.linkState st.val n.val = LinkSt.RESYNC ∧
      ((t.stn st.val).port n.val).syncWanted = false ∧ ((t.stn st.val).port n.val).rxSync = some (due + 64) ∧
      ∃ x ∈ t.linkOf st.val n.val, x.w = ⟨.resync, none⟩ ∧ x.lau = s.datum ∧ s.datum + wireDelay n.val ≤ x.due := by
  intro due
  have hwires := (s.syncSent st.val n.val due).syncTakes_wiresOnly st.val n.val
  have hmem := (s.syncSent st.val n.val due).mem_syncTakes st.val n.val
  obtain ⟨hwanted, hsync⟩ := s.port_syncSent (st := st.val) (n := n.val) due
  rw [State.datum_syncSent] at hmem
  exact ⟨_, execResyncSend_sends hw hfree, (hwires.fld ..).trans (s.linkState_syncSent due st.isLt n.isLt),
    (hwires.syncWanted ..).trans hwanted, (hwires.rxSync ..).trans hsync, hmem⟩

end

/-! ### RESYNC_RECEIVE -/

/-- The best-effort flits that have won SA and are still to be launched on output `o`. -/
def State.caught (s : State) (st o : Nat) : List InFlight :=
  (s.linkOf st o).filter (fun f => isBe f.w.content && decide (s.datum ≤ f.lau))

/-- The VC whose packet a head flit begins. -/
def headVc (f : InFlight) : Option Nat :=
  match f.w.content with
  | .be f => if f.isHead then some f.vc else none
  | _ => none

/-- R42 step 3: of the flits that have not been launched those of packets that have crossed in part are discarded, the others
put off by 64 fclk. -/
def State.caughtOff (s : State) (st o : Nat) : State :=
  (s.linkKept st o (fun f => !((s.caught st o).contains f && cutOff ((s.caught st o).filterMap headVc) f))).putOff st o
    s.datum (s.datum + 64)

theorem State.caughtOff_wiresOnly (s : State) (st o : Nat) : s.WiresOnly (s.caughtOff st o) :=
  (s.linkKept_wiresOnly ..).trans (State.putOff_wiresOnly ..)

theorem State.stn_caughtOff_ne (s : State) (st o : Nat) {j : Nat} (h : j ≠ neighbour st o) :
    (s.caughtOff st o).stn j = s.stn j := by
  rw [State.caughtOff, State.stn_putOff_ne _ _ _ _ _ h, State.stn_linkKept_ne _ _ _ _ h]

section
variable {st : Fin 36} {n : Fin 6} {s : State} {c : Option Nat}
  (h : s.front st.val n.val = some ⟨.resync, c⟩)
include h

/-- The RESYNC is taken off the link, and its output sends no best-effort flit for 64 fclk. -/
theorem execResyncReceive_eq :
    let u := (s.popWire st.val n.val).caughtOff st.val n.val
    exec (.resyncReceive st n) s = .next ((u.modStn st.val (fun x => x.modPort n.val (fun q =>
      { q with txSync := some (u.datum + 64) }))).modStn st.val (fun x => (List.range 7).foldl (fun x v =>
        x.cutSender n.val v (((s.popWire st.val n.val).caught st.val n.val).filterMap headVc)) x)) := by
  show execResyncReceive st n s = _
  unfold execResyncReceive
  dsimp only
  rw [h]
  rfl

/-- R42 step 2. -/
theorem execResyncReceive_spec :
    ∃ t : State, exec (.resyncReceive st n) s = .next t ∧ ((t.stn st.val).port n.val).txSync = some (s.datum + 64) ∧
      ((t.stn st.val).port n.val).wire = ((s.stn st.val).port n.val).wire.tail ∧ t.regs = s.regs ∧
      ∀ x ∈ t.linkOf st.val n.val, isBe x.w.content = true → x.lau < s.datum ∨ s.datum + 64 ≤ x.lau := by
  have hne := neighbour_ne st n
  have hwires := (s.popWire st.val n.val).caughtOff_wiresOnly st.val n.val
  have hstn := (s.popWire st.val n.val).stn_caughtOff_ne st.val n.val hne.symm
  have hpop : ((s.popWire st.val n.val).stn st.val).port n.val = { (s.stn st.val).port n.val with
      wire := ((s.stn st.val).port n.val).wire.tail, rxAt := s.datum + 1 } := by
    rw [State.popWire, State.stn_modStn_same, StnSt.port_modPort_same]
  refine ⟨_, execResyncReceive_eq h, ?_, ?_, ?_, fun x hx hbe => ?_⟩
  · rw [State.stn_modStn_same, StnSt.port_foldl fun x v j => x.port_cutSender n.val v _ j, State.stn_modStn_same,
      StnSt.port_modPort_same, hwires.datum]
    rfl
  · rw [State.stn_modStn_same, StnSt.port_foldl fun x v j => x.port_cutSender n.val v _ j, State.stn_modStn_same,
      StnSt.port_modPort_same, hstn, hpop]
  · rw [State.modStn_regs, State.modStn_regs, hwires.regs, State.popWire, State.modStn_regs]
  · rw [State.linkOf, State.stn_modStn_ne _ _ hne, State.stn_modStn_ne _ _ hne] at hx
    exact State.lau_putOff _ _ _ _ _ hx hbe

end

/-! ### RESYNC_END -/

/-- The state in which a resynchronisation is over: its timers at both ends, the returns of its direction, and the packets
that were cut off meanwhile. -/
def State.syncOver (s : State) (st n : Nat) : State :=
  ((s.modStn st (fun x => x.modPort n (fun q => { q with rxSync := none, credQ := [] }))).modStn st
    (fun x => x.endCuts n s.datum)).modStn (neighbour st n) (fun x => x.modPort (oppPort n) (fun q =>
      { q with txSync := none }))

/-- The credits that a best-effort flit on its way holds. -/
def State.heldBy (s : State) (tx o : Nat) (f : InFlight) : State :=
  match f.w.content with
  | .be f => s.down (A.STN_VC_CRED tx o) ⟨4 * f.vc, 4⟩
  | _ => s

/-- Full credits of output `o`, less those of the flits on its link. -/
def State.fullCredits (s : State) (tx o : Nat) : State :=
  ((s.wr (A.STN_VC_CRED tx o) (BitVec.ofNat 64 (fullCreds o))).linkOf tx o).foldl (fun s f => s.heldBy tx o f)
    (s.wr (A.STN_VC_CRED tx o) (BitVec.ofNat 64 (fullCreds o)))

section
variable (s : State) (st n : Nat)

theorem State.linkOf_of_stns {s t : State} (h : t.stns = s.stns) (k p : Nat) : t.linkOf k p = s.linkOf k p := by
  rw [State.linkOf, State.stn_of_stns h, State.linkOf]

theorem State.rd_syncOver (a : Nat) : (s.syncOver st n).rd a = s.rd a := by
  rw [State.syncOver, State.rd_modStn, State.rd_modStn, State.rd_modStn]

theorem State.linkOf_syncOver (k p : Nat) : (s.syncOver st n).linkOf k p = s.linkOf k p := by
  unfold State.linkOf State.syncOver
  refine (State.port_modPort_keeps _ _ _ (·.wire) ?_ _ _).trans ?_
  · exact fun _ => rfl
  rw [State.port_endCuts]
  refine State.port_modPort_keeps _ _ _ (·.wire) ?_ _ _
  exact fun _ => rfl

theorem State.port_syncOver : (((s.syncOver st n).stn st).port n).rxSync = none ∧
    (((s.syncOver st n).stn st).port n).credQ = [] ∧
    (((s.syncOver st n).stn (neighbour st n)).port (oppPort n)).txSync = none := by
  have hkeep {β : Type} (g : PortSt → β) (hg : ∀ q : PortSt, g { q with txSync := none } = g q) :
      g (((s.syncOver st n).stn st).port n) = g { (s.stn st).port n with rxSync := none, credQ := [] } := by
    rw [State.syncOver, State.port_modPort_keeps _ _ _ g hg, State.port_endCuts, State.stn_modStn_same,
      StnSt.port_modPort_same]
  refine ⟨hkeep (·.rxSync) fun _ => rfl, hkeep (·.credQ) fun _ => rfl, ?_⟩
  rw [State.syncOver, State.stn_modStn_same, StnSt.port_modPort_same]

variable (tx o : Nat)

theorem State.heldBy_stns (f : InFlight) : (s.heldBy tx o f).stns = s.stns := by
  unfold State.heldBy
  split <;> rfl

theorem State.rd_heldBy_ne (f : InFlight) {a : Nat} (h : a ≠ A.STN_VC_CRED tx o) : (s.heldBy tx o f).rd a = s.rd a := by
  unfold State.heldBy
  split
  · exact State.rd_setFld_ne _ _ _ h
  · rfl

theorem State.heldBy_of_not_be {f : InFlight} (h : ∀ g, f.w.content ≠ .be g) : s.heldBy tx o f = s := by
  unfold State.heldBy
  split
  · next g hg => exact absurd hg (h g)
  · rfl

theorem State.fullCredits_stns : (s.fullCredits tx o).stns = s.stns := by
  rw [State.fullCredits, foldl_fixes (·.stns) (fun s (f : InFlight) => s.heldBy_stns tx o f), State.wr_stns]

theorem State.rd_fullCredits_ne {a : Nat} (h : a ≠ A.STN_VC_CRED tx o) : (s.fullCredits tx o).rd a = s.rd a := by
  rw [State.fullCredits, foldl_fixes (·.rd a) (fun s (f : InFlight) => s.rd_heldBy_ne tx o f h), s.rd_wr_ne _ h]

/-- With no best-effort flit on its link the output holds full credits. -/
theorem State.rd_fullCredits (h : ∀ x ∈ s.linkOf tx o, ∀ f, x.w.content ≠ .be f) :
    (s.fullCredits tx o).rd (A.STN_VC_CRED tx o) = BitVec.ofNat 64 (fullCreds o) := by
  rw [State.fullCredits, State.linkOf_of_stns (State.wr_stns ..),
    List.foldl_ext _ (fun s _ => s) _ fun s x hx => s.heldBy_of_not_be tx o (h x hx), List.foldl_fixed]
  exact s.rd_wr_same ..

end

theorem stateOfGood_lt (g : Nat) : stateOfGood g < 2 ^ 3 := by
  unfold stateOfGood
  split_ifs <;> decide

/-- The direction is up by its good lanes, and the resynchronisation counted. -/
def State.upAgain (s : State) (st n : Nat) : State :=
  ((s.setFld (A.STN_LINK st n) F.STN_LINK_STATE (stateOfGood (s.goodRx st n))).sat (A.STN_LINK st n)
    F.STN_LINK_RESYNC_COUNT).scnt st 34

section
variable (s : State) {st n : Nat}

theorem State.upAgain_stns : (s.upAgain st n).stns = s.stns := by
  rw [State.upAgain, State.scnt_stns, State.sat_stns, State.setFld_stns]

theorem State.rd_upAgain_ne {a : Nat} (h : a ≠ A.STN_LINK st n) (hc : a ≠ A.STN_CNT st 34) :
    (s.upAgain st n).rd a = s.rd a := by
  rw [State.upAgain, State.scnt, State.rd_cnt_ne _ _ hc, State.sat, State.rd_setFld_ne _ _ _ h, s.rd_setFld_ne _ _ h]

theorem State.linkState_upAgain (hn : n < 6) : (s.upAgain st n).linkState st n = stateOfGood (s.goodRx st n) := by
  have hne : A.STN_LINK st n ≠ A.STN_CNT st 34 := by dsimp only [A.STN_LINK, A.STN_CNT]; omega
  rw [State.linkState, State.fld, State.upAgain, State.scnt, State.rd_cnt_ne _ _ hne]
  refine (State.fld_sat_apart _ _ _ _ _ (by decide) (by decide)).trans ?_
  rw [State.fld_setFld_same _ _ _ _ (by decide), Nat.mod_eq_of_lt (stateOfGood_lt _)]

end

section
variable {st : Fin 36} {n : Fin 6} {s : State} {d : Nat} (hd : ((s.stn st.val).port n.val).rxSync = some d)
include hd

theorem execResyncEnd_waits (h : s.datum < d) : exec (.resyncEnd st n) s = .next s := by
  show execResyncEnd st n s = _
  unfold execResyncEnd
  dsimp only
  rw [hd]
  exact if_pos h

/-- The resynchronisation is over at both ends (R42 steps 3 and 4). -/
theorem execResyncEnd_ends (h : d ≤ s.datum) : exec (.resyncEnd st n) s = .next (((s.syncOver st.val n.val).fullCredits
    (neighbour st.val n.val) (oppPort n.val)).upAgain st.val n.val) := by
  show execResyncEnd st n s = _
  unfold execResyncEnd
  dsimp only
  rw [hd]
  dsimp only
  rw [if_neg (not_lt.2 h)]
  rfl

/-- R42 steps 3 and 4. -/
theorem execResyncEnd_spec (h : d ≤ s.datum) : ∃ t : State, exec (.resyncEnd st n) s = .next t ∧
    ((∀ x ∈ s.linkOf (neighbour st.val n.val) (oppPort n.val), ∀ f, x.w.content ≠ .be f) →
      t.rd (A.STN_VC_CRED (neighbour st.val n.val) (oppPort n.val)) = BitVec.ofNat 64 (fullCreds (oppPort n.val))) ∧
    t.linkState st.val n.val = stateOfGood (s.goodRx st.val n.val) ∧
    ((t.stn st.val).port n.val).rxSync = none ∧ ((t.stn st.val).port n.val).credQ = [] ∧
    ((t.stn (neighbour st.val n.val)).port (oppPort n.val)).txSync = none := by
  have ho := oppPort_lt n.isLt
  have hlane : A.STN_LANE_RX st.val n.val ≠ A.STN_VC_CRED (neighbour st.val n.val) (oppPort n.val) := by
    dsimp only [A.STN_LANE_RX, A.STN_VC_CRED, A.stnBase]; omega
  have hlink : A.STN_VC_CRED (neighbour st.val n.val) (oppPort n.val) ≠ A.STN_LINK st.val n.val := by
    dsimp only [A.STN_LINK, A.STN_VC_CRED, A.stnBase]; omega
  have hcnt : A.STN_VC_CRED (neighbour st.val n.val) (oppPort n.val) ≠ A.STN_CNT st.val 34 := by
    dsimp only [A.STN_CNT, A.STN_VC_CRED, A.stnBase]; omega
  have hgood : ((s.syncOver st.val n.val).fullCredits (neighbour st.val n.val) (oppPort n.val)).goodRx st.val n.val =
      s.goodRx st.val n.val := by
    unfold State.goodRx State.fld
    rw [State.rd_fullCredits_ne _ _ _ hlane, State.rd_syncOver]
  have hstn (k : Nat) := State.stn_of_stns ((State.upAgain_stns (st := st.val) (n := n.val) _).trans
    ((s.syncOver st.val n.val).fullCredits_stns (neighbour st.val n.val) (oppPort n.val))) k
  refine ⟨_, execResyncEnd_ends hd h, fun hbe => ?_, ?_, ?_⟩
  · rw [State.rd_upAgain_ne _ hlink hcnt, State.rd_fullCredits]
    intro x hx
    rw [State.linkOf_syncOver] at hx
    exact hbe x hx
  · rw [State.linkState_upAgain _ n.isLt, hgood]
  · rw [hstn, hstn]
    exact s.port_syncOver st.val n.val

end

/-! ### Held heads and NOROUTE answers (R84, R285) -/

/-- The oldest held head of an input VC is absorbed in its time (R84). -/
theorem execHeldHeadTimeout_eq {st : Fin 36} {i : Fin 12} {v : Fin 7} {s : State} {b fs : List BFlit} {f : BFlit}
    (h : splitHeld ((s.stn st.val).vc i.val v.val).buf = (b, f :: fs)) :
    exec (.heldHeadTimeout st i v) s = .next (if f.bw + 8192 ≤ s.datum
      then (s.absorbCount st.val .stray).absorbHeld st.val i.val v.val else s) := by
  show execHeldHeadTimeout st i v s = _
  unfold execHeldHeadTimeout
  rw [h]
  dsimp only
  split <;> rfl

/-- The oldest absorbed request is answered (R285). -/
theorem execAgentNorouteSend_eq {st : Fin 36} {s : State} {h : Hdr} {q : List Hdr} {c : BitVec 6}
    (hq : (s.stn st.val).nrq = h :: q) (hc : Cmd.response h.cmd = some c) :
    exec (.agentNorouteSend st) s = .next (((((s.modStn st.val (fun x => { x with nrq := q })).setFld (A.STN_SINK st.val)
      F.STN_SINK_NR_QUEUE q.length).sat (A.STN_SINK st.val) F.STN_SINK_NR_SENT).agentSend st.val
        { dest := h.src, cmd := c, cls := h.cls, tag := h.tag, region := h.region,
          status := Code.NOROUTE, bcount := h.bcount, address := h.address } [])) := by
  show execAgentNorouteSend st s = _
  unfold execAgentNorouteSend
  dsimp only
  rw [hq]
  dsimp only
  rw [hc]

/-- Settles O30: the three steps of a resynchronisation by their own lemmas, held heads and answers by their equations. -/
theorem resyncHeldHeadsAndNoroute : Obligations.ResyncHeldHeadsAndNoroute := by
  refine ⟨fun st n s hw => ⟨execResyncSend_waits, execResyncSend_spec hw⟩, fun st n s c => execResyncReceive_spec,
    fun st n s d hd => ⟨execResyncEnd_waits hd, execResyncEnd_spec hd⟩, fun st i v s b f fs h => ?_,
    fun st s h q c => execAgentNorouteSend_eq⟩
  rw [execHeldHeadTimeout_eq h]
  exact ⟨fun hle => by rw [if_pos hle], fun hlt => by rw [if_neg (by omega)]⟩

end Sys2Proof.Machine
end

section
/-!
PROOFS. What the operations on an NI read and leave alone.
-/
namespace Sys2Proof.Machine

section
variable (s : State)

@[simp] theorem State.ni_modNi_same (p : Nat) (f : NiSt → NiSt) : (s.modNi p f).ni p = f (s.ni p) := State.ni_setNi_same ..
theorem State.ni_modNi_ne {p q : Nat} (f : NiSt → NiSt) (h : q ≠ p) : (s.modNi p f).ni q = s.ni q := State.ni_setNi_ne _ _ h
@[simp] theorem State.rd_modNi (p : Nat) (f : NiSt → NiSt) (a : Nat) : (s.modNi p f).rd a = s.rd a := rfl
@[simp] theorem State.ni_setFld (a : Nat) (f : Fld) (v q : Nat) : (s.setFld a f v).ni q = s.ni q := rfl

variable (p : Nat) (rsp : Bool) (w : Option FillWait)

theorem State.wait_setWait_same : ((s.setWait p rsp w).ni p).wait rsp = w := by
  rw [State.setWait, State.ni_setFld, State.ni_modNi_same]
  cases rsp <;> rfl

theorem State.mgtQ_setWait : ((s.setWait p rsp w).ni p).mgtQ = (s.ni p).mgtQ := by
  rw [State.setWait, State.ni_setFld, State.ni_modNi_same]
  cases rsp <;> rfl

theorem State.ni_setWait_ne {q : Nat} (h : q ≠ p) : (s.setWait p rsp w).ni q = s.ni q := by
  rw [State.setWait, State.ni_setFld, State.ni_modNi_ne _ _ h]

end

end Sys2Proof.Machine
end

section
/-!
PROOFS. Route fills of NIs and agents and their service at the global block (R72, R73).
-/
namespace Sys2Proof.Machine

/-! ### The builders of an NI -/

/-- The builder of requests or of responses of a port. -/
def niBuilder (p : Fin 144) (rsp : Bool) : Builder := if rsp then .response p else .request p

theorem exec_routeFill_niBuilder (p : Fin 144) (rsp : Bool) (s : State) :
    exec (.routeFillIssue (niBuilder p rsp)) s = .next (s.niFillIssue p.val rsp) ∧
    exec (.routeFillReturn (niBuilder p rsp)) s = .next (s.niFillReturn p.val rsp) ∧
    exec (.routeFillTimeout (niBuilder p rsp)) s = .next (s.niFillTimeout p.val rsp) := by
  cases rsp <;> exact ⟨rfl, rfl, rfl⟩

section
variable {s : State} {p : Nat} {rsp : Bool} {w : FillWait}

theorem State.niFillIssue_waits (hw : (s.ni p).wait rsp = some w) (h : w.queued = true ∨ 8 ≤ (s.ni p).mgtQ.length) :
    s.niFillIssue p rsp = s := by
  unfold State.niFillIssue
  rw [hw]
  exact if_pos (by simpa using h)

section
variable (hw : (s.ni p).wait rsp = some w) (hq : w.queued = false) (hroom : (s.ni p).mgtQ.length < 8)
include hw hq hroom

/-- Without a home route only the timeout starts. -/
theorem State.niFillIssue_homeless (hr : noRoute w.fill.pkt.h.route = true) :
    s.niFillIssue p rsp = (s.setWait p rsp (some { w with queued := true, issued := some s.datum })).ncnt p 14 := by
  unfold State.niFillIssue
  rw [hw]
  dsimp only
  rw [if_neg (by simp [hq, hroom]), if_pos hr]

theorem State.niFillIssue_joins (hr : noRoute w.fill.pkt.h.route = false) :
    s.niFillIssue p rsp =
      (s.modNi p (fun n => { n with mgtQ := n.mgtQ ++ [w.fill] })).setWait p rsp (some { w with queued := true }) := by
  unfold State.niFillIssue
  rw [hw]
  dsimp only
  rw [if_neg (by simp [hq, hroom]), if_neg (by simp [hr])]

theorem State.niFillIssue_joins_spec (hr : noRoute w.fill.pkt.h.route = false) :
    ((s.niFillIssue p rsp).ni p).mgtQ = (s.ni p).mgtQ ++ [w.fill] ∧
    ((s.niFillIssue p rsp).ni p).wait rsp = some { w with queued := true } ∧
    ∀ q, q ≠ p → (s.niFillIssue p rsp).ni q = s.ni q := by
  rw [State.niFillIssue_joins hw hq hroom hr]
  refine ⟨?_, State.wait_setWait_same .., fun q hne => ?_⟩
  · rw [State.mgtQ_setWait, State.ni_modNi_same]
  · rw [State.ni_setWait_ne _ _ _ _ hne, State.ni_modNi_ne _ _ hne]

end

/-- The answer leaves the NI. -/
def State.answerTaken (s : State) (p : Nat) (q : Pkt) : State := s.modNi p (fun n => { n with rxMgt := n.rxMgt.erase q })

theorem State.wait_answerTaken (q : Pkt) : ((s.answerTaken p q).ni p).wait rsp = (s.ni p).wait rsp := by
  rw [State.answerTaken, State.ni_modNi_same]
  rfl

section
variable {q : Pkt} (hq : (s.ni p).rxMgt.find? (fillAnswer rsp) = some q)
include hq

theorem State.niFillReturn_unawaited (hw : (s.ni p).wait rsp = none) : s.niFillReturn p rsp = s.answerTaken p q := by
  unfold State.niFillReturn
  rw [hq]
  dsimp only
  rw [← State.answerTaken, State.wait_answerTaken, hw]

/-- An answer to an earlier fill, or to one that has not gone out, is discarded. -/
theorem State.niFillReturn_late (hw : (s.ni p).wait rsp = some w) (h : w.issued = none ∨ q.h.tag ≠ w.fill.pkt.h.tag) :
    s.niFillReturn p rsp = s.answerTaken p q := by
  unfold State.niFillReturn
  rw [hq]
  dsimp only
  rw [← State.answerTaken, State.wait_answerTaken, hw]
  exact if_pos (by rwa [Option.isNone_iff_eq_none])

/-- The answer that carries the number of the fill ends it with the route that it brings. -/
theorem State.niFillReturn_ends (hw : (s.ni p).wait rsp = some w) (hi : w.issued ≠ none)
    (ht : q.h.tag = w.fill.pkt.h.tag) :
    s.niFillReturn p rsp = (s.answerTaken p q).niFillEnd p rsp w (fillRoute q) := by
  unfold State.niFillReturn
  rw [hq]
  dsimp only
  rw [← State.answerTaken, State.wait_answerTaken, hw]
  exact if_neg (by rw [Option.isNone_iff_eq_none, not_or, not_ne_iff]; exact ⟨hi, ht⟩)

end

/-- 8,192 fclk after its issue a fill ends without a route. -/
theorem State.niFillTimeout_eq {d : Nat} (hw : (s.ni p).wait rsp = some w) (hd : w.issued = some d) :
    s.niFillTimeout p rsp = if s.datum < d + 8192 then s
      else (s.sat (A.NI_ROUTE_STATUS p) F.NI_ROUTE_STATUS_FILL_TIMEOUTS).niFillEnd p rsp w none := by
  unfold State.niFillTimeout
  rw [hw]
  dsimp only
  rw [hd]

end

/-- R73: the route that an answer brings is the table's entry, where it reports no error and the entry holds a route. -/
theorem fillRoute_eq_some {q : Pkt} {v : BitVec 64}
    (hv : v = BitVec.ofNat 64 ((q.units.headD 0).toNat / 2 ^ (8 * (q.h.address.toNat % 32)))) (hs : q.h.status = 0)
    (hf : q.fails = false) (hr : noRoute v = false) : fillRoute q = some v := by
  subst hv
  exact if_neg (by rw [hs, hf, hr]; decide)

theorem fillRoute_eq_none {q : Pkt} {v : BitVec 64}
    (hv : v = BitVec.ofNat 64 ((q.units.headD 0).toNat / 2 ^ (8 * (q.h.address.toNat % 32))))
    (h : q.h.status ≠ 0 ∨ q.fails = true ∨ noRoute v = true) : fillRoute q = none := by
  subst hv
  exact if_pos h

/-! ### Agents -/

/-- The builder that fetches routes for the agent of block `k`. -/
def fillsAgent (b : Builder) (k : Nat) : Prop :=
  (∃ st : Fin 36, b = .agent st ∧ k = stnBlk st.val) ∨ (∃ f : Fin 12, b = .fedAgent f ∧ k = fedBlk f.val)

theorem exec_routeFill_agent {b : Builder} {k : Nat} (h : fillsAgent b k) (s : State) :
    exec (.routeFillIssue b) s = .next (s.agentFillIssue k) ∧
    exec (.routeFillReturn b) s = .next (s.agentFillReturn k) ∧
    exec (.routeFillTimeout b) s = .next (s.agentFillTimeout k) := by
  obtain ⟨st, rfl, rfl⟩ | ⟨f, rfl, rfl⟩ := h
  · exact ⟨rfl, rfl, rfl⟩
  · exact ⟨rfl, rfl, rfl⟩

section
variable {s : State} {k : Nat}

theorem State.agentFillIssue_none (h : (s.agent k).fill = none) : s.agentFillIssue k = s := by
  rw [State.agentFillIssue, h]

theorem State.agentFillIssue_some {q : Pkt} (h : (s.agent k).fill = some q) :
    s.agentFillIssue k = (s.modAgent k (fun x => { x with fill := none })).agentQueue k q .answer 0 true := by
  rw [State.agentFillIssue, h]

theorem State.agentFillReturn_some {q : Pkt} (h : (s.agent k).rsp = some q) :
    s.agentFillReturn k = s.agentRouted k (fillRoute q) := by
  rw [State.agentFillReturn, h]

theorem State.agentFillTimeout_some {d : Nat} (h : (s.agent k).issued = some d) :
    s.agentFillTimeout k = if s.datum < d + 8192 then s else s.agentRouted k none := by
  rw [State.agentFillTimeout, h]

end

/-! ### The global block -/

section
variable {s : State} {q : Pkt} (hq : s.glb.rx.find? isFill = some q)
include hq

theorem execFillServe_waits
    (h : mclkEdge s.datum = false ∨ ∃ d, s.glb.fillAt = some d ∧ mclkNo s.datum < mclkNo d + 4) :
    exec .fillServe s = .next s := by
  show execFillServe s = _
  unfold execFillServe
  rw [hq]
  dsimp only
  refine if_pos ?_
  obtain h | ⟨d, hd, hlt⟩ := h
  · rw [h, Bool.not_false, Bool.or_true]
  · rw [hd]
    dsimp only
    rw [decide_eq_false (by omega), Bool.not_false, Bool.true_or]

/-- The answer to a fill carries the table's entry, in the lane of its address (R72). -/
theorem execFillServe_answers (he : mclkEdge s.datum = true)
    (hp : ∀ d, s.glb.fillAt = some d → mclkNo d + 4 ≤ mclkNo s.datum) :
    exec .fillServe s =
      .next ((State.gcnt { s with glb := { s.glb with rx := s.glb.rx.erase q, fillAt := some s.datum } } 3).glbSend
        { dest := q.h.src, cmd := Cmd.CRR, cls := 7, tag := q.h.tag, region := q.h.region, bcount := 8, address := q.h.address }
        [BitVec.ofNat 256 ((BitVec.ofNat 64 (s.rdMem (q.h.address.toNat / 8 * 8) 8)).toNat *
          2 ^ (8 * (q.h.address.toNat % 32)))]).glbBars := by
  show execFillServe s = _
  unfold execFillServe
  rw [hq]
  dsimp only
  refine if_neg ?_
  rw [he, Bool.not_true, Bool.or_false]
  cases hf : s.glb.fillAt with
  | none => simp
  | some d => simp [hp d hf]

end

/-- Settles O31: the builders of an NI, the agents and the global block, each by the equations of its function. -/
theorem routeFills : Obligations.RouteFills := by
  refine ⟨fun p rsp s => ⟨niBuilder p rsp, rfl, ?_⟩, fun q => ⟨fillRoute_eq_some rfl, fillRoute_eq_none rfl⟩,
    fun b k s hb => ?_, fun s q hq => ⟨execFillServe_waits hq, execFillServe_answers hq⟩⟩
  · obtain ⟨hissue, hreturn, htimeout⟩ := exec_routeFill_niBuilder p rsp s
    rw [hissue, hreturn, htimeout]
    refine ⟨fun w hw => ⟨fun h => ?_, fun hq hroom => ⟨fun hr => ?_, fun hr => ?_⟩⟩,
      fun q hq => ⟨s.answerTaken p.val q, rfl, fun hw => ?_, fun w hw => ⟨fun h => ?_, fun hi ht => ?_⟩⟩,
      fun w d hw hd => ?_⟩
    · rw [State.niFillIssue_waits hw h]
    · rw [State.niFillIssue_homeless hw hq hroom hr]
    · exact ⟨_, rfl, State.niFillIssue_joins_spec hw hq hroom hr⟩
    · rw [State.niFillReturn_unawaited hq hw]
    · rw [State.niFillReturn_late hq hw h]
    · rw [State.niFillReturn_ends hq hw hi ht]
    · rw [State.niFillTimeout_eq hw hd]
      exact ⟨fun hlt => by rw [if_pos hlt], fun hle => by rw [if_neg (by omega)]⟩
  · obtain ⟨hissue, hreturn, htimeout⟩ := exec_routeFill_agent hb s
    rw [hissue, hreturn, htimeout]
    refine ⟨fun h => by rw [State.agentFillIssue_none h], fun q h => by rw [State.agentFillIssue_some h],
      fun q h => by rw [State.agentFillReturn_some h], fun d h => ?_⟩
    rw [State.agentFillTimeout_some h]
    exact ⟨fun hlt => by rw [if_pos hlt], fun hle => by rw [if_neg (by omega)]⟩

end Sys2Proof.Machine
end

section
/-!
PROOFS. The stations' traverse control register and the sweep of a route cache (R74, R84, R88, R135).
-/
namespace Sys2Proof.Machine

/-! ### STN_TRAV_CTL -/

section
variable {st : Nat} {r : Req} {s t : State} {row : RegRow} (hrow : rowAt (A.STN_TRAV_CTL st) = some row)
  (ht : s.rwsWrite (A.STN_TRAV_CTL st) row r.data = some t)

/-- The write before anything is released or retired: the fields under shadow, and RECONF. -/
def State.reconfSet (t : State) (st : Nat) (r : Req) : State :=
  t.setFld (A.STN_TRAV_CTL st) F.STN_TRAV_CTL_RECONF (reqFld r F.STN_TRAV_CTL_RECONF)

theorem State.fld_reconfSet (t : State) (st : Nat) (r : Req) :
    (t.reconfSet st r).fld (A.STN_TRAV_CTL st) F.STN_TRAV_CTL_RECONF = reqFld r F.STN_TRAV_CTL_RECONF :=
  (State.fld_setFld_same _ _ _ _ (by decide)).trans (Nat.mod_eq_of_lt (Fld.get_lt _ _))

theorem State.bit_reconfSet (t : State) (st : Nat) (r : Req) :
    (t.reconfSet st r).bit (A.STN_TRAV_CTL st) F.STN_TRAV_CTL_RECONF = decide (reqFld r F.STN_TRAV_CTL_RECONF ≠ 0) := by
  rw [State.bit, State.fld_reconfSet]

include hrow ht

/-- A write that is allowed: RECONF, the retirement, and the release of the held heads when RECONF clears. -/
theorem State.writeStnTrav_eq {u : State}
    (hu : u = if reqFld r F.STN_TRAV_CTL_RETIRE_OLD = 1
      then (t.reconfSet st r).setFld (A.STN_TRAV_CTL st) F.STN_TRAV_CTL_OLD_VALID 0 else t.reconfSet st r) :
    s.writeStnTrav st r = (if s.bit (A.STN_TRAV_CTL st) F.STN_TRAV_CTL_RECONF &&
      !u.bit (A.STN_TRAV_CTL st) F.STN_TRAV_CTL_RECONF then u.releaseAll st else u, Code.OK) := by
  subst hu
  unfold State.writeStnTrav
  dsimp only
  rw [hrow]
  dsimp only
  rw [ht]
  rfl

theorem State.writeStnTrav_keepsReconf (h : reqFld r F.STN_TRAV_CTL_RETIRE_OLD ≠ 1)
    (hb : s.bit (A.STN_TRAV_CTL st) F.STN_TRAV_CTL_RECONF = false ∨ reqFld r F.STN_TRAV_CTL_RECONF = 1) :
    s.writeStnTrav st r = (t.reconfSet st r, Code.OK) := by
  rw [State.writeStnTrav_eq hrow ht (if_neg h).symm, State.bit_reconfSet, if_neg]
  obtain hb | hb := hb
  · rw [hb, Bool.false_and]
    exact Bool.false_ne_true
  · rw [hb, Bool.and_comm]
    exact Bool.false_ne_true

/-- The clearing of RECONF releases every held head (R84). -/
theorem State.writeStnTrav_clearsReconf (h : reqFld r F.STN_TRAV_CTL_RETIRE_OLD ≠ 1)
    (hb : s.bit (A.STN_TRAV_CTL st) F.STN_TRAV_CTL_RECONF = true) (hr : reqFld r F.STN_TRAV_CTL_RECONF = 0) :
    s.writeStnTrav st r = ((t.reconfSet st r).releaseAll st, Code.OK) := by
  rw [State.writeStnTrav_eq hrow ht (if_neg h).symm, State.bit_reconfSet, hb, hr]
  exact congrArg (·, Code.OK) (if_pos rfl)

/-- With RECONF at 0 a retirement releases nothing. -/
theorem State.writeStnTrav_retiresOld (h : reqFld r F.STN_TRAV_CTL_RETIRE_OLD = 1)
    (hb : s.bit (A.STN_TRAV_CTL st) F.STN_TRAV_CTL_RECONF = false) :
    s.writeStnTrav st r =
      ((t.reconfSet st r).setFld (A.STN_TRAV_CTL st) F.STN_TRAV_CTL_OLD_VALID 0, Code.OK) := by
  rw [State.writeStnTrav_eq hrow ht (if_pos h).symm, hb, Bool.false_and, if_neg Bool.false_ne_true]

end

/-! ### Invalidation -/

/-- A sweep of traverse `x`, or of all with none, begins. -/
def State.sweepStarted (s : State) (p : Nat) (x : Option (BitVec 2)) : State :=
  (s.modNi p (fun n => { n with inv := some (x, s.datum) })).setFld (A.NI_ROUTE_STATUS p) F.NI_ROUTE_STATUS_INV_BUSY 1

/-- A sweep is over, and the ways that it swept are gone. -/
def State.sweepEnded (s : State) (p : Nat) : State :=
  (s.modNi p (fun n => { n with
    inv := none
    cache := n.cache.foldl (fun c e => tset [] c e.1 (s.cacheWays p e.1)) n.cache })).setFld (A.NI_ROUTE_STATUS p)
      F.NI_ROUTE_STATUS_INV_BUSY 0

section
variable {s : State} {p : Nat}

/-- INV_GO is refused while a sweep runs, and starts one otherwise. -/
theorem State.writeRouteCtl_go {r : Req} (hgo : reqFld r F.NI_ROUTE_CTL_INV_GO = 1) :
    ((s.ni p).inv.isSome = true → s.writeRouteCtl p r = (s, Code.DENY)) ∧
    ((s.ni p).inv = none → s.writeRouteCtl p r = (s.sweepStarted p (if reqFld r F.NI_ROUTE_CTL_INV_ALL = 1 then none
      else some (BitVec.ofNat 2 (reqFld r F.NI_ROUTE_CTL_INV_TRAV))), Code.OK)) := by
  unfold State.writeRouteCtl
  rw [if_neg (by rw [hgo]; decide)]
  exact ⟨fun h => if_pos h, fun h => if_neg (by rw [h]; decide)⟩

theorem State.sweepStarted_spec (x : Option (BitVec 2)) :
    ((s.sweepStarted p x).ni p).inv = some (x, s.datum) ∧
    (s.sweepStarted p x).fld (A.NI_ROUTE_STATUS p) F.NI_ROUTE_STATUS_INV_BUSY = 1 ∧
    ∀ a, a ≠ A.NI_ROUTE_STATUS p → (s.sweepStarted p x).rd a = s.rd a := by
  refine ⟨?_, State.fld_setFld_same _ _ _ _ (by decide), fun a ha => State.rd_setFld_ne _ _ _ ha⟩
  rw [State.sweepStarted, State.ni_setFld, State.ni_modNi_same]

theorem State.sweepEnded_spec :
    ((s.sweepEnded p).ni p).inv = none ∧
    (s.sweepEnded p).fld (A.NI_ROUTE_STATUS p) F.NI_ROUTE_STATUS_INV_BUSY = 0 ∧
    (∀ a, a ≠ A.NI_ROUTE_STATUS p → (s.sweepEnded p).rd a = s.rd a) ∧ ∀ q, q ≠ p → (s.sweepEnded p).ni q = s.ni q := by
  unfold State.sweepEnded
  refine ⟨?_, State.fld_setFld_same _ _ _ _ (by decide), fun a ha => State.rd_setFld_ne _ _ _ ha, fun q hq => ?_⟩
  · rw [State.ni_setFld, State.ni_modNi_same]
  · rw [State.ni_setFld, State.ni_modNi_ne _ _ hq]

end

/-- The sweep of 1,024 sets takes one fclk for each. -/
theorem execInvSweepDone_eq {p : Fin 144} {s : State} {x : Option (BitVec 2)} {d : Nat}
    (h : (s.ni p.val).inv = some (x, d)) :
    exec (.invSweepDone p) s = .next (if s.datum < d + 1024 then s else s.sweepEnded p.val) := by
  show execInvSweepDone p s = _
  unfold execInvSweepDone
  rw [h]
  dsimp only
  split <;> rfl

/-! ### Served writes -/

section
variable {r : Req} {s u : State} {c : BitVec 4}

theorem exec_stnTravWrite_serves {st : Fin 36} (ha : s.admits (A.STN_TRAV_CTL st.val) r)
    (h : s.writeStnTrav st.val r = (u, c)) :
    exec (.reconfWrite st r) s = .next (u.ans (A.STN_TRAV_CTL st.val) r c) ∧
    exec (.retireOld st r) s = .next (u.ans (A.STN_TRAV_CTL st.val) r c) :=
  have hs : s.serve (A.STN_TRAV_CTL st.val) r (·.writeStnTrav st.val r) = u.ans (A.STN_TRAV_CTL st.val) r c :=
    State.serve_eq ha h
  ⟨congrArg Host.Outcome.next hs, congrArg Host.Outcome.next hs⟩

theorem execInvGo_serves {p : Fin 144} (ha : s.admits (A.NI_ROUTE_CTL p.val) r) (h : s.writeRouteCtl p.val r = (u, c)) :
    exec (.invGo p r) s = .next (u.ans (A.NI_ROUTE_CTL p.val) r c) :=
  have hs : s.serve (A.NI_ROUTE_CTL p.val) r (·.writeRouteCtl p.val r) = u.ans (A.NI_ROUTE_CTL p.val) r c :=
    State.serve_eq ha h
  congrArg Host.Outcome.next hs

end

/-- Settles O32: the two registers' own rules where a write of them is served, and the sweep by its equation. -/
theorem traverseControlAndInvalidation : Obligations.TraverseControlAndInvalidation := by
  refine ⟨fun st r s t row ha hrow ht => ⟨fun hold => ⟨fun hb => ⟨?_, t.fld_reconfSet st.val r, fun a hne =>
    State.rd_setFld_ne _ _ _ hne⟩, fun hb hr => ?_⟩, fun hold hb => ?_⟩, fun p r s ha hgo => ?_, fun p s x d h => ?_⟩
  · exact (exec_stnTravWrite_serves ha (State.writeStnTrav_keepsReconf hrow ht hold hb)).1
  · exact (exec_stnTravWrite_serves ha (State.writeStnTrav_clearsReconf hrow ht hold hb hr)).1
  · exact (exec_stnTravWrite_serves ha (State.writeStnTrav_retiresOld hrow ht hold hb)).2
  · obtain ⟨hdeny, hok⟩ := State.writeRouteCtl_go (s := s) (p := p.val) hgo
    exact ⟨fun h => execInvGo_serves ha (hdeny h), fun h => ⟨_, execInvGo_serves ha (hok h), State.sweepStarted_spec _⟩⟩
  · rw [execInvSweepDone_eq h]
    exact ⟨fun hlt => by rw [if_pos hlt], fun hle => ⟨_, by rw [if_neg (by omega)], State.sweepEnded_spec⟩⟩

end Sys2Proof.Machine
end

section
/-!
PROOFS. The FMP's route-around, its drain and the isolation of a port that no route reaches (R85, R86, R290).
-/
namespace Sys2Proof.Machine

/-! ### ROUTE_AROUND (R86) -/

section
variable {s : State} (hf : s.fwState = Fw.SERVING)
include hf

/-- Nothing is under way that a route-around must wait for. -/
theorem execRouteAround_starts (hrun : s.fmp.aroundRun = none) (haround : s.fmp.around.isEmpty = false)
    (hdrain : s.fmp.drain = none) (hown : s.fmp.own7 = none) (hidle : s.idle7 = true) (hopen : s.openMode = true)
    (htkt : s.anyTkt (fun t => (resOf t.cmd).contains .routes) = false) :
    exec .routeAround s = .next s.startAround := by
  show execRouteAround s = _
  unfold execRouteAround
  rw [if_neg (not_not_intro hf), hrun]
  dsimp only
  rw [haround, hdrain, hown, hidle, hopen, htkt]
  rfl

variable {n : Nat} {stalled : Bool} (hrun : s.fmp.aroundRun = some (n, stalled))
include hrun

/-- The switch is placed in the open set and the set closed. -/
theorem execRouteAround_closes {o : Own7} (hown : s.fmp.own7 = some o) (hk : o.kind = 5) (hset : s.setSt 7 = SetSt.OPEN) :
    exec .routeAround s = .next ((s.placeAll 7 (s.switchShadows n)).1.close7 0 2048) := by
  show execRouteAround s = _
  unfold execRouteAround
  rw [if_neg (not_not_intro hf), hrun]
  dsimp only
  rw [hown]
  exact if_pos ⟨hk, hset⟩

theorem execRouteAround_ends (hown : s.fmp.own7 = none) : exec .routeAround s = .next (s.endAround n stalled) := by
  show execRouteAround s = _
  unfold execRouteAround
  rw [if_neg (not_not_intro hf), hrun]
  dsimp only
  rw [hown]

end

/-- The stake did not apply: the bank stays prepared, and the causes wait. -/
theorem State.endAround_aborted {s : State} {n : Nat} (stalled : Bool) (h : s.curTrav 192 ≠ n) :
    s.endAround n stalled = { s with fmp := { s.fmp with aroundRun := none, prep := some (n, 8) } } := if_pos h

/-- The stake applied and nothing drains. -/
theorem State.endAround_switched {s : State} {n : Nat} (stalled : Bool) (h : s.curTrav 192 = n) (hd : s.fmp.drain = none) :
    s.endAround n stalled = s.aroundDone := by
  unfold State.endAround
  rw [if_neg (not_not_intro h), hd]

/-! ### DRAIN_STALL (R85 step 5) -/

/-- The FMP stops polling the drain, its own route-around with it. -/
def State.drainLeft (s : State) : State :=
  { s with fmp := { s.fmp with stalled := true, aroundRun := s.fmp.aroundRun.map (fun e => (e.1, true)) } }

theorem execDrainStall_leaves {s : State} {c d : Nat} (hdrain : s.fmp.drain = some (c, d)) (hst : s.fmp.stalled = false)
    (hdone : s.drainDone c = false) (hlate : d + 20000000 ≤ s.datum) (hfw : s.fwState ≠ Fw.HALTED)
    (hret : s.fmp.retire = none) : exec .drainStall s = .next (s.drainLeft.raise 1362) := by
  show execDrainStall s = _
  unfold execDrainStall
  rw [hdrain]
  dsimp only
  refine if_neg ?_
  rw [hst, hdone, hret]
  simp [hfw, hlate]

/-! ### ISOLATE_NO_ROUTE (R290 cause 2) -/

theorem execIsolateNoRoute_isolates {p : Fin 144} {s : State} (hr : s.reachable p.val = false)
    (hst : s.niState p.val = PortStt.ENABLED ∨ s.niState p.val = PortStt.QUIESCE ∨ s.niState p.val = PortStt.DISABLING) :
    exec (.isolateNoRoute p) s = .next (s.isolate p.val 2) := if_pos ⟨hst, by rw [hr]; rfl⟩

theorem execIsolateNoRoute_reachable {p : Fin 144} {s : State} (hr : s.reachable p.val = true) :
    exec (.isolateNoRoute p) s = .next s := if_neg fun h => absurd h.2 (by rw [hr]; decide)

/-- Settles O33: the route-around by its stages, the stall of the drain and the isolation by their equations. -/
theorem routeAround : Obligations.RouteAround := by
  refine ⟨fun s hf => ⟨execRouteAround_starts hf, fun n b o hrun => execRouteAround_closes hf hrun, fun n b hrun hown =>
    ⟨execRouteAround_ends hf hrun hown, fun hn => ?_, State.endAround_switched b⟩⟩,
    fun s c d hdrain hst hdone hlate hfw hret =>
      ⟨s.drainLeft, execDrainStall_leaves hdrain hst hdone hlate hfw hret, rfl, hdrain, rfl, rfl⟩,
    fun p s => execIsolateNoRoute_isolates, fun p s => execIsolateNoRoute_reachable⟩
  rw [State.endAround_aborted b hn]
  exact ⟨rfl, rfl⟩

end Sys2Proof.Machine
end

section
/-!
PROOFS. Which bytes of the bulk memory which commands can change (R105, R326, R367, R442).
-/
namespace Sys2Proof.Machine

/-! ### Bytes that a function leaves alone -/

theorem State.mem_of_frame {s t : State} (h : t.frame = s.frame) : t.mem = s.mem := congrArg Prod.fst h

/-- With its memory kept the block keeps every byte. -/
theorem State.rdByte_of_frame {s t : State} (h : t.frame = s.frame) (a : Nat) : t.rdByte a = s.rdByte a := by
  rw [State.rdByte, State.rdByte, State.mem_of_frame h]

/-- A write of `n` bytes between functions that keep the memory. -/
theorem State.rdByte_of_frame_wrMem {s t u : State} {a v n b : Nat} (hu : u.frame = (t.wrMem a v n).frame)
    (ht : t.frame = s.frame) (hb : b < a ∨ a + n ≤ b) : u.rdByte b = s.rdByte b := by
  rw [State.rdByte_of_frame hu, State.rdByte_wrMem_out n t a v b hb, State.rdByte_of_frame ht]

section
variable {α : Type} {d : Nat → α} {k : Nat}

/-- Without an entry of key `k` in its first part a store reads at `k` what its second part reads. -/
theorem Store.get_append_of_forall_ne {l : List (Nat × α)} (m : List (Nat × α)) (h : ∀ e ∈ l, e.1 ≠ k) :
    Store.get d (l ++ m) k = Store.get d m k := by
  induction l with
  | nil => rfl
  | cons e l ih =>
    obtain ⟨he, hl⟩ := List.forall_mem_cons.1 h
    rw [List.cons_append, Store.get, if_neg he.symm, ih hl]

/-- Entries of other keys behind a store change nothing at `k`. -/
theorem Store.get_append_of_forall_ne_right {m : List (Nat × α)} (l : List (Nat × α)) (h : ∀ e ∈ m, e.1 ≠ k) :
    Store.get d (l ++ m) k = Store.get d l k := by
  induction l with
  | nil => simpa using Store.get_append_of_forall_ne (d := d) [] h
  | cons e l ih => rw [List.cons_append, Store.get, Store.get, ih]

/-- A choice of entries by their keys that takes `k` keeps what `k` reads. -/
theorem Store.get_filter (p : Nat → Bool) (hp : p k = true) (m : List (Nat × α)) :
    Store.get d (m.filter fun e => p e.1) k = Store.get d m k := by
  induction m with
  | nil => rfl
  | cons e m ih =>
    rw [List.filter_cons]
    split
    · rw [Store.get, Store.get, ih]
    · next he =>
      have hne : k ≠ e.1 := fun h => he (h ▸ hp)
      rw [Store.get, if_neg hne, ih]

end

/-- The replacement of a range leaves the bytes outside it alone. -/
theorem State.rdByte_replaceMem_out (s : State) {lo hi a : Nat} {cells : List Host.Cell} (hl : lo ≤ hi)
    (hc : ∀ e ∈ cells, lo ≤ e.1 ∧ e.1 < hi) (ha : a < lo ∨ hi ≤ a) :
    (s.replaceMem lo hi cells).rdByte a = s.rdByte a := by
  have hcells : ∀ e ∈ cells, e.1 ≠ a := fun e he => by have := hc e he; omega
  show Store.get _ (_ ++ (cells ++ _)) a = Store.get _ s.mem a
  rcases ha with ha | ha
  · have habove : ∀ e ∈ s.mem.filter (fun e => decide (hi ≤ e.1)), e.1 ≠ a := fun e he => by
      have := of_decide_eq_true (List.mem_filter.1 he).2
      omega
    rw [Store.get_append_of_forall_ne_right _ fun e he => (List.mem_append.1 he).elim (hcells e) (habove e)]
    exact Store.get_filter (fun k => decide (k < lo)) (decide_eq_true ha) s.mem
  · have hbelow : ∀ e ∈ s.mem.filter (fun e => decide (e.1 < lo)), e.1 ≠ a := fun e he => by
      have := of_decide_eq_true (List.mem_filter.1 he).2
      omega
    rw [Store.get_append_of_forall_ne _ hbelow, Store.get_append_of_forall_ne _ hcells]
    exact Store.get_filter (fun k => decide (hi ≤ k)) (decide_eq_true ha) s.mem

/-- The plats of another station keep their bytes (R367 step 3). -/
theorem State.rdByte_freeStation_out (s : State) {st a : Nat} (ha : a < platAddr st 0 0 0 ∨ platAddr (st + 1) 0 0 0 ≤ a) :
    (s.freeStation st).rdByte a = s.rdByte a :=
  s.rdByte_replaceMem_out (by simp only [platAddr]; omega) (freeCells_range st) ha

/-! ### The commands that write memory -/

/-- R105: the state in which the pending patch of entry `k` of plat `n` to `e` has applied. -/
def State.patchApplied (s : State) (i n k e : Nat) : State :=
  let u := s.modStn i (fun x => { x with patch := none })
  (u.wrMem (platAddr i n (s.platBank i n) k) e 2).setFld (A.STN_PLAT_PATCH i) F.STN_PLAT_PATCH_PENDING 0

/-- R105: a pending patch waits for its datum and applies at it. -/
theorem execPlatPatchApply_eq {i : Fin 36} {s : State} {n k e : Nat} (hp : (s.stn i.val).patch = some (n, k, e)) :
    exec (.platPatchApply i) s = .next (if s.nowOf (stnBlk i.val) < (s.rd (A.STN_PLAT_PATCH_TIME i.val)).toNat then s
      else s.patchApplied i.val n k e) := by
  show execPlatPatchApply i s = _
  unfold execPlatPatchApply
  dsimp only
  rw [hp]
  exact (apply_ite Host.Outcome.next ..).symm

/-- R105: a patch that applies, or one that waits, leaves the bytes outside its entry alone. -/
theorem execPlatPatchApply_rdByte_out {i : Fin 36} {s t : State} {n k e a : Nat} (ht : exec (.platPatchApply i) s = .next t)
    (hp : (s.stn i.val).patch = some (n, k, e))
    (ha : a < platAddr i.val n (s.platBank i.val n) k ∨ platAddr i.val n (s.platBank i.val n) k + 2 ≤ a) :
    t.rdByte a = s.rdByte a := by
  cases (execPlatPatchApply_eq hp).symm.trans ht
  split
  · rfl
  · exact State.rdByte_of_frame_wrMem (State.setFld_frame ..) (State.modStn_frame ..) ha

/-- R442: the bytes outside a bulk write. -/
theorem State.rdByte_bulkWrite_out (s : State) {a b : Nat} (r : Req) (hb : b < a ∨ a + 8 ≤ b) :
    (s.bulkWrite a r).rdByte b = s.rdByte b := by
  unfold State.bulkWrite
  split
  · rfl
  · dsimp only
    rw [State.rdByte_of_frame (State.ans_frame ..)]
    split
    · exact State.rdByte_wrMem_out 8 s a _ b hb
    · rfl

theorem execBulkTableWrite_rdByte_out {off : Fin 33554432} {r : Req} {s t : State} {a : Nat}
    (ht : exec (.bulkTableWrite off r) s = .next t) (ha : a < off.val ∨ off.val + 8 ≤ a) : t.rdByte a = s.rdByte a := by
  change execBulkTableWrite off r s = _ at ht
  cases ht
  split
  · rfl
  · exact s.rdByte_bulkWrite_out r ha

/-- R439: a write of the register part of the window leaves memory alone. -/
theorem execRegisterWrite_frame_low {off : Fin 33554432} {sz : Fin 9} {r : Req} {s t : State}
    (ht : exec (.registerWrite off sz r) s = .next t) (hlo : off.val < 0x1000000) : t.frame = s.frame := by
  have hserve (u : State) : (u.serve off.val r (·.regAct off.val r)).frame = u.frame :=
    u.serve_frame _ _ _ (State.regAct_frame ..)
  change execRegisterWrite off sz r s = _ at ht
  unfold execRegisterWrite at ht
  dsimp only at ht
  rw [if_neg (not_le.2 hlo)] at ht
  cases ht
  split_ifs
  · rfl
  · exact State.ans_frame ..
  · exact State.lockAccess_frame ..
  · exact State.mbxAccess_frame _ _ hserve
  · exact hserve s

theorem execRegisterWrite_rdByte_out {off : Fin 33554432} {sz : Fin 9} {r : Req} {s t : State} {a : Nat}
    (ht : exec (.registerWrite off sz r) s = .next t) (ha : a < off.val ∨ off.val + 8 ≤ a) : t.rdByte a = s.rdByte a := by
  by_cases hlo : off.val < 0x1000000
  · exact State.rdByte_of_frame (execRegisterWrite_frame_low ht hlo) a
  · change execRegisterWrite off sz r s = _ at ht
    unfold execRegisterWrite at ht
    dsimp only at ht
    rw [if_pos (not_lt.1 hlo)] at ht
    cases ht
    split_ifs
    · rfl
    · exact State.rdByte_of_frame (State.ans_frame ..) a
    · exact s.rdByte_bulkWrite_out r ha

/-- R326: a record that reaches the store, or is dropped, leaves the bytes outside its place alone. -/
theorem State.rdByte_storeTrace_out (s : State) (r : TraceRec) {a : Nat}
    (ha : a < 0x1800000 + 32 * s.fld A.SRV_TRACE_STATUS F.SRV_TRACE_STATUS_WPTR ∨
      0x1800000 + 32 * s.fld A.SRV_TRACE_STATUS F.SRV_TRACE_STATUS_WPTR + 32 ≤ a) :
    (s.storeTrace r).rdByte a = s.rdByte a := by
  unfold State.storeTrace
  dsimp only
  split
  · exact State.rdByte_of_frame s.traceDrop_frame a
  · refine State.rdByte_of_frame_wrMem (v := r.nat) ?_ rfl ha
    simp only [State.frame_ite, State.setFld_frame, State.gcnt_frame, ite_self]

theorem execTraceForward_rdByte_out {i : Fin 36} {s t : State} {a : Nat} (ht : exec (.traceForward i) s = .next t)
    (ha : a < 0x1800000 + 32 * s.fld A.SRV_TRACE_STATUS F.SRV_TRACE_STATUS_WPTR ∨
      0x1800000 + 32 * s.fld A.SRV_TRACE_STATUS F.SRV_TRACE_STATUS_WPTR + 32 ≤ a) : t.rdByte a = s.rdByte a := by
  change execTraceForward i s = _ at ht
  unfold execTraceForward at ht
  extract_lets x due at ht
  split at ht
  · cases ht; rfl
  · next r q _ =>
    split at ht <;> cases ht
    · exact ((s.setStn i.val _).rdByte_storeTrace_out r ha).trans (State.rdByte_of_frame (State.setStn_frame ..) a)
    · rfl

/-- R367: the test of a station leaves the plats of the others alone. -/
theorem execStationBistEnd_rdByte_out {i : Fin 36} {f : Fin 7} {s t : State} {a : Nat}
    (ht : exec (.stationBistEnd i f) s = .next t) (ha : a < platAddr i.val 0 0 0 ∨ platAddr (i.val + 1) 0 0 0 ≤ a) :
    t.rdByte a = s.rdByte a := by
  change execStationBistEnd i f s = _ at ht
  unfold execStationBistEnd at ht
  dsimp only at ht
  split at ht <;> cases ht
  · rfl
  · refine (State.rdByte_of_frame ?_ a).trans (s.rdByte_freeStation_out ha)
    simp only [State.tktResult_frame, State.setTests_frame, State.setFld_frame, State.modStn_frame]

/-- A ticket's work other than ENUMERATE's, ROUTE_PREPARE's, ROUTE_WRITE's and PLAT_STAGE's leaves memory alone. -/
theorem State.work_frame (s : State) (t : Tkt) (w : SlowEnd)
    (h : t.op ≠ 0x09 ∧ t.op ≠ 0x10 ∧ t.op ≠ 0x11 ∧ t.op ≠ 0x18) : (s.work t w).frame = s.frame := by
  obtain ⟨hEnumerate, hPrepare, hRouteWrite, hPlatStage⟩ := h
  unfold State.work
  split
  · exact s.writeOn_frame t
  split
  · exact s.workModeSet_frame t
  · exact s.workMapLoad_frame t
  · contradiction
  · exact s.workPortEnable_frame t
  · exact s.workPortDown_frame t 2
  · contradiction
  · contradiction
  · exact s.workSwitch_frame t
  · exact s.workDrain_frame t
  · exact s.workFinish_frame t
  · exact s.workCacheLoad_frame t
  · contradiction
  · exact s.workPlatSwap_frame t
  · exact s.workPlatRead_frame t
  · exact s.workChainProbe_frame t
  · exact s.workStateConfig_frame t
  · exact s.workPortDown_frame t 3
  · exact s.workDomainUp_frame t
  · exact s.workSurveyTake_frame t
  · exact s.workSurveyRead_frame t
  · exact s.workTraceRead_frame t
  · exact s.workTest_frame t
  · exact s.workVacate_frame t
  · exact s.workReturn_frame t
  · exact s.workReplan_frame t
  · exact s.workFwLoad_frame t w
  · exact s.workHandover_frame t
  · exact s.workJournalRead_frame t w

/-- R255: with none of these four commands' tickets of number `n` the completion leaves memory alone. -/
theorem execSlowCommandCompletion_frame {n : Fin 256} {w : SlowEnd} {s t : State}
    (ht : exec (.slowCommandCompletion n w) s = .next t)
    (h : ∀ x ∈ s.working, x.num = n.val → x.op ≠ 0x09 ∧ x.op ≠ 0x10 ∧ x.op ≠ 0x11 ∧ x.op ≠ 0x18) :
    t.frame = s.frame := by
  change execSlowCommandCompletion n w s = _ at ht
  unfold execSlowCommandCompletion at ht
  split at ht
  · cases ht; rfl
  · next x hx =>
    have hop := h x (List.mem_of_find?_eq_some hx) (by simpa using List.find?_some hx)
    split_ifs at ht <;> cases ht
    · rfl
    · rw [State.beat_frame, State.endTkt_frame]
    · rw [State.beat_frame, State.work_frame s x w hop]

/-- Settles O7: `exec_frame` for the commands that write no memory, and for the others the bytes outside what they store. -/
theorem memoryFrame : Obligations.MemoryFrame := by
  refine ⟨fun c s t hc ht => State.rdByte_of_frame ?_, fun i s t n k e ht hp a => execPlatPatchApply_rdByte_out ht hp,
    fun off r s t ht a => execBulkTableWrite_rdByte_out ht, fun off sz r s t ht =>
      ⟨fun a => execRegisterWrite_rdByte_out ht, fun hlo => State.rdByte_of_frame (execRegisterWrite_frame_low ht hlo)⟩,
    fun i s t ht a => execTraceForward_rdByte_out ht, fun i f s t ht a => execStationBistEnd_rdByte_out ht,
    fun n w s t ht h => State.rdByte_of_frame (execSlowCommandCompletion_frame ht h)⟩
  have hframe := exec_frame s hc
  rw [ht] at hframe
  exact Option.some.inj hframe

end Sys2Proof.Machine
end

section
/-!
PROOFS. Injection of chain flits and probes, and their arrival at a chain end (R96, R98, R101, R103, R287).
-/
namespace Sys2Proof.Machine

/-! ### Registers -/

/-- A flag of another register is kept. -/
theorem State.bit_setFld_ne (s : State) {a b : Nat} (f g : Fld) (v : Nat) (h : b ≠ a) :
    (s.setFld a f v).bit b g = s.bit b g := by
  rw [State.bit, State.fld_setFld_ne s f g v h, State.bit]

/-- What a field takes from a request fits into it. -/
theorem reqFld_mod (r : Req) (f : Fld) : reqFld r f % 2 ^ f.w = reqFld r f := Nat.mod_eq_of_lt (Fld.get_lt f r.data)

/-! ### Injection -/

section
variable {s : State} {b : Nat}

/-- R98, R103: what is driven is the oldest flit of a queue, when it is ready, or with an empty queue the NI's pending
probe. -/
inductive State.Drives (s : State) (b k : Nat) : Option SrcFlit → Prop
  | flit (f : SrcFlit) (q : List SrcFlit) (hq : s.srcQueue b k = f :: q) (hready : f.ready ≤ s.nowOf b) :
      s.Drives b k (some f)
  | probe (hq : s.srcQueue b k = []) : s.Drives b k none

/-- R96, R98, R103: where a chain end injects, the entry is valid, its instant is now and the block has not tripped. -/
theorem State.injects_spec {k : Nat} {x : Option SrcFlit} (h : s.injects b = some (k, x)) :
    s.srcValid b k = true ∧ s.instant b k (s.nowOf b) = true ∧ s.tripped = false ∧ s.Drives b k x := by
  unfold State.injects at h
  split at h
  · contradiction
  · next hgo =>
    have htrip : s.tripped = false := by
      rw [Bool.or_eq_true, not_or, Bool.not_eq_true] at hgo
      exact hgo.1
    split at h
    · contradiction
    · next k' hk =>
      have hentry := List.find?_some hk
      simp only [Bool.and_eq_true] at hentry
      obtain ⟨⟨hvalid, hinstant⟩, -⟩ := hentry
      split at h
      · next f q hq =>
        split at h <;> cases h
        exact ⟨hvalid, hinstant, htrip, .flit f q hq ‹_›⟩
      · next hq =>
        split at h <;> cases h
        exact ⟨hvalid, hinstant, htrip, .probe hq⟩

/-- R98: the G flit made of a queued flit as it goes. -/
def State.flitOut (s : State) (b k : Nat) (f : SrcFlit) : GFlit :=
  { flags := f.flags
    chain := BitVec.ofNat 14 (s.fld (srcCfgOf b k) F.NI_CHAIN_SRC_CFG_CHAIN)
    seq := f.seq
    stamp := f.stamp
    payload := f.payload }

/-- R103: the probe flit of an entry. -/
def State.probeOut (s : State) (b k : Nat) : GFlit :=
  { flags := 4
    chain := BitVec.ofNat 14 (s.fld (srcCfgOf b k) F.NI_CHAIN_SRC_CFG_CHAIN)
    seq := BitVec.ofNat 6 (s.fld (srcStatOf b k) F.NI_CHAIN_SRC_STAT_SEQ)
    stamp := BitVec.ofNat 16 (s.nowOf b)
    payload := BitVec.ofNat 256 (s.nowOf b % 2 ^ 64) }

/-- R103: the state in which the probe of an entry has gone out. -/
def State.probeSent (s : State) (b k : Nat) : State :=
  ((s.drive b (s.probeOut b k)).wr (A.NI_CHAIN_PROBE_TX b) (BitVec.ofNat 64 (s.nowOf b))).setFld (A.NI_CHAIN_CTL b)
    F.NI_CHAIN_CTL_PROBE_PEND 0

theorem State.probeSent_PROBE_TX (s : State) (b k : Nat) :
    (s.probeSent b k).rd (A.NI_CHAIN_PROBE_TX b) = BitVec.ofNat 64 (s.nowOf b) := by
  have hne : A.NI_CHAIN_PROBE_TX b ≠ A.NI_CHAIN_CTL b := fun h => absurd (Nat.add_left_cancel h) (by decide)
  rw [State.probeSent, State.rd_setFld_ne _ _ _ hne, State.rd_wr_same]

theorem State.probeSent_PROBE_PEND (s : State) (b k : Nat) :
    (s.probeSent b k).fld (A.NI_CHAIN_CTL b) F.NI_CHAIN_CTL_PROBE_PEND = 0 :=
  State.fld_setFld_same _ _ F.NI_CHAIN_CTL_PROBE_PEND 0 (by decide)

end

section
variable {b : Fin 156} {s : State}

/-- Without anything to inject, and where the chain end has driven a flit in this cycle, nothing goes. -/
theorem execChainInject_idle (h : s.injects b.val = none ∨ s.driveFree b.val = false) :
    exec (.chainInject b) s = .next s := by
  show execChainInject b s = _
  unfold execChainInject
  dsimp only
  split
  · rfl
  · next hfree =>
    rw [h.resolve_right (by simpa using hfree)]

variable {k : Nat} (hfree : s.driveFree b.val = true)
include hfree

theorem execChainInject_flit {f : SrcFlit} (h : s.injects b.val = some (k, some f)) :
    exec (.chainInject b) s =
      .next ((s.setSrcQueue b.val k (s.srcQueue b.val k).tail).drive b.val (s.flitOut b.val k f)) := by
  show execChainInject b s = _
  unfold execChainInject
  dsimp only
  rw [hfree, Bool.not_true, if_neg Bool.false_ne_true, h]
  rfl

theorem execChainInject_probe (h : s.injects b.val = some (k, none)) :
    exec (.chainInject b) s = .next (s.probeSent b.val k) := by
  show execChainInject b s = _
  unfold execChainInject
  dsimp only
  rw [hfree, Bool.not_true, if_neg Bool.false_ne_true, h]
  rfl

end

/-! ### Arrival -/

/-- R101: the oldest arrived flit waits for the cycle of its arrival and is then taken, after its last hop. -/
theorem execChainFlitReceive_eq {b : Fin 156} {e : LinkErr} {s : State} {x : GArrival} {rest : List GArrival}
    (h : (s.chain b.val).rx = x :: rest) :
    exec (.chainFlitReceive ⟨b, e⟩) s = .next (if s.datum < x.at' then s else
      let u := s.modChain b.val (fun c => { c with rx := rest })
      (if b.val < 144 then u.ncnt b.val 9 else u).takeG b.val { x with g := x.g.lastHop e }) := by
  show execChainFlitReceive ⟨b, e⟩ s = _
  unfold execChainFlitReceive
  dsimp only
  rw [h]
  exact (apply_ite Host.Outcome.next ..).symm

section
variable {p : Fin 144} {s : State} {x : GArrival}

theorem State.takeG_notEnabled (h : s.enabled p.val = false) : s.takeG p.val x = s.gDropped p.val x.g := by
  unfold State.takeG
  dsimp only
  rw [decide_eq_true p.isLt, h]
  exact if_pos rfl

variable (h : s.enabled p.val = true)
include h

/-- R101: a flit with an error beyond correction is counted for its entry, or as one without an entry. -/
theorem State.takeG_due (hd : x.g.err = .due) : s.takeG p.val x =
    (match s.dstEntry p.val x.g.chain with
     | some k => s.dstLoss p.val k F.NI_CHAIN_DST_STAT_DUE 1
     | none => s.unknownFlit p.val) := by
  unfold State.takeG
  dsimp only
  rw [h, Bool.not_true, Bool.and_false, if_neg Bool.false_ne_true]
  exact if_pos hd

/-- R101, R102: in PORT mode a flit with the expected SEQ moves it on and goes to the receive queue. -/
theorem State.takeG_expected {k : Nat} (hd : x.g.err ≠ .due) (hk : s.dstEntry p.val x.g.chain = some k)
    (hprobe : x.g.flags.getLsbD 2 = false) (hmode : s.bit (dstCfgOf p.val k) F.NI_CHAIN_DST_CFG_MODE = false)
    (hseq : x.g.seq.toNat = s.fld (dstStatOf p.val k) F.NI_CHAIN_DST_STAT_SEQ_EXP) :
    s.takeG p.val x =
      (s.setFld (dstStatOf p.val k) F.NI_CHAIN_DST_STAT_SEQ_EXP (x.g.seq.toNat + 1)).portFlit p.val k x := by
  have hgap : (x.g.seq.toNat + 64 - s.fld (dstStatOf p.val k) F.NI_CHAIN_DST_STAT_SEQ_EXP) % 64 = 0 := by omega
  have hne : dstCfgOf p.val k ≠ dstStatOf p.val k := by
    rw [dstCfgOf, dstStatOf, if_pos p.isLt, if_pos p.isLt, A.NI_CHAIN_DST_CFG, A.NI_CHAIN_DST_STAT]
    omega
  unfold State.takeG
  dsimp only
  rw [h, Bool.not_true, Bool.and_false, if_neg Bool.false_ne_true, if_neg hd, hk]
  dsimp only
  rw [hprobe, Bool.false_and, if_neg Bool.false_ne_true, hgap]
  rw [if_neg (c := (decide (0 ≠ 0) && !false) = true) (by decide), if_neg Bool.false_ne_true,
    State.bit_setFld_ne _ _ _ _ hne, hmode, Bool.false_and, if_neg Bool.false_ne_true]

end

/-- R102: a receive queue with room takes the flit. -/
theorem State.portFlit_room {s : State} {b k : Nat} {x : GArrival} (h : (s.dstQueue b k).length < 8) :
    s.portFlit b k x = s.setDstQueue b k (s.dstQueue b k ++ [x]) := if_neg (Nat.not_le.2 h)

/-! ### PROBE_GO -/

section
variable {p : Fin 144} {r : Req} {s : State}

/-- R103: the state in which PROBE_GO has made a probe of entry `k` pending. -/
def State.probePending (s : State) (p k : Nat) : State :=
  (s.setFld (A.NI_CHAIN_CTL p) F.NI_CHAIN_CTL_PROBE_IDX k).setFld (A.NI_CHAIN_CTL p) F.NI_CHAIN_CTL_PROBE_PEND 1

variable (hgo : reqFld r F.NI_CHAIN_CTL_PROBE_GO = 1)
  (hidx : isFmp r = true ∨ reqFld r F.NI_CHAIN_CTL_PROBE_IDX = s.fld (A.NI_CHAIN_CTL p.val) F.NI_CHAIN_CTL_PROBE_IDX)
include hgo hidx

/-- R103: a probe is made pending, or refused while one is. -/
theorem State.writeChainCtl_go : s.writeChainCtl p.val r =
    if s.bit (A.NI_CHAIN_CTL p.val) F.NI_CHAIN_CTL_PROBE_PEND then (s, Code.DENY)
    else (s.probePending p.val (reqFld r F.NI_CHAIN_CTL_PROBE_IDX), Code.OK) := by
  unfold State.writeChainCtl
  dsimp only
  rw [if_neg ?_, if_neg (by rw [hgo]; decide)]
  · rfl
  · rcases hidx with h | h <;> simp [h]

variable (ha : s.admits (A.NI_CHAIN_CTL p.val) r)
include ha

theorem execChainProbeGo_refuses (hp : s.bit (A.NI_CHAIN_CTL p.val) F.NI_CHAIN_CTL_PROBE_PEND = true) :
    exec (.chainProbeGo p r) s = .next (s.ans (A.NI_CHAIN_CTL p.val) r Code.DENY) :=
  congrArg Host.Outcome.next (State.serve_eq (act := (·.writeChainCtl p.val r)) ha
    ((State.writeChainCtl_go hgo hidx).trans (if_pos hp)))

theorem execChainProbeGo_accepts (hp : s.bit (A.NI_CHAIN_CTL p.val) F.NI_CHAIN_CTL_PROBE_PEND = false) :
    exec (.chainProbeGo p r) s = .next
      ((s.probePending p.val (reqFld r F.NI_CHAIN_CTL_PROBE_IDX)).ans (A.NI_CHAIN_CTL p.val) r Code.OK) :=
  congrArg Host.Outcome.next (State.serve_eq (act := (·.writeChainCtl p.val r)) ha
    ((State.writeChainCtl_go hgo hidx).trans (if_neg (by rw [hp]; decide))))

end

theorem State.probePending_spec (s : State) (p : Nat) (r : Req) :
    let t := s.probePending p (reqFld r F.NI_CHAIN_CTL_PROBE_IDX)
    t.fld (A.NI_CHAIN_CTL p) F.NI_CHAIN_CTL_PROBE_PEND = 1 ∧
    t.fld (A.NI_CHAIN_CTL p) F.NI_CHAIN_CTL_PROBE_IDX = reqFld r F.NI_CHAIN_CTL_PROBE_IDX ∧
    ∀ a, a ≠ A.NI_CHAIN_CTL p → t.rd a = s.rd a := by
  refine ⟨State.fld_setFld_same _ _ _ _ (by decide), ?_, fun a ha => ?_⟩
  · rw [State.probePending, State.fld_setFld_apart _ _ _ _ _ (by decide) (by decide),
      State.fld_setFld_same _ _ _ _ (by decide), reqFld_mod]
  · rw [State.probePending, State.rd_setFld_ne _ _ _ ha, State.rd_setFld_ne _ _ _ ha]

/-- Settles O34: injection by `State.injects_spec`, arrival by the cases of `State.takeG`, PROBE_GO by its register's
rule. -/
theorem chains : Obligations.Chains := by
  refine ⟨fun b s k x h => ?_, fun b s => execChainInject_idle, fun b e s x rest h => ?_,
    fun p s x hen => State.takeG_due hen, fun p s x => State.takeG_notEnabled,
    fun p k s x hen hd _ hk hprobe hmode hseq hroom => ?_, fun p r s ha hgo hidx =>
      ⟨execChainProbeGo_refuses hgo hidx ha, fun hp =>
        ⟨_, execChainProbeGo_accepts hgo hidx ha hp, s.probePending_spec p.val r⟩⟩⟩
  · obtain ⟨hvalid, hinstant, htrip, hdrives⟩ := State.injects_spec h
    refine ⟨hvalid, hinstant, htrip, ?_⟩
    cases hdrives with
    | flit f q hq hready =>
      refine ⟨fun f' hf => ?_, fun hn => nomatch hn⟩
      cases hf
      exact ⟨by rw [hq]; rfl, hready, fun hfree => execChainInject_flit hfree h⟩
    | probe hq =>
      exact ⟨fun f hf => (nomatch hf), fun _ => ⟨hq, fun hfree =>
        ⟨_, execChainInject_probe hfree h, s.probeSent_PROBE_TX b.val k, s.probeSent_PROBE_PEND b.val k⟩⟩⟩
  · rw [execChainFlitReceive_eq h]
    exact ⟨fun hlt => by rw [if_pos hlt], fun hle => by rw [if_neg (Nat.not_lt.2 hle)]⟩
  · rw [State.takeG_expected hen hd hk hprobe hmode hseq]
    exact State.portFlit_room hroom

end Sys2Proof.Machine
end

section
/-!
PROOFS. Patches of a plat's active bank: GO and the entry that is written (R105, R106).
-/
namespace Sys2Proof.Machine

/-! ### A write of several bytes -/

section
variable (s : State) (a v n : Nat)

@[simp] theorem State.wrMem_regs : (s.wrMem a v n).regs = s.regs := by
  induction n generalizing s a v with
  | zero => rfl
  | succ n ih => exact ih ..

@[simp] theorem State.wrMem_stns : (s.wrMem a v n).stns = s.stns := by
  induction n generalizing s a v with
  | zero => rfl
  | succ n ih => exact ih ..

@[simp] theorem State.rd_wrMem (b : Nat) : (s.wrMem a v n).rd b = s.rd b := by
  rw [State.rd, State.rd, State.wrMem_regs]

@[simp] theorem State.stn_wrMem (i : Nat) : (s.wrMem a v n).stn i = s.stn i := by
  rw [State.stn, State.stn, State.wrMem_stns]

end

theorem State.stn_setFld (s : State) (a : Nat) (f : Fld) (v i : Nat) : (s.setFld a f v).stn i = s.stn i := rfl

/-! ### GO -/

section
variable {s : State} {st : Nat} {r : Req}

/-- R105: the state in which the patch of the request waits for its frame. -/
def State.patchPending (s : State) (st : Nat) (r : Req) : State :=
  let a := A.STN_PLAT_PATCH st
  let n := reqFld r F.STN_PLAT_PATCH_PLAT
  let k := reqFld r F.STN_PLAT_PATCH_PARCEL
  let e := reqFld r F.STN_PLAT_PATCH_ENTRY
  let f := roundUp (s.nowOf (stnBlk st) + 4) (s.bankLen st n (s.platBank st n))
  let t := ((s.setFld a F.STN_PLAT_PATCH_PARCEL k).setFld a F.STN_PLAT_PATCH_PLAT n).setFld a F.STN_PLAT_PATCH_ENTRY e
  ((t.setFld a F.STN_PLAT_PATCH_PENDING 1).wr (A.STN_PLAT_PATCH_TIME st) (BitVec.ofNat 64 f)).modStn st
    (fun x => { x with patch := some (n, k, e) })

theorem State.patchPending_spec (s : State) (st : Nat) (r : Req) :
    let n := reqFld r F.STN_PLAT_PATCH_PLAT
    let t := s.patchPending st r
    (t.stn st).patch = some (n, reqFld r F.STN_PLAT_PATCH_PARCEL, reqFld r F.STN_PLAT_PATCH_ENTRY) ∧
    t.rd (A.STN_PLAT_PATCH_TIME st) =
      BitVec.ofNat 64 (roundUp (s.nowOf (stnBlk st) + 4) (s.bankLen st n (s.platBank st n))) ∧
    t.fld (A.STN_PLAT_PATCH st) F.STN_PLAT_PATCH_PENDING = 1 ∧ t.mem = s.mem := by
  have hne : A.STN_PLAT_PATCH st ≠ A.STN_PLAT_PATCH_TIME st := fun h => absurd (Nat.add_left_cancel h) (by decide)
  have hframe : (s.patchPending st r).frame = s.frame := by
    simp only [State.patchPending, State.modStn_frame, State.wr_frame, State.setFld_frame]
  refine ⟨?_, ?_, ?_, State.mem_of_frame hframe⟩
  · rw [State.patchPending, State.modStn, State.stn_setStn_same]
  · rw [State.patchPending, State.rd_modStn, State.rd_wr_same]
  · rw [State.patchPending, State.fld, State.rd_modStn, State.rd_wr_ne _ _ hne]
    exact State.fld_setFld_same _ _ F.STN_PLAT_PATCH_PENDING 1 (by decide)

/-- R6, log 22: a plat or a parcel that does not exist is a reserved encoding. -/
theorem State.writePatch_outOfRange (h : 11 ≤ reqFld r F.STN_PLAT_PATCH_PLAT ∨
      s.bankLen st (reqFld r F.STN_PLAT_PATCH_PLAT) (s.platBank st (reqFld r F.STN_PLAT_PATCH_PLAT)) ≤
        reqFld r F.STN_PLAT_PATCH_PARCEL) : s.writePatch st r = (s, Code.DENY) := if_pos h

/-- R105, R106: GO in range is refused while a patch is pending or a plat is locked, and is otherwise taken. -/
theorem State.writePatch_go (hn : reqFld r F.STN_PLAT_PATCH_PLAT < 11)
    (hk : reqFld r F.STN_PLAT_PATCH_PARCEL <
      s.bankLen st (reqFld r F.STN_PLAT_PATCH_PLAT) (s.platBank st (reqFld r F.STN_PLAT_PATCH_PLAT)))
    (hgo : reqFld r F.STN_PLAT_PATCH_GO = 1) :
    s.writePatch st r =
      if s.bit (A.STN_PLAT_PATCH st) F.STN_PLAT_PATCH_PENDING ∨ s.anyLocked st then (s, Code.DENY)
      else (s.patchPending st r, Code.OK) := by
  unfold State.writePatch
  dsimp only
  rw [if_neg (by omega), decide_eq_true hgo, Bool.not_true, if_neg Bool.false_ne_true]
  simp only [hgo, true_and]
  rfl

end

/-- R105: a write of STN_PLAT_PATCH that is served. -/
theorem execPlatPatchGo_serves {st : Fin 36} {r : Req} {s t : State} {c : BitVec 4}
    (ha : s.admits (A.STN_PLAT_PATCH st.val) r) (h : s.writePatch st.val r = (t, c)) :
    exec (.platPatchGo st r) s = .next (t.ans (A.STN_PLAT_PATCH st.val) r c) :=
  congrArg Host.Outcome.next (State.serve_eq (act := (·.writePatch st.val r)) ha h)

/-! ### The entry that is written -/

section
variable (s : State) (st n k e : Nat)

/-- R105: the entry of the active bank holds the new value. -/
theorem State.platAt_patchApplied : (s.patchApplied st n k e).platAt st n (s.platBank st n) k = e % 65536 :=
  (State.rdMem_congr 2 _ _ _ fun b _ _ => State.rdByte_of_frame (State.setFld_frame ..) b).trans
    (State.rdMem_wrMem 2 _ _ e)

theorem State.patch_patchApplied : ((s.patchApplied st n k e).stn st).patch = none := by
  rw [State.patchApplied, State.stn_setFld, State.stn_wrMem, State.modStn, State.stn_setStn_same]

theorem State.pending_patchApplied :
    (s.patchApplied st n k e).fld (A.STN_PLAT_PATCH st) F.STN_PLAT_PATCH_PENDING = 0 :=
  State.fld_setFld_same _ _ F.STN_PLAT_PATCH_PENDING 0 (by decide)

theorem State.rd_patchApplied_ne {a : Nat} (h : a ≠ A.STN_PLAT_PATCH st) :
    (s.patchApplied st n k e).rd a = s.rd a := by
  rw [State.patchApplied, State.rd_setFld_ne _ _ _ h, State.rd_wrMem, State.rd_modStn]

/-- R105: no byte outside the entry changes. -/
theorem State.rdMem_patchApplied_ne {a : Nat} (h : a ≠ platAddr st n (s.platBank st n) k)
    (h' : a ≠ platAddr st n (s.platBank st n) k + 1) : (s.patchApplied st n k e).rdMem a 1 = s.rdMem a 1 :=
  State.rdMem_congr 1 s _ a fun _ _ _ =>
    State.rdByte_of_frame_wrMem (State.setFld_frame ..) (State.modStn_frame ..) (by omega)

end

/-- Settles O35: GO by `State.writePatch_go`, the patch's datum by the bytes and registers that it writes. -/
theorem platPatches : Obligations.PlatPatches := by
  refine ⟨fun st r s ha => ⟨fun h => execPlatPatchGo_serves ha (State.writePatch_outOfRange h), fun hn hk hgo => ?_⟩,
    fun st s n k e hp => ?_⟩
  · have hw := State.writePatch_go hn hk hgo
    refine ⟨fun hbusy => execPlatPatchGo_serves ha (hw.trans (if_pos hbusy)), fun hpend hlock =>
      ⟨_, execPlatPatchGo_serves ha (hw.trans (if_neg ?_)), s.patchPending_spec st.val r⟩⟩
    rw [hpend, hlock]
    decide
  · rw [execPlatPatchApply_eq hp]
    refine ⟨fun hlt => by rw [if_pos hlt], fun hle => ⟨_, by rw [if_neg (Nat.not_lt.2 hle)], ?_⟩⟩
    exact ⟨s.platAt_patchApplied .., s.patch_patchApplied .., s.pending_patchApplied ..,
      fun a => s.rd_patchApplied_ne _ _ _ _, fun a => s.rdMem_patchApplied_ne _ _ _ _⟩

end Sys2Proof.Machine
end

section
/-!
PROOFS. Requests that a unit's IQ takes: chain puts, messages and barriers; the posted-write buffer and the progress of
barriers (R99, R100, R179, R183, R185, R226, R232).
-/
namespace Sys2Proof.Machine

/-! ### A request with its LAST beat -/

/-- A command that offers a beat on IQ is that beat's offer. -/
theorem exec_of_iqRequest {c : Instr} {p o : Nat} {b : IqBeat} (s : State) (h : iqRequest c = some (p, o, b)) :
    exec c s = .next (s.iq p o b) := by
  unfold iqRequest at h
  split at h <;> cases h <;> rfl

/-- The LAST beat of a request that is driven as it should be has its operation's effect. -/
theorem exec_iqRequest_last {c : Instr} {p o : Nat} {b : IqBeat} {s : State} (h : iqRequest c = some (p, o, b))
    (ha : s.accepts p o b) (hl : b.last = true) (hb : iqBad o b = false) (hq : (s.iqReq p o b).good (s.iqOp p o b)) :
    exec c s = .next (((s.iqMoved p o b).iqTaken p (s.iqOp p o b)).iqAct p (s.iqOp p o b) (s.iqReq p o b)
      ((s.iqMoved p o b).iqAcc p (s.iqOp p o b)) ((s.iqMoved p o b).iqKey p (s.iqOp p o b))) := by
  rw [exec_of_iqRequest s h, State.iq_last ha hl, hb, State.iqAccept_good hq]

section
variable (s : State) (p : Nat) (q : IqReq) (acc key : Nat)

theorem State.iqAct_barrier : s.iqAct p 5 q acc key = s.barrier p q acc key := rfl
theorem State.iqAct_chainPut : s.iqAct p 6 q acc key = s.chainPut p q := rfl
theorem State.iqAct_message : s.iqAct p 7 q acc key = s.message p q acc key := rfl

end

/-! ### Chain puts (R98 to R100, R226, R374) -/

@[simp] theorem State.chain_modChain_same (s : State) (b : Nat) (f : ChainEnd → ChainEnd) :
    (s.modChain b f).chain b = f (s.chain b) := Store.get_set_same ..
theorem State.chain_setFld (s : State) (a : Nat) (f : Fld) (v b : Nat) : (s.setFld a f v).chain b = s.chain b := rfl
theorem State.rd_modChain (s : State) (b : Nat) (f : ChainEnd → ChainEnd) (a : Nat) : (s.modChain b f).rd a = s.rd a := rfl

theorem State.srcQueue_setSrcQueue_same (s : State) (b k : Nat) (q : List SrcFlit) :
    (s.setSrcQueue b k q).srcQueue b k = q := by
  rw [State.srcQueue, State.setSrcQueue, State.chain_setFld, State.chain_setFld, State.chain_modChain_same]
  exact tget_tset_same ..

/-- A source queue's write keeps the entry's next SEQ. -/
theorem State.seq_setSrcQueue (s : State) (b k : Nat) (q : List SrcFlit) :
    (s.setSrcQueue b k q).fld (srcStatOf b k) F.NI_CHAIN_SRC_STAT_SEQ =
      s.fld (srcStatOf b k) F.NI_CHAIN_SRC_STAT_SEQ := by
  rw [State.setSrcQueue, State.fld_setFld_apart _ _ _ _ _ (by decide) (by decide),
    State.fld_setFld_apart _ _ _ _ _ (by decide) (by decide), State.fld, State.rd_modChain, State.fld]

section
variable (s : State) (p : Nat) (q : IqReq)

/-- R98, R100: the flit that a put makes: the NI's datum as its stamp, the entry's SEQ. -/
def State.putFlit : SrcFlit :=
  { payload := ((q.beats.map Prod.snd).headD 0).setWidth 256
    flags := q.mark.setWidth 4
    stamp := BitVec.ofNat 16 (s.nowOf p)
    seq := BitVec.ofNat 6 (s.fld (srcStatOf p q.chain.toNat) F.NI_CHAIN_SRC_STAT_SEQ)
    ready := s.nowOf p + 8 }

/-- R98, R100: the state in which a flit put to an entry with room has joined its queue. -/
def State.flitPut : State :=
  (s.setSrcQueue p q.chain.toNat (s.srcQueue p q.chain.toNat ++ [s.putFlit p q])).wrap (srcStatOf p q.chain.toNat)
    F.NI_CHAIN_SRC_STAT_SEQ

theorem State.srcQueue_flitPut :
    (s.flitPut p q).srcQueue p q.chain.toNat = s.srcQueue p q.chain.toNat ++ [s.putFlit p q] := by
  rw [State.flitPut, State.wrap, State.srcQueue, State.chain_setFld]
  exact State.srcQueue_setSrcQueue_same ..

theorem State.seq_flitPut : (s.flitPut p q).fld (srcStatOf p q.chain.toNat) F.NI_CHAIN_SRC_STAT_SEQ =
    (s.fld (srcStatOf p q.chain.toNat) F.NI_CHAIN_SRC_STAT_SEQ + 1) % 64 := by
  rw [State.flitPut, State.wrap, State.fld_setFld_same _ _ _ _ (by decide), State.seq_setSrcQueue]
  rfl

variable {s p q}

theorem State.chainPut_notValid (hv : s.srcValid p q.chain.toNat = false) : s.chainPut p q = s.portErr p 4 0 := by
  unfold State.chainPut
  dsimp only
  rw [hv]
  exact if_pos rfl

variable (hv : s.srcValid p q.chain.toNat = true)
include hv

theorem State.chainPut_restricted (hr : s.restricted p = true) : s.chainPut p q = s.srcDrops p q.chain.toNat 1 := by
  unfold State.chainPut
  dsimp only
  rw [hv, Bool.not_true, if_neg Bool.false_ne_true]
  exact if_pos hr

theorem State.chainPut_room (hr : s.restricted p = false) (hf : s.putFull p q.chain.toNat = false) :
    s.chainPut p q = s.flitPut p q := by
  unfold State.chainPut
  dsimp only
  rw [hv, Bool.not_true, if_neg Bool.false_ne_true, hr, if_neg Bool.false_ne_true, hf, if_neg Bool.false_ne_true]
  rfl

end

/-! ### Messages (R232) -/

section
variable {s : State} {p acc key : Nat} {q : IqReq}

theorem State.message_window (h64 : q.addr.toNat % 64 = 0) (hpage : q.addr.toNat / 2 ^ 13 % 8 = 0)
    (hlt : q.addr.toNat < 2 ^ 26) : s.message p q acc key = s.issue p 7 q
      { dest := BitVec.ofNat 18 (q.addr.toNat / 2 ^ 16 % 1024 * 256 + 240), addr := q.addr.toNat % 2 ^ 13
        ty := 0, kind := 0, stake := 0 } Cmd.MSG acc key true [(q.addr.toNat, 64)] := by
  unfold State.message
  dsimp only
  exact if_neg (by omega)

theorem State.message_outside (h : q.addr.toNat % 64 ≠ 0 ∨ q.addr.toNat / 2 ^ 13 % 8 ≠ 0 ∨ 2 ^ 26 ≤ q.addr.toNat) :
    s.message p q acc key = s.refuse p 7 q acc key 0x3FFFF Code.TGTERR := if_pos h

/-! ### Barriers accepted (R183, R179) -/

variable (hr : s.restricted p = false)
include hr

theorem State.barrier_unmapped (hx : s.translate p q.addr.toNat 0 = none) :
    s.barrier p q acc key = s.refuse p 5 q acc key 0x3FFFF Code.DENY := by
  unfold State.barrier
  rw [hr, if_neg Bool.false_ne_true, hx]

variable {x : Xlat} (hx : s.translate p q.addr.toNat 0 = some x)
include hx

/-- R183: a scope within the block for a destination in another one (R393). -/
theorem State.barrier_foreign (hsc : q.bscope = 1 ∨ q.bscope = 2)
    (hi : gidInst x.dest ≠ s.fld A.GLB_FED_ID F.GLB_FED_ID_INSTANCE) :
    s.barrier p q acc key = s.refuse p 5 q acc key x.dest Code.TGTERR := by
  have hscope : q.bscope.toNat = 1 ∨ q.bscope.toNat = 2 := hsc.imp (fun h => by rw [h]; rfl) (fun h => by rw [h]; rfl)
  unfold State.barrier
  rw [hr, if_neg Bool.false_ne_true, hx]
  exact if_pos ⟨hscope, hi⟩

/-- R183, R185: the barrier that an accepted request makes. -/
def barOf (q : IqReq) (d : Gid) (acc key : Nat) : Bar :=
  { tag := key, kind := q.bkind, scope := q.bscope, qos := q.qos, addr := q.addr, d := d, seq := acc }

/-- A barrier on one destination or on all joins those of the NI, and the lines it covers are flushed. -/
theorem State.barrier_joins (hsc : q.bscope = 0 ∨ q.bscope = 3) : s.barrier p q acc key =
    (s.modNi p (fun n => { n with barrs := n.barrs ++ [barOf q x.dest acc key] })).flush p
      (fun l => s.barCovers (barOf q x.dest acc key) (s.keyOf l.dest)) (some acc) := by
  have hscope : ¬(q.bscope.toNat = 1 ∨ q.bscope.toNat = 2) := by rcases hsc with h | h <;> rw [h] <;> decide
  unfold State.barrier
  rw [hr, if_neg Bool.false_ne_true, hx]
  dsimp only
  rw [if_neg fun h => hscope h.1, if_neg fun h => hscope (.inl h.1)]
  rfl

end

/-! ### The posted-write buffer (R179) -/

/-- Where no line is chosen nothing is flushed. -/
theorem State.flush_none {s : State} {p : Nat} {f : MLine → Bool} (h : ∀ l ∈ (s.ni p).merge, f l = false) :
    s.flush p f = s := by
  have hgo : (s.ni p).merge.filter f = [] := List.filter_eq_nil_iff.2 fun l hl => by rw [h l hl]; decide
  unfold State.flush
  dsimp only
  rw [hgo]
  rfl

section
variable {p : Fin 144} {r : Req} {s : State}

/-- WINDOW 0 is reserved. -/
theorem State.writeMergeCtl_noWindow (hw : reqFld r F.NI_MERGE_CTL_WINDOW = 0) :
    s.writeMergeCtl p.val r = (s, Code.DENY) := if_pos hw

/-- An accepted FLUSH flushes every line. -/
theorem State.writeMergeCtl_flush (hw : reqFld r F.NI_MERGE_CTL_WINDOW ≠ 0) (hf : reqFld r F.NI_MERGE_CTL_FLUSH = 1)
    (hc : (s.plainWrite (A.NI_MERGE_CTL p.val) r).2 = Code.OK) :
    s.writeMergeCtl p.val r = ((s.plainWrite (A.NI_MERGE_CTL p.val) r).1.flush p.val (fun _ => true), Code.OK) := by
  unfold State.writeMergeCtl
  rw [if_neg hw]
  dsimp only
  rw [hc, if_neg (not_not_intro rfl), if_pos hf]

theorem execMergeFlush_serves {t : State} {c : BitVec 4} (ha : s.admits (A.NI_MERGE_CTL p.val) r)
    (h : s.writeMergeCtl p.val r = (t, c)) : exec (.mergeFlush p r) s = .next (t.ans (A.NI_MERGE_CTL p.val) r c) :=
  congrArg Host.Outcome.next (State.serve_eq (act := (·.writeMergeCtl p.val r)) ha h)

end

/-! ### Barriers in progress (R185) -/

section
variable {p : Fin 144} {s : State} {b : Bar} {bs : List Bar} (h : (s.ni p.val).barrs = b :: bs)
include h

theorem execBarrierAdvance_flushes (hst : b.st = 0) : exec (.barrierAdvance p) s =
    .next ((s.setBarr p.val { b with st := 1 }).flush p.val (fun l => s.barCovers b (s.keyOf l.dest))) := by
  show execBarrierAdvance p s = _
  unfold execBarrierAdvance
  dsimp only
  rw [h]
  exact if_pos hst

/-- The lines are flushed: the barrier waits for the packets before it, then fences the covered keys, or completes. -/
theorem execBarrierAdvance_flushed (hst : b.st = 1) : exec (.barrierAdvance p) s =
    .next (if s.flushDone p.val b then
        let keys := (List.range 256).filter (fun d => s.barCovers b d && s.fence p.val d)
        if keys = [] then s.barDone p.val b else s.setBarr p.val { b with st := 2, todo := keys }
      else s) := by
  show execBarrierAdvance p s = _
  unfold execBarrierAdvance
  dsimp only
  rw [h]
  dsimp only
  rw [if_neg (by omega), if_pos hst]
  cases s.flushDone p.val b
  · rfl
  · simp only [List.isEmpty_iff, Bool.not_true, Bool.false_eq_true, if_false, if_true]
    split <;> rfl

variable (hst : 2 ≤ b.st)
include hst

/-- A port barrier is built when the builder waits for nothing and no port barrier waits. -/
theorem execBarrierAdvance_fences {d : Nat} {ds : List Nat} (htodo : b.todo = d :: ds) :
    exec (.barrierAdvance p) s = .next (if (s.ni p.val).rqWait = none ∧ (s.ni p.val).barQ = []
      then s.buildPortBar p.val b d ds else s) := by
  show execBarrierAdvance p s = _
  unfold execBarrierAdvance
  dsimp only
  rw [h]
  dsimp only
  rw [if_neg (by omega), if_neg (by omega), htodo]
  dsimp only
  simp only [Bool.and_eq_true, Option.isNone_iff_eq_none, List.isEmpty_iff]
  split <;> rfl

/-- With every port barrier sent the barrier waits for their answers. -/
theorem execBarrierAdvance_ends (htodo : b.todo = []) :
    exec (.barrierAdvance p) s = .next (if b.wait = [] then s.barDone p.val b else s) := by
  show execBarrierAdvance p s = _
  unfold execBarrierAdvance
  dsimp only
  rw [h]
  dsimp only
  rw [if_neg (by omega), if_neg (by omega), htodo]
  dsimp only
  simp only [List.isEmpty_iff]
  split <;> rfl

end

/-- Settles O45: a request by its operation's cases, the buffer by its flush, a barrier by the states of its progress. -/
theorem putsMessagesMergingAndBarriers : Obligations.PutsMessagesMergingAndBarriers := by
  refine ⟨?_, fun p s => rfl, fun p s f => State.flush_none, fun p r s ha => ?_, fun p s b bs h => ?_⟩
  · intro c p o b s hc ha hl op q w u acc key a hb hq
    have hexec : exec c s = .next (u.iqAct p op q acc key) := exec_iqRequest_last hc ha hl hb hq
    refine ⟨fun hop => ?_, fun hop => ?_, fun hop hr => ?_⟩ <;> rw [hexec, hop]
    · rw [State.iqAct_chainPut]
      exact ⟨fun hv => by rw [State.chainPut_notValid hv], fun hv hr => by rw [State.chainPut_restricted hv hr],
        fun hv hr hf => ⟨_, by rw [State.chainPut_room hv hr hf], u.srcQueue_flitPut p q, u.seq_flitPut p q⟩⟩
    · rw [State.iqAct_message]
      exact ⟨fun h64 hpage hlt => by rw [State.message_window h64 hpage hlt], fun h => by rw [State.message_outside h]⟩
    · rw [State.iqAct_barrier]
      exact ⟨fun hx => by rw [State.barrier_unmapped hr hx], fun x hx hsc => by rw [State.barrier_joins hr hx hsc]; rfl,
        fun x hx hsc hi => by rw [State.barrier_foreign hr hx hsc hi]⟩
  · exact ⟨fun hw => execMergeFlush_serves ha (State.writeMergeCtl_noWindow hw),
      fun hw hf hc => execMergeFlush_serves ha (State.writeMergeCtl_flush hw hf hc)⟩
  · refine ⟨execBarrierAdvance_flushes h, fun hst hd => ?_, fun hst hd => ?_, fun hst => ⟨fun d ds htodo hrq hbq => ?_,
      fun htodo hbusy => ?_, fun htodo hw => ?_, fun htodo hw => ?_⟩⟩
    · rw [execBarrierAdvance_flushed h hst, hd, if_neg Bool.false_ne_true]
    · rw [execBarrierAdvance_flushed h hst, hd, if_pos rfl]
      exact ⟨fun hk => congrArg _ (if_pos hk), fun hk => congrArg _ (if_neg hk)⟩
    · rw [execBarrierAdvance_fences h hst htodo, if_pos ⟨hrq, hbq⟩]
    · obtain ⟨d, ds, htodo⟩ := List.exists_cons_of_ne_nil htodo
      rw [execBarrierAdvance_fences h hst htodo, if_neg fun hidle => hbusy.elim (· hidle.1) (· hidle.2)]
    · rw [execBarrierAdvance_ends h hst htodo, if_pos hw]
    · rw [execBarrierAdvance_ends h hst htodo, if_neg hw]

end Sys2Proof.Machine
end

section
/-!
PROOFS. State slots of a target NI: the writes that meet them, the scan index of a flit, and the reception of SPUTs (R116 to
R120, R125).
-/
namespace Sys2Proof.Machine

/-! ### The write cycle (R119, R120) -/

section
variable {p : Fin 144} {s : State}

theorem execStateSlotWrite_writes {w : SlotW} (hat : (s.ni p).slotAt ≤ s.datum)
    (hw : nextSlotW s.datum (s.ni p).slotW = some w) : exec (.stateSlotWrite p) s =
      .next ((s.modNi p.val (fun n => { n with
        slotW := n.slotW.erase w
        slotAt := s.datum + 1 })).slotWrite p.val w) := by
  change execStateSlotWrite p s = _
  simp only [execStateSlotWrite]
  rw [if_neg (Nat.not_lt.2 hat), hw]

theorem execStateSlotWrite_idle (h : s.datum < (s.ni p).slotAt ∨ nextSlotW s.datum (s.ni p).slotW = none) :
    exec (.stateSlotWrite p) s = .next s := by
  change execStateSlotWrite p s = _
  simp only [execStateSlotWrite]
  split
  · rfl
  · rw [h.resolve_left ‹_›]

end

/-! ### Scans (R117) -/

section
variable {s : State} {p i : Nat} {w : SlotW} {x : ScanRef}

theorem State.slotWrite_noScan (hw : w.scan = none) : s.slotWrite p w = (s.slotPut p w).1 := by
  rw [State.slotWrite, hw]

theorem State.scanIndex_first (hx : x.first = true) (hi : s.scanIndex p x = some i) : i = 0 := by
  rw [State.scanIndex, if_pos hx] at hi
  exact (Option.some.inj hi).symm

theorem State.scanIndex_later (hx : x.first = false) (hi : s.scanIndex p x = some i) :
    ∃ l, tget none (s.chain p).scan x.entry = some l ∧ i = l + 1 + x.gap := by
  rw [State.scanIndex, if_neg (Bool.eq_false_iff.1 hx)] at hi
  obtain ⟨l, hl, he⟩ := Option.map_eq_some_iff.1 hi
  exact ⟨l, hl, he.symm⟩

theorem State.slotWrite_unsync (hw : w.scan = some x) (hi : s.scanIndex p x = none) :
    s.slotWrite p w = s.stCountB p F.NI_STATE_COUNT_B_UNSYNC := by
  simp only [State.slotWrite, hw, hi]

theorem State.slotWrite_beyondSpan (hw : w.scan = some x) (hi : s.scanIndex p x = some i) (hspan : x.span ≤ i) :
    s.slotWrite p w = s.stCountB p F.NI_STATE_COUNT_B_SPAN_ERR := by
  simp only [State.slotWrite, hw, hi]
  exact if_pos hspan

/-- R117: the write of a flit with scan index `i`, at its own slot. -/
def SlotW.atIndex (w : SlotW) (i : Nat) : SlotW := { w with slot := (w.slot + i) % 256 }

/-- A flit within its span meets the slot of its index; the entry's index moves on when the slot has been written. -/
theorem State.slotWrite_inSpan (hw : w.scan = some x) (hi : s.scanIndex p x = some i) (hspan : i < x.span) :
    s.slotWrite p w =
      if (s.slotPut p (w.atIndex i)).2 = true then
        (s.slotPut p (w.atIndex i)).1.modChain p (fun c => { c with scan := tset none c.scan x.entry (some i) })
      else (s.slotPut p (w.atIndex i)).1 := by
  have hy : ({ w with slot := (w.slot + i) % 256, scan := some x } : SlotW) = w.atIndex i := by rw [SlotW.atIndex, hw]
  simp only [State.slotWrite, hw, hi, hy]
  rw [if_neg (Nat.not_le.2 hspan)]
  obtain ⟨t, written⟩ := s.slotPut p (w.atIndex i)
  cases written <;> rfl

end

/-! ### A write meets its slot (R116, R119, R120, R125) -/

section
variable (s : State) (p : Nat)

/-- R119: a value that waits in slot `k` is counted as overwritten by the one that comes. -/
def State.countOverwrite (k : Nat) : State :=
  if s.slotSt p k = SlotSt.PENDING then (s.stCountA p F.NI_STATE_COUNT_A_OVERWRITE).ncnt p 21 else s

theorem State.ncnt_eventsOnly (j n : Nat) : s.EventsOnly (s.ncnt p j n) :=
  s.cnt_eventsOnly n (by show 0x30000 ≤ 0x400000 + p * 0x10000 + 0x4000 + j * 0x8; omega)

theorem State.stCountA_eventsOnly (f : Fld) : s.EventsOnly (s.stCountA p f) :=
  s.sat_eventsOnly f 1 (by show 0x30000 ≤ 0x400000 + p * 0x10000 + 0x1208; omega)

theorem State.countOverwrite_eventsOnly (k : Nat) : s.EventsOnly (s.countOverwrite p k) :=
  .ite ((s.stCountA_eventsOnly p _).trans (State.ncnt_eventsOnly ..)) (.refl s)

@[simp] theorem State.countOverwrite_datum (k : Nat) : (s.countOverwrite p k).datum = s.datum :=
  (s.countOverwrite_eventsOnly p k).datum

/-- Counting an overwritten value changes no slot's stamp or state. -/
theorem State.rd_STAMP_countOverwrite {j : Nat} (k : Nat) (hj : j < 256) :
    (s.countOverwrite p k).rd (A.NI_STATE_STAMP p j) = s.rd (A.NI_STATE_STAMP p j) := by
  have hcnt : A.NI_STATE_STAMP p j ≠ A.NI_CNT p 21 := by
    simp only [A.NI_STATE_STAMP, A.NI_CNT]
    omega
  have hcount : A.NI_STATE_STAMP p j ≠ A.NI_STATE_COUNT_A p := by
    simp only [A.NI_STATE_STAMP, A.NI_STATE_COUNT_A]
    omega
  unfold State.countOverwrite
  split
  · exact (State.rd_cnt_ne _ _ hcnt).trans (s.rd_setFld_ne _ _ hcount)
  · rfl

end

section
variable (s : State) (p k v : Nat)

theorem State.slotSt_setSlotSt (hv : v < 4) : (s.setSlotSt p k v).slotSt p k = v := by
  rw [State.setSlotSt, State.slotSt, State.fld, State.rd_modNi, ← State.fld, State.fld_setFld_same _ _ _ _ (by decide)]
  exact Nat.mod_eq_of_lt hv

theorem State.rd_setSlotSt_ne {a : Nat} (h : a ≠ A.NI_STATE_STAMP p k) : (s.setSlotSt p k v).rd a = s.rd a := by
  rw [State.setSlotSt, State.rd_modNi, State.rd_setFld_ne _ _ _ h]

theorem State.slots_setSlotSt : ((s.setSlotSt p k v).ni p).slots = (s.ni p).slots := by
  rw [State.setSlotSt, State.ni_modNi_same, State.ni_setFld]

/-- R121: a slot that becomes PENDING stands in the order. -/
theorem State.mem_order_setSlotSt : k ∈ ((s.setSlotSt p k SlotSt.PENDING).ni p).order := by
  rw [State.setSlotSt, State.ni_modNi_same, State.ni_setFld, if_pos rfl]
  split
  · exact List.contains_iff_mem.1 ‹_›
  · exact List.mem_append_right _ (List.mem_singleton_self _)

end

section
variable (s : State) (p : Nat) (w : SlotW) (x : Nat)

/-- The slot that a value has entered is PENDING. -/
theorem State.slotSt_storeSlot : (s.storeSlot p w x).slotSt p w.slot = SlotSt.PENDING :=
  State.slotSt_setSlotSt _ _ _ _ (by decide)

theorem State.slots_storeSlot :
    tget none ((s.storeSlot p w x).ni p).slots w.slot = some ⟨w.value, w.mark, x, s.datum⟩ := by
  rw [State.storeSlot, State.slots_setSlotSt, State.ni_setFld, State.ni_modNi_same]
  exact tget_tset_same _ _ _ (some (⟨w.value, w.mark, x, s.datum⟩ : SlotVal))

theorem State.mem_order_storeSlot : w.slot ∈ ((s.storeSlot p w x).ni p).order := State.mem_order_setSlotSt ..

theorem State.rd_STAMP_storeSlot_ne {k : Nat} (hk : k ≠ w.slot) :
    (s.storeSlot p w x).rd (A.NI_STATE_STAMP p k) = s.rd (A.NI_STATE_STAMP p k) := by
  have hne : A.NI_STATE_STAMP p k ≠ A.NI_STATE_STAMP p w.slot := by
    simp only [A.NI_STATE_STAMP]
    omega
  rw [State.storeSlot, State.rd_setSlotSt_ne _ _ _ _ hne, State.rd_setFld_ne _ _ _ hne, State.rd_modNi]

end

section
variable {s : State} {p : Nat} {w : SlotW}

theorem State.slotPut_off (h : s.enabled p = false ∨ s.bit (A.NI_STATE_CFG p w.slot) F.NI_STATE_CFG_EN = false) :
    s.slotPut p w = (s.stCountA p F.NI_STATE_COUNT_A_DISCARD, false) := by
  have hoff : (!s.enabled p || !s.bit (A.NI_STATE_CFG p w.slot) F.NI_STATE_CFG_EN) = true := by
    simpa using h
  rw [State.slotPut, if_pos hoff]

/-- A value whose stamp does not lie in the future meets an enabled slot with that stamp: it is behind the slot's, or enters
the slot. -/
theorem State.slotPut_on (hen : s.enabled p = true) (hcfg : s.bit (A.NI_STATE_CFG p w.slot) F.NI_STATE_CFG_EN = true)
    (hx : expandStamp w.bits (s.nowOf p) w.stamp ≤ s.nowOf p) :
    s.slotPut p w =
      if s.slotSt p w.slot ≠ SlotSt.EMPTY ∧ expandStamp w.bits (s.nowOf p) w.stamp < s.slotStamp p w.slot then
        (s.stCountA p F.NI_STATE_COUNT_A_BEHIND, false)
      else ((s.countOverwrite p w.slot).storeSlot p w (expandStamp w.bits (s.nowOf p) w.stamp), true) := by
  have hon : ¬ (!s.enabled p || !s.bit (A.NI_STATE_CFG p w.slot) F.NI_STATE_CFG_EN) = true := by simp [hen, hcfg]
  simp only [State.slotPut]
  rw [if_neg hon, if_neg (Nat.not_lt.2 hx), Nat.min_eq_left hx, State.countOverwrite]

end

/-! ### SPUT (R118) -/

theorem execSputReceive_takes {p : Fin 144} {s : State} {q : Pkt} {rest : List Pkt} (hq : (s.ni p).rxReq = q :: rest)
    (hc : q.h.cmd = Cmd.SPUT) :
    exec (.sputReceive p) s = .next ((s.modNi p.val (fun n => { n with rxReq := rest })).takeSput p.val q) := by
  change execSputReceive p s = _
  simp only [execSputReceive, hq]
  exact if_pos hc

/-- R118: a SPUT that is for the port, arrives whole and well formed, and lies in one slot. -/
structure State.SputFits (s : State) (p : Nat) (q : Pkt) : Prop where
  dest : q.h.dest = s.gid p
  enabled : s.enabled p = true
  whole : q.fails = false
  clean : q.h.clean = true
  inSlots : q.h.address.toNat < 2 ^ 14
  pos : 0 < q.h.bcount.toNat
  inSlot : q.h.address.toNat % 64 + q.h.bcount.toNat ≤ 64
  len : q.h.len.toNat = lenFor q.h.address.toNat q.h.bcount.toNat

/-- A SPUT that fits a slot which takes SPUTs is judged by its privilege alone. -/
theorem State.takeSput_fits {s : State} {p : Nat} {q : Pkt} (h : s.SputFits p q)
    (hen : s.bit (A.NI_STATE_CFG p (q.h.address.toNat / 64 % 256)) F.NI_STATE_CFG_EN = true)
    (hsput : s.bit (A.NI_STATE_CFG p (q.h.address.toNat / 64 % 256)) F.NI_STATE_CFG_SPUT_EN = true) :
    s.takeSput p q =
      if effPriv q.h.src q.h.priv < s.fld (A.NI_STATE_CFG p (q.h.address.toNat / 64 % 256)) F.NI_STATE_CFG_MIN_PRIV then
        (s.stCountB p F.NI_STATE_COUNT_B_DENIED).tcapPkt p Code.DENY q.h
      else
        s.queueSlot p
          { slot := q.h.address.toNat / 64
            value := BitVec.ofNat 512 (q.dataNat * 256 ^ (q.h.address.toNat % 64))
            mark := false
            stamp := q.h.stamp.toNat
            bits := 32
            chain := false
            due := s.datum + 5 } := by
  obtain ⟨hdest, hon, hwhole, hclean, hslots, hpos, hslot, hlen⟩ := h
  have hform : ¬ (2 ^ 14 ≤ q.h.address.toNat ∨ q.h.bcount.toNat = 0 ∨ 64 < q.h.bcount.toNat ∨
      64 < q.h.address.toNat % 64 + q.h.bcount.toNat ∨ q.h.len.toNat ≠ lenFor q.h.address.toNat q.h.bcount.toNat ∨
      (!q.h.clean) = true) := by
    rw [hclean]
    simp only [Bool.not_true, Bool.false_eq_true, or_false]
    omega
  simp only [State.takeSput]
  rw [if_neg (not_not_intro hdest), hon, Bool.not_true, if_neg Bool.false_ne_true, hwhole, if_neg Bool.false_ne_true,
    if_neg hform, hen, hsput]
  rfl

/-- Settles O36: a write by the cycle, the scan index and the slot that it meets; a SPUT by its privilege. -/
theorem stateChannels : Obligations.StateChannels := by
  refine ⟨fun p s w => execStateSlotWrite_writes, fun p s => execStateSlotWrite_idle, fun p s w x hw => ?_,
    fun p s w hlt hw => ?_, fun p s q rest => execSputReceive_takes, fun p s q => ?_⟩
  · refine ⟨State.slotWrite_unsync hw, fun i hi => ⟨fun hx => State.scanIndex_first hx hi,
      fun hx => State.scanIndex_later hx hi, State.slotWrite_beyondSpan hw hi,
      fun hspan => ⟨w.atIndex i, rfl, fun hput => ?_, fun hput => ?_⟩⟩⟩
    · rw [State.slotWrite_inSpan hw hi hspan, if_neg (Bool.eq_false_iff.1 hput)]
    · rw [State.slotWrite_inSpan hw hi hspan, if_pos hput]
  · rw [State.slotWrite_noScan hw]
    refine ⟨fun hoff => congrArg Prod.fst (State.slotPut_off hoff), fun hen hcfg => ?_⟩
    intro x hx
    rw [State.slotPut_on hen hcfg hx]
    refine ⟨fun hst hlow => by rw [if_pos ⟨hst, hlow⟩]; rfl, fun hput => ?_⟩
    rw [if_neg fun hbehind => hput.elim hbehind.1 (Nat.not_le.2 hbehind.2)]
    refine ⟨State.slotSt_storeSlot .., ?_, State.mem_order_storeSlot .., fun k hk hne => ?_⟩
    · rw [State.slots_storeSlot, State.countOverwrite_datum]
    · rw [State.rd_STAMP_storeSlot_ne _ _ _ _ hne, State.rd_STAMP_countOverwrite _ _ _ hk]
  · intro a n cfg hdest hon hwhole hclean hslots hpos hslot hlen hen hsput
    rw [State.takeSput_fits ⟨hdest, hon, hwhole, hclean, hslots, hpos, hslot, hlen⟩ hen hsput]
    exact ⟨fun hpriv => if_neg (Nat.not_lt.2 hpriv), fun hpriv => if_pos hpriv⟩

end Sys2Proof.Machine
end

section
/-!
PROOFS. The channels of a unit: the beats of TQ, TS and IS at an edge (R144, R207, R208, R212, R213, R216).
-/
namespace Sys2Proof.Machine

theorem State.EventsOnly.nis {s t : State} (h : s.EventsOnly t) : t.nis = s.nis := congrArg (·.nis) h.rest

/-- Counting changes nothing that an NI holds beside its registers. -/
@[simp] theorem State.ni_ncnt (s : State) (p j n q : Nat) : (s.ncnt p j n).ni q = s.ni q := by
  rw [State.ni, (s.ncnt_eventsOnly p j n).nis, State.ni]

/-! ### TQ (R144, R208) -/

section
variable {p : Fin 144} {ready : Bool} {s : State} (hd : s.datum % 2 = 0) (hpwr : s.pwrUp p.val = true)
  (hen : s.enabled p.val = true) (hq : s.bit (A.NI_PORT_STATUS p.val) F.NI_PORT_STATUS_QREQ = false)
  (hat : (s.ni p.val).tqAt ≤ s.datum)
include hd hpwr hen hq hat

/-- At an edge the NI offers what it chooses, or drives nothing. -/
theorem execTqOffer_chooses :
    let u := s.modNi p.val (fun n => { n with tqAt := s.datum + 1 })
    exec (.tqOffer p ready) s = .next (match (u.choose p.val).2 with
      | none => (u.choose p.val).1.modNi p.val (fun n => { n with tqOut := none })
      | some o =>
        let x := (u.choose p.val).1
        let y := x.modNi p.val (fun n => { n with tqOut := some (x.offerBeat p.val o) })
        if ready = false then y.ncnt p.val 4
        else if (x.offerBeat p.val o).last = true then (y.transfer p.val o).ncnt p.val 3 else y.transfer p.val o) := by
  intro u
  show execTqOffer p ready s = _
  unfold execTqOffer
  have hedge : ¬ (s.datum % 2 ≠ 0 || !s.pwrUp p.val || s.bit (A.NI_PORT_STATUS p.val) F.NI_PORT_STATUS_QREQ ||
      !s.enabled p.val || decide (s.datum < (s.ni p.val).tqAt)) = true := by
    simp [hd, hpwr, hen, hq, hat]
  dsimp only
  rw [if_neg hedge]
  change (match u.choose p.val with | (s, none) => _ | (s, some o) => _) = _
  rcases u.choose p.val with ⟨x, _ | o⟩
  · rfl
  · cases ready <;> rfl

end

/-! ### TS (R216, R226) -/

section
variable {p : Fin 144} {b : TsBeat} {s : State} (hd : s.datum % 2 = 0) (hpwr : s.pwrUp p.val = true)
  (hrs : (s.ni p.val).rsWait = none) (hat : (s.ni p.val).tsAt ≤ s.datum)
include hd hpwr hrs hat

/-- A beat on TS is counted, and its parity is checked before it meets what waits for it. -/
theorem execTsAnswer_checks :
    let u := (s.modNi p.val (fun n => { n with tsAt := s.datum + 1 })).ncnt p.val 5
    let v := u.interrupt p.val b.tag.toNat
    exec (.tsAnswer p b) s = .next (if tsBad b = true then u.portErr p.val 5 b.tag.toNat
      else if (v.ni p.val).tsDrop.contains b.tag.toNat = true then
        if b.last = true then v.modNi p.val (fun n => { n with tsDrop := n.tsDrop.erase b.tag.toNat }) else v
      else match tget none (v.ni p.val).tout b.tag.toNat with
        | none => v.portErr p.val 6 b.tag.toNat
        | some x => v.tsBeat p.val x b) := by
  intro u v
  show execTsAnswer p b s = _
  unfold execTsAnswer
  have hedge : ¬ (s.datum % 2 ≠ 0 || !s.pwrUp p.val || !s.tsReady p.val || decide (s.datum < (s.ni p.val).tsAt)) = true := by
    simp [State.tsReady, hd, hpwr, hrs, hat]
  dsimp only
  rw [if_neg hedge]
  split
  · rfl
  · split
    · rfl
    · change (match tget none (v.ni p.val).tout b.tag.toNat with | none => _ | some x => _) = _
      cases tget none (v.ni p.val).tout b.tag.toNat <;> rfl

end

/-! ### IS (R207, R212) -/

/-- The next beat of an answer, with what is still to be driven after it. -/
def IsAns.beatOf (a : IsAns) (be : BitVec 64) (data : BitVec 512) (more : List (BitVec 64 × BitVec 512 × Nat)) : IsBeat :=
  { kind := a.kind, tag := a.tag, status := a.status, last := more.isEmpty, be := be, data := data }

section
variable {p : Fin 144} {ready : Bool} {s : State} {a : IsAns} {rest : List IsAns} {be : BitVec 64} {data : BitVec 512}
  {more : List (BitVec 64 × BitVec 512 × Nat)} {c : Nat} (hd : s.datum % 2 = 0) (hpwr : s.pwrUp p.val = true)
  (hat : (s.ni p.val).isAt ≤ s.datum) (hq : (s.ni p.val).isQ = a :: rest) (hb : a.beats = (be, data, c) :: more)
include hd hpwr hat hq hb

/-- The beat is driven; it transfers when the unit is ready, and the tag is free with the last one. -/
theorem execIsPresent_drives :
    let u := s.modNi p.val (fun n => { n with isOut := some (a.beatOf be data more) })
    let v := (u.modNi p.val (fun n => { n with isAt := s.datum + 1 })).ncnt p.val 2
    exec (.isPresent p ready) s = .next (if ready = false then u
      else if more = [] then (v.modNi p.val (fun n => { n with isQ := rest })).setAcc p.val a.tag none
      else v.modNi p.val (fun n => { n with isQ := { a with beats := more } :: rest })) := by
  intro u v
  show execIsPresent p ready s = _
  unfold execIsPresent
  have hedge : ¬ (s.datum % 2 ≠ 0 || !s.pwrUp p.val || decide (s.datum < (s.ni p.val).isAt)) = true := by
    simp [hd, hpwr, hat]
  dsimp only
  rw [if_neg hedge, hq]
  dsimp only
  rw [hb]
  cases ready
  · rfl
  · cases more <;> rfl

end

/-- Settles O37: each channel by what its command does at an edge. -/
theorem unitChannels : Obligations.UnitChannels := by
  refine ⟨fun p ready s hd hpwr hen hq hat => ?_, fun p b s hd hpwr hrs hat => ?_,
    fun p ready s a rest be data more hd hpwr hat hq c hb => ?_⟩
  · have h := execTqOffer_chooses (ready := ready) hd hpwr hen hq hat
    exact ⟨fun hnone => by rw [h, hnone], fun o ho => by rw [h, ho]⟩
  · have h := execTsAnswer_checks (b := b) hd hpwr hrs hat
    refine ⟨fun hb => by rw [h, if_pos hb], fun hb hdrop => ?_⟩
    dsimp only at h
    rw [if_neg (Bool.eq_false_iff.1 hb), if_neg (Bool.eq_false_iff.1 hdrop)] at h
    exact ⟨fun hnone => by rw [h, hnone], fun x hx => by rw [h, hx]⟩
  · have h := execIsPresent_drives (ready := ready) hd hpwr hat hq hb
    refine ⟨_, h, ?_⟩
    cases ready
    · simpa [IsAns.beatOf] using hq
    · cases more <;> simp [IsAns.beatOf, State.setAcc, State.acc, tget_tset_same]

end Sys2Proof.Machine
end

section
/-!
PROOFS. The stake controller's sets: what the operations on a set read and leave alone (R128, R131, R141).
-/
namespace Sys2Proof.Machine

section
variable (s : State)

@[simp] theorem State.rd_modSet (n : Nat) (f : StkSet → StkSet) (a : Nat) : (s.modSet n f).rd a = s.rd a := rfl
@[simp] theorem State.fld_modSet (n : Nat) (f : StkSet → StkSet) (a : Nat) (g : Fld) :
    (s.modSet n f).fld a g = s.fld a g := rfl
@[simp] theorem State.setSt_modSet (n : Nat) (f : StkSet → StkSet) (k : Nat) : (s.modSet n f).setSt k = s.setSt k := rfl
@[simp] theorem State.sset_modSet_same (n : Nat) (f : StkSet → StkSet) : (s.modSet n f).sset n = f (s.sset n) :=
  tget_tset_same _ _ _ (f (s.sset n))
@[simp] theorem State.modSet_datum (n : Nat) (f : StkSet → StkSet) : (s.modSet n f).datum = s.datum := rfl
@[simp] theorem State.reqs_modSet (n : Nat) (f : StkSet → StkSet) : (s.modSet n f).stk.reqs = s.stk.reqs := rfl
@[simp] theorem State.reqs_reqPass (n cmd : Nat) : (s.reqPass n cmd).stk.reqs = s.stk.reqs ++ [⟨n, cmd, s.datum⟩] := rfl
@[simp] theorem State.rd_reqPass (n cmd a : Nat) : (s.reqPass n cmd).rd a = s.rd a := rfl
@[simp] theorem State.fld_reqPass (n cmd a : Nat) (g : Fld) : (s.reqPass n cmd).fld a g = s.fld a g := rfl
@[simp] theorem State.setSt_reqPass (n cmd k : Nat) : (s.reqPass n cmd).setSt k = s.setSt k := rfl
@[simp] theorem State.sset_reqPass (n cmd k : Nat) : (s.reqPass n cmd).sset k = s.sset k := rfl
@[simp] theorem State.toSet_stk (n v : Nat) : (s.toSet n v).stk = s.stk := rfl
@[simp] theorem State.toSet_datum (n v : Nat) : (s.toSet n v).datum = s.datum := rfl
@[simp] theorem State.toSet_glb (n v : Nat) : (s.toSet n v).glb = s.glb := rfl
@[simp] theorem State.sset_toSet (n v k : Nat) : (s.toSet n v).sset k = s.sset k := rfl

/-- A controller state is shown in two registers. -/
theorem State.rd_toSet_ne (n v : Nat) {a : Nat} (h : a ≠ A.STK_SET_STATUS n) (hs : a ≠ A.STK_SUMMARY) :
    (s.toSet n v).rd a = s.rd a := by
  rw [State.toSet, State.rd_setFld_ne _ _ _ hs, State.rd_setFld_ne _ _ _ h]

theorem STK_SET_STATUS_ne_STK_SUMMARY (n : Nat) : A.STK_SET_STATUS n ≠ A.STK_SUMMARY := by
  show 0x2110 + n * 0x40 ≠ 0x2008
  omega

theorem State.setSt_toSet (n : Nat) {v : Nat} (hv : v < 16) : (s.toSet n v).setSt n = v := by
  rw [State.toSet, State.setSt, State.fld_setFld_ne _ _ _ _ (STK_SET_STATUS_ne_STK_SUMMARY n),
    State.fld_setFld_same _ _ _ _ (by decide)]
  exact Nat.mod_eq_of_lt hv

/-- The other fields of STK_SETn_STATUS are kept. -/
theorem State.fld_toSet_apart (n v : Nat) {g : Fld} (hg : 4 ≤ g.lo) :
    (s.toSet n v).fld (A.STK_SET_STATUS n) g = s.fld (A.STK_SET_STATUS n) g := by
  rw [State.toSet, State.fld_setFld_ne _ _ _ _ (STK_SET_STATUS_ne_STK_SUMMARY n),
    State.fld_setFld_apart _ _ F.STK_SET_STATUS_STATE _ _ (by decide) (.inl hg)]

/-! An abort (R141). -/

theorem State.rd_abortSet_ne (n reason : Nat) {a : Nat} (h : a ≠ A.STK_SET_STATUS n) (hs : a ≠ A.STK_SUMMARY) :
    (s.abortSet n reason).rd a = s.rd a := by
  rw [State.abortSet, State.rd_reqPass, State.rd_modSet, s.rd_toSet_ne n _ h hs]

theorem State.fld_abortSet_apart (n reason : Nat) {g : Fld} (hg : 4 ≤ g.lo) :
    (s.abortSet n reason).fld (A.STK_SET_STATUS n) g = s.fld (A.STK_SET_STATUS n) g := by
  rw [State.abortSet, State.fld_reqPass, State.fld_modSet, s.fld_toSet_apart n _ hg]

theorem State.setSt_abortSet (n reason : Nat) : (s.abortSet n reason).setSt n = SetSt.ABORTING := by
  rw [State.abortSet, State.setSt_reqPass, State.setSt_modSet, s.setSt_toSet n (by decide)]

theorem State.reason_abortSet (n reason : Nat) : ((s.abortSet n reason).sset n).reason = reason := by
  rw [State.abortSet, State.sset_reqPass, State.sset_modSet_same]

theorem State.reqs_abortSet (n reason : Nat) :
    (s.abortSet n reason).stk.reqs = s.stk.reqs ++ [⟨n, PassCmd.ABORT, s.datum⟩] := by
  rw [State.abortSet, State.reqs_reqPass, State.reqs_modSet, State.modSet_datum, State.toSet_stk, State.toSet_datum]

end

end Sys2Proof.Machine
end

section
/-!
PROOFS. OPEN, CLOSE and ABORT of a stake set (R132, R136, R141).
-/
namespace Sys2Proof.Machine

/-! ### Opening (R132, R334) -/

section
variable (s : State) (n : Nat) (r : Req)

/-- R132: the registers that say which blocks take part in the set, all at 0. -/
def State.partsCleared (s : State) (n : Nat) : State :=
  stakeBlocks.foldl (fun s b => (s.wr (A.STK_PART n b) 0).wr (A.STK_SHAD n b) 0) s

theorem State.partsCleared_stk : (s.partsCleared n).stk = s.stk :=
  foldl_fixes (·.stk) (fun _ _ => by rfl) _ s
theorem State.partsCleared_datum : (s.partsCleared n).datum = s.datum :=
  foldl_fixes (·.datum) (fun _ _ => by rfl) _ s

/-- R132: the registers of a set that has just been opened. -/
def State.setOpened (s : State) (n : Nat) (r : Req) : State :=
  (((((s.wr (A.STK_SET_CTL n) 0).wr (A.STK_SET_T n) 0).partsCleared n).setFld (A.STK_SET_STATUS n) F.STK_SET_STATUS_OWNER
    r.src.toNat).setFld (A.STK_SET_STATUS n) F.STK_SET_STATUS_SEQ_ERR 0).setFld (A.STK_SET_FAULT n) F.STK_SET_FAULT_STATION 0xFF

theorem State.setOpened_stk : (s.setOpened n r).stk = s.stk := by
  rw [State.setOpened, State.setFld_stk, State.setFld_stk, State.setFld_stk, State.partsCleared_stk, State.wr_stk, State.wr_stk]
theorem State.setOpened_datum : (s.setOpened n r).datum = s.datum := by
  rw [State.setOpened, State.setFld_datum, State.setFld_datum, State.setFld_datum, State.partsCleared_datum, State.wr_datum, State.wr_datum]

theorem State.openSet_eq : s.openSet n r =
    (((s.setOpened n r).modSet n (fun _ => {})).toSet n SetSt.OPENING).reqPass n PassCmd.COLLECT := by
  unfold State.openSet State.setOpened State.partsCleared
  rfl

/-- What an accepted OPEN leaves in the set's status and asks of the sequencer. -/
theorem State.openSet_spec : (s.openSet n r).setSt n = SetSt.OPENING ∧
    (s.openSet n r).fld (A.STK_SET_STATUS n) F.STK_SET_STATUS_OWNER = r.src.toNat ∧
    (s.openSet n r).stk.reqs = s.stk.reqs ++ [⟨n, PassCmd.COLLECT, s.datum⟩] := by
  have hfault : A.STK_SET_STATUS n ≠ A.STK_SET_FAULT n := by
    show 0x2110 + n * 0x40 ≠ 0x2130 + n * 0x40
    omega
  rw [State.openSet_eq]
  refine ⟨?_, ?_, ?_⟩
  · rw [State.setSt_reqPass, State.setSt_toSet _ _ (by decide)]
  · rw [State.fld_reqPass, State.fld_toSet_apart _ _ _ (by decide), State.fld_modSet, State.setOpened,
      State.fld_setFld_ne _ _ _ _ hfault, State.fld_setFld_apart _ _ _ _ _ (by decide) (by decide),
      State.fld_setFld_same _ _ _ _ (by decide)]
    exact Nat.mod_eq_of_lt r.src.isLt
  · rw [State.reqs_reqPass, State.toSet_stk, State.toSet_datum, State.reqs_modSet, State.modSet_datum, State.setOpened_stk,
      State.setOpened_datum]

/-- Asking the sleeping stations to wake changes registers of stations alone. -/
theorem State.rd_wakeSleepers {a : Nat} (ha : a < 0x100000) : s.wakeSleepers.rd a = s.rd a := by
  unfold State.wakeSleepers
  refine foldl_fixes (·.rd a) (fun t i => ?_) _ s
  split
  · rw [State.rd_modStn, State.rd_setFld_ne _ _ _ (by simp only [A.STN_PWR_STATUS, A.stnBase]; omega)]
  · rfl

theorem State.wakeSleepers_stk : s.wakeSleepers.stk = s.stk := by
  unfold State.wakeSleepers
  refine foldl_fixes (·.stk) (fun t i => ?_) _ s
  split
  · rw [State.modStn_stk, State.setFld_stk]
  · rfl

end

/-! ### Closing (R136) -/

section
variable (s : State) (n : Nat)

/-- The T of a set closed now, rounded up to its granule. -/
def State.granT (s : State) (n : Nat) : Nat :=
  let g := granOf (s.fld (A.STK_SET_CTL n) F.STK_SET_CTL_GRAN)
  roundUp (s.rd (A.STK_SET_T n)).toNat (if s.fld (A.STK_SET_CTL n) F.STK_SET_CTL_MODE = 1 then max g 2 else g)

/-- The blocks that take part in a set. -/
def State.partCount (s : State) (n : Nat) : Nat :=
  (stakeBlocks.filter (fun b => s.bit (A.STK_PART n b) F.STK_PART_PART || s.bit (A.STK_SHAD n b) F.STK_SHAD_PART)).length

/-- The registers of a set that is closed now. -/
def State.closeWritten (s : State) (n : Nat) : State :=
  (((s.wr (A.STK_SET_CLOSE_TIME n) (BitVec.ofNat 64 s.datum)).wr (A.STK_SET_EFF_T n) (BitVec.ofNat 64 (s.granT n))).setFld
    (A.STK_SET_STATUS n) F.STK_SET_STATUS_PARTS (s.partCount n)).setFld (A.STK_SET_STATUS n) F.STK_SET_STATUS_LATE
      (if decide (s.granT n < s.datum + 2048) then 1 else 0)

/-- What a CLOSE records before the set goes on or is aborted: a late one is counted. -/
def State.closeNoted (s : State) (n : Nat) : State :=
  if decide (s.granT n < s.datum + 2048) then (s.closeWritten n).sat A.STK_TOTALS F.STK_TOTALS_LATE else s.closeWritten n

/-- A close that goes on: the plats of the set are locked, and an EXPECT pass is asked for. -/
def State.closeGoes (s : State) (n : Nat) (late : Bool) : State :=
  ((((s.lockPlats (s.swapPlats n) 1).modSet n (fun x => { x with asap := late, plats := s.swapPlats n })).toSet n
    SetSt.CLOSING).reqPass n PassCmd.EXPECT)

theorem State.closeSet_eq : s.closeSet n =
    let late := decide (s.granT n < s.datum + 2048)
    if late && (s.closeNoted n).fld (A.STK_SET_CTL n) F.STK_SET_CTL_LATE_POLICY = 0 then (s.closeNoted n).abortSet n 4
    else (s.closeNoted n).closeGoes n late := by
  unfold State.closeSet State.closeNoted State.closeWritten State.partCount
  rfl

/-! What the recording of a close leaves in the set's registers. -/

theorem State.closeNoted_stk : (s.closeNoted n).stk = s.stk := by
  have h : (s.closeWritten n).stk = s.stk := by
    rw [State.closeWritten, State.setFld_stk, State.setFld_stk, State.wr_stk, State.wr_stk]
  unfold State.closeNoted
  split
  · rw [State.sat_stk, h]
  · exact h

theorem State.closeNoted_datum : (s.closeNoted n).datum = s.datum := by
  have h : (s.closeWritten n).datum = s.datum := by
    rw [State.closeWritten, State.setFld_datum, State.setFld_datum, State.wr_datum, State.wr_datum]
  unfold State.closeNoted
  split
  · rw [State.sat_datum, h]
  · exact h

/-- Beside the counts only registers of the set change. -/
theorem State.rd_closeNoted {a : Nat} (ht : a ≠ A.STK_TOTALS) : (s.closeNoted n).rd a = (s.closeWritten n).rd a := by
  unfold State.closeNoted
  split
  · exact State.rd_setFld_ne _ _ _ ht
  · rfl

theorem State.closeNoted_spec :
    (s.closeNoted n).rd (A.STK_SET_CLOSE_TIME n) = BitVec.ofNat 64 s.datum ∧
    (s.closeNoted n).rd (A.STK_SET_EFF_T n) = BitVec.ofNat 64 (s.granT n) ∧
    (s.closeNoted n).fld (A.STK_SET_STATUS n) F.STK_SET_STATUS_LATE = (if s.granT n < s.datum + 2048 then 1 else 0) ∧
    (s.closeNoted n).rd (A.STK_SET_CTL n) = s.rd (A.STK_SET_CTL n) := by
  have hne (k : Nat) : 0x2100 + k + n * 0x40 ≠ A.STK_TOTALS := by
    show 0x2100 + k + n * 0x40 ≠ 0x2010
    omega
  have hap {j k : Nat} (h : j ≠ k) : j + n * 0x40 ≠ k + n * 0x40 := by omega
  refine ⟨?_, ?_, ?_, ?_⟩
  · rw [State.rd_closeNoted _ _ (hne 0x20), State.closeWritten, State.rd_setFld_ne _ _ _ (hap (by decide)),
      State.rd_setFld_ne _ _ _ (hap (by decide)), State.rd_wr_ne _ _ (hap (by decide)), State.rd_wr_same]
  · rw [State.rd_closeNoted _ _ (hne 0x18), State.closeWritten, State.rd_setFld_ne _ _ _ (hap (by decide)),
      State.rd_setFld_ne _ _ _ (hap (by decide)), State.rd_wr_same]
  · rw [State.fld, State.rd_closeNoted _ _ (hne 0x10), ← State.fld, State.closeWritten,
      State.fld_setFld_same _ _ _ _ (by decide)]
    by_cases h : s.granT n < s.datum + 2048
    · rw [if_pos h, if_pos (decide_eq_true h)]
      rfl
    · rw [if_neg h, if_neg (by simpa using h)]
      rfl
  · rw [State.rd_closeNoted _ _ (hne 0), State.closeWritten, State.rd_setFld_ne _ _ _ (hap (by decide)),
      State.rd_setFld_ne _ _ _ (hap (by decide)), State.rd_wr_ne _ _ (hap (by decide)), State.rd_wr_ne _ _ (hap (by decide))]

/-! What locking plats leaves alone. -/

theorem State.rd_lockPlats (ps : List (Nat × Nat)) (v : Nat) {a : Nat} (ha : a < 0x100000) :
    (s.lockPlats ps v).rd a = s.rd a :=
  foldl_fixes (·.rd a) (fun t e => t.rd_setFld_ne _ _ (by simp only [A.STN_PLAT_CTL, A.stnBase]; omega)) ps s

theorem State.lockPlats_stk (ps : List (Nat × Nat)) (v : Nat) : (s.lockPlats ps v).stk = s.stk :=
  foldl_fixes (·.stk) (fun t _ => t.setFld_stk _ _ _) ps s

theorem State.lockPlats_datum (ps : List (Nat × Nat)) (v : Nat) : (s.lockPlats ps v).datum = s.datum :=
  foldl_fixes (·.datum) (fun t _ => t.setFld_datum _ _ _) ps s

/-! A close that goes on. -/

section
variable (late : Bool)

theorem State.rd_closeGoes {a : Nat} (ha : a < 0x100000) (hst : a ≠ A.STK_SET_STATUS n) (hsum : a ≠ A.STK_SUMMARY) :
    (s.closeGoes n late).rd a = s.rd a := by
  rw [State.closeGoes, State.rd_reqPass, State.rd_toSet_ne _ _ _ hst hsum, State.rd_modSet, State.rd_lockPlats _ _ _ ha]

theorem State.LATE_closeGoes (hn : n < 8) : (s.closeGoes n late).fld (A.STK_SET_STATUS n) F.STK_SET_STATUS_LATE =
    s.fld (A.STK_SET_STATUS n) F.STK_SET_STATUS_LATE := by
  rw [State.closeGoes, State.fld_reqPass, State.fld_toSet_apart _ _ _ (by decide), State.fld_modSet, State.fld,
    State.rd_lockPlats _ _ _ (by show 0x2110 + n * 0x40 < 0x100000; omega), State.fld]

theorem State.setSt_closeGoes : (s.closeGoes n late).setSt n = SetSt.CLOSING := by
  rw [State.closeGoes, State.setSt_reqPass, State.setSt_toSet _ _ (by decide)]

theorem State.asap_closeGoes : ((s.closeGoes n late).sset n).asap = late := by
  rw [State.closeGoes, State.sset_reqPass, State.sset_toSet, State.sset_modSet_same]

theorem State.reqs_closeGoes : (s.closeGoes n late).stk.reqs = s.stk.reqs ++ [⟨n, PassCmd.EXPECT, s.datum⟩] := by
  rw [State.closeGoes, State.reqs_reqPass, State.toSet_stk, State.toSet_datum, State.reqs_modSet, State.modSet_datum,
    State.lockPlats_stk, State.lockPlats_datum]

end

/-! The three ways in which a CLOSE ends. -/

theorem State.closeSet_inTime (h : s.datum + 2048 ≤ s.granT n) : s.closeSet n = (s.closeNoted n).closeGoes n false := by
  rw [State.closeSet_eq, decide_eq_false (Nat.not_lt.2 h)]
  rfl

theorem State.closeSet_late (h : s.granT n < s.datum + 2048) : s.closeSet n =
    if s.fld (A.STK_SET_CTL n) F.STK_SET_CTL_LATE_POLICY = 0 then (s.closeNoted n).abortSet n 4
    else (s.closeNoted n).closeGoes n true := by
  obtain ⟨-, -, -, hctl⟩ := s.closeNoted_spec n
  rw [State.closeSet_eq, decide_eq_true h, State.fld, hctl, ← State.fld]
  simp only [Bool.true_and, decide_eq_true_eq]

/-- However a CLOSE ends, the registers that it has written stand. -/
theorem State.closeSet_keeps (hn : n < 8) :
    (∀ a, a < 0x100000 → a ≠ A.STK_SET_STATUS n → a ≠ A.STK_SUMMARY → (s.closeSet n).rd a = (s.closeNoted n).rd a) ∧
    (s.closeSet n).fld (A.STK_SET_STATUS n) F.STK_SET_STATUS_LATE =
      (s.closeNoted n).fld (A.STK_SET_STATUS n) F.STK_SET_STATUS_LATE := by
  rw [State.closeSet_eq]
  dsimp only
  split
  · exact ⟨fun a _ hst hsum => State.rd_abortSet_ne _ _ _ hst hsum, State.fld_abortSet_apart _ _ _ (by decide)⟩
  · exact ⟨fun a ha hst hsum => State.rd_closeGoes _ _ _ ha hst hsum, State.LATE_closeGoes _ _ _ hn⟩

theorem State.closeSet_written (hn : n < 8) :
    (s.closeSet n).rd (A.STK_SET_CLOSE_TIME n) = BitVec.ofNat 64 s.datum ∧
    (s.closeSet n).rd (A.STK_SET_EFF_T n) = BitVec.ofNat 64 (s.granT n) ∧
    (s.closeSet n).fld (A.STK_SET_STATUS n) F.STK_SET_STATUS_LATE = if s.granT n < s.datum + 2048 then 1 else 0 := by
  obtain ⟨hrd, hlate⟩ := s.closeSet_keeps n hn
  obtain ⟨hclose, heff, hlate', -⟩ := s.closeNoted_spec n
  rw [hlate, hlate']
  refine ⟨(hrd _ ?_ ?_ ?_).trans hclose, (hrd _ ?_ ?_ ?_).trans heff, rfl⟩ <;>
    simp only [A.STK_SET_CLOSE_TIME, A.STK_SET_EFF_T, A.STK_SET_STATUS, A.STK_SUMMARY] <;> omega

end

/-! ### Writes of STK_SETn_CTL (R132) -/

/-- The fields of STK_SETn_CTL that a CLOSE or ABORT writes beside OP. -/
def setCtlFlds : List Fld := [F.STK_SET_CTL_MODE, F.STK_SET_CTL_LATE_POLICY, F.STK_SET_CTL_GRAN]

/-- Those fields written. -/
def State.ctlWritten (s : State) (n : Nat) (r : Req) : State :=
  setCtlFlds.foldl (fun s f => s.setFld (A.STK_SET_CTL n) f (reqFld r f)) s

section
variable {s : State} {n : Nat} {r : Req}

theorem State.writeSetCtl_open (h : reqFld r F.STK_SET_CTL_OP = 1) : s.writeSetCtl n r =
    if s.setSt n ≠ SetSt.IDLE ∨ s.openMode = false ∨
      ((s.fld A.STK_CFG F.STK_CFG_RESERVE).testBit n = true ∧ isFmp r = false) then (s, Code.DENY)
    else ((s.openSet n r).wakeSleepers, Code.OK) := by
  unfold State.writeSetCtl
  dsimp only
  rw [h]
  simp [or_assoc]

theorem State.writeSetCtl_closes (h : reqFld r F.STK_SET_CTL_OP = 2) (hst : s.setSt n = SetSt.OPEN)
    (hown : s.ownsSet n r = true) (hg : reqFld r F.STK_SET_CTL_GRAN ≠ 7) :
    s.writeSetCtl n r = ((s.ctlWritten n r).closeSet n, Code.OK) := by
  unfold State.writeSetCtl
  dsimp only
  rw [h]
  simp [hst, hown, hg, State.ctlWritten, setCtlFlds]

theorem State.writeSetCtl_close_denied (h : reqFld r F.STK_SET_CTL_OP = 2)
    (hno : s.setSt n ≠ SetSt.OPEN ∨ s.ownsSet n r = false) : s.writeSetCtl n r = (s, Code.DENY) := by
  unfold State.writeSetCtl
  dsimp only
  rw [h]
  exact if_pos (by obtain hno | hno := hno <;> simp [hno])

theorem State.writeSetCtl_aborts (h : reqFld r F.STK_SET_CTL_OP = 3)
    (hst : s.setSt n = SetSt.OPEN ∨ s.setSt n = SetSt.CLOSING ∨ s.setSt n = SetSt.WAITING)
    (hown : s.ownsSet n r = true) (hsame : ∀ f ∈ setCtlFlds, reqFld r f = s.fld (A.STK_SET_CTL n) f) :
    s.writeSetCtl n r = ((s.ctlWritten n r).abortSet n 1, Code.OK) := by
  have hchanges : (setCtlFlds.any fun f => reqFld r f ≠ s.fld (A.STK_SET_CTL n) f) = false := by
    simpa using hsame
  unfold State.writeSetCtl
  dsimp only
  rw [h, ← setCtlFlds, hchanges]
  refine (if_neg ?_).trans rfl
  obtain hst | hst | hst := hst <;> simp [hown, hst]

theorem State.writeSetCtl_abort_denied (h : reqFld r F.STK_SET_CTL_OP = 3)
    (hno : s.setSt n = SetSt.IDLE ∨ s.setSt n = SetSt.OPENING ∨ SetSt.COMMITTED ≤ s.setSt n ∨ s.ownsSet n r = false) :
    s.writeSetCtl n r = (s, Code.DENY) := by
  unfold State.writeSetCtl
  dsimp only
  rw [h]
  refine if_pos ?_
  obtain hno | hno | hno | hno := hno
  · simp [hno]
  · simp [hno]
  · have hne (k : Nat) (hk : k < SetSt.COMMITTED) : s.setSt n ≠ k := by omega
    simp [hne SetSt.OPEN (by decide), hne SetSt.CLOSING (by decide), hne SetSt.WAITING (by decide)]
  · simp [hno]

end

/-- Settles O38: each operation by its rule for STK_SETn_CTL, the CLOSE by what it writes and its three ends. -/
theorem setOpenCloseAndAbort : Obligations.SetOpenCloseAndAbort := by
  refine ⟨fun n r s ha => ⟨fun hop => ⟨fun hst hmode hres => ?_, fun hno => ?_⟩, fun hop => ⟨fun hst hown hg => ?_,
    fun hno => ?_⟩, fun hop => ⟨fun hst hown hsame => ?_, fun hno => ?_⟩⟩, fun n s => ⟨?_, fun ht => ?_, fun ht => ?_⟩⟩
  · have hact : s.writeSetCtl n.val r = ((s.openSet n.val r).wakeSleepers, Code.OK) := by
      rw [State.writeSetCtl_open hop, if_neg]
      obtain hres | hres := hres <;> simp [hst, hmode, hres]
    obtain ⟨hopening, howner, hreqs⟩ := s.openSet_spec n.val r
    have hlow : A.STK_SET_STATUS n.val < 0x100000 := by show 0x2110 + n.val * 0x40 < 0x100000; omega
    refine ⟨_, congrArg Host.Outcome.next (State.serve_eq ha hact), rfl, ?_, ?_, ?_⟩
    · rwa [State.setSt, State.fld, State.rd_wakeSleepers _ hlow]
    · rwa [State.fld, State.rd_wakeSleepers _ hlow]
    · rwa [State.wakeSleepers_stk]
  · exact congrArg Host.Outcome.next (State.serve_eq ha ((State.writeSetCtl_open hop).trans (if_pos hno)))
  · exact congrArg Host.Outcome.next (State.serve_eq ha (State.writeSetCtl_closes hop hst hown hg))
  · exact congrArg Host.Outcome.next (State.serve_eq ha (State.writeSetCtl_close_denied hop hno))
  · exact ⟨_, congrArg Host.Outcome.next (State.serve_eq ha (State.writeSetCtl_aborts hop hst hown hsame)),
      State.setSt_abortSet .., State.reason_abortSet .., State.reqs_abortSet ..⟩
  · exact congrArg Host.Outcome.next (State.serve_eq ha (State.writeSetCtl_abort_denied hop hno))
  · obtain ⟨hclose, heff, -⟩ := s.closeSet_written n.val n.isLt
    exact ⟨hclose, heff⟩
  · obtain ⟨-, -, hlate⟩ := s.closeSet_written n.val n.isLt
    refine ⟨?_, hlate.trans (if_neg (Nat.not_lt.2 ht)), ?_⟩ <;> rw [State.closeSet_inTime _ _ ht]
    · exact State.setSt_closeGoes ..
    · rw [State.reqs_closeGoes, State.closeNoted_stk, State.closeNoted_datum]
  · obtain ⟨-, -, hlate⟩ := s.closeSet_written n.val n.isLt
    refine ⟨hlate.trans (if_pos ht), fun hpol => ?_, fun hpol => ?_⟩ <;> rw [State.closeSet_late _ _ ht]
    · rw [if_pos hpol]
      exact ⟨State.setSt_abortSet .., State.reason_abortSet ..⟩
    · rw [if_neg hpol]
      exact ⟨State.setSt_closeGoes .., State.asap_closeGoes ..⟩

end Sys2Proof.Machine
end

section
/-!
PROOFS. The stake state of a block: its registers, what it shows of itself, and what it holds for a set (R129, R130, R134,
R137, R138).
-/
namespace Sys2Proof.Machine

/-! ### The registers of a block (R129) -/

theorem expOf_ne_setRegOf (b : Nat) {n k : Nat} (hn : n < 8) (hk : k < 8) : expOf b n ≠ setRegOf b k := by
  unfold expOf setRegOf
  simp only [A.NI_STK_EXP, A.FED_STK_EXP, A.STN_STK_EXP, A.GLB_STK_EXP, A.NI_STK_SET, A.FED_STK_SET, A.STN_STK_SET,
    A.GLB_STK_SET, A.niBase, A.fedBase, A.stnBase]
  split_ifs <;> omega

theorem setRegOf_ne_stkStatOf (b n : Nat) : setRegOf b n ≠ stkStatOf b := by
  unfold setRegOf stkStatOf
  simp only [A.NI_STK_SET, A.FED_STK_SET, A.STN_STK_SET, A.GLB_STK_SET, A.NI_STK_STATUS, A.FED_STK_STATUS,
    A.STN_STK_STATUS, A.GLB_STK_STATUS, A.niBase, A.fedBase, A.stnBase]
  split_ifs <;> omega

/-- The fields of an expectation (R136). -/
def expFlds : List Fld := [F.NI_STK_EXP_CMD, F.NI_STK_EXP_PART, F.NI_STK_EXP_PRELOAD, F.NI_STK_EXP_ASAP,
  F.NI_STK_EXP_STAGED, F.NI_STK_EXP_SHADOWS, F.NI_STK_EXP_T_LOW]

/-- The rows of XX_STK_EXPn in the four kinds of block. -/
theorem expRows (n : Fin 8) :
    (niRows.find? (·.covers (0x2b40 + n.val * 0x8))).map (·.flds) = some (expFlds.map (·, .fmp)) ∧
    (fedRows.find? (·.covers (0x1840 + n.val * 0x8))).map (·.flds) = some (expFlds.map (·, .fmp)) ∧
    (stnRows.find? (·.covers (0x840 + n.val * 0x8))).map (·.flds) = some (expFlds.map (·, .fmp)) ∧
    (glbRows.find? (·.covers (0x2840 + n.val * 0x8))).map (·.flds) = some (expFlds.map (·, .fmp)) := by
  revert n
  decide +kernel

theorem rowAt_niBase {p off : Nat} (hp : p < 144) (ho : off < 0x10000) :
    rowAt (A.niBase p + off) = niRows.find? (·.covers off) := by
  have hblk : blkOf (A.niBase p + off) = some (.ni p, off) := by
    unfold blkOf
    simp only [A.niBase]
    rw [if_neg (by omega), if_neg (by omega), if_neg (by omega), if_pos (by omega),
      show (0x400000 + p * 0x10000 + off - 0x400000) / 0x10000 = p by omega,
      show (0x400000 + p * 0x10000 + off - 0x400000) % 0x10000 = off by omega]
  rw [rowAt, hblk]
  rfl

theorem rowAt_fedBase {f off : Nat} (hf : f < 12) (ho : off < 0x10000) :
    rowAt (A.fedBase f + off) = fedRows.find? (·.covers off) := by
  have hblk : blkOf (A.fedBase f + off) = some (.fed f, off) := by
    unfold blkOf
    simp only [A.fedBase]
    rw [if_neg (by omega), if_neg (by omega), if_neg (by omega), if_neg (by omega), if_pos (by omega),
      show (0xD00000 + f * 0x10000 + off - 0xD00000) / 0x10000 = f by omega,
      show (0xD00000 + f * 0x10000 + off - 0xD00000) % 0x10000 = off by omega]
  rw [rowAt, hblk]
  rfl

theorem rowAt_stnBase {i off : Nat} (hi : i < 36) (ho : off < 0x10000) :
    rowAt (A.stnBase i + off) = stnRows.find? (·.covers off) := by
  have hblk : blkOf (A.stnBase i + off) = some (.stn i, off) := by
    unfold blkOf
    simp only [A.stnBase]
    rw [if_neg (by omega), if_pos (by omega),
      show (0x100000 + i * 0x10000 + off - 0x100000) / 0x10000 = i by omega,
      show (0x100000 + i * 0x10000 + off - 0x100000) % 0x10000 = off by omega]
  rw [rowAt, hblk]
  rfl

theorem rowAt_glb {a : Nat} (ha : a < 0x100000) : rowAt a = glbRows.find? (·.covers a) := by
  rw [rowAt, blkOf, if_pos ha]
  rfl

theorem rowAt_expOf {b n : Nat} (hb : b < 193) (hn : n < 8) :
    (rowAt (expOf b n)).map (·.flds) = some (expFlds.map (·, .fmp)) := by
  obtain ⟨hni, hfed, hstn, hglb⟩ := expRows ⟨n, hn⟩
  have hsum (x y z : Nat) : x + y + z = x + (y + z) := Nat.add_assoc x y z
  unfold expOf
  split_ifs
  · rwa [A.NI_STK_EXP, hsum, rowAt_niBase (by omega) (by omega)]
  · rwa [A.FED_STK_EXP, hsum, rowAt_fedBase (by omega) (by omega)]
  · rwa [A.STN_STK_EXP, hsum, rowAt_stnBase (by omega) (by omega)]
  · rwa [A.GLB_STK_EXP, rowAt_glb (by omega)]

/-! ### What a block drives on the gather tree (R130) -/

section
variable (s : State) (b n : Nat)

/-- Driving the tree changes the histories of blocks alone. -/
theorem State.driveTree_eq : ∃ l, s.driveTree b n = { s with stk := { s.stk with blks := l } } := by
  unfold State.driveTree
  dsimp only
  split
  · split
    · exact ⟨_, rfl⟩
    · exact ⟨_, rfl⟩
  · split
    · exact ⟨_, rfl⟩
    · exact ⟨_, rfl⟩

@[simp] theorem State.rd_driveTree (a : Nat) : (s.driveTree b n).rd a = s.rd a := by
  obtain ⟨l, h⟩ := s.driveTree_eq b n
  rw [h]
  rfl

@[simp] theorem State.driveTree_regs : (s.driveTree b n).regs = s.regs := by
  obtain ⟨l, h⟩ := s.driveTree_eq b n
  rw [h]

@[simp] theorem State.fld_driveTree (a : Nat) (f : Fld) : (s.driveTree b n).fld a f = s.fld a f := by
  rw [State.fld, State.rd_driveTree, State.fld]

@[simp] theorem State.ents_driveTree : (s.driveTree b n).stk.ents = s.stk.ents := by
  obtain ⟨l, h⟩ := s.driveTree_eq b n
  rw [h]

@[simp] theorem State.shadows_driveTree : (s.driveTree b n).stk.shadows = s.stk.shadows := by
  obtain ⟨l, h⟩ := s.driveTree_eq b n
  rw [h]

@[simp] theorem State.blk_modBlk_same (f : StkBlk → StkBlk) : (s.modBlk b n f).blk b n = f (s.blk b n) :=
  tget_tset_same _ _ _ (f (s.blk b n))

/-- The T of a block is kept. -/
theorem State.t_driveTree : ((s.driveTree b n).blk b n).t = (s.blk b n).t := by
  unfold State.driveTree
  dsimp only
  split
  · split
    · rfl
    · rw [State.blk_modBlk_same]
  · split
    · rfl
    · rw [State.blk_modBlk_same]

@[simp] theorem State.rd_modBlk (f : StkBlk → StkBlk) (a : Nat) : (s.modBlk b n f).rd a = s.rd a := rfl
@[simp] theorem State.fld_modBlk (f : StkBlk → StkBlk) (a : Nat) (g : Fld) : (s.modBlk b n f).fld a g = s.fld a g := rfl
@[simp] theorem State.ents_modBlk (f : StkBlk → StkBlk) : (s.modBlk b n f).stk.ents = s.stk.ents := rfl
@[simp] theorem State.shadows_modBlk (f : StkBlk → StkBlk) : (s.modBlk b n f).stk.shadows = s.stk.shadows := rfl

end

/-! ### READY, FAULT and FAULT_CODE (R137, R138) -/

/-- From `s` to `t` block `b` has changed only what it shows of itself for set `n`: READY, FAULT, FAULT_CODE, and its outputs
on the gather tree. -/
structure State.ShowsOnly (s t : State) (b n : Nat) : Prop where
  ents : t.stk.ents = s.stk.ents
  shadows : t.stk.shadows = s.stk.shadows
  rd : ∀ a, a ≠ setRegOf b n → t.rd a = s.rd a
  setF : ∀ g : Fld, (∀ f ∈ [F.NI_STK_SET_READY, F.NI_STK_SET_FAULT, F.NI_STK_SET_FAULT_CODE], f.apart g) →
    t.setF b n g = s.setF b n g

section
variable {s t u : State} {b n : Nat}

theorem State.ShowsOnly.refl (s : State) (b n : Nat) : s.ShowsOnly s b n := ⟨rfl, rfl, fun _ _ => rfl, fun _ _ => rfl⟩

theorem State.ShowsOnly.trans (h : s.ShowsOnly t b n) (k : t.ShowsOnly u b n) : s.ShowsOnly u b n :=
  ⟨k.ents.trans h.ents, k.shadows.trans h.shadows, fun a ha => (k.rd a ha).trans (h.rd a ha),
    fun g hg => (k.setF g hg).trans (h.setF g hg)⟩

theorem State.driveTree_showsOnly (s : State) (b n : Nat) : s.ShowsOnly (s.driveTree b n) b n :=
  ⟨s.ents_driveTree b n, s.shadows_driveTree b n, fun _ _ => s.rd_driveTree .., fun _ _ => s.fld_driveTree ..⟩

theorem State.setFld_showsOnly (s : State) (b n v : Nat) {f : Fld} (h : f.lo + f.w ≤ 64)
    (hf : f ∈ [F.NI_STK_SET_READY, F.NI_STK_SET_FAULT, F.NI_STK_SET_FAULT_CODE]) :
    s.ShowsOnly (s.setFld (setRegOf b n) f v) b n :=
  ⟨rfl, rfl, fun _ ha => s.rd_setFld_ne _ _ ha, fun _ hg => s.fld_setFld_apart _ _ _ _ h (hg f hf)⟩

theorem State.blkFault_showsOnly (s : State) (b n code : Nat) : s.ShowsOnly (s.blkFault b n code) b n := by
  unfold State.blkFault
  split
  · exact .refl s b n
  · have hcode : s.ShowsOnly ((s.setFld (setRegOf b n) F.NI_STK_SET_FAULT 1).setFld (setRegOf b n)
        F.NI_STK_SET_FAULT_CODE code) b n :=
      (s.setFld_showsOnly b n 1 (by decide) (by decide)).trans (State.setFld_showsOnly _ b n code (by decide) (by decide))
    dsimp only
    split
    · exact (hcode.trans (State.setFld_showsOnly _ b n 0 (by decide) (by decide))).trans (State.driveTree_showsOnly ..)
    · exact hcode.trans (State.driveTree_showsOnly ..)

theorem State.refresh_showsOnly (s : State) (b n : Nat) : s.ShowsOnly (s.refresh b n) b n := by
  unfold State.refresh
  split
  · exact .refl s b n
  · split
    · exact (s.setFld_showsOnly b n _ (by decide) (by decide)).trans (State.driveTree_showsOnly ..)
    · exact s.blkFault_showsOnly ..

/-- A block that takes a fault has FAULT set, now or from an earlier one. -/
theorem State.FAULT_blkFault (s : State) (b n code : Nat) : (s.blkFault b n code).setF b n F.NI_STK_SET_FAULT = 1 := by
  unfold State.blkFault
  split
  · assumption
  · have hcode : ((s.setFld (setRegOf b n) F.NI_STK_SET_FAULT 1).setFld (setRegOf b n) F.NI_STK_SET_FAULT_CODE code).fld
        (setRegOf b n) F.NI_STK_SET_FAULT = 1 := by
      rw [State.fld_setFld_apart _ _ _ _ _ (by decide) (by decide), State.fld_setFld_same _ _ _ _ (by decide)]
      rfl
    dsimp only
    rw [State.setF, State.fld_driveTree]
    split
    · rw [State.fld_setFld_apart _ _ _ _ _ (by decide) (by decide), hcode]
    · exact hcode

end

/-! ### What a block holds for a set (R134, R135, R137) -/

theorem State.entriesOf_of_ents {s t : State} (h : t.stk.ents = s.stk.ents) (b n : Nat) : t.entriesOf b n = s.entriesOf b n := by
  rw [State.entriesOf, h, State.entriesOf]

theorem State.shadowsOf_of_shadows {s t : State} (h : t.stk.shadows = s.stk.shadows) (b n : Nat) :
    t.shadowsOf b n = s.shadowsOf b n := by
  rw [State.shadowsOf, h, State.shadowsOf]

section
variable (s : State) (b n : Nat)

theorem State.shadowsOf_dropShadows : (s.dropShadows b n).shadowsOf b n = [] := by
  rw [State.dropShadows, State.shadowsOf, State.setFld_stk, List.filter_filter]
  simp

theorem State.rd_dropShadows_ne {a : Nat} (h : a ≠ setRegOf b n) : (s.dropShadows b n).rd a = s.rd a :=
  State.rd_setFld_ne _ _ _ h

theorem State.setEnts_shadows (es : List StkEntry) : (s.setEnts b es).stk.shadows = s.stk.shadows := by
  rw [State.setEnts, State.setFld_stk, State.setFld_stk]

theorem State.setEnts_ents (es : List StkEntry) : (s.setEnts b es).stk.ents = tset [] s.stk.ents b es := by
  rw [State.setEnts, State.setFld_stk, State.setFld_stk]

theorem State.rd_setEnts_ne (es : List StkEntry) {a : Nat} (h : a ≠ stkStatOf b) : (s.setEnts b es).rd a = s.rd a := by
  rw [State.setEnts, State.rd_setFld_ne _ _ _ h, State.rd_setFld_ne _ _ _ h]
  rfl

theorem State.dropEntries_shadows : (s.dropEntries b n).stk.shadows = s.stk.shadows := by
  unfold State.dropEntries
  split
  · rfl
  · exact s.setEnts_shadows ..

theorem State.rd_dropEntries_ne {a : Nat} (h : a ≠ stkStatOf b) : (s.dropEntries b n).rd a = s.rd a := by
  unfold State.dropEntries
  split
  · rfl
  · exact s.rd_setEnts_ne _ _ h

theorem State.entriesOf_dropEntries : (s.dropEntries b n).entriesOf b n = [] := by
  unfold State.dropEntries
  split
  · exact List.isEmpty_iff.1 ‹_›
  · rw [State.entriesOf, State.setEnts_ents, tget_tset_same, List.filter_filter]
    simp

theorem State.stkLost_stk (k : Nat) : (s.stkLost b k).stk = s.stk := by
  unfold State.stkLost
  split
  · rfl
  · exact State.sat_stk ..

theorem State.rd_stkLost_ne (k : Nat) {a : Nat} (h : a ≠ stkStatOf b) : (s.stkLost b k).rd a = s.rd a := by
  unfold State.stkLost
  split
  · rfl
  · exact State.rd_setFld_ne _ _ _ h

/-- What leaves a block for good takes nothing else of it: a cancel owed, and the return to IDLE. -/
theorem State.oweCancel_stk : (s.oweCancel b n).stk.ents = s.stk.ents ∧ (s.oweCancel b n).stk.shadows = s.stk.shadows := by
  unfold State.oweCancel
  split <;> exact ⟨rfl, rfl⟩

theorem State.enterIdle_stk : (s.enterIdle b n).stk.ents = s.stk.ents ∧ (s.enterIdle b n).stk.shadows = s.stk.shadows := by
  unfold State.enterIdle
  exact ⟨State.ents_driveTree .., State.shadows_driveTree ..⟩

/-- A block that discards holds nothing of the set. -/
theorem State.blkDiscard_holds_nothing : (s.blkDiscard b n).shadowsOf b n = [] ∧ (s.blkDiscard b n).entriesOf b n = [] := by
  obtain ⟨hents, hshadows⟩ := ((s.dropShadows b n).dropEntries b n).oweCancel_stk b n
  obtain ⟨hents', hshadows'⟩ := (((s.dropShadows b n).dropEntries b n).oweCancel b n).enterIdle_stk b n
  rw [State.blkDiscard]
  constructor
  · rw [State.shadowsOf_of_shadows hshadows', State.shadowsOf_of_shadows hshadows,
      State.shadowsOf_of_shadows (State.dropEntries_shadows ..), State.shadowsOf_dropShadows]
  · rw [State.entriesOf_of_ents hents', State.entriesOf_of_ents hents, State.entriesOf_dropEntries]

end

end Sys2Proof.Machine
end

section
/-!
PROOFS. The sequencer's passes (R131) and the commands that they give the blocks (R137).
-/
namespace Sys2Proof.Machine

/-! ### Passes (R131, R334) -/

section
variable {s : State}

theorem execSeqPassStart_takes {q : PassReq} {rest : List PassReq} (hp : s.stk.pass = none) (hq : s.stk.reqs = q :: rest)
    (hawake : q.cmd ≠ PassCmd.COLLECT ∨ s.noneAsleep = true) :
    exec .seqPassStart s = .next { s with stk := { s.stk with
      reqs := rest
      pass := some { set := q.set, cmd := q.cmd, at' := max (max q.req s.stk.passEnd + 4) s.datum } } } := by
  show execSeqPassStart s = _
  unfold execSeqPassStart
  rw [hp, hq]
  exact if_neg (by obtain h | h := hawake <;> simp [h])

variable {q : Pass} (hp : s.stk.pass = some q)
include hp

theorem execSeqPassWrite_waits (h : 193 ≤ q.idx ∨ s.datum < q.at') : exec .seqPassWrite s = .next s := by
  show execSeqPassWrite s = _
  unfold execSeqPassWrite
  rw [hp]
  exact if_pos h

/-- The next block is written, and the one after it 4 fclk later. -/
theorem execSeqPassWrite_writes (hi : q.idx < 193) (hat : q.at' ≤ s.datum) :
    exec .seqPassWrite s = .next { (s.seqWrite q q.idx).1 with stk := { (s.seqWrite q q.idx).1.stk with
      pass := some { (s.seqWrite q q.idx).2 with
        idx := q.idx + 1
        at' := s.datum + 4 } } } := by
  show execSeqPassWrite s = _
  unfold execSeqPassWrite
  rw [hp]
  exact if_neg (by omega)

/-- No write of the pass has expired: the pass ends when all are issued and answered, and goes on otherwise. -/
theorem execSeqPassEnd_unexpired (h : ∀ w ∈ q.waits, s.datum < w.at' + 131072) :
    exec .seqPassEnd s = .next (if q.idx < 193 ∨ q.waits ≠ [] then s
      else { s with stk := { s.stk with
        pass := none
        passEnd := s.datum } }.passDone q) := by
  have hdead : q.waits.filter (fun w => decide (w.at' + 131072 ≤ s.datum)) = [] :=
    List.filter_eq_nil_iff.2 fun w hw => by simpa using h w hw
  have hkept : { q with waits := q.waits.filter fun _ => true } = q := by rw [List.filter_true]
  have hsame : { s with stk := { s.stk with pass := some q } } = s := by rw [← hp]
  show execSeqPassEnd s = _
  unfold execSeqPassEnd
  rw [hp]
  dsimp only
  rw [hdead]
  simp only [List.foldl_nil, List.contains_nil, Bool.not_false, hkept]
  split
  · next hmore => rw [if_pos (by simpa using hmore), hsame]
  · next hdone => rw [if_neg (by simpa using hdone)]

end

theorem State.passDone_collect {s : State} {q : Pass} (hc : q.cmd = PassCmd.COLLECT) :
    s.passDone q = if s.setSt q.set = SetSt.OPENING then s.toSet q.set SetSt.OPEN else s := by
  unfold State.passDone
  dsimp only
  rw [hc]
  rfl

theorem State.passDone_expect {s : State} {q : Pass} (hc : q.cmd = PassCmd.EXPECT) :
    s.passDone q = if s.setSt q.set = SetSt.CLOSING then s.toSet q.set SetSt.WAITING else s := by
  unfold State.passDone
  dsimp only
  rw [hc]
  rfl

/-! ### The commands of a pass to a block (R137) -/

/-- A block that has taken a COLLECT: everything of the set at its reset value, and not READY. -/
def State.collecting (s : State) (b n : Nat) : State :=
  let t := ((s.wr (setRegOf b n) (resetOf (setRegOf b n))).setFld (setRegOf b n) F.NI_STK_SET_STATE
    BlkSt.COLLECT).setFld (setRegOf b n) F.NI_STK_SET_READY 0
  (t.modBlk b n (fun x => { hist := x.hist })).driveTree b n

/-- The expectation record as an EXPECT leaves it. -/
def State.expWritten (s : State) (b n : Nat) (v : Word) : State :=
  (s.wrFlds (expOf b n) v).setFld (expOf b n) F.NI_STK_EXP_CMD 0

/-- A block that has taken an EXPECT, before it judges what it holds. -/
def State.expecting (s : State) (b n : Nat) (v : Word) : State :=
  let t := (s.expWritten b n v).setFld (setRegOf b n) F.NI_STK_SET_STATE BlkSt.EXPECT
  (t.modBlk b n (fun x => { x with t := t.expT b n })).driveTree b n

section
variable {s : State} {b n : Nat} {r : Req}

theorem State.writeExp_collect (h : reqFld r F.NI_STK_EXP_CMD = PassCmd.COLLECT) : s.writeExp b n r =
    if s.blkSt b n = BlkSt.IDLE then (s.collecting b n, Code.OK) else (s, Code.DENY) := by
  unfold State.writeExp
  dsimp only
  rw [h]
  rfl

theorem State.writeExp_expect (h : reqFld r F.NI_STK_EXP_CMD = PassCmd.EXPECT) : s.writeExp b n r =
    if s.blkSt b n = BlkSt.COLLECT then ((s.expecting b n r.data).refresh b n, Code.OK) else (s, Code.DENY) := by
  unfold State.writeExp
  dsimp only
  rw [h]
  rfl

theorem State.writeExp_abort (h : reqFld r F.NI_STK_EXP_CMD = PassCmd.ABORT) : s.writeExp b n r =
    if s.blkSt b n = BlkSt.COLLECT ∨ s.blkSt b n = BlkSt.EXPECT then (s.blkDiscard b n, Code.OK)
    else if s.blkSt b n = BlkSt.IDLE then (s, Code.OK) else (s, Code.DENY) := by
  unfold State.writeExp
  dsimp only
  rw [h]
  rfl

theorem State.writeExp_release (h : reqFld r F.NI_STK_EXP_CMD = PassCmd.RELEASE) : s.writeExp b n r =
    ((s.blkDiscard b n).stkLost b
      (if s.blkSt b n = BlkSt.CALLED ∨ s.blkSt b n = BlkSt.APPLYING ∨ s.committed n = true
        then (s.entriesOf b n).length + (s.shadowsOf b n).length else 0), Code.OK) := by
  unfold State.writeExp
  dsimp only
  rw [h]
  simp only [Bool.or_eq_true, decide_eq_true_eq, or_assoc]

/-- A write of a block's expectation is served by the rule of its register. -/
theorem exec_expWrite_serves {b : Fin 193} {n : Fin 8} {t : State} {c : BitVec 4} (ha : s.admits (expOf b.val n.val) r)
    (h : s.writeExp b.val n.val r = (t, c)) :
    exec (.expCollect b n r) s = .next (t.ans (expOf b.val n.val) r c) ∧
    exec (.expExpect b n r) s = .next (t.ans (expOf b.val n.val) r c) ∧
    exec (.expAbort b n r) s = .next (t.ans (expOf b.val n.val) r c) ∧
    exec (.expRelease b n r) s = .next (t.ans (expOf b.val n.val) r c) :=
  have hs : s.serve (expOf b.val n.val) r (·.writeExp b.val n.val r) = t.ans (expOf b.val n.val) r c :=
    State.serve_eq ha h
  ⟨congrArg Host.Outcome.next hs, congrArg Host.Outcome.next hs, congrArg Host.Outcome.next hs,
    congrArg Host.Outcome.next hs⟩

end

/-! What COLLECT and EXPECT make of a block. -/

section
variable (s : State) {b n : Nat}

theorem State.collecting_spec : (s.collecting b n).blkSt b n = BlkSt.COLLECT ∧
    (s.collecting b n).setF b n F.NI_STK_SET_READY = 0 ∧ (s.collecting b n).stk.ents = s.stk.ents ∧
    ∀ a, a ≠ setRegOf b n → (s.collecting b n).rd a = s.rd a := by
  unfold State.collecting
  dsimp only
  refine ⟨?_, ?_, ?_, fun a ha => ?_⟩
  · rw [State.blkSt, State.fld_driveTree, State.fld_modBlk, State.fld_setFld_apart _ _ _ _ _ (by decide) (by decide),
      State.fld_setFld_same _ _ _ _ (by decide)]
    rfl
  · rw [State.setF, State.fld_driveTree, State.fld_modBlk, State.fld_setFld_same _ _ _ _ (by decide)]
    rfl
  · rw [State.ents_driveTree, State.ents_modBlk, State.setFld_stk, State.setFld_stk, State.wr_stk]
  · rw [State.rd_driveTree, State.rd_modBlk, State.rd_setFld_ne _ _ _ ha, State.rd_setFld_ne _ _ _ ha, State.rd_wr_ne _ _ ha]

/-- The fields of a register of which every field is written with the word's. -/
theorem State.fld_wrFlds {a : Nat} {row : RegRow} (hrow : rowAt a = some row) (hflds : fieldsApart row.flds) (v : Word)
    {e : Fld × Acc} (he : e ∈ row.flds) : (s.wrFlds a v).fld a e.1 = e.1.get v := by
  rw [State.wrFlds, hrow, State.fld, State.rd_wr_same, Fld.get_foldl_put (fun e => e.1.get v) _ _ hflds e he]
  exact Nat.mod_eq_of_lt (Fld.get_lt _ _)

theorem State.rd_wrFlds_ne {a x : Nat} (v : Word) (h : x ≠ a) : (s.wrFlds a v).rd x = s.rd x := by
  unfold State.wrFlds
  split
  · exact s.rd_wr_ne _ h
  · rfl

theorem State.rd_expWritten_ne (v : Word) {a : Nat} (h : a ≠ expOf b n) : (s.expWritten b n v).rd a = s.rd a := by
  rw [State.expWritten, State.rd_setFld_ne _ _ _ h, State.rd_wrFlds_ne _ _ h]

theorem fieldsApart_expFlds : fieldsApart (expFlds.map (·, .fmp)) := by
  unfold fieldsApart
  decide

/-- CMD reads 0, the other fields what the EXPECT brought. -/
theorem State.fld_expWritten (hb : b < 193) (hn : n < 8) (v : Word) :
    (s.expWritten b n v).fld (expOf b n) F.NI_STK_EXP_CMD = 0 ∧
    ∀ f ∈ expFlds.tail, (s.expWritten b n v).fld (expOf b n) f = f.get v := by
  obtain ⟨row, hrow, hflds⟩ := Option.map_eq_some_iff.1 (rowAt_expOf hb hn)
  rw [State.expWritten]
  refine ⟨State.fld_setFld_same _ _ _ _ (by decide), fun f hf => ?_⟩
  have hap : F.NI_STK_EXP_CMD.lo + F.NI_STK_EXP_CMD.w ≤ f.lo := by
    revert f
    decide
  rw [State.fld_setFld_apart _ _ _ _ _ (by decide) (.inl hap)]
  refine State.fld_wrFlds s hrow ?_ v (e := (f, .fmp)) ?_
  · rw [hflds]
    exact fieldsApart_expFlds
  · rw [hflds]
    exact List.mem_map_of_mem (List.mem_of_mem_tail hf)

theorem State.rd_expecting (v : Word) {a : Nat} (h : a ≠ setRegOf b n) :
    (s.expecting b n v).rd a = (s.expWritten b n v).rd a := by
  rw [State.expecting, State.rd_driveTree, State.rd_modBlk, State.rd_setFld_ne _ _ _ h]

theorem State.blkSt_expecting (v : Word) : (s.expecting b n v).blkSt b n = BlkSt.EXPECT := by
  rw [State.expecting, State.blkSt, State.fld_driveTree, State.fld_modBlk, State.fld_setFld_same _ _ _ _ (by decide)]
  rfl

/-- An EXPECT leaves the block in EXPECT with the record, whatever it judges of what it holds. -/
theorem State.expecting_spec (hb : b < 193) (hn : n < 8) (v : Word) :
    let t := (s.expecting b n v).refresh b n
    t.blkSt b n = BlkSt.EXPECT ∧ t.fld (expOf b n) F.NI_STK_EXP_CMD = 0 ∧
      (∀ f ∈ expFlds.tail, t.fld (expOf b n) f = f.get v) ∧ ∀ a, a ≠ setRegOf b n → a ≠ expOf b n → t.rd a = s.rd a := by
  intro t
  have hshow : (s.expecting b n v).ShowsOnly t b n := State.refresh_showsOnly ..
  have hexp : t.rd (expOf b n) = (s.expWritten b n v).rd (expOf b n) := by
    rw [hshow.rd _ (expOf_ne_setRegOf b hn hn), State.rd_expecting _ _ (expOf_ne_setRegOf b hn hn)]
  obtain ⟨hcmd, hflds⟩ := s.fld_expWritten hb hn v
  refine ⟨(hshow.setF _ (by decide)).trans (s.blkSt_expecting v), ?_, fun f hf => ?_, fun a ha hae => ?_⟩
  · rw [State.fld, hexp, ← State.fld, hcmd]
  · rw [State.fld, hexp, ← State.fld, hflds f hf]
  · rw [hshow.rd a ha, State.rd_expecting _ _ ha, State.rd_expWritten_ne _ _ hae]

end

/-- Settles O39: the passes by the sequencer's steps, the commands of a pass by the rule for XX_STK_EXPn. -/
theorem sequencerAndBlockCommands : Obligations.SequencerAndBlockCommands := by
  refine ⟨⟨fun s q rest => execSeqPassStart_takes, fun s q hp => ⟨execSeqPassWrite_waits hp, fun hi hat =>
    ⟨_, execSeqPassWrite_writes hp hi hat, rfl⟩⟩, fun s q hp => ⟨fun hi hw => ?_, fun hw hmore => ?_⟩,
    fun s q => ⟨fun hc hst => ?_, fun hc hst => ?_⟩, fun s n cmd => ⟨fun hc hst => ?_, fun hc hst => ?_, fun h1 h2 => ?_⟩⟩,
    fun b n r s ha => ⟨fun hc => ⟨fun hst => ?_, fun hst => ?_⟩, fun hc => ⟨fun hst => ?_, fun hst => ?_⟩,
      fun hc => ⟨fun hst => ?_, fun hst => ?_, fun hst => ?_⟩, fun hc => ?_⟩⟩
  · rw [execSeqPassEnd_unexpired hp (by simp [hw]), if_neg (by simpa [hw] using hi)]
  · rw [execSeqPassEnd_unexpired hp hw, if_pos hmore]
  · exact (State.passDone_collect hc).trans (if_pos hst)
  · exact (State.passDone_expect hc).trans (if_pos hst)
  · rw [State.seqFail, if_pos hc, if_pos hst]
  · rw [State.seqFail, if_neg (by rw [hc]; decide), if_pos hc, if_pos hst]
  · rw [State.seqFail, if_neg h1, if_neg h2]
  · exact ⟨_, (exec_expWrite_serves ha ((State.writeExp_collect hc).trans (if_pos hst))).1, s.collecting_spec⟩
  · exact (exec_expWrite_serves ha ((State.writeExp_collect hc).trans (if_neg hst))).1
  · exact ⟨_, (exec_expWrite_serves ha ((State.writeExp_expect hc).trans (if_pos hst))).2.1,
      s.expecting_spec b.isLt n.isLt r.data⟩
  · exact (exec_expWrite_serves ha ((State.writeExp_expect hc).trans (if_neg hst))).2.1
  · exact ⟨_, (exec_expWrite_serves ha ((State.writeExp_abort hc).trans (if_pos hst))).2.2.1, rfl,
      s.blkDiscard_holds_nothing ..⟩
  · have hact : s.writeExp b.val n.val r = (s, Code.OK) := by
      rw [State.writeExp_abort hc, hst]
      rfl
    exact (exec_expWrite_serves ha hact).2.2.1
  · have hact : s.writeExp b.val n.val r = (s, Code.DENY) := by
      obtain hst | hst := hst <;> rw [State.writeExp_abort hc, hst] <;> rfl
    exact (exec_expWrite_serves ha hact).2.2.1
  · exact (exec_expWrite_serves ha (State.writeExp_release hc)).2.2.2

end Sys2Proof.Machine
end

section
/-!
PROOFS. How a stake set goes on from its close to its end (R138, R139, R141, R148), and what its call and its T do at a
block (R142, R143, R146).
-/
namespace Sys2Proof.Machine

/-! ### Commit (R139) -/

/-- A set that has committed: its instant is recorded, and its call asked for. -/
def State.committing (s : State) (n t : Nat) : State :=
  ((s.wr (A.STK_SET_COMMIT_TIME n) (BitVec.ofNat 64 s.datum)).toSet n SetSt.COMMITTED).merReq (.stakeCall n) t

theorem State.committing_spec (s : State) (n t : Nat) : (s.committing n t).setSt n = SetSt.COMMITTED ∧
    (s.committing n t).rd (A.STK_SET_COMMIT_TIME n) = BitVec.ofNat 64 s.datum ∧
    (s.committing n t).glb.merPend = s.glb.merPend ++ [⟨.stakeCall n, t, s.datum⟩] ∧
    ∀ a, a ≠ A.STK_SET_STATUS n → a ≠ A.STK_SUMMARY → a ≠ A.STK_SET_COMMIT_TIME n → (s.committing n t).rd a = s.rd a := by
  have hrd (u : State) (k : MerKind) (a : Nat) : (u.merReq k t).rd a = u.rd a := rfl
  have hpend (u : State) (k : MerKind) : (u.merReq k t).glb.merPend = u.glb.merPend ++ [⟨k, t, u.datum⟩] := rfl
  rw [State.committing]
  refine ⟨?_, ?_, ?_, fun a hst hsum hc => ?_⟩
  · rw [State.setSt, State.fld, hrd, ← State.fld, ← State.setSt, State.setSt_toSet _ _ (by decide)]
  · rw [hrd, State.rd_toSet_ne _ _ _ (by simp only [A.STK_SET_COMMIT_TIME, A.STK_SET_STATUS]; omega)
      (by simp only [A.STK_SET_COMMIT_TIME, A.STK_SUMMARY]; omega), State.rd_wr_same]
  · rw [hpend, State.toSet_glb, State.toSet_datum, State.wr_glb, State.wr_datum]
  · rw [hrd, State.rd_toSet_ne _ _ _ hst hsum, State.rd_wr_ne _ _ hc]

section
variable {s : State} {n : Fin 8}

theorem execStakeCommit_waits (h : s.setSt n.val ≠ SetSt.WAITING ∨ s.gFault n.val = true ∨ s.gReady n.val = false) :
    exec (.stakeCommit n) s = .next s := by
  show execStakeCommit n s = _
  unfold execStakeCommit
  exact if_pos (by obtain h | h | h := h <;> simp [h])

variable (hst : s.setSt n.val = SetSt.WAITING) (hf : s.gFault n.val = false) (hr : s.gReady n.val = true)
  (himg : s.stk.shadows.any (fun h => h.set = n.val && h.addr = A.GLB_FMP_IMAGE) = false)
include hst hf hr himg

/-- A ready set that holds no hand-over commits while it is in time; an ASAP set takes its T now. -/
theorem execStakeCommit_ready : exec (.stakeCommit n) s = .next (
    if (s.sset n.val).asap = true then
      if s.datum ≤ s.closeT n.val + 65536 then
        (s.wr (A.STK_SET_EFF_T n.val) (BitVec.ofNat 64 (roundUp (s.datum + 256) 1024))).committing n.val
          (roundUp (s.datum + 256) 1024)
      else s
    else if s.datum + 256 ≤ s.effT n.val then s.committing n.val (s.effT n.val) else s) := by
  show execStakeCommit n s = _
  unfold execStakeCommit
  dsimp only
  rw [if_neg (by simp [hst, hf, hr])]
  simp only [State.wr_stk, himg, Bool.false_eq_true, if_false]
  split_ifs <;> rfl

end

/-! ### Aborts and ends (R139, R141, R148) -/

section
variable {s : State} {n : Fin 8}

theorem execStakeFaultAbort_aborts (hst : s.setSt n.val = SetSt.WAITING) (hf : s.gFault n.val = true) :
    exec (.stakeFaultAbort n) s = .next ((s.seeFault n.val).abortSet n.val 2) := by
  show execStakeFaultAbort n s = _
  unfold execStakeFaultAbort
  exact if_pos (by simp [hst, hf])

theorem execStakeNotready_aborts (hst : s.setSt n.val = SetSt.CLOSING ∨
      (s.setSt n.val = SetSt.WAITING ∧ s.gFault n.val = false ∧ s.gReady n.val = false))
    (ht : (if (s.sset n.val).asap then s.closeT n.val + 65536 else s.effT n.val - 256) ≤ s.datum) :
    exec (.stakeNotready n) s = .next (s.abortSet n.val 3) := by
  show execStakeNotready n s = _
  unfold execStakeNotready
  dsimp only
  rw [decide_eq_true ht, if_pos]
  obtain hst | ⟨hst, hf, hr⟩ := hst
  · simp [hst]
  · simp [hst, hf, hr]

theorem execStakeAbortDone_ends (hst : s.setSt n.val = SetSt.ABORTING) (hp : (s.sset n.val).passed = true)
    (ho : s.gOpen n.val = false) : exec (.stakeAbortDone n) s =
      .next ((s.endSet n.val 3 (s.sset n.val).reason).sat A.STK_TOTALS F.STK_TOTALS_ABORTED) := by
  show execStakeAbortDone n s = _
  unfold execStakeAbortDone
  exact if_pos (by simp [hst, hp, ho])

theorem execStakeControllerT_applies (hst : s.setSt n.val = SetSt.COMMITTED) (ht : s.effT n.val ≤ s.datum) :
    exec (.stakeControllerT n) s = .next (s.toSet n.val SetSt.APPLYING) := by
  show execStakeControllerT n s = _
  unfold execStakeControllerT
  exact if_pos ⟨hst, ht⟩

/-- The set ends by whether a fault has been seen since its commit. -/
theorem execStakeResult_ends (hst : s.setSt n.val = SetSt.APPLYING) (ht : s.effT n.val + 24 ≤ s.datum)
    (hs : (s.sset n.val).stuck = false) (ho : s.gOpen n.val = false) :
    exec (.stakeResult n) s = .next (if ((s.seeFault n.val).sset n.val).faulted = true
      then (((s.seeFault n.val).endSet n.val 2 0).sat A.STK_TOTALS F.STK_TOTALS_APPLIED).raise 1358
      else ((s.seeFault n.val).endSet n.val 1 0).sat A.STK_TOTALS F.STK_TOTALS_APPLIED) := by
  show execStakeResult n s = _
  unfold execStakeResult
  dsimp only
  rw [if_pos (by simp [hst, ht, hs, ho])]
  generalize s.seeFault n.val = u
  cases (u.sset n.val).faulted
  · rw [if_neg Bool.false_ne_true, if_neg Bool.false_ne_true, if_neg Bool.false_ne_true]
  · rw [if_pos rfl, if_pos rfl, if_pos rfl]

theorem State.seeFault_of_no_fault {n : Nat} (h : s.gFault n = false) : s.seeFault n = s := by
  unfold State.seeFault
  exact if_pos (.inr (by rw [h]; rfl))

theorem execStakeStuck_releases (hst : s.setSt n.val = SetSt.APPLYING) (ht : s.effT n.val + 65536 ≤ s.datum)
    (hs : (s.sset n.val).stuck = false) (ho : s.gOpen n.val = true) : exec (.stakeStuck n) s =
      .next (((s.modSet n.val (fun x => { x with stuck := true })).raise 1359).reqPass n.val PassCmd.RELEASE) := by
  show execStakeStuck n s = _
  unfold execStakeStuck
  exact if_pos (by simp [hst, ht, hs, ho])

end

/-! ### Calls (R142) -/

theorem execStakeCallArrival_eq {b : Fin 192} (sbe : Bool) {s : State} {m : MerMsg} {n : Nat}
    (hm : s.arriving b.val (fun k => (callSet k).isSome) = some m) (hk : m.kind = .stakeCall n) :
    let u := if m.seen.contains 192 then s.meet m b.val
      else ((s.meet m 192).meet { m with seen := m.seen ++ [192] } b.val).callAt 192 n m.instant
    exec (.stakeCallArrival b sbe) s = .next ((u.merSbe (if sbe then 1 else 0)).callAt b.val n m.instant) := by
  show execStakeCallArrival b sbe s = _
  unfold execStakeCallArrival
  rw [hm]
  dsimp only
  rw [hk]
  rfl

section
variable {s : State} {b n : Nat} (t : Nat)

theorem State.callAt_expecting (h : s.blkSt b n = BlkSt.EXPECT) :
    (s.callAt b n t).blkSt b n = BlkSt.CALLED ∧ ((s.callAt b n t).blk b n).t = t := by
  have hblk (u : State) (a : Nat) (f : Fld) (v : Nat) : (u.setFld a f v).blk b n = u.blk b n := rfl
  rw [State.callAt, if_pos h]
  dsimp only
  constructor
  · rw [State.blkSt, State.fld_driveTree, State.fld_setFld_apart _ _ _ _ _ (by decide) (by decide), State.fld_modBlk,
      State.fld_setFld_same _ _ _ _ (by decide)]
    rfl
  · rw [State.t_driveTree, hblk, State.blk_modBlk_same]

theorem State.callAt_elsewhere (h : s.blkSt b n ≠ BlkSt.EXPECT) :
    s.callAt b n t = s.sat (stkStatOf b) F.NI_STK_STATUS_LOST 1 := by
  rw [State.callAt, if_neg h]
  rfl

end

/-! ### Cycle T at a block (R142, R146) -/

/-- The shadows of a block have become visible, and are gone. -/
def State.shadowsApplied (s : State) (b n : Nat) : State :=
  let v := s.noteApply b n
  ((v.shadowsOf b n).foldl (fun s h => s.applyShadow n h) v).dropShadows b n

/-- What the block does after that: it strobes, presents its entries, or leaves. -/
def State.actAtT (u : State) (b n : Nat) : State :=
  if b < 144 ∧ u.expF b n F.NI_STK_EXP_PRELOAD = 1 ∧ u.expF b n F.NI_STK_EXP_PART = 1 then
    ((u.strobe b n).dropEntries b n).leave b n
  else if b < 144 ∧ !(u.entriesOf b n).isEmpty then
    (u.setFld (setRegOf b n) F.NI_STK_SET_STATE BlkSt.APPLYING).driveTree b n
  else u.leave b n

section
variable {s : State} {b : Fin 193} {n : Fin 8}

theorem execStakeApply_waits (h : s.blkSt b.val n.val ≠ BlkSt.CALLED ∨ s.nowOf b.val < (s.blk b.val n.val).t) :
    exec (.stakeApply b n) s = .next s := by
  show execStakeApply b n s = _
  unfold execStakeApply
  exact if_pos h

theorem execStakeApply_called (h : s.blkSt b.val n.val = BlkSt.CALLED) (ht : (s.blk b.val n.val).t ≤ s.nowOf b.val) :
    exec (.stakeApply b n) s = .next ((s.shadowsApplied b.val n.val).actAtT b.val n.val) := by
  show execStakeApply b n s = _
  unfold execStakeApply
  dsimp only
  rw [if_neg (by rw [not_or]; exact ⟨not_not_intro h, Nat.not_lt.2 ht⟩), State.actAtT, apply_ite Host.Outcome.next,
    apply_ite Host.Outcome.next]
  rfl

end

section
variable {u : State} {b n : Nat}

theorem State.actAtT_notNi (hb : 144 ≤ b) : u.actAtT b n = u.leave b n := by
  rw [State.actAtT, if_neg (by omega), if_neg (by omega)]

theorem State.actAtT_preload (hb : b < 144) (hpre : u.expF b n F.NI_STK_EXP_PRELOAD = 1)
    (hpart : u.expF b n F.NI_STK_EXP_PART = 1) : u.actAtT b n = ((u.strobe b n).dropEntries b n).leave b n := by
  rw [State.actAtT, if_pos ⟨hb, hpre, hpart⟩]

/-- A block that does not take part in a PRELOAD set presents the entries that it holds. -/
theorem State.actAtT_staged (hno : u.expF b n F.NI_STK_EXP_PRELOAD = 0 ∨ u.expF b n F.NI_STK_EXP_PART = 0) :
    (b < 144 → u.entriesOf b n ≠ [] →
      u.actAtT b n = (u.setFld (setRegOf b n) F.NI_STK_SET_STATE BlkSt.APPLYING).driveTree b n) ∧
    (u.entriesOf b n = [] → u.actAtT b n = u.leave b n) := by
  rw [State.actAtT, if_neg (by omega)]
  exact ⟨fun hb he => if_pos ⟨hb, by simpa using he⟩, fun he => if_neg (by simp [he])⟩

end

/-! ### A participant that reaches T in EXPECT (R143) -/

/-- What the set held at the block is gone and counted, kept for R291, and MISSED sets. -/
def State.missedDropped (s : State) (b n : Nat) : State :=
  let k := (s.entriesOf b n).length + (s.shadowsOf b n).length
  let t := (((s.dropShadows b n).dropEntries b n).stkLost b k).setFld (setRegOf b n) F.NI_STK_SET_MISSED 1
  { t with stk := { t.stk with missed := t.stk.missed ++ s.shadowsOf b n } }

theorem execStakeMissed_misses {s : State} {b : Fin 193} {n : Fin 8} (hst : s.blkSt b.val n.val = BlkSt.EXPECT)
    (hpart : s.expF b.val n.val F.NI_STK_EXP_PART = 1) (hasap : s.expF b.val n.val F.NI_STK_EXP_ASAP = 0)
    (ht : (s.blk b.val n.val).t ≤ s.nowOf b.val) (hm : s.setF b.val n.val F.NI_STK_SET_MISSED = 0) :
    exec (.stakeMissed b n) s = .next ((s.missedDropped b.val n.val).blkFault b.val n.val 8) := by
  show execStakeMissed b n s = _
  unfold execStakeMissed
  exact if_pos (by simp [hst, hpart, hasap, ht, hm])

theorem State.missedDropped_spec (s : State) (b n : Nat) :
    (s.missedDropped b n).shadowsOf b n = [] ∧ (s.missedDropped b n).entriesOf b n = [] ∧
    (s.missedDropped b n).setF b n F.NI_STK_SET_SHADOWS = 0 ∧ (s.missedDropped b n).setF b n F.NI_STK_SET_MISSED = 1 := by
  let k := (s.entriesOf b n).length + (s.shadowsOf b n).length
  let u := ((s.dropShadows b n).dropEntries b n).stkLost b k
  let t := u.setFld (setRegOf b n) F.NI_STK_SET_MISSED 1
  have hstk : t.stk = ((s.dropShadows b n).dropEntries b n).stk := by
    rw [State.setFld_stk, State.stkLost_stk]
  have hfld (f : Fld) : (s.missedDropped b n).setF b n f = t.fld (setRegOf b n) f := rfl
  have hshadows : (s.missedDropped b n).stk.shadows = t.stk.shadows := rfl
  have hents : (s.missedDropped b n).stk.ents = t.stk.ents := rfl
  refine ⟨?_, ?_, ?_, ?_⟩
  · rw [State.shadowsOf_of_shadows (s := s.dropShadows b n), State.shadowsOf_dropShadows]
    rw [hshadows, hstk, State.dropEntries_shadows]
  · rw [State.entriesOf_of_ents (s := (s.dropShadows b n).dropEntries b n), State.entriesOf_dropEntries]
    rw [hents, hstk]
  · rw [hfld, State.fld_setFld_apart _ _ _ _ _ (by decide) (by decide), State.fld,
      State.rd_stkLost_ne _ _ _ (setRegOf_ne_stkStatOf b n), State.rd_dropEntries_ne _ _ _ (setRegOf_ne_stkStatOf b n),
      ← State.fld, State.dropShadows, State.fld_setFld_same _ _ _ _ (by decide)]
    rfl
  · rw [hfld, State.fld_setFld_same _ _ _ _ (by decide)]
    rfl

/-- Settles O40: the controller's commands by their conditions, the calls and cycle T by the state of the block. -/
theorem setProgressCallsAndApply : Obligations.SetProgressCallsAndApply := by
  refine ⟨fun n s => ⟨fun hst hf hr himg => ⟨fun hasap ht => ?_, fun hasap ht => ?_⟩, execStakeCommit_waits,
      execStakeFaultAbort_aborts, execStakeNotready_aborts, execStakeAbortDone_ends, fun hst ht => ?_,
      fun hst ht hs ho => ⟨fun hfaulted hf => ?_, fun hfaulted => ?_⟩, execStakeStuck_releases⟩,
    fun b sbe s m n => execStakeCallArrival_eq sbe, fun b n s t => ⟨State.callAt_expecting t, State.callAt_elsewhere t⟩,
    fun b n s hst ht => ?_, fun b n s => execStakeApply_waits, fun b n s hst hpart hasap ht hm => ?_⟩
  · obtain ⟨hcommitted, htime, hpend, -⟩ := s.committing_spec n.val (s.effT n.val)
    refine ⟨_, execStakeCommit_ready hst hf hr himg, ?_⟩
    rw [if_neg (Bool.eq_false_iff.1 hasap), if_pos ht]
    exact ⟨hcommitted, htime, hpend⟩
  · obtain ⟨hcommitted, -, hpend, hrd⟩ := (s.wr (A.STK_SET_EFF_T n.val)
      (BitVec.ofNat 64 (roundUp (s.datum + 256) 1024))).committing_spec n.val (roundUp (s.datum + 256) 1024)
    refine ⟨_, execStakeCommit_ready hst hf hr himg, ?_⟩
    rw [if_pos hasap, if_pos ht]
    refine ⟨hcommitted, (hrd _ ?_ ?_ ?_).trans (State.rd_wr_same ..), hpend⟩ <;>
      simp only [A.STK_SET_EFF_T, A.STK_SET_STATUS, A.STK_SUMMARY, A.STK_SET_COMMIT_TIME] <;> omega
  · exact ⟨_, execStakeControllerT_applies hst ht, State.setSt_toSet _ _ (by decide), fun a ha hsum =>
      State.rd_toSet_ne _ _ _ ha hsum⟩
  · rw [execStakeResult_ends hst ht hs ho, State.seeFault_of_no_fault hf, if_neg (Bool.eq_false_iff.1 hfaulted)]
  · rw [execStakeResult_ends hst ht hs ho, if_pos hfaulted]
  · have h := execStakeApply_called hst ht
    refine ⟨State.shadowsOf_dropShadows .., fun hb => h.trans (congrArg _ (State.actAtT_notNi hb)),
      fun hb hpre hpart => h.trans (congrArg _ (State.actAtT_preload hb hpre hpart)), fun hno => ?_⟩
    obtain ⟨hstaged, hempty⟩ := State.actAtT_staged hno
    exact ⟨fun hb he => h.trans (congrArg _ (hstaged hb he)), fun he => h.trans (congrArg _ (hempty he))⟩
  · have hshow := (s.missedDropped b.val n.val).blkFault_showsOnly b.val n.val 8
    obtain ⟨hshadows, hents, hcount, hmissed⟩ := s.missedDropped_spec b.val n.val
    exact ⟨_, execStakeMissed_misses hst hpart hasap ht hm, (State.shadowsOf_of_shadows hshow.shadows ..).trans hshadows,
      (State.entriesOf_of_ents hshow.ents ..).trans hents, (hshow.setF _ (by decide)).trans hcount,
      (hshow.setF _ (by decide)).trans hmissed, State.FAULT_blkFault ..⟩

end Sys2Proof.Machine
end

section
/-!
PROOFS. Staged writes (R133, R134), the writes of registers that are placed as shadows (R135), and the placing again of lost
shadows (R291).
-/
namespace Sys2Proof.Machine

/-! ### The judgement of an STW (R133) -/

section
variable {s : State} {p : Nat} {q : Pkt}

theorem State.judgeStw_idle (h : s.blkSt p q.h.stake.toNat = BlkSt.IDLE) :
    s.judgeStw p q = (Code.DENY, false, false, false) := if_pos h

theorem State.judgeStw_called (h : s.blkSt p q.h.stake.toNat = BlkSt.CALLED ∨ s.blkSt p q.h.stake.toNat = BlkSt.APPLYING) :
    s.judgeStw p q = (Code.LATE, false, true, false) := by
  unfold State.judgeStw
  dsimp only
  rw [if_neg (by obtain h | h := h <;> rw [h] <;> decide), if_pos h]

/-- R133: an STW that lies within one line and is formed as its command asks. -/
abbrev Pkt.stwFormed (q : Pkt) : Prop :=
  1 ≤ q.h.bcount.toNat ∧ q.h.address.toNat % 64 + q.h.bcount.toNat ≤ 64 ∧
    q.h.len.toNat = lenFor q.h.address.toNat q.h.bcount.toNat ∧ q.h.clean = true

/-- R133: an STW of enough privilege. -/
abbrev State.stwAllowed (s : State) (p : Nat) (q : Pkt) : Prop :=
  s.fld (A.NI_STK_CTL p) F.NI_STK_CTL_MIN_PRIV ≤ effPriv q.h.src q.h.priv

/-- R133: an STW beyond what the set expects of the block. -/
abbrev State.stwExtra (s : State) (p : Nat) (q : Pkt) : Prop :=
  s.expF p q.h.stake.toNat F.NI_STK_EXP_PART = 0 ∨
    s.expF p q.h.stake.toNat F.NI_STK_EXP_STAGED ≤ s.setF p q.h.stake.toNat F.NI_STK_SET_ACC

variable (h : s.blkSt p q.h.stake.toNat = BlkSt.COLLECT ∨ s.blkSt p q.h.stake.toNat = BlkSt.EXPECT)
include h

theorem State.judgeStw_malformed (hf : ¬ q.stwFormed) : s.judgeStw p q = (Code.TGTERR, true, false, false) := by
  unfold State.judgeStw
  dsimp only
  rw [if_neg (by obtain h | h := h <;> rw [h] <;> decide), if_neg (by obtain h | h := h <;> rw [h] <;> decide), if_pos]
  by_contra hno
  simp only [not_or, Bool.not_eq_true', Bool.not_eq_false] at hno
  obtain ⟨hpos, hline, hlen, hclean⟩ := hno
  exact hf ⟨by omega, by omega, not_not.1 hlen, hclean⟩

variable (hf : q.stwFormed)
include hf

/-- A well-formed STW of a block that takes them, by its privilege, by what is expected, and by the entries in use. -/
theorem State.judgeStw_formed : s.judgeStw p q =
    if effPriv q.h.src q.h.priv < s.fld (A.NI_STK_CTL p) F.NI_STK_CTL_MIN_PRIV then (Code.DENY, true, false, false)
    else if s.blkSt p q.h.stake.toNat = BlkSt.EXPECT ∧ s.stwExtra p q then (Code.TGTERR, false, true, false)
    else if 512 ≤ s.entsUsed p then (Code.TGTERR, true, false, false)
    else (Code.OK, false, false, true) := by
  obtain ⟨hpos, hline, hlen, hclean⟩ := hf
  unfold State.judgeStw
  dsimp only
  rw [if_neg (by obtain h | h := h <;> rw [h] <;> decide), if_neg (by obtain h | h := h <;> rw [h] <;> decide), if_neg]
  rintro (hk | hk | hk | hk)
  · omega
  · omega
  · exact hk hlen
  · rw [hclean] at hk
    exact absurd hk (by decide)

end

/-! ### An STW at an enabled port (R133, R134) -/

/-- The staging entry that an STW becomes. -/
def Pkt.stkEntry (q : Pkt) : StkEntry where
  set := q.h.stake.toNat
  hdr := q.h
  mask := lineMask (q.h.address.toNat % 64) q.h.bcount.toNat
  data := BitVec.ofNat 512 (q.dataNat * 256 ^ (q.h.address.toNat % 64))

/-- An STW has joined the staging entries of its port. -/
def State.stwStaged (s : State) (p : Nat) (q : Pkt) : State :=
  (((s.setEnts p (tget [] s.stk.ents p ++ [q.stkEntry])).wrap (setRegOf p q.h.stake.toNat) F.NI_STK_SET_ACC).ncnt p
    22).refresh p q.h.stake.toNat

/-- REFUSED sets where the judgement of an STW says so. -/
def State.stwRefused (s : State) (p : Nat) (q : Pkt) (refused : Bool) : State :=
  if refused then (s.setFld (setRegOf p q.h.stake.toNat) F.NI_STK_SET_REFUSED 1).refresh p q.h.stake.toNat else s

/-- An STW that is not staged: REFUSED sets, or it is counted in EXTRA. -/
def State.stwTurned (s : State) (p : Nat) (q : Pkt) (refused extra : Bool) : State :=
  if extra then (s.stwRefused p q refused).sat (A.NI_STK_STATUS p) F.NI_STK_STATUS_EXTRA else s.stwRefused p q refused

theorem State.stwTurned_none (s : State) (p : Nat) (q : Pkt) : s.stwTurned p q false false = s := rfl

theorem State.stwTurned_refused (s : State) (p : Nat) (q : Pkt) : s.stwTurned p q true false =
    (s.setFld (setRegOf p q.h.stake.toNat) F.NI_STK_SET_REFUSED 1).refresh p q.h.stake.toNat := by
  rw [State.stwTurned, if_neg Bool.false_ne_true, State.stwRefused, if_pos rfl]

theorem State.stwTurned_extra (s : State) (p : Nat) (q : Pkt) : s.stwTurned p q false true =
    s.sat (A.NI_STK_STATUS p) F.NI_STK_STATUS_EXTRA := by
  rw [State.stwTurned, if_pos rfl, State.stwRefused, if_neg Bool.false_ne_true]

section
variable {s : State} {p : Nat} {q : Pkt} (hdest : q.h.dest = s.gid p) (hwhole : q.fails = false)
  (hen : s.enabled p = true)
include hdest hwhole hen

theorem State.takeStw_stages (hj : s.judgeStw p q = (Code.OK, false, false, true)) :
    s.takeStw p q = (s.stwStaged p q).respond p q.h Cmd.STR Code.OK [] := by
  unfold State.takeStw
  dsimp only
  rw [if_neg (not_not_intro hdest), hwhole, if_neg Bool.false_ne_true, hen, hj]
  dsimp only
  rw [if_neg (by decide), if_pos rfl]
  rfl

theorem State.takeStw_turns {c : BitVec 4} {refused extra : Bool} (hj : s.judgeStw p q = (c, refused, extra, false)) :
    s.takeStw p q = ((s.stwTurned p q refused extra).tcapPkt p c q.h).respond p q.h Cmd.STR c [] := by
  unfold State.takeStw
  dsimp only
  rw [if_neg (not_not_intro hdest), hwhole, if_neg Bool.false_ne_true, hen, hj]
  dsimp only
  rw [if_neg (by decide), if_neg Bool.false_ne_true, ← State.stwRefused, ← State.stwTurned]

end

theorem State.EventsOnly.stk {s t : State} (h : s.EventsOnly t) : t.stk = s.stk := congrArg (·.stk) h.rest

theorem State.ents_stwStaged (s : State) (p : Nat) (q : Pkt) :
    tget [] (s.stwStaged p q).stk.ents p = tget [] s.stk.ents p ++ [q.stkEntry] := by
  rw [State.stwStaged, (State.refresh_showsOnly ..).ents, (State.ncnt_eventsOnly ..).stk, State.wrap_stk, State.setEnts_ents]
  exact tget_tset_same _ _ _ (tget [] s.stk.ents p ++ [q.stkEntry])

theorem execStwReceive_takes {p : Fin 144} {s : State} {q : Pkt} {rest : List Pkt} (hq : (s.ni p.val).rxReq = q :: rest)
    (hc : q.h.cmd = Cmd.STW) :
    exec (.stwReceive p) s = .next ((s.modNi p.val (fun n => { n with rxReq := rest })).takeStw p.val q) := by
  show execStwReceive p s = _
  unfold execStwReceive
  dsimp only
  rw [hq]
  exact if_pos hc

/-! ### Registers with fields under shadow (R135) -/

theorem idxIn_elem (base : Nat) {n k : Nat} (hk : k < n) : idxIn (base + k * 0x8) base n = some k := by
  rw [idxIn, if_pos (by omega)]
  congr 1
  omega

theorem eq_of_idxIn {a base n k : Nat} (h : idxIn a base n = some k) : k < n ∧ a = base + k * 0x8 := by
  unfold idxIn at h
  split at h
  · have hk := Option.some.inj h
    omega
  · exact absurd h (by simp)

/-- R135: the rule for a write of a register with fields under shadow; two registers of a station have rules of their own. -/
def State.rwsRule (s : State) (a : Nat) (b : Blk) (r : Req) : State × BitVec 4 :=
  match b with
  | .stn st =>
    if a = A.STN_TRAV_CTL st then s.writeStnTrav st r
    else
      match idxIn a (A.STN_PLAT_CTL st 0) 11 with
      | some n => s.writePlatCtl st n r
      | none => s.writeRws a r
  | _ => s.writeRws a r

section
variable {s : State} {a i : Nat} {r : Req}

theorem State.rwsRule_travCtl (h : a = A.STN_TRAV_CTL i) : s.rwsRule a (.stn i) r = s.writeStnTrav i r := if_pos h

theorem State.rwsRule_platCtl {n : Nat} (hn : n < 11) (h : a = A.STN_PLAT_CTL i n) :
    s.rwsRule a (.stn i) r = s.writePlatCtl i n r := by
  have hne : A.STN_PLAT_CTL i n ≠ A.STN_TRAV_CTL i := by
    simp only [A.STN_PLAT_CTL, A.STN_TRAV_CTL]
    omega
  have hidx : idxIn (A.STN_PLAT_CTL i n) (A.STN_PLAT_CTL i 0) 11 = some n := idxIn_elem (A.stnBase i + 0x700) hn
  subst h
  unfold State.rwsRule
  dsimp only
  rw [if_neg hne, hidx]

theorem State.rwsRule_plain {b : Blk}
    (h : ∀ i, b = .stn i → a ≠ A.STN_TRAV_CTL i ∧ ∀ n, n < 11 → a ≠ A.STN_PLAT_CTL i n) : s.rwsRule a b r = s.writeRws a r := by
  cases b with
  | stn i =>
    obtain ⟨htrav, hplat⟩ := h i rfl
    unfold State.rwsRule
    dsimp only
    rw [if_neg htrav]
    cases hidx : idxIn a (A.STN_PLAT_CTL i 0) 11 with
    | none => rfl
    | some n =>
      obtain ⟨hn, ha⟩ := eq_of_idxIn hidx
      exact absurd ha (hplat n hn)
  | glb => rfl
  | ni p => rfl
  | fed f => rfl

theorem State.writeRws_places {row : RegRow} {t : State} (hrow : rowAt a = some row)
    (ht : s.rwsWrite a row r.data = some t) : s.writeRws a r =
      (t.refresh (blkIndexOf a) (s.fld (bindOf (blkIndexOf a)) F.NI_STK_BIND_SET), Code.OK) := by
  simp only [State.writeRws, hrow, ht]

theorem State.writeRws_denies {row : RegRow} (hrow : rowAt a = some row) (ht : s.rwsWrite a row r.data = none) :
    s.writeRws a r = (s, Code.DENY) := by
  simp only [State.writeRws, hrow, ht]

end

section
variable {off : Fin 33554432} {r : Req} {s : State} {row : RegRow} {b : Blk} {o : Nat} (ha : s.admits off.val r)
  (hrow : rowAt off.val = some row) (hblk : blkOf off.val = some (b, o)) (hrws : row.rwsFlds ≠ [])
include ha hrow hblk hrws

theorem execRwsShadowWrite_serves {x : State × BitVec 4} (h : s.rwsRule off.val b r = x) :
    exec (.rwsShadowWrite off r) s = .next (x.1.ans off.val r x.2) := by
  have hs : exec (.rwsShadowWrite off r) s = .next (s.serve off.val r (·.rwsRule off.val b r)) := by
    show execRwsShadowWrite off r s = _
    unfold execRwsShadowWrite State.rwsRule
    dsimp only
    rw [hrow, hblk]
    dsimp only
    rw [if_neg (by simpa using hrws)]
    generalize off.val = a
    cases b with
    | stn i =>
      dsimp only
      by_cases htrav : a = A.STN_TRAV_CTL i
      · simp only [if_pos htrav]
      · simp only [if_neg htrav]
        cases idxIn a (A.STN_PLAT_CTL i 0) 11 <;> rfl
    | glb => rfl
    | ni p => rfl
    | fed f => rfl
  rw [hs, State.serve_eq ha h]

end

/-! ### Lost shadows placed again (R291) -/

section
variable {n : Fin 8} {s : State} {h : Shadow} {hs : List Shadow}
  (hlost : s.stk.missed.filter (fun h => h.set = n.val) = h :: hs) (hst : s.setSt n.val = SetSt.IDLE)
  (hres : s.fld (A.STK_SET_STATUS n.val) F.STK_SET_STATUS_RESULT = 2)
include hlost hst hres

theorem execReapplyShadows_opens (hown : s.fmp.own7 = none) (hidle : s.idle7 = true) : exec (.reapplyShadows n) s =
    .next ({ s with fmp := { s.fmp with own7 := some { kind := 2 } } }.open7) := by
  show execReapplyShadows n s = _
  unfold execReapplyShadows
  dsimp only
  rw [hlost, hown]
  exact if_pos (by simp [hst, hres, hidle])

/-- Set 7 is open: the shadows are placed in it and it is closed. -/
theorem execReapplyShadows_places {o : Own7} (hown : s.fmp.own7 = some o) (hk : o.kind = 2)
    (hopen : s.setSt 7 = SetSt.OPEN) :
    let u := { s with stk := { s.stk with missed := s.stk.missed.filter (fun h => h.set ≠ n.val) } }
    exec (.reapplyShadows n) s = .next
      (((u.placeAll 7 ((h :: hs).map (fun h => (h.addr, h.val)))).1.close7 0 2048).note 0xF
        (n.val + 16 * 2 + 256 * 8 + 4096 * h.blk) 0) := by
  intro u
  show execReapplyShadows n s = _
  unfold execReapplyShadows
  dsimp only
  rw [hlost, hown]
  exact if_pos (by simp [hst, hres, hk, hopen])

end

/-- Settles O41: an STW by its judgement, a write under shadow by its register's rule, the lost shadows by the state of set 7. -/
theorem stagedWritesAndShadows : Obligations.StagedWritesAndShadows := by
  refine ⟨fun p s q rest => execStwReceive_takes, fun p s q hdest hwhole hen => ⟨fun hj => ?_, fun hst => ?_, fun hst => ?_,
      fun c hj => ?_, fun hj => ?_⟩, fun p s q => ?_, fun off r s row b o ha hrow hblk hrws => ⟨fun i hb hoff => ?_,
      fun i n hb hn hoff => ?_, fun hplain => ⟨fun t ht => ?_, fun ht => ?_⟩⟩,
    fun n s h hs hlost hst hres => ⟨execReapplyShadows_opens hlost hst hres, fun o =>
      execReapplyShadows_places hlost hst hres⟩⟩
  · exact ⟨_, State.takeStw_stages hdest hwhole hen hj, s.ents_stwStaged p.val q⟩
  · rw [State.takeStw_turns hdest hwhole hen (State.judgeStw_idle hst), State.stwTurned_none]
  · rw [State.takeStw_turns hdest hwhole hen (State.judgeStw_called hst), State.stwTurned_extra]
  · rw [State.takeStw_turns hdest hwhole hen hj, State.stwTurned_refused]
  · rw [State.takeStw_turns hdest hwhole hen hj, State.stwTurned_extra]
  · intro st a k good allowed extra hst
    refine ⟨State.judgeStw_malformed hst, fun hg hna => ?_, fun hg hal he hx => ?_, fun hg hal hx => ?_⟩
    · rw [State.judgeStw_formed hst hg, if_pos (Nat.not_le.1 hna)]
    · rw [State.judgeStw_formed hst hg, if_neg (Nat.not_lt.2 hal), if_pos ⟨he, hx⟩]
    · rw [State.judgeStw_formed hst hg, if_neg (Nat.not_lt.2 hal), if_neg fun he => hx he.1 he.2]
  · subst hb
    exact execRwsShadowWrite_serves ha hrow hblk hrws (State.rwsRule_travCtl hoff)
  · subst hb
    exact execRwsShadowWrite_serves ha hrow hblk hrws (State.rwsRule_platCtl hn hoff)
  · rw [execRwsShadowWrite_serves ha hrow hblk hrws (State.rwsRule_plain hplain), State.writeRws_places hrow ht]
  · rw [execRwsShadowWrite_serves ha hrow hblk hrws (State.rwsRule_plain hplain), State.writeRws_denies hrow ht]

end Sys2Proof.Machine
end

section
/-!
PROOFS. What an NI drives in a cycle without a G flit, and which class's head may start (R98, R153, R154).
-/
namespace Sys2Proof.Machine

/-! ### The cycle's flit (R98, R153) -/

/-- R53, R153: with no flit to drive an idle flit returns the oldest credit owed, if one is owed. -/
def State.idleDriven (s : State) (p : Nat) : State :=
  match (s.ni p).lrx.ret with
  | [] => s
  | v :: vs =>
    (s.modNi p (fun n => { n with lrx := { n.lrx with ret := vs }, drove := s.datum + 1 })).sendWire (p / 4) (6 + p % 4)
      ⟨.idle, some v⟩ s.datum

/-- R153: what the class path makes of a cycle that the MGT path and the response path leave to it. -/
def State.clsDriven (s : State) (p : Nat) : State :=
  if (s.injCls p).2 then (s.injCls p).1 else (s.injCls p).1.idleDriven p

section
variable {p : Fin 144} {s : State}

/-- R98: a cycle that has its flit, or whose flit is a G flit. -/
theorem execNiInject_taken (h : s.datum < (s.ni p.val).drove ∨ (s.injects p.val).isSome = true) :
    exec (.niInject p) s = .next s := by
  show execNiInject p s = _
  unfold execNiInject
  exact if_pos (by simpa using h)

/-- R153: the order of the paths in a free cycle. -/
theorem execNiInject_free (hdrove : (s.ni p.val).drove ≤ s.datum) (hg : s.injects p.val = none) :
    exec (.niInject p) s =
      .next ((s.injMgt p.val).getD ((s.injRsp p.val).getD (s.clsDriven p.val))) := by
  show execNiInject p s = _
  unfold execNiInject State.clsDriven State.idleDriven
  dsimp only
  rw [if_neg (by simp [hdrove, hg])]
  cases s.injMgt p.val with
  | some t => rfl
  | none =>
    cases s.injRsp p.val with
    | some t => rfl
    | none =>
      rcases s.injCls p.val with ⟨t, _ | _⟩
      · dsimp only [Option.getD_none]
        cases (t.ni p.val).lrx.ret <;> rfl
      · rfl

end

section
variable {s : State} {p : Nat}

theorem State.clsDriven_flit (h : (s.injCls p).2 = true) : s.clsDriven p = (s.injCls p).1 := if_pos h

theorem State.clsDriven_idle (h : (s.injCls p).2 = false) : s.clsDriven p = (s.injCls p).1.idleDriven p :=
  if_neg (by rw [h]; exact Bool.false_ne_true)

theorem State.idleDriven_nothing (h : (s.ni p).lrx.ret = []) : s.idleDriven p = s := by
  unfold State.idleDriven
  rw [h]

theorem State.idleDriven_credit {v : Nat} {vs : List Nat} (h : (s.ni p).lrx.ret = v :: vs) : s.idleDriven p =
    (s.modNi p (fun n => { n with lrx := { n.lrx with ret := vs }, drove := s.datum + 1 })).sendWire (p / 4) (6 + p % 4)
      ⟨.idle, some v⟩ s.datum := by
  unfold State.idleDriven
  rw [h]

end

/-! ### Credits (R53) -/

theorem State.injMgt_of_no_credit {s : State} {p : Nat} (h : s.niCred p 6 = false) : s.injMgt p = none := by
  unfold State.injMgt
  rw [h]
  rfl

theorem State.injRsp_of_no_credit {s : State} {p : Nat} (h : s.niCred p 2 = false) : s.injRsp p = none := by
  unfold State.injRsp
  rw [h]
  rfl

/-! ### The class whose head starts (R154, R157) -/

section
variable {s : State} {p c : Nat}

/-- A class queue has an eligible head. -/
def State.HeadEligible (s : State) (p c : Nat) : Prop := ∃ o q, s.clsq p c = o :: q ∧ s.eligible p c o = true

/-- R154: what an eligible head has met. -/
theorem State.eligible_spec {o : OutPkt} (h : s.eligible p c o = true) :
    o.ready = true ∧ s.held p o = false ∧ s.niCred p (outVc o.pkt.h) = true ∧
    (isDrainBar o.kind = false → s.fits p c (s.nowOf p) o.pkt.cost = true ∧ s.shapeOk p c = true) := by
  unfold State.eligible at h
  simp only [Bool.and_eq_true, Bool.or_eq_true, Bool.not_eq_true'] at h
  obtain ⟨⟨⟨hready, hheld⟩, hfree⟩, hcred⟩ := h
  exact ⟨hready, hheld, hcred, fun hd => hfree.resolve_left (by rw [hd]; exact Bool.false_ne_true)⟩

/-- A weighted class is picked for its eligible head. -/
theorem State.headEligible_of_wfqPick (h : s.wfqPick p = some c) : s.HeadEligible p c := by
  unfold State.wfqPick at h
  refine List.foldlRecOn (motive := fun best => ∀ c, best = some c → s.HeadEligible p c) _ _
    (fun _ h => absurd h (Option.some_ne_none _).symm) (fun best hbest k _ => ?_) c h
  cases hq : s.clsq p k with
  | nil => exact hbest
  | cons o q =>
    dsimp only
    by_cases he : s.eligible p k o = true
    · have hk (c : Nat) (h : some k = some c) : s.HeadEligible p c := Option.some.inj h ▸ ⟨o, q, hq, he⟩
      rw [he, Bool.not_true, if_neg Bool.false_ne_true]
      cases best with
      | none => exact hk
      | some b =>
        dsimp only
        cases s.clsq p b with
        | nil => exact hk
        | cons x xs =>
          dsimp only
          split
          · exact hk
          · exact hbest
    · rw [Bool.not_eq_true] at he
      rw [he]
      exact hbest

/-- R154, R157: the class that starts has an eligible head, and class 6 has none when another class starts. -/
theorem State.classPick_spec (h : s.classPick p = some c) :
    s.HeadEligible p c ∧ (c ≠ 6 → ∀ x ∈ (s.clsq p 6).head?, s.eligible p 6 x = false) := by
  unfold State.classPick at h
  cases hq : s.clsq p 6 with
  | nil =>
    rw [hq] at h
    exact ⟨State.headEligible_of_wfqPick h, fun _ x hx => absurd hx (by simp)⟩
  | cons o q =>
    rw [hq] at h
    dsimp only at h
    by_cases he : s.eligible p 6 o = true
    · rw [if_pos he] at h
      cases h
      exact ⟨⟨o, q, hq, he⟩, fun hc => absurd rfl hc⟩
    · rw [if_neg he] at h
      refine ⟨State.headEligible_of_wfqPick h, fun _ x hx => ?_⟩
      cases hx
      exact Bool.eq_false_of_not_eq_true he

end

/-- Settles O42: a free cycle by the first path that has a flit, a start by the pick that found its class. -/
theorem niInjection : Obligations.NiInjection := by
  refine ⟨fun p s => ⟨execNiInject_taken, fun hdrove hg => ?_⟩,
    fun p s => ⟨State.injMgt_of_no_credit, State.injRsp_of_no_credit⟩, fun p c s h => ?_⟩
  · rw [execNiInject_free hdrove hg]
    refine ⟨fun t hm => by rw [hm]; rfl, fun hm => ?_⟩
    rw [hm, Option.getD_none]
    refine ⟨fun t hr => by rw [hr]; rfl, fun hr => ?_⟩
    rw [hr, Option.getD_none]
    refine ⟨fun h => ?_, fun h hret => ?_, fun v vs h hret => ?_⟩
    · rw [State.clsDriven_flit h]
    · rw [State.clsDriven_idle h, State.idleDriven_nothing hret]
    · rw [State.clsDriven_idle h, State.idleDriven_credit hret]
  · obtain ⟨⟨o, q, hq, he⟩, hsix⟩ := State.classPick_spec h
    obtain ⟨hready, hheld, hcred, hopen⟩ := State.eligible_spec he
    exact ⟨o, q, hq, hready, hheld, hcred, hopen, hsix⟩

end Sys2Proof.Machine
end

section
/-!
PROOFS. Writes that reset the levels of a shaper or of a policer (R165, R167).
-/
namespace Sys2Proof.Machine

/-! ### Accepted writes, and writes that act at the end of the cycle -/

/-- A plain write that is accepted. -/
theorem State.plainWrite_accepted {s : State} {a : Nat} {r : Req} (h : (s.plainWrite a r).2 = Code.OK) :
    s.plainWrite a r = ((s.plainWrite a r).1, Code.OK) := Prod.ext rfl h

/-- The latest write of a register that acts at the end of the cycle stands after it. -/
theorem State.rd_settle_wrLate (s : State) (a : Nat) (v : Word) : (s.wrLate a v).settle.rd a = v := State.rd_wr_same ..

/-! ### Shapers (R165) -/

theorem levels_zero : levels 0 (fun _ => 0) (fun _ => 0) = 0 := by decide

section
variable {s t : State} {p : Nat} {r : Req}

theorem State.writeShaper_rate_denies {k : Fin 7}
    (h : 65536 < reqFld r F.NI_SHAPE_RATE_RATE_C ∨ 65536 < reqFld r F.NI_SHAPE_RATE_RATE_P) :
    s.writeShaper p (.rate k) r = (s, Code.DENY) := by
  unfold State.writeShaper
  exact if_pos h

theorem State.writeShaper_rate_resets {k : Fin 7} (hc : reqFld r F.NI_SHAPE_RATE_RATE_C ≤ 65536)
    (hp : reqFld r F.NI_SHAPE_RATE_RATE_P ≤ 65536) (hw : s.plainWrite (A.NI_SHAPE_RATE p k.val) r = (t, Code.OK)) :
    s.writeShaper p (.rate k) r = (t.resetShaper p k.val, Code.OK) := by
  unfold State.writeShaper
  refine (if_neg (by omega)).trans ?_
  rw [hw]
  rfl

theorem execShaperResetWrite_serves {p : Fin 144} {reg : ShaperReg} {c : BitVec 4} (ha : s.admits (shaperAddr p.val reg) r)
    (h : s.writeShaper p.val reg r = (t, c)) :
    exec (.shaperResetWrite p reg r) s = .next (t.ans (shaperAddr p.val reg) r c) :=
  congrArg Host.Outcome.next (State.serve_eq ha h)

/-- Without RELOAD the levels of a class are reset to 0. -/
theorem State.resetShaper_empties {c : Nat} (h : (s.fld (A.NI_SHAPE_CTL p) F.NI_SHAPE_CTL_RELOAD).testBit c = false) :
    s.resetShaper p c = s.wrLate (A.NI_SHAPE_LEVEL p c) 0 := by
  unfold State.resetShaper
  dsimp only
  rw [h, if_neg Bool.false_ne_true, if_neg Bool.false_ne_true, levels_zero]

end

/-! ### Policers (R167) -/

section
variable {s t : State} {r : Req}

theorem State.writePolicer_size_denies {f : Nat}
    (h : reqFld r F.FED_POLICE_SIZE_SIZE_C < 3 ∨ reqFld r F.FED_POLICE_SIZE_SIZE_P < 3) :
    s.writePolicer f true r = (s, Code.DENY) := by
  unfold State.writePolicer
  extract_lets a bad
  exact if_pos ((if_pos rfl).mpr h)

/-- R167: both levels of an agent's policer full at the end of the serving cycle. -/
def State.resetPolicer (s : State) (f : Nat) : State :=
  s.wrLate (A.FED_POLICE_LEVEL f) (Machine.levels 0 (fun _ => s.fld (A.FED_POLICE_SIZE f) F.FED_POLICE_SIZE_SIZE_C * 65536)
    (fun _ => s.fld (A.FED_POLICE_SIZE f) F.FED_POLICE_SIZE_SIZE_P * 65536))

theorem State.writePolicer_size_resets {f : Nat} (hc : 3 ≤ reqFld r F.FED_POLICE_SIZE_SIZE_C)
    (hp : 3 ≤ reqFld r F.FED_POLICE_SIZE_SIZE_P) (hw : s.plainWrite (A.FED_POLICE_SIZE f) r = (t, Code.OK)) :
    s.writePolicer f true r = (t.resetPolicer f, Code.OK) := by
  unfold State.writePolicer
  extract_lets a bad
  have ha : a = A.FED_POLICE_SIZE f := if_pos rfl
  have hbad : ¬bad := by
    show ¬(if true = true then _ else _)
    rw [if_pos rfl]
    omega
  rw [if_neg hbad, ha, hw]
  exact if_neg (not_not_intro rfl)

theorem execPoliceResetWrite_serves {f : Fin 12} {c : BitVec 4} (ha : s.admits (A.FED_POLICE_SIZE f.val) r)
    (h : s.writePolicer f.val true r = (t, c)) :
    exec (.policeResetWrite f true r) s = .next (t.ans (A.FED_POLICE_SIZE f.val) r c) :=
  congrArg Host.Outcome.next (State.serve_eq ha h)

end

end Sys2Proof.Machine
end

section
/-!
PROOFS. Sluice lists: GO, CANCEL, and the start of a list (R161).
-/
namespace Sys2Proof.Machine

/-! ### The registers of a sluice -/

/-- Registers of one port at different places differ. -/
theorem niBase_add_ne (p : Nat) {i j : Nat} (h : i ≠ j) : A.niBase p + i ≠ A.niBase p + j := (add_right_injective _).ne h

theorem SLUICE_OPER_ne (p : Nat) {k j : Nat} (hk : k < 32) (hj : j < 0x2800 ∨ 0x2900 ≤ j) :
    A.NI_SLUICE_OPER p k ≠ A.niBase p + j := by
  simp only [A.NI_SLUICE_OPER]
  omega

theorem SLUICE_ADMIN_ne (p : Nat) {j : Nat} (k : Nat) (hj : j < 0x2700) : A.NI_SLUICE_ADMIN p k ≠ A.niBase p + j := by
  simp only [A.NI_SLUICE_ADMIN]
  omega

/-! ### A write of NI_SLUICE_CTL -/

/-- R161: EN and ADMIN_LEN as an accepted write of NI_SLUICE_CTL sets them. -/
def State.sluiceSet (s : State) (p : Nat) (r : Req) : State :=
  (s.setFld (A.NI_SLUICE_CTL p) F.NI_SLUICE_CTL_EN (reqFld r F.NI_SLUICE_CTL_EN)).setFld (A.NI_SLUICE_CTL p)
    F.NI_SLUICE_CTL_ADMIN_LEN (reqFld r F.NI_SLUICE_CTL_ADMIN_LEN)

/-- R161: an accepted CANCEL; START is again that of the operating list. -/
def State.sluiceCancelled (s : State) (p : Nat) (r : Req) : State :=
  let t := (s.sluiceSet p r).setFld (A.NI_SLUICE_STATUS p) F.NI_SLUICE_STATUS_PENDING 0
  if s.bit (A.NI_SLUICE_STATUS p) F.NI_SLUICE_STATUS_PENDING then
    t.wr (A.NI_SLUICE_START p) (BitVec.ofNat 64 ((tget none (t.ni p).sluice 0).getD 0))
  else t

section
variable {s : State} {p : Nat} {r : Req}

theorem State.rd_sluiceSet_ne {a : Nat} (h : a ≠ A.NI_SLUICE_CTL p) : (s.sluiceSet p r).rd a = s.rd a := by
  rw [State.sluiceSet, State.rd_setFld_ne _ _ _ h, State.rd_setFld_ne _ _ _ h]

theorem State.ADMIN_LEN_sluiceSet :
    (s.sluiceSet p r).fld (A.NI_SLUICE_CTL p) F.NI_SLUICE_CTL_ADMIN_LEN = reqFld r F.NI_SLUICE_CTL_ADMIN_LEN := by
  rw [State.sluiceSet, State.fld_setFld_same _ _ _ _ (by decide), reqFld_mod]

theorem State.duration_sluiceSet (k : Nat) : (s.sluiceSet p r).duration p false k = s.duration p false k := by
  unfold State.duration State.fld
  rw [if_neg Bool.false_ne_true, State.rd_sluiceSet_ne (SLUICE_ADMIN_ne p k (by decide))]

theorem State.PENDING_sluiceCancelled :
    (s.sluiceCancelled p r).fld (A.NI_SLUICE_STATUS p) F.NI_SLUICE_STATUS_PENDING = 0 := by
  have hne : A.NI_SLUICE_STATUS p ≠ A.NI_SLUICE_START p := niBase_add_ne p (by decide)
  have hset (t : State) : (t.setFld (A.NI_SLUICE_STATUS p) F.NI_SLUICE_STATUS_PENDING 0).fld (A.NI_SLUICE_STATUS p)
      F.NI_SLUICE_STATUS_PENDING = 0 := State.fld_setFld_same _ _ _ _ (by decide)
  unfold State.sluiceCancelled
  dsimp only
  split
  · rw [State.fld, State.rd_wr_ne _ _ hne]
    exact hset _
  · exact hset _

/-- CANCEL leaves the operating list alone. -/
theorem State.rd_OPER_sluiceCancelled {k : Nat} (hk : k < 32) :
    (s.sluiceCancelled p r).rd (A.NI_SLUICE_OPER p k) = s.rd (A.NI_SLUICE_OPER p k) := by
  have hset : ((s.sluiceSet p r).setFld (A.NI_SLUICE_STATUS p) F.NI_SLUICE_STATUS_PENDING 0).rd (A.NI_SLUICE_OPER p k) =
      s.rd (A.NI_SLUICE_OPER p k) := by
    rw [State.rd_setFld_ne _ _ _ (SLUICE_OPER_ne p hk (by decide)),
      State.rd_sluiceSet_ne (SLUICE_OPER_ne p hk (by decide))]
  unfold State.sluiceCancelled
  dsimp only
  split
  · rw [State.rd_wr_ne _ _ (SLUICE_OPER_ne p hk (by decide)), hset]
  · exact hset

/-- A GO while a list is pending. -/
theorem State.writeSluiceCtl_pending (hpend : s.bit (A.NI_SLUICE_STATUS p) F.NI_SLUICE_STATUS_PENDING = true)
    (hgo : reqFld r F.NI_SLUICE_CTL_GO = 1) : s.writeSluiceCtl p r = (s, Code.DENY) :=
  if_pos (.inr (.inr ⟨hpend, .inl hgo⟩))

variable (hlo : 1 ≤ reqFld r F.NI_SLUICE_CTL_ADMIN_LEN)
include hlo

/-- The cycle of an administrative list without an entry of duration 0 is not 0. -/
theorem State.adminCycle_sluiceSet_pos
    (hdur : ∀ k, k < reqFld r F.NI_SLUICE_CTL_ADMIN_LEN → s.duration p false k ≠ 0) :
    0 < (s.sluiceSet p r).adminCycle p := by
  have hmem : (s.sluiceSet p r).duration p false 0 ∈ (List.range (reqFld r F.NI_SLUICE_CTL_ADMIN_LEN)).map
      (fun k => (s.sluiceSet p r).duration p false k) := List.mem_map_of_mem (List.mem_range.2 hlo)
  have hle := List.single_le_sum (fun _ _ => Nat.zero_le _) _ hmem
  rw [State.duration_sluiceSet] at hle
  rw [State.adminCycle, State.ADMIN_LEN_sluiceSet]
  exact (Nat.pos_of_ne_zero (hdur 0 hlo)).trans_le hle

variable (hhi : reqFld r F.NI_SLUICE_CTL_ADMIN_LEN ≤ 32)
include hhi

/-- A GO with no list pending and no entry of duration 0. -/
theorem State.writeSluiceCtl_go (hpend : s.bit (A.NI_SLUICE_STATUS p) F.NI_SLUICE_STATUS_PENDING = false)
    (hgo : reqFld r F.NI_SLUICE_CTL_GO = 1) (hcancel : reqFld r F.NI_SLUICE_CTL_CANCEL = 0)
    (hdur : ∀ k, k < reqFld r F.NI_SLUICE_CTL_ADMIN_LEN → s.duration p false k ≠ 0) :
    s.writeSluiceCtl p r = ((s.sluiceSet p r).sluiceGo p, Code.OK) := by
  unfold State.writeSluiceCtl
  dsimp only
  rw [hpend, if_neg (by rintro (h | h | ⟨h, -⟩); exacts [by omega, by omega, Bool.false_ne_true h]),
    if_neg (by simpa [hgo] using hdur), if_pos hgo, if_neg (by omega)]
  rfl

/-- A CANCEL without GO that leaves ADMIN_LEN as it is. -/
theorem State.writeSluiceCtl_cancel (hgo : reqFld r F.NI_SLUICE_CTL_GO = 0) (hcancel : reqFld r F.NI_SLUICE_CTL_CANCEL = 1)
    (hlen : reqFld r F.NI_SLUICE_CTL_ADMIN_LEN = s.fld (A.NI_SLUICE_CTL p) F.NI_SLUICE_CTL_ADMIN_LEN) :
    s.writeSluiceCtl p r = (s.sluiceCancelled p r, Code.OK) := by
  unfold State.writeSluiceCtl
  dsimp only
  rw [if_neg (by omega), if_neg (by omega), if_neg (by omega), if_pos hcancel]
  rfl

end

/-! ### The instant at which a list starts -/

/-- The cycles by which a list starts after its BASE: none, or the fewest that put its start 256 ahead. -/
def State.startAfter (s : State) (p : Nat) : Nat :=
  if s.nowOf p + 256 ≤ (s.rd (A.NI_SLUICE_BASE p)).toNat then 0
  else (s.nowOf p + 256 - (s.rd (A.NI_SLUICE_BASE p)).toNat) ⌈/⌉ s.adminCycle p

section
variable {s : State} {p : Nat}

theorem State.PENDING_sluiceGo : (s.sluiceGo p).fld (A.NI_SLUICE_STATUS p) F.NI_SLUICE_STATUS_PENDING = 1 := by
  have hne : A.NI_SLUICE_STATUS p ≠ A.NI_SLUICE_START p := niBase_add_ne p (by decide)
  rw [State.sluiceGo, State.fld, State.rd_wr_ne _ _ hne]
  exact State.fld_setFld_same _ _ F.NI_SLUICE_STATUS_PENDING 1 (by decide)

theorem State.START_sluiceGo : (s.sluiceGo p).rd (A.NI_SLUICE_START p) =
    BitVec.ofNat 64 ((s.rd (A.NI_SLUICE_BASE p)).toNat + s.startAfter p * s.adminCycle p) := by
  rw [State.startAfter, Nat.ceilDiv_eq_add_pred_div]
  exact State.rd_wr_same ..

variable (hcyc : 0 < s.adminCycle p)
include hcyc

/-- The start is 256 ahead. -/
theorem State.startAfter_reaches :
    s.nowOf p + 256 ≤ (s.rd (A.NI_SLUICE_BASE p)).toNat + s.startAfter p * s.adminCycle p := by
  unfold State.startAfter
  split
  · omega
  · have hup := (ceilDiv_le_iff_le_mul hcyc).1
      (le_refl ((s.nowOf p + 256 - (s.rd (A.NI_SLUICE_BASE p)).toNat) ⌈/⌉ s.adminCycle p))
    rw [Nat.mul_comm] at hup
    omega

/-- A start one cycle earlier is not. -/
theorem State.startAfter_least (hn : s.startAfter p ≠ 0) :
    (s.rd (A.NI_SLUICE_BASE p)).toNat + (s.startAfter p - 1) * s.adminCycle p < s.nowOf p + 256 := by
  unfold State.startAfter at hn ⊢
  split at hn
  · exact absurd rfl hn
  · next hnear =>
    rw [if_neg hnear]
    generalize hd : s.nowOf p + 256 - (s.rd (A.NI_SLUICE_BASE p)).toNat = d at hn ⊢
    have hless : ¬ d ≤ s.adminCycle p * (d ⌈/⌉ s.adminCycle p - 1) := by
      rw [← ceilDiv_le_iff_le_mul hcyc]
      omega
    rw [Nat.mul_comm] at hless
    omega

end

/-- R161: a GO served in a state whose administrative list has no entry of duration 0 gives the list the earliest start
that is 256 ahead, a multiple of its cycle after BASE. -/
theorem State.exists_START_sluiceSet {s : State} {p : Nat} {r : Req} (hlo : 1 ≤ reqFld r F.NI_SLUICE_CTL_ADMIN_LEN)
    (hdur : ∀ k, k < reqFld r F.NI_SLUICE_CTL_ADMIN_LEN → s.duration p false k ≠ 0) :
    ∃ n, ((s.sluiceSet p r).sluiceGo p).rd (A.NI_SLUICE_START p) =
        BitVec.ofNat 64 ((s.rd (A.NI_SLUICE_BASE p)).toNat + n * (s.sluiceSet p r).adminCycle p) ∧
      s.nowOf p + 256 ≤ (s.rd (A.NI_SLUICE_BASE p)).toNat + n * (s.sluiceSet p r).adminCycle p ∧
      (n ≠ 0 → (s.rd (A.NI_SLUICE_BASE p)).toNat + (n - 1) * (s.sluiceSet p r).adminCycle p < s.nowOf p + 256) := by
  have hcyc := State.adminCycle_sluiceSet_pos hlo hdur
  have hbase : (s.sluiceSet p r).rd (A.NI_SLUICE_BASE p) = s.rd (A.NI_SLUICE_BASE p) :=
    State.rd_sluiceSet_ne (niBase_add_ne p (by decide))
  have hnow : (s.sluiceSet p r).nowOf p = s.nowOf p := by
    rw [State.sluiceSet, State.nowOf_setFld, State.nowOf_setFld]
  rw [← hbase, ← hnow]
  exact ⟨_, State.START_sluiceGo, State.startAfter_reaches hcyc, State.startAfter_least hcyc⟩

/-! ### The start of a list -/

/-- The first `n` entries of the operating list as the administrative one of length `len` gives them. -/
def State.operTaken (s : State) (p len n : Nat) : State :=
  (List.range n).foldl (fun s k => s.wr (A.NI_SLUICE_OPER p k)
    (if k < len then s.rd (A.NI_SLUICE_ADMIN p k) else resetOf (A.NI_SLUICE_OPER p k))) s

theorem State.operTaken_succ (s : State) (p len n : Nat) : s.operTaken p len (n + 1) =
    (s.operTaken p len n).wr (A.NI_SLUICE_OPER p n)
      (if n < len then (s.operTaken p len n).rd (A.NI_SLUICE_ADMIN p n) else resetOf (A.NI_SLUICE_OPER p n)) := by
  rw [State.operTaken, List.range_succ, List.foldl_append]
  rfl

section
variable (s : State) (p len : Nat) {k : Nat} (hk : k < 32)
include hk

/-- The administrative list stays. -/
theorem State.rd_ADMIN_operTaken (n : Nat) :
    (s.operTaken p len n).rd (A.NI_SLUICE_ADMIN p k) = s.rd (A.NI_SLUICE_ADMIN p k) := by
  induction n with
  | zero => rfl
  | succ n ih =>
    have hne : A.NI_SLUICE_ADMIN p k ≠ A.NI_SLUICE_OPER p n := by simp only [A.NI_SLUICE_ADMIN, A.NI_SLUICE_OPER]; omega
    rw [State.operTaken_succ, State.rd_wr_ne _ _ hne, ih]

/-- An entry of the list reads as its administrative entry. -/
theorem State.rd_OPER_operTaken (hlen : k < len) {n : Nat} (hn : k < n) :
    (s.operTaken p len n).rd (A.NI_SLUICE_OPER p k) = s.rd (A.NI_SLUICE_ADMIN p k) := by
  induction n with
  | zero => exact absurd hn (Nat.not_lt_zero k)
  | succ n ih =>
    rw [State.operTaken_succ]
    rcases Nat.lt_succ_iff_lt_or_eq.1 hn with h | rfl
    · have hne : A.NI_SLUICE_OPER p k ≠ A.NI_SLUICE_OPER p n := by simp only [A.NI_SLUICE_OPER]; omega
      rw [State.rd_wr_ne _ _ hne, ih h]
    · rw [State.rd_wr_same, if_pos hlen, State.rd_ADMIN_operTaken s p len hk]

end

/-- R161: the state in which a list has started. -/
def State.sluiceStarted (s : State) (p : Nat) : State :=
  let t := (s.operTaken p (s.fld (A.NI_SLUICE_CTL p) F.NI_SLUICE_CTL_ADMIN_LEN) 32).setFld (A.NI_SLUICE_CYCLE p)
    F.NI_SLUICE_CYCLE_CYCLE (s.adminCycle p)
  ((t.modNi p (fun n => { n with sluice := [(0, some (s.rd (A.NI_SLUICE_START p)).toNat)] })).setFld (A.NI_SLUICE_STATUS p)
    F.NI_SLUICE_STATUS_PENDING 0).setFld (A.NI_SLUICE_STATUS p) F.NI_SLUICE_STATUS_RUNNING 1

section
variable {s : State} {p : Nat}

theorem State.rd_OPER_sluiceStarted {k : Nat} (hk : k < 32)
    (hlen : k < s.fld (A.NI_SLUICE_CTL p) F.NI_SLUICE_CTL_ADMIN_LEN) :
    (s.sluiceStarted p).rd (A.NI_SLUICE_OPER p k) = s.rd (A.NI_SLUICE_ADMIN p k) := by
  rw [State.sluiceStarted, State.rd_setFld_ne _ _ _ (SLUICE_OPER_ne p hk (by decide)),
    State.rd_setFld_ne _ _ _ (SLUICE_OPER_ne p hk (by decide)), State.rd_modNi,
    State.rd_setFld_ne _ _ _ (SLUICE_OPER_ne p hk (by decide)), State.rd_OPER_operTaken s p _ hk hlen hk]

theorem State.PENDING_sluiceStarted :
    (s.sluiceStarted p).fld (A.NI_SLUICE_STATUS p) F.NI_SLUICE_STATUS_PENDING = 0 := by
  rw [State.sluiceStarted, State.fld_setFld_apart _ _ _ _ _ (by decide) (by decide)]
  exact State.fld_setFld_same _ _ _ _ (by decide)

theorem State.RUNNING_sluiceStarted :
    (s.sluiceStarted p).fld (A.NI_SLUICE_STATUS p) F.NI_SLUICE_STATUS_RUNNING = 1 :=
  State.fld_setFld_same _ _ F.NI_SLUICE_STATUS_RUNNING 1 (by decide)

end

/-! ### The commands -/

section
variable {p : Fin 144} {s t : State} {r : Req} {c : BitVec 4}

theorem execSluiceGo_serves (ha : s.admits (A.NI_SLUICE_CTL p.val) r) (h : s.writeSluiceCtl p.val r = (t, c)) :
    exec (.sluiceGo p r) s = .next (t.ans (A.NI_SLUICE_CTL p.val) r c) :=
  congrArg Host.Outcome.next (State.serve_eq ha h)

theorem execSluiceCancel_serves (ha : s.admits (A.NI_SLUICE_CTL p.val) r) (h : s.writeSluiceCtl p.val r = (t, c)) :
    exec (.sluiceCancel p r) s = .next (t.ans (A.NI_SLUICE_CTL p.val) r c) :=
  congrArg Host.Outcome.next (State.serve_eq ha h)

/-- With no list pending, and before its START, nothing happens. -/
theorem execSluiceStart_waits (h : s.bit (A.NI_SLUICE_STATUS p.val) F.NI_SLUICE_STATUS_PENDING = false ∨
    s.nowOf p.val < (s.rd (A.NI_SLUICE_START p.val)).toNat) : exec (.sluiceStart p) s = .next s := by
  show execSluiceStart p s = _
  unfold execSluiceStart
  exact if_pos (by simpa using h)

theorem execSluiceStart_starts (hpend : s.bit (A.NI_SLUICE_STATUS p.val) F.NI_SLUICE_STATUS_PENDING = true)
    (hnow : (s.rd (A.NI_SLUICE_START p.val)).toNat ≤ s.nowOf p.val) :
    exec (.sluiceStart p) s = .next (s.sluiceStarted p.val) := by
  show execSluiceStart p s = _
  unfold execSluiceStart
  exact if_neg (by simp [hpend, hnow])

end

end Sys2Proof.Machine
end

section
/-!
PROOFS. Histograms (R168, R169), and the statement about shapers, policers, sluice lists and histograms.
-/
namespace Sys2Proof.Machine

/-! ### Bins of the depth (R168) -/

theorem depthBin_eq_zero_iff (n : Nat) : depthBin n = 0 ↔ n = 0 := by
  unfold depthBin
  split
  · simp [*]
  · omega

/-- R168: bin `k` holds the depths of `k` binary digits. -/
theorem depthBin_eq_iff {k : Nat} (n : Nat) (h1 : 1 ≤ k) (h6 : k ≤ 6) :
    depthBin n = k ↔ 2 ^ (k - 1) ≤ n ∧ n < 2 ^ k := by
  by_cases hn : n = 0
  · have hpos := Nat.two_pow_pos (k - 1)
    rw [(depthBin_eq_zero_iff n).2 hn]
    omega
  · rw [← Nat.le_log2 hn, ← Nat.log2_lt hn, depthBin, if_neg hn]
    omega

/-- R168: the last bin holds every depth of 64 and more. -/
theorem depthBin_eq_seven_iff (n : Nat) : depthBin n = 7 ↔ 64 ≤ n := by
  by_cases hn : n = 0
  · rw [(depthBin_eq_zero_iff n).2 hn, hn]
    omega
  · rw [show 64 = 2 ^ 6 from rfl, ← Nat.le_log2 hn, depthBin, if_neg hn]
    omega

/-! ### Samples of the depth (R168) -/

section
variable {p : Fin 144} {s : State}

/-- At no other datum, and only once at one, is the depth counted. -/
theorem execHistDepthSample_waits (h : s.nowOf p.val % 2 ^ s.fld (A.NI_HIST_CTL p.val) F.NI_HIST_CTL_DEPTH_EXP ≠ 0 ∨
    s.datum < (s.ni p.val).histAt) : exec (.histDepthSample p) s = .next s := by
  show execHistDepthSample p s = _
  unfold execHistDepthSample
  exact if_neg (by rw [Bool.and_eq_true, decide_eq_true_eq, decide_eq_true_eq]; omega)

theorem execHistDepthSample_counts (hmul : s.nowOf p.val % 2 ^ s.fld (A.NI_HIST_CTL p.val) F.NI_HIST_CTL_DEPTH_EXP = 0)
    (honce : (s.ni p.val).histAt ≤ s.datum) :
    exec (.histDepthSample p) s = .next ((s.modNi p.val (fun n => { n with histAt := s.datum + 1 })).histCount p.val
      (A.NI_HIST_DEPTH p.val (depthBin (s.measured p.val)))) := by
  show execHistDepthSample p s = _
  unfold execHistDepthSample
  exact if_pos (by simp [hmul, honce])

end

section
variable {s : State} {p : Nat} (a : Nat)

theorem State.histCount_frozen (h : s.bit (A.NI_HIST_CTL p) F.NI_HIST_CTL_FREEZE = true) :
    s.histCount p a = s.sat (A.NI_HIST_STATUS p) F.NI_HIST_STATUS_SKIPPED := if_pos h

theorem State.histCount_running (h : s.bit (A.NI_HIST_CTL p) F.NI_HIST_CTL_FREEZE = false) :
    s.histCount p a = s.sat a F.NI_HIST_DEPTH_COUNT := if_neg (by rw [h]; exact Bool.false_ne_true)

end

/-! ### Clearing (R169) -/

/-- A register that reads 0 still does after a write of 0 to any register. -/
theorem State.rd_wr_zero {s : State} {b : Nat} (a : Nat) (h : s.rd b = 0) : (s.wr a 0).rd b = 0 := by
  by_cases hb : b = a
  · rw [hb, State.rd_wr_same]
  · rw [State.rd_wr_ne _ _ hb, h]

/-- The first `n` bins of both histograms set to 0. -/
def State.binsZero (s : State) (p n : Nat) : State :=
  (List.range n).foldl (fun s b => (s.wr (A.NI_HIST_DEPTH p b) 0).wr (A.NI_HIST_DELAY p b) 0) s

theorem State.rd_binsZero (s : State) (p : Nat) {b n : Nat} (hb : b < n) :
    (s.binsZero p n).rd (A.NI_HIST_DEPTH p b) = 0 ∧ (s.binsZero p n).rd (A.NI_HIST_DELAY p b) = 0 := by
  induction n with
  | zero => exact absurd hb (Nat.not_lt_zero b)
  | succ n ih =>
    have hsucc : s.binsZero p (n + 1) = ((s.binsZero p n).wr (A.NI_HIST_DEPTH p n) 0).wr (A.NI_HIST_DELAY p n) 0 := by
      rw [State.binsZero, List.range_succ, List.foldl_append]
      rfl
    rw [hsucc]
    rcases Nat.lt_succ_iff_lt_or_eq.1 hb with h | rfl
    · obtain ⟨hdepth, hdelay⟩ := ih h
      exact ⟨State.rd_wr_zero _ (State.rd_wr_zero _ hdepth), State.rd_wr_zero _ (State.rd_wr_zero _ hdelay)⟩
    · exact ⟨State.rd_wr_zero _ (State.rd_wr_same ..), State.rd_wr_same ..⟩

section
variable {s t : State} {p : Nat} {r : Req}

theorem State.rd_histZero {b : Nat} (hb : b < 8) :
    (s.histZero p).rd (A.NI_HIST_DEPTH p b) = 0 ∧ (s.histZero p).rd (A.NI_HIST_DELAY p b) = 0 := by
  have hdepth : A.NI_HIST_DEPTH p b ≠ A.NI_HIST_STATUS p := by simp only [A.NI_HIST_DEPTH, A.NI_HIST_STATUS]; omega
  have hdelay : A.NI_HIST_DELAY p b ≠ A.NI_HIST_STATUS p := by simp only [A.NI_HIST_DELAY, A.NI_HIST_STATUS]; omega
  rw [State.histZero, State.rd_setFld_ne _ _ _ hdepth, State.rd_setFld_ne _ _ _ hdelay]
  exact s.rd_binsZero p hb

theorem State.SKIPPED_histZero : (s.histZero p).fld (A.NI_HIST_STATUS p) F.NI_HIST_STATUS_SKIPPED = 0 :=
  State.fld_setFld_same _ _ F.NI_HIST_STATUS_SKIPPED 0 (by decide)

/-- A reserved exponent. -/
theorem State.writeHistCtl_denies (h : reqFld r F.NI_HIST_CTL_DEPTH_EXP < 4 ∨ 20 < reqFld r F.NI_HIST_CTL_DEPTH_EXP) :
    s.writeHistCtl p r = (s, Code.DENY) := by
  rw [State.writeHistCtl, if_pos h]

theorem State.writeHistCtl_clears (hlo : 4 ≤ reqFld r F.NI_HIST_CTL_DEPTH_EXP)
    (hhi : reqFld r F.NI_HIST_CTL_DEPTH_EXP ≤ 20) (hclear : reqFld r F.NI_HIST_CTL_CLEAR = 1)
    (hw : s.plainWrite (A.NI_HIST_CTL p) r = (t, Code.OK)) : s.writeHistCtl p r = (t.histZero p, Code.OK) := by
  unfold State.writeHistCtl
  refine (if_neg (by omega)).trans ?_
  rw [hw]
  refine (if_neg (not_not_intro rfl)).trans ?_
  rw [decide_eq_true hclear, Bool.or_true, if_pos rfl]

theorem execHistClear_serves {p : Fin 144} {c : BitVec 4} (ha : s.admits (A.NI_HIST_CTL p.val) r)
    (h : s.writeHistCtl p.val r = (t, c)) :
    exec (.histClear p r) s = .next (t.ans (A.NI_HIST_CTL p.val) r c) :=
  congrArg Host.Outcome.next (State.serve_eq ha h)

end

/-- Settles O43: each write by its register's rule, the start of a list and the samples by the instants they wait for. -/
theorem shapersSluiceAndHistograms : Obligations.ShapersSluiceAndHistograms := by
  refine ⟨⟨fun p k r s ha => ⟨fun h => ?_, fun hc hp hok => ?_⟩, fun p k s h => ?_,
      fun f r s ha => ⟨fun h => ?_, fun hc hp hok => ?_⟩,
      fun p r s ha => ?_,
      fun p s => ⟨execSluiceStart_waits, fun hpend hnow => ?_⟩⟩,
    fun p s => ⟨execHistDepthSample_waits, fun hmul honce => ⟨fun hfreeze => ?_, fun hfreeze => ?_⟩⟩,
    fun p r s ha => ⟨fun h => ?_, fun hlo hhi hclear hok => ?_⟩,
    fun n => ⟨depthBin_eq_zero_iff n, fun k => depthBin_eq_iff n, depthBin_eq_seven_iff n⟩⟩
  · exact execShaperResetWrite_serves ha (State.writeShaper_rate_denies h)
  · exact execShaperResetWrite_serves ha (State.writeShaper_rate_resets hc hp (State.plainWrite_accepted hok))
  · rw [State.resetShaper_empties h]
    exact ⟨State.rd_settle_wrLate .., rfl⟩
  · exact execPoliceResetWrite_serves ha (State.writePolicer_size_denies h)
  · intro t
    rw [execPoliceResetWrite_serves ha (State.writePolicer_size_resets hc hp (State.plainWrite_accepted hok)),
      State.resetPolicer]
  · intro len u hlo hhi
    refine ⟨fun hpend hgo => ?_, fun hpend hgo hcancel hdur => ?_, fun hgo hcancel hlen => ?_⟩
    · exact execSluiceGo_serves ha (State.writeSluiceCtl_pending hpend hgo)
    · exact ⟨execSluiceGo_serves ha (State.writeSluiceCtl_go hlo hhi hpend hgo hcancel hdur), State.PENDING_sluiceGo,
        State.exists_START_sluiceSet hlo hdur⟩
    · exact ⟨_, execSluiceCancel_serves ha (State.writeSluiceCtl_cancel hlo hhi hgo hcancel hlen),
        State.PENDING_sluiceCancelled, fun k => State.rd_OPER_sluiceCancelled⟩
  · exact ⟨_, execSluiceStart_starts hpend hnow, fun k => State.rd_OPER_sluiceStarted, State.PENDING_sluiceStarted,
      State.RUNNING_sluiceStarted⟩
  · rw [execHistDepthSample_counts hmul honce]
    exact congrArg Host.Outcome.next (State.histCount_frozen _ hfreeze)
  · rw [execHistDepthSample_counts hmul honce]
    exact congrArg Host.Outcome.next (State.histCount_running _ hfreeze)
  · exact execHistClear_serves ha (State.writeHistCtl_denies h)
  · exact ⟨_, execHistClear_serves ha (State.writeHistCtl_clears hlo hhi hclear (State.plainWrite_accepted hok)),
      fun b => State.rd_histZero, State.SKIPPED_histZero⟩

end Sys2Proof.Machine
end

section
/-!
PROOFS. The lock bank: acquiring, releasing and peeking at a lock, and the accesses of one cycle (R199, R200, R203).
-/
namespace Sys2Proof.Machine

/-! ### One lock (R199) -/

/-- Different locks have different registers. -/
theorem LCK_PEEK_ne {l m : Nat} (h : m ≠ l) : A.LCK_PEEK m ≠ A.LCK_PEEK l := by
  show 0x4800 + m * 0x8 ≠ 0x4800 + l * 0x8
  omega

theorem LCK_PEEK_lt (l : Fin 256) : A.LCK_PEEK l.val < 0x30000 := by
  show 0x4800 + l.val * 0x8 < 0x30000
  omega

/-- The lock that an offset of LCK_ACQn names. -/
theorem lockIndex (l : Nat) : (A.LCK_ACQ l - A.LCK_ACQ 0) / 8 = l := by
  show (0x4000 + l * 0x8 - (0x4000 + 0 * 0x8)) / 8 = l
  omega

/-- Whether a lock is owned, and by whom, is what its register says. -/
theorem State.lockHeld_congr {s t : State} {l : Nat} (h : t.rd (A.LCK_PEEK l) = s.rd (A.LCK_PEEK l)) :
    t.lockHeld l = s.lockHeld l := congrArg (fun w => decide (F.LCK_PEEK_HELD.get w ≠ 0)) h

theorem State.lockOwner_congr {s t : State} {l : Nat} (h : t.rd (A.LCK_PEEK l) = s.rd (A.LCK_PEEK l)) :
    t.lockOwner l = s.lockOwner l := congrArg F.LCK_PEEK_OWNER.get h

section
variable (s : State) (l : Nat) (src : Gid)

@[simp] theorem State.regs_lockServed : (s.lockServed src).regs = s.regs := by
  unfold State.lockServed; split <;> rfl

@[simp] theorem State.rd_lockServed (a : Nat) : (s.lockServed src).rd a = s.rd a :=
  congrArg (fun g => Store.get resetOf g a) (s.regs_lockServed src)

@[simp] theorem State.lockHeld_lockServed : (s.lockServed src).lockHeld l = s.lockHeld l :=
  State.lockHeld_congr (s.rd_lockServed src _)

@[simp] theorem State.lockOwner_lockServed : (s.lockServed src).lockOwner l = s.lockOwner l :=
  State.lockOwner_congr (s.rd_lockServed src _)

@[simp] theorem State.lckBusy_lockServed : (s.lockServed src).glb.lckBusy = s.glb.lckBusy := by
  unfold State.lockServed; split <;> rfl

/-- A lock that is taken is owned by who took it. -/
theorem State.lockHeld_lockTake (n : Nat) : (s.lockTake l n).lockHeld l = true := by
  have h : (s.lockTake l n).fld (A.LCK_PEEK l) F.LCK_PEEK_HELD = 1 := by
    rw [State.lockTake, State.fld_setFld_apart _ _ _ _ _ (by decide) (by decide), State.fld_setFld_same _ _ _ _ (by decide)]
    rfl
  rw [State.lockHeld, State.bit, h]
  rfl

theorem State.lockOwner_lockTake : (s.lockTake l src.toNat).lockOwner l = src.toNat :=
  (State.fld_setFld_same _ _ _ _ (by decide)).trans (Nat.mod_eq_of_lt src.isLt)

theorem State.rd_lockTake_ne (n : Nat) {a : Nat} (h : a ≠ A.LCK_PEEK l) : (s.lockTake l n).rd a = s.rd a := by
  rw [State.lockTake, State.rd_setFld_ne _ _ _ h, State.rd_setFld_ne _ _ _ h]

theorem State.rd_lockFree_ne {a : Nat} (h : a ≠ A.LCK_PEEK l) : (s.lockFree l).rd a = s.rd a := State.rd_wr_ne s _ h

theorem State.lckBusy_lockFree : tget 0 (s.lockFree l).glb.lckBusy l = 0 :=
  tget_tset_same 0 s.glb.lckBusy l 0

end

/-- The reset value of a lock's register is that of a free lock. -/
theorem resetOf_LCK_PEEK_HELD (l : Fin 256) : F.LCK_PEEK_HELD.get (resetOf (A.LCK_PEEK l.val)) = 0 := by
  revert l
  decide +kernel

theorem State.lockHeld_lockFree (s : State) (l : Fin 256) : (s.lockFree l.val).lockHeld l.val = false := by
  have h : (s.lockFree l.val).fld (A.LCK_PEEK l.val) F.LCK_PEEK_HELD = 0 :=
    (congrArg F.LCK_PEEK_HELD.get (State.rd_wr_same s ..)).trans (resetOf_LCK_PEEK_HELD l)
  rw [State.lockHeld, State.bit, h]
  rfl

/-! ### An attempt to acquire (R199) -/

/-- A count leaves the lock bank alone. -/
theorem State.rd_gcnt_LCK_PEEK (s : State) (j : Nat) (m : Fin 256) :
    (s.gcnt j).rd (A.LCK_PEEK m.val) = s.rd (A.LCK_PEEK m.val) :=
  (s.gcnt_eventsOnly j 1).low _ (LCK_PEEK_lt m)

theorem State.lckBusy_gcnt (s : State) (j : Nat) : (s.gcnt j).glb.lckBusy = s.glb.lckBusy :=
  congrArg (fun u => u.glb.lckBusy) (s.gcnt_eventsOnly j 1).rest

/-- A BUSY answer of lock `l` is counted. -/
def State.lockRefused (s : State) (l : Nat) : State :=
  State.gcnt { s with glb := { s.glb with lckBusy := tset 0 s.glb.lckBusy l (tget 0 s.glb.lckBusy l + 1) } } 11

theorem State.lckBusy_lockRefused (s : State) (l : Nat) :
    tget 0 (s.lockRefused l).glb.lckBusy l = tget 0 s.glb.lckBusy l + 1 := by
  rw [State.lockRefused, State.lckBusy_gcnt]
  exact tget_tset_same 0 s.glb.lckBusy l (tget 0 s.glb.lckBusy l + 1)

theorem State.rd_lockRefused (s : State) (l : Nat) (m : Fin 256) :
    (s.lockRefused l).rd (A.LCK_PEEK m.val) = s.rd (A.LCK_PEEK m.val) := State.rd_gcnt_LCK_PEEK _ _ m

section
variable {s : State} {l : Nat} {src : Gid}

theorem State.lockAcquire_free (h : s.lockHeld l = false) : s.lockAcquire l src =
    (((s.lockServed src).lockTake l src.toNat).gcnt 10, lockWord Lck.ACQUIRED src.toNat 0) := by
  simp [State.lockAcquire, h]

theorem State.lockAcquire_owned (h : s.lockHeld l = true) (ho : s.lockOwner l = src.toNat) :
    s.lockAcquire l src = (s.lockServed src, lockWord Lck.OWNED src.toNat 0) := by
  simp [State.lockAcquire, h, ho]

theorem State.lockAcquire_busy (h : s.lockHeld l = true) (ho : s.lockOwner l ≠ src.toNat) : s.lockAcquire l src =
    ((s.lockServed src).lockRefused l,
      lockWord Lck.BUSY (s.lockOwner l) (16 * 2 ^ min (tget 0 s.glb.lckBusy l) 10)) := by
  simp [State.lockAcquire, State.lockRefused, h, ho]

end

/-! ### A write of RELEASE = 1 (R199) -/

section
variable {s : State} {l : Nat} {r : Req} (hrel : reqFld r F.LCK_ACQ_RELEASE = 1)
include hrel

theorem State.writeLock_owner (h : s.lockHeld l = true) (ho : s.lockOwner l = r.src.toNat) :
    s.writeLock l r = ((s.lockServed r.src).lockFree l, Code.OK) := by
  simp [State.writeLock, hrel, h, ho]

theorem State.writeLock_forced (h : s.lockHeld l = true) (ho : s.lockOwner l ≠ r.src.toNat) (hf : isFmp r = true) :
    s.writeLock l r = (((s.lockServed r.src).lockFree l).sat A.LCK_STATUS F.LCK_STATUS_FORCED, Code.OK) := by
  simp [State.writeLock, hrel, h, ho, hf]

theorem State.writeLock_denied (h : ¬(s.lockHeld l = true ∧ s.lockOwner l = r.src.toNat)) (hf : isFmp r = false) :
    s.writeLock l r = (s.lockServed r.src, Code.DENY) := by
  simp [State.writeLock, hrel, h, hf]

end

/-! ### The commands of the lock bank -/

section
variable {s t : State} {l : Fin 256} {r : Req}

/-- A read of LCK_ACQn that is served alone answers what the attempt gives. -/
theorem execLockAcquire_serves {v : Word} (hm : s.mode ≠ Mode.OFF) (ht : s.lockTurn)
    (ha : s.aclOk .lck (A.LCK_ACQ l.val) r = true) (h : s.lockAcquire l.val r.src = (t, v)) :
    exec (.lockAcquire l r) s = .next (t.answer (A.LCK_ACQ l.val) r true Code.OK v) := by
  refine congrArg Host.Outcome.next ((State.lockAccess_of_turn _ hm ht).trans ?_)
  unfold State.lockServe
  dsimp only
  rw [if_pos rfl, lockIndex, ha, h]
  rfl

/-- Below LCK_CFG.MIN_PRIV the read is refused (R9, R203). -/
theorem execLockAcquire_refuses (hm : s.mode ≠ Mode.OFF) (ht : s.lockTurn)
    (hp : effPriv r.src r.priv < s.fld A.LCK_CFG F.LCK_CFG_MIN_PRIV) :
    exec (.lockAcquire l r) s = .next (s.answer (A.LCK_ACQ l.val) r true Code.DENY 0) := by
  have ha : s.aclOk .lck (A.LCK_ACQ l.val) r = false := decide_eq_false (by omega)
  refine congrArg Host.Outcome.next ((State.lockAccess_of_turn _ hm ht).trans ?_)
  unfold State.lockServe
  dsimp only
  rw [if_pos rfl, ha]
  rfl

/-- A write of LCK_ACQn that is admitted and served alone answers what the lock's rule gives. -/
theorem execLockRelease_serves {c : BitVec 4} (ha : s.admits (A.LCK_ACQ l.val) r) (ht : s.lockTurn)
    (h : s.writeLock l.val r = (t, c)) : exec (.lockRelease l r) s = .next (t.ans (A.LCK_ACQ l.val) r c) := by
  refine congrArg Host.Outcome.next ((State.lockAccess_of_turn _ ha.1 ht).trans ?_)
  unfold State.lockServe
  dsimp only
  rw [if_neg Bool.false_ne_true, lockIndex]
  exact State.serve_eq ha h

end

/-! ### A look at a lock -/

/-- R443: the row of LCK_PEEKn. -/
def lckPeekRow : RegRow :=
  ⟨0x4800, 1, 0x1000000, 256, 0x8, .p0, .closed, 0x3ffff00, [(F.LCK_PEEK_HELD, .ro), (F.LCK_PEEK_OWNER, .ro)]⟩

theorem rowAt_LCK_PEEK (l : Fin 256) : rowAt (A.LCK_PEEK l.val) = some lckPeekRow := by
  revert l
  decide +kernel

theorem blkOf_LCK_PEEK (l : Fin 256) : blkOf (A.LCK_PEEK l.val) = some (.glb, A.LCK_PEEK l.val) :=
  if_pos (Nat.lt_trans (LCK_PEEK_lt l) (by decide))

/-- No field of LCK_PEEKn is computed: it reads as it stood at the start of the cycle (R440). -/
theorem State.readView_LCK_PEEK (s : State) (l : Fin 256) :
    s.readView (A.LCK_PEEK l.val) = (s.seenOf (A.LCK_PEEK l.val)).1 := by
  rw [State.readView, blkOf_LCK_PEEK]
  show s.view (A.LCK_PEEK l.val) = _
  rw [State.view, blkOf_LCK_PEEK]
  show s.viewGlb (A.LCK_PEEK l.val) _ = _
  unfold State.viewGlb
  dsimp only [A.DAT_NOW, A.DAT_MER_STATUS, A.EVT_STATUS, A.GLB_PWR_MAP, A.LCK_PEEK]
  rw [if_neg (by omega), if_neg (by omega), if_neg (by omega), if_neg (by omega), if_neg (by omega)]

/-- A read of LCK_PEEKn, by whoever it may be, returns the lock. -/
theorem execRcFieldRead_LCK_PEEK {l : Fin 256} {off : Fin 33554432} {sz : Fin 9} {r : Req} {s : State}
    (hm : s.mode ≠ Mode.OFF) (hsz : sz.val = 8) (ho : off.val = A.LCK_PEEK l.val) :
    exec (.rcFieldRead off sz r) s =
      .next (s.answer (A.LCK_PEEK l.val) r true Code.OK (s.seenOf (A.LCK_PEEK l.val)).1) := by
  have hlt := LCK_PEEK_lt l
  have hv : shadowView (A.LCK_PEEK l.val) = none := by rw [shadowView, blkOf_LCK_PEEK]
  have hl : inLocks (A.LCK_PEEK l.val) = false := by
    rw [← Bool.not_eq_true, inLocks_iff]
    show ¬(0x4000 ≤ 0x4800 + l.val * 0x8 ∧ 0x4800 + l.val * 0x8 < 0x4800)
    omega
  have hb : inMbx (A.LCK_PEEK l.val) = false := by
    have : ¬0x10000 ≤ A.LCK_PEEK l.val := by show ¬0x10000 ≤ 0x4800 + l.val * 0x8; omega
    simp [inMbx, this]
  rw [← ho] at hv hl hb
  rw [execRcFieldRead_serves (row := lckPeekRow) hm hsz (by rw [ho]; show (0x4800 + l.val * 0x8) % 8 = 0; omega)
    (by omega) hv (by rw [ho]; exact rowAt_LCK_PEEK l) (by decide) rfl hl (fun h => absurd (hb.symm.trans h) (by decide)),
    State.atUnit_of_not_inMbx hb, ho, State.readClear_none (rowAt_LCK_PEEK l) rfl, State.readView_LCK_PEEK]

/-! ### The accesses of one cycle (R200) -/

theorem lockInsert_perm (ptr : Nat) (x : LockAcc) (xs : List LockAcc) : (lockInsert ptr x xs).Perm (x :: xs) := by
  induction xs with
  | nil => exact .refl _
  | cons y ys ih =>
    unfold lockInsert
    split
    · exact .refl _
    · exact (ih.cons y).trans (.swap x y ys)

theorem lockOrder_perm (ptr : Nat) (xs : List LockAcc) : (lockOrder ptr xs).Perm xs := by
  induction xs with
  | nil => exact .refl _
  | cons x xs ih => exact (lockInsert_perm ptr x _).trans (ih.cons x)

/-- In the order of the ranks. -/
abbrev lockSorted (ptr : Nat) (xs : List LockAcc) : Prop := xs.Pairwise fun x y => lockRank ptr x ≤ lockRank ptr y

theorem lockInsert_sorted {ptr : Nat} (x : LockAcc) {xs : List LockAcc} (h : lockSorted ptr xs) :
    lockSorted ptr (lockInsert ptr x xs) := by
  induction xs with
  | nil => exact List.pairwise_singleton _ x
  | cons y ys ih =>
    obtain ⟨hy, hys⟩ := List.pairwise_cons.1 h
    unfold lockInsert
    split
    · next hle => exact h.cons (List.forall_mem_cons.2 ⟨hle, fun z hz => hle.trans (hy z hz)⟩)
    · next hgt =>
      refine (ih hys).cons fun z hz => ?_
      rcases List.mem_cons.1 ((lockInsert_perm ptr x ys).mem_iff.1 hz) with rfl | hz
      · omega
      · exact hy z hz

theorem lockOrder_sorted (ptr : Nat) (xs : List LockAcc) : lockSorted ptr (lockOrder ptr xs) := by
  induction xs with
  | nil => exact .nil
  | cons x xs ih => exact lockInsert_sorted x ih

section
variable {s : State} {x : LockAcc}

/-- An access that was served with an earlier one of its cycle has nothing left to do. -/
theorem State.lockAccess_skips (hm : s.mode ≠ Mode.OFF) (h : 0 < s.glb.lckSkip) :
    s.lockAccess x = { s with glb := { s.glb with lckSkip := s.glb.lckSkip - 1 } } := by
  rw [State.lockAccess, if_neg hm, if_pos h]

/-- All accesses of the cycle in the order of their ranks. -/
def State.lockServeAll (s : State) (xs : List LockAcc) : State :=
  (lockOrder s.glb.lckPtr xs).foldl State.lockServe s

theorem State.lockAccess_servesAll {xs : List LockAcc} (hm : s.mode ≠ Mode.OFF) (h : s.glb.lckSkip = 0)
    (hxs : s.pending.filterMap lockAccOf = xs) (hne : xs ≠ []) :
    s.lockAccess x = { s.lockServeAll (x :: xs) with
      glb := { (s.lockServeAll (x :: xs)).glb with lckSkip := xs.length } } := by
  unfold State.lockAccess
  rw [if_neg hm, if_neg (by omega), hxs]
  exact if_neg (by simpa using hne)

/-- Both commands are accesses to the lock bank. -/
theorem exec_lockAccess {c : Instr} {l : Fin 256} {r : Req} {read : Bool} (s : State)
    (h : c = if read then .lockAcquire l r else .lockRelease l r) :
    exec c s = .next (s.lockAccess ⟨A.LCK_ACQ l.val, read, r⟩) := by
  subst h
  cases read <;> rfl

end

/-- Settles O16: an attempt and a release by the state of the lock, the accesses of a cycle by the order of insertion. -/
theorem lockBank : Obligations.LockBank := by
  refine ⟨⟨fun l r s hm ht ha => ⟨fun hfree => ?_, fun hheld howner => ?_, fun hheld howner => ?_⟩,
      fun l r s ha ht hrel => ⟨fun hheld howner => ?_, fun hheld howner hf => ?_, fun hn hf => ?_⟩,
      fun l s => ⟨s.lockHeld_lockFree l, s.lckBusy_lockFree l.val, fun m hne => ?_⟩,
      fun l off sz r s hm hsz ho => execRcFieldRead_LCK_PEEK hm hsz ho⟩,
    fun l r s => ⟨fun hoff => ?_, execLockAcquire_refuses⟩,
    fun ptr xs => ⟨lockOrder_perm ptr xs, lockOrder_sorted ptr xs⟩,
    fun c l r read s hc hm => ⟨fun hskip => ?_, fun xs hskip hxs hne => ?_⟩⟩
  · refine ⟨_, execLockAcquire_serves hm ht ha (State.lockAcquire_free hfree), ?_, ?_, fun m hne => ?_⟩
    · exact (State.lockHeld_congr (State.rd_gcnt_LCK_PEEK _ _ l)).trans (State.lockHeld_lockTake ..)
    · exact (State.lockOwner_congr (State.rd_gcnt_LCK_PEEK _ _ l)).trans (State.lockOwner_lockTake ..)
    · rw [State.rd_gcnt_LCK_PEEK, State.rd_lockTake_ne _ _ _ (LCK_PEEK_ne (Fin.val_ne_of_ne hne)), State.rd_lockServed]
  · exact ⟨_, execLockAcquire_serves hm ht ha (State.lockAcquire_owned hheld howner), s.regs_lockServed _⟩
  · refine ⟨_, execLockAcquire_serves hm ht ha (State.lockAcquire_busy hheld howner), ?_, fun m => ?_⟩
    · rw [State.lckBusy_lockRefused, State.lckBusy_lockServed]
    · rw [State.rd_lockRefused, State.rd_lockServed]
  · exact execLockRelease_serves ha ht (State.writeLock_owner hrel hheld howner)
  · exact execLockRelease_serves ha ht (State.writeLock_forced hrel hheld howner hf)
  · exact execLockRelease_serves ha ht (State.writeLock_denied hrel hn hf)
  · exact s.rd_lockFree_ne _ (LCK_PEEK_ne (Fin.val_ne_of_ne hne))
  · exact congrArg Host.Outcome.next (if_pos hoff)
  · rw [exec_lockAccess s hc, State.lockAccess_skips hm hskip]
  · exact ⟨_, rfl, (exec_lockAccess s hc).trans
      (congrArg Host.Outcome.next (State.lockAccess_servesAll hm hskip hxs hne))⟩

end Sys2Proof.Machine
end

section
/-!
PROOFS. Loads, stores and exclusive accesses that a unit's IQ takes: what translation, the region's KIND and TYPE and the
operation make of them (R174 to R176, R179, R192, R374, R438).
-/
namespace Sys2Proof.Machine

/-- Loads, stores and the two exclusive operations are accesses (R209). -/
theorem State.iqAct_access (s : State) (p : Nat) {op : Nat} (q : IqReq) (acc key : Nat) (h : op ≤ 4) :
    s.iqAct p op q acc key = s.access p op q acc key := by
  unfold State.iqAct
  rw [if_neg (by omega), if_neg (by omega), if_neg (by omega)]

/-- An exclusive access that is driven as it should be is aligned to its size (R192, R209). -/
theorem IqReq.exclusive_aligned {q : IqReq} {op : Nat} (hq : q.good op) (hop : op = 3 ∨ op = 4) :
    q.addr.toNat % q.size.toNat = 0 := by
  obtain ⟨-, hlegal⟩ := hq
  rcases hop with rfl | rfl <;> simp [iqLegal] at hlegal
  · obtain ⟨-, -, hal⟩ := hlegal
    exact hal
  · obtain ⟨-, ⟨-, hal⟩, -⟩ := hlegal
    exact hal

/-- Only a store of a NORMAL region of memory merges (R179). -/
theorem mergeable_spec {q : IqReq} {x : Xlat} (h : mergeable q x = true) : x.kind = 0 ∧ x.ty = 0 := by
  simp only [mergeable, Bool.and_eq_true, decide_eq_true_eq] at h
  exact h.1

section
variable {s : State} {p op acc key : Nat} {q : IqReq} {x : Xlat}

/-! ### The judgement of an access (R175, R374) -/

theorem State.access_unmapped (h : s.translate p q.addr.toNat q.size.toNat = none) :
    s.access p op q acc key = s.refuse p op q acc key 0x3FFFF Code.DENY := by
  rw [State.access, h]

section
variable (hx : s.translate p q.addr.toNat q.size.toNat = some x)
include hx

/-- A restricted port reaches the configuration space only. -/
theorem State.access_restricted (hr : s.restricted p = true) (hk : x.kind ≠ 2) :
    s.access p op q acc key = s.refuse p op q acc key x.dest Code.DENY := by
  rw [State.access, hx]
  dsimp only
  rw [if_pos (by simp [hr, hk])]

theorem State.access_config (hk : x.kind = 2) : s.access p op q acc key = s.issueCfg p op q x acc key := by
  rw [State.access, hx]
  dsimp only
  rw [if_neg (by simp [hk]), if_pos hk]

/-- An unrestricted access of memory merges, or flushes the lines that it shares and is built. -/
theorem State.access_memory (hr : s.restricted p = false) (hk : x.kind ≠ 2) : s.access p op q acc key =
    if op = 1 ∧ mergeable q x = true then s.mergeStore p q x acc
    else if op = 1 ∨ op = 2 then (s.flush p (sharesLine x.dest x.addr q.size.toNat)).issueStore p op q x acc key
    else (s.flush p (sharesLine x.dest x.addr q.size.toNat)).issueRead p op q x acc key := by
  rw [State.access, hx]
  dsimp only
  rw [hr, Bool.false_and, if_neg Bool.false_ne_true, if_neg hk]

theorem State.access_merges (hr : s.restricted p = false) (hop : op = 1) (hm : mergeable q x = true) :
    s.access p op q acc key = s.mergeStore p q x acc := by
  rw [State.access_memory hx hr (by rw [(mergeable_spec hm).1]; decide), if_pos ⟨hop, hm⟩]

theorem State.access_stores (hr : s.restricted p = false) (hk : x.kind ≠ 2) (hop : op = 1 ∨ op = 2)
    (hm : op = 1 → mergeable q x = false) : s.access p op q acc key =
      (s.flush p (sharesLine x.dest x.addr q.size.toNat)).issueStore p op q x acc key := by
  rw [State.access_memory hx hr hk, if_neg fun h => Bool.false_ne_true ((hm h.1).symm.trans h.2), if_pos hop]

theorem State.access_reads (hr : s.restricted p = false) (hk : x.kind ≠ 2) (hop : op = 0 ∨ op = 3 ∨ op = 4) :
    s.access p op q acc key =
      (s.flush p (sharesLine x.dest x.addr q.size.toNat)).issueRead p op q x acc key := by
  rw [State.access_memory hx hr hk, if_neg (by omega), if_neg (by omega)]

end

/-! ### Stores that do not merge (R176) -/

/-- A store to a STATE region, posted or not. -/
theorem State.issueStore_sput (hk : x.kind = 1) : s.issueStore p op q x acc key =
    s.issuePosted p op q x Cmd.SPUT acc (if op = 2 then some key else none) (splitLines q.addr.toNat q.size.toNat) :=
  if_pos hk

section
variable (hk : x.kind ≠ 1)
include hk

/-- A store to a STAKED region. -/
theorem State.issueStore_stw (ht : x.ty = 3) : s.issueStore p op q x acc key =
    s.issue p op q x Cmd.STW acc key true (splitLines q.addr.toNat q.size.toNat) :=
  (if_neg hk).trans (if_pos ht)

/-- A posted store to a region that is not of TYPE DEVICE. -/
theorem State.issueStore_wrp (ht : x.ty ≠ 3) (hop : op = 1 ∧ x.ty ≠ 2) : s.issueStore p op q x acc key =
    s.issuePosted p op q x Cmd.WRP acc none (splitRange q.addr.toNat q.size.toNat) :=
  (if_neg hk).trans ((if_neg ht).trans (if_pos hop))

/-- A non-posted store, and every store to a DEVICE region. -/
theorem State.issueStore_wr (ht : x.ty ≠ 3) (hop : ¬(op = 1 ∧ x.ty ≠ 2)) : s.issueStore p op q x acc key =
    s.issue p op q x Cmd.WR acc key true (splitRange q.addr.toNat q.size.toNat) :=
  (if_neg hk).trans ((if_neg ht).trans (if_neg hop))

end

/-! ### Loads and exclusive accesses (R176, R192) -/

/-- A STATE region is not read, a STAKED one takes no exclusive access. -/
theorem State.issueRead_refused (h : x.kind = 1 ∨ op ≠ 0 ∧ x.ty = 3) :
    s.issueRead p op q x acc key = s.refuse p op q acc key x.dest Code.TGTERR :=
  if_pos (h.imp_right fun ⟨hop, ht⟩ => ⟨hop, .inl ht⟩)

section
variable (hk : x.kind ≠ 1)
include hk

theorem State.issueRead_rd (hop : op = 0) : s.issueRead p op q x acc key =
    s.issue p op q x Cmd.RD acc key false (splitRange q.addr.toNat q.size.toNat) :=
  (if_neg fun h => h.elim hk fun h => h.1 hop).trans (if_pos hop)

variable (ht : x.ty ≠ 3) (hal : q.addr.toNat % q.size.toNat = 0)
include ht hal

/-- An exclusive access of a region that takes one is built. -/
theorem State.issueRead_exclusive (hop : op ≠ 0) : s.issueRead p op q x acc key =
    if op = 3 then s.issue p op q x Cmd.RDX acc key false [(q.addr.toNat, q.size.toNat)]
    else s.issue p op q x Cmd.WRX acc key true [(q.addr.toNat, q.size.toNat)] :=
  (if_neg fun h => h.elim hk fun h => h.2.elim ht (not_not_intro hal)).trans (if_neg hop)

end

/-! ### The configuration space (R438) -/

section
variable {port : Nat}

/-- An aligned load or store of 8 bytes goes to the port that serves its offset. -/
theorem State.issueCfg_built (hop : op ≤ 2) (hn : q.size.toNat = 8) (hal : q.addr.toNat % 8 = 0)
    (hp : cfgPort x.addr = .inr port) : s.issueCfg p op q x acc key =
      s.issue p op q { x with dest := BitVec.ofNat 18 (gidInst x.dest * 256 + port) }
        (if op = 0 then Cmd.CRD else Cmd.CWR) acc key (decide (op ≠ 0)) [(q.addr.toNat, 8)] := by
  have hsize : q.size = 8 := BitVec.eq_of_toNat_eq hn
  unfold State.issueCfg
  dsimp only
  rw [if_pos ⟨by omega, hsize, hal⟩, hp]

theorem State.issueCfg_refused (h : 3 ≤ op ∨ q.size.toNat ≠ 8 ∨ q.addr.toNat % 8 ≠ 0) :
    s.issueCfg p op q x acc key = s.refuse p op q acc key x.dest Code.TGTERR := by
  refine if_neg fun ⟨hop, hsize, hal⟩ => ?_
  have hn : q.size.toNat = 8 := by rw [hsize]; rfl
  omega

end

end

/-- Settles O44: the accepted request by its judgement, what is built of it by its operation and the region's KIND and
TYPE. -/
theorem unitAccesses : Obligations.UnitAccesses := by
  intro c p o b s hc ha hl op q w u acc key a n hop hb hq
  have hexec : exec c s = .next (u.access p op q acc key) :=
    (exec_iqRequest_last hc ha hl hb hq).trans (congrArg Host.Outcome.next (u.iqAct_access p q acc key hop))
  rw [hexec]
  refine ⟨fun hx => by rw [State.access_unmapped hx], fun x hx => ⟨fun hr hk => by rw [State.access_restricted hx hr hk],
    fun hr hk => ?_, fun hr hk => ?_, fun hk h2 hn hal port hp => ?_, fun hk h => ?_⟩⟩
  · have hk1 : x.kind ≠ 1 := by omega
    have hk2 : x.kind ≠ 2 := by omega
    have hmerge (ht : x.ty ≠ 0) : mergeable q x = false := Bool.eq_false_iff.2 fun h => ht (mergeable_spec h).2
    intro v
    refine ⟨fun h => ?_, fun h hm => ?_, fun h hm ht => ?_, fun h => ?_, fun h ht => ?_, fun h ht => ?_, fun h ht => ?_,
      fun h ht => ?_⟩
    · rw [State.access_reads hx hr hk2 (.inl h), State.issueRead_rd hk1 h]
    · rw [State.access_merges hx hr h hm]
    · rw [State.access_stores hx hr hk2 (.inl h) fun _ => hm, State.issueStore_wrp hk1 (by omega) (by omega)]
    · rw [State.access_stores hx hr hk2 (by omega) fun _ => hmerge (by omega),
        State.issueStore_wr hk1 (by omega) (by omega)]
    · rw [State.access_stores hx hr hk2 h fun _ => hmerge (by omega), State.issueStore_stw hk1 ht]
    · rw [State.access_reads hx hr hk2 (by omega),
        State.issueRead_exclusive hk1 ht (IqReq.exclusive_aligned hq (.inl h)) (by omega), if_pos h]
    · rw [State.access_reads hx hr hk2 (by omega),
        State.issueRead_exclusive hk1 ht (IqReq.exclusive_aligned hq (.inr h)) (by omega), if_neg (by omega)]
    · rw [State.access_reads hx hr hk2 (by omega), State.issueRead_refused (.inr ⟨by omega, ht⟩)]
  · have hk2 : x.kind ≠ 2 := by omega
    have hmerge : mergeable q x = false := Bool.eq_false_iff.2 fun h => by have := (mergeable_spec h).1; omega
    intro v
    refine ⟨fun h => ?_, fun h => ?_⟩
    · rw [State.access_stores hx hr hk2 h fun _ => hmerge, State.issueStore_sput hk]
    · rw [State.access_reads hx hr hk2 h, State.issueRead_refused (.inl hk)]
  · rw [State.access_config hx hk, State.issueCfg_built h2 hn hal hp]
  · rw [State.access_config hx hk, State.issueCfg_refused h]

end Sys2Proof.Machine
end

section
/-!
PROOFS. Exclusive monitors and hand-offs, retries, responses, timeouts and quarantined tags (R193 to R197, R280, R281).
-/
namespace Sys2Proof.Machine

/-! ### Monitors and hand-offs (R193, R194, R197) -/

/-- What a monitor holds beside its registers. -/
theorem State.mon_setMon_same (s : State) (p m : Nat) (x : Mon) : (s.setMon p m x).mon p m = x := by
  rw [State.mon, State.setMon, State.ni_modNi_same]
  exact tget_tset_same ..

section
variable (s : State) (p m : Nat) (x : Mon)

theorem State.rd_setMon (a : Nat) : (s.setMon p m x).rd a = s.rd a := rfl
theorem State.monHand_setMon : (s.setMon p m x).monHand p m = s.monHand p m := rfl
theorem State.monValid_setMon : (s.setMon p m x).monValid p m = s.monValid p m := rfl
theorem State.monNext_setMon : (s.setMon p m x).monNext p m = s.monNext p m := rfl

end

/-- A monitor that is gone leaves the reset values in its two registers, and no other register changes. -/
theorem State.rd_clearMon_ne {s : State} {p m a : Nat} (ho : a ≠ A.NI_MONITOR_OWN p m) (hl : a ≠ A.NI_MONITOR_LINE p m) :
    (s.clearMon p m).rd a = s.rd a := by
  rw [State.clearMon, State.rd_wr_ne _ _ ho, State.rd_wr_ne _ _ hl, State.rd_setMon]

theorem State.rd_OWN_clearMon (s : State) (p m : Nat) :
    (s.clearMon p m).rd (A.NI_MONITOR_OWN p m) = resetOf (A.NI_MONITOR_OWN p m) := State.rd_wr_same ..

/-- R197: the registers of a monitor whose line enters hand-off. -/
def State.handedOff (s : State) (p m : Nat) : State :=
  (((s.setFld (A.NI_MONITOR_OWN p m) F.NI_MONITOR_OWN_VALID 0).setFld (A.NI_MONITOR_OWN p m) F.NI_MONITOR_OWN_OWNER
    noGid).setFld (A.NI_MONITOR_OWN p m) F.NI_MONITOR_OWN_PROTECTED 0).setFld (A.NI_MONITOR_OWN p m)
    F.NI_MONITOR_OWN_HANDOFF 1

section
variable (s : State) (p m : Nat)

theorem State.HANDOFF_handedOff : (s.handedOff p m).fld (A.NI_MONITOR_OWN p m) F.NI_MONITOR_OWN_HANDOFF = 1 :=
  State.fld_setFld_same _ _ _ _ (by decide)

theorem State.VALID_handedOff : (s.handedOff p m).fld (A.NI_MONITOR_OWN p m) F.NI_MONITOR_OWN_VALID = 0 := by
  rw [State.handedOff, State.fld_setFld_apart _ _ _ _ _ (by decide) (by decide),
    State.fld_setFld_apart _ _ _ _ _ (by decide) (by decide), State.fld_setFld_apart _ _ _ _ _ (by decide) (by decide),
    State.fld_setFld_same _ _ _ _ (by decide)]
  rfl

theorem State.NEXT_handedOff : (s.handedOff p m).fld (A.NI_MONITOR_OWN p m) F.NI_MONITOR_OWN_NEXT = s.monNext p m := by
  rw [State.handedOff, State.fld_setFld_apart _ _ _ _ _ (by decide) (by decide),
    State.fld_setFld_apart _ _ _ _ _ (by decide) (by decide), State.fld_setFld_apart _ _ _ _ _ (by decide) (by decide),
    State.fld_setFld_apart _ _ _ _ _ (by decide) (by decide), State.monNext]

end

section
variable {s : State} {p m : Nat} (hv : s.monValid p m = true) (hn : s.monNext p m ≠ noGid)
include hv hn

/-- A monitor with a NEXT that is freed: its line is in hand-off for 20,480 fclk. -/
theorem State.freeMon_next : s.freeMon p m = (s.handedOff p m).setMon p m { handEnd := s.nowOf p + 20480 } := by
  rw [State.freeMon, hv, Bool.not_true, if_neg Bool.false_ne_true, if_neg hn]
  rfl

theorem State.monHand_freeMon : (s.freeMon p m).monHand p m = true := by
  rw [State.freeMon_next hv hn, State.monHand_setMon, State.monHand, State.bit, State.HANDOFF_handedOff]
  rfl

theorem State.monValid_freeMon : (s.freeMon p m).monValid p m = false := by
  rw [State.freeMon_next hv hn, State.monValid_setMon, State.monValid, State.bit, State.VALID_handedOff]
  rfl

theorem State.monNext_freeMon : (s.freeMon p m).monNext p m = s.monNext p m := by
  rw [State.freeMon_next hv hn, State.monNext_setMon, State.monNext, State.NEXT_handedOff]

theorem State.handEnd_freeMon : ((s.freeMon p m).mon p m).handEnd = s.nowOf p + 20480 := by
  rw [State.freeMon_next hv hn, State.mon_setMon_same]

end

section
variable {p : Fin 144} {m : Fin 64} {s : State}

/-- A hand-off whose time is over ends. -/
theorem execHandoffExpire_ends (hh : s.monHand p.val m.val = true) (ht : (s.mon p.val m.val).handEnd ≤ s.nowOf p.val) :
    exec (.handoffExpire p m) s = .next (s.clearMon p.val m.val) := if_pos (by simp [hh, ht])

theorem execHandoffExpire_waits (h : s.monHand p.val m.val = false ∨ s.nowOf p.val < (s.mon p.val m.val).handEnd) :
    exec (.handoffExpire p m) s = .next s := if_neg (by simpa [imp_iff_not_or] using h)

/-- A monitor is freed LIFE after its grant. -/
theorem execMonitorExpire_eq : exec (.monitorExpire p m) s = .next (
    if s.monValid p.val m.val = true ∧ (s.mon p.val m.val).granted + 256 * s.fld (A.NI_EXCL_CTL p.val)
      F.NI_EXCL_CTL_LIFE ≤ s.nowOf p.val then s.freeMon p.val m.val else s) := by
  show execMonitorExpire p m s = _
  unfold execMonitorExpire
  simp only [Bool.and_eq_true, decide_eq_true_eq]
  split <;> rfl

end

/-! ### Retries (R195, R196) -/

/-- An RDX that was answered EXNACK waits for its instant, and is then built again. -/
theorem execRdxRetry_eq {p : Fin 144} {t : BitVec 12} {s : State} {r : NiReq} {d : Nat}
    (hr : s.req p.val t.toNat = some r) (hd : r.retryAt = some d) : exec (.rdxRetry p t) s = .next (
      if s.datum < d then s
      else (s.setReq p.val t.toNat (some { r with retryAt := none })).buildReqs p.val
        [{ pkt := { h := r.hdr }, kind := r.kind, acc := r.acc, qos := r.qos }]) := by
  show execRdxRetry p t s = _
  unfold execRdxRetry
  dsimp only
  rw [hr]
  dsimp only
  rw [hd]
  dsimp only
  split <;> rfl

/-! ### Responses (R280) -/

section
variable {p : Fin 144} {s : State} {q : Pkt}

/-- Responses of the RSP type are taken before those of the MGT type, each the oldest first. -/
theorem execResponseReceive_rsp {rest : List Pkt} (h : (s.ni p.val).rxRsp = q :: rest) :
    exec (.responseReceive p) s =
      .next (((s.modNi p.val (fun n => { n with rxRsp := rest })).takeRsp p.val q).pump p.val) := by
  show execResponseReceive p s = _
  unfold execResponseReceive
  dsimp only
  rw [h]

theorem execResponseReceive_mgt (h : (s.ni p.val).rxRsp = []) (hq : ((s.ni p.val).rxMgt).find? mgtResponse = some q) :
    exec (.responseReceive p) s =
      .next (((s.modNi p.val (fun n => { n with rxMgt := n.rxMgt.erase q })).takeRsp p.val q).pump p.val) := by
  show execResponseReceive p s = _
  unfold execResponseReceive
  dsimp only
  rw [h, hq]

theorem execResponseReceive_none (h : (s.ni p.val).rxRsp = []) (hq : ((s.ni p.val).rxMgt).find? mgtResponse = none) :
    exec (.responseReceive p) s = .next s := by
  show execResponseReceive p s = _
  unfold execResponseReceive
  dsimp only
  rw [h, hq]

end

/-! ### Timeouts and quarantined tags (R281) -/

section
variable {p : Fin 144} {t : Fin 8192} {s : State}

/-- The timer of a request, or of a port or drain barrier. -/
theorem execRequestTimeout_eq {r : NiReq}
    (h : (if t.val < 4096 then s.req p.val t.val else s.bar p.val (t.val - 4096)) = some r) :
    exec (.requestTimeout p t) s = .next (
      if r.start = none ∨ s.datum < r.expire ∨ s.rspHere p.val t.val r = true then s
      else ((s.quarantine p.val t.val).reqFail p.val r.kind r.hdr Code.TIMEOUT 0).pump p.val) := by
  show execRequestTimeout p t s = _
  unfold execRequestTimeout
  dsimp only
  rw [h]
  dsimp only
  simp only [Bool.or_eq_true, decide_eq_true_eq, Option.isNone_iff_eq_none, or_assoc]
  split <;> rfl

/-- A quarantined tag is free again when its time is over. -/
theorem execTagQuarantineEnd_eq {d : Nat} (h : tget none (s.ni p.val).quar t.val = some d) :
    exec (.tagQuarantineEnd p t) s = .next (
      if s.datum < d then s
      else (s.modNi p.val (fun n => { n with quar := tset none n.quar t.val none })).pump p.val) := by
  show execTagQuarantineEnd p t s = _
  unfold execTagQuarantineEnd
  dsimp only
  rw [h]
  dsimp only
  split <;> rfl

end

/-- A tag that enters quarantine stays in it for QUAR × 1,024 fclk. -/
theorem State.quar_quarantine (s : State) (p t : Nat) : tget none ((s.quarantine p t).ni p).quar t =
    some (s.datum + s.fld (A.NI_TIMEOUT p) F.NI_TIMEOUT_QUAR * 1024) := by
  rw [State.quarantine, State.ni_modNi_same]
  dsimp only
  exact tget_tset_same ..

/-- Settles O47: each command by its own equation, a hand-off by the fields of the monitor that is freed. -/
theorem monitorsResponsesAndTimers : Obligations.MonitorsResponsesAndTimers := by
  refine ⟨fun p m s => ⟨fun hv hlate => ?_, fun h => ?_, fun hh ht => ?_, execHandoffExpire_waits, fun hv hn => ?_⟩,
    fun p t s r d hr hd => ?_,
    fun p s => ⟨fun q rest => execResponseReceive_rsp, fun q => execResponseReceive_mgt, execResponseReceive_none⟩,
    fun p t s r hr => ?_, fun p t s d hd => ?_, fun p t s => s.quar_quarantine p t⟩
  · rw [execMonitorExpire_eq, if_pos ⟨hv, hlate⟩]
  · rw [execMonitorExpire_eq, if_neg fun ⟨hv, hlate⟩ =>
      h.elim (fun hf => Bool.false_ne_true (hf.symm.trans hv)) (· hlate)]
  · exact ⟨_, execHandoffExpire_ends hh ht, s.rd_OWN_clearMon p.val m.val, fun a => State.rd_clearMon_ne⟩
  · exact ⟨State.monHand_freeMon hv hn, State.monValid_freeMon hv hn, State.monNext_freeMon hv hn,
      State.handEnd_freeMon hv hn⟩
  · rw [execRdxRetry_eq hr hd]
    exact ⟨fun hlt => by rw [if_pos hlt], fun hle => by rw [if_neg (Nat.not_lt.2 hle)]⟩
  · rw [execRequestTimeout_eq hr]
    refine ⟨fun h => by rw [if_pos h], fun hs hle hno => ?_⟩
    rw [if_neg]
    rintro (hn | hlt | hhere)
    · rw [hn] at hs
      exact Bool.false_ne_true hs
    · exact Nat.not_lt.2 hle hlt
    · exact Bool.false_ne_true (hno.symm.trans hhere)
  · rw [execTagQuarantineEnd_eq hd]
    exact ⟨fun hlt => by rw [if_pos hlt], fun hle => by rw [if_neg (Nat.not_lt.2 hle)]⟩

end Sys2Proof.Machine
end

section
/-!
PROOFS. When a beat on IQ waits, and when it joins the request under way (R178, R204, R206, R207, R210, R211, R226).
-/
namespace Sys2Proof.Machine

section
variable {s : State} {p op : Nat} {b : IqBeat}

/-- R207: the unit shut off, a busy builder or the want of a tag holds IQ_READY at 0, whatever the request. -/
theorem State.iqReady_eq_false {q : IqReq} (h : (s.ni p).iqShut = true ∨ s.builderIdle p = false ∨ s.freeTag p = none) :
    s.iqReady p op q = false := by
  unfold State.iqReady
  obtain h | h | h := h
  · rw [h, Bool.not_true, Bool.false_and, Bool.false_and, Bool.false_and]
  · rw [h, Bool.and_false, Bool.false_and, Bool.false_and]
  · rw [h, Option.isSome_none, Bool.and_false, Bool.false_and]

/-- Meeting a beat takes no time. -/
theorem State.datum_iqRoomed : (s.iqRoomed p op b).datum = s.datum := by
  have h : (s.iqRoomed p op b).frame = s.frame := by
    rw [State.iqRoomed, State.makeRoom_frame, State.iqSeen, State.modNi_frame, State.iqSteady_frame]
  exact congrArg (·.2.2) h

/-- A beat that does not transfer at its edge finds IQ_READY at 0: it is held, and the cycle counted. -/
theorem State.iq_waits (he : s.iqEdge p = true) (h : ¬ s.accepts p op b) : s.iq p op b =
    ((s.iqRoomed p op b).modNi p (fun n => { n with iqHeld := some (op, b, s.datum) })).ncnt p 1 := by
  rw [State.iq_stalls he (Bool.eq_false_iff.2 fun hr => h ⟨he, hr⟩), State.datum_iqRoomed]

end

/-- Settles O18: every command that offers a beat is `State.iq`, whose cases are those of IQ_READY. -/
theorem iqRequestsWait : Obligations.IqRequestsWait := by
  intro c p op b s hc
  rw [exec_of_iqRequest s hc]
  refine ⟨fun he => by rw [State.iq_idle he], fun he => ⟨fun hwait ha => ?_, fun ha => ?_, fun ha hl => ⟨_, rfl, ?_⟩⟩⟩
  · exact Bool.false_ne_true ((State.iqReady_eq_false hwait).symm.trans ha.2)
  · rw [State.iq_waits he ha]
  · rw [State.iq_part ha hl]

end Sys2Proof.Machine
end

section
/-!
PROOFS. What the power handshake, the domain and the causes of an NI read and write (R223, R226, R288, R296, R335, R336).
-/
namespace Sys2Proof.Machine

/-! ### Flags -/

section
variable (s : State) {a : Nat} (f g : Fld)

/-- A flag shows whether what was written into it is 0. -/
theorem State.bit_setFld_same (v : Nat) (h : f.lo + f.w ≤ 64) : (s.setFld a f v).bit a f = decide (v % 2 ^ f.w ≠ 0) := by
  rw [State.bit, State.fld_setFld_same _ _ _ _ h]

/-- Another flag of the register is kept. -/
theorem State.bit_setFld_apart (v : Nat) (h : f.lo + f.w ≤ 64) (hg : f.apart g) :
    (s.setFld a f v).bit a g = s.bit a g := by
  rw [State.bit, State.fld_setFld_apart _ _ _ _ _ h hg, State.bit]

/-- A count of another register leaves a field alone. -/
theorem State.fld_sat_ne {b : Nat} (n : Nat) (h : b ≠ a) : (s.sat a f n).fld b g = s.fld b g :=
  State.fld_setFld_ne _ _ _ _ h

end

section
variable (s : State) (p : Nat) (h : NiSt → NiSt) (a v : Nat) (f : Fld)

@[simp] theorem State.fld_modNi : (s.modNi p h).fld a f = s.fld a f := rfl
@[simp] theorem State.bit_modNi : (s.modNi p h).bit a f = s.bit a f := rfl
@[simp] theorem State.tsOut_setFld : (s.setFld a f v).tsOut p = s.tsOut p := by
  rw [State.tsOut, State.ni_setFld, State.tsOut]

end

theorem State.bit_congr {s t : State} {a : Nat} (f : Fld) (h : t.rd a = s.rd a) : t.bit a f = s.bit a f := by
  rw [State.bit, State.fld, h, State.bit, State.fld]

/-! ### Causes and errors of an NI (R226, R296) -/

section
variable (s : State) {p a : Nat} (hp : p < 144) (ha : 0x100000 ≤ a) (hcause : a ≠ A.NI_EVT_CAUSE p)
include hp ha hcause

/-- A cause of an NI leaves the other registers of the NIs alone. -/
theorem State.rd_niCause (b : Nat) : (s.niCause p b).rd a = s.rd a :=
  ((State.rd_seeRise _ _ (by omega) ha).trans (State.rd_seeRise _ _ (by omega) ha)).trans (s.rd_setFld_ne _ _ hcause)

/-- An illegal behaviour of the unit is written into its count, its capture and its cause, nowhere else in the NIs. -/
theorem State.rd_portErr (code tag : Nat) (herr : a ≠ A.NI_PORT_ERR p) (hcap : a ≠ A.NI_PORT_ERR_CAP p) :
    (s.portErr p code tag).rd a = s.rd a := by
  unfold State.portErr
  dsimp only
  rw [State.rd_niCause _ hp ha hcause]
  split
  · exact State.rd_setFld_ne _ _ _ herr
  · rw [State.rd_setFld_ne _ _ _ hcap, State.rd_setFld_ne _ _ _ hcap, State.rd_setFld_ne _ _ _ hcap]
    exact State.rd_setFld_ne _ _ _ herr

end

/-! ### The acknowledgement (R224) -/

section
variable {s : State} {p : Nat}

theorem State.qackTake_takes (hack : s.bit (A.NI_PORT_STATUS p) F.NI_PORT_STATUS_QACK = true)
    (hreq : s.bit (A.NI_PORT_STATUS p) F.NI_PORT_STATUS_QREQ = true) (hout : s.tsOut p = 0) :
    s.qackTake p = s.modNi p (fun n => { n with iqShut := true }) := by
  unfold State.qackTake
  dsimp only
  rw [hack, hreq, decide_eq_true hout]
  rfl

theorem State.qackTake_leaves (h : s.bit (A.NI_PORT_STATUS p) F.NI_PORT_STATUS_QACK = false ∨
    s.bit (A.NI_PORT_STATUS p) F.NI_PORT_STATUS_QREQ = false) : s.qackTake p = s := by
  unfold State.qackTake
  dsimp only
  obtain h | h := h
  · rw [h, Bool.false_and, Bool.false_and, if_neg Bool.false_ne_true]
  · rw [h, Bool.and_false, Bool.false_and, if_neg Bool.false_ne_true]

end

/-! ### The state of a port and its domain -/

theorem NI_CTL_ne_NI_DOM (p : Nat) : A.NI_CTL p ≠ A.NI_DOM p := niBase_add_ne p (i := 0x3a00) (j := 0x4800) (by decide)

section
variable (s : State) (p : Nat)

/-- The request of a domain is shown in NI_DOM alone (R335). -/
theorem State.rd_domRefresh_ne {a : Nat} (h : a ≠ A.NI_DOM p) : (s.domRefresh p).rd a = s.rd a := by
  unfold State.domRefresh
  split
  · rfl
  · dsimp only
    rw [State.rd_setFld_ne _ _ _ h, State.rd_setFld_ne _ _ _ h]

theorem State.niState_toPort {v : Nat} (hv : v < 8) : (s.toPort p v).niState p = v := by
  rw [State.niState, State.fld, State.toPort, State.rd_domRefresh_ne _ _ (NI_CTL_ne_NI_DOM p)]
  exact (State.fld_setFld_same _ _ _ _ (by decide)).trans (Nat.mod_eq_of_lt hv)

theorem State.PWR_DOWN_OK_toPort (v : Nat) :
    (s.toPort p v).fld (A.NI_CTL p) F.NI_CTL_PWR_DOWN_OK = s.fld (A.NI_CTL p) F.NI_CTL_PWR_DOWN_OK := by
  rw [State.fld, State.toPort, State.rd_domRefresh_ne _ _ (NI_CTL_ne_NI_DOM p)]
  exact State.fld_setFld_apart _ _ _ _ _ (by decide) (by decide)

theorem State.pwrUp_powerOff : (s.powerOff p).pwrUp p = false := by
  rw [State.pwrUp, State.powerOff, State.bit_modNi, State.bit_setFld_apart _ _ _ _ (by decide) (by decide),
    State.bit_setFld_same _ _ _ (by decide)]
  rfl

end

end Sys2Proof.Machine
end

section
/-!
PROOFS. The commands of the power handshake, of a hanging unit and of the domain (R223 to R226, R288, R290, R335, R336).
-/
namespace Sys2Proof.Machine

section
variable {p : Fin 144} {s : State}

/-! ### PWR_UP_RAISE (R223) -/

/-- R223: PWR_UP is 1, and the requests of the unit are taken again. -/
def State.poweredUp (s : State) (p : Nat) : State :=
  (s.setFld (A.NI_PORT_STATUS p) F.NI_PORT_STATUS_PWR_UP 1).modNi p (fun n => { n with iqShut := false })

theorem execPwrUpRaise_raises (hd : s.datum % 2 = 0) (hpwr : s.pwrUp p.val = false)
    (hack : s.bit (A.NI_DOM p.val) F.NI_DOM_ACK = true)
    (hst : s.niState p.val = PortStt.DISABLED ∨ s.niState p.val = PortStt.ENABLED) :
    exec (.pwrUpRaise p) s = .next (s.poweredUp p.val) := by
  show execPwrUpRaise p s = _
  exact if_pos (by simpa [hd, hpwr, hack] using hst)

theorem execPwrUpRaise_up (hpwr : s.pwrUp p.val = true) : exec (.pwrUpRaise p) s = .next s := by
  show execPwrUpRaise p s = _
  exact if_neg (by simp [hpwr])

theorem State.poweredUp_spec (s : State) (p : Nat) : (s.poweredUp p).pwrUp p = true ∧
    ((s.poweredUp p).ni p).iqShut = false ∧ ∀ a, a ≠ A.NI_PORT_STATUS p → (s.poweredUp p).rd a = s.rd a := by
  refine ⟨?_, ?_, fun a ha => ?_⟩
  · rw [State.pwrUp, State.poweredUp, State.bit_modNi, State.bit_setFld_same _ _ _ (by decide)]
    rfl
  · rw [State.poweredUp, State.ni_modNi_same]
  · rw [State.poweredUp, State.rd_modNi, State.rd_setFld_ne _ _ _ ha]

/-! ### PWR_QACK (R224, R226 code 0xA) -/

theorem execPwrQack_between (hd : s.datum % 2 ≠ 0) (level : Bool) : exec (.pwrQack ⟨p, level⟩) s = .next s := by
  show execPwrQack ⟨p, level⟩ s = _
  exact if_pos (by simp [pclkEdge, hd])

/-- At an edge QACK shows the level; a rise that must be ignored is an error, and what stands may be taken. -/
theorem execPwrQack_samples (hd : s.datum % 2 = 0) (level : Bool) :
    let a := A.NI_PORT_STATUS p.val
    let t := s.setFld a F.NI_PORT_STATUS_QACK (if level then 1 else 0)
    exec (.pwrQack ⟨p, level⟩) s = .next ((if level && !s.bit a F.NI_PORT_STATUS_QACK &&
      (!s.bit a F.NI_PORT_STATUS_QREQ || decide (0 < s.tsOut p.val)) then t.portErr p.val 10 0 else t).qackTake p.val) := by
  intro a t
  have hreq : t.bit a F.NI_PORT_STATUS_QREQ = s.bit a F.NI_PORT_STATUS_QREQ :=
    State.bit_setFld_apart _ _ _ _ (by decide) (by decide)
  have hout : t.tsOut p.val = s.tsOut p.val := State.tsOut_setFld ..
  rw [← hreq, ← hout]
  show execPwrQack ⟨p, level⟩ s = _
  unfold execPwrQack
  dsimp only
  rw [if_neg (by simp [pclkEdge, hd])]

theorem execPwrQack_taken (hd : s.datum % 2 = 0)
    (hreq : s.bit (A.NI_PORT_STATUS p.val) F.NI_PORT_STATUS_QREQ = true) (hout : s.tsOut p.val = 0) :
    exec (.pwrQack ⟨p, true⟩) s = .next ((s.setFld (A.NI_PORT_STATUS p.val) F.NI_PORT_STATUS_QACK 1).modNi p.val
      (fun n => { n with iqShut := true })) := by
  rw [execPwrQack_samples hd, if_neg (by simp [hreq, hout])]
  refine congrArg Host.Outcome.next (State.qackTake_takes ?_ ?_ ((State.tsOut_setFld ..).trans hout))
  · exact State.bit_setFld_same _ _ _ (by decide)
  · exact (State.bit_setFld_apart _ _ _ _ (by decide) (by decide)).trans hreq

theorem execPwrQack_unasked (hd : s.datum % 2 = 0)
    (hreq : s.bit (A.NI_PORT_STATUS p.val) F.NI_PORT_STATUS_QREQ = false)
    (hack : s.bit (A.NI_PORT_STATUS p.val) F.NI_PORT_STATUS_QACK = false) :
    exec (.pwrQack ⟨p, true⟩) s =
      .next ((s.setFld (A.NI_PORT_STATUS p.val) F.NI_PORT_STATUS_QACK 1).portErr p.val 10 0) := by
  rw [execPwrQack_samples hd, if_pos (by simp [hreq, hack])]
  refine congrArg Host.Outcome.next (State.qackTake_leaves (.inr ?_))
  have hne {j : Nat} (hj : 0x3908 ≠ j) := niBase_add_ne p.val hj
  rw [State.bit_congr _ (State.rd_portErr _ p.isLt (by simp only [A.niBase]; omega)
    (hne (by decide)) 10 0 (hne (by decide)) (hne (by decide)))]
  exact (State.bit_setFld_apart _ _ _ _ (by decide) (by decide)).trans hreq

theorem execPwrQack_falls (hd : s.datum % 2 = 0) :
    exec (.pwrQack ⟨p, false⟩) s = .next (s.setFld (A.NI_PORT_STATUS p.val) F.NI_PORT_STATUS_QACK 0) := by
  rw [execPwrQack_samples hd, if_neg (by simp)]
  exact congrArg Host.Outcome.next (State.qackTake_leaves (.inl (State.bit_setFld_same _ _ _ (by decide))))

/-! ### PORT_DOWN (R224 step 4, R288) and QACK_LATE (R225) -/

theorem execPortDown_down (hd : s.datum % 2 = 0)
    (hreq : s.bit (A.NI_PORT_STATUS p.val) F.NI_PORT_STATUS_QREQ = true) (hshut : (s.ni p.val).iqShut = true)
    (hdone : s.unitDone p.val = true) : exec (.portDown p) s = .next (
      if s.niState p.val = PortStt.QUIESCE then (s.powerOff p.val).downOk p.val
      else if s.niState p.val = PortStt.DISABLING then (s.powerOff p.val).disabled p.val else s.powerOff p.val) := by
  show execPortDown p s = _
  exact if_pos (by simp [hd, hreq, hshut, hdone])

theorem execQackLate_late {d : Nat} (hat : (s.ni p.val).qreqAt = some d) (hshut : (s.ni p.val).iqShut = false)
    (hlate : d + 2048 * s.fld (A.NI_PORT_CTL p.val) F.NI_PORT_CTL_QACK_LIMIT ≤ s.datum) (hd : s.datum % 2 = 0) :
    exec (.qackLate p) s = .next (((s.portErr p.val 11 0).niCause p.val 2).proceedLate p.val) := by
  show execQackLate p s = _
  unfold execQackLate
  dsimp only
  rw [hat]
  exact if_neg (by simp [pclkEdge, hd, hshut, Nat.not_lt.2 hlate])

/-! ### UNIT_HANG (R226 code 0x9, R290) -/

section
variable {t : BitVec 8} {x : TOut} (hx : tget none (s.ni p.val).tout t.toNat = some x)
include hx

theorem execUnitHang_inTime
    (h : s.datum < x.at' + 128 * s.fld (A.NI_PORT_CTL p.val) F.NI_PORT_CTL_TS_LIMIT) :
    exec (.unitHang p t) s = .next s := by
  show execUnitHang p t s = _
  unfold execUnitHang
  dsimp only
  rw [hx]
  exact if_pos h

variable (h : x.at' + 128 * s.fld (A.NI_PORT_CTL p.val) F.NI_PORT_CTL_TS_LIMIT ≤ s.datum)
include h

/-- R290 cause 3: with AUTO_ISO_HANG a port in use is isolated. -/
theorem execUnitHang_isolates
    (hauto : ((s.portErr p.val 9 t.toNat).niCause p.val 1).bit (A.NI_CTL p.val) F.NI_CTL_AUTO_ISO_HANG = true)
    (hst : ((s.portErr p.val 9 t.toNat).niCause p.val 1).niState p.val = PortStt.ENABLED) :
    exec (.unitHang p t) s = .next (((s.portErr p.val 9 t.toNat).niCause p.val 1).isolate p.val 3) := by
  show execUnitHang p t s = _
  unfold execUnitHang
  dsimp only
  rw [hx]
  dsimp only
  rw [if_neg (Nat.not_lt.2 h)]
  exact if_pos (by simp [hauto, hst])

/-- Without it a staged or preload item ends TIMEOUT. -/
theorem execUnitHang_endsItem
    (hauto : ((s.portErr p.val 9 t.toNat).niCause p.val 1).bit (A.NI_CTL p.val) F.NI_CTL_AUTO_ISO_HANG = false)
    (hkind : x.item.kind = 4 ∨ x.item.kind = 5) : exec (.unitHang p t) s =
      .next (((s.portErr p.val 9 t.toNat).niCause p.val 1).endItem p.val t.toNat x.item Code.TIMEOUT 0) := by
  show execUnitHang p t s = _
  unfold execUnitHang
  dsimp only
  rw [hx]
  dsimp only
  rw [if_neg (Nat.not_lt.2 h), hauto, Bool.false_and, if_neg Bool.false_ne_true]
  exact if_pos hkind

end

/-! ### The domain (R335, R336) -/

/-- R336: the quiesced port is ENABLED again. -/
def State.returned (s : State) (p : Nat) : State :=
  (s.setFld (A.NI_CTL p) F.NI_CTL_PWR_DOWN_OK 0).toPort p PortStt.ENABLED

theorem execDomainReturn_returns (hst : s.niState p.val = PortStt.QUIESCE)
    (hok : s.bit (A.NI_CTL p.val) F.NI_CTL_PWR_DOWN_OK = true) (hreq : s.bit (A.NI_DOM p.val) F.NI_DOM_REQ = true)
    (hack : s.bit (A.NI_DOM p.val) F.NI_DOM_ACK = true) : exec (.domainReturn p) s = .next (s.returned p.val) := by
  show execDomainReturn p s = _
  exact if_pos (by simp [hst, hok, hreq, hack])

theorem State.returned_spec (s : State) (p : Nat) : (s.returned p).niState p = PortStt.ENABLED ∧
    (s.returned p).fld (A.NI_CTL p) F.NI_CTL_PWR_DOWN_OK = 0 :=
  ⟨State.niState_toPort _ _ (by decide),
    (State.PWR_DOWN_OK_toPort _ _ _).trans (State.fld_setFld_same _ _ _ _ (by decide))⟩

section
variable (hack : s.bit (A.NI_DOM p.val) F.NI_DOM_ACK = true)
include hack

/-- A domain that is not asked for goes down as it should. -/
theorem execPdAckFall_unasked (hreq : s.bit (A.NI_DOM p.val) F.NI_DOM_REQ = false) :
    exec (.pdAckFall p) s = .next (s.setFld (A.NI_DOM p.val) F.NI_DOM_ACK 0) := by
  show execPdAckFall p s = _
  unfold execPdAckFall
  dsimp only
  rw [if_neg (by simp [hack])]
  exact if_pos (by simp [hreq])

/-- R290 cause 4: a domain that is lost isolates a port that needs it. -/
theorem execPdAckFall_lost (hreq : s.bit (A.NI_DOM p.val) F.NI_DOM_REQ = true)
    (hst : s.niState p.val = PortStt.ENABLED ∨ s.niState p.val = PortStt.DISABLING) :
    exec (.pdAckFall p) s = .next ((((s.setFld (A.NI_DOM p.val) F.NI_DOM_ACK 0).sat (A.NI_DOM p.val)
      F.NI_DOM_LOSSES).isolate p.val 4).niCause p.val 7) := by
  have hkept : ((s.setFld (A.NI_DOM p.val) F.NI_DOM_ACK 0).sat (A.NI_DOM p.val) F.NI_DOM_LOSSES).niState p.val =
      s.niState p.val := by
    have hne := NI_CTL_ne_NI_DOM p.val
    exact (State.fld_sat_ne _ _ _ _ hne).trans (State.fld_setFld_ne _ _ _ _ hne)
  show execPdAckFall p s = _
  unfold execPdAckFall
  dsimp only
  rw [if_neg (by simp [hack]), if_neg (by simp [hreq]), hkept]
  exact if_pos hst

end

end

end Sys2Proof.Machine
end

section
/-!
PROOFS. The read of a descriptor, the event lines of a unit and the event messages (R219 to R222, R297, R299).
-/
namespace Sys2Proof.Machine

/-! ### DESC_GO (R220) -/

section
variable {p : Nat} {r : Req} {s : State}

/-- R220: the state in which a read of the descriptor has started, from `t`, with the limits written. -/
def State.descStarted (t : State) (p : Nat) : State :=
  ((t.setFld (A.NI_PORT_STATUS p) F.NI_PORT_STATUS_DESC_STATE 1).setFld (A.NI_PORT_STATUS p)
    F.NI_PORT_STATUS_DESC_FAIL 0).modNi p (fun n => { n with desc := some (0, roundUp (t.datum + 1) 2), descBuf := [] })

theorem State.descStarted_spec (t : State) (p : Nat) :
    ((t.descStarted p).ni p).desc = some (0, roundUp (t.datum + 1) 2) ∧ ((t.descStarted p).ni p).descBuf = [] ∧
    (t.descStarted p).fld (A.NI_PORT_STATUS p) F.NI_PORT_STATUS_DESC_STATE = 1 := by
  rw [State.descStarted, State.ni_modNi_same, State.fld_modNi, State.fld_setFld_apart _ _ _ _ _ (by decide) (by decide),
    State.fld_setFld_same _ _ _ _ (by decide)]
  exact ⟨rfl, rfl, rfl⟩

theorem State.plainWrite_datum (s : State) (a : Nat) (r : Req) : (s.plainWrite a r).1.datum = s.datum :=
  congrArg (·.2.2) (s.plainWrite_frame a r)

variable (hgo : reqFld r F.NI_PORT_CTL_DESC_GO = 1) (hqack : reqFld r F.NI_PORT_CTL_QACK_LIMIT ≠ 0)
  (hts : reqFld r F.NI_PORT_CTL_TS_LIMIT ≠ 0) (hlo : 1 ≤ reqFld r F.NI_PORT_CTL_MAX_OUT)
  (hhi : reqFld r F.NI_PORT_CTL_MAX_OUT ≤ 256) {t : State}
  (hw : s.plainWrite (A.NI_PORT_CTL p) { r with data := F.NI_PORT_CTL_DESC_GO.put r.data 0 } = (t, Code.OK))
include hgo hqack hts hlo hhi hw

/-- With acceptable limits DESC_GO starts a read when the FMP asks for it, the unit is up and idle, and none is under
way. -/
theorem State.writePortCtl_go : s.writePortCtl p r =
    if !isFmp r || !s.pwrUp p || (s.ni p).desc.isSome || decide (0 < s.tsOut p) || (s.ni p).tqBeat ≠ 0 then (s, Code.DENY)
    else (t.descStarted p, Code.OK) := by
  unfold State.writePortCtl
  dsimp only
  rw [if_neg (by omega), hw]
  dsimp only
  rw [if_neg (by simp), if_neg (by simp [hgo])]
  rfl

theorem State.writePortCtl_starts (hf : isFmp r = true) (hpwr : s.pwrUp p = true) (hdesc : (s.ni p).desc = none)
    (hout : s.tsOut p = 0) (hbeat : (s.ni p).tqBeat = 0) : s.writePortCtl p r = (t.descStarted p, Code.OK) := by
  rw [State.writePortCtl_go hgo hqack hts hlo hhi hw]
  exact if_neg (by simp [hf, hpwr, hdesc, hout, hbeat])

theorem State.writePortCtl_denied (h : isFmp r = false ∨ s.pwrUp p = false ∨ (s.ni p).desc.isSome = true) :
    s.writePortCtl p r = (s, Code.DENY) := by
  rw [State.writePortCtl_go hgo hqack hts hlo hhi hw]
  refine if_pos ?_
  obtain h | h | h := h <;> simp [h]

end

theorem execDescGo_serves {p : Fin 144} {r : Req} {s t : State} {c : BitVec 4} (ha : s.admits (A.NI_PORT_CTL p.val) r)
    (h : s.writePortCtl p.val r = (t, c)) : exec (.descGo p r) s = .next (t.ans (A.NI_PORT_CTL p.val) r c) :=
  congrArg Host.Outcome.next (State.serve_eq (act := (·.writePortCtl p.val r)) ha h)

/-! ### DESC_BEAT and DESC_TIMEOUT (R220, R222) -/

section
variable {p : Fin 144} {d : BitVec 512} {s : State} {j at' : Nat}

/-- Within the read's limits a beat is kept, or with the fourth the descriptor is written and judged. -/
theorem execDescBeat_takes (hd : s.datum % 2 = 0) (hpwr : s.pwrUp p.val = true)
    (hdesc : (s.ni p.val).desc = some (j, at')) (hat : at' < s.datum) :
    let b := descBytes ((s.ni p.val).descBuf ++ [d])
    exec (.descBeat p d false) s = .next (
      if j < 3 then
        s.modNi p.val (fun n => { n with desc := some (j + 1, s.datum + 4), descBuf := (s.ni p.val).descBuf ++ [d] })
      else ((List.range 32).foldl (fun s k => s.wr (A.NI_DESC p.val k)
        (BitVec.ofNat 64 (bytesNat ((b.drop (8 * k)).take 8)))) s).descEnd p.val (descFail b)) := by
  intro b
  show execDescBeat p d false s = _
  unfold execDescBeat
  dsimp only
  rw [if_neg (by simp [hd, hpwr]), if_neg Bool.false_ne_true, hdesc]
  dsimp only
  rw [if_neg (by omega), if_neg (by omega)]
  split <;> rfl

theorem execDescTimeout_eq (hdesc : (s.ni p.val).desc = some (j, at')) :
    exec (.descTimeout p) s = .next (if s.datum < at' + 2048 then s else s.descEnd p.val 1) := by
  show execDescTimeout p s = _
  unfold execDescTimeout
  dsimp only
  rw [hdesc]
  dsimp only
  split <;> rfl

end

/-! ### EVT_RAISE_CHANGE (R219, R297) -/

section
variable {p : Fin 144} {v : BitVec 4} {s : State}

theorem execEvtRaiseChange_unsampled (h : s.datum % 2 ≠ 0 ∨ s.pwrUp p.val = false) :
    exec (.evtRaiseChange p v) s = .next s := by
  show execEvtRaiseChange p v s = _
  exact if_pos (by simpa using h)

/-- The lines are kept; beside that a rise only raises its source. -/
theorem execEvtRaiseChange_samples (hd : s.datum % 2 = 0) (hpwr : s.pwrUp p.val = true) :
    ∃ t, exec (.evtRaiseChange p v) s = .next t ∧ t.nis = (s.modNi p.val (fun n => { n with evtRaise := v })).nis := by
  have he : exec (.evtRaiseChange p v) s = execEvtRaiseChange p v s := rfl
  refine ⟨_, he.trans (if_neg (by simp [hd, hpwr])), foldl_fixes (·.nis) (fun t j => ?_) _ _⟩
  split
  · exact (t.raise_eventsOnly _).nis
  · rfl

end

theorem State.ni_of_nis {s t : State} (h : t.nis = s.nis) (q : Nat) : t.ni q = s.ni q := by rw [State.ni, h, State.ni]

/-! ### EVM_BUILD (R299) -/

theorem execEvmBuild_waits {s : State} {i at' d : Nat} {rest : List (Nat × Nat)} (hq : s.glb.evmQ = (i, at') :: rest)
    (hat : s.glb.evmAt = some d) (h : s.datum < d + 16) : exec .evmBuild s = .next s := by
  show execEvmBuild s = _
  unfold execEvmBuild
  rw [hq, hat]
  exact if_pos (by simp [Nat.not_le.2 h])

/-- R299: the oldest event message has left the queue, and is numbered. -/
def State.evmTaken (s : State) (rest : List (Nat × Nat)) : State :=
  ({ s with glb := { s.glb with evmQ := rest, evmAt := some s.datum } }.setFld A.EVT_STATUS F.EVT_STATUS_EVM_QUEUE
    rest.length).wrap A.EVT_STATUS F.EVT_STATUS_EVM_SEQ

/-- R297, R299: the pending bit of the source of a message clears, unless its level still stands. -/
def State.evmCleared (s : State) (i : Nat) : State :=
  if s.fld (A.EVT_SRC_CFG i) F.EVT_SRC_CFG_MODE = 1 ∨ s.srcLevel i = false then s.setPend i false else s

/-- R299: the event message of source `i`, with its number and the datum at which it was queued, leaves. -/
def State.evmSent (s : State) (i seq at' : Nat) : State :=
  (s.gcnt 12).glbSend
    { dest := BitVec.ofNat 18 (s.fld (A.EVT_SRC_CFG i) F.EVT_SRC_CFG_TARGET), cmd := Cmd.EVM, cls := 6, bcount := 32
      address := BitVec.ofNat 64 i }
    [BitVec.ofNat 256 (i + seq * 2 ^ 16 + at' % 2 ^ 64 * 2 ^ 64 + (s.causeWord i).toNat * 2 ^ 128)]

theorem execEvmBuild_builds {s : State} {i at' : Nat} {rest : List (Nat × Nat)} (hq : s.glb.evmQ = (i, at') :: rest)
    (h : ∀ d, s.glb.evmAt = some d → d + 16 ≤ s.datum) : exec .evmBuild s =
      .next (((s.evmTaken rest).evmCleared i).evmSent i (s.fld A.EVT_STATUS F.EVT_STATUS_EVM_SEQ) at') := by
  show execEvmBuild s = _
  unfold execEvmBuild
  rw [hq]
  extract_lets ready
  have hready : ready = true := by
    unfold ready
    cases hat : s.glb.evmAt with
    | none => rfl
    | some d => exact decide_eq_true (h d hat)
  rw [hready]
  simp only [Bool.or_eq_true, decide_eq_true_eq, Bool.not_eq_true']
  rfl

/-- Settles O49: each command by its own equation, what it leaves by the registers and fields that it writes. -/
theorem powerHandshakeDescriptorAndEvents : Obligations.PowerHandshakeDescriptorAndEvents := by
  refine ⟨fun p s => ⟨fun hd hpwr hack hst => ⟨_, execPwrUpRaise_raises hd hpwr hack hst, s.poweredUp_spec p.val⟩,
      execPwrUpRaise_up, execPwrQack_between,
      fun hd => ⟨execPwrQack_taken hd, execPwrQack_unasked hd, execPwrQack_falls hd⟩,
      fun hd hreq hshut hdone => ⟨s.pwrUp_powerOff p.val, fun hst => ?_, fun hst => ?_⟩,
      fun d => execQackLate_late,
      fun t x hx => ⟨execUnitHang_inTime hx, fun h => ⟨execUnitHang_isolates hx h, execUnitHang_endsItem hx h⟩⟩,
      fun hst hok hreq hack => ⟨_, execDomainReturn_returns hst hok hreq hack, s.returned_spec p.val⟩,
      ⟨_, rfl, State.fld_setFld_same _ _ _ _ (by decide), fun b hb => State.rd_setFld_ne _ _ _ hb⟩,
      execPdAckFall_unasked, execPdAckFall_lost⟩,
    fun p r s ha hgo hqack hts hlo hhi hok => ⟨fun hf hpwr hdesc hout hbeat => ?_, fun h => ?_⟩,
    fun p d s j at' hd hpwr hdesc hat => ⟨fun hj => ?_, fun hj => ?_⟩, fun p s j at' hdesc => ?_,
    fun p v s => ⟨execEvtRaiseChange_unsampled, fun hd hpwr => ?_⟩,
    fun s i at' rest hq => ⟨fun ⟨d, hat, h⟩ => execEvmBuild_waits hq hat h, execEvmBuild_builds hq⟩⟩
  · rw [execPortDown_down hd hreq hshut hdone, if_pos hst]
  · rw [execPortDown_down hd hreq hshut hdone, if_neg (by rw [hst]; decide), if_pos hst]
  · refine ⟨_, execDescGo_serves ha (State.writePortCtl_starts hgo hqack hts hlo hhi (State.plainWrite_accepted hok)
      hf hpwr hdesc hout hbeat), ?_⟩
    rw [← s.plainWrite_datum]
    exact State.descStarted_spec _ _
  · exact execDescGo_serves ha
      (State.writePortCtl_denied hgo hqack hts hlo hhi (State.plainWrite_accepted hok) h)
  · refine ⟨_, (execDescBeat_takes hd hpwr hdesc hat).trans (by rw [if_pos hj]), ?_⟩
    rw [State.ni_modNi_same]
    exact ⟨rfl, rfl, rfl⟩
  · rw [execDescBeat_takes hd hpwr hdesc hat, if_neg (Nat.not_lt.2 hj)]
  · rw [execDescTimeout_eq hdesc]
    exact ⟨fun hlt => by rw [if_pos hlt], fun hle => by rw [if_neg (Nat.not_lt.2 hle)]⟩
  · obtain ⟨t, ht, hnis⟩ := execEvtRaiseChange_samples (v := v) hd hpwr
    refine ⟨t, ht, ?_, fun q hq => ?_⟩
    · rw [State.ni_of_nis hnis, State.ni_modNi_same]
    · rw [State.ni_of_nis hnis, State.ni_modNi_ne _ _ hq]

end Sys2Proof.Machine
end

section
/-!
PROOFS. What every opcode of the FMP has in common (R246, R252, R253, R257).
-/
namespace Sys2Proof.Machine

/-! ### The checks before an opcode's own (R252) -/

section
variable {s : State} {i : OpInfo} {m : Msg}

theorem State.fmpJudge_badBits (h : i.bitsOk m.data = false) : s.fmpJudge i m = some (.badArg) := by
  rw [State.fmpJudge, h]
  rfl

theorem State.fmpJudge_lowPriv (h : i.bitsOk m.data = true) (hp : m.priv < (if i.r then 1 else 2)) :
    s.fmpJudge i m = some .priv := by
  rw [State.fmpJudge, h, if_neg (by decide), if_pos hp]

theorem State.fmpJudge_wrongMode (h : i.bitsOk m.data = true) (hp : (if i.r then 1 else 2) ≤ m.priv)
    (ha : i.grp.accepts s.mode = false) : s.fmpJudge i m = some .mode := by
  rw [State.fmpJudge, h, if_neg (by decide), if_neg (Nat.not_lt.2 hp), ha]
  rfl

end

/-- A command of pair `k` meets those checks, and then `act`. -/
def State.judged (k : Nat) (act : Msg → State → State) (i : OpInfo) (m : Msg) (s : State) : State :=
  match s.fmpJudge i m with
  | some a => s.reply k m.data 0 a
  | none => act m s

/-- A command that they turn away is answered so, whatever its meaning. -/
theorem State.judged_refused {s : State} {k : Nat} {act : Msg → State → State} {i : OpInfo} {m : Msg} {a : Ans}
    (h : s.fmpJudge i m = some a) : s.judged k act i m = s.reply k m.data 0 a := by
  rw [State.judged, h]

/-! ### The opcodes -/

/-- Every opcode's command is taken by the FMP and judged. -/
theorem exec_of_fmpOpcode {c : Instr} {k op : Nat} (h : fmpOpcode c = some (k, op)) :
    ∃ act, ∀ s, exec c s = .next (s.fmpTake k op (fun i m s => s.judged k act i m)) := by
  unfold fmpOpcode at h
  split at h <;> cases h <;> exact ⟨_, fun _ => rfl⟩

/-- Every opcode that a command stands for has its row in the tables. -/
theorem opInfo_of_fmpOpcode {c : Instr} {k op : Nat} (h : fmpOpcode c = some (k, op)) : ∃ i, opInfo op = some i := by
  unfold fmpOpcode at h
  split at h <;> cases h <;> exact ⟨_, rfl⟩

/-- Settles O17: each case of taking a command, and for a command of the opcode the checks before its own. -/
theorem fmpCommandsAreJudgedFirst : Obligations.FmpCommandsAreJudgedFirst := by
  intro c k op s hc
  obtain ⟨act, hexec⟩ := exec_of_fmpOpcode hc
  rw [hexec]
  refine ⟨fun h => ?_, fun m hn hm => ⟨fun hi => ?_, fun hi ho => ?_, fun ho => ⟨fun u hu => ?_, fun i hr hi => ?_⟩⟩⟩
  · rcases h with h | h
    · rw [State.fmpTake_waits h]
    · rw [State.fmpTake_none h]
  · rw [State.fmpTake_reserved hn hm hi]
  · obtain ⟨i, hi⟩ := Option.ne_none_iff_exists'.1 hi
    rw [State.fmpTake_other hn hm hi ho]
  · obtain ⟨i, hi⟩ := opInfo_of_fmpOpcode hc
    rw [State.fmpTake_own hn hm ho hi, hu, Option.getD_some]
  · rw [State.fmpTake_own hn hm ho hi, hr, Option.getD_none]
    exact ⟨fun h => by rw [State.judged_refused (State.fmpJudge_badBits h)],
      fun h hp => by rw [State.judged_refused (State.fmpJudge_lowPriv h hp)],
      fun h hp ha => by rw [State.judged_refused (State.fmpJudge_wrongMode h hp ha)]⟩

end Sys2Proof.Machine
end

section
/-!
PROOFS. FAST commands to the FMP (R254, R259 to R273).
-/
namespace Sys2Proof.Machine

/-- A FAST command that is taken is answered with its meaning's outcome, in the state that its meaning leaves. The state `u` in
which it has been taken is named apart: what its meaning does there does not depend on how the FMP came to it. -/
theorem next_fmpFast {s t u : State} {k op : Nat} {m : Msg} {a : Ans} {f : Msg → State → State × Ans}
    (h : s.takes k op m) (hu : s.fmpPop k = u) (e : f m u = (t, a)) :
    (.next (s.fmpFast k op f) : Out) = .next (t.reply k m.data 0 a) := by rw [State.fmpFast_eq h (hu ▸ e)]

/-! ### Meanings in their cases -/

section
variable (s : State)

/-- R286: a port that is ENABLED is isolated at the FMP's command. -/
theorem State.portCmd_isolate_enabled {p : Nat} (h : s.niState p = PortStt.ENABLED) :
    s.portCmd p 5 = (s.isolate p 1, Code.OK) := by
  unfold State.portCmd
  rw [h]
  rfl

/-- R286: one that is DISABLED is not. -/
theorem State.portCmd_isolate_disabled {p : Nat} (h : s.niState p = PortStt.DISABLED) :
    s.portCmd p 5 = (s, Code.TGTERR) := by
  unfold State.portCmd
  rw [h]
  rfl

/-- R229: one channel, which no pair may name, gets an acceptable configuration. -/
theorem State.mbxConfig_single {m : Msg} (ha : 16 ≤ msgWord m.data 1 % 128) (hb : (msgWord m.data 1).testBit 15 = false)
    (h3 : msgWord m.data 3 = 0) (hv : F.MBX_CH_CFG_PAIR_VALID.get (BitVec.ofNat 64 (msgWord m.data 2)) ≠ 1)
    (hok : s.mbxCfgOk (msgWord m.data 1 % 128) (BitVec.ofNat 64 (msgWord m.data 2)) = true) :
    s.mbxConfig m = (s.fmpMbxCfg (msgWord m.data 1 % 128) (BitVec.ofNat 64 (msgWord m.data 2)), .ok) := by
  unfold State.mbxConfig
  dsimp only
  rw [hb, h3, hok, if_neg (by simp [Nat.not_lt.2 ha]), if_pos Bool.not_false, if_neg (by simp [hv])]

/-- The first 16 channels are the command pairs', and no command configures them (R245). -/
theorem State.mbxConfig_reserved {m : Msg} (ha : msgWord m.data 1 % 128 < 16) : s.mbxConfig m = (s, .badArg) :=
  if_pos (.inl ha)

/-- A patch that the station cannot take leaves nothing behind (R105). -/
theorem State.tryPatch_refused {st : Nat} {x : Word} (h : (s.tryPatch st x).2 = false) : (s.tryPatch st x).1 = s := by
  unfold State.tryPatch at h ⊢
  dsimp only at h ⊢
  by_cases hc : (s.writePatch st (s.fmpReq x)).2 = Code.OK
  · rw [if_pos hc] at h
    cases h
  · rw [if_neg hc]

end

/-- R132: a set that is idle, or has committed, is in none of the states in which it can be aborted. -/
theorem not_abortable {st : Nat} (h : st = SetSt.IDLE ∨ SetSt.COMMITTED ≤ st) :
    ¬(st = SetSt.OPEN ∨ st = SetSt.CLOSING ∨ st = SetSt.WAITING) := by
  unfold SetSt.IDLE SetSt.COMMITTED at h
  unfold SetSt.OPEN SetSt.CLOSING SetSt.WAITING
  omega

/-! ### The commands in their cases -/

section
variable {k : Fin 8} {m : Msg} {s u : State}

theorem execChainInfo_noSrc (h : s.takes k.val 0x1C m) (hu : s.fmpPop k.val = u)
    (hx : u.chainSrc (msgWord m.data 1) = none) :
    exec (.chainInfo k) s = .next (u.reply k.val m.data 0 (.badArg)) := by
  refine next_fmpFast h hu ?_
  dsimp only
  rw [hx]

/-- Of a chain with no destination no probe has been seen (R265). -/
theorem execChainInfo_noDst {x : PlanSrc} (h : s.takes k.val 0x1C m) (hu : s.fmpPop k.val = u)
    (hx : u.chainSrc (msgWord m.data 1) = some x) (hd : u.chainDsts (msgWord m.data 1) = []) :
    exec (.chainInfo k) s = .next (u.reply k.val m.data 0 (.ok [x.b + x.k * 2 ^ 8, 0])) := by
  refine next_fmpFast h hu ?_
  dsimp only
  rw [hx, hd]
  simp

/-- A port that does not exist, or is DISABLED, is not isolated. -/
theorem execPortIsolate_refused (h : s.takes k.val 0x0C m) (hu : s.fmpPop k.val = u)
    (hp : 144 ≤ msgWord m.data 1 % 256 ∨ u.niState (msgWord m.data 1 % 256) = PortStt.DISABLED) :
    exec (.portIsolate k) s = .next (u.reply k.val m.data 0 (.badArg)) := by
  refine next_fmpFast h hu ?_
  dsimp only
  by_cases hport : 144 ≤ msgWord m.data 1 % 256
  · rw [if_pos hport]
  · rw [if_neg hport, u.portCmd_isolate_disabled (hp.resolve_left hport)]
    rfl

/-- A patch in range that R105's checks pass is tried at the station, whose refusal is a conflict. -/
theorem execPlatPatch_inRange (h : s.takes k.val 0x1A m) (hu : s.fmpPop k.val = u) (hst : msgWord m.data 1 % 64 < 36)
    (hn : bitsOf (msgWord m.data 1) 6 4 < 11)
    (hc : bitsOf (msgWord m.data 1) 10 10 < u.bankLen (msgWord m.data 1 % 64) (bitsOf (msgWord m.data 1) 6 4)
      (u.platBank (msgWord m.data 1 % 64) (bitsOf (msgWord m.data 1) 6 4)))
    (hok : u.patchCheck (msgWord m.data 1 % 64) (bitsOf (msgWord m.data 1) 6 4) (bitsOf (msgWord m.data 1) 10 10)
      (bitsOf (msgWord m.data 1) 20 16) = none) :
    let x := u.tryPatch (msgWord m.data 1 % 64)
      (patchWord (bitsOf (msgWord m.data 1) 6 4) (bitsOf (msgWord m.data 1) 10 10) (bitsOf (msgWord m.data 1) 20 16))
    exec (.platPatch k) s = .next (x.1.reply k.val m.data 0
      (if x.2 then .ok [(x.1.rd (A.STN_PLAT_PATCH_TIME (msgWord m.data 1 % 64))).toNat] else .conflict 0)) := by
  refine next_fmpFast h hu ?_
  dsimp only
  rw [if_neg (by omega), hok]

/-- A filter and an action that go together, each a value of its register, are set at once (R320). -/
theorem execProbeSet_sets (h : s.takes k.val 0x32 m) (hu : s.fmpPop k.val = u) (hp : msgWord m.data 1 < 180)
    (hok : probeOk (msgWord m.data 1) (BitVec.ofNat 64 (msgWord m.data 2)) (BitVec.ofNat 64 (msgWord m.data 3)) = true)
    (hf : valueOk (probeRegs (msgWord m.data 1)).1 (BitVec.ofNat 64 (msgWord m.data 2)) = true)
    (ha : valueOk (probeRegs (msgWord m.data 1)).2.1 (BitVec.ofNat 64 (msgWord m.data 3)) = true) :
    exec (.probeSet k) s = .next ((((u.wr (probeRegs (msgWord m.data 1)).1 (BitVec.ofNat 64 (msgWord m.data 2))).wr
      (probeRegs (msgWord m.data 1)).2.1 (BitVec.ofNat 64 (msgWord m.data 3))).probeRestart (msgWord m.data 1)).reply
        k.val m.data 0 .ok) := by
  refine next_fmpFast h hu ?_
  dsimp only
  rw [hok, hf, ha, if_neg (by simp [Nat.not_le.2 hp])]

/-- A value that NI_TAG_CTL takes is written there as by a write of the FMP's (R322). -/
theorem execTagSet_sets {t : State} (h : s.takes k.val 0x33 m) (hu : s.fmpPop k.val = u) (hp : msgWord m.data 1 < 144)
    (hv : valueOk (A.NI_TAG_CTL (msgWord m.data 1)) (BitVec.ofNat 64 (msgWord m.data 2)) = true)
    (hw : u.writeTagCtl (msgWord m.data 1) (u.fmpReq (BitVec.ofNat 64 (msgWord m.data 2))) = (t, Code.OK)) :
    exec (.tagSet k) s = .next (t.reply k.val m.data 0 .ok) := by
  refine next_fmpFast h hu ?_
  dsimp only
  rw [hv, if_neg (by simp [Nat.not_le.2 hp]), hw]
  rfl

end

/-! ### The FAST commands -/

/-- Settles O51: each command that is taken by its meaning in the case at hand. -/
theorem fastCommandsReportAndAct : Obligations.FastCommandsReportAndAct := by
  refine ⟨fun k m s => ?_, fun k m s => ?_⟩
  · intro u w ans bad
    have hu : s.fmpPop k.val = u := rfl
    clear_value u
    refine ⟨fun h => next_fmpFast h hu rfl, fun h => next_fmpFast h hu rfl,
      fun h => ⟨fun hn => next_fmpFast h hu ?_, fun t ht => next_fmpFast h hu ?_⟩,
      fun h => ⟨fun hp => next_fmpFast h hu (if_pos hp), fun hp => next_fmpFast h hu (if_neg (Nat.not_le.2 hp))⟩,
      fun h => next_fmpFast h hu rfl,
      fun h => ⟨execChainInfo_noSrc h hu, fun x => execChainInfo_noDst h hu⟩,
      fun h => next_fmpFast h hu rfl,
      fun h => ⟨fun hp => next_fmpFast h hu (if_pos hp), fun hp => next_fmpFast h hu ?_⟩,
      fun h => next_fmpFast h hu rfl,
      fun h => ⟨fun hp => next_fmpFast h hu (if_pos hp),
        fun hst hn => next_fmpFast h hu (if_neg (not_or.2 ⟨Nat.not_le.2 hst, Nat.not_lt.2 hn⟩))⟩,
      fun h => next_fmpFast h hu rfl,
      fun h a b ha hb => next_fmpFast h hu ?_⟩
    · rw [hn]
    · rw [ht]
    · dsimp only
      rw [if_neg (Nat.not_le.2 hp)]
      simp only [decide_eq_true_eq]
      rfl
    · rw [ha, hb]
  · intro u w ok no
    have hu : s.fmpPop k.val = u := rfl
    clear_value u
    refine ⟨fun h => ⟨fun hn => next_fmpFast h hu ?_, fun t ht => ⟨fun hc => next_fmpFast h hu ?_,
        fun hc => next_fmpFast h hu ?_⟩⟩,
      fun h => ⟨fun t ht => next_fmpFast h hu ?_, fun ht => next_fmpFast h hu ?_⟩,
      fun h => ⟨fun ha hb h3 hv hok => next_fmpFast h hu (u.mbxConfig_single ha hb h3 hv hok),
        fun ha => next_fmpFast h hu (u.mbxConfig_reserved ha)⟩,
      fun h hl => next_fmpFast h hu (if_pos hl),
      fun h => ⟨fun hp hst => next_fmpFast h hu ?_, execPortIsolate_refused h hu⟩,
      fun h => ⟨fun hf hi => next_fmpFast h hu ?_, fun hf => next_fmpFast h hu ?_⟩,
      fun h hst hn hc hok => ⟨fun hx => ?_, fun hx => ⟨u.tryPatch_refused hx, ?_⟩⟩,
      fun h => ⟨fun hst => next_fmpFast h hu (if_pos hst), fun hst => next_fmpFast h hu (if_neg (not_abortable hst))⟩,
      fun h => execProbeSet_sets h hu,
      fun h hp hv hc => execTagSet_sets h hu hp hv (Prod.ext rfl hc),
      fun h => ⟨fun hn => next_fmpFast h hu ?_, fun a n hn hv => next_fmpFast h hu ?_⟩,
      fun h => ⟨fun hok => next_fmpFast h hu (if_pos hok), fun hok => next_fmpFast h hu (if_neg (Bool.eq_false_iff.1 hok))⟩,
      fun h => ⟨fun hst => next_fmpFast h hu ?_, fun hst hne => next_fmpFast h hu ?_⟩⟩
    · rw [hn]
    · rw [ht]
      exact if_pos hc
    · rw [ht]
      exact if_neg (Bool.eq_false_iff.1 hc)
    · dsimp only
      rw [ht]
    · dsimp only
      rw [ht]
    · rw [if_neg (Nat.not_le.2 hp), u.portCmd_isolate_enabled hst]
      rfl
    · have hf15 : bitsOf w 10 4 ≠ 15 := by omega
      rw [if_neg hf15, if_neg]
      rintro (hle | ⟨hv, he⟩)
      · exact absurd hle (Nat.not_le.2 hf)
      · exact hi.elim (Bool.eq_false_iff.1 · hv) (· he)
    · rw [if_neg (by rw [hf]; decide), if_pos (.inl hf.ge)]
    · rw [execPlatPatch_inRange h hu hst hn hc hok, if_pos hx]
    · rw [execPlatPatch_inRange h hu hst hn hc hok, u.tryPatch_refused hx, if_neg (Bool.eq_false_iff.1 hx)]
    · rw [hn]
    · rw [hn]
      exact if_neg (Nat.not_le.2 hv)
    · have hne : w % 64 ≠ 63 := by omega
      rw [if_neg hne, if_neg (Nat.not_le.2 hst)]
    · rw [if_neg hne, if_pos hst]

end Sys2Proof.Machine
end

section
/-!
PROOFS. Tickets: the limits, the numbers, and what the FMP's messages leave of them (R247, R249, R255, R256).
-/
namespace Sys2Proof.Machine

/-! ### Ticket numbers (R256) -/

/-- The numbers in the order in which they are tried for the next ticket. -/
def ticketNumbers (last : Nat) : List Nat := (List.range 255).map (fun j => (last + j) % 255 + 1)

theorem ticketNumbers_bounds {last n : Nat} (h : n ∈ ticketNumbers last) : 1 ≤ n ∧ n ≤ 255 := by
  obtain ⟨j, -, rfl⟩ := List.mem_map.1 h
  omega

theorem ticketNumbers_nodup (last : Nat) : (ticketNumbers last).Nodup :=
  List.nodup_range.map_on fun i hi j hj e => by
    rw [List.mem_range] at hi hj
    omega

/-- Fewer tickets than numbers leave a number free. -/
theorem exists_freeNumber {l : List Nat} {ts : List Tkt} (hl : l.Nodup) (hlen : ts.length < l.length) :
    ∃ n ∈ l, ∀ t ∈ ts, t.num ≠ n := by
  by_contra! hall
  have hsub : l ⊆ ts.map (·.num) := fun n hn => List.mem_map.2 (hall n hn)
  have hle := (List.subperm_of_subset hl hsub).length_le
  rw [List.length_map] at hle
  omega

/-- No held ticket has the number. -/
def State.numberFree (s : State) (n : Nat) : Bool := s.fmp.tickets.all (fun t => t.num ≠ n)

theorem State.numberFree_iff {s : State} {n : Nat} : s.numberFree n = true ↔ ∀ t ∈ s.fmp.tickets, t.num ≠ n := by
  simp only [State.numberFree, List.all_eq_true, decide_eq_true_eq]

theorem State.nextTicket_eq (s : State) :
    s.nextTicket = ((ticketNumbers s.fmp.lastTicket).find? s.numberFree).getD 1 := rfl

/-- While at most 64 tickets are held, the next number is one that is tried, and is no held ticket's. -/
theorem State.nextTicket_spec {s : State} (h : s.fmp.tickets.length ≤ 64) :
    s.nextTicket ∈ ticketNumbers s.fmp.lastTicket ∧ ∀ t ∈ s.fmp.tickets, t.num ≠ s.nextTicket := by
  obtain ⟨n, hn, hfree⟩ := exists_freeNumber (ts := s.fmp.tickets) (ticketNumbers_nodup s.fmp.lastTicket)
    (by rw [ticketNumbers, List.length_map, List.length_range]; omega)
  rw [State.nextTicket_eq]
  cases hfind : (ticketNumbers s.fmp.lastTicket).find? s.numberFree with
  | none => exact absurd (State.numberFree_iff.2 hfree) (List.find?_eq_none.1 hfind n hn)
  | some x => exact ⟨List.mem_of_find?_eq_some hfind, State.numberFree_iff.1 (List.find?_some hfind)⟩

/-! ### The limits (R256) -/

/-- The tickets of a pair among those held. -/
def State.heldOf (s : State) (k : Nat) : Nat := (s.fmp.tickets.filter (fun t => t.pair = k)).length

theorem State.heldOf_eq_countP (s : State) (k : Nat) : s.heldOf k = s.fmp.tickets.countP (fun t => t.pair = k) :=
  List.countP_eq_length_filter.symm

/-- A ticket whose COMPLETION is owed, or whose work goes on, is not dropped from `s` to `u` (R256). -/
def State.KeepsOwed (s u : State) : Prop := ∀ t ∈ s.fmp.tickets, t.quiet = false ∨ t.st ≠ 2 → t ∈ u.fmp.tickets

theorem State.oldQuiet_spec {s : State} {k : Option Nat} {t : Tkt} (h : s.oldQuiet k = some t) :
    t ∈ s.fmp.tickets ∧ t.quiet = true ∧ t.st = 2 ∧ ∀ p, k = some p → t.pair = p := by
  have hprops := List.find?_some h
  simp only [Bool.and_eq_true, Bool.or_eq_true, decide_eq_true_eq] at hprops
  obtain ⟨⟨hq, hst⟩, hk⟩ := hprops
  refine ⟨List.mem_of_find?_eq_some h, hq, hst, fun p hp => ?_⟩
  subst hp
  exact (Option.some.inj (hk.resolve_left Bool.false_ne_true)).symm

/-- The oldest QUIET ticket that is DONE is freed. -/
def State.dropQuiet (s : State) (t : Tkt) : State := s.setTickets (s.fmp.tickets.erase t)

section
variable {s : State} {k : Option Nat} {t : Tkt}

theorem State.length_dropQuiet (h : s.oldQuiet k = some t) :
    (s.dropQuiet t).fmp.tickets.length = s.fmp.tickets.length - 1 :=
  List.length_erase_of_mem (State.oldQuiet_spec h).1

theorem State.heldOf_dropQuiet_le (p : Nat) : (s.dropQuiet t).heldOf p ≤ s.heldOf p :=
  (List.erase_sublist.filter _).length_le

theorem State.heldOf_dropQuiet {p : Nat} (h : s.oldQuiet (some p) = some t) :
    (s.dropQuiet t).heldOf p = s.heldOf p - 1 := by
  obtain ⟨hmem, -, -, hpair⟩ := State.oldQuiet_spec h
  rw [State.heldOf_eq_countP, State.heldOf_eq_countP]
  exact (List.countP_erase ..).trans (by rw [if_pos ⟨hmem, decide_eq_true (hpair p rfl)⟩])

theorem State.dropQuiet_keepsOwed (h : s.oldQuiet k = some t) : s.KeepsOwed (s.dropQuiet t) := by
  obtain ⟨-, hq, hst, -⟩ := State.oldQuiet_spec h
  intro x hx hdue
  refine (List.mem_erase_of_ne fun e => ?_).2 hx
  subst e
  exact hdue.elim (fun e => Bool.noConfusion (e.symm.trans hq)) (fun e => e hst)

end

/-- A place is there, or is made at the cost of the oldest QUIET ticket that is DONE. -/
theorem State.place_cases {s u : State} {k : Option Nat} {c : Prop} [Decidable c]
    (h : (if c then some s else (s.oldQuiet k).map s.dropQuiet) = some u) :
    u = s ∧ c ∨ ∃ t, s.oldQuiet k = some t ∧ u = s.dropQuiet t := by
  split at h
  case isTrue hc => exact .inl ⟨(Option.some.inj h).symm, hc⟩
  case isFalse =>
    obtain ⟨t, ht, rfl⟩ := Option.map_eq_some_iff.1 h
    exact .inr ⟨t, ht, rfl⟩

/-- A place for a ticket of pair `k`: the pair's limit is met first, then the limit of all tickets. -/
theorem State.ticketRoom_eq_bind (s : State) (k : Nat) :
    s.ticketRoom k = (if s.heldOf k < 16 then some s else (s.oldQuiet (some k)).map s.dropQuiet).bind
      (fun v => if v.fmp.tickets.length < 64 then some v else (v.oldQuiet none).map v.dropQuiet) := by
  unfold State.ticketRoom
  extract_lets own first
  change _ = first.bind _
  cases first <;> rfl

theorem State.ticketRoom_limits {s u : State} {k : Nat} (h : s.ticketRoom k = some u) (hall : s.fmp.tickets.length ≤ 64)
    (hown : s.heldOf k ≤ 16) : u.fmp.tickets.length ≤ 63 ∧ u.heldOf k ≤ 15 ∧ s.KeepsOwed u := by
  rw [State.ticketRoom_eq_bind, Option.bind_eq_some_iff] at h
  obtain ⟨v, hv, hu⟩ := h
  have hstage : v.fmp.tickets.length ≤ 64 ∧ v.heldOf k ≤ 15 ∧ s.KeepsOwed v := by
    rcases State.place_cases hv with ⟨rfl, hlt⟩ | ⟨t, ht, rfl⟩
    · exact ⟨hall, Nat.le_of_lt_succ hlt, fun _ hx _ => hx⟩
    · exact ⟨by rw [State.length_dropQuiet ht]; omega, by rw [State.heldOf_dropQuiet ht]; omega,
        State.dropQuiet_keepsOwed ht⟩
  obtain ⟨hlen, hpair, howed⟩ := hstage
  rcases State.place_cases hu with ⟨rfl, hlt⟩ | ⟨t, ht, rfl⟩
  · exact ⟨Nat.le_of_lt_succ hlt, hpair, howed⟩
  · exact ⟨by rw [State.length_dropQuiet ht]; omega, (State.heldOf_dropQuiet_le k).trans hpair,
      fun x hx hdue => State.dropQuiet_keepsOwed ht x (howed x hx hdue) hdue⟩

/-! ### What a REPLY leaves of the tickets (R247, R249) -/

/-- The tickets held and the number given last. -/
def State.issued (s : State) : List Tkt × Nat := (s.fmp.tickets, s.fmp.lastTicket)

theorem State.EventsOnly.issued {s t : State} (h : s.EventsOnly t) : t.issued = s.issued :=
  congrArg (fun u => (u.fmp.tickets, u.fmp.lastTicket)) h.rest

theorem issued_foldl {α : Type} {f : State → α → State} (h : ∀ s x, (f s x).issued = s.issued) (l : List α) (s : State) :
    (l.foldl f s).issued = s.issued := by
  induction l generalizing s with
  | nil => rfl
  | cons x l ih => rw [List.foldl_cons, ih, h]

section
variable (s : State)

theorem State.issued_ite (c : Prop) [Decidable c] (t : State) :
    (if c then s else t).issued = if c then s.issued else t.issued := apply_ite ..

theorem State.issued_wr (a : Nat) (v : Word) : (s.wr a v).issued = s.issued := congrArg id rfl
theorem State.issued_setFld (a : Nat) (f : Fld) (v : Nat) : (s.setFld a f v).issued = s.issued := congrArg id rfl
theorem State.issued_sat (a : Nat) (f : Fld) (n : Nat) : (s.sat a f n).issued = s.issued := congrArg id rfl
theorem State.issued_wrap (a : Nat) (f : Fld) (n : Nat) : (s.wrap a f n).issued = s.issued := congrArg id rfl
theorem State.issued_modPair (k : Nat) (f : PairSt → PairSt) : (s.modPair k f).issued = s.issued := congrArg id rfl
theorem State.issued_keep (k : Nat) (m r : BitVec 512) (t : Nat) : (s.keep k m r t).issued = s.issued := congrArg id rfl
theorem State.issued_gcnt (j n : Nat) : (s.gcnt j n).issued = s.issued := (s.gcnt_eventsOnly j n).issued
theorem State.issued_raise (i : Nat) : (s.raise i).issued = s.issued := (s.raise_eventsOnly i).issued

theorem State.issued_crossTimer (n : Nat) (pop : Bool) : (s.crossTimer n pop).issued = s.issued := by
  unfold State.crossTimer
  split <;> rfl

theorem State.issued_domRefresh (p : Nat) : (s.domRefresh p).issued = s.issued := by
  simp only [State.domRefresh, ↓State.issued_ite, ↓State.issued_setFld, ite_self]

theorem State.issued_askWake (n : Nat) : (s.askWake n).issued = s.issued := by
  simp only [State.askWake, ↓State.issued_ite, ↓State.issued_domRefresh, ↓State.issued_sat, ↓State.issued_setFld, ite_self]

theorem State.issued_setMsgs (n : Nat) (q : List Msg) : (s.setMsgs n q).issued = s.issued := by
  unfold State.setMsgs
  extract_lets t u
  have hu : u.issued = s.issued := by rw [State.issued_setFld, State.issued_setFld]; exact congrArg id rfl
  split <;> rw [issued_foldl (fun v j => v.issued_wr _ _), State.issued_wr, State.issued_wr, hu]

theorem State.issued_mbxPop (n : Nat) : (s.mbxPop n).issued = s.issued := by
  unfold State.mbxPop
  split
  · exact s.issued_crossTimer ..
  · simp only [↓State.issued_crossTimer, ↓State.issued_ite, ↓State.issued_raise, ↓State.issued_gcnt,
      ↓State.issued_setMsgs, ite_self]

theorem State.issued_mbxPut (n : Nat) (src : Gid) (priv : Nat) (d : BitVec 512) :
    (s.mbxPut n src priv d).1.issued = s.issued := by
  simp only [State.mbxPut, apply_ite Prod.fst, ↓State.issued_ite, ↓State.issued_crossTimer, ↓State.issued_askWake,
    ↓State.issued_raise, ↓State.issued_gcnt, ↓State.issued_sat, ↓State.issued_wrap, ↓State.issued_setMsgs, ite_self]

theorem State.issued_setAside (k n : Nat) : (s.setAside k n).issued = s.issued := by
  induction n generalizing s with
  | zero => rfl
  | succ n ih =>
    unfold State.setAside
    split
    · rfl
    · split
      · rfl
      · rw [ih, State.issued_modPair, State.issued_mbxPop]

/-- Only a COMPLETION that is placed frees a ticket. -/
theorem State.issued_offerMsg (k : Nat) {m : BitVec 512} (h : bitsOf (msgWord m 0) 8 2 ≠ Kind.COMPLETION) :
    (s.offerMsg k m).1.issued = s.issued := by
  have hput := s.issued_mbxPut (2 * k + 1) (s.gid 240) 3 m
  unfold State.offerMsg
  split
  rename_i heq
  rw [heq] at hput
  split
  · exact hput
  · split
    · rw [State.freeDone, if_neg h, hput]
    · exact hput

theorem State.issued_placeMsg (k : Nat) {m : BitVec 512} (h : bitsOf (msgWord m 0) 8 2 ≠ Kind.COMPLETION) :
    (s.placeMsg k m).issued = s.issued := by
  have hoffer := s.issued_offerMsg k h
  unfold State.placeMsg
  split
  · rfl
  · split <;> rename_i heq <;> rw [heq] at hoffer
    · rw [State.issued_setAside, State.issued_modPair, hoffer]
    · exact hoffer

end

/-- The first word of a message (R248). -/
theorem msgWord_zero_msgOfWords (w : Nat) (ws : List Nat) : msgWord (msgOfWords (w :: ws)) 0 = w % 2 ^ 64 := by
  rw [msgWord, msgOfWords, Nat.mul_zero, ← BitVec.setWidth_eq_extractLsb' (by decide), BitVec.setWidth_ofNat_of_le (by decide),
    BitVec.toNat_ofNat, List.take_succ_cons, List.foldr_cons, Nat.add_mul_mod_self_left, Nat.mod_mod]

/-- KIND of a message that the FMP makes (R249). -/
theorem kind_fmpMsg {op : Nat} (h : op < 256) (kind seq ticket : Nat) (a : Ans) :
    bitsOf (msgWord (fmpMsg op kind seq ticket a) 0) 8 2 = kind % 4 := by
  rw [fmpMsg, msgWord_zero_msgOfWords, bitsOf]
  omega

theorem State.issued_reply (s : State) (k : Nat) (m : BitVec 512) (t : Nat) (a : Ans) :
    (s.reply k m t a).issued = s.issued := by
  refine (State.issued_placeMsg _ k ?_).trans (s.issued_keep ..)
  have hop : opcodeOf m < 256 := Nat.mod_lt _ (by decide)
  rw [kind_fmpMsg hop]
  decide

/-- The ticket of a SLOW command stands last, and its number is the one given last. -/
theorem State.issued_ticketed {s u : State} {k : Nat} (op : Nat) (m : Msg) (h : s.ticketRoom k = some u) :
    (s.ticketed k op m).issued = (u.fmp.tickets ++ [{ u.newTicket k op m with at' := s.datum }], u.nextTicket) := by
  rw [State.ticketed, h]
  exact State.issued_reply ..

end Sys2Proof.Machine
end

section
/-!
PROOFS. SLOW commands to the FMP (R252, R255, R256, R274).
-/
namespace Sys2Proof.Machine

/-! ### Taking a SLOW command -/

section
variable {s u : State} {k op : Nat} {m : Msg} {a : Ans} {chk test : Msg → State → Option Ans}

/-- A SLOW command that passes its checks and the test of what it names gets its ticket. -/
theorem next_fmpSlow_ticketed (h : s.takes k op m) (hu : s.fmpPop k = u) (hg : u.grants k m) (hc : chk m u = none)
    (ht : test m u = none) : (.next (s.fmpSlow k op chk test) : Out) = .next (u.ticketed k op m) := by
  subst hu
  rw [State.fmpSlow_grants h hc hg ht]

/-- One that its checks turn away gets their answer. -/
theorem next_fmpSlow_refused (h : s.takes k op m) (hu : s.fmpPop k = u) (hc : chk m u = some a) :
    (.next (s.fmpSlow k op chk test) : Out) = .next (u.reply k m.data 0 a) := by
  subst hu
  rw [State.fmpSlow_refuses h hc]

/-- One that the state of what it names turns away gets that answer. -/
theorem next_fmpSlow_failed (h : s.takes k op m) (hu : s.fmpPop k = u) (hg : u.grants k m) (hc : chk m u = none)
    (ht : test m u = some a) : (.next (s.fmpSlow k op chk test) : Out) = .next (u.reply k m.data 0 a) := by
  subst hu
  rw [(State.fmpSlow_turns h hc).2.2 a hg ht]

end

theorem argIf_pass {b : Bool} (h : b = true) : argIf b = none := if_pos h
theorem argIf_fail {b : Bool} (h : b = false) : argIf b = some (.badArg) := if_neg (Bool.eq_false_iff.1 h)

/-! ### The commands in their cases -/

section
variable {k : Fin 8} {m : Msg} {s u : State}

theorem execEnumerate_unprepared (h : s.takes k.val 0x09 m) (hu : s.fmpPop k.val = u) (hg : u.grants k.val m)
    (hw : (msgWord m.data 1).testBit 0 = false) (hb : u.bankFilled = false) :
    exec (.enumerate k) s = .next (u.reply k.val m.data 0 .notPrepared) :=
  next_fmpSlow_failed h hu hg rfl (if_neg (by rw [hw, hb]; decide))

/-- ROUTE_SWITCH once its arguments and its set have passed: no other traverse may drain, and the bank named must be the
prepared one (R262). -/
theorem execRouteSwitch_cases (h : s.takes k.val 0x13 m) (hu : s.fmpPop k.val = u) (hg : u.grants k.val m)
    (hl : 2048 ≤ msgWord m.data 3) (hs : setArgOk m = true) (hset : u.setArgChk m = none) :
    (u.fmp.drain.isSome = true → exec (.routeSwitch k) s = .next (u.reply k.val m.data 0 .draining)) ∧
    (u.fmp.drain = none → u.fmp.prep.map (·.1) = some (msgWord m.data 1 % 4) →
      exec (.routeSwitch k) s = .next (u.ticketed k.val 0x13 m)) ∧
    (u.fmp.drain = none → u.fmp.prep.map (·.1) ≠ some (msgWord m.data 1 % 4) →
      exec (.routeSwitch k) s = .next (u.reply k.val m.data 0 .notPrepared)) := by
  have hc : argIf (decide (2048 ≤ msgWord m.data 3) && setArgOk m) = none :=
    argIf_pass (Bool.and_eq_true_iff.2 ⟨decide_eq_true hl, hs⟩)
  refine ⟨fun hd => next_fmpSlow_failed h hu hg hc ?_, fun hd hp => next_fmpSlow_ticketed h hu hg hc ?_,
    fun hd hp => next_fmpSlow_failed h hu hg hc ?_⟩ <;> rw [hset]
  · exact if_pos hd
  · exact (if_neg (Option.not_isSome_iff_eq_none.2 hd)).trans (if_neg (not_not.2 hp))
  · exact (if_neg (Option.not_isSome_iff_eq_none.2 hd)).trans (if_pos hp)

/-- ROUTE_FINISH while a traverse drains: it must have drained, unless the command forces the end (R262). -/
theorem execRouteFinish_draining {c : Nat} {d : Nat} (h : s.takes k.val 0x15 m) (hu : s.fmpPop k.val = u)
    (hg : u.grants k.val m) (hd : u.fmp.drain = some (c, d)) :
    (u.drainDone c = true ∨ (msgWord m.data 1).testBit 0 = true →
      exec (.routeFinish k) s = .next (u.ticketed k.val 0x15 m)) ∧
    (u.drainDone c = false → (msgWord m.data 1).testBit 0 = false →
      exec (.routeFinish k) s = .next (u.reply k.val m.data 0 .draining)) := by
  refine ⟨fun hdone => next_fmpSlow_ticketed h hu hg rfl ?_, fun hdone hw => next_fmpSlow_failed h hu hg rfl ?_⟩ <;> rw [hd]
  · exact if_pos (Bool.or_eq_true_iff.2 hdone)
  · exact if_neg (by rw [hdone, hw]; decide)

/-- PLAT_SWAP once its set has passed: something must be staged (R265). -/
theorem execPlatSwap_cases (h : s.takes k.val 0x19 m) (hu : s.fmpPop k.val = u) (hg : u.grants k.val m)
    (hs : setArgOk m = true) (hset : u.setArgChk m = none) :
    (u.staged = true → exec (.platSwap k) s = .next (u.ticketed k.val 0x19 m)) ∧
    (u.staged = false → exec (.platSwap k) s = .next (u.reply k.val m.data 0 .notPrepared)) := by
  refine ⟨fun hst => next_fmpSlow_ticketed h hu hg (argIf_pass hs) ?_,
    fun hst => next_fmpSlow_failed h hu hg (argIf_pass hs) ?_⟩ <;> rw [hset]
  · exact if_pos hst
  · exact if_neg (Bool.eq_false_iff.1 hst)

/-- CHAIN_PROBE of a chain that no NI sends is refused (R103). -/
theorem execChainProbe_noSrc (h : s.takes k.val 0x1D m) (hu : s.fmpPop k.val = u)
    (hx : u.chainSrc (msgWord m.data 1) = none) : exec (.chainProbe k) s = .next (u.reply k.val m.data 0 (.badArg)) :=
  next_fmpSlow_refused h hu (argIf_fail (by rw [hx]))

theorem execChainProbe_ofNi {x : PlanSrc} (h : s.takes k.val 0x1D m) (hu : s.fmpPop k.val = u) (hg : u.grants k.val m)
    (hx : u.chainSrc (msgWord m.data 1) = some x) (hp : x.b < 144) :
    exec (.chainProbe k) s = .next (u.ticketed k.val 0x1D m) :=
  next_fmpSlow_ticketed h hu hg (argIf_pass (by rw [hx]; exact decide_eq_true hp)) rfl

/-- TEST_REQUEST of a test that exists: the queue of tests must have a place (R366). -/
theorem execTestRequest_cases (h : s.takes k.val 0x40 m) (hu : s.fmpPop k.val = u) (hg : u.grants k.val m)
    (h1 : 1 ≤ msgWord m.data 1 % 16) (h4 : msgWord m.data 1 % 16 ≤ 4) (hst : bitsOf (msgWord m.data 1) 4 6 < 36)
    (hn : bitsOf (msgWord m.data 1) 10 3 ≤ 5) :
    (u.queuedTests < 16 → exec (.testRequest k) s = .next (u.ticketed k.val 0x40 m)) ∧
    (16 ≤ u.queuedTests → exec (.testRequest k) s = .next (u.reply k.val m.data 0 .noTicket)) := by
  have hgood : ¬(msgWord m.data 1 % 16 = 0 ∨ 4 < msgWord m.data 1 % 16 ∨
      msgWord m.data 1 % 16 ≠ 4 ∧ 36 ≤ bitsOf (msgWord m.data 1) 4 6 ∨
      msgWord m.data 1 % 16 ≤ 2 ∧ 5 < bitsOf (msgWord m.data 1) 10 3) := by omega
  exact ⟨fun hq => next_fmpSlow_ticketed h hu hg ((if_neg hgood).trans (if_neg (Nat.not_le.2 hq))) rfl,
    fun hq => next_fmpSlow_refused h hu ((if_neg hgood).trans (if_pos hq))⟩

/-- FW_HANDOVER: the image of the other slot must be there and verified (R277). -/
theorem execFwHandover_cases (h : s.takes k.val 0x49 m) (hu : s.fmpPop k.val = u) (hg : u.grants k.val m)
    (hl : msgWord m.data 3 = 0 ∨ 2048 ≤ msgWord m.data 3) :
    (∀ i, tget none u.fmp.images u.otherSlot = some i → i.verified = true →
      exec (.fwHandover k) s = .next (u.ticketed k.val 0x49 m)) ∧
    (tget none u.fmp.images u.otherSlot = none → exec (.fwHandover k) s = .next (u.reply k.val m.data 0 .notPrepared)) := by
  have hc : argIf (msgWord m.data 3 = 0 || decide (2048 ≤ msgWord m.data 3)) = none :=
    argIf_pass (Bool.or_eq_true_iff.2 (hl.imp decide_eq_true decide_eq_true))
  refine ⟨fun i hi hv => next_fmpSlow_ticketed h hu hg hc ?_, fun hi => next_fmpSlow_failed h hu hg hc ?_⟩ <;> rw [hi]
  · exact if_pos hv
  · rfl

/-- JOURNAL_READ of records that the journal holds (R273). -/
theorem execJournalRead_held (h : s.takes k.val 0x51 m) (hu : s.fmpPop k.val = u) (hg : u.grants k.val m)
    (hb : bufOk m.data = true) (hr : u.recsFrom (msgWord m.data 1) ≠ [])
    (hn : msgWord m.data 2 ≤ (u.recsFrom (msgWord m.data 1)).length) :
    exec (.journalRead k) s = .next (u.ticketed k.val 0x51 m) :=
  next_fmpSlow_ticketed h hu hg (argIf_pass (Bool.and_eq_true_iff.2 ⟨Bool.and_eq_true_iff.2
    ⟨hb, decide_eq_true (List.length_pos_of_ne_nil hr)⟩, decide_eq_true hn⟩)) rfl

end

/-! ### The SLOW commands -/

/-- Settles O52: each command that is taken by its checks in the case at hand, the limits by `State.ticketRoom_limits`, the
number by `State.nextTicket_spec`, and what the REPLY leaves of the tickets by `State.issued_ticketed`. -/
theorem slowCommandsAndTicketLimits : Obligations.SlowCommandsAndTicketLimits := by
  refine ⟨fun k m s => ?_, fun s u k h hall hown => State.ticketRoom_limits h hall hown, fun s h => ?_,
    fun s u k op m h => ?_, fun k m s h => ?_⟩
  · intro u w go no hg
    have hu : s.fmpPop k.val = u := rfl
    clear_value u
    exact ⟨
      fun h => ⟨fun hm => next_fmpSlow_ticketed h hu hg (if_pos hm) rfl,
        fun hm => next_fmpSlow_refused h hu (if_neg (Bool.eq_false_iff.1 hm))⟩,
      fun h => ⟨fun hb => next_fmpSlow_ticketed h hu hg (argIf_pass hb) rfl,
        fun hb => next_fmpSlow_refused h hu (argIf_fail hb)⟩,
      fun h => ⟨fun hb => next_fmpSlow_ticketed h hu hg rfl (if_pos (Bool.or_eq_true_iff.2 hb)),
        execEnumerate_unprepared h hu hg⟩,
      fun h => ⟨fun hp => next_fmpSlow_ticketed h hu hg (argIf_pass (decide_eq_true hp)) rfl,
        fun hp => next_fmpSlow_refused h hu (argIf_fail (decide_eq_false (Nat.not_lt.2 hp)))⟩,
      fun h => ⟨fun hp => next_fmpSlow_ticketed h hu hg (argIf_pass (decide_eq_true hp)) rfl,
        fun hp => next_fmpSlow_refused h hu (argIf_fail (decide_eq_false (Nat.not_lt.2 hp)))⟩,
      fun h hb => ⟨fun hd => next_fmpSlow_ticketed h hu hg (argIf_pass hb) (if_neg (Option.not_isSome_iff_eq_none.2 hd)),
        fun hd => next_fmpSlow_failed h hu hg (argIf_pass hb) (if_pos hd)⟩,
      fun h hb => ⟨fun hw => next_fmpSlow_ticketed h hu hg (argIf_pass hb) (if_pos hw),
        fun hw => next_fmpSlow_failed h hu hg (argIf_pass hb) (if_neg (Bool.eq_false_iff.1 hw))⟩,
      fun h => ⟨fun hbad => next_fmpSlow_refused h hu
          (argIf_fail (Bool.and_eq_false_iff.2 (hbad.imp_left fun hl => decide_eq_false (Nat.not_le.2 hl)))),
        execRouteSwitch_cases h hu hg⟩,
      fun h => next_fmpSlow_ticketed h hu hg rfl rfl,
      fun h => ⟨fun hd => next_fmpSlow_ticketed h hu hg rfl (by rw [hd]), fun c d => execRouteFinish_draining h hu hg⟩,
      fun h => ⟨fun hp hb => next_fmpSlow_ticketed h hu hg
          (argIf_pass (Bool.and_eq_true_iff.2 ⟨decide_eq_true hp, hb⟩)) rfl,
        fun hp => next_fmpSlow_refused h hu
          (argIf_fail (Bool.and_eq_false_iff.2 (.inl (decide_eq_false (Nat.not_lt.2 hp)))))⟩,
      fun h hb => next_fmpSlow_ticketed h hu hg (argIf_pass hb) rfl,
      fun h => execPlatSwap_cases h hu hg,
      fun h hst hn hb hlen => next_fmpSlow_ticketed h hu hg (argIf_pass (Bool.and_eq_true_iff.2 ⟨Bool.and_eq_true_iff.2
        ⟨Bool.and_eq_true_iff.2 ⟨decide_eq_true hst, decide_eq_true hn⟩, hb⟩, decide_eq_true hlen⟩)) rfl,
      fun h => ⟨execChainProbe_noSrc h hu, fun x => execChainProbe_ofNi h hu hg⟩,
      fun h hs hb hset => next_fmpSlow_ticketed h hu hg
        (argIf_pass (Bool.and_eq_true_iff.2 ⟨decide_eq_true hs, hb⟩)) hset,
      fun h hp => next_fmpSlow_ticketed h hu hg (argIf_pass (decide_eq_true hp)) rfl,
      fun h hp => next_fmpSlow_ticketed h hu hg (argIf_pass (decide_eq_true hp)) rfl,
      fun h => next_fmpSlow_ticketed h hu hg rfl rfl,
      fun h hb hn hend => next_fmpSlow_ticketed h hu hg (argIf_pass (Bool.and_eq_true_iff.2
        ⟨Bool.and_eq_true_iff.2 ⟨hb, decide_eq_true hn⟩, decide_eq_true hend⟩)) rfl,
      fun h hb hal hoff => next_fmpSlow_ticketed h hu hg (argIf_pass (Bool.and_eq_true_iff.2
        ⟨Bool.and_eq_true_iff.2 ⟨hb, decide_eq_true hal⟩, decide_eq_true hoff⟩)) rfl,
      fun h => execTestRequest_cases h hu hg,
      fun h hst => next_fmpSlow_ticketed h hu hg hst rfl,
      fun h hst => next_fmpSlow_ticketed h hu hg hst rfl,
      fun h => ⟨fun hst => next_fmpSlow_ticketed h hu hg
          (argIf_pass (Bool.or_eq_true_iff.2 (hst.imp decide_eq_true decide_eq_true))) rfl,
        fun hst hne => next_fmpSlow_refused h hu
          (argIf_fail (Bool.or_eq_false_iff.2 ⟨decide_eq_false (Nat.not_lt.2 hst), decide_eq_false hne⟩))⟩,
      fun h hb hlen => next_fmpSlow_ticketed h hu hg (argIf_pass (Bool.and_eq_true_iff.2 ⟨hb, decide_eq_true hlen⟩)) rfl,
      fun h => execFwHandover_cases h hu hg,
      fun h => execJournalRead_held h hu hg⟩
  · obtain ⟨hmem, hfree⟩ := State.nextTicket_spec h
    exact ⟨(ticketNumbers_bounds hmem).1, (ticketNumbers_bounds hmem).2, hfree⟩
  · have e := State.issued_ticketed op m h
    exact ⟨congrArg Prod.fst e, congrArg Prod.snd e⟩
  · obtain ⟨hfull, hconflict, -⟩ := State.fmpSlow_turns (chk := noChk) (test := noTest) h rfl
    exact ⟨fun hr => congrArg Host.Outcome.next (hfull hr),
      fun u t hr hf => congrArg Host.Outcome.next (hconflict u t hr hf)⟩

end Sys2Proof.Machine
end

section
/-!
PROOFS. How the FMP's work goes on: tickets, held replies, hangs and hand-overs (R247, R255, R276 to R278).
-/
namespace Sys2Proof.Machine

/-! ### Tickets (R255) -/

section
variable {n : Fin 256} {w : SlowEnd} {s : State} {t : Tkt}

theorem execSlowCommandCompletion_noTicket (h : s.working.find? (fun x => x.num = n.val) = none) :
    exec (.slowCommandCompletion n w) s = .next s := by
  show execSlowCommandCompletion n w s = _
  rw [execSlowCommandCompletion, h]

/-- While the FMP serves, a ticket at work takes its next stage, or ends with what its test or re-plan has left (stage 9). -/
theorem execSlowCommandCompletion_serving (h : s.working.find? (fun x => x.num = n.val) = some t)
    (hs : s.fwState = Fw.SERVING) :
    exec (.slowCommandCompletion n w) s =
      if t.stage = 9 then .next (s.endTkt t (testAns t.aux)).beat else .next (s.work t w).beat := by
  show execSlowCommandCompletion n w s = _
  rw [execSlowCommandCompletion, h]
  exact if_neg fun hne => hne.1 hs

/-- MODE_SET to a mode that needs no more than R375's check: the mode is entered, and the ticket reports it. -/
theorem State.workModeSet_enters (hok : s.modeOk (msgWord t.cmd 1) = true) (hrun : msgWord t.cmd 1 ≠ Mode.RUN)
    (hdiag : msgWord t.cmd 1 ≠ Mode.DIAGNOSE) :
    s.workModeSet t = (s.toMode (msgWord t.cmd 1)).endTkt t (.ok [(s.toMode (msgWord t.cmd 1)).mode]) := by
  unfold State.workModeSet
  dsimp only
  rw [hok, if_neg (by decide), if_neg hrun, if_neg fun hwait => hdiag hwait.1]

theorem State.work_modeSet (hout : t.out = false) (hop : t.op = 0x04) : s.work t w = s.workModeSet t := by
  unfold State.work
  rw [hout, if_neg Bool.false_ne_true, hop]
  rfl

end

/-! ### Held replies (R247) -/

/-- With nothing held nothing is offered. Else the messages held are offered, and once none is held any more the commands that
found the set-aside queue full are answered. -/
theorem execReplyRetry_eq (k : Fin 8) (s : State) :
    exec (.replyRetry k) s =
      if (s.pair k.val).held.isEmpty then .next s
      else .next (if ((s.offerHeld k.val (s.pair k.val).held).pair k.val).held.isEmpty
        then (s.offerHeld k.val (s.pair k.val).held).answerSpill k.val else s.offerHeld k.val (s.pair k.val).held) := rfl

/-! ### Hand-overs (R277, R278) -/

section
variable {s : State} {prev d : Nat}

/-- The new image serves in time: the record of the change, the COMPLETION of FW_HANDOVER and the NOTICE. -/
theorem execHandoverServing_inTime (hh : s.fmp.hand = some (prev, d)) (hs : s.fwState = Fw.HANDOVER)
    (hd : s.datum < d + 100000) :
    let slot := s.fld A.GLB_FMP_IMAGE F.GLB_FMP_IMAGE_SLOT
    let v := s.serveImage slot
    let u := v.note 0xC (s.fld A.GLB_FMP_STATUS F.GLB_FMP_STATUS_FW_VERSION) (v.imgVersion slot)
    exec .handoverServing s = .next (match u.handTkt with
      | some t => u.endTkt t (.ok [u.imgVersion slot])
      | none => u).noticeAll := by
  intro slot v u
  show execHandoverServing s = _
  rw [execHandoverServing, hh]
  exact if_neg (not_or.2 ⟨not_not.2 hs, Nat.not_le.2 hd⟩)

theorem execHandoverServing_late (hh : s.fmp.hand = some (prev, d)) (hd : d + 100000 ≤ s.datum) :
    exec .handoverServing s = .next s := by
  show execHandoverServing s = _
  rw [execHandoverServing, hh]
  exact if_pos (.inr hd)

theorem execHandoverRevert_inTime (hh : s.fmp.hand = some (prev, d)) (hd : s.datum < d + 100000) :
    exec .handoverRevert s = .next s := by
  show execHandoverRevert s = _
  rw [execHandoverRevert, hh]
  exact if_pos (.inr hd)

/-- It does not: its image is marked unverified, the one before it serves again, and the ticket ends REVERTED. -/
theorem execHandoverRevert_late (hh : s.fmp.hand = some (prev, d)) (hs : s.fwState = Fw.HANDOVER)
    (hd : d + 100000 ≤ s.datum) :
    let failed := s.fld A.GLB_FMP_IMAGE F.GLB_FMP_IMAGE_SLOT
    let img := (tget none s.fmp.images failed).map (fun i => { i with verified := false })
    let v := (({ s with fmp := { s.fmp with images := tset none s.fmp.images failed img } }.setFld A.GLB_FMP_IMAGE
      F.GLB_FMP_IMAGE_SLOT prev).serveImage prev).setFld A.GLB_FMP_STATUS F.GLB_FMP_STATUS_REVERTED 1
    let u := v.note 0xC (v.imgVersion prev) (v.imgVersion failed + 2 ^ 32)
    exec .handoverRevert s = .next (match u.handTkt with
      | some t => u.endTkt t .reverted
      | none => u).noticeAll := by
  intro failed img v u
  show execHandoverRevert s = _
  rw [execHandoverRevert, hh]
  exact if_neg (not_or.2 ⟨not_not.2 hs, Nat.not_lt.2 hd⟩)

end

/-! ### Progress -/

/-- Settles O53: each command by its own equation. -/
theorem fmpProgress : Obligations.FmpProgress := by
  refine ⟨fun n w s t h hs => ⟨fun hst => ?_, fun hst => ?_⟩, fun n w s => execSlowCommandCompletion_noTicket,
    fun s t w hout hop hok hrun hdiag => ?_, fun k s => ⟨fun hq => ?_, fun hq => ⟨fun hu => ?_, fun hu => ?_⟩⟩,
    fun s => ⟨fun h => if_neg ?_, fun hs hd => if_pos ⟨hs, hd⟩⟩,
    fun s prev d hh hs => ⟨fun hd => ⟨execHandoverRevert_inTime hh hd, ?_⟩,
      fun hd => ⟨execHandoverServing_late hh hd, ?_⟩⟩⟩
  · rw [execSlowCommandCompletion_serving h hs, if_neg hst]
  · rw [execSlowCommandCompletion_serving h hs, if_pos hst]
  · rw [State.work_modeSet hout hop, State.workModeSet_enters hok hrun hdiag]
  · rw [execReplyRetry_eq, hq]
    rfl
  · rw [execReplyRetry_eq, if_neg (fun he => hq (List.isEmpty_iff.1 he)), if_pos (List.isEmpty_iff.2 hu)]
  · rw [execReplyRetry_eq, if_neg (fun he => hq (List.isEmpty_iff.1 he)), if_neg (fun he => hu (List.isEmpty_iff.1 he))]
  · rintro ⟨hs, hd⟩
    exact h.elim (· hs) (Nat.not_lt.2 hd)
  · rw [execHandoverServing_inTime hh hs hd]
    intro slot v u
    exact ⟨fun ht => by rw [ht], fun t ht => by rw [ht]⟩
  · rw [execHandoverRevert_late hh hs hd]
    intro failed img v u
    exact ⟨fun ht => by rw [ht], fun t ht => by rw [ht]⟩

end Sys2Proof.Machine
end

section
/-!
PROOFS. The state after reset, and that every command completes (R376, R382).
-/
namespace Sys2Proof.Machine

theorem State.KeepsOrRestarts.pending {s t : State} (h : s.KeepsOrRestarts t) : t.pending = s.pending :=
  h.elim (·.2.1) (·.1.2)

/-- Settles O6: by `exec_keepsOrRestarts`. -/
theorem everyCommandCompletes : Obligations.EveryCommandCompletes := fun c s =>
  (exec_keepsOrRestarts c s).imp fun _ ⟨ht, h⟩ => ⟨ht, h.pending⟩

/-! ### Reset values -/

theorem State.rd_reset (a : Nat) : State.reset.rd a = resetOf a := rfl

theorem blkOf_niBase {p off : Nat} (hp : p < 144) (ho : off < 0x10000) : blkOf (A.niBase p + off) = some (.ni p, off) := by
  unfold blkOf
  simp only [A.niBase]
  rw [if_neg (by omega), if_neg (by omega), if_neg (by omega), if_pos (by omega),
    show (0x400000 + p * 0x10000 + off - 0x400000) / 0x10000 = p by omega,
    show (0x400000 + p * 0x10000 + off - 0x400000) % 0x10000 = off by omega]

/-- A register of an NI holds the reset value of its row. -/
theorem resetOf_ni {a p off : Nat} (h : blkOf a = some (.ni p, off)) :
    resetOf a = ((rowOf (.ni p) off).map fun r => BitVec.ofNat 64 r.reset).getD 0 := by
  unfold resetOf
  rw [h]
  dsimp only
  cases rowOf (.ni p) off <;> rfl

/-- R286: NI_CTL holds AUTO_ISO_HANG at reset. -/
theorem niRows_NI_CTL_reset (p : Nat) : (rowOf (.ni p) 0x3a00).map (·.reset) = some 0x1000 := rfl

theorem resetOf_NI_CTL {p : Nat} (hp : p < 144) : resetOf (A.NI_CTL p) = 0x1000 := by
  obtain ⟨row, hrow, hreset⟩ := Option.map_eq_some_iff.1 (niRows_NI_CTL_reset p)
  rw [A.NI_CTL, resetOf_ni (blkOf_niBase hp (by decide)), hrow, Option.map_some, hreset, Option.getD_some]
  rfl

theorem resetOf_STK_SET_STATUS (n : Fin 8) : F.STK_SET_STATUS_STATE.get (resetOf (A.STK_SET_STATUS n.val)) = SetSt.IDLE := by
  revert n
  decide +kernel

/-- Settles O3: an empty state by its definition, a register by its reset value. -/
theorem resetState : Obligations.ResetState := by
  refine ⟨rfl, by decide, State.rd_reset, fun _ => rfl, rfl, fun _ => rfl, rfl, fun n hn => ?_, fun l hl => ?_,
    fun p hp => ?_, fun _ _ => rfl, fun _ _ => rfl⟩
  · exact resetOf_STK_SET_STATUS ⟨n, hn⟩
  · rw [State.lockHeld, State.bit, State.fld, State.rd_reset, resetOf_LCK_PEEK_HELD ⟨l, hl⟩]
    rfl
  · rw [State.niState, State.fld, State.rd_reset, resetOf_NI_CTL hp]
    decide

end Sys2Proof.Machine
end

section
/-!
PROOFS. Writes of NI_CTL (R286, R288, R289).
-/
namespace Sys2Proof.Machine

section
variable {s t : State} {p : Nat} {r : Req}

/-- A register that the FMP alone writes (R9). -/
theorem State.writeGate_fmp {a : Nat} (h : (rowAt a).map (·.wr) = some .fmp) :
    s.writeGate a r = if isFmp r then .go else .deny := by
  have hacl : s.aclOk .fmp a r = isFmp r := rfl
  obtain ⟨row, hrow, hwr⟩ := Option.map_eq_some_iff.1 h
  unfold State.writeGate
  rw [hrow]
  dsimp only
  rw [hwr, if_neg (by decide), hacl]

/-- R286: NI_CTL is such a register. -/
theorem niRows_NI_CTL : (niRows.find? (·.covers 0x3a00)).map (·.wr) = some .fmp := rfl

theorem acl_NI_CTL (hp : p < 144) : (rowAt (A.NI_CTL p)).map (·.wr) = some .fmp := by
  rw [A.NI_CTL, rowAt_niBase hp (by decide), niRows_NI_CTL]

theorem isFmp_of_admits_NI_CTL (hp : p < 144) (ha : s.admits (A.NI_CTL p) r) : isFmp r = true := by
  by_contra hn
  have hg := State.writeGate_fmp (s := s) (r := r) (acl_NI_CTL hp)
  rw [ha.2.1, if_neg hn] at hg
  exact absurd hg (by decide)

/-- A command that the port takes also writes AUTO_ISO_HANG. -/
theorem State.serve_portCmd (hp : p < 144) (ha : s.admits (A.NI_CTL p) r)
    (h : s.portCmd p (reqFld r F.NI_CTL_CMD) = (t, Code.OK)) :
    s.serve (A.NI_CTL p) r (·.writeNiCtl p r) =
      (t.setFld (A.NI_CTL p) F.NI_CTL_AUTO_ISO_HANG (reqFld r F.NI_CTL_AUTO_ISO_HANG)).ans (A.NI_CTL p) r Code.OK := by
  refine State.serve_eq ha ?_
  unfold State.writeNiCtl
  dsimp only
  rw [isFmp_of_admits_NI_CTL hp ha, Bool.not_true, Bool.false_and, if_neg Bool.false_ne_true, h]
  rfl

/-- A command that the port does not take changes nothing. -/
theorem State.serve_portCmd_refused {c : BitVec 4} (hp : p < 144) (ha : s.admits (A.NI_CTL p) r)
    (h : s.portCmd p (reqFld r F.NI_CTL_CMD) = (s, c)) (hc : c ≠ Code.OK) :
    s.serve (A.NI_CTL p) r (·.writeNiCtl p r) = s.ans (A.NI_CTL p) r c := by
  refine State.serve_eq ha ?_
  unfold State.writeNiCtl
  dsimp only
  rw [isFmp_of_admits_NI_CTL hp ha, Bool.not_true, Bool.false_and, if_neg Bool.false_ne_true, h]
  exact if_pos hc

end

/-! ### The moves of the table (R286) -/

section
variable (s : State) (p : Nat)

theorem State.domRefresh_nis : (s.domRefresh p).nis = s.nis := by
  unfold State.domRefresh
  extract_lets a w q
  split
  · rfl
  · rw [State.setFld_nis, State.setFld_nis]

/-- ENABLE of a disabled port. -/
def State.portEnabled : State := (s.toPort p PortStt.ENABLED).setFld (A.NI_CTL p) F.NI_CTL_DISABLE_DONE 0

theorem State.portEnabled_spec : (s.portEnabled p).niState p = PortStt.ENABLED ∧
    (s.portEnabled p).fld (A.NI_CTL p) F.NI_CTL_DISABLE_DONE = 0 ∧
    (∀ b, b ≠ A.NI_CTL p → b ≠ A.NI_DOM p → (s.portEnabled p).rd b = s.rd b) ∧ (s.portEnabled p).nis = s.nis := by
  refine ⟨?_, State.fld_setFld_same _ _ _ _ (by decide), fun b hb hd => ?_, ?_⟩
  · exact (State.fld_setFld_apart _ _ _ _ _ (by decide) (by decide)).trans (s.niState_toPort p (by decide))
  · rw [State.portEnabled, State.rd_setFld_ne _ _ _ hb, State.toPort, State.rd_domRefresh_ne _ _ hd,
      State.rd_setFld_ne _ _ _ hb]
  · rw [State.portEnabled, State.setFld_nis, State.toPort, State.domRefresh_nis, State.setFld_nis]

/-- RESUME. -/
def State.portResumed : State := (s.setFld (A.NI_DOM p) F.NI_DOM_DOM_ON 1).domRefresh p

theorem State.portResumed_spec (hp : p < 144) : (s.portResumed p).fld (A.NI_DOM p) F.NI_DOM_DOM_ON = 1 ∧
    (s.portResumed p).fld (A.NI_DOM p) F.NI_DOM_REQ = 1 ∧ ∀ b, b ≠ A.NI_DOM p → (s.portResumed p).rd b = s.rd b := by
  have hon : (s.setFld (A.NI_DOM p) F.NI_DOM_DOM_ON 1).fld (A.NI_DOM p) F.NI_DOM_DOM_ON = 1 :=
    State.fld_setFld_same _ _ _ _ (by decide)
  refine ⟨?_, ?_, fun b hb => ?_⟩
  · rw [State.portResumed, State.domRefresh, if_neg (by omega)]
    dsimp only
    rw [State.fld_setFld_apart _ _ _ _ _ (by decide) (by decide),
      State.fld_setFld_apart _ _ _ _ _ (by decide) (by decide), hon]
  · rw [State.portResumed, State.domRefresh, if_neg (by omega)]
    dsimp only
    rw [State.fld_setFld_same _ _ _ _ (by decide), State.bit, hon]
    rfl
  · rw [State.portResumed, State.rd_domRefresh_ne _ _ hb, State.rd_setFld_ne _ _ _ hb]

theorem State.portCmd_enable : s.portCmd p 1 = if s.niState p = PortStt.ENABLED then (s, Code.OK)
    else if s.niState p = PortStt.DISABLED ∧ s.fld (A.NI_PORT_STATUS p) F.NI_PORT_STATUS_DESC_STATE = 2 then
      (s.portEnabled p, Code.OK) else (s, Code.TGTERR) := by
  unfold State.portCmd
  dsimp only
  rw [if_neg (by decide), if_pos rfl]
  rfl

theorem State.portCmd_disable : s.portCmd p 2 =
    if s.niState p = PortStt.DISABLED ∨ s.niState p = PortStt.DISABLING then (s, Code.OK)
    else if s.niState p = PortStt.ENABLED then (s.goingDown p PortStt.DISABLING, Code.OK)
    else (s.disabled p, Code.OK) := by
  unfold State.portCmd
  dsimp only
  rw [if_neg (by decide), if_neg (by decide), if_pos rfl]

theorem State.portCmd_quiesce : s.portCmd p 3 = if s.niState p = PortStt.QUIESCE then (s, Code.OK)
    else if s.niState p = PortStt.ENABLED then (s.goingDown p PortStt.QUIESCE, Code.OK) else (s, Code.TGTERR) := by
  unfold State.portCmd
  dsimp only
  rw [if_neg (by decide), if_neg (by decide), if_neg (by decide), if_pos rfl]

theorem State.portCmd_isolate : s.portCmd p 5 = if s.niState p = PortStt.ISOLATED then (s, Code.OK)
    else if s.niState p = PortStt.DISABLED then (s, Code.TGTERR) else (s.isolate p 1, Code.OK) := by
  unfold State.portCmd
  dsimp only
  rw [if_neg (by decide), if_neg (by decide), if_neg (by decide), if_neg (by decide), if_neg (by decide), if_pos rfl]

theorem State.portCmd_reserved {cmd : Nat} (h : 6 ≤ cmd) : s.portCmd p cmd = (s, Code.DENY) := by
  unfold State.portCmd
  dsimp only
  rw [if_neg (by omega), if_neg (by omega), if_neg (by omega), if_neg (by omega), if_neg (by omega), if_neg (by omega)]

end

/-- Settles O48: each command by its row of the table, `State.portCmd`. -/
theorem portCommands : Obligations.PortCommands := by
  refine ⟨fun p r s hm hf => ?_, fun p r s ha => ?_⟩
  · have h : s.serve (A.NI_CTL p.val) r (·.writeNiCtl p.val r) = s.ans (A.NI_CTL p.val) r Code.DENY :=
      (State.serve_gate hm).2.1 (by rw [State.writeGate_fmp (acl_NI_CTL p.isLt), hf]; rfl)
    have hn := congrArg (Host.Outcome.next (φ := Fault) (ρ := Refusal)) h
    exact ⟨hn, hn, hn, hn, hn⟩
  intro a st cmd good fin no
  have takes {t : State} {n : Nat} (hc : cmd = n) (h : s.portCmd p.val n = (t, Code.OK)) :
      (.next (s.serve a r (·.writeNiCtl p.val r)) : Out) = .next (fin t) :=
    congrArg Host.Outcome.next (State.serve_portCmd p.isLt ha (by subst hc; exact h))
  have refuses {n : Nat} (hc : cmd = n) (h : s.portCmd p.val n = (s, Code.TGTERR)) :
      (.next (s.serve a r (·.writeNiCtl p.val r)) : Out) = .next no :=
    congrArg Host.Outcome.next (State.serve_portCmd_refused p.isLt ha (by subst hc; exact h) (by decide))
  refine ⟨fun hc => ?_, fun hc => ⟨fun hst => ?_, fun hst hgood => ?_, fun hst hno => ?_⟩,
    fun hc => ⟨fun hst => ?_, fun hst => ?_, fun hst => ?_⟩, fun hc => ⟨fun hst => ?_, fun hst => ?_, fun hst hno => ?_⟩,
    fun hc => ⟨s.portResumed p.val, takes hc rfl, s.portResumed_spec p.val p.isLt⟩,
    fun hc => ⟨fun hst => ?_, fun hst => ?_, fun hst => ?_⟩, fun hc => ?_⟩
  · exact ⟨takes hc rfl, takes hc rfl, takes hc rfl, takes hc rfl, takes hc rfl⟩
  -- ENABLE
  · exact takes hc ((s.portCmd_enable p.val).trans (if_pos hst))
  · refine ⟨s.portEnabled p.val, takes hc ?_, s.portEnabled_spec p.val⟩
    rw [State.portCmd_enable, if_neg (fun h => absurd (hst.symm.trans h) (by decide)), if_pos ⟨hst, hgood⟩]
  · refine refuses hc ?_
    rw [State.portCmd_enable, if_neg hst, if_neg (fun h => hno.elim (· h.1) (· h.2))]
  -- DISABLE
  · refine takes hc ?_
    rw [State.portCmd_disable, show s.niState p.val = _ from hst, if_neg (by decide), if_pos rfl]
  · exact takes hc ((s.portCmd_disable p.val).trans (if_pos hst))
  · refine takes hc ?_
    obtain hst | hst := hst <;>
    · rw [State.portCmd_disable, show s.niState p.val = _ from hst, if_neg (by decide), if_neg (by decide)]
  -- QUIESCE
  · refine takes hc ?_
    rw [State.portCmd_quiesce, show s.niState p.val = _ from hst, if_neg (by decide), if_pos rfl]
  · exact takes hc ((s.portCmd_quiesce p.val).trans (if_pos hst))
  · refine refuses hc ?_
    rw [State.portCmd_quiesce, if_neg hno, if_neg hst]
  -- ISOLATE
  · refine takes hc ?_
    obtain hst | hst | hst := hst <;>
    · rw [State.portCmd_isolate, show s.niState p.val = _ from hst, if_neg (by decide), if_neg (by decide)]
  · exact takes hc ((s.portCmd_isolate p.val).trans (if_pos hst))
  · refine refuses hc ?_
    rw [State.portCmd_isolate, show s.niState p.val = _ from hst, if_neg (by decide), if_pos rfl]
  · exact congrArg Host.Outcome.next (State.serve_portCmd_refused p.isLt ha (s.portCmd_reserved p.val hc) (by decide))

end Sys2Proof.Machine
end

section
/-!
PROOFS. What comes before a register's own rule, and what an answer alone changes (R5, R371, R437, R441).
-/
namespace Sys2Proof.Machine

/-! ### Which unit serves a write of one register (R200, R228) -/

theorem inMbx_iff (a : Nat) : inMbx a = true ↔ 0x10000 ≤ a ∧ a < 0x28000 := by
  simp [inMbx]

theorem not_inMbx {a : Nat} (h : a < 0x10000 ∨ 0x28000 ≤ a) : inMbx a = false := by
  rw [← Bool.not_eq_true, inMbx_iff]
  omega

/-- Stations, NIs and federation ports lie above the mailbox unit. -/
theorem le_stnBase (i : Nat) : 0x100000 ≤ A.stnBase i := Nat.le_add_right ..
theorem le_niBase (p : Nat) : 0x100000 ≤ A.niBase p := Nat.le_add_right_of_le (by decide)
theorem le_fedBase (f : Nat) : 0x100000 ≤ A.fedBase f := Nat.le_add_right_of_le (by decide)

theorem not_inMbx_of_le {a b : Nat} (h : 0x100000 ≤ b) (hab : b ≤ a) : inMbx a = false := not_inMbx (.inr (by omega))

theorem not_inMbx_stn (i n : Nat) : inMbx (A.stnBase i + n) = false := not_inMbx_of_le (le_stnBase i) (Nat.le_add_right ..)
theorem not_inMbx_ni (p n : Nat) : inMbx (A.niBase p + n) = false := not_inMbx_of_le (le_niBase p) (Nat.le_add_right ..)
theorem not_inMbx_fed (f n : Nat) : inMbx (A.fedBase f + n) = false := not_inMbx_of_le (le_fedBase f) (Nat.le_add_right ..)

theorem not_inMbx_expOf (b : Fin 193) (n : Fin 8) : inMbx (expOf b.val n.val) = false := by
  unfold expOf
  split_ifs
  · exact not_inMbx_of_le (le_niBase _) (Nat.le_add_right_of_le (Nat.le_add_right ..))
  · exact not_inMbx_of_le (le_fedBase _) (Nat.le_add_right_of_le (Nat.le_add_right ..))
  · exact not_inMbx_of_le (le_stnBase _) (Nat.le_add_right_of_le (Nat.le_add_right ..))
  · exact not_inMbx (.inl (by show 0x2840 + n.val * 0x8 < 0x10000; omega))

theorem not_inMbx_shaperAddr (p : Fin 144) (g : ShaperReg) : inMbx (shaperAddr p.val g) = false := by
  cases g with
  | ctl => exact not_inMbx_ni _ _
  | rate c | size c => exact not_inMbx_of_le (le_niBase _) (Nat.le_add_right_of_le (Nat.le_add_right ..))

theorem not_inMbx_probeRegs (k : Fin 180) (act : Bool) :
    inMbx (if act then (probeRegs k.val).2.1 else (probeRegs k.val).1) = false := by
  unfold probeRegs
  split_ifs
  · exact not_inMbx_ni ..
  · exact not_inMbx_stn ..
  · exact not_inMbx_ni ..
  · exact not_inMbx_stn ..

theorem not_inMbx_police (f : Fin 12) (size : Bool) :
    inMbx (if size then A.FED_POLICE_SIZE f.val else A.FED_POLICE_RATE f.val) = false := by
  split <;> exact not_inMbx_fed ..

theorem not_inMbx_STK_SET_CTL (n : Fin 8) : inMbx (A.STK_SET_CTL n.val) = false :=
  not_inMbx (.inl (by show 0x2100 + n.val * 0x40 < 0x10000; omega))

/-- The command serves a write of the register at `a`, by that register's own rule. -/
def ServesWrite (c : Instr) (a : Nat) (r : Req) (s : State) : Prop :=
  (s.mode = Mode.OFF → exec c s = .next s) ∧
  (s.mode ≠ Mode.OFF → s.inTurn a → ∃ act, exec c s = .next ((s.atUnit a).serve a r act))

section
variable {c : Instr} {a : Nat} {r : Req} {s : State} {act : State → State × BitVec 4}

theorem ServesWrite.of_serve (ha : inMbx a = false) (h : exec c s = .next (s.serve a r act)) : ServesWrite c a r s :=
  ⟨fun hm => by rw [h, State.serve_off hm], fun _ _ => ⟨act, by rw [h, State.atUnit_of_not_inMbx ha]⟩⟩

theorem ServesWrite.of_mbx (ha : inMbx a = true) (h : exec c s = .next (s.mbxAccess (·.serve a r act))) :
    ServesWrite c a r s := by
  refine ⟨fun hm => ?_, fun hm ht => ⟨act, ?_⟩⟩
  · rw [h, State.mbxAccess, if_pos hm]
  · rw [h, State.mbxAccess_of_turn _ hm (ht.2 ha), State.atUnit, if_pos ha]

theorem ServesWrite.of_lock (ha : inLocks a = true) (h : exec c s = .next (s.lockAccess ⟨a, false, r⟩)) :
    ServesWrite c a r s := by
  refine ⟨fun hm => ?_, fun hm ht => ⟨(·.writeLock ((a - A.LCK_ACQ 0) / 8) r), ?_⟩⟩
  · rw [h, State.lockAccess, if_pos hm]
  · rw [h, State.lockAccess_of_turn _ hm (ht.1 ha), State.atUnit_of_not_inMbx (inMbx_of_inLocks ha)]
    rfl
end

/-- REGISTER_WRITE of 8 bytes at an offset below the bulk windows goes to the unit of its offset. -/
theorem servesWrite_registerWrite {off : Fin 33554432} {sz : Fin 9} {r : Req} (s : State)
    (h : sz.val = 8 ∧ off.val % 8 = 0 ∧ off.val < 0x1000000) : ServesWrite (.registerWrite off sz r) off.val r s := by
  obtain ⟨hsz, hal, hlo⟩ := h
  have hok : accessOk off.val sz.val = true := by simp [accessOk, hsz, hal]
  have he : exec (.registerWrite off sz r) s = .next (if s.mode = Mode.OFF then s
      else if inLocks off.val then s.lockAccess ⟨off.val, false, r⟩
      else if inMbx off.val then s.mbxAccess (·.serve off.val r (·.regAct off.val r))
      else s.serve off.val r (·.regAct off.val r)) := by
    show execRegisterWrite off sz r s = _
    unfold execRegisterWrite
    dsimp only
    rw [hok, Bool.not_true, if_neg Bool.false_ne_true, if_neg (by omega : ¬ 0x1000000 ≤ off.val)]
  have hoff (u : State) (hu : s.mode = Mode.OFF → u = s) : (if s.mode = Mode.OFF then s else u) = u :=
    ite_eq_right_iff.2 fun hm => (hu hm).symm
  by_cases hl : inLocks off.val = true
  · refine .of_lock hl (he.trans ?_)
    rw [if_pos hl, hoff (s.lockAccess _) fun hm => if_pos hm]
  · rw [if_neg hl] at he
    by_cases hb : inMbx off.val = true
    · refine .of_mbx (act := (·.regAct off.val r)) hb (he.trans ?_)
      rw [if_pos hb, hoff (s.mbxAccess _) fun hm => if_pos hm]
    · refine .of_serve (act := (·.regAct off.val r)) (Bool.eq_false_iff.2 hb) (he.trans ?_)
      rw [if_neg hb, hoff _ State.serve_off]

/-- Every command that is a write of one register serves it. -/
theorem servesWrite_of_regWrite {c : Instr} {a : Nat} {r : Req} (s : State) (h : regWrite c = some (a, r)) :
    ServesWrite c a r s := by
  cases c with
  | registerWrite off sz x =>
    unfold regWrite at h
    dsimp only at h
    split at h
    · next hok =>
      cases h
      exact servesWrite_registerWrite s hok
    · cases h
  | lockRelease l x =>
    cases h
    exact .of_lock ((inLocks_iff _).2 (by show 0x4000 ≤ 0x4000 + l.val * 0x8 ∧ 0x4000 + l.val * 0x8 < 0x4800; omega)) rfl
  | mailboxPop n x =>
    cases h
    exact .of_mbx ((inMbx_iff _).2 (by show 0x10000 ≤ 0x20008 + n.val * 0x100 ∧ 0x20008 + n.val * 0x100 < 0x28000; omega)) rfl
  | mbxCfgWrite n x =>
    cases h
    exact .of_mbx ((inMbx_iff _).2 (by show 0x10000 ≤ 0x20000 + n.val * 0x100 ∧ 0x20000 + n.val * 0x100 < 0x28000; omega)) rfl
  | softResetWrite x | alignGo x | surveyGo x | surveyCancel x | traceClear x => cases h; exact .of_serve (by decide) rfl
  | reconfWrite i x | retireOld i x | platPatchGo i x => cases h; exact .of_serve (not_inMbx_stn ..) rfl
  | setOpen n x | setClose n x | setAbort n x => cases h; exact .of_serve (not_inMbx_STK_SET_CTL n) rfl
  | expCollect b n x | expExpect b n x | expAbort b n x | expRelease b n x =>
    cases h; exact .of_serve (not_inMbx_expOf b n) rfl
  | shaperResetWrite p g x => cases h; exact .of_serve (not_inMbx_shaperAddr p g) rfl
  | policeResetWrite f z x => cases h; exact .of_serve (not_inMbx_police f z) rfl
  | probeConfigWrite k act x => cases h; exact .of_serve (not_inMbx_probeRegs k act) rfl
  | fedRestart f x => cases h; exact .of_serve (not_inMbx_fed ..) rfl
  | invGo p x | chainProbeGo p x | sluiceGo p x | sluiceCancel p x | histClear p x | mergeFlush p x | descGo p x
  | niEnable p x | niDisable p x | niQuiesce p x | niResume p x | niIsolate p x | tagCtlWrite p x =>
    cases h; exact .of_serve (not_inMbx_ni ..) rfl
  | _ => cases h

/-! ### What an answer changes (R437, R441) -/

/-- The state without what an answer can change beside registers: the blocks' queues of requests and answers. -/
def State.unanswered (s : State) : State :=
  { s with regs := [], stood := [], stns := [], agents := [], glb := {}, direct := (0, 0) }

/-- From `s` to `t` an access has been answered and nothing else has changed: no register but the two counts of accesses
served and the counts of packets under way. -/
structure State.AnswersOnly (s t : State) : Prop where
  rest : t.unanswered = s.unanswered
  rd : ∀ b, b ≠ A.GLB_CNT 5 → b ≠ A.GLB_CNT 6 → (∀ f, b ≠ travStatOf f) → t.rd b = s.rd b

namespace State.AnswersOnly
variable {s t u : State}

theorem refl (s : State) : s.AnswersOnly s := ⟨rfl, fun _ _ _ _ => rfl⟩

theorem trans (h : s.AnswersOnly t) (k : t.AnswersOnly u) : s.AnswersOnly u :=
  ⟨k.rest.trans h.rest, fun b h5 h6 hf => (k.rd b h5 h6 hf).trans (h.rd b h5 h6 hf)⟩

theorem ite {c : Prop} [Decidable c] (h : s.AnswersOnly t) (k : s.AnswersOnly u) : s.AnswersOnly (if c then t else u) := by
  split <;> assumption

/-- A state with the same registers that differs only in what an answer can change. -/
theorem of_regs (hr : t.regs = s.regs) (h : t.unanswered = s.unanswered) : s.AnswersOnly t :=
  ⟨h, fun b _ _ _ => by rw [State.rd, hr, State.rd]⟩

theorem foldl {α : Type} {f : State → α → State} (h : ∀ (s : State) x, s.AnswersOnly (f s x)) (l : List α) (s : State) :
    s.AnswersOnly (l.foldl f s) := by
  induction l generalizing s with
  | nil => exact refl s
  | cons x l ih => exact (h s x).trans (ih _)

end State.AnswersOnly

theorem State.modAgent_answersOnly (s : State) (b : Nat) (f : Agent → Agent) : s.AnswersOnly (s.modAgent b f) :=
  .of_regs rfl rfl

theorem State.setAgent_answersOnly (s : State) (b : Nat) (x : Agent) : s.AnswersOnly (s.setAgent b x) := .of_regs rfl rfl

theorem State.direct_answersOnly (s : State) (x : BitVec 4 × Word) : s.AnswersOnly { s with direct := x } := .of_regs rfl rfl

theorem State.glbRx_answersOnly (s : State) (l : List Pkt) : s.AnswersOnly { s with glb := { s.glb with rx := l } } :=
  .of_regs rfl rfl

theorem State.modStn_answersOnly (s : State) (i : Nat) (f : StnSt → StnSt) : s.AnswersOnly (s.modStn i f) := .of_regs rfl rfl

theorem State.wr_unanswered (s : State) (a : Nat) (v : Word) : (s.wr a v).unanswered = s.unanswered := rfl

theorem State.outAdd_answersOnly (s : State) (b t : Nat) : s.AnswersOnly (s.outAdd b t) :=
  ⟨State.wr_unanswered .., fun _ _ _ hf => State.rd_setFld_ne _ _ _ (hf b)⟩

theorem State.cnt_unanswered (s : State) (a n : Nat) : (s.cnt a n).unanswered = s.unanswered := by
  unfold State.cnt
  extract_lets x last edge add c sat u
  have hu : u.unanswered = s.unanswered := by
    unfold u
    split
    · rfl
    · exact State.wr_unanswered ..
  split
  · rfl
  · exact hu

theorem State.gcnt_answersOnly (s : State) {j : Nat} (h : j = 5 ∨ j = 6) : s.AnswersOnly (s.gcnt j) := by
  refine ⟨State.cnt_unanswered .., fun b h5 h6 _ => State.rd_cnt_ne s _ ?_⟩
  obtain rfl | rfl := h
  · exact h5
  · exact h6

theorem State.agentQueue_answersOnly (s : State) (b : Nat) (p : Pkt) (use : AgentUse) (key : Nat) (fill : Bool) :
    s.AnswersOnly (s.agentQueue b p use key fill) := s.modAgent_answersOnly ..

/-- A management agent is no reporter: a packet that it builds counts nowhere (R81). -/
theorem State.agentFill_answersOnly (s : State) {b : Nat} (t d : Nat) (hb : 156 ≤ b) : s.AnswersOnly (s.agentFill b t d) := by
  unfold State.agentFill
  extract_lets x n key h u
  have hu : u = s := if_neg (by omega)
  rw [hu]
  exact s.setAgent_answersOnly ..

theorem State.agentPump_answersOnly {b : Nat} (hb : 156 ≤ b) (n : Nat) : ∀ s : State, s.AnswersOnly (s.agentPump b n) := by
  induction n with
  | zero => exact fun s => .refl s
  | succ n ih =>
    intro s
    have hnb : ¬ b < 156 := by omega
    unfold State.agentPump
    extract_lets x
    split
    · next o rest _ _ =>
      extract_lets u t h h' h'' v
      have hu : s.AnswersOnly u := s.setAgent_answersOnly ..
      split
      · exact hu.trans (ih u)
      · extract_lets w
        have hv : v = u := by
          unfold v
          split
          · rfl
          · exact if_neg hnb
        have hw : w = u := by
          unfold w
          split
          · exact (if_neg fun hlt => hnb hlt.1).trans hv
          · exact hv
        rw [hw]
        split
        · exact (hu.trans (State.agentQueue_answersOnly ..)).trans (ih _)
        · exact (hu.trans (State.modAgent_answersOnly ..)).trans (State.agentFill_answersOnly _ _ _ hb)
    · exact .refl s

theorem State.agentSend_answersOnly (s : State) (i : Nat) (h : Hdr) (us : List (BitVec 256)) :
    s.AnswersOnly (s.agentSend i h us) := by
  unfold State.agentSend State.agentBuild
  exact (s.modAgent_answersOnly ..).trans (State.agentPump_answersOnly (Nat.le_add_right ..) _ _)

theorem State.glbSend_answersOnly (s : State) (h : Hdr) (us : List (BitVec 256)) : s.AnswersOnly (s.glbSend h us) := by
  unfold State.glbSend
  extract_lets t
  split
  · exact .refl s
  · extract_lets r
    split
    · exact .refl s
    · exact (State.AnswersOnly.ite (.refl s) (s.outAdd_answersOnly 192 t)).trans (State.agentQueue_answersOnly ..)

theorem State.agentBars_answersOnly (s : State) (i : Nat) : s.AnswersOnly (s.agentBars i) := by
  unfold State.agentBars
  extract_lets bs
  exact (s.modStn_answersOnly ..).trans (.foldl (fun s q => s.agentSend_answersOnly i (brrOf q.h) []) bs _)

theorem State.glbBars_answersOnly (s : State) : s.AnswersOnly s.glbBars := by
  unfold State.glbBars
  extract_lets bs
  exact (s.glbRx_answersOnly _).trans (.foldl (fun s q => s.glbSend_answersOnly (brrOf q.h) []) bs _)

/-- R437, R441: an answer changes nothing but the queues that it passes and the counts of it. -/
theorem State.answer_answersOnly (s : State) (a : Nat) (r : Req) (read : Bool) (st : BitVec 4) (v : Word) :
    s.AnswersOnly (s.answer a r read st v) := by
  unfold State.answer
  extract_lets h us glb u w sent
  split
  · next i _ =>
    extract_lets z
    have hz : s.AnswersOnly z := s.modStn_answersOnly ..
    have hsent : z.AnswersOnly ((z.agentSend i h us).agentBars i) :=
      (z.agentSend_answersOnly i h us).trans (State.agentBars_answersOnly ..)
    exact (hz.trans hsent).trans (State.direct_answersOnly ..)
  · have hu : s.AnswersOnly u := s.glbRx_answersOnly _
    have hw : s.AnswersOnly w := hu.trans (u.gcnt_answersOnly (by cases read <;> simp))
    have hsent : s.AnswersOnly sent := (hw.trans (w.glbSend_answersOnly h us)).trans (State.glbBars_answersOnly _)
    exact .ite (hw.trans (w.direct_answersOnly _)) (hsent.trans (sent.direct_answersOnly _))

/-! ### Accesses of another size or alignment (R5) -/

section
variable {off : Fin 33554432} {sz : Fin 9} {r : Req} {s : State} (hm : s.mode ≠ Mode.OFF)
  (h : sz.val ≠ 8 ∨ off.val % 8 ≠ 0)
include hm h

theorem execAccess_misaligned (rd : Bool) : exec (if rd then .rcFieldRead off sz r else .registerWrite off sz r) s =
    .next (s.answer off.val r rd Code.TGTERR 0) := by
  have hok : accessOk off.val sz.val = false := by simpa [accessOk, ← not_and_or] using h
  cases rd with
  | true =>
    show execRcFieldRead off sz r s = _
    unfold execRcFieldRead
    dsimp only
    rw [if_neg hm, hok]
    rfl
  | false =>
    show execRegisterWrite off sz r s = _
    unfold execRegisterWrite
    dsimp only
    rw [if_neg hm, hok]
    rfl

end

/-- Settles O14: each write of one register by `servesWrite_of_regWrite` and the cases of `State.serve`, an access of
another size by what an answer changes. -/
theorem configurationAccessesAreJudgedFirst : Obligations.ConfigurationAccessesAreJudgedFirst := by
  refine ⟨fun c a r s hc => ?_, fun off sz r s hm h rd => ?_⟩
  · obtain ⟨hoff, hon⟩ := servesWrite_of_regWrite s hc
    refine ⟨hoff, fun hm ht => ?_⟩
    obtain ⟨act, he⟩ := hon hm ht
    have hmu : (s.atUnit a).mode ≠ Mode.OFF := by rwa [State.atUnit_mode]
    rw [he, ← s.atUnit_writeGate a a r]
    obtain ⟨hbad, hdeny, hsilent⟩ := State.serve_gate (act := act) (a := a) (r := r) hmu
    exact ⟨fun hg => by rw [hbad hg], fun hg => by rw [hdeny hg], fun hg => by rw [hsilent hg],
      fun hg henc => by rw [State.serve_reserved hmu hg henc]⟩
  · obtain ⟨hrest, hrd⟩ := s.answer_answersOnly off.val r rd Code.TGTERR 0
    have keeps {β : Type} (g : State → β) (hg : ∀ t : State, g t.unanswered = g t) :
        g (s.answer off.val r rd Code.TGTERR 0) = g s := by rw [← hg, hrest, hg]
    exact ⟨_, execAccess_misaligned hm h rd, rfl, hrd, keeps (·.mem) fun _ => rfl, keeps (·.shadow) fun _ => rfl,
      keeps (·.nis) fun _ => rfl, keeps (·.feds) fun _ => rfl, keeps (·.chains) fun _ => rfl, keeps (·.stk) fun _ => rfl,
      keeps (·.mbx) fun _ => rfl, keeps (·.fmp) fun _ => rfl, keeps (·.thm) fun _ => rfl, keeps (·.host) fun _ => rfl,
      keeps (·.skew) fun _ => rfl, keeps (·.datum) fun _ => rfl⟩

end Sys2Proof.Machine
end

section
/-!
PROOFS. What a reset leaves, the removal of power and the test access port (R348, R376, R377, R381, R382, R414, R430).
-/
namespace Sys2Proof.Machine

/-! ### Fields taken over from another word -/

/-- Fields that are apart, each taken from `x`, read as in `x`. -/
theorem Fld.get_foldl_put_own (x y : Word) (l : List Fld) (h : fieldsApart (l.map (·, Acc.ro))) {f : Fld} (hf : f ∈ l) :
    f.get (l.foldl (fun y f => f.put y (f.get x)) y) = f.get x := by
  have hput := Fld.get_foldl_put (fun e => e.1.get x) _ y h (f, .ro) (List.mem_map_of_mem hf)
  rw [List.foldl_map] at hput
  rw [hput, Nat.mod_eq_of_lt (Fld.get_lt f x)]

/-- The latches of R348 and the counts of R376, R382, which outlive a reset. -/
abbrev latchFlds : List Fld :=
  [F.THM_STATUS_SAFE, F.THM_STATUS_SHUTDOWN_READY, F.THM_STATUS_COMMIT_FAIL, F.THM_STATUS_TRIP_SRC]
abbrev datCountFlds : List Fld :=
  [F.DAT_STATUS_SLIP_COUNT, F.DAT_STATUS_MER_DUE_COUNT, F.DAT_STATUS_MER_SBE_COUNT, F.DAT_STATUS_VOTE_FIX_COUNT]

theorem get_safeLatches (x : Word) {f : Fld} (hf : f ∈ latchFlds) : f.get (safeLatches x) = f.get x :=
  Fld.get_foldl_put_own x 0 _ (by unfold fieldsApart; decide) hf

theorem get_datCounts (x : Word) {f : Fld} (hf : f ∈ datCountFlds) : f.get (datCounts x) = f.get x :=
  Fld.get_foldl_put_own x _ _ (by unfold fieldsApart; decide) hf

theorem get_resetOf_DAT_STATUS : ∀ f ∈ datCountFlds, f.get (resetOf A.DAT_STATUS) = 0 := by decide +kernel

/-! ### The registers that record a reset or outlive it -/

section
variable (s : State) (kind : Nat)

theorem State.rd_restarted_THM_TRIP_TIME : (s.restarted kind).rd A.THM_TRIP_TIME = s.rd A.THM_TRIP_TIME := by
  unfold State.restarted
  dsimp only
  split <;> simp [State.rd_setFld_ne, State.rd_wr_ne]

theorem State.rd_restarted_DAT_STATUS : (s.restarted kind).rd A.DAT_STATUS =
    if kind = 0 then resetOf A.DAT_STATUS else datCounts (s.rd A.DAT_STATUS) := by
  unfold State.restarted
  dsimp only
  rw [State.rd_setFld_ne _ _ _ (by decide), State.rd_setFld_ne _ _ _ (by decide), State.rd_setFld_ne _ _ _ (by decide)]
  split
  · rw [State.rd_wr_ne _ _ (by decide), State.rd_wr_ne _ _ (by decide), State.rd_wr_ne _ _ (by decide)]
    rfl
  · exact State.rd_wr_same ..

theorem State.fld_restarted_KIND : (s.restarted kind).fld A.GLB_BOOT_STATUS F.GLB_BOOT_STATUS_KIND = kind % 2 ^ 2 := by
  unfold State.restarted
  dsimp only
  rw [State.fld_setFld_apart _ _ _ _ _ (by decide) (by decide), State.fld_setFld_apart _ _ _ _ _ (by decide) (by decide)]
  exact State.fld_setFld_same _ _ _ _ (by decide)

/-- Entering the lanes failed HARD changes registers and stations alone. -/
theorem State.keepHard_unanswered (t : State) : (t.keepHard s).unanswered = t.unanswered := by
  have hstn (t : State) (st : Nat) (f : StnSt → StnSt) : (t.modStn st f).unanswered = t.unanswered := rfl
  have hfld (t : State) (a : Nat) (f : Fld) (v : Nat) : (t.setFld a f v).unanswered = t.unanswered := rfl
  unfold State.keepHard
  refine foldl_fixes State.unanswered (fun t st => foldl_fixes State.unanswered (fun t n => ?_) _ t) _ t
  dsimp only
  split
  · rfl
  · rw [hfld, hfld, State.wr_unanswered, State.wr_unanswered, hstn]

theorem State.keepHard_fmp (t : State) : (t.keepHard s).fmp = t.fmp := by
  simpa only [State.unanswered] using congrArg State.fmp (s.keepHard_unanswered t)

theorem State.keepHard_mbx (t : State) : (t.keepHard s).mbx = t.mbx := by
  simpa only [State.unanswered] using congrArg State.mbx (s.keepHard_unanswered t)

/-- What no step of a fold changes. -/
theorem foldl_fixed_of_mem {α β : Type} {f : α → β → α} {x : α} (l : List β) (h : ∀ y ∈ l, f x y = x) : l.foldl f x = x := by
  induction l with
  | nil => rfl
  | cons y l ih =>
    obtain ⟨hy, hl⟩ := List.forall_mem_cons.1 h
    rw [List.foldl_cons, hy, ih hl]

/-- Without a lane failed HARD there is nothing to enter. -/
theorem State.keepHard_of_none (t : State) (h : ∀ st n, st < 36 → n < 6 → ((s.stn st).port n).hard = []) :
    t.keepHard s = t := by
  unfold State.keepHard
  refine foldl_fixed_of_mem _ fun st hst => foldl_fixed_of_mem _ fun n hn => ?_
  dsimp only
  rw [h st n (List.mem_range.1 hst) (List.mem_range.1 hn)]
  rfl

theorem State.restarted_fmp : (s.restarted kind).fmp = {} := by
  unfold State.restarted
  dsimp only
  split <;> simp only [State.setFld_fmp, State.wr_fmp] <;> rfl

theorem State.restarted_mbx : (s.restarted kind).mbx = [] := by
  unfold State.restarted
  dsimp only
  split <;> simp only [State.setFld_mbx, State.wr_mbx] <;> rfl

theorem State.restart_fmp : (s.restart kind).fmp = {} := by
  rw [State.restart_eq]
  dsimp only [State.unalign]
  rw [State.keepHard_fmp, State.restarted_fmp]

theorem State.restart_mbx : (s.restart kind).mbx = [] := by
  rw [State.restart_eq]
  dsimp only [State.unalign]
  rw [State.keepHard_mbx, State.restarted_mbx]

end
/-- Settles O19: memory and queue are the reset's, each register as `State.restarted` has it. -/
theorem whatAResetLeaves : Obligations.WhatAResetLeaves := by
  intro s kind hk t
  have hfmp : t.fmp = {} := s.restart_fmp kind
  obtain ⟨hmem, hpend⟩ := s.restart_restarts kind
  refine ⟨s.restart_datum kind, s.mode_restart kind, fun a => ?_, s.restart_mbx kind, ?_, ?_, ?_, hpend, fun f hf => ?_, ?_, ?_,
    fun f hf => ?_, fun hhard a ha => ?_⟩
  · rw [State.rdByte, hmem]; rfl
  · rw [hfmp]
  · rw [hfmp]
  · rw [hfmp]
  · rw [State.fld, State.thm_restart, get_safeLatches _ hf, State.fld]
  · rw [s.rd_restart kind (by decide), State.rd_restarted_THM_TRIP_TIME]
  · rw [State.fld, s.rd_restart kind (by decide)]
    exact (s.fld_restarted_KIND kind).trans (Nat.mod_eq_of_lt (by omega))
  · rw [State.fld, s.rd_restart kind (by decide), State.rd_restarted_DAT_STATUS]
    split
    · exact get_resetOf_DAT_STATUS f hf
    · rw [get_datCounts _ hf, State.fld]
  · have hrd : t.rd a = (s.restarted kind).rd a := congrArg (·.rd a) (State.keepHard_of_none s _ hhard)
    exact hrd.trans (s.rd_restarted_reset kind ha)

/-! ### GLB_SOFT_RESET (R376) -/

section
variable {s : State} {r : Req}

theorem State.writeSoftReset_schedules (hk : reqFld r F.GLB_SOFT_RESET_KEY = 0xC0DE) (h : s.host.softAt = none) :
    s.writeSoftReset r = ({ s with host := { s.host with softAt := some (s.datum + 2048) } }, Code.OK) := by
  rw [State.writeSoftReset, if_neg (not_not.2 hk), h]
  rfl

theorem State.writeSoftReset_scheduled (hk : reqFld r F.GLB_SOFT_RESET_KEY = 0xC0DE) (h : s.host.softAt ≠ none) :
    s.writeSoftReset r = (s, Code.OK) := by
  obtain ⟨t, ht⟩ := Option.ne_none_iff_exists'.1 h
  rw [State.writeSoftReset, if_neg (not_not.2 hk), ht, Option.orElse_some, ← ht]

theorem State.writeSoftReset_denied (hk : reqFld r F.GLB_SOFT_RESET_KEY ≠ 0xC0DE) : s.writeSoftReset r = (s, Code.DENY) :=
  if_pos hk

theorem execSoftResetWrite_serves {t : State} {c : BitVec 4} (ha : s.admits A.GLB_SOFT_RESET r)
    (h : s.writeSoftReset r = (t, c)) : exec (.softResetWrite r) s = .next (t.ans A.GLB_SOFT_RESET r c) :=
  congrArg Host.Outcome.next (State.serve_eq (act := (·.writeSoftReset r)) ha h)

end

/-! ### The removal of power (R348, R414) -/

/-- Without power nothing is left but what the surroundings drive. -/
def State.unpowered (s : State) : State :=
  let t : State := { State.reset with
    freeCtr := s.freeCtr
    pending := s.pending
    host := { scan := s.host.scan, vreqPin := s.host.vreqPin } }
  (t.wr A.GLB_LC (F.GLB_LC_INPUT.put 0 (s.fld A.GLB_LC F.GLB_LC_INPUT))).setFld A.GLB_MODE F.GLB_MODE_MODE Mode.OFF

theorem execPowerRemove_eq (s : State) : exec .powerRemove s = .next s.unpowered.cycleStart := rfl

theorem State.rd_unpowered (s : State) {a : Nat} (hl : a ≠ A.GLB_LC) (hm : a ≠ A.GLB_MODE) :
    s.unpowered.rd a = resetOf a := by
  rw [State.unpowered, State.rd_setFld_ne _ _ _ hm, State.rd_wr_ne _ _ hl]
  rfl

theorem State.mode_unpowered (s : State) : s.unpowered.mode = Mode.OFF := State.fld_setFld_same _ _ _ _ (by decide)

theorem State.lc_unpowered (s : State) :
    s.unpowered.fld A.GLB_LC F.GLB_LC_INPUT = s.fld A.GLB_LC F.GLB_LC_INPUT := by
  rw [State.unpowered, State.fld_setFld_ne _ _ _ _ (by decide), State.fld, State.rd_wr_same, Fld.get_put _ _ _ (by decide)]
  exact Nat.mod_eq_of_lt (Fld.get_lt ..)

/-! ### The test access port (R381, R430) -/

theorem execTapBypass_eq {s : State} {ir : BitVec 4} (h1 : ir ≠ 1) (h8 : ir ≠ 8) :
    exec (.tapBypass ir) s = .next { s with host := { s.host with tapIr := ir.toNat } } :=
  if_neg (not_or.2 ⟨h1, h8⟩)

theorem tapReg_bypass {s : State} {ir : BitVec 4} (hs : s.host.tapIr = ir.toNat) (h1 : ir ≠ 1) (h8 : ir ≠ 8) :
    s.tapReg = .bypass := by
  have hne {n : BitVec 4} (h : ir ≠ n) : s.host.tapIr ≠ n.toNat := fun e => h (BitVec.eq_of_toNat_eq (hs.symm.trans e))
  exact (if_neg (hne h1)).trans (if_neg (hne h8))

/-- The identification register as a number. -/
theorem toNat_idcode : idcode.toNat = 0x2B144000 + 2 * Config.tapMfr.toNat + 1 := by
  have hm : Config.tapMfr.toNat < 2 ^ 11 := Config.tapMfr.isLt
  rw [idcode, BitVec.toNat_ofNat, Nat.mod_eq_of_lt (by omega)]

theorem idcode_spec : idcode.getLsbD 0 = true ∧ idcode.toNat / 2 ^ 12 = 0x2B144 ∧
    idcode.toNat / 2 % 2 ^ 11 = Config.tapMfr.toNat := by
  have hm : Config.tapMfr.toNat < 2 ^ 11 := Config.tapMfr.isLt
  rw [← BitVec.testBit_toNat, toNat_idcode, Nat.testBit_zero, decide_eq_true_iff]
  omega

theorem State.tapReg_eq_ijtag_iff (s : State) : s.tapReg = .ijtag ↔ s.host.tapIr = 8 := by
  unfold State.tapReg
  split_ifs with h1 h8
  · simp [h1]
  · simp [h8]
  · simp [h8]

theorem State.reaches_iff (s : State) (i : Instrument) : s.reaches i = true ↔
    s.host.tapIr = 8 ∧ (s.fld A.GLB_LC F.GLB_LC_EFFECTIVE = 2 → i = .thermal ∨ i = .benchmark) := by
  simp only [State.reaches, Bool.and_eq_true, Bool.or_eq_true, decide_eq_true_iff, s.tapReg_eq_ijtag_iff, or_assoc,
    ne_eq, imp_iff_not_or]

/-- Settles O21: the write by its key, the removal of power by what `State.unpowered` holds, the test access port by the
instruction's code. -/
theorem softResetPowerAndTestAccess : Obligations.SoftResetPowerAndTestAccess := by
  obtain ⟨hbit, hpart, hmfr⟩ := idcode_spec
  refine ⟨⟨fun r s ha => ⟨fun hk h => ?_, fun hk h => ?_, fun hk => ?_⟩, fun s => ⟨_, execPowerRemove_eq s, ?_⟩,
    fun s => ⟨_, rfl, rfl, rfl⟩, fun s => ⟨_, rfl, rfl, rfl⟩,
    fun s ir h1 h8 => ⟨_, execTapBypass_eq h1 h8, tapReg_bypass rfl h1 h8, rfl⟩⟩,
    hbit, hpart, hmfr, State.reaches_iff⟩
  · exact execSoftResetWrite_serves ha (State.writeSoftReset_schedules hk h)
  · exact execSoftResetWrite_serves ha (State.writeSoftReset_scheduled hk h)
  · exact execSoftResetWrite_serves ha (State.writeSoftReset_denied hk)
  · exact ⟨s.mode_unpowered, rfl, fun _ => rfl, rfl, s.lc_unpowered, fun _ => s.rd_unpowered⟩

end Sys2Proof.Machine
end

section
/-!
PROOFS. What leaves the mode, the boot and the FMP's state alone: the mailbox unit, the events, the counters, the sets and
the sources' queues (R143, R233, R297, R371, R372, R387).
-/
namespace Sys2Proof.Machine

/-! ### Registers of modes and boot -/

/-- From `s` to `t` the registers below the stake controller's stand, but those of the journal and of the FMP, of which the
FMP's state stands. -/
structure State.KeepsBoot (s t : State) : Prop where
  low : ∀ a, a < 0x2000 → a ≠ A.GLB_JNL_STATUS → a ≠ A.GLB_FMP_STATUS → t.rd a = s.rd a
  fw : t.fwState = s.fwState

namespace State.KeepsBoot
variable {s t u : State}

theorem refl (s : State) : s.KeepsBoot s := ⟨fun _ _ _ _ => rfl, rfl⟩

theorem trans (h : s.KeepsBoot t) (k : t.KeepsBoot u) : s.KeepsBoot u :=
  ⟨fun a ha hj hf => (k.low a ha hj hf).trans (h.low a ha hj hf), k.fw.trans h.fw⟩

theorem ite {c : Prop} [Decidable c] (h : s.KeepsBoot t) (k : s.KeepsBoot u) : s.KeepsBoot (if c then t else u) := by
  split
  · exact h
  · exact k

theorem foldl {α : Type} {f : State → α → State} (h : ∀ (s : State) (x : α), s.KeepsBoot (f s x)) (l : List α) (s : State) :
    s.KeepsBoot (l.foldl f s) := by
  induction l generalizing s with
  | nil => exact .refl s
  | cons x l ih => exact (h s x).trans (ih (f s x))

theorem of_low (h : ∀ a, a < 0x2000 → t.rd a = s.rd a) : s.KeepsBoot t :=
  ⟨fun a ha _ _ => h a ha, congrArg F.GLB_FMP_STATUS_STATE.get (h _ (by decide))⟩

theorem of_regs (h : t.regs = s.regs) : s.KeepsBoot t := of_low fun a _ => congrArg (Store.get resetOf · a) h

theorem of_events (h : s.EventsOnly t) : s.KeepsBoot t := of_low fun a ha => h.low a (by omega)

theorem mode (h : s.KeepsBoot t) : t.mode = s.mode :=
  congrArg F.GLB_MODE_MODE.get (h.low _ (by decide) (by decide) (by decide))

theorem bootStage (h : s.KeepsBoot t) : t.bootStage = s.bootStage :=
  congrArg F.GLB_BOOT_STATUS_STAGE.get (h.low _ (by decide) (by decide) (by decide))

end State.KeepsBoot

section
variable (s : State)

theorem State.wr_keepsBoot {a : Nat} (v : Word) (ha : 0x2000 ≤ a) : s.KeepsBoot (s.wr a v) :=
  .of_low fun _ hb => State.rd_wr_ne s v (by omega)

theorem State.setFld_keepsBoot {a : Nat} (f : Fld) (v : Nat) (ha : 0x2000 ≤ a) : s.KeepsBoot (s.setFld a f v) :=
  s.wr_keepsBoot _ ha

theorem State.sat_keepsBoot {a : Nat} (f : Fld) (n : Nat) (ha : 0x2000 ≤ a) : s.KeepsBoot (s.sat a f n) :=
  s.wr_keepsBoot _ ha

theorem State.cnt_keepsBoot {a : Nat} (n : Nat) (ha : 0x2000 ≤ a) : s.KeepsBoot (s.cnt a n) :=
  .of_low fun _ hb => State.rd_cnt_ne s n (by omega)

theorem State.raise_keepsBoot (i : Nat) : s.KeepsBoot (s.raise i) := .of_events (s.raise_eventsOnly i)

/-- A field of GLB_FMP_STATUS other than STATE. -/
theorem State.setFld_FMP_STATUS_keepsBoot {f : Fld} (v : Nat) (h : f.lo + f.w ≤ 64) (hf : f.apart F.GLB_FMP_STATUS_STATE) :
    s.KeepsBoot (s.setFld A.GLB_FMP_STATUS f v) :=
  ⟨fun _ _ _ hb => State.rd_setFld_ne _ _ _ hb, State.fld_setFld_apart _ _ _ _ _ h hf⟩

/-- A journal record. -/
theorem State.journal_keepsBoot (r : JRec) (urgent : Bool) : s.KeepsBoot (s.journal r urgent) := by
  have hj (t : State) (f : Fld) (v : Nat) : t.KeepsBoot (t.setFld A.GLB_JNL_STATUS f v) :=
    ⟨fun _ _ hb _ => State.rd_setFld_ne _ _ _ hb, State.fld_setFld_ne _ _ _ _ (by decide)⟩
  refine .ite ?_ ?_
  · exact State.KeepsBoot.trans (t := { s with fmp := { s.fmp with jlost := s.fmp.jlost + 1 } }) (.of_regs rfl) (hj _ _ _)
  · dsimp only
    generalize (if urgent = true then r :: s.fmp.jq else s.fmp.jq ++ [r]) = q
    exact State.KeepsBoot.trans (t := { s with fmp := { s.fmp with jq := q } }) (.of_regs rfl) (hj _ _ _)

theorem State.note_keepsBoot (typ w2 w3 : Nat) : s.KeepsBoot (s.note typ w2 w3) := s.journal_keepsBoot _ _

/-! ### Sets and sources' queues (R141, R143, R374) -/

theorem State.abortSet_keepsBoot (n reason : Nat) : s.KeepsBoot (s.abortSet n reason) :=
  .of_low fun _ ha => State.rd_abortSet_ne s n reason (by simp only [A.STK_SET_STATUS]; omega)
    (fun h => absurd (h ▸ ha) (by decide))

theorem State.abortUncommitted_keepsBoot : s.KeepsBoot s.abortUncommitted :=
  .foldl (fun s n => .ite (s.abortSet_keepsBoot n 6) (.refl s)) _ s

theorem le_srcStatOf (b k : Nat) : 0x2000 ≤ srcStatOf b k := by
  unfold srcStatOf
  simp only [A.NI_CHAIN_SRC_STAT, A.FED_CHAIN_SRC_STAT, A.niBase, A.fedBase]
  split <;> omega

theorem State.setSrcQueue_keepsBoot (b k : Nat) (q : List SrcFlit) : s.KeepsBoot (s.setSrcQueue b k q) := by
  unfold State.setSrcQueue
  extract_lets t
  have ht : s.KeepsBoot t := (State.KeepsBoot.of_regs (by rfl)).trans (State.setFld_keepsBoot _ _ _ (le_srcStatOf b k))
  exact ht.trans (t.setFld_keepsBoot _ _ (le_srcStatOf b k))

theorem State.chainLoss_keepsBoot (b n : Nat) : s.KeepsBoot (s.chainLoss b n) :=
  .ite (s.cnt_keepsBoot _ (by simp only [A.NI_CNT, A.niBase]; omega)) (.refl s)

theorem State.dropSrcQueue_keepsBoot (b k : Nat) : s.KeepsBoot (s.dropSrcQueue b k) :=
  .ite (.refl s) ((s.setSrcQueue_keepsBoot b k []).trans
    ((State.sat_keepsBoot _ _ _ (le_srcStatOf b k)).trans (State.chainLoss_keepsBoot _ _ _)))

theorem State.dropRestricted_keepsBoot : s.KeepsBoot s.dropRestricted :=
  .foldl (fun s p => .ite (.foldl (fun s k => s.dropSrcQueue_keepsBoot p k) _ s) (.refl s)) _ s

/-! ### The mailbox unit (R228 to R241) -/

theorem State.domRefresh_keepsBoot (p : Nat) : s.KeepsBoot (s.domRefresh p) :=
  .of_low fun _ ha => State.rd_domRefresh_ne s p (by simp only [A.NI_DOM, A.niBase]; omega)

theorem State.crossTimer_regs (n : Nat) (pop : Bool) : (s.crossTimer n pop).regs = s.regs := by
  unfold State.crossTimer
  cases s.pairOf n <;> rfl

theorem State.crossTimer_keepsBoot (n : Nat) (pop : Bool) : s.KeepsBoot (s.crossTimer n pop) :=
  .of_regs (s.crossTimer_regs n pop)

theorem State.setMsgs_keepsBoot (n : Nat) (q : List Msg) : s.KeepsBoot (s.setMsgs n q) := by
  have hwords (f : Nat → Word) (t : State) :
      t.KeepsBoot ((List.range 8).foldl (fun s k => s.wr (A.MBX_CH_MSG n k) (f k)) t) :=
    .foldl (fun s k => s.wr_keepsBoot _ (Nat.le_add_right_of_le (Nat.le_add_right_of_le (by decide)))) _ t
  have hhead (t : State) (v w : Word) : t.KeepsBoot ((t.wr (A.MBX_CH_HEAD n) v).wr (A.MBX_CH_TIME n) w) :=
    (t.wr_keepsBoot _ (Nat.le_add_right_of_le (by decide))).trans (State.wr_keepsBoot _ _ (Nat.le_add_right_of_le (by decide)))
  unfold State.setMsgs
  extract_lets t u
  have hcount : s.KeepsBoot u :=
    ((State.KeepsBoot.of_regs (by rfl)).trans (State.setFld_keepsBoot t _ _ (Nat.le_add_right_of_le (by decide)))).trans
      (State.setFld_keepsBoot _ _ _ (Nat.le_add_right_of_le (by decide)))
  cases q with
  | nil => exact hcount.trans ((hhead _ _ _).trans (hwords (fun _ => 0) _))
  | cons m q => exact hcount.trans ((hhead _ _ _).trans (hwords (fun k => m.data.extractLsb' (64 * k) 64) _))

theorem State.askWake_keepsBoot (n : Nat) : s.KeepsBoot (s.askWake n) := by
  have hst (t : State) (f : Fld) (v : Nat) : t.KeepsBoot (t.setFld (A.MBX_CH_STATUS n) f v) :=
    t.setFld_keepsBoot _ _ (Nat.le_add_right_of_le (by decide))
  refine .ite (hst s _ _) ?_
  exact (((hst s _ _).trans (hst _ _ _)).trans (State.sat_keepsBoot _ _ _ (by decide))).trans (State.domRefresh_keepsBoot _ _)

theorem State.mbxPut_keepsBoot (n : Nat) (src : Gid) (priv : Nat) (data : BitVec 512) :
    s.KeepsBoot (s.mbxPut n src priv data).1 := by
  have hst (t : State) (f : Fld) (v : Nat) : t.KeepsBoot (t.setFld (A.MBX_CH_STATUS n) f v) :=
    t.setFld_keepsBoot _ _ (Nat.le_add_right_of_le (by decide))
  have hcnt (t : State) (j : Nat) : t.KeepsBoot (t.gcnt j) := t.cnt_keepsBoot _ (by simp only [A.GLB_CNT]; omega)
  unfold State.mbxPut
  extract_lets a m was t
  obtain ⟨code, lands⟩ := s.mbxJudge n src priv
  dsimp only
  split
  · have ht : s.KeepsBoot t := (((s.setMsgs_keepsBoot n _).trans (hst _ _ _)).trans
      (State.sat_keepsBoot _ _ _ (by decide))).trans (hcnt _ _)
    exact (ht.trans (.ite (t.askWake_keepsBoot n) (.ite (t.raise_keepsBoot _) (.refl t)))).trans
      (State.crossTimer_keepsBoot _ n false)
  · exact (hst s _ _).trans (hcnt _ _)

theorem State.mbxPop_keepsBoot (n : Nat) : s.KeepsBoot (s.mbxPop n) := by
  have hcnt (t : State) (j : Nat) : t.KeepsBoot (t.gcnt j) := t.cnt_keepsBoot _ (by simp only [A.GLB_CNT]; omega)
  unfold State.mbxPop
  cases s.msgs n with
  | nil => exact s.crossTimer_keepsBoot n true
  | cons m q =>
    exact (((s.setMsgs_keepsBoot n q).trans (hcnt _ 9)).trans (.ite (State.raise_keepsBoot _ _) (.refl _))).trans
      (State.crossTimer_keepsBoot _ n true)

theorem State.mbxCfgSet_keepsBoot (n : Nat) (v : Word) : s.KeepsBoot (s.mbxCfgSet n v) := by
  have hst (t : State) (f : Fld) (v : Nat) : t.KeepsBoot (t.setFld (A.MBX_CH_STATUS n) f v) :=
    t.setFld_keepsBoot _ _ (Nat.le_add_right_of_le (by decide))
  have hdiscard (t : State) : t.KeepsBoot (t.mbxDiscard n true) :=
    ((((((t.setMsgs_keepsBoot n []).trans (hst _ _ _)).trans (hst _ _ _)).trans (hst _ _ _)).trans (hst _ _ _)).trans
      (State.domRefresh_keepsBoot _ _)).trans (State.crossTimer_keepsBoot _ n false)
  unfold State.mbxCfgSet
  extract_lets off row t
  have ht : s.KeepsBoot t := s.wr_keepsBoot _ (Nat.le_add_right_of_le (by decide))
  exact .ite (ht.trans (hdiscard t)) (ht.trans (t.crossTimer_keepsBoot n false))

theorem State.routeNote_keepsBoot (i line g : Nat) : s.KeepsBoot (s.routeNote i line g) := by
  have hsrc (t : State) (f : Fld) (v : Nat) : t.KeepsBoot (t.setFld (A.EVT_SRC_CFG i) f v) :=
    t.setFld_keepsBoot _ _ (by simp only [A.EVT_SRC_CFG]; omega)
  exact .ite ((((hsrc s _ _).trans (hsrc _ _ _)).trans (hsrc _ _ _)).trans (hsrc _ _ _)) (.refl s)

theorem State.fmpMbxCfg_keepsBoot (n : Nat) (v : Word) : s.KeepsBoot (s.fmpMbxCfg n v) := by
  have hbells (t : State) : t.KeepsBoot (t.routeBells n) :=
    .ite (.ite (t.routeNote_keepsBoot ..) ((t.routeNote_keepsBoot ..).trans (State.routeNote_keepsBoot ..))) (.refl t)
  exact (s.mbxCfgSet_keepsBoot n v).trans (hbells _)

/-! ### Messages of the FMP (R247, R256) -/

theorem State.setAside_keepsBoot (k n : Nat) : s.KeepsBoot (s.setAside k n) := by
  induction n generalizing s with
  | zero => exact .refl s
  | succ n ih =>
    unfold State.setAside
    refine .ite (.refl s) ?_
    cases s.msgs (2 * k) with
    | nil => exact .refl s
    | cons m q => exact ((s.mbxPop_keepsBoot _).trans (State.KeepsBoot.of_regs (t := State.modPair _ k _) rfl)).trans (ih _)

theorem State.freeDone_keepsBoot (k : Nat) (m : BitVec 512) : s.KeepsBoot (s.freeDone k m) := by
  have hset (q : List Tkt) : s.KeepsBoot (s.setTickets q) :=
    State.KeepsBoot.trans (t := { s with fmp := { s.fmp with tickets := q } }) (.of_regs rfl)
      (State.setFld_FMP_STATUS_keepsBoot _ _ (by decide) (by decide))
  exact .ite (hset _) (.refl s)

theorem State.offerMsg_keepsBoot (k : Nat) (m : BitVec 512) : s.KeepsBoot (s.offerMsg k m).1 := by
  have hput := s.mbxPut_keepsBoot (2 * k + 1) (s.gid 240) 3 m
  unfold State.offerMsg
  generalize s.mbxPut (2 * k + 1) (s.gid 240) 3 m = x at hput
  obtain ⟨t, c⟩ := x
  dsimp only at hput ⊢
  split
  · exact hput
  · exact hput.trans (.ite (t.freeDone_keepsBoot k m) (.refl t))

theorem State.placeMsg_keepsBoot (k : Nat) (m : BitVec 512) : s.KeepsBoot (s.placeMsg k m) := by
  have hoffer := s.offerMsg_keepsBoot k m
  unfold State.placeMsg
  refine .ite (.of_regs rfl) ?_
  generalize s.offerMsg k m = x at hoffer
  obtain ⟨t, held⟩ := x
  cases held with
  | true => exact (hoffer.trans (State.KeepsBoot.of_regs (t := State.modPair _ k _) rfl)).trans (State.setAside_keepsBoot _ k 4)
  | false => exact hoffer

theorem State.noticeAll_keepsBoot : s.KeepsBoot s.noticeAll :=
  .foldl (fun s k => .ite (s.placeMsg_keepsBoot k _) (.refl s)) _ s

end

end Sys2Proof.Machine
end

section
/-!
PROOFS. The steps of the boot and its failures (R382 to R387).
-/
namespace Sys2Proof.Machine

/-! ### Changes of mode (R372) -/

/-- The fields of GLB_MODE that a change of mode writes. -/
def State.modeFlds (s : State) (m : Nat) : State :=
  ((s.setFld A.GLB_MODE F.GLB_MODE_PREV s.mode).setFld A.GLB_MODE F.GLB_MODE_MODE m).sat A.GLB_MODE F.GLB_MODE_CHANGES

/-- The registers that a change of mode writes first. -/
def State.modeSet (s : State) (m : Nat) : State :=
  (s.modeFlds m).wr A.GLB_MODE_TIME (BitVec.ofNat 64 (s.modeFlds m).datum)

/-- What a change of mode does after them. -/
def State.modeChanged (s : State) (old m : Nat) : State :=
  let t := (s.note 2 (old + 16 * m) 0).raise 1377
  (if m = Mode.DIAGNOSE ∨ m = Mode.SAFE then t.abortUncommitted else t).dropRestricted

theorem State.toMode_eq {s : State} {m : Nat} (h : s.mode ≠ m) : s.toMode m = (s.modeSet m).modeChanged s.mode m := by
  unfold State.toMode State.modeChanged State.modeSet State.modeFlds
  exact if_neg h

theorem State.modeChanged_keepsBoot (s : State) (old m : Nat) : s.KeepsBoot (s.modeChanged old m) := by
  have ht : s.KeepsBoot ((s.note 2 (old + 16 * m) 0).raise 1377) :=
    (s.note_keepsBoot _ _ _).trans (State.raise_keepsBoot _ 1377)
  unfold State.modeChanged
  extract_lets t
  exact (ht.trans (.ite t.abortUncommitted_keepsBoot (.refl t))).trans (State.dropRestricted_keepsBoot _)

/-! ### Failure of a boot (R386) -/

section
variable (s : State)

theorem State.bootStage_setStage {v : Nat} (hv : v < 16) : (s.setStage v).bootStage = v :=
  (State.fld_setFld_same _ _ _ _ (by decide)).trans (Nat.mod_eq_of_lt hv)

theorem State.rd_setStage {v a : Nat} (ha : a ≠ A.GLB_BOOT_STATUS) : (s.setStage v).rd a = s.rd a :=
  State.rd_setFld_ne _ _ _ ha

theorem State.bootStage_bootFail (n : Nat) : (s.bootFail n).bootStage = 7 :=
  (State.fld_setFld_apart _ _ _ _ _ (by decide) (by decide)).trans (s.bootStage_setStage (by decide))

theorem State.reason_bootFail {n : Nat} (hn : n < 16) : (s.bootFail n).fld A.GLB_BOOT_STATUS F.GLB_BOOT_STATUS_REASON = n :=
  (State.fld_setFld_same _ _ _ _ (by decide)).trans (Nat.mod_eq_of_lt hn)

theorem State.rd_bootFail {n a : Nat} (ha : a ≠ A.GLB_BOOT_STATUS) : (s.bootFail n).rd a = s.rd a :=
  (State.rd_setFld_ne _ _ _ ha).trans (s.rd_setStage ha)

/-! ### The wipe (R382, R383) -/

/-- A register that some write of a fold concerns, and every such write gives the value `v`. -/
theorem State.rd_foldl_wr {α : Type} {addr : α → Nat} {val : α → Word} {l : List α} {a : Nat} {v : Word} (s : State)
    (hv : ∀ x ∈ l, addr x = a → val x = v) (ha : s.rd a = v ∨ ∃ x ∈ l, addr x = a) :
    (l.foldl (fun s x => s.wr (addr x) (val x)) s).rd a = v := by
  induction l generalizing s with
  | nil => simpa using ha
  | cons x l ih =>
    refine ih _ (fun y hy => hv y (List.mem_cons_of_mem x hy)) ?_
    by_cases hx : addr x = a
    · exact .inl (by dsimp only; rw [hx, State.rd_wr_same, hv x (List.mem_cons_self ..) hx])
    · rw [State.rd_wr_ne _ _ (Ne.symm hx)]
      simpa [hx] using ha

/-- A register that no write of a fold concerns. -/
theorem State.rd_foldl_wr_ne {α : Type} {addr : α → Nat} {val : α → Word} {l : List α} {a : Nat} (s : State)
    (ha : ∀ x ∈ l, addr x ≠ a) : (l.foldl (fun s x => s.wr (addr x) (val x)) s).rd a = s.rd a :=
  State.rd_foldl_wr s (fun x hx h => absurd h (ha x hx)) (.inl rfl)

/-- R53: the local outputs of a station. -/
def localOuts (st : Nat) : List Nat := [6, 7, 8, 9, 10] ++ if (fedOfStation st).isSome then [11] else []

theorem mem_localOuts {st o : Nat} : o ∈ localOuts st ↔ 6 ≤ o ∧ (o < 11 ∨ o = 11 ∧ fedOfStation st ≠ none) := by
  unfold localOuts
  cases fedOfStation st <;> simp <;> omega

/-- The local outputs of all stations. -/
def localDirs : List (Nat × Nat) := (List.range 36).flatMap fun st => (localOuts st).map (st, ·)

theorem mem_localDirs {st o : Nat} : (st, o) ∈ localDirs ↔
    st < 36 ∧ 6 ≤ o ∧ (o < 11 ∨ o = 11 ∧ fedOfStation st ≠ none) := by
  simp [localDirs, mem_localOuts]

theorem State.localCredits_eq : s.localCredits = localDirs.foldl (fun s e =>
    s.wr (A.STN_VC_CRED e.1 e.2) (BitVec.ofNat 64 (fullCreds e.2))) s := by
  unfold localDirs
  simp only [List.foldl_flatMap, List.foldl_map]
  rfl

theorem State.rd_localCredits {st o : Nat} (h : (st, o) ∈ localDirs) :
    s.localCredits.rd (A.STN_VC_CRED st o) = BitVec.ofNat 64 (fullCreds o) := by
  rw [State.localCredits_eq]
  refine State.rd_foldl_wr s (fun e he ha => ?_) (.inr ⟨_, h, rfl⟩)
  obtain ⟨i, n⟩ := e
  rw [mem_localDirs] at h he
  have hn : n = o := by
    simp only [A.STN_VC_CRED, A.stnBase] at ha
    omega
  rw [hn]

theorem State.rd_localCredits_ne {a : Nat} (ha : ∀ st o, (st, o) ∈ localDirs → a ≠ A.STN_VC_CRED st o) :
    s.localCredits.rd a = s.rd a := by
  rw [State.localCredits_eq]
  exact State.rd_foldl_wr_ne s fun e he => (ha e.1 e.2 he).symm

/-- R383: GLB_WIPE_STATUS once the wipe has ended. -/
def State.wipeShown (w : WipeResult) : State :=
  let a := A.GLB_WIPE_STATUS
  let s := (s.setFld a F.GLB_WIPE_STATUS_DONE 1).setFld a F.GLB_WIPE_STATUS_CORE_FAIL (if w.core then 1 else 0)
  let s := (s.setFld a F.GLB_WIPE_STATUS_TRACE_FAIL (if w.trace then 1 else 0)).setFld a F.GLB_WIPE_STATUS_NI_FAILS
    w.nis.eraseDups.length
  let s := s.setFld a F.GLB_WIPE_STATUS_STN_FAILS w.stns.eraseDups.length
  s.setFld a F.GLB_WIPE_STATUS_TIME (min (s.datum - s.host.resetAt) (2 ^ 32 - 1))

/-- What failed the read-back, as the FMP keeps it. -/
def State.wipeKept (w : WipeResult) : State :=
  { s with fmp := { s.fmp with badNis := w.nis.map Fin.val, badStns := w.stns.map Fin.val } }

/-- The wipe has ended. -/
def State.wipeNoted (w : WipeResult) : State := (s.localCredits.wipeShown w).wipeKept w

variable {s}

theorem execWipeDone_eq {w : WipeResult} (hm : s.mode = Mode.WIPE)
    (hd : s.bit A.GLB_WIPE_STATUS F.GLB_WIPE_STATUS_DONE = false) :
    exec (.wipeDone w) s = .next (if w.core then (s.wipeNoted w).bootFail 1 else (s.wipeNoted w).setStage 1) := by
  show execWipeDone w s = _
  unfold execWipeDone
  dsimp only
  rw [if_neg (by simp [hm, hd])]
  rfl

variable (s)

theorem State.rd_wipeKept (w : WipeResult) (a : Nat) : (s.wipeKept w).rd a = s.rd a := rfl

theorem State.rd_wipeNoted {w : WipeResult} {a : Nat} (ha : a ≠ A.GLB_WIPE_STATUS) :
    (s.wipeNoted w).rd a = s.localCredits.rd a := by
  rw [State.wipeNoted, State.rd_wipeKept]
  simp only [State.wipeShown, State.rd_setFld_ne _ _ _ ha]

theorem State.fld_wipeShown (w : WipeResult) :
    (s.wipeShown w).fld A.GLB_WIPE_STATUS F.GLB_WIPE_STATUS_DONE = 1 ∧
    (s.wipeShown w).fld A.GLB_WIPE_STATUS F.GLB_WIPE_STATUS_CORE_FAIL = (if w.core then 1 else 0) ∧
    (s.wipeShown w).fld A.GLB_WIPE_STATUS F.GLB_WIPE_STATUS_TRACE_FAIL = (if w.trace then 1 else 0) := by
  have hbit (p : Bool) : (if p then 1 else 0) % 2 ^ 1 = if p then 1 else 0 := by cases p <;> rfl
  simp (disch := decide) only [State.wipeShown, State.fld_setFld_apart, State.fld_setFld_same, hbit]
  exact ⟨rfl, trivial, trivial⟩

theorem State.wipeDone_spec (w : WipeResult) {t : State}
    (ht : t = if w.core then (s.wipeNoted w).bootFail 1 else (s.wipeNoted w).setStage 1) :
    t.fmp = (s.wipeNoted w).fmp ∧ t.bootStage = (if w.core then 7 else 1) ∧
    (∀ a, a ≠ A.GLB_BOOT_STATUS → t.rd a = (s.wipeNoted w).rd a) ∧
    (w.core = true → t.fld A.GLB_BOOT_STATUS F.GLB_BOOT_STATUS_REASON = 1) := by
  subst ht
  cases w.core with
  | true =>
    exact ⟨by simp only [if_true, State.bootFail, State.setStage, State.setFld_fmp], State.bootStage_bootFail _ 1,
      fun a => State.rd_bootFail _, fun _ => State.reason_bootFail _ (by decide)⟩
  | false => 
    exact ⟨by simp only [State.setStage, State.setFld_fmp, Bool.false_eq_true, if_false], State.bootStage_setStage _ (by decide),
      fun a => State.rd_setStage _, nofun⟩

/-! ### Directory and image (R384, R386) -/

variable {s}

theorem execBootRomRead_eq {b : RomRead} (hm : s.mode = Mode.WIPE) (hs : s.bootStage = 1) :
    exec (.bootRomRead b) s = if b.nvmErr then .next (s.bootFail 3) else if !dirOk b.dir then .next (s.bootFail 2)
      else .next ({ s with fmp := { s.fmp with
        img1 := bitsOf (b.dir.getD 1 0).toNat 32 32, minSec := b.minSec.toNat
        mapAt := bitsOf (b.dir.getD 2 0).toNat 0 32, mapLen := bitsOf (b.dir.getD 2 0).toNat 32 16 } }.setStage 2) := by
  show execBootRomRead b s = _
  unfold execBootRomRead
  rw [if_neg (by simp [hm, hs])]

theorem dirOk_bits {d : List Word} (h : dirOk d = true) :
    bitsOf (d.getD 1 0).toNat 32 32 = (d.getD 1 0).toNat / 2 ^ 32 ∧ bitsOf (d.getD 2 0).toNat 0 32 = (d.getD 2 0).toNat % 2 ^ 32 ∧
    bitsOf (d.getD 2 0).toNat 32 16 = (d.getD 2 0).toNat / 2 ^ 32 := by
  have h2 : (d.getD 2 0).toNat < 2 ^ 48 := by
    simp only [dirOk, Bool.and_eq_true, decide_eq_true_eq] at h
    obtain ⟨⟨⟨⟨_, h2⟩, _⟩, _⟩, _⟩ := h
    exact h2
  have h1 := (d.getD 1 0).isLt
  simp only [bitsOf]
  omega

/-- The reason for which an image is refused, 0 for one that passes. -/
def State.imgVerdict (s : State) (v : ImageCheck) : Nat :=
  imgReason v (if s.deployed then some s.fmp.minSec else none) s.deployed

/-- R386: the image has passed, and the FMP starts. -/
def State.imageStarts (s : State) (v : ImageCheck) : State :=
  let u := s.fmp.badStns.foldl State.mark { s with fmp := { s.fmp with
    images := tset none s.fmp.images 0 (some (imageOf v)), avoid := s.fmp.avoid ++ s.fmp.badStns } }
  (((u.setFld A.GLB_BOOT_STATUS F.GLB_BOOT_STATUS_SLOT
    (if s.bit A.GLB_BOOT_STATUS F.GLB_BOOT_STATUS_FALLBACK then 1 else 0)).setStage 4).setFld A.GLB_FMP_STATUS
    F.GLB_FMP_STATUS_FW_VERSION (imageOf v).version).toMode Mode.ENUMERATE

theorem execImageVerify_eq {v : ImageCheck} (hm : s.mode = Mode.WIPE) (hs : s.bootStage = 2) (hn : v.nvmErr = false) :
    exec (.imageVerify v) s = if s.imgVerdict v ≠ 0 then
        if s.bit A.GLB_BOOT_STATUS F.GLB_BOOT_STATUS_FALLBACK ∨ s.fmp.img1 = 0xFFFFFFFF then .next (s.bootFail (s.imgVerdict v))
        else .next ((s.setFld A.GLB_BOOT_STATUS F.GLB_BOOT_STATUS_REASON (s.imgVerdict v)).setFld A.GLB_BOOT_STATUS
          F.GLB_BOOT_STATUS_FALLBACK 1)
      else .next (s.imageStarts v) := by
  show execImageVerify v s = _
  unfold execImageVerify State.imgVerdict State.imageStarts
  rw [if_neg (by simp [hm, hs]), hn]
  rfl

/-! ### Boot step 4 (R387) -/

theorem State.takeBootMap_regs (m : ExpMap) : (s.takeBootMap m).regs = s.regs := by
  unfold State.takeBootMap
  extract_lets f
  split <;> rfl

/-- Without SAFE latched the mode stays. -/
theorem execBootInit_eq {b : BootMap} {m : ExpMap} (hm : s.mode = Mode.ENUMERATE) (hs : s.bootStage = 4)
    (hn : b.nvmErr = false) (hat : s.fmp.mapAt ≠ 0xFFFFFFFF) (hlen : b.bytes.length = s.fmp.mapLen)
    (hmap : parseMap b.bytes = some m) (hsafe : s.fld A.THM_STATUS F.THM_STATUS_SAFE = 0) :
    exec (.bootInit b) s = .next ((((s.merReq .alignLoad 0).freeAllPlats).takeBootMap m).setStage 5) := by
  have hbit : ((((s.merReq .alignLoad 0).freeAllPlats).takeBootMap m).setStage 5).bit A.THM_STATUS F.THM_STATUS_SAFE =
      false := by
    rw [State.bit, State.fld, State.rd_setStage _ (by decide), State.rd, State.takeBootMap_regs]
    exact decide_eq_false (not_not.2 hsafe)
  have hfmp : ((s.merReq .alignLoad 0).freeAllPlats).fmp = s.fmp := rfl
  show execBootInit b s = _
  unfold execBootInit
  dsimp only
  rw [if_neg (by simp [hm, hs]), hn, if_neg Bool.false_ne_true, hfmp, if_neg (not_or.2 ⟨hat, not_not.2 hlen⟩), hmap]
  dsimp only
  rw [hbit, if_neg Bool.false_ne_true]

/-! ### Boot step 5 (R387) -/

/-- R387: the FMP serves, its hosts admitted. -/
def State.bootServes (s : State) : State :=
  let s := s.enablePairs
  let s := (s.setStage 6).setFld A.GLB_BOOT_STATUS F.GLB_BOOT_STATUS_TIME (min (s.datum - s.host.resetAt) (2 ^ 32 - 1))
  let s := (s.setFld A.GLB_FMP_STATUS F.GLB_FMP_STATUS_STATE Fw.SERVING).beat
  ((List.range 36).foldl (fun s st => s.trigger st 0) s).noticeAll

theorem execBootServing_serves (hs : s.bootStage = 5) (ha : s.bit A.DAT_STATUS F.DAT_STATUS_ALIGNED = true)
    (hr : s.fmp.bootPairs.length ≤ s.fmp.bootRoutes.length) (hd : s.fmp.admissions = []) :
    exec .bootServing s = .next s.bootServes := by
  show execBootServing s = _
  unfold execBootServing
  dsimp only
  rw [if_neg (by simp [hs, ha]), if_neg (Nat.not_lt.2 hr), if_neg (by simp [hd])]
  rfl

variable (s)

theorem State.trigger_keepsBoot (st drift : Nat) : s.KeepsBoot (s.trigger st drift) :=
  .ite (.refl s) (State.KeepsBoot.trans (t := { s with fmp := { s.fmp with replans := s.fmp.replans ++ [(st, drift, 0)] } })
    (.of_regs rfl) (State.setFld_keepsBoot _ _ _ (Nat.le_add_right_of_le (Nat.le_add_right_of_le (by decide)))))

theorem State.beat_keepsBoot : s.KeepsBoot s.beat :=
  (s.setFld_FMP_STATUS_keepsBoot _ (by decide) (by decide)).trans (.of_regs rfl)

theorem State.bootServes_spec : s.bootServes.bootStage = 6 ∧ s.bootServes.fwState = Fw.SERVING := by
  unfold State.bootServes
  extract_lets t u v
  have hv : (u.setFld A.GLB_FMP_STATUS F.GLB_FMP_STATUS_STATE Fw.SERVING).KeepsBoot
      ((List.range 36).foldl (fun s st => s.trigger st 0) v).noticeAll :=
    ((State.beat_keepsBoot _).trans (.foldl (fun s st => s.trigger_keepsBoot st 0) _ v)).trans (State.noticeAll_keepsBoot _)
  have hu : u.bootStage = 6 :=
    (State.fld_setFld_apart _ _ _ _ _ (by decide) (by decide)).trans (State.bootStage_setStage t (by decide))
  exact ⟨hv.bootStage.trans ((State.fld_setFld_ne _ _ _ _ (by decide)).trans hu),
    hv.fw.trans (State.fld_setFld_same _ _ _ _ (by decide))⟩

end

/-- Settles O22: each step by what it writes, and outside its stage by its first test. -/
theorem bootStepsAndFailures : Obligations.BootStepsAndFailures := by
  refine ⟨⟨fun w s hm hd => ?_, fun b s hm hs hn hdir => ?_, fun v s hm hs hn hv => ⟨_, rfl, ?_⟩,
    fun b s m hm hs hn hat hlen hmap hsafe => execBootInit_eq hm hs hn hat hlen hmap hsafe,
    fun s hs ha => ⟨fun hr => ⟨_, ?_, rfl⟩, fun hr hd => ⟨_, execBootServing_serves hs ha hr hd, s.bootServes_spec⟩⟩⟩,
    fun b s hm hs => ⟨fun hn => ?_, fun hn hdir => ?_⟩, fun v s n hm hs hn h0 hv => ⟨fun h => ?_, fun hf h1 => ?_⟩,
    fun s n hn => ⟨s.bootStage_bootFail n, s.reason_bootFail hn⟩, fun s => ⟨fun w h => ?_, fun b h => ?_, fun v h => ?_,
    fun b h => ?_, fun h => ?_⟩⟩
  · obtain ⟨t, ht⟩ : ∃ t, t = if w.core then (s.wipeNoted w).bootFail 1 else (s.wipeNoted w).setStage 1 := ⟨_, rfl⟩
    obtain ⟨hfmp, hstage, hrd, hreason⟩ := s.wipeDone_spec w ht
    obtain ⟨hdone, hcore, htrace⟩ := s.localCredits.fld_wipeShown w
    have hwipe (f : Fld) : t.fld A.GLB_WIPE_STATUS f = (s.localCredits.wipeShown w).fld A.GLB_WIPE_STATUS f :=
      congrArg f.get ((hrd _ (by decide)).trans (State.rd_wipeKept _ w _))
    have hcred {st o : Nat} : 0x100000 ≤ A.STN_VC_CRED st o :=
      Nat.le_add_right_of_le (Nat.le_add_right_of_le (Nat.le_add_right ..))
    refine ⟨t, (execWipeDone_eq hm hd).trans (congrArg Host.Outcome.next ht.symm), (hwipe _).trans hdone,
      (hwipe _).trans hcore, (hwipe _).trans htrace,
      congrArg FmpSt.badNis hfmp, congrArg FmpSt.badStns hfmp, hstage, hreason, fun st o hst ho h => ?_, fun a hw hb h => ?_⟩
    · have hne {a : Nat} (ha : a < 0x100000) : A.STN_VC_CRED st o ≠ a := Nat.ne_of_gt (Nat.lt_of_lt_of_le ha hcred)
      rw [hrd _ (hne (by decide)), s.rd_wipeNoted (hne (by decide)), s.rd_localCredits (mem_localDirs.2 ⟨hst, ho, h⟩)]
    · rw [hrd _ hb, s.rd_wipeNoted hw, s.rd_localCredits_ne fun st o hm => ?_]
      obtain ⟨hst, ho, hm⟩ := mem_localDirs.1 hm
      exact h st o hst ho hm
  · obtain ⟨himg, hat, hlen⟩ := dirOk_bits hdir
    rw [execBootRomRead_eq hm hs, hn, hdir]
    exact ⟨_, rfl, State.bootStage_setStage _ (by decide), rfl, himg, hat, hlen⟩
  · exact (execImageVerify_eq hm hs hn).trans (if_neg (not_not.2 hv))
  · show execBootServing s = _
    unfold execBootServing
    dsimp only
    rw [if_neg (by simp [hs, ha]), if_pos hr]
  · rw [execBootRomRead_eq hm hs, hn, if_pos rfl]
  · rw [execBootRomRead_eq hm hs, hn, hdir]
    rfl
  · change s.imgVerdict v = n at hv
    subst hv
    rw [execImageVerify_eq hm hs hn, if_pos h0]
    exact if_pos h
  · change s.imgVerdict v = n at hv
    subst hv
    rw [execImageVerify_eq hm hs hn, if_pos h0]
    exact if_neg (by simp [hf, h1])
  · exact if_pos (.inl h)
  · exact if_pos (.inr h)
  · exact if_pos (.inr h)
  · exact if_pos (.inr h)
  · exact if_pos (.inl h)

end Sys2Proof.Machine
end

section
/-!
PROOFS. Modes follow their causes, and a port is admitted or held (R371 to R373, R389 to R391).
-/
namespace Sys2Proof.Machine

/-! ### Modes (R372, R373) -/

theorem State.mode_lt (s : State) : s.mode < 16 := Fld.get_lt ..

section
variable {s : State} {m : Nat}

/-- A change of mode leaves GLB_MODE and GLB_MODE_TIME as it has first written them. -/
theorem State.fld_toMode (h : s.mode ≠ m) (f : Fld) : (s.toMode m).fld A.GLB_MODE f = (s.modeSet m).fld A.GLB_MODE f := by
  rw [State.toMode_eq h]
  exact congrArg f.get ((State.modeChanged_keepsBoot _ s.mode m).low _ (by decide) (by decide) (by decide))

theorem State.rd_toMode_MODE_TIME (h : s.mode ≠ m) : (s.toMode m).rd A.GLB_MODE_TIME = BitVec.ofNat 64 s.datum := by
  rw [State.toMode_eq h, (State.modeChanged_keepsBoot _ s.mode m).low _ (by decide) (by decide) (by decide)]
  have hdatum : (s.modeFlds m).datum = s.datum := by
    rw [State.modeFlds, State.sat_datum, State.setFld_datum, State.setFld_datum]
  rw [State.modeSet, State.rd_wr_same, hdatum]

theorem State.fld_modeSet (f : Fld) : (s.modeSet m).fld A.GLB_MODE f = (s.modeFlds m).fld A.GLB_MODE f :=
  congrArg f.get (State.rd_wr_ne _ _ (by decide))

theorem State.mode_toMode (hm : m < 16) (h : s.mode ≠ m) : (s.toMode m).mode = m := by
  rw [State.mode, State.fld_toMode h, State.fld_modeSet, State.modeFlds, State.fld_sat_apart _ _ _ _ _ (by decide) (by decide),
    State.fld_setFld_same _ _ _ _ (by decide)]
  exact Nat.mod_eq_of_lt hm

theorem State.prev_toMode (h : s.mode ≠ m) : (s.toMode m).fld A.GLB_MODE F.GLB_MODE_PREV = s.mode := by
  rw [State.fld_toMode h, State.fld_modeSet, State.modeFlds, State.fld_sat_apart _ _ _ _ _ (by decide) (by decide),
    State.fld_setFld_apart _ _ _ _ _ (by decide) (by decide), State.fld_setFld_same _ _ _ _ (by decide)]
  exact Nat.mod_eq_of_lt s.mode_lt

theorem State.changes_toMode (h : s.mode ≠ m) : (s.toMode m).fld A.GLB_MODE F.GLB_MODE_CHANGES =
    min (s.fld A.GLB_MODE F.GLB_MODE_CHANGES + 1) 65535 := by
  rw [State.fld_toMode h, State.fld_modeSet, State.modeFlds, State.fld_sat_same _ _ _ _ (by decide),
    State.fld_setFld_apart _ _ _ _ _ (by decide) (by decide), State.fld_setFld_apart _ _ _ _ _ (by decide) (by decide)]
  rfl

theorem State.cause_toMode (h : s.mode ≠ m) :
    (s.toMode m).fld A.GLB_MODE F.GLB_MODE_CAUSE = s.fld A.GLB_MODE F.GLB_MODE_CAUSE := by
  rw [State.fld_toMode h, State.fld_modeSet, State.modeFlds, State.fld_sat_apart _ _ _ _ _ (by decide) (by decide),
    State.fld_setFld_apart _ _ _ _ _ (by decide) (by decide), State.fld_setFld_apart _ _ _ _ _ (by decide) (by decide)]

variable (s)

/-- R373: the causes fill the 15 bits of CAUSE. -/
theorem State.causes_lt : s.causes < 2 ^ 15 := by
  have hbit (i : Nat) (p : Bool) : (if p then 2 ^ i else 0) ≤ 2 ^ i := by cases p <;> simp
  unfold State.causes
  extract_lets b
  have hb : ∀ i p, b i p ≤ 2 ^ i := hbit
  calc
    _ ≤ 2 ^ 0 + 2 ^ 1 + 2 ^ 2 + 2 ^ 3 + 2 ^ 8 + 2 ^ 9 + 2 ^ 10 + 2 ^ 11 + 2 ^ 12 + 2 ^ 13 + 2 ^ 14 := by
      repeat' apply Nat.add_le_add
      all_goals exact hb _ _
    _ < 2 ^ 15 := by decide

/-- CAUSE brought up to date. -/
def State.causeSet : State := s.setFld A.GLB_MODE F.GLB_MODE_CAUSE s.causes

theorem State.mode_causeSet : s.causeSet.mode = s.mode := State.fld_setFld_apart _ _ _ _ _ (by decide) (by decide)

theorem State.cause_causeSet : s.causeSet.fld A.GLB_MODE F.GLB_MODE_CAUSE = s.causes :=
  (State.fld_setFld_same _ _ _ _ (by decide)).trans (Nat.mod_eq_of_lt s.causes_lt)

theorem State.running_causeSet : s.causeSet.running = s.running := by rw [State.running, s.mode_causeSet, State.running]

variable {s}

theorem execModeCauseUpdate_eq (hm : 2 ≤ s.mode) (hf : s.fwState ≠ Fw.HALTED) :
    exec .modeCauseUpdate s = .next (if s.running then s.causeSet.toMode (runMode s.causes) else s.causeSet) := by
  show execModeCauseUpdate s = _
  unfold execModeCauseUpdate
  dsimp only
  rw [if_neg (not_or.2 ⟨Nat.not_lt.2 hm, hf⟩), show (s.setFld A.GLB_MODE F.GLB_MODE_CAUSE s.causes) = s.causeSet from rfl,
    s.running_causeSet]

theorem runMode_lt (c : Nat) : runMode c < 16 := by
  unfold runMode
  split_ifs <;> decide

end

/-! ### Admission of ports (R389 to R391) -/

section
variable {s : State} {p t0 : Nat} {r : PortRec}

theorem State.desc_congr {t : State} {lo n : Nat} (h : ∀ i < n, t.rd (A.NI_DESC p ((lo + i) / 8)) =
    s.rd (A.NI_DESC p ((lo + i) / 8))) : t.desc p lo n = s.desc p lo n := by
  unfold State.desc
  refine congrArg List.sum (List.map_congr_left fun i hi => ?_)
  rw [h i (List.mem_range.1 hi)]

/-- R389 steps 4 and 5: the registers that the FMP writes of a port that it admits. -/
def State.admitFlds (s : State) (p : Nat) (r : PortRec) : State :=
  let s := s.wr (A.NI_ROUTE_HOME p) (s.routeAt (s.curTrav 192) p 240)
  let s := s.setFld (A.NI_PORT_CTL p) F.NI_PORT_CTL_MAX_OUT (s.desc p 0x18 2)
  (s.setFld (A.NI_ENUM p) F.NI_ENUM_PRIV (min r.priv (s.desc p 0x1A 1))).setFld (A.NI_ENUM p) F.NI_ENUM_HELD 0

/-- The admission of a port has ended. -/
def State.admitOver (s : State) (p : Nat) : State :=
  { s with fmp := { s.fmp with admissions := s.fmp.admissions.filter (fun e => e.1 ≠ p) } }

theorem State.rd_admitOver (a : Nat) : (s.admitOver p).rd a = s.rd a := rfl

/-- The port before ENABLE. -/
def State.admitted (s : State) (p : Nat) (r : PortRec) : State := (s.admitFlds p r).admitOver p

theorem State.admitJudge_mismatch (hr : s.portRec p = some r) (h : s.descMatches p r = false) :
    s.admitJudge p = s.holdPort p 1 := by
  unfold State.admitJudge
  rw [hr]
  dsimp only
  rw [h]
  exact if_pos rfl

theorem State.admitJudge_admits (hr : s.portRec p = some r) (h : s.descMatches p r = true) (hp : s.reachable p = true) :
    s.admitJudge p = ((s.admitted p r).portCmd p 1).1 := by
  unfold State.admitJudge
  rw [hr]
  dsimp only
  rw [h, hp]
  exact (if_neg (by decide)).trans (if_neg (by decide))

theorem State.rd_admitted_ne {a : Nat} (hh : a ≠ A.NI_ROUTE_HOME p) (hc : a ≠ A.NI_PORT_CTL p) (he : a ≠ A.NI_ENUM p) :
    (s.admitted p r).rd a = s.rd a := by
  rw [State.admitted, State.rd_admitOver]
  unfold State.admitFlds
  dsimp only
  rw [State.rd_setFld_ne _ _ _ he, State.rd_setFld_ne _ _ _ he, State.rd_setFld_ne _ _ _ hc, State.rd_wr_ne _ _ hh]

theorem State.admitted_spec : (s.admitted p r).rd (A.NI_ROUTE_HOME p) = s.routeAt (s.curTrav 192) p 240 ∧
    (s.admitted p r).fld (A.NI_ENUM p) F.NI_ENUM_PRIV = min r.priv (s.desc p 0x1A 1) % 4 ∧
    (s.admitted p r).fld (A.NI_ENUM p) F.NI_ENUM_HELD = 0 := by
  have hne {i j : Nat} (h : i ≠ j) : A.niBase p + i ≠ A.niBase p + j := niBase_add_ne p h
  have hdesc : ((s.wr (A.NI_ROUTE_HOME p) (s.routeAt (s.curTrav 192) p 240)).setFld (A.NI_PORT_CTL p)
      F.NI_PORT_CTL_MAX_OUT (State.desc (s.wr (A.NI_ROUTE_HOME p) (s.routeAt (s.curTrav 192) p 240)) p 0x18 2)).desc p 0x1A 1
        = s.desc p 0x1A 1 := State.desc_congr fun i hi => by
    obtain rfl : i = 0 := by omega
    rw [State.rd_setFld_ne _ _ _ (by simp only [A.NI_DESC, A.NI_PORT_CTL]; omega),
      State.rd_wr_ne _ _ (by simp only [A.NI_DESC, A.NI_ROUTE_HOME]; omega)]
  have hread (f : Fld) (a : Nat) : (s.admitted p r).fld a f = (s.admitFlds p r).fld a f := by
    rw [State.fld, State.admitted, State.rd_admitOver, State.fld]
  refine ⟨?_, ?_, (hread _ _).trans (State.fld_setFld_same _ _ _ _ (by decide))⟩
  · rw [State.admitted, State.rd_admitOver]
    unfold State.admitFlds
    dsimp only
    rw [State.rd_setFld_ne _ _ _ (hne (by decide)), State.rd_setFld_ne _ _ _ (hne (by decide)),
      State.rd_setFld_ne _ _ _ (hne (by decide)), State.rd_wr_same]
  · rw [hread]
    unfold State.admitFlds
    dsimp only
    rw [State.fld_setFld_apart _ _ _ _ _ (by decide) (by decide), State.fld_setFld_same _ _ _ _ (by decide), hdesc]
    rfl

end

/-- Settles O23: the mode by `execModeCauseUpdate_eq` and what `State.toMode` leaves, the admission by its step and
`State.admitted`. -/
theorem modesAndPortAdmission : Obligations.ModesAndPortAdmission := by
  refine ⟨⟨fun s hrun hf => ?_, fun s hm hrun hf => ?_, fun s m hm h => ⟨State.mode_toMode hm h, State.prev_toMode h,
    State.rd_toMode_MODE_TIME h, State.changes_toMode h⟩⟩, fun p s t0 hf h => ⟨fun hup => ?_, fun hup ht => ?_⟩,
    fun p s t0 r hf h hd hr => ?_⟩
  · have hm : 2 ≤ s.mode := by
      simp only [State.running, Bool.or_eq_true, decide_eq_true_eq] at hrun
      omega
    rw [execModeCauseUpdate_eq hm hf, hrun]
    refine ⟨_, rfl, ?_⟩
    rw [if_pos rfl]
    by_cases he : s.causeSet.mode = runMode s.causes
    · have hsame : s.causeSet.toMode (runMode s.causes) = s.causeSet := if_pos he
      rw [hsame]
      exact ⟨he, s.cause_causeSet⟩
    · exact ⟨State.mode_toMode (runMode_lt _) he, (State.cause_toMode he).trans s.cause_causeSet⟩
  · rw [execModeCauseUpdate_eq hm hf, hrun]
    rfl
  · show execPortAdmit p s = _
    unfold execPortAdmit
    dsimp only
    rw [if_neg hf, h]
    exact if_pos hup
  · show execPortAdmit p s = _
    unfold execPortAdmit
    dsimp only
    rw [if_neg hf, h]
    exact (if_neg (Bool.eq_false_iff.1 hup)).trans (if_neg (Nat.not_lt.2 ht))
  · have hjudge : exec (.portAdmit p) s = .next (s.admitJudge p.val) := by
      show execPortAdmit p s = _
      unfold execPortAdmit
      dsimp only
      rw [if_neg hf, h]
      rw [hd]
      rfl
    rw [hjudge]
    refine ⟨fun hm => congrArg Host.Outcome.next (State.admitJudge_mismatch hr hm), fun hm hreach hst => ?_⟩
    have hne {i j : Nat} (h : i ≠ j) : A.niBase p.val + i ≠ A.niBase p.val + j := niBase_add_ne p.val h
    have hkept {i : Nat} (hi : i ≠ 0x618 ∧ i ≠ 0x3900 ∧ i ≠ 0x4900) :
        (s.admitted p.val r).rd (A.niBase p.val + i) = s.rd (A.niBase p.val + i) :=
      State.rd_admitted_ne (hne hi.1) (hne hi.2.1) (hne hi.2.2)
    have hgo : ((s.admitted p.val r).portCmd p.val 1).1 = (s.admitted p.val r).portEnabled p.val := by
      have hst' : (s.admitted p.val r).niState p.val = PortStt.DISABLED :=
        (congrArg F.NI_CTL_STATE.get (hkept (by decide))).trans hst
      have hd' : (s.admitted p.val r).fld (A.NI_PORT_STATUS p.val) F.NI_PORT_STATUS_DESC_STATE = 2 :=
        (congrArg F.NI_PORT_STATUS_DESC_STATE.get (hkept (by decide))).trans hd
      rw [State.portCmd_enable, hst', if_neg (by decide), if_pos ⟨rfl, hd'⟩]
    obtain ⟨hhome, hpriv, hheld⟩ := s.admitted_spec (p := p.val) (r := r)
    obtain ⟨hen, _, hrd, _⟩ := (s.admitted p.val r).portEnabled_spec p.val
    have henum (f : Fld) : ((s.admitted p.val r).portEnabled p.val).fld (A.NI_ENUM p.val) f =
        (s.admitted p.val r).fld (A.NI_ENUM p.val) f :=
      congrArg f.get (hrd _ (hne (by decide)) (hne (by decide)))
    refine ⟨_, congrArg Host.Outcome.next ((State.admitJudge_admits hr hm hreach).trans hgo), hen, ?_,
      (henum _).trans hpriv, (henum _).trans hheld⟩
    rw [hrd _ (hne (by decide)) (hne (by decide)), hhome]

end Sys2Proof.Machine
end

section
/-!
PROOFS. The power states of a station (R329 to R334).
-/
namespace Sys2Proof.Machine

section
variable {s : State} {i : Fin 36}

/-! ### CLKGATE and RETAIN (R331, R332) -/

theorem execPowerStateEnter_eq (hp : s.pwrState i.val = 0) (hw : (s.stn i.val).wakeAt = none)
    (ht : (s.stn i.val).pwrTo = none) (hidle : s.stnIdle i.val = true) :
    exec (.powerStateEnter i) s = match lowerState (s.horizon i.val) (s.deepest i.val) with
      | some (lo, entry) => .next (s.modStn i.val (fun x => { x with pwrTo := some (lo, s.datum + entry) }))
      | none => .next s :=
  if_neg (by simp [hp, hw, ht, hidle])

theorem execPowerStateEnter_busy (h : s.stnIdle i.val = false) : exec (.powerStateEnter i) s = .next s :=
  if_pos (.inr (.inr (.inr (by rw [h]; rfl))))

/-- R331: a short horizon, or DEEPEST ACTIVE, keeps a station ACTIVE. -/
theorem lowerState_none {next deepest : Nat} (h : next < 7 ∨ deepest = 0) : lowerState next deepest = none := by
  unfold lowerState
  rw [if_neg (by omega), if_neg (by omega)]

theorem execPowerStateExit_eq (hp : s.pwrState i.val = 1 ∨ s.pwrState i.val = 2) (hw : (s.stn i.val).wakeAt = none) :
    exec (.powerStateExit i) s =
      (let be := (s.stn i.val).holdsFlit || s.inAccess i.val
       let u := s.modStn i.val (fun x => { x with wakeAt := some (s.datum + exitOf (s.pwrState i.val)) })
       if !be && decide (exitOf (s.pwrState i.val) < s.horizon i.val) then .next s
       else .next (if be then u.sat (A.STN_PWR_STATUS i.val) F.STN_PWR_STATUS_BE_WAKES else u)) :=
  if_neg (by rw [hw]; rintro (⟨h1, h2⟩ | h) <;> [exact hp.elim h1 h2; exact absurd h (by decide)])

/-! ### SLEEP (R333, R334) -/

theorem execSleepEnter_eq (hp : s.pwrState i.val < 3) (hd : s.deepest i.val = 3)
    (hr : s.bit (A.STN_PWR_CTL i.val) F.STN_PWR_CTL_SLEEP_REQ = true) :
    exec (.sleepEnter i) s = if s.setOpen || !s.stk.reqs.isEmpty || s.holdsResv i.val then .next s
      else if !s.allDown i.val then .next (s.linksOff i.val)
      else .next (((s.modStn i.val (fun x => { x with pwrTo := none, wakeAt := none })).setFld (A.STN_PWR_STATUS i.val)
        F.STN_PWR_STATUS_STATE 3).sat (A.STN_PWR_STATUS i.val) F.STN_PWR_STATUS_SLEEPS) := by
  show execSleepEnter i s = _
  unfold execSleepEnter
  dsimp only
  rw [if_neg (by omega), hr, if_neg (by decide)]

variable (s) (i)

/-- A station asleep. -/
theorem State.asleep_spec (f : StnSt → StnSt) :
    let t := ((s.modStn i.val f).setFld (A.STN_PWR_STATUS i.val) F.STN_PWR_STATUS_STATE 3).sat (A.STN_PWR_STATUS i.val)
      F.STN_PWR_STATUS_SLEEPS
    t.pwrState i.val = 3 ∧ t.stn i.val = f (s.stn i.val) := by
  refine ⟨?_, ?_⟩
  · rw [State.pwrState, State.fld_sat_apart _ _ _ _ _ (by decide) (by decide), State.fld_setFld_same _ _ _ _ (by decide)]
    rfl
  · rw [State.stn_of_stns (State.sat_stns ..), State.stn_of_stns (State.setFld_stns ..), State.stn_modStn_same]

/-- A station waking. -/
theorem State.waking_spec (f : StnSt → StnSt) :
    let t := (s.setFld (A.STN_PWR_STATUS i.val) F.STN_PWR_STATUS_STATE 4).modStn i.val f
    t.pwrState i.val = 4 ∧ t.stn i.val = f (s.stn i.val) := by
  refine ⟨?_, ?_⟩
  · rw [State.pwrState, State.fld, State.rd_modStn]
    exact State.fld_setFld_same _ _ _ _ (by decide)
  · rw [State.stn_modStn_same, State.stn_of_stns (State.setFld_stns ..)]

end

/-- Settles O56: each command by its tests. -/
theorem powerStates : Obligations.PowerStates := by
  refine fun i s => ⟨fun hp hw ht hidle => ⟨fun lo entry h => ?_, fun h => ?_⟩, execPowerStateEnter_busy,
    fun hp hw => ?_, fun hp hd hr ho hq hresv => ⟨fun ha => ?_, fun ha => ?_⟩, fun hp hd hr h => ?_,
    fun hp => ⟨fun h => ?_, fun hr ho => ?_⟩⟩
  · rw [execPowerStateEnter_eq hp hw ht hidle, h]
  · rw [execPowerStateEnter_eq hp hw ht hidle, lowerState_none h]
  · rw [execPowerStateExit_eq hp hw]
    extract_lets be u
    refine ⟨fun hbe => ?_, fun hbe hh => ?_, fun hbe hh => ?_⟩ <;> rw [hbe]
    · rfl
    · rw [decide_eq_false (Nat.not_lt.2 hh)]
      rfl
    · rw [decide_eq_true hh]
      rfl
  · rw [execSleepEnter_eq hp hd hr, ho, hq, hresv, ha]
    rfl
  · rw [execSleepEnter_eq hp hd hr, ho, hq, hresv, ha]
    obtain ⟨hst, hstn⟩ := s.asleep_spec i (fun x => { x with pwrTo := none, wakeAt := none })
    exact ⟨_, rfl, hst, congrArg StnSt.pwrTo hstn, congrArg StnSt.wakeAt hstn⟩
  · rw [execSleepEnter_eq hp hd hr]
    refine if_pos ?_
    simpa only [Bool.or_eq_true, Bool.not_eq_true', List.isEmpty_eq_false_iff, or_assoc] using h
  · obtain ⟨hst, hstn⟩ := s.waking_spec i (fun x => { x with wakeAt := some (s.datum + 8000) })
    refine ⟨_, if_neg ?_, hst, congrArg StnSt.wakeAt hstn⟩
    rintro (hne | ⟨hr, ho⟩)
    · exact hne hp
    · obtain h | h := h
      · exact absurd (h.symm.trans hr) (by decide)
      · rw [h] at ho
        exact absurd ho (by decide)
  · exact if_pos (.inr ⟨hr, by rw [ho]; rfl⟩)

end Sys2Proof.Machine
end

section
/-!
PROOFS. Triggers of re-plans, eyes, recentring and voltage steps (R354 to R358).
-/
namespace Sys2Proof.Machine

/-! ### Periods (R355) -/

section
variable (s : State)

/-- What a trigger leaves alone: the datum, the re-plan in progress, every register but the station's state. -/
theorem State.trigger_datum (st drift : Nat) : (s.trigger st drift).datum = s.datum := by
  unfold State.trigger
  split
  · rfl
  · rw [State.setFld_datum]

theorem State.trigger_replan (st drift : Nat) : (s.trigger st drift).fmp.replan = s.fmp.replan := by
  unfold State.trigger
  split
  · rfl
  · rw [State.setFld_fmp]

theorem State.rd_trigger_ne {st drift a : Nat} (h : a ≠ A.END_STN_STATUS st) : (s.trigger st drift).rd a = s.rd a := by
  unfold State.trigger
  split
  · rfl
  · rw [State.rd_setFld_ne _ _ _ h]
    rfl

/-- R355: the re-plans held stand, and one of the station is among them. -/
theorem State.trigger_replans (st drift : Nat) : (∀ q ∈ s.fmp.replans, q ∈ (s.trigger st drift).fmp.replans) ∧
    ∃ q ∈ (s.trigger st drift).fmp.replans, q.1 = st ∧ q.2.2 = 0 := by
  unfold State.trigger
  split
  · next h =>
    refine ⟨fun _ hq => hq, ?_⟩
    simpa only [List.any_eq_true, Bool.and_eq_true, decide_eq_true_eq] using h
  · rw [State.setFld_fmp]
    exact ⟨fun _ => List.mem_append_left _, _, List.mem_append_right _ (List.mem_singleton.2 rfl), rfl, rfl⟩

/-- What the FMP does at one station when periods are looked at. -/
def State.periodStep (s : State) (st : Nat) : State :=
  if s.periodOver st && (s.fmp.replan.map (·.st)) ≠ some st then s.trigger st 0 else s

theorem State.periodTriggers_eq {s : State} (hm : s.mode ≠ Mode.OFF) (hf : s.fwState ≠ Fw.HALTED)
    (ha : s.bit A.END_CFG F.END_CFG_AUTO = true) : s.periodTriggers = (List.range 36).foldl State.periodStep s :=
  if_neg (by simp [hm, hf, ha])

/-- Whether a station's period is over does not depend on the triggers of others. -/
theorem State.periodOver_periodStep (st i : Nat) : (s.periodStep st).periodOver i = s.periodOver i := by
  have hreplan : A.END_STN_REPLAN i ≠ A.END_STN_STATUS st := by
    simp only [A.END_STN_REPLAN, A.END_STN_STATUS, A.stnBase]
    omega
  have hcfg : A.END_CFG ≠ A.END_STN_STATUS st := by
    simp only [A.END_CFG, A.END_STN_STATUS, A.stnBase]
    omega
  unfold State.periodStep
  split
  · rw [State.periodOver, State.trigger_datum, State.rd_trigger_ne _ hreplan, State.fld, State.rd_trigger_ne _ hcfg]
    rfl
  · rfl

theorem State.replan_periodStep (st : Nat) : (s.periodStep st).fmp.replan = s.fmp.replan := by
  unfold State.periodStep
  split
  · rw [State.trigger_replan]
  · rfl

theorem State.periodTriggers_triggers {s : State} {i : Nat} (hi : i < 36) (hm : s.mode ≠ Mode.OFF) (hf : s.fwState ≠ Fw.HALTED)
    (ha : s.bit A.END_CFG F.END_CFG_AUTO = true) (ho : s.periodOver i = true) (hr : s.fmp.replan = none) :
    ∃ q ∈ s.periodTriggers.fmp.replans, q.1 = i ∧ q.2.2 = 0 := by
  rw [State.periodTriggers_eq hm hf ha]
  obtain ⟨l₁, l₂, hl⟩ := List.append_of_mem (List.mem_range.2 hi)
  rw [hl, List.foldl_append, List.foldl_cons]
  have hover : (l₁.foldl State.periodStep s).periodOver i = true :=
    (foldl_fixes (·.periodOver i) (fun t st => t.periodOver_periodStep st i) l₁ s).trans ho
  have hnone : (l₁.foldl State.periodStep s).fmp.replan = none :=
    (foldl_fixes (·.fmp.replan) (fun t st => t.replan_periodStep st) l₁ s).trans hr
  refine List.foldlRecOn (motive := fun t : State => ∃ q ∈ t.fmp.replans, q.1 = i ∧ q.2.2 = 0) l₂ State.periodStep ?_
    fun t ⟨q, hq, hqi⟩ st _ => ?_
  · rw [State.periodStep, if_pos (by rw [hover, hnone]; rfl)]
    exact (State.trigger_replans _ i 0).2
  · unfold State.periodStep
    split
    · exact ⟨q, (t.trigger_replans st 0).1 q hq, hqi⟩
    · exact ⟨q, hq, hqi⟩

end

/-! ### Eyes (R357) -/

section
variable {α β : Type} [DecidableEq β]

/-- A table into which the entries of a list are written by their places, those that `used` names. -/
theorem tget_foldl_zipIdx (d : β) (f : α → β) (used : List Nat) (l : List α) (k : Nat) (m : List (Nat × β)) (j : Nat) :
    tget d ((l.zipIdx k).foldl (fun m e => if used.contains e.2 then tset d m e.2 (f e.1) else m) m) j =
      ((if k ≤ j ∧ j ∈ used then l[j - k]? else none).map f).getD (tget d m j) := by
  induction l generalizing k m with
  | nil => simp
  | cons x l ih =>
    rw [List.zipIdx_cons, List.foldl_cons, ih]
    dsimp only
    have hother (h : j ≠ k) : tget d (if used.contains k then tset d m k (f x) else m) j = tget d m j := by
      split
      · exact tget_tset_ne _ _ _ h
      · rfl
    obtain hlt | rfl | hgt := Nat.lt_trichotomy j k
    · rw [hother (by omega), if_neg (by omega), if_neg (by omega)]
    · rw [if_neg (by omega)]
      by_cases hu : j ∈ used <;> simp [hu, tget_tset_same]
    · have hget : (x :: l)[j - k]? = l[j - (k + 1)]? := by
        rw [show j - k = j - (k + 1) + 1 by omega, List.getElem?_cons_succ]
      have hle : k + 1 ≤ j ↔ k ≤ j := by omega
      rw [hother (by omega), hget]
      simp only [hle]

end

section
variable {s : State} {i : Fin 36} {n : Fin 6} {r : Replan} {eyes : List LaneEye}

/-- R357: the eyes measured, as the direction keeps them. -/
def State.eyesKept (s : State) (d : Nat × Nat) (eyes : List LaneEye) : State :=
  let used := s.lanesUsed d.1 d.2
  s.modStn d.1 (fun x => x.modPort d.2 (fun q => { q with
    eye := (eyes.zipIdx).foldl (fun m e => if used.contains e.2 then tset (0, 0) m e.2 (e.1.1.val, e.1.2.val) else m) q.eye }))

/-- The worst of them, as END_LANE shows it. -/
def State.worstShown (s : State) (d : Nat × Nat) (used : List Nat) : State :=
  let worst := used.foldl (fun (m : Nat × Nat) l => if (s.eyeOf d l).1 < m.1 then ((s.eyeOf d l).1, l) else m) (65, 0)
  if used.isEmpty then s
  else (s.setFld (A.END_LANE d.1 d.2) F.END_LANE_WORST_EYE (min worst.1 63)).setFld (A.END_LANE d.1 d.2)
    F.END_LANE_WORST_LANE worst.2

theorem State.eyeOf_worstShown (d e : Nat × Nat) (used : List Nat) (l : Nat) :
    (s.worstShown d used).eyeOf e l = s.eyeOf e l := by
  have hstns : (s.worstShown d used).stns = s.stns := by
    unfold State.worstShown
    extract_lets worst
    split
    · rfl
    · rw [State.setFld_stns, State.setFld_stns]
  rw [State.eyeOf, State.stn_of_stns hstns, State.eyeOf]

theorem State.eyeOf_eyesKept {d : Nat × Nat} {l : Nat} {e : LaneEye} (hl : l ∈ s.lanesUsed d.1 d.2) (he : eyes[l]? = some e) :
    (s.eyesKept d eyes).eyeOf d l = (e.1.val, e.2.val) := by
  rw [State.eyeOf, State.eyesKept, State.stn_modStn_same, StnSt.port_modPort_same]
  refine (tget_foldl_zipIdx (0, 0) (fun e : LaneEye => (e.1.val, e.2.val)) _ _ 0 _ l).trans ?_
  rw [if_pos ⟨Nat.zero_le l, hl⟩, Nat.sub_zero, he]
  rfl

theorem execEyeMeasureEnd_eq (hr : s.fmp.replan = some r) : exec (.eyeMeasureEnd i n eyes) s =
    if r.step ≠ 1 ∨ r.dir ≠ (i.val, n.val) ∨ r.dirs.isEmpty ∨ s.datum < r.at' + 1048576 ∨ eyes.length ≠ 22 then .next s
    else .next ((((s.eyesKept (i.val, n.val) eyes).worstShown (i.val, n.val) (s.lanesUsed i.val n.val)).setReplan
      (some { r with step := 2, todo := r.guards })).pumpReplan) := by
  show execEyeMeasureEnd i n eyes s = _
  unfold execEyeMeasureEnd
  rw [hr]
  rfl

end

/-! ### Recentring and voltage steps (R356, R358) -/

section
variable {s : State} {i : Fin 36} {n : Fin 6} {r : Replan} {lane : Fin 22}

/-- R356 step 2: the phase moved one step. -/
def State.recentred (s : State) (d : Nat × Nat) (l : Nat) : State :=
  let p := tget 0 ((s.stn d.1).port d.2).phase l
  let p := if s.offCentre d l ≤ 32 then (p + 1) % 64 else (p + 63) % 64
  s.modStn d.1 (fun x => x.modPort d.2 (fun q => { q with
    phase := tset 0 q.phase l p, stepAt := tset 0 q.stepAt l s.datum }))

theorem execRecentreStep_eq (hr : s.fmp.replan = some r) (hs : r.step = 3) (hd : r.dir = (i.val, n.val)) :
    exec (.recentreStep i n lane) s = if !s.moves (i.val, n.val) lane.val ∨
        (tget 0 ((s.stn i.val).port n.val).stepAt lane.val ≠ 0 ∧
          s.datum < tget 0 ((s.stn i.val).port n.val).stepAt lane.val + 1024) then .next s
      else .next (s.recentred (i.val, n.val) lane.val) := by
  show execRecentreStep i n lane s = _
  unfold execRecentreStep
  rw [hr]
  dsimp only
  rw [hs, hd]
  simp only [ne_eq, not_true_eq_false, false_or]
  rfl

theorem State.recentred_spec (d : Nat × Nat) (l : Nat) :
    tget 0 (((s.recentred d l).stn d.1).port d.2).phase l =
      (if s.offCentre d l ≤ 32 then (tget 0 ((s.stn d.1).port d.2).phase l + 1) % 64
        else (tget 0 ((s.stn d.1).port d.2).phase l + 63) % 64) ∧
    tget 0 (((s.recentred d l).stn d.1).port d.2).stepAt l = s.datum := by
  rw [State.recentred, State.stn_modStn_same, StnSt.port_modPort_same]
  exact ⟨tget_tset_same .., tget_tset_same ..⟩

/-- R358: the step acknowledged. -/
def State.vreqTaken (s : State) (v : Nat) : State :=
  { s with host := { s.host with vreqPin := v }, fmp := { s.fmp with vreqAt := none, vreqOut := false } }

theorem execVreqStepAck_taken {v : Fin 13} (h : v.val = s.fld A.END_VREQ F.END_VREQ_STEPS) :
    exec (.vreqStepAck v) s = .next ((s.vreqTaken v.val).setFld A.END_VREQ F.END_VREQ_ACKED v.val) :=
  if_neg (not_not.2 h)

theorem execReplanStart_eq (hr : s.fmp.replan = none) (hf : s.fwState ≠ Fw.HALTED) (hm : s.mode ≠ Mode.OFF) :
    exec (.replanStart i) s = match s.fmp.replans.find? (fun q => q.2.2 ≠ 0 || s.autoReplan) with
    | some q =>
      if q.1 ≠ i.val then .next s
      else
        let s := { s with fmp := { s.fmp with replans := s.fmp.replans.erase q } }
        let s := if q.2.2 = 0 then s.setFld (A.END_STN_STATUS i.val) F.END_STN_STATUS_TRIGGERED 0 else s
        .next (s.setReplan (some { st := i.val, drift := if q.2.2 = 0 then q.2.1 else 0, ticket := q.2.2 })).pumpReplan
    | none => .next s :=
  if_neg (by simp [hr, hf, hm])

end

/-- Settles O59: each command by its tests; the trigger of a period by `State.periodTriggers_triggers`. -/
theorem replanAndVoltage : Obligations.ReplanAndVoltage := by
  refine ⟨fun i s => ⟨fun h => ?_, fun hr hf hm => ⟨fun q hq => ⟨fun hi => ?_, fun hi hz => ?_, fun hi hz => ?_⟩, fun hq => ?_⟩⟩,
    fun i s hm hf ha ho hr => State.periodTriggers_triggers i.isLt hm hf ha ho hr,
    fun i n eyes s => ⟨fun hr => ?_, fun r hr hs hd hne hlen => ⟨fun ht => ?_, fun ht => ?_⟩⟩,
    fun i n lane s r hr hs hd => ⟨fun h => ?_, fun hmv ht => ?_⟩,
    fun v s => ⟨fun hv => ⟨_, execVreqStepAck_taken hv, ?_, ?_, ?_⟩, fun hv => if_pos hv⟩,
    fun s => ⟨fun h => ?_, fun t h => ⟨fun ht => ?_, fun ht => ?_⟩⟩⟩
  · exact if_pos h
  · rw [execReplanStart_eq hr hf hm, hq]
    exact if_pos hi
  · rw [execReplanStart_eq hr hf hm, hq]
    refine (if_neg (not_not.2 hi)).trans ?_
    dsimp only
    rw [if_neg hz, if_neg hz]
  · rw [execReplanStart_eq hr hf hm, hq]
    refine (if_neg (not_not.2 hi)).trans ?_
    dsimp only
    rw [if_pos hz, if_pos hz, hz]
  · rw [execReplanStart_eq hr hf hm, hq]
  · show execEyeMeasureEnd i n eyes s = _
    unfold execEyeMeasureEnd
    rw [hr]
  · rw [execEyeMeasureEnd_eq hr]
    exact if_pos (.inr (.inr (.inr (.inl ht))))
  · rw [execEyeMeasureEnd_eq hr, if_neg (by simp [hs, hd, hne, hlen, ht])]
    exact ⟨_, rfl, _, rfl, fun l hl e he => (State.eyeOf_worstShown ..).trans (State.eyeOf_eyesKept hl he)⟩
  · rw [execRecentreStep_eq hr hs hd]
    exact if_pos (h.imp_left fun h => by rw [h]; rfl)
  · rw [execRecentreStep_eq hr hs hd, if_neg (not_or.2 ⟨by rw [hmv]; decide, fun h => ht.elim h.1 (Nat.not_le.2 h.2)⟩)]
    exact ⟨_, rfl, s.recentred_spec ..⟩
  · exact (State.fld_setFld_same _ _ _ _ (by decide)).trans (Nat.mod_eq_of_lt (by show v.val < 16; omega))
  · rw [State.setFld_fmp, State.vreqTaken]
  · rw [State.setFld_host, State.vreqTaken]
  · show execVreqNoack s = _
    unfold execVreqNoack
    rw [h]
  · show execVreqNoack s = _
    unfold execVreqNoack
    rw [h]
    exact if_pos ht
  · show execVreqNoack s = _
    unfold execVreqNoack
    rw [h]
    exact if_neg (Nat.not_lt.2 ht)

end Sys2Proof.Machine
end

section
/-!
PROOFS. Scans, lane failures, tests and training (R352 to R368).
-/
namespace Sys2Proof.Machine

/-! ### Tickets (R255) -/

section
variable (s : State)

/-- What a ticket written leaves alone: of the FMP all but the tickets, of the registers all but GLB_FMP_STATUS. -/
theorem State.putTkt_spec (t : Tkt) : (s.putTkt t).fmp.scanAt = s.fmp.scanAt ∧ (s.putTkt t).fmp.tests = s.fmp.tests ∧
    (s.putTkt t).datum = s.datum ∧ ∀ a, a ≠ A.GLB_FMP_STATUS → (s.putTkt t).rd a = s.rd a := by
  unfold State.putTkt State.setTickets
  rw [State.setFld_fmp, State.setFld_datum]
  exact ⟨rfl, rfl, rfl, fun a ha => State.rd_setFld_ne _ _ _ ha⟩

theorem State.tktResult_spec (num : Nat) (ws : List Nat) : (s.tktResult num ws).fmp.scanAt = s.fmp.scanAt ∧
    (s.tktResult num ws).fmp.tests = s.fmp.tests ∧ ∀ a, a ≠ A.GLB_FMP_STATUS → (s.tktResult num ws).rd a = s.rd a := by
  unfold State.tktResult
  split
  · obtain ⟨hscan, htests, _, hrd⟩ := s.putTkt_spec _
    exact ⟨hscan, htests, hrd⟩
  · exact ⟨rfl, rfl, fun _ _ => rfl⟩

/-! ### Benchmark scans (R353, R354) -/

/-- What a scan is judged by: when the one in progress began, and the register that counts them. -/
def State.scanView : Option Nat × Word := (s.fmp.scanAt, s.rd A.END_STATUS)

theorem State.scanView_setFld {a : Nat} (f : Fld) (v : Nat) (h : A.END_STATUS ≠ a) : (s.setFld a f v).scanView = s.scanView := by
  rw [State.scanView, State.setFld_fmp, State.rd_setFld_ne _ _ _ h, State.scanView]

theorem END_STATUS_ne_stn (st k : Nat) : A.END_STATUS ≠ A.stnBase st + k := by
  simp only [A.END_STATUS, A.stnBase]
  omega

theorem State.scanView_postReading (st j : Nat) (x : BenchReading) : (s.postReading st j x).scanView = s.scanView := by
  have h : A.END_STATUS ≠ A.END_BENCH st j := by
    simp only [A.END_STATUS, A.END_BENCH, A.stnBase]
    omega
  unfold State.postReading
  dsimp only
  rw [State.scanView_setFld _ _ _ h, State.scanView_setFld _ _ _ h]

theorem State.scanView_trigger (st drift : Nat) : (s.trigger st drift).scanView = s.scanView := by
  unfold State.trigger
  split
  · rfl
  · exact State.scanView_setFld _ _ _ (END_STATUS_ne_stn _ _)

theorem State.scanView_tktResult (num : Nat) (ws : List Nat) : (s.tktResult num ws).scanView = s.scanView := by
  obtain ⟨hscan, _, hrd⟩ := s.tktResult_spec num ws
  rw [State.scanView, hscan, hrd _ (by decide), State.scanView]

theorem State.scanView_gcnt : (s.gcnt 45).scanView = s.scanView := by
  have hscan : (s.gcnt 45).fmp.scanAt = s.fmp.scanAt := congrArg (·.fmp.scanAt) (s.gcnt_eventsOnly 45 1).rest
  rw [State.scanView, hscan, State.gcnt, State.rd_cnt_ne s 1 (by decide), State.scanView]

/-- R354, R355: the drift of a station as it is shown, with the re-plan that it triggers. -/
def State.driftSeen (s : State) (st : Nat) : State :=
  let d := s.stnDrift st
  let s := s.setFld (A.END_STN_STATUS st) F.END_STN_STATUS_DRIFT d
  if s.bit A.END_CFG F.END_CFG_AUTO && decide (s.fld A.END_CFG F.END_CFG_DRIFT_LIMIT < d) then s.trigger st d else s

theorem State.scanView_driftSeen (st : Nat) : (s.driftSeen st).scanView = s.scanView := by
  unfold State.driftSeen
  dsimp only
  split
  · rw [State.scanView_trigger, State.scanView_setFld _ _ _ (END_STATUS_ne_stn _ _)]
  · rw [State.scanView_setFld _ _ _ (END_STATUS_ne_stn _ _)]

/-- The scan over, its readings posted. -/
def State.scanPosted (s : State) (rd : List BenchReading) : State :=
  (List.range 36).foldl State.driftSeen ((rd.zipIdx).foldl (fun s e => s.postReading (e.2 / 16) (e.2 % 16) e.1)
    { s with fmp := { s.fmp with scanAt := none } })

theorem State.scanView_scanPosted (rd : List BenchReading) : (s.scanPosted rd).scanView = (none, s.rd A.END_STATUS) := by
  unfold State.scanPosted
  rw [foldl_fixes State.scanView (fun t st => t.scanView_driftSeen st),
    foldl_fixes State.scanView (fun (t : State) (e : BenchReading × Nat) => t.scanView_postReading (e.2 / 16) (e.2 % 16) e.1)]
  rfl

theorem State.scanPosted_spec (rd : List BenchReading) :
    (s.scanPosted rd).fmp.scanAt = none ∧ (s.scanPosted rd).rd A.END_STATUS = s.rd A.END_STATUS :=
  Prod.mk.inj (s.scanView_scanPosted rd)

/-- The scan counted, and its tickets told. -/
def State.scanTold (s : State) : State :=
  let s := (s.sat A.END_STATUS F.END_STATUS_SCANS).gcnt 45
  let worst := (List.range 36).foldl (fun m st => max m (s.fld (A.END_STN_STATUS st) F.END_STN_STATUS_DRIFT)) 0
  (s.scanTkts 2).foldl (fun s t => s.tktResult t.num [0, worst]) s

theorem State.scanView_scanTold : s.scanTold.scanView = (s.sat A.END_STATUS F.END_STATUS_SCANS).scanView := by
  unfold State.scanTold
  extract_lets t worst
  rw [foldl_fixes State.scanView (fun (t : State) (k : Tkt) => t.scanView_tktResult k.num [0, worst]), State.scanView_gcnt]

theorem State.scanTold_spec : s.scanTold.fmp.scanAt = s.fmp.scanAt ∧ s.scanTold.fld A.END_STATUS F.END_STATUS_SCANS =
    min (s.fld A.END_STATUS F.END_STATUS_SCANS + 1) (2 ^ F.END_STATUS_SCANS.w - 1) := by
  obtain ⟨hscan, hcount⟩ := Prod.mk.inj s.scanView_scanTold
  refine ⟨hscan.trans (by rw [State.sat_fmp]), ?_⟩
  rw [State.fld, hcount]
  exact State.fld_sat_same _ _ _ _ (by decide)

variable {s} {rd : List BenchReading} {t0 : Nat}

theorem execBenchmarkScanEnd_eq (hs : s.fmp.scanAt = some t0) (hl : rd.length = 576) (ht : t0 + 65536 ≤ s.datum) :
    exec (.benchmarkScanEnd rd) s = .next (s.scanPosted rd).scanTold := by
  show execBenchmarkScanEnd rd s = _
  unfold execBenchmarkScanEnd
  rw [hs]
  exact if_neg (by omega)

/-- R353: the tickets that waited for a scan, and the scan begun. -/
def State.scanBegun (s : State) : State :=
  let s := (s.scanTkts 1).foldl (fun s t => s.putTkt { t with stage := 2 }) s
  { s with fmp := { s.fmp with scanAt := some s.datum } }

theorem execBenchmarkScanStart_eq (hs : s.fmp.scanAt = none) (hm : s.mode ≠ Mode.OFF)
    (h : s.datum % 2 ^ 31 = 0 ∨ s.scanTkts 1 ≠ []) : exec .benchmarkScanStart s = .next s.scanBegun :=
  if_neg (by simpa [hs, hm, imp_iff_not_or] using h)

theorem State.scanBegun_scanAt : s.scanBegun.fmp.scanAt = some s.datum := by
  have h : ((s.scanTkts 1).foldl (fun s t => s.putTkt { t with stage := 2 }) s).datum = s.datum :=
    foldl_fixes (·.datum) (fun t k => (t.putTkt_spec _).2.2.1) _ s
  exact congrArg some h

end

/-! ### Failures of lanes (R359, R360) -/

section
variable {s : State} {st n lane : Nat}

theorem State.lockLost_fmp : (s.lockLost st n lane).fmp = s.fmp := by
  rw [State.lockLost, State.setFld_fmp, State.modStn_fmp]

theorem State.laneFail_out (hard : Bool) (h : s.laneOut st n lane = true) : s.laneFail st n lane hard = s := if_pos h

theorem State.laneFails_laneFail (h : s.laneOut st n lane = false) (hf : s.fmp.laneFails = []) (ho : s.fmp.own7 = none) :
    (s.laneFail st n lane true).fmp.laneFails = [⟨st, n, lane⟩] := by
  unfold State.laneFail
  dsimp only
  rw [if_neg (Bool.eq_false_iff.1 h), hf, ho, if_neg (by simp), if_pos rfl]
  dsimp only
  rw [State.lockLost_fmp, State.sat_fmp, hf]
  rfl

theorem execFailureStakeClose_none (hf : s.fwState ≠ Fw.HALTED) (ho : s.fmp.own7 = none) : exec .failureStakeClose s =
    if s.fmp.laneFails.isEmpty || !s.idle7 || !s.openMode then .next s
    else .next ({ s with fmp := { s.fmp with own7 := some { kind := 1, fails := s.fmp.laneFails }, laneFails := [] } }.open7) := by
  show execFailureStakeClose s = _
  unfold execFailureStakeClose
  rw [if_neg hf, ho]

theorem execFailureStakeClose_some {o : Own7} (hf : s.fwState ≠ Fw.HALTED) (ho : s.fmp.own7 = some o) :
    exec .failureStakeClose s =
      if o.kind = 1 then .next (if s.setSt 7 = SetSt.OPEN then s.closeFailure o.fails else s)
      else if (o.kind = 3 ∨ o.kind = 4) ∧ !s.fmp.laneFails.isEmpty ∧ (s.setSt 7 = SetSt.OPENING ∨ s.setSt 7 = SetSt.OPEN ∨
        s.setSt 7 = SetSt.CLOSING ∨ s.setSt 7 = SetSt.WAITING) then .next (s.abortSet 7 1)
      else .next s := by
  show execFailureStakeClose s = _
  unfold execFailureStakeClose
  rw [if_neg hf, ho]

end

/-! ### Windows of corrected errors (R359) -/

/-- What holds once an element has been folded in, and stays, holds after the fold. -/
theorem foldl_reaches {α : Type} {f : State → α → State} {P : State → Prop} {x : α} {l : List α} (hx : x ∈ l)
    (hnow : ∀ s, P (f s x)) (hstays : ∀ s y, P s → P (f s y)) (s : State) : P (l.foldl f s) := by
  obtain ⟨l₁, l₂, rfl⟩ := List.append_of_mem hx
  rw [List.foldl_append, List.foldl_cons]
  exact List.foldlRecOn (motive := P) l₂ f (hnow _) fun t ht y _ => hstays t y ht

section
variable (s : State) (st i : Nat)

/-- The counts of a station's directions cleared. -/
def State.sbeCleared (s : State) (st : Nat) : State :=
  s.modStn st (fun x => { x with ports := x.ports.map (fun e => (e.1, { e.2 with sbe := [] })) })

/-- What the end of a window does at one station. -/
def State.windowEnd (s : State) (st : Nat) : State :=
  (List.range 6).foldl (fun s n => s.setFld (A.END_LANE st n) F.END_LANE_WORST_SBE 0) (s.sbeCleared st)

theorem execSbeWindowEnd_eq {s : State} (h : s.datum % 2 ^ 24 = 0) :
    exec .sbeWindowEnd s = .next ((List.range 36).foldl State.windowEnd s) := if_neg (not_not.2 h)

/-- No corrected error of a station's directions is counted. -/
def State.noSbe (s : State) (i : Nat) : Prop := ∀ e ∈ (s.stn i).ports, e.2.sbe = []

theorem State.stn_windowEnd : (s.windowEnd st).stns = (s.sbeCleared st).stns :=
  foldl_fixes State.stns (fun t _ => State.setFld_stns t _ _ _) _ _

theorem State.noSbe_windowEnd : (s.windowEnd st).noSbe st := by
  unfold State.noSbe
  rw [State.stn_of_stns (s.stn_windowEnd st), State.sbeCleared, State.stn_modStn_same]
  intro e he
  obtain ⟨x, _, rfl⟩ := List.mem_map.1 he
  rfl

theorem State.noSbe_windowEnd_of (h : s.noSbe i) : (s.windowEnd st).noSbe i := by
  by_cases hi : i = st
  · exact hi ▸ s.noSbe_windowEnd i
  · unfold State.noSbe
    rw [State.stn_of_stns (s.stn_windowEnd st), State.sbeCleared, State.stn_modStn_ne _ _ hi]
    exact h

/-- WORST_SBE of a direction is 0. -/
def State.worstClear (s : State) (i n : Nat) : Prop := s.fld (A.END_LANE i n) F.END_LANE_WORST_SBE = 0

theorem State.worstClear_setFld (n m : Nat) (h : A.END_LANE i n = A.END_LANE st m ∨ s.worstClear i n) :
    (s.setFld (A.END_LANE st m) F.END_LANE_WORST_SBE 0).worstClear i n := by
  unfold State.worstClear
  by_cases he : A.END_LANE i n = A.END_LANE st m
  · rw [he, State.fld_setFld_same _ _ _ _ (by decide)]
    rfl
  · rw [State.fld_setFld_ne _ _ _ _ he]
    exact h.resolve_left he

theorem State.worstClear_windowEnd {n : Nat} (hn : n < 6) : (s.windowEnd i).worstClear i n := by
  refine foldl_reaches (P := (State.worstClear · i n)) (x := n) (List.mem_range.2 hn) (fun t => ?_) (fun t m ht => ?_) _
  · exact t.worstClear_setFld i i n n (.inl rfl)
  · exact t.worstClear_setFld i i n m (.inr ht)

theorem State.worstClear_windowEnd_of (n : Nat) (h : s.worstClear i n) : (s.windowEnd st).worstClear i n :=
  List.foldlRecOn (motive := (State.worstClear · i n)) _ _ h fun t ht m _ => t.worstClear_setFld st i n m (.inr ht)

end

/-! ### Tests (R364 to R367) -/

section
variable {s : State} {i : Fin 36} {n : Fin 6} {lane : Fin 22} {pass : Bool} {eye : LaneEye} {t : Test}

/-- The lane under test of a direction. -/
def State.laneTest (s : State) (d : Nat × Nat) (l : Nat) : Option Test :=
  s.fmp.tests.find? (fun t => t.run && t.kind ≠ 3 && t.lane = some l && t.dirNow = d)

theorem execLaneTestEnd_early (h : s.laneTest (i.val, n.val) lane.val = some t) (ht : s.datum < t.at' + 1048576) :
    exec (.laneTestEnd i n lane pass eye) s = .next s := by
  unfold State.laneTest at h
  show execLaneTestEnd i n lane pass eye s = _
  unfold execLaneTestEnd
  dsimp only
  rw [h]
  exact if_pos ht

/-- R363: a pattern test fails the lane that does not pass it. -/
theorem State.judgeLane_bad {l : Nat} (hk : t.kind = 1) : (s.judgeLane t l pass eye).2 = !pass := by
  unfold State.judgeLane
  dsimp only
  rw [if_pos hk]

/-- A test as it now stands, and what the FMP next does for it. -/
def State.laneTested (s : State) (t : Test) : State := (s.putTest t).pumpTest t

/-- The test of a lane of direction 0 ends. -/
theorem execLaneTestEnd_eq (h : s.laneTest (i.val, n.val) lane.val = some t) (ht : t.at' + 1048576 ≤ s.datum)
    (hk : t.kind = 1) (hd : t.dir = 0) {x : State} {u : Test}
    (hx : x = if pass then (s.judgeLane t lane.val pass eye).1 else (s.judgeLane t lane.val pass eye).1.bistFail t.dirNow lane.val)
    (hu : u = { t with lane := none, done := t.done + 1, bad0 := t.bad0 + if pass then 0 else 2 ^ lane.val }) :
    exec (.laneTestEnd i n lane pass eye) s = .next (x.laneTested u) := by
  have hbad := s.judgeLane_bad (pass := pass) (eye := eye) (l := lane.val) hk
  unfold State.laneTest at h
  show execLaneTestEnd i n lane pass eye s = _
  unfold execLaneTestEnd
  dsimp only
  rw [h]
  refine (if_neg (Nat.not_lt.2 ht)).trans (congrArg Host.Outcome.next ?_)
  generalize s.judgeLane t lane.val pass eye = y at hbad hx
  obtain ⟨y, bad⟩ := y
  subst hbad
  dsimp only at hx ⊢
  rw [if_pos hk, if_pos hd]
  refine congrArg₂ State.laneTested ?_ ?_
  · rw [hx]
    cases pass <;> rfl
  · rw [hu]
    cases pass <;> rfl

/-- R367: the test of a station has ended. -/
def State.bistEnded (s : State) (st fail : Nat) : State :=
  let s := (s.freeStation st).modStn st (fun x => { x with vcs := [], outs := [] })
  (s.setFld (A.END_STN_STATUS st) F.END_STN_STATUS_BIST (if fail = 0 then 1 else 2)).setFld (A.END_STN_STATUS st)
    F.END_STN_STATUS_BIST_BLOCK fail

/-- Its test taken from the queue. -/
def State.testGone (s : State) (t : Test) : State := s.setTests (s.fmp.tests.filter (fun x => x.ticket ≠ t.ticket))

theorem State.testGone_spec (s : State) (t : Test) : (∀ x ∈ (s.testGone t).fmp.tests, x.ticket ≠ t.ticket) ∧
    ∀ a, a ≠ A.END_STATUS → (s.testGone t).rd a = s.rd a := by
  unfold State.testGone State.setTests
  dsimp only
  refine ⟨fun x hx => ?_, fun a ha => ?_⟩
  · rw [State.setFld_fmp, State.setFld_fmp, State.setFld_fmp] at hx
    exact of_decide_eq_true (List.mem_filter.1 hx).2
  · rw [State.rd_setFld_ne _ _ _ ha, State.rd_setFld_ne _ _ _ ha, State.rd_setFld_ne _ _ _ ha]
    rfl

theorem execStationBistEnd_eq {f : Fin 7} (h : s.fmp.tests.find? (fun t => t.run && t.kind = 3 && t.st = i.val) = some t) :
    exec (.stationBistEnd i f) s =
      .next (((s.bistEnded i.val f.val).testGone t).tktResult t.ticket [if f.val = 0 then 0 else 1, f.val]) := by
  show execStationBistEnd i f s = _
  unfold execStationBistEnd
  dsimp only
  rw [h]
  rfl

theorem State.fld_bistEnded (s : State) (st : Nat) {fail : Nat} (hf : fail < 7) :
    (s.bistEnded st fail).fld (A.END_STN_STATUS st) F.END_STN_STATUS_BIST = (if fail = 0 then 1 else 2) ∧
    (s.bistEnded st fail).fld (A.END_STN_STATUS st) F.END_STN_STATUS_BIST_BLOCK = fail := by
  refine ⟨(State.fld_setFld_apart _ _ _ _ _ (by decide) (by decide)).trans ?_,
    (State.fld_setFld_same _ _ _ _ (by decide)).trans (Nat.mod_eq_of_lt (by show fail < 16; omega))⟩
  refine (State.fld_setFld_same _ _ _ _ (by decide)).trans ?_
  split <;> rfl

/-- The end of a test leaves what the station shows of it. -/
theorem State.fld_bistTold (s : State) (t : Test) (ws : List Nat) (st : Nat) (g : Fld) :
    ((s.testGone t).tktResult t.ticket ws).fld (A.END_STN_STATUS st) g = s.fld (A.END_STN_STATUS st) g := by
  have hne : A.END_STN_STATUS st ≠ A.GLB_FMP_STATUS := by
    simp only [A.END_STN_STATUS, A.GLB_FMP_STATUS, A.stnBase]
    omega
  rw [State.fld, ((s.testGone t).tktResult_spec t.ticket ws).2.2 _ hne,
    (s.testGone_spec t).2 _ (END_STATUS_ne_stn _ _).symm, State.fld]

/-! ### Training (R368) -/

theorem execLinkTrainDone_eq {up : Bool} (hm : s.mode ≠ Mode.OFF) (ht : s.mayTrain (i.val, n.val) = true)
    (h : s.linkState i.val n.val = LinkSt.DOWN ∨ s.linkState i.val n.val = LinkSt.TRAIN) :
    exec (.linkTrainDone i n up) s = .next (if up then s.dirUp (i.val, n.val) else s.dirDown (i.val, n.val)) := by
  refine if_neg ?_
  rw [ht]
  rintro (h0 | ⟨h1, h2⟩ | h3)
  · exact hm h0
  · exact h.elim h1 h2
  · exact absurd h3 (by decide)

theorem State.linkState_dirDown {st p : Nat} (hst : st < 36) (hp : p < 6) :
    (s.dirDown (st, p)).linkState st p = LinkSt.DOWN := by
  unfold State.dirDown
  split
  · assumption
  · have hne : A.STN_LINK st p ≠ A.STN_EVT_CAUSE st := by
      simp only [A.STN_LINK, A.STN_EVT_CAUSE]
      omega
    have hlo : 0x100000 ≤ A.STN_LINK st p := Nat.le_add_right_of_le (Nat.le_add_right_of_le (Nat.le_add_right ..))
    rw [State.linkState, State.fld, State.rd_stnCause _ 0 hst hlo hne]
    exact State.fld_setFld_same _ _ _ _ (by decide)

end

/-- Settles O58: each command by its tests, and what its effect leaves. -/
theorem scansFailuresAndTests : Obligations.ScansFailuresAndTests := by
  refine ⟨fun s => ⟨fun h => ?_, fun hd hq => ?_, fun hs hm h => ⟨_, execBenchmarkScanStart_eq hs hm h, State.scanBegun_scanAt⟩⟩,
    fun rd s t0 hs hl => ⟨fun ht => ?_, fun ht => ⟨_, execBenchmarkScanEnd_eq hs hl ht, ?_, ?_⟩⟩,
    fun i n lane s => ⟨rfl, State.laneFail_out true, State.laneFails_laneFail⟩,
    fun s hf => ⟨fun ho h => ?_, fun ho hl hi hm => ?_, fun o ho hk => ⟨fun h => ?_, fun h => ?_⟩, fun o ho hk hl hst => ?_⟩,
    fun s => ⟨fun h => if_pos h, fun h => ⟨_, execSbeWindowEnd_eq h, fun i n => ⟨?_, ?_⟩⟩⟩,
    fun s hf => ⟨fun h => ?_, fun t h => ?_⟩,
    fun i n lane pass eye s t h => ⟨execLaneTestEnd_early h, fun ht hk hd => ⟨fun hp => ?_, fun hp => ?_⟩⟩,
    fun i f s t h => ⟨_, execStationBistEnd_eq h, ?_, ?_, ?_⟩,
    fun i n up s hm ht h => ⟨fun hup => ?_, fun hup => ⟨?_, State.linkState_dirDown i.isLt n.isLt⟩⟩⟩
  · exact if_pos (h.imp_right .inl)
  · exact if_pos (.inr (.inr ⟨hd, by rw [hq]; rfl⟩))
  · show execBenchmarkScanEnd rd s = _
    unfold execBenchmarkScanEnd
    rw [hs]
    exact if_pos (.inl ht)
  · rw [(State.scanTold_spec _).1, (s.scanPosted_spec rd).1]
  · rw [(State.scanTold_spec _).2, State.fld, (s.scanPosted_spec rd).2, State.fld]
  · rw [execFailureStakeClose_none hf ho]
    refine if_pos ?_
    obtain h | h | h := h <;> rw [h] <;> simp
  · rw [execFailureStakeClose_none hf ho]
    exact if_neg (by simp [hl, hi, hm])
  · rw [execFailureStakeClose_some hf ho, if_pos hk, if_pos h]
  · rw [execFailureStakeClose_some hf ho, if_pos hk, if_neg h]
  · rw [execFailureStakeClose_some hf ho, if_neg (by omega), if_pos ⟨hk, by simp [hl], hst⟩]
  · exact foldl_reaches (P := (State.worstClear · i.val n.val)) (List.mem_range.2 i.isLt)
      (fun t => t.worstClear_windowEnd i.val n.isLt) (fun t st => t.worstClear_windowEnd_of st i.val n.val) s
  · exact foldl_reaches (P := (State.noSbe · i.val)) (List.mem_range.2 i.isLt)
      (fun t => t.noSbe_windowEnd i.val) (fun t st => t.noSbe_windowEnd_of st i.val) s
  · show execTestStart s = _
    unfold execTestStart
    rw [if_neg hf, h]
  · show execTestStart s = _
    unfold execTestStart
    rw [if_neg hf, h]
  · exact execLaneTestEnd_eq h ht hk hd (if_pos hp).symm (by rw [hp]; rfl)
  · exact execLaneTestEnd_eq h ht hk hd (if_neg (Bool.eq_false_iff.1 hp)).symm (by rw [hp]; rfl)
  · exact (State.fld_bistTold ..).trans (s.fld_bistEnded i.val f.isLt).1
  · exact (State.fld_bistTold ..).trans (s.fld_bistEnded i.val f.isLt).2
  · rw [(State.tktResult_spec _ t.ticket _).2.1]
    exact ((s.bistEnded i.val f.val).testGone_spec t).1
  · rw [execLinkTrainDone_eq hm ht h, hup, if_pos rfl]
  · rw [execLinkTrainDone_eq hm ht h, hup, if_neg Bool.false_ne_true]

end Sys2Proof.Machine
end

section
/-!
PROOFS. Federation ports: what SYNC messages, lost partners and packets built leave of FED_STATUS (R399 to R411).
-/
namespace Sys2Proof.Machine

/-! ### Federation agents -/

section
variable (s : State)

@[simp] theorem State.fed_modFed_same (f : Nat) (g : FedSt → FedSt) : (s.modFed f g).fed f = g (s.fed f) :=
  State.fed_setFed_same ..

@[simp] theorem State.rd_modFed (f : Nat) (g : FedSt → FedSt) (a : Nat) : (s.modFed f g).rd a = s.rd a := rfl
@[simp] theorem State.rd_modAgent (b : Nat) (g : Agent → Agent) (a : Nat) : (s.modAgent b g).rd a = s.rd a := rfl
@[simp] theorem State.rd_setAgent (b : Nat) (x : Agent) (a : Nat) : (s.setAgent b x).rd a = s.rd a := rfl

theorem State.fed_of_feds {s t : State} (h : t.feds = s.feds) (f : Nat) : t.fed f = s.fed f := by
  rw [State.fed, h, State.fed]

theorem fedBase_add_ne (f : Nat) {i j : Nat} (h : i ≠ j) : A.fedBase f + i ≠ A.fedBase f + j := (add_right_injective _).ne h

theorem FED_STATUS_ne (f : Nat) {i : Nat} (h : i ≠ 0x208) : A.FED_STATUS f ≠ A.fedBase f + i := fedBase_add_ne f h.symm

/-- A cause of a federation agent (R296). -/
theorem State.fedCause_eventsOnly (f b : Nat) : s.EventsOnly (s.fedCause f b) := by
  have ha : 0x30000 ≤ A.FED_EVT_CAUSE f := Nat.le_add_right_of_le (Nat.le_add_right_of_le (by decide))
  exact ((s.setFld_eventsOnly _ _ ha).trans (State.seeRise_eventsOnly ..)).trans (State.seeRise_eventsOnly ..)

theorem State.fed_fedCause (f b k : Nat) : (s.fedCause f b).fed k = s.fed k :=
  State.fed_of_feds (congrArg State.feds (s.fedCause_eventsOnly f b).rest) k

theorem State.rd_FED_STATUS_fedCause {f : Nat} (hf : f < 12) (b : Nat) :
    (s.fedCause f b).rd (A.FED_STATUS f) = s.rd (A.FED_STATUS f) := by
  have ha : 0x100000 ≤ A.FED_STATUS f := Nat.le_add_right_of_le (Nat.le_add_right_of_le (by decide))
  have hi : 1320 + 2 * f + 1 < 0x10000 := by omega
  exact ((State.rd_seeRise _ _ hi ha).trans (State.rd_seeRise _ _ (by omega) ha)).trans
    (State.rd_setFld_ne _ _ _ (FED_STATUS_ne f (by decide)))

/-! ### Packets built (R71, R81) -/

theorem FED_STATUS_ne_trav (f b : Nat) : A.FED_STATUS f ≠ travStatOf b ∧ A.FED_STATUS f ≠ travDrainOf b := by
  unfold travStatOf travDrainOf
  simp only [A.FED_STATUS, A.NI_TRAV_STATUS, A.FED_TRAV_STATUS, A.GLB_TRAV_STATUS, A.NI_TRAV_DRAIN, A.FED_TRAV_DRAIN,
    A.GLB_TRAV_DRAIN, A.fedBase, A.niBase]
  constructor <;> split_ifs <;> omega

/-- FED_STATUS of a port, as one word. -/
abbrev State.fedStat (s : State) (f : Nat) : Word := s.rd (A.FED_STATUS f)

variable (f : Nat)

theorem State.fedStat_outAdd (b t n : Nat) : (s.outAdd b t n).fedStat f = s.fedStat f :=
  State.rd_setFld_ne _ _ _ (FED_STATUS_ne_trav f b).1

theorem State.fedStat_outDone (b t : Nat) : (s.outDone b t).fedStat f = s.fedStat f := by
  unfold State.outDone
  extract_lets u d
  have hu : u.fedStat f = s.fedStat f := State.rd_setFld_ne _ _ _ (FED_STATUS_ne_trav f b).1
  split
  · exact (State.rd_setFld_ne _ _ _ (FED_STATUS_ne_trav f b).2).trans hu
  · exact hu

theorem State.fedStat_agentFill (b t d : Nat) : (s.agentFill b t d).fedStat f = s.fedStat f := by
  unfold State.agentFill
  extract_lets x n key h u
  have hu : u.fedStat f = s.fedStat f := by
    unfold u
    split
    · exact s.fedStat_outAdd f ..
    · rfl
  exact hu

theorem State.fedStat_fedMark (b t d : Nat) (cmd : BitVec 6) : (s.fedMark b t d cmd).fedStat f = s.fedStat f := by
  unfold State.fedMark
  split <;> rfl

theorem State.fedStat_agentPump (b n : Nat) : (s.agentPump b n).fedStat f = s.fedStat f := by
  induction n generalizing s with
  | zero => rfl
  | succ n ih =>
    unfold State.agentPump
    extract_lets x
    split
    · next o rest _ _ =>
      extract_lets u t h h' h'' v
      have hu : u.fedStat f = s.fedStat f := rfl
      split
      · exact (ih u).trans hu
      · extract_lets w
        have hv : v.fedStat f = u.fedStat f := by
          unfold v
          split
          · rfl
          · split
            · exact u.fedStat_outAdd f ..
            · rfl
        have hw : w.fedStat f = u.fedStat f := by
          unfold w
          split
          · exact (v.fedStat_fedMark f ..).trans hv
          · exact hv
        split
        · exact (ih _).trans (hw.trans hu)
        · exact (State.fedStat_agentFill _ f ..).trans (hw.trans hu)
    · rfl

theorem State.fedStat_agentBuild (b : Nat) (o : AgentPkt) : (s.agentBuild b o).fedStat f = s.fedStat f :=
  State.fedStat_agentPump _ f b _

theorem State.fedStat_fedAnswerLocal (q : Hdr) (code : BitVec 4) : (s.fedAnswerLocal f q code).fedStat f = s.fedStat f := by
  unfold State.fedAnswerLocal
  split
  · exact s.fedStat_agentBuild f _ _
  · rfl

theorem State.fedStat_sat_SINK (g : Fld) (n : Nat) : (s.sat (A.FED_SINK f) g n).fedStat f = s.fedStat f :=
  State.rd_setFld_ne _ _ _ (FED_STATUS_ne f (by decide))

theorem State.fedStat_fedAbsorb (h : Hdr) : (s.fedAbsorb f h).fedStat f = s.fedStat f := by
  unfold State.fedAbsorb
  split_ifs
  · exact (State.fedStat_fedAnswerLocal _ f ..).trans (s.fedStat_sat_SINK f ..)
  · exact s.fedStat_sat_SINK f ..
  · exact s.fedStat_sat_SINK f ..

theorem State.rd_note_ne {a : Nat} (typ w2 w3 : Nat) (h : a ≠ A.GLB_JNL_STATUS) : (s.note typ w2 w3).rd a = s.rd a := by
  unfold State.note State.journal
  split
  · exact State.rd_setFld_ne _ _ _ h
  · exact State.rd_setFld_ne _ _ _ h

/-! ### A partner lost (R411) -/

/-- What the loss of a partner ends: forwarded requests, link barriers, packets for the link. -/
def State.linkEnded (s : State) (f : Nat) (x : FedSt) : State :=
  let s := x.fwd.foldl (fun s e => match e.2 with
    | some w => s.outDone (fedKey f) w.trav
    | none => s) s
  let s := (s.modFed f (fun x => { x with fwd := [], outBars := [], txQ := [], txSent := [], txWait := [], link := none })).setFld
    (A.FED_STATUS f) F.FED_STATUS_FWD_OUT 0
  let s := (x.unsent.filter (fun q => q.h.cmd ≠ Cmd.BAR)).foldl (fun s q => s.fedAbsorb f q.h) s
  x.outBars.foldl (fun s b => (s.sat (A.FED_SINK f) F.FED_SINK_BAR_DEAD).fedAnswerLocal f b.hdr Code.DEAD) s

theorem State.fld_linkEnded (x : FedSt) {g : Fld} (hg : g.lo + g.w ≤ 20) :
    (s.linkEnded f x).fld (A.FED_STATUS f) g = s.fld (A.FED_STATUS f) g := by
  unfold State.linkEnded
  extract_lets t u v
  have ht : t.fedStat f = s.fedStat f := foldl_fixes (State.fedStat · f) (fun s e => by
    split
    · exact s.fedStat_outDone f ..
    · rfl) _ s
  have hu : u.fld (A.FED_STATUS f) g = s.fld (A.FED_STATUS f) g :=
    (State.fld_setFld_apart _ _ _ _ _ (by decide) (.inr hg)).trans (congrArg g.get ht)
  have hv : v.fedStat f = u.fedStat f := foldl_fixes (State.fedStat · f) (fun (s : State) (q : Pkt) => s.fedStat_fedAbsorb f q.h) _ u
  refine (congrArg g.get ?_).trans hu
  refine (foldl_fixes (State.fedStat · f) (fun (s : State) (b : FedBar) => ?_) _ v).trans hv
  exact (State.fedStat_fedAnswerLocal _ f ..).trans (s.fedStat_sat_SINK f ..)

theorem State.fedLost_eq {s : State} {f : Nat} (cause : Nat) (hl : s.fedState f ≠ FedState.LOST) (hd : s.fedState f ≠ FedState.DOWN) :
    s.fedLost f cause = State.linkEnded
      (((s.setFld (A.FED_STATUS f) F.FED_STATUS_STATE FedState.LOST).fedCause f cause).note 4 (fedKey f + 256 * 2) 0) f (s.fed f) :=
  if_neg (not_or.2 ⟨hl, hd⟩)

/-- The loss leaves of FED_STATUS what lies below the count of forwarded requests. -/
theorem State.fld_fedLost {s : State} {f : Nat} (hf : f < 12) (cause : Nat) (hl : s.fedState f ≠ FedState.LOST)
    (hd : s.fedState f ≠ FedState.DOWN) {g : Fld} (hg : g.lo + g.w ≤ 20) : (s.fedLost f cause).fld (A.FED_STATUS f) g =
      (s.setFld (A.FED_STATUS f) F.FED_STATUS_STATE FedState.LOST).fld (A.FED_STATUS f) g := by
  have hnote : A.FED_STATUS f ≠ A.GLB_JNL_STATUS := by
    simp only [A.FED_STATUS, A.fedBase, A.GLB_JNL_STATUS]
    omega
  rw [State.fedLost_eq cause hl hd, State.fld_linkEnded _ f _ hg, State.fld, State.rd_note_ne _ _ _ _ hnote,
    State.rd_FED_STATUS_fedCause _ hf, State.fld]

theorem State.fedLost_of_lost {s : State} {f : Nat} (cause : Nat) (h : s.fedState f = FedState.LOST ∨ s.fedState f = FedState.DOWN) :
    s.fedLost f cause = s := if_pos h

/-- FED_LINK_UP is down. -/
def State.linkFallen (s : State) (f : Nat) : State := s.setFld (A.FED_STATUS f) F.FED_STATUS_LINK_UP 0

theorem State.fedState_linkFallen : (s.linkFallen f).fedState f = s.fedState f :=
  State.fld_setFld_apart _ _ _ _ _ (by decide) (by decide)

theorem State.linkUp_linkFallen : (s.linkFallen f).fld (A.FED_STATUS f) F.FED_STATUS_LINK_UP = 0 :=
  State.fld_setFld_same _ _ _ _ (by decide)

theorem State.linkDown_spec {f : Nat} (hf : f < 12) :
    ((s.linkFallen f).fedLost f 0).fld (A.FED_STATUS f) F.FED_STATUS_LINK_UP = 0 ∧
    (s.fedState f = FedState.DOWN → ((s.linkFallen f).fedLost f 0).fedState f = FedState.DOWN) ∧
    (s.fedState f ≠ FedState.DOWN → ((s.linkFallen f).fedLost f 0).fedState f = FedState.LOST) := by
  have hst := s.fedState_linkFallen f
  have hup := s.linkUp_linkFallen f
  by_cases h : (s.linkFallen f).fedState f = FedState.LOST ∨ (s.linkFallen f).fedState f = FedState.DOWN
  · rw [State.fedLost_of_lost 0 h, hst]
    rw [hst] at h
    exact ⟨hup, id, h.resolve_right⟩
  · obtain ⟨hl, hd⟩ := not_or.1 h
    refine ⟨?_, fun hdown => absurd (hst.trans hdown) hd, fun _ => ?_⟩
    · rw [State.fld_fedLost hf 0 hl hd (by decide), State.fld_setFld_apart _ _ _ _ _ (by decide) (by decide), hup]
    · rw [State.fedState, State.fld_fedLost hf 0 hl hd (by decide), State.fld_setFld_same _ _ _ _ (by decide)]
      rfl

end

/-! ### SYNC messages (R399, R400) -/

section
variable (s : State) {f : Nat} {g : Fld}

/-- What a SYNC message's estimate does not concern: a field of FED_STATUS above LOCKED and HOLDOVER, and the partner's
latest SYNC. -/
def State.syncView (s : State) (f : Nat) (g : Fld) : Nat × Option (Nat × Nat) :=
  (s.fld (A.FED_STATUS f) g, (s.fed f).syncRx)

theorem State.syncView_wr {a : Nat} (v : Word) (h : A.FED_STATUS f ≠ a) : (s.wr a v).syncView f g = s.syncView f g :=
  Prod.ext (congrArg g.get (State.rd_wr_ne _ _ h)) (congrArg FedSt.syncRx (State.fed_of_feds (State.wr_feds ..) f))

theorem State.syncView_setFld {a : Nat} (k : Fld) (v : Nat) (h : A.FED_STATUS f ≠ a) :
    (s.setFld a k v).syncView f g = s.syncView f g := s.syncView_wr _ h

theorem State.syncView_setFld_STATUS (k : Fld) (v : Nat) (hk : k.lo + k.w ≤ 64) (h : k.lo + k.w ≤ g.lo) :
    (s.setFld (A.FED_STATUS f) k v).syncView f g = s.syncView f g :=
  Prod.ext (State.fld_setFld_apart _ _ _ _ _ hk (.inl h)) (congrArg FedSt.syncRx (State.fed_of_feds (State.setFld_feds ..) f))

theorem State.syncView_modFed {u : FedSt → FedSt} (h : (u (s.fed f)).syncRx = (s.fed f).syncRx) :
    (s.modFed f u).syncView f g = s.syncView f g :=
  Prod.ext rfl ((congrArg FedSt.syncRx (s.fed_modFed_same f u)).trans h)

theorem State.syncView_fedCause (hf : f < 12) (b : Nat) : (s.fedCause f b).syncView f g = s.syncView f g :=
  Prod.ext (congrArg g.get (s.rd_FED_STATUS_fedCause hf b)) (congrArg FedSt.syncRx (s.fed_fedCause f b f))

theorem State.syncView_timeFault (hf : f < 12) (hg : 5 ≤ g.lo) : (s.timeFault f).syncView f g = s.syncView f g := by
  unfold State.timeFault
  rw [State.syncView_fedCause _ hf,
    State.syncView_setFld_STATUS _ F.FED_STATUS_LOCKED _ (by decide) (Nat.le_trans (by decide) hg),
    State.syncView_setFld_STATUS _ F.FED_STATUS_HOLDOVER _ (by decide) hg]

theorem State.syncView_estimate (hf : f < 12) (hg : 5 ≤ g.lo) (th de : Int) :
    (s.estimate f th de).syncView f g = s.syncView f g := by
  have hdelay : A.FED_STATUS f ≠ A.FED_TT_DELAY f := FED_STATUS_ne f (by decide)
  have hoffset : A.FED_STATUS f ≠ A.FED_TT_OFFSET f := FED_STATUS_ne f (by decide)
  unfold State.estimate
  extract_lets x ths des mean near run t a top low u v w
  have ht : t.syncView f g = s.syncView f g := s.syncView_modFed rfl
  have hu : u.syncView f g = t.syncView f g :=
    ((State.syncView_setFld _ _ _ hdelay).trans (State.syncView_setFld _ _ _ hdelay)).trans (State.syncView_setFld _ _ _ hdelay)
  have hv : v.syncView f g = u.syncView f g := by
    unfold v
    split
    · rfl
    · exact u.syncView_timeFault hf hg
  have hw : w.syncView f g = v.syncView f g := by
    unfold w
    split
    · exact (State.syncView_setFld_STATUS _ F.FED_STATUS_HOLDOVER _ (by decide) hg).trans
        (State.syncView_setFld_STATUS _ F.FED_STATUS_LOCKED _ (by decide) (Nat.le_trans (by decide) hg))
    · rfl
  refine Eq.trans ?_ (hw.trans (hv.trans (hu.trans ht)))
  split
  · rfl
  · exact w.syncView_wr _ hoffset

theorem State.syncView_fedAdvance (hg : 5 ≤ g.lo) : (s.fedAdvance f).syncView f g = s.syncView f g := by
  have hlow : F.FED_STATUS_STATE.lo + F.FED_STATUS_STATE.w ≤ g.lo := Nat.le_trans (by decide) hg
  unfold State.fedAdvance
  extract_lets a t
  have ht : t.syncView f g = s.syncView f g := by
    unfold t
    split
    · exact (State.syncView_modFed _ rfl).trans (State.syncView_setFld_STATUS _ _ _ (by decide) hlow)
    · rfl
  refine Eq.trans ?_ ht
  split
  · exact t.syncView_setFld_STATUS _ _ (by decide) hlow
  · rfl

/-- What FED_STATUS shows of the partner's SYNC. -/
def State.syncShown (s : State) (f : Nat) (m : SyncMsg) : State :=
  ((s.setFld (A.FED_STATUS f) F.FED_STATUS_PARTNER (syncBits m 24 10)).setFld (A.FED_STATUS f) F.FED_STATUS_PARTNER_PORT
    (syncBits m 34 4)).setFld (A.FED_STATUS f) F.FED_STATUS_LINK_UP 1

/-- The partner's SYNC as the agent keeps it, before an estimate is formed from it. -/
def State.syncTaken (s : State) (f : Nat) (m : SyncMsg) : State :=
  let t4 := s.fedNow f
  let valid := syncBits m 6 1 = 1
  (s.syncShown f m).modFed f (fun x => { x with
    syncRx := some (syncBits m 8 8, t4), partnerLocked := syncBits m 4 1 = 1, syncAt := t4, partnerValid := valid
    partnerOfs := if valid then BitVec.ofNat 64 (syncBits m 192 64) else x.partnerOfs })

/-- R400: the estimate that a SYNC message gives, when it names an own SYNC that is known. -/
def State.syncJudged (s : State) (f : Nat) (m : SyncMsg) (t4 : Nat) : State :=
  match (s.fed f).syncTx.find? (fun e => e.1 = syncBits m 16 8) with
  | none => s
  | some (n, t1) =>
    let w (v : Nat) : BitVec 64 := BitVec.ofNat 64 v
    let there := (w (syncBits m 128 64) - w t1).toInt
    let back := (w (syncBits m 64 64) - w t4).toInt
    (s.modFed f (fun x => { x with syncTx := x.syncTx.filter (fun e => e.1 ≠ n) })).estimate f (there + back) (there - back)

theorem State.syncView_syncJudged (hf : f < 12) (hg : 5 ≤ g.lo) (m : SyncMsg) (t4 : Nat) :
    (s.syncJudged f m t4).syncView f g = s.syncView f g := by
  unfold State.syncJudged
  split
  · rfl
  · exact (State.syncView_estimate _ hf hg _ _).trans (s.syncView_modFed rfl)

theorem execTtSyncReceive_eq {f : Fin 12} {m : SyncMsg} (hc : syncBits m 256 32 = (syncCheck m).toNat)
    (hv : syncBits m 0 4 = 1) :
    exec (.ttSyncReceive f m) s = .next (((s.syncTaken f.val m).syncJudged f.val m (s.fedNow f.val)).fedAdvance f.val) :=
  if_neg (by simp [hc, hv])

theorem State.fld_syncShown (m : SyncMsg) :
    (s.syncShown f m).fld (A.FED_STATUS f) F.FED_STATUS_PARTNER = syncBits m 24 10 ∧
    (s.syncShown f m).fld (A.FED_STATUS f) F.FED_STATUS_PARTNER_PORT = syncBits m 34 4 ∧
    (s.syncShown f m).fld (A.FED_STATUS f) F.FED_STATUS_LINK_UP = 1 := by
  have hbits (lo n : Nat) : syncBits m lo n % 2 ^ n = syncBits m lo n := Nat.mod_mod ..
  unfold State.syncShown
  refine ⟨?_, ?_, State.fld_setFld_same _ _ _ _ (by decide)⟩
  · rw [State.fld_setFld_apart _ _ _ _ _ (by decide) (by decide), State.fld_setFld_apart _ _ _ _ _ (by decide) (by decide),
      State.fld_setFld_same _ _ _ _ (by decide), hbits]
  · rw [State.fld_setFld_apart _ _ _ _ _ (by decide) (by decide), State.fld_setFld_same _ _ _ _ (by decide), hbits]

theorem State.syncRx_syncTaken (m : SyncMsg) : ((s.syncTaken f m).fed f).syncRx = some (syncBits m 8 8, s.fedNow f) := by
  rw [State.syncTaken, State.fed_modFed_same]

theorem State.syncReceived_spec (hf : f < 12) (m : SyncMsg) :
    let t := ((s.syncTaken f m).syncJudged f m (s.fedNow f)).fedAdvance f
    t.fld (A.FED_STATUS f) F.FED_STATUS_PARTNER = syncBits m 24 10 ∧
    t.fld (A.FED_STATUS f) F.FED_STATUS_PARTNER_PORT = syncBits m 34 4 ∧
    t.fld (A.FED_STATUS f) F.FED_STATUS_LINK_UP = 1 ∧
    (t.fed f).syncRx = some (syncBits m 8 8, s.fedNow f) := by
  obtain ⟨hpartner, hport, hup⟩ := s.fld_syncShown (f := f) m
  have hrx := s.syncRx_syncTaken (f := f) m
  have hread (g : Fld) : (s.syncTaken f m).fld (A.FED_STATUS f) g = (s.syncShown f m).fld (A.FED_STATUS f) g :=
    congrArg g.get (State.rd_modFed ..)
  have hkept (g : Fld) (hg : 5 ≤ g.lo) := Prod.mk.inj (((State.syncView_fedAdvance _ hg).trans
    (State.syncView_syncJudged (s.syncTaken f m) hf hg m (s.fedNow f))))
  exact ⟨(hkept F.FED_STATUS_PARTNER (by decide)).1.trans ((hread _).trans hpartner),
    (hkept F.FED_STATUS_PARTNER_PORT (by decide)).1.trans ((hread _).trans hport),
    (hkept F.FED_STATUS_LINK_UP (by decide)).1.trans ((hread _).trans hup),
    (hkept F.FED_STATUS_LINK_UP (by decide)).2.trans hrx⟩

end

/-! ### RESTART (R411) -/

section
variable {s t : State} {f : Nat} {r : Req}

theorem reservedEnc_FED_CTL (hf : f < 12) (hp : reqFld r F.FED_CTL_MAX_PRIV ≠ 3) (hh : reqFld r F.FED_CTL_HOLD ≠ 0) :
    reservedEnc (A.FED_CTL f) r.data = false := by
  have hplt : F.FED_CTL_MAX_PRIV.get r.data < 4 := Fld.get_lt F.FED_CTL_MAX_PRIV r.data
  have hhlt : F.FED_CTL_HOLD.get r.data < 256 := Fld.get_lt F.FED_CTL_HOLD r.data
  have hblk : blkOf (A.FED_CTL f) = some (.fed f, 0x200) := by
    unfold blkOf
    simp only [A.FED_CTL, A.fedBase]
    rw [if_neg (by omega), if_neg (by omega), if_neg (by omega), if_neg (by omega), if_pos (by omega),
      show (0xD00000 + f * 0x10000 + 0x200 - 0xD00000) / 0x10000 = f by omega,
      show (0xD00000 + f * 0x10000 + 0x200 - 0xD00000) % 0x10000 = 0x200 by omega]
  unfold reqFld at hp hh
  unfold reservedEnc
  rw [hblk]
  dsimp only
  rw [if_pos rfl]
  simp only [outside, Bool.or_eq_false_iff, decide_eq_false_iff_not]
  omega

/-- A write of the register leaves FED_STATUS and the agent as they are. -/
theorem State.plainWrite_FED_CTL : (s.plainWrite (A.FED_CTL f) r).1.rd (A.FED_STATUS f) = s.rd (A.FED_STATUS f) := by
  have hkeep (a : Nat) : (if actsNext a then s.keepNow a else s).rd (A.FED_STATUS f) = s.rd (A.FED_STATUS f) := by
    unfold State.keepNow
    split_ifs <;> rfl
  unfold State.plainWrite
  cases rowAt (A.FED_CTL f) with
  | none => rfl
  | some row =>
    dsimp only
    split
    · rfl
    · exact (State.rd_wrServed_ne _ _ _ (fedBase_add_ne f (by decide))).trans (hkeep _)

/-- A port in SYNC stays there until its partner has locked. -/
theorem State.fedAdvance_of_sync (h : s.fedState f = FedState.SYNC) (hp : (s.fed f).partnerLocked = false) :
    s.fedAdvance f = s := by
  unfold State.fedAdvance
  extract_lets a t
  have ht : t = s := if_neg (by simp [h])
  rw [ht]
  exact if_neg (by simp [hp])

/-- RESTART of a lost port, as FED_CTL's own rule does it. -/
def State.portRestarted (s t : State) (f : Nat) : State :=
  ((t.setFld (A.FED_CTL f) F.FED_CTL_RESTART 0).setFld (A.FED_STATUS f) F.FED_STATUS_STATE FedState.SYNC).modFed f (fun x =>
    { x with estAt := s.fedNow f, syncAt := s.fedNow f, partnerLocked := false })

theorem State.writeFedCtl_restart (hp : reqFld r F.FED_CTL_MAX_PRIV ≠ 3) (hh : reqFld r F.FED_CTL_HOLD ≠ 0)
    (hr : reqFld r F.FED_CTL_RESTART = 1) (hok : (s.plainWrite (A.FED_CTL f) r).2 = Code.OK)
    (hl : s.fedState f = FedState.LOST) (hup : s.bit (A.FED_STATUS f) F.FED_STATUS_LINK_UP = true) :
    s.writeFedCtl f r = ((s.portRestarted (s.plainWrite (A.FED_CTL f) r).1 f).fedAdvance f, Code.OK) := by
  have hrd : ((s.plainWrite (A.FED_CTL f) r).1.setFld (A.FED_CTL f) F.FED_CTL_RESTART 0).rd (A.FED_STATUS f) =
      s.rd (A.FED_STATUS f) := (State.rd_setFld_ne _ _ _ (fedBase_add_ne f (by decide))).trans State.plainWrite_FED_CTL
  have hst : ((s.plainWrite (A.FED_CTL f) r).1.setFld (A.FED_CTL f) F.FED_CTL_RESTART 0).fedState f = FedState.LOST :=
    (congrArg F.FED_STATUS_STATE.get hrd).trans hl
  unfold State.writeFedCtl
  rw [if_neg (not_or.2 ⟨hp, hh⟩), State.plainWrite_accepted hok]
  dsimp only
  rw [if_neg (not_not.2 rfl), if_pos]
  · rfl
  · rw [hr, hst, State.bit_congr _ hrd, hup]
    rfl

theorem State.fedState_portRestarted : (s.portRestarted t f).fedState f = FedState.SYNC :=
  (congrArg F.FED_STATUS_STATE.get (State.rd_modFed ..)).trans (State.fld_setFld_same _ _ _ _ (by decide))

theorem State.portRestarted_sync : ((s.portRestarted t f).fedAdvance f).fedState f = FedState.SYNC := by
  rw [State.fedAdvance_of_sync State.fedState_portRestarted (by rw [State.portRestarted, State.fed_modFed_same]),
    State.fedState_portRestarted]

end

end Sys2Proof.Machine
end

section
/-!
PROOFS. The traffic of a federation port (R403 to R410, R452).
-/
namespace Sys2Proof.Machine

/-! ### SYNC messages sent and awaited (R399, R400) -/

section
variable {s : State} {f : Fin 12}

/-- R399: the agent's SYNC of this cycle. -/
def State.ttSyncSent (s : State) (f : Nat) : State :=
  s.modFed f (fun x => { x with syncNo := x.syncNo + 1, ttTx := s.syncMsg f
                                syncTx := ((x.syncNo % 256, s.fedNow f) :: x.syncTx).take 256 })

theorem execTtSyncSend_eq (hn : s.fedNow f.val % 4096 = 0)
    (hs : (s.fed f.val).syncTx.head?.map Prod.snd ≠ some (s.fedNow f.val)) :
    exec (.ttSyncSend f) s = .next (s.ttSyncSent f.val) :=
  if_neg (not_or.2 ⟨not_not.2 hn, hs⟩)

theorem State.fed_ttSyncSent (s : State) (f : Nat) : ((s.ttSyncSent f).fed f).ttTx = s.syncMsg f ∧
    ((s.ttSyncSent f).fed f).syncNo = (s.fed f).syncNo + 1 ∧
    ((s.ttSyncSent f).fed f).syncTx.head? = some ((s.fed f).syncNo % 256, s.fedNow f) := by
  rw [State.ttSyncSent, State.fed_modFed_same]
  exact ⟨rfl, rfl, rfl⟩

theorem execTtSyncTimeout_eq (hd : s.fedState f.val ≠ FedState.DOWN) (he : s.fedNow f.val < (s.fed f.val).estAt + 65536) :
    exec (.ttSyncTimeout f) s =
      .next (if (s.fed f.val).syncAt + 65536 ≤ s.fedNow f.val then s.fedLost f.val 3 else s) := by
  show execTtSyncTimeout f s = _
  unfold execTtSyncTimeout
  dsimp only
  rw [if_neg hd, decide_eq_false (Nat.not_le.2 he), Bool.false_and, if_neg Bool.false_ne_true]

/-- R401: the federation time of a block that is not the root. -/
theorem execRootOfsUpdate_eq (h : s.bit A.GLB_FED_ID F.GLB_FED_ID_ROOT = false) : exec .rootOfsUpdate s =
    match (List.range 12).find? (fun f => s.bit (A.FED_CTL f) F.FED_CTL_UPSTREAM) with
    | none => .next s
    | some f =>
      if (s.fed f).partnerValid then .next (s.wr A.GLB_FED_TIME ((s.fed f).partnerOfs + s.rd (A.FED_TT_OFFSET f)))
      else .next s :=
  if_neg (Bool.eq_false_iff.1 h)

end

/-! ### RESTART (R411) -/

section
variable {s : State} {f : Fin 12} {r : Req}

theorem execFedRestart_denied (hm : s.mode ≠ Mode.OFF) (hg : s.writeGate (A.FED_CTL f.val) r = .go)
    (h : reqFld r F.FED_CTL_MAX_PRIV = 3 ∨ reqFld r F.FED_CTL_HOLD = 0) :
    exec (.fedRestart f r) s = .next (s.ans (A.FED_CTL f.val) r Code.DENY) := by
  refine congrArg Host.Outcome.next ?_
  cases he : reservedEnc (A.FED_CTL f.val) r.data with
  | true => exact State.serve_reserved hm hg he
  | false => exact State.serve_eq ⟨hm, hg, he⟩ (if_pos h)

theorem execFedRestart_restarts (hm : s.mode ≠ Mode.OFF) (hg : s.writeGate (A.FED_CTL f.val) r = .go)
    (hp : reqFld r F.FED_CTL_MAX_PRIV ≠ 3) (hh : reqFld r F.FED_CTL_HOLD ≠ 0) (hr : reqFld r F.FED_CTL_RESTART = 1)
    (hok : (s.plainWrite (A.FED_CTL f.val) r).2 = Code.OK) (hl : s.fedState f.val = FedState.LOST)
    (hup : s.bit (A.FED_STATUS f.val) F.FED_STATUS_LINK_UP = true) : exec (.fedRestart f r) s =
      .next (((s.portRestarted (s.plainWrite (A.FED_CTL f.val) r).1 f.val).fedAdvance f.val).ans (A.FED_CTL f.val) r Code.OK) :=
  congrArg Host.Outcome.next (State.serve_eq ⟨hm, hg, reservedEnc_FED_CTL f.isLt hp hh⟩
    (State.writeFedCtl_restart hp hh hr hok hl hup))

end

/-! ### Forwarding and ingress (R405, R410) -/

section
variable {s : State} {f : Fin 12}

theorem execFwdEntryExpire_eq {e : Fin 512} {w : Fwd} (h : tget none (s.fed f.val).fwd e.val = some w) :
    exec (.fwdEntryExpire f e) s =
      if w.at' + 131072 ≤ s.datum then .next ((s.fwdEnd f.val e.val).fedPump f.val) else .next s := by
  show execFwdEntryExpire f e s = _
  unfold execFwdEntryExpire
  dsimp only
  rw [h]

/-- R410: what becomes of the head of an ingress queue that has waited `lim`. -/
def State.ingressHeld (s : State) (f lim k : Nat) : State :=
  match tget [] (s.fed f).ing k with
  | q :: _ =>
    match q.head with
    | some t =>
      if t + lim ≤ s.datum then
        let s := if q.begun then s.takeBack (fedKey f) k else s
        (((s.ingNext f k).sat (A.FED_STATUS f) F.FED_STATUS_ABSORBED).fedAnswerLink f q.pkt.h Code.TIMEOUT).fedPump f
      else s
    | none => s
  | [] => s

theorem execFedIngressHoldExpire_eq (s : State) (f : Fin 12) : exec (.fedIngressHoldExpire f) s =
    .next ([0, 1, 2].foldl (fun s' k => s'.ingressHeld f.val (1024 * s.fld (A.FED_CTL f.val) F.FED_CTL_HOLD) k) s) := rfl

theorem State.ingressHeld_empty {lim k f : Nat} (h : tget [] (s.fed f).ing k = []) : s.ingressHeld f lim k = s := by
  unfold State.ingressHeld
  rw [h]

/-- The expiry of the first queue's head is the whole effect when it leaves the other queues empty. -/
theorem execFedIngressHoldExpire_first {v : State}
    (hv : s.ingressHeld f.val (1024 * s.fld (A.FED_CTL f.val) F.FED_CTL_HOLD) 0 = v)
    (h1 : tget [] (v.fed f.val).ing 1 = []) (h2 : tget [] (v.fed f.val).ing 2 = []) :
    exec (.fedIngressHoldExpire f) s = .next v := by
  rw [execFedIngressHoldExpire_eq]
  simp only [List.foldl_cons, List.foldl_nil]
  rw [hv, State.ingressHeld_empty h1, State.ingressHeld_empty h2]

theorem State.ingressHeld_waits {lim k f : Nat}
    (h : ∀ q rest t, tget [] (s.fed f).ing k = q :: rest → q.head = some t → s.datum < t + lim) :
    s.ingressHeld f lim k = s := by
  unfold State.ingressHeld
  split
  · next q rest hq =>
    split
    · next t ht => exact if_neg (Nat.not_le.2 (h q rest t hq ht))
    · rfl
  · rfl

theorem State.ingressHeld_expires {lim k f t : Nat} {q : Ingress} {rest : List Ingress}
    (hq : tget [] (s.fed f).ing k = q :: rest) (ht : q.head = some t) (h : t + lim ≤ s.datum) : s.ingressHeld f lim k =
      (((((if q.begun then s.takeBack (fedKey f) k else s).ingNext f k).sat (A.FED_STATUS f)
        F.FED_STATUS_ABSORBED).fedAnswerLink f q.pkt.h Code.TIMEOUT).fedPump f) := by
  unfold State.ingressHeld
  rw [hq]
  dsimp only
  rw [ht]
  exact if_pos h

/-! ### Packets and flits that arrive (R402, R403, R406, R407) -/

theorem execLinkBarrierReceive_eq {w : FedPkt} (h : s.fedState f.val = FedState.UP) (hc : w.h.cmd = Cmd.BAR) :
    exec (.linkBarrierReceive f w) s =
      (let u := s.gcnt 58 (1 + w.h.len.toNat)
       if w.fails then .next (((u.sat (A.FED_XFER f.val) F.FED_XFER_CRC).fedCause f.val 2).fedAnswerLink f.val w.h Code.CRC)
       else .next ((u.ingPut f.val 0 w).fedPump f.val)) :=
  if_neg (not_or.2 ⟨not_not.2 h, not_not.2 hc⟩)

/-- A packet from the link that has passed the policer (R403 steps 3 to 5). -/
def State.fedTaken (s : State) (f : Nat) (w : FedPkt) : State :=
  let own := w.h.dest = s.gid (fedKey f) ∧ w.h.cmd = Cmd.BRR
  if w.fails then
    let s := (s.sat (A.FED_XFER f) F.FED_XFER_CRC).fedCause f 2
    if own then s.outBarEnd f w.h Code.CRC else s.fedAnswerLink f w.h Code.CRC
  else if own then s.outBarEnd f w.h w.h.status
  else
    let h := { w.h with
      priv := BitVec.ofNat 2 (min (min w.h.priv.toNat 2) (s.fld (A.FED_CTL f) F.FED_CTL_MAX_PRIV))
      stamp := w.h.stamp - (s.rd (A.FED_TT_OFFSET f)).setWidth 32 }
    (s.ingPut f (ingKey h.cmd) { w with h := h }).fedPump f

theorem execFedPacketReceive_eq {w : FedPkt} (h : s.fedState f.val = FedState.UP) (hc : w.h.cmd ≠ Cmd.BAR) :
    exec (.fedPacketReceive f w) s =
      match (if vcTypeOf w.h.cmd = .msg then (s.gcnt 58 (1 + w.h.len.toNat)).police f.val (1 + w.h.len.toNat)
        else some (s.gcnt 58 (1 + w.h.len.toNat))) with
      | none => .next ((s.gcnt 58 (1 + w.h.len.toNat)).policeDrop f.val w.h)
      | some t => .next (t.fedTaken f.val w) := by
  show execFedPacketReceive f w s = _
  unfold execFedPacketReceive State.fedTaken
  dsimp only
  rw [if_neg (not_or.2 ⟨not_not.2 h, hc⟩)]
  generalize (if vcTypeOf w.h.cmd = .msg then _ else _ : Option State) = x
  cases x with
  | none => rfl
  | some t => dsimp only; split_ifs <;> rfl

/-- The source entry of an agent that a relayed chain's flit joins. -/
def State.relayEntry (s : State) (f : Nat) (g : FedG) : Option Nat :=
  (List.range 64).find? (fun k => s.srcValid (fedKey f) k &&
    s.fld (srcCfgOf (fedKey f) k) F.NI_CHAIN_SRC_CFG_CHAIN = g.chain.toNat)

/-- A relayed flit with the partner's stamp turned into this block's. -/
def State.relayed (s : State) (f : Nat) (g : FedG) : SrcFlit :=
  { payload := g.payload, flags := g.flags, seq := g.seq, ready := s.fedNow f + 1
    stamp := g.stamp - (s.rd (A.FED_TT_OFFSET f)).setWidth 16 }

theorem execFedChainFlitReceive_eq {g : FedG} (h : s.fedState f.val = FedState.UP) (hg : g.err ≠ .due) :
    exec (.fedChainFlitReceive f g) s =
      match (s.gcnt 58).relayEntry f.val g with
      | none => .next ((s.gcnt 58).sat (A.FED_XFER f.val) F.FED_XFER_UNKNOWN)
      | some k =>
        let u := s.gcnt 58
        let q := u.srcQueue (fedKey f.val) k
        .next (if 16 ≤ q.length then
          (u.srcDrops (fedKey f.val) k 1).setSrcQueue (fedKey f.val) k (q.tail ++ [u.relayed f.val g])
          else u.setSrcQueue (fedKey f.val) k (q ++ [u.relayed f.val g])) := by
  show execFedChainFlitReceive f g s = _
  unfold execFedChainFlitReceive State.relayEntry
  dsimp only
  rw [if_neg (not_not.2 h), if_neg hg]
  generalize List.find? _ _ = x
  cases x with
  | none => rfl
  | some k => dsimp only; split <;> rfl

/-! ### Packets to the link (R404, R411, R452) -/

/-- The packet picked is one of the queue, and it need not wait. -/
theorem goPick_mem {waits : Pkt → Bool} {q : Pkt} {qs : List Pkt} {held : List Nat} (h : goPick waits qs held = some q) :
    q ∈ qs ∧ waits q = false := by
  induction qs generalizing held with
  | nil => cases h
  | cons x qs ih =>
    unfold goPick at h
    dsimp only at h
    split at h
    · exact (ih h).imp_left (List.mem_cons_of_mem x)
    · next hx =>
      cases h
      exact ⟨List.mem_cons_self .., Bool.eq_false_iff.2 fun hw => hx (by rw [hw, Bool.or_true])⟩

theorem execFedOutboundPacket_eq {q : Pkt} (h : goPick (s.fedWaits f.val) (s.fed f.val).rx [] = some q) :
    exec (.fedOutboundPacket f) s =
      (let t := s.modFed f.val (fun x => { x with rx := x.rx.erase q })
       if q.h.dest = s.gid (fedKey f.val) then .next (t.fedOwn f.val q)
       else if q.h.cmd = Cmd.CRD ∨ q.h.cmd = Cmd.CWR then
         if q.fails then .next (((t.sat (A.FED_XFER f.val) F.FED_XFER_CRC).fedCause f.val 2).fedAnswerLocal f.val q.h Code.CRC)
         else .next ((t.sat (A.FED_STATUS f.val) F.FED_STATUS_DENIED).fedAnswerLocal f.val q.h Code.DENY)
       else if s.fedState f.val = FedState.LOST then .next (t.fedAbsorb f.val q.h)
       else .next ((if Cmd.isResponse q.h.cmd then t.fwdMatch f.val q.h else t).fedLink f.val q)) := by
  have hst (g : FedSt → FedSt) : (s.modFed f.val g).fedState f.val = s.fedState f.val :=
    congrArg F.FED_STATUS_STATE.get (s.rd_modFed ..)
  show execFedOutboundPacket f s = _
  unfold execFedOutboundPacket
  dsimp only
  rw [h]
  dsimp only
  rw [hst]

end

/-- Settles O60: the port's state by what `State.fedLost`, a SYNC message and RESTART leave, the traffic by each command's
tests. -/
theorem federationTimeAndTraffic : Obligations.FederationTimeAndTraffic := by
  refine ⟨⟨fun f s => ⟨fun h => if_pos h, fun hn hs => ⟨_, execTtSyncSend_eq hn hs, s.fed_ttSyncSent f.val⟩⟩,
    fun f m s => ⟨fun h => if_pos h, fun hc hv => ⟨_, execTtSyncReceive_eq s hc hv, s.syncReceived_spec f.isLt m⟩⟩,
    fun f s => ⟨fun h => if_pos h, fun hd he => ⟨fun h => ?_, fun h => ?_⟩⟩,
    fun f s => ⟨_, rfl, s.linkDown_spec f.isLt⟩,
    fun f r s hm hg => ⟨execFedRestart_denied hm hg, fun hp hh hr hok hl hup =>
      ⟨_, execFedRestart_restarts hm hg hp hh hr hok hl hup, .inl State.portRestarted_sync, fun _ => State.portRestarted_sync⟩⟩,
    fun s => ⟨fun h => if_pos h, fun h => ⟨fun hn => ?_, fun f hf hv => ?_⟩⟩⟩,
    fun f e s => ⟨fun h => ?_, fun w h => ⟨fun ht => ?_, fun ht => ?_⟩⟩,
    fun f s => ⟨fun h => ?_, fun q rest t hq ht h h1 h2 =>
      execFedIngressHoldExpire_first (State.ingressHeld_expires hq ht h) h1 h2⟩,
    fun f w s h => ⟨if_pos (.inl h), if_pos (.inl h), fun g => if_pos h⟩,
    fun f w s h hc => ⟨fun hw => ?_, fun hw => ?_⟩,
    fun f w s h hc => ⟨fun hv hp => ?_, fun hv => ⟨fun hw ho => ?_, fun hw ho => ?_, fun hw ho => ?_, fun hw ho => ?_⟩⟩,
    fun f s => ⟨fun h => ?_, fun q h => ⟨fun ho => ?_, fun ho => ⟨fun hc => ⟨fun hw => ?_, fun hw => ?_⟩,
      fun hr hw => ⟨fun hl => ?_, fun hl => ?_⟩⟩⟩⟩,
    fun waits qs q => goPick_mem,
    fun f g s h hg => (if_neg (not_not.2 h)).trans (if_pos hg),
    fun f g s h hg => ⟨fun hn => ?_, fun k hk => ⟨fun hl => ?_, fun hl => ?_⟩⟩⟩
  · rw [execTtSyncTimeout_eq hd he, if_neg (Nat.not_le.2 h)]
  · rw [execTtSyncTimeout_eq hd he, if_pos h]
  · rw [execRootOfsUpdate_eq h, hn]
  · rw [execRootOfsUpdate_eq h, hf]
    exact if_pos hv
  · show execFwdEntryExpire f e s = _
    unfold execFwdEntryExpire
    dsimp only
    rw [h]
  · rw [execFwdEntryExpire_eq h, if_neg (Nat.not_le.2 ht)]
  · rw [execFwdEntryExpire_eq h, if_pos ht]
  · rw [execFedIngressHoldExpire_eq]
    simp only [List.foldl_cons, List.foldl_nil]
    rw [State.ingressHeld_waits (h 0 (by decide)), State.ingressHeld_waits (h 1 (by decide)),
      State.ingressHeld_waits (h 2 (by decide))]
  · rw [execLinkBarrierReceive_eq h hc]
    exact if_pos hw
  · rw [execLinkBarrierReceive_eq h hc]
    exact if_neg (Bool.eq_false_iff.1 hw)
  · rw [execFedPacketReceive_eq h hc, if_pos hv, hp]
  · rw [execFedPacketReceive_eq h hc, if_neg hv]
    exact congrArg Host.Outcome.next ((if_pos hw).trans (if_neg ho))
  · rw [execFedPacketReceive_eq h hc, if_neg hv]
    exact congrArg Host.Outcome.next ((if_pos hw).trans (if_pos ho))
  · rw [execFedPacketReceive_eq h hc, if_neg hv]
    exact congrArg Host.Outcome.next ((if_neg (Bool.eq_false_iff.1 hw)).trans (if_pos ho))
  · rw [execFedPacketReceive_eq h hc, if_neg hv]
    exact congrArg Host.Outcome.next ((if_neg (Bool.eq_false_iff.1 hw)).trans (if_neg ho))
  · show execFedOutboundPacket f s = _
    unfold execFedOutboundPacket
    dsimp only
    rw [h]
  · rw [execFedOutboundPacket_eq h]
    exact if_pos ho
  · rw [execFedOutboundPacket_eq h]
    exact (if_neg ho).trans ((if_pos hc).trans (if_pos hw))
  · rw [execFedOutboundPacket_eq h]
    exact (if_neg ho).trans ((if_pos hc).trans (if_neg (Bool.eq_false_iff.1 hw)))
  · rw [execFedOutboundPacket_eq h]
    exact (if_neg ho).trans ((if_neg (not_or.2 ⟨hr, hw⟩)).trans (if_pos hl))
  · rw [execFedOutboundPacket_eq h]
    exact (if_neg ho).trans ((if_neg (not_or.2 ⟨hr, hw⟩)).trans (if_neg hl))
  · rw [execFedChainFlitReceive_eq h hg, State.relayEntry, hn]
  · rw [execFedChainFlitReceive_eq h hg, State.relayEntry, hk]
    exact congrArg Host.Outcome.next (if_neg (Nat.not_le.2 hl))
  · rw [execFedChainFlitReceive_eq h hg, State.relayEntry, hk]
    exact congrArg Host.Outcome.next (if_pos hl)

end Sys2Proof.Machine
end
